-- ==== Sys2Proof/Word.lean ====
section
/-! DEFINITION. Word.lean: the byte and word types, and the shape of keyed data.
Every number the SB2300 keeps as bits is little-endian (R13); the operations on them are in Machine/Bits.lean. -/
namespace Sys2Proof

/-- One byte of a message, a record or a value. -/
abbrev Byte := BitVec 8

/-- A byte string, byte 0 first (R13). -/
abbrev Bytes := List Byte

/-- Keyed data in one canonical form: keys strictly rising. A key that is not listed has no value of its own. -/
abbrev Assoc (α : Type) := List (Nat × α)

end Sys2Proof
end

