-- ==== Sys2Proof/Config.lean ====
section
/-! DEFINITION. Config.lean: the free values. Each is a constant with no body: nothing can be proved of its value. -/
namespace Sys2Proof.Config
open Sys2Proof

/-- A number the spec leaves open, one for each value of the state's counter `freeCtr`: seeds, nonces, session
numbers' key pairs (log entry 8). -/
opaque freeNat : Nat → Nat

/-- TRACE_CATALOG of the running firmware image: its layout and the control cores' part are the image's (R408, R409). -/
opaque traceCatalog : Bytes

/-- SHA3-256, as a 32-byte number (FIPS 202; not given in this manual). -/
opaque sha3 : Bytes → Nat

/-- SHA3-384, as a 48-byte number (FIPS 202). -/
opaque sha384 : Bytes → Nat

/-- SHA3-256 hashes of the four fused root public keys. -/
opaque rootKey : Nat → Nat

/-- The public key of a generated attestation key pair: algorithm, pair. -/
opaque attestPublic : Nat → Nat → Bytes

/-- A signature by the package's identity key (FIPS 204). -/
opaque identitySign : Bytes → Bytes

/-- ID_CERT as made at manufacture (R394). -/
opaque idCert : Bytes

/-- The ML-KEM-768 encapsulation key of a generated key pair, a 1,184-byte number (FIPS 203). -/
opaque encapKey : Nat → Nat

/-- The shared secret that decapsulation with a generated key pair gives for a ciphertext (FIPS 203). -/
opaque decaps : Nat → Bytes → Nat

/-- An ML-DSA signature by the SB2300's own keys: algorithm, message (FIPS 204). -/
opaque attestSign : Nat → Bytes → Bytes

/-- Verification of an ML-DSA signature: algorithm, hash of the public key, message, signature. -/
opaque sigVerify : Nat → Nat → Bytes → Bytes → Bool

/-- The 16 check bits of a 64-bit word: the spec fixes the code's class and distance, not its polynomial (R312). [DESIGN CHOICE, log entry 48] -/
opaque eccCheck : Nat → Nat

/-- Bytes of the anchor die's SRAM that a scrub lap reads; the spec gives no size. [DESIGN CHOICE, log entry 49] -/
opaque anchorSramBytes : Nat

/-- Bytes of NVMe data structures, and of NVMe-MI responses, that this manual does not give: one draw for each read, by offset. -/
opaque openByte : Nat → Nat → Byte

/-- Bits 31 to 17 of completion Dword 3 for a status that is not success, by the place of its name in `NvStatus` and its Command Retry
Delay: the codes are NVMe's. [DESIGN CHOICE, log entry 11] -/
opaque statusField : Nat → Nat → BitVec 15

/-- The reading in a THROTTLE_STATE trace item that names no sensor, one for each value of `freeCtr`. [DESIGN CHOICE, log entry 132] -/
opaque noReading : Nat → BitVec 16

/-- The sanitize estimate when no erase has a token (R397 divides by E = 0): erase time of all blocks, in 10 µs. [DEDUCED, log entry 112] -/
opaque sanitizeNoTokens : Nat → Nat

end Sys2Proof.Config
end

