-- ==== Sys2Proof/Machine/Bits.lean ====
section
/-! DEFINITION. Machine/Bits.lean: bit fields, byte order, saturation and keyed lists. -/
namespace Sys2Proof

/-- Bits `[hi:lo]` of `v` (bit 0 the least significant, R13). -/
def fld (v hi lo : Nat) : Nat := v / 2 ^ lo % 2 ^ (hi + 1 - lo)

/-- Bit `i` of `v`. -/
def bitAt (v i : Nat) : Bool := v / 2 ^ i % 2 == 1

/-- `v` with bit `i` set to `b`. -/
def withBit (v i : Nat) (b : Bool) : Nat :=
  if bitAt v i = b then v else if b then v + 2 ^ i else v - 2 ^ i

/-- `v` with every bit that is 1 in `m` cleared. -/
def clearBits (v m : Nat) : Nat := v - (v &&& m)

/-- The number of 1 bits among the low `n` bits. -/
def popCount : Nat → Nat → Nat
  | 0, _ => 0
  | n + 1, v => v % 2 + popCount n (v / 2)

/-- Insert into a rising list. -/
def insertNat (x : Nat) : List Nat → List Nat
  | [] => [x]
  | y :: r => if x ≤ y then x :: y :: r else y :: insertNat x r

/-- A list in rising order. -/
def sortNat (l : List Nat) : List Nat := l.foldr insertNat []

/-- Little-endian bytes of `v`, `n` of them (R13). -/
def leBytes : Nat → Nat → Bytes
  | 0, _ => []
  | n + 1, v => BitVec.ofNat 8 v :: leBytes n (v / 256)

/-- The number a little-endian byte string spells (R13). -/
def leNat : Bytes → Nat
  | [] => 0
  | b :: r => b.toNat + 256 * leNat r

/-- The number that `n` bytes at offset `off` spell. -/
def leAt (b : Bytes) (off n : Nat) : Nat := leNat ((b.drop off).take n)

/-- ASCII text padded with 0x20 to `n` bytes, as a little-endian number (STR(n)). -/
def strNat (n : Nat) (t : List Nat) : Nat :=
  leNat (((t.map (BitVec.ofNat 8)) ++ List.replicate n (0x20 : Byte)).take n)

/-- Addition that stops at the largest value of `w` bits. [DESIGN CHOICE, log entry 13] -/
def satAdd (w a b : Nat) : Nat := Nat.min (a + b) (2 ^ w - 1)

/-- The two's complement reading of the low `w` bits. -/
def toSigned (w v : Nat) : Int := if bitAt v (w - 1) then (v % 2 ^ w : Int) - (2 ^ w : Int) else (v % 2 ^ w : Int)

/-- The two's complement encoding of `x` in `w` bits. -/
def ofSigned (w : Nat) (x : Int) : Nat := (x % (2 ^ w : Int)).toNat

/-- `⌈a ÷ b⌉`. -/
def ceilDiv (a b : Nat) : Nat := if b = 0 then 0 else (a + b - 1) / b

/-- The integer logarithm `⌊log2 v⌋`, by at most `fuel` halvings. -/
def log2Fuel : Nat → Nat → Nat
  | 0, _ => 0
  | f + 1, v => if v < 2 then 0 else 1 + log2Fuel f (v / 2)

/-- Replace element `i` of a list. -/
def setNth {α : Type} : List α → Nat → α → List α
  | [], _, _ => []
  | _ :: r, 0, x => x :: r
  | a :: r, i + 1, x => a :: setNth r i x

/-- Change element `i` of a list. -/
def modNth {α : Type} : List α → Nat → (α → α) → List α
  | [], _, _ => []
  | a :: r, 0, f => f a :: r
  | a :: r, i + 1, f => a :: modNth r i f

/-- The sum of a list of numbers. -/
def sumNat : List Nat → Nat
  | [] => 0
  | a :: r => a + sumNat r

/-- The largest number of a list, or 0. -/
def maxNat : List Nat → Nat
  | [] => 0
  | a :: r => Nat.max a (maxNat r)

namespace Assoc
variable {α : Type}

/-- The value listed for a key. -/
def get? : Assoc α → Nat → Option α
  | [], _ => none
  | (k', a) :: r, k => if k' = k then some a else get? r k

/-- List `a` for key `k`, keeping the keys strictly rising. -/
def put : Assoc α → Nat → α → Assoc α
  | [], k, a => [(k, a)]
  | (k', a') :: r, k, a =>
    if k < k' then (k, a) :: (k', a') :: r
    else if k = k' then (k, a) :: r
    else (k', a') :: put r k a

/-- List nothing for key `k`. -/
def del : Assoc α → Nat → Assoc α
  | [], _ => []
  | (k', a') :: r, k => if k' = k then r else (k', a') :: del r k

/-- The value of a key, or `d` where none is listed. -/
def getD (m : Assoc α) (k : Nat) (d : α) : α := (get? m k).getD d

/-- Whether a key is listed. -/
def has (m : Assoc α) (k : Nat) : Bool := (get? m k).isSome

/-- Change the value of a key that is listed. -/
def upd (m : Assoc α) (k : Nat) (f : α → α) : Assoc α :=
  match get? m k with
  | some a => put m k (f a)
  | none => m

/-- Change the value of a key, from `d` where none is listed. -/
def updD (m : Assoc α) (k : Nat) (d : α) (f : α → α) : Assoc α := put m k (f (getD m k d))

/-- Change every value. -/
def mapVal (m : Assoc α) (f : Nat → α → α) : Assoc α := m.map (fun p => (p.1, f p.1 p.2))

/-- The entries a test keeps. -/
def keep (m : Assoc α) (p : Nat → α → Bool) : Assoc α := m.filter (fun e => p e.1 e.2)

/-- The first entry a test accepts. -/
def firstWith (m : Assoc α) (p : Nat → α → Bool) : Option (Nat × α) := m.find? (fun e => p e.1 e.2)

/-- The values, in key order. -/
def vals (m : Assoc α) : List α := m.map Prod.snd

/-- The keys, rising. -/
def keys (m : Assoc α) : List Nat := m.map Prod.fst

/-- Keys strictly rising. -/
def sortedFrom : Nat → Assoc α → Bool
  | _, [] => true
  | lo, (k, _) :: r => lo ≤ k && sortedFrom (k + 1) r

/-- The canonical form. -/
def wf (m : Assoc α) : Bool := sortedFrom 0 m

end Assoc
end Sys2Proof
end

