-- ==== Sys2Proof/Machine/Crc.lean ====
section
/-! DEFINITION. Machine/Crc.lean: the bit-serial CRCs of "Check-Value Units" and the CRC-32C of messages, records,
frames and journal records. -/
namespace Sys2Proof

/-- `n` steps of a reflected (right-shifting) CRC register with polynomial `poly`. -/
def crcRightBits (poly : Nat) : Nat → Nat → Nat
  | 0, c => c
  | n + 1, c => crcRightBits poly n (if c % 2 = 1 then c / 2 ^^^ poly else c / 2)

/-- `n` steps of a left-shifting CRC register of `w` bits with polynomial `poly`. -/
def crcLeftBits (w poly : Nat) : Nat → Nat → Nat
  | 0, c => c
  | n + 1, c =>
    crcLeftBits w poly n
      (if c / 2 ^ (w - 1) % 2 = 1 then (c * 2) % 2 ^ w ^^^ poly else (c * 2) % 2 ^ w)

/-- One byte into a reflected CRC. -/
def crcRightByte (poly c b : Nat) : Nat := crcRightBits poly 8 (c ^^^ b)

/-- One byte into a left-shifting CRC of `w` bits. -/
def crcLeftByte (w poly c b : Nat) : Nat := crcLeftBits w poly 8 (c ^^^ b * 2 ^ (w - 8))

/-- The CRC-32C of a byte string (initial and final value all ones, reflected 0x1EDC6F41). -/
def crc32c (bs : Bytes) : Nat :=
  bs.foldl (fun c b => crcRightByte 0x82F63B78 c b.toNat) 0xFFFFFFFF ^^^ 0xFFFFFFFF

end Sys2Proof
end

