-- ==== Sys2Proof/Machine/EventCatalog.lean ====
section
/-! DEFINITION. Machine/EventCatalog.lean: the events of stepping B0 (R400) and the value of 0x9000.06 EVENT_CATALOG. -/
namespace Sys2Proof.Machine
open Sys2Proof

/-- One event: its code, its severity, its argument kinds in order, and its name. -/
structure EventRow where
  event : Nat
  severity : Nat
  kinds : List Nat
  name : List Nat
deriving DecidableEq, Repr

namespace Ev
/-- R18. -/
def dieLinkGiveup : Nat := 0x0001
/-- R30. -/
def speedLow : Nat := 0x0002
/-- R31. -/
def timeBaseSwitch : Nat := 0x0003
/-- R375. -/
def watchdogExpiry : Nat := 0x0004
/-- R72. -/
def pcieNegLower : Nat := 0x0101
/-- R79. -/
def windowOffAccess : Nat := 0x0102
/-- R162. -/
def capSpareWarning : Nat := 0x0401
/-- R162. -/
def capBelowRefresh : Nat := 0x0402
/-- R162. -/
def capReadOnly : Nat := 0x0403
/-- R180. -/
def copyDestFail : Nat := 0x0501
/-- R193. -/
def metadataLost : Nat := 0x0502
/-- R208. -/
def verifyMismatch : Nat := 0x0601
/-- R209. -/
def compressorOut : Nat := 0x0602
/-- R209. -/
def compressorsNone : Nat := 0x0603
/-- R214. -/
def dzError : Nat := 0x0604
/-- R215. -/
def decompressorOut : Nat := 0x0605
/-- R215. -/
def decompressorsNone : Nat := 0x0606
/-- R225. -/
def crcUnitOut : Nat := 0x0701
/-- R225. -/
def crcUnitsNone : Nat := 0x0702
/-- R229. -/
def nandNegLower : Nat := 0x0801
/-- R229. -/
def nandSlotAbsent : Nat := 0x0802
/-- R234. -/
def ncBadDescriptor : Nat := 0x0803
/-- R242. -/
def holdupTestFail : Nat := 0x0804
/-- R242. -/
def atRiskClear : Nat := 0x0805
/-- R247. -/
def misdirected : Nat := 0x0901
/-- R253. -/
def noReadOffsetFeature : Nat := 0x0902
/-- R266. -/
def patrolOverrun : Nat := 0x0903
/-- R285. -/
def boundInfeasible : Nat := 0x0A01
/-- R286. -/
def boundMissed : Nat := 0x0A02
/-- R290. -/
def dramNegLower : Nat := 0x0B01
/-- R290. -/
def dramNegFatal : Nat := 0x0B02
/-- R292. -/
def writeBufferLimited : Nat := 0x0B03
/-- R294. -/
def xorMaskInvalid : Nat := 0x0B04
/-- R303. -/
def poolSizeDefault : Nat := 0x0C01
/-- R308. -/
def bpRefused : Nat := 0x0C02
/-- R311. -/
def watermarkCrossed : Nat := 0x0C03
/-- R313. -/
def hardFault : Nat := 0x0C04
/-- R313. -/
def hardFaultTwo : Nat := 0x0C05
/-- R314. -/
def eccUncorrectable : Nat := 0x0C06
/-- R316. -/
def scrubLapLong : Nat := 0x0C07
/-- R320. -/
def pairRefused : Nat := 0x0D01
/-- R344. -/
def railFault : Nat := 0x0E01
/-- R352. -/
def wake : Nat := 0x0E02
/-- R356. -/
def supplyDip : Nat := 0x0E03
/-- R357. -/
def flushReset : Nat := 0x0E04
/-- R358. -/
def flushIncomplete : Nat := 0x0E05
/-- R351. -/
def flushLevelInSleep : Nat := 0x0E06
/-- R360. -/
def holdupChargeFault : Nat := 0x0E07
/-- R364. -/
def sensorFailed : Nat := 0x0E08
/-- R366. -/
def throttleRequest : Nat := 0x0E09
/-- R367. -/
def throttleCritical : Nat := 0x0E0A
/-- R368. -/
def thermalHold : Nat := 0x0E0B
/-- R385. -/
def bootSlotFailed : Nat := 0x0F01
/-- R386. -/
def bootFallback : Nat := 0x0F02
/-- R399. -/
def serviceUnlock : Nat := 0x0F03
/-- R399. -/
def serviceEnd : Nat := 0x0F04
end Ev

/-- The event table of R400, part 1. -/
def eventsa : List EventRow := [
  ⟨0x0001, 1, [1, 1], [68, 73, 69, 95, 76, 73, 78, 75, 95, 71, 73, 86, 69, 85, 80]⟩,
  ⟨0x0002, 1, [1, 1], [83, 80, 69, 69, 68, 95, 76, 79, 87]⟩,
  ⟨0x0003, 2, [1, 1], [84, 73, 77, 69, 95, 66, 65, 83, 69, 95, 83, 87, 73, 84, 67, 72]⟩,
  ⟨0x0004, 0, [1, 1], [87, 65, 84, 67, 72, 68, 79, 71, 95, 69, 88, 80, 73, 82, 89]⟩,
  ⟨0x0101, 2, [1, 1], [80, 67, 73, 69, 95, 78, 69, 71, 95, 76, 79, 87, 69, 82]⟩,
  ⟨0x0102, 3, [2, 1], [87, 73, 78, 68, 79, 87, 95, 79, 70, 70, 95, 65, 67, 67, 69, 83, 83]⟩,
  ⟨0x0401, 2, [1, 2], [67, 65, 80, 95, 83, 80, 65, 82, 69, 95, 87, 65, 82, 78, 73, 78, 71]⟩,
  ⟨0x0402, 2, [1, 2], [67, 65, 80, 95, 66, 69, 76, 79, 87, 95, 82, 69, 70, 82, 69, 83, 72]⟩,
  ⟨0x0403, 1, [1, 2], [67, 65, 80, 95, 82, 69, 65, 68, 95, 79, 78, 76, 89]⟩,
  ⟨0x0501, 2, [5, 1, 5, 1], [67, 79, 80, 89, 95, 68, 69, 83, 84, 95, 70, 65, 73, 76]⟩,
  ⟨0x0502, 0, [1], [77, 69, 84, 65, 68, 65, 84, 65, 95, 76, 79, 83, 84]⟩,
  ⟨0x0601, 1, [1, 1, 2], [86, 69, 82, 73, 70, 89, 95, 77, 73, 83, 77, 65, 84, 67, 72]⟩,
  ⟨0x0602, 1, [1], [67, 79, 77, 80, 82, 69, 83, 83, 79, 82, 95, 79, 85, 84]⟩,
  ⟨0x0603, 0, [], [67, 79, 77, 80, 82, 69, 83, 83, 79, 82, 83, 95, 78, 79, 78, 69]⟩,
  ⟨0x0604, 1, [1, 1, 1, 2], [68, 90, 95, 69, 82, 82, 79, 82]⟩,
  ⟨0x0605, 1, [1], [68, 69, 67, 79, 77, 80, 82, 69, 83, 83, 79, 82, 95, 79, 85, 84]⟩,
  ⟨0x0606, 0, [], [68, 69, 67, 79, 77, 80, 82, 69, 83, 83, 79, 82, 83, 95, 78, 79, 78, 69]⟩,
  ⟨0x0701, 1, [1], [67, 82, 67, 95, 85, 78, 73, 84, 95, 79, 85, 84]⟩,
  ⟨0x0702, 0, [], [67, 82, 67, 95, 85, 78, 73, 84, 83, 95, 78, 79, 78, 69]⟩,
  ⟨0x0801, 2, [1, 1], [78, 65, 78, 68, 95, 78, 69, 71, 95, 76, 79, 87, 69, 82]⟩]

/-- The event table of R400, part 2. -/
def eventsb : List EventRow := [
  ⟨0x0802, 2, [1], [78, 65, 78, 68, 95, 83, 76, 79, 84, 95, 65, 66, 83, 69, 78, 84]⟩,
  ⟨0x0803, 1, [1, 1], [78, 67, 95, 66, 65, 68, 95, 68, 69, 83, 67, 82, 73, 80, 84, 79, 82]⟩,
  ⟨0x0804, 1, [2, 1], [72, 79, 76, 68, 85, 80, 95, 84, 69, 83, 84, 95, 70, 65, 73, 76]⟩,
  ⟨0x0805, 3, [], [65, 84, 95, 82, 73, 83, 75, 95, 67, 76, 69, 65, 82]⟩,
  ⟨0x0901, 2, [2, 2], [77, 73, 83, 68, 73, 82, 69, 67, 84, 69, 68]⟩,
  ⟨0x0902, 2, [1], [78, 79, 95, 82, 69, 65, 68, 95, 79, 70, 70, 83, 69, 84, 95, 70, 69, 65, 84, 85, 82, 69]⟩,
  ⟨0x0903, 2, [1, 1], [80, 65, 84, 82, 79, 76, 95, 79, 86, 69, 82, 82, 85, 78]⟩,
  ⟨0x0A01, 1, [1, 1], [66, 79, 85, 78, 68, 95, 73, 78, 70, 69, 65, 83, 73, 66, 76, 69]⟩,
  ⟨0x0A02, 1, [1, 1, 1], [66, 79, 85, 78, 68, 95, 77, 73, 83, 83, 69, 68]⟩,
  ⟨0x0B01, 2, [1, 1], [68, 82, 65, 77, 95, 78, 69, 71, 95, 76, 79, 87, 69, 82]⟩,
  ⟨0x0B02, 0, [1, 1], [68, 82, 65, 77, 95, 78, 69, 71, 95, 70, 65, 84, 65, 76]⟩,
  ⟨0x0B03, 2, [1, 1], [87, 82, 73, 84, 69, 95, 66, 85, 70, 70, 69, 82, 95, 76, 73, 77, 73, 84, 69, 68]⟩,
  ⟨0x0B04, 1, [3], [88, 79, 82, 95, 77, 65, 83, 75, 95, 73, 78, 86, 65, 76, 73, 68]⟩,
  ⟨0x0C01, 2, [1], [80, 79, 79, 76, 95, 83, 73, 90, 69, 95, 68, 69, 70, 65, 85, 76, 84]⟩,
  ⟨0x0C02, 1, [1, 4, 1], [66, 80, 95, 82, 69, 70, 85, 83, 69, 68]⟩,
  ⟨0x0C03, 3, [1, 1], [87, 65, 84, 69, 82, 77, 65, 82, 75, 95, 67, 82, 79, 83, 83, 69, 68]⟩,
  ⟨0x0C04, 3, [1, 2, 1], [72, 65, 82, 68, 95, 70, 65, 85, 76, 84]⟩,
  ⟨0x0C05, 2, [1, 2], [72, 65, 82, 68, 95, 70, 65, 85, 76, 84, 95, 84, 87, 79]⟩,
  ⟨0x0C06, 1, [1, 2], [69, 67, 67, 95, 85, 78, 67, 79, 82, 82, 69, 67, 84, 65, 66, 76, 69]⟩,
  ⟨0x0C07, 2, [1, 1], [83, 67, 82, 85, 66, 95, 76, 65, 80, 95, 76, 79, 78, 71]⟩]

/-- The event table of R400, part 3. -/
def eventsc : List EventRow := [
  ⟨0x0D01, 0, [1], [80, 65, 73, 82, 95, 82, 69, 70, 85, 83, 69, 68]⟩,
  ⟨0x0E01, 0, [1, 1], [82, 65, 73, 76, 95, 70, 65, 85, 76, 84]⟩,
  ⟨0x0E02, 4, [1, 1], [87, 65, 75, 69]⟩,
  ⟨0x0E03, 2, [6], [83, 85, 80, 80, 76, 89, 95, 68, 73, 80]⟩,
  ⟨0x0E04, 1, [6, 1], [70, 76, 85, 83, 72, 95, 82, 69, 83, 69, 84]⟩,
  ⟨0x0E05, 0, [2], [70, 76, 85, 83, 72, 95, 73, 78, 67, 79, 77, 80, 76, 69, 84, 69]⟩,
  ⟨0x0E06, 2, [6], [70, 76, 85, 83, 72, 95, 76, 69, 86, 69, 76, 95, 73, 78, 95, 83, 76, 69, 69, 80]⟩,
  ⟨0x0E07, 1, [6], [72, 79, 76, 68, 85, 80, 95, 67, 72, 65, 82, 71, 69, 95, 70, 65, 85, 76, 84]⟩,
  ⟨0x0E08, 1, [1, 1], [83, 69, 78, 83, 79, 82, 95, 70, 65, 73, 76, 69, 68]⟩,
  ⟨0x0E09, 2, [1, 1], [84, 72, 82, 79, 84, 84, 76, 69, 95, 82, 69, 81, 85, 69, 83, 84]⟩,
  ⟨0x0E0A, 1, [1, 1], [84, 72, 82, 79, 84, 84, 76, 69, 95, 67, 82, 73, 84, 73, 67, 65, 76]⟩,
  ⟨0x0E0B, 1, [1, 1], [84, 72, 69, 82, 77, 65, 76, 95, 72, 79, 76, 68]⟩,
  ⟨0x0F01, 1, [1, 1], [66, 79, 79, 84, 95, 83, 76, 79, 84, 95, 70, 65, 73, 76, 69, 68]⟩,
  ⟨0x0F02, 1, [1, 2], [66, 79, 79, 84, 95, 70, 65, 76, 76, 66, 65, 67, 75]⟩,
  ⟨0x0F03, 3, [1], [83, 69, 82, 86, 73, 67, 69, 95, 85, 78, 76, 79, 67, 75]⟩,
  ⟨0x0F04, 3, [1], [83, 69, 82, 86, 73, 67, 69, 95, 69, 78, 68]⟩]

/-- The event table of R400. -/
def eventTable : List EventRow := eventsa ++ eventsb ++ eventsc

/-- The severity of an event. -/
def severityOf (ev : Nat) : Nat := (eventTable.find? (fun r => r.event == ev)).elim 5 EventRow.severity

/-- Bytes of an argument of a kind. -/
def argBytes (kind : Nat) : Nat := if kind = 2 ∨ kind = 7 then 8 else if kind = 5 then 2 else 4

/-- The 32-byte catalog record of an event: EVENT, SEVERITY, SOURCE, four argument kinds, NAME as STR(24). -/
def EventRow.bytes (r : EventRow) : Bytes :=
  leBytes 2 r.event ++ leBytes 1 r.severity ++ leBytes 1 (r.event / 256)
    ++ ((r.kinds ++ List.replicate 4 0).take 4).flatMap (leBytes 1) ++ leBytes 24 (strNat 24 r.name)

/-- The value of EVENT_CATALOG. -/
def eventCatalog : Bytes := eventTable.flatMap EventRow.bytes

/-- DETAIL from the arguments of an event, packed without gaps in the kinds the table gives. -/
def packDetail : List Nat → List Nat → Nat
  | k :: ks, a :: as => a % 2 ^ (8 * argBytes k) + 2 ^ (8 * argBytes k) * packDetail ks as
  | _, _ => 0

/-- DETAIL of an event. -/
def detailOf (ev : Nat) (args : List Nat) : Nat :=
  packDetail ((eventTable.find? (fun r => r.event == ev)).elim [] EventRow.kinds) args % 2 ^ 192

end Sys2Proof.Machine
end

