-- ==== Sys2Proof/Machine/Catalog.lean ====
section
/-! DEFINITION. Machine/Catalog.lean: every entry of the Miowa dictionary of stepping B0 (R416 to R419): its type code,
value size, access, privilege and class codes, the widest range of its value, and its default. The rows are those of
the entry tables of the chapters; a range that depends on another entry is checked besides, in Operands.lean. -/
namespace Sys2Proof.Machine
open Sys2Proof

/-- The range a value must lie in. `bits m`: bits outside `m` are reserved (R44). `orZero lo hi`: 0, or from `lo` to
`hi`. `step lo hi m`: from `lo` to `hi`, a multiple of `m`. -/
inductive Range where
  | any
  | between (lo hi : Nat)
  | oneOf (vs : List Nat)
  | step (lo hi m : Nat)
  | orZero (lo hi : Nat)
  | signed (lo hi : Int)
  | bits (mask : Nat)
deriving DecidableEq, Repr

/-- One row of the dictionary: an index, its subindexes from `lo` to `hi`, and their attributes. -/
structure Row where
  idx : Nat
  lo : Nat
  hi : Nat
  ty : Nat
  size : Nat
  acc : Nat
  priv : Nat
  cls : Nat
  range : Range
  perInst : Bool
deriving DecidableEq, Repr

/-- Entries 0x1xxx, part 1. -/
def rows1a : List Row := [
  ⟨0x1000, 0x01, 0x01, 12, 16, 1, 1, 1, .any, false⟩,
  ⟨0x1000, 0x02, 0x02, 8, 1, 1, 1, 1, .oneOf [1, 2], false⟩,
  ⟨0x1000, 0x03, 0x03, 2, 2, 1, 1, 1, .any, false⟩,
  ⟨0x1000, 0x04, 0x04, 12, 20, 1, 1, 1, .any, false⟩,
  ⟨0x1100, 0x01, 0x01, 3, 4, 1, 2, 1, .any, false⟩,
  ⟨0x1100, 0x02, 0x02, 1, 1, 6, 2, 1, .between 0 8, false⟩,
  ⟨0x1100, 0x03, 0x03, 9, 4, 1, 2, 1, .any, false⟩,
  ⟨0x1100, 0x04, 0x04, 14, 0, 3, 2, 4, .any, false⟩,
  ⟨0x1100, 0x05, 0x05, 3, 4, 1, 2, 1, .any, false⟩,
  ⟨0x1100, 0x06, 0x06, 8, 1, 3, 2, 4, .oneOf [1], false⟩,
  ⟨0x1100, 0x07, 0x07, 12, 20, 5, 2, 1, .any, false⟩,
  ⟨0x1100, 0x08, 0x08, 12, 40, 5, 2, 1, .any, false⟩,
  ⟨0x1100, 0x09, 0x09, 1, 1, 3, 2, 4, .between 1 8, false⟩,
  ⟨0x1100, 0x0A, 0x0A, 3, 4, 1, 2, 3, .any, false⟩,
  ⟨0x1100, 0x0B, 0x0B, 3, 4, 1, 2, 1, .any, false⟩,
  ⟨0x1200, 0x01, 0x01, 2, 2, 5, 2, 1, .between 0 65535, false⟩,
  ⟨0x1200, 0x02, 0x02, 7, 1, 1, 2, 1, .between 0 1, false⟩,
  ⟨0x1200, 0x03, 0x03, 11, 8, 2, 2, 2, .any, false⟩,
  ⟨0x1200, 0x04, 0x04, 6, 4, 1, 2, 4, .any, false⟩,
  ⟨0x1201, 0x01, 0x01, 3, 4, 7, 2, 3, .any, false⟩,
  ⟨0x1201, 0x02, 0x02, 3, 4, 7, 2, 3, .any, false⟩,
  ⟨0x1201, 0x03, 0x03, 3, 4, 1, 2, 3, .any, false⟩,
  ⟨0x1201, 0x04, 0x04, 3, 4, 7, 2, 3, .any, false⟩,
  ⟨0x1210, 0x01, 0x01, 2, 2, 6, 2, 1, .step 16 1024 16, false⟩,
  ⟨0x1210, 0x02, 0x02, 4, 8, 1, 1, 2, .any, false⟩,
  ⟨0x1210, 0x03, 0x03, 2, 2, 1, 1, 1, .oneOf [2], false⟩,
  ⟨0x1210, 0x04, 0x04, 1, 1, 1, 2, 4, .between 1 16, false⟩,
  ⟨0x1210, 0x05, 0x05, 3, 4, 7, 2, 3, .any, false⟩,
  ⟨0x1211, 0x01, 0x01, 8, 1, 5, 2, 1, .oneOf [0, 1, 2, 3], false⟩,
  ⟨0x1211, 0x02, 0x02, 8, 1, 1, 1, 4, .oneOf [1, 2, 3, 4], false⟩,
  ⟨0x1230, 0x01, 0x02, 13, 24, 1, 2, 3, .any, false⟩]

/-- Entries 0x2xxx, part 1. -/
def rows2a : List Row := [
  ⟨0x2000, 0x01, 0x01, 8, 1, 5, 2, 1, .oneOf [0, 1, 2], false⟩,
  ⟨0x2000, 0x02, 0x03, 8, 1, 5, 2, 1, .between 3 6, false⟩,
  ⟨0x2000, 0x04, 0x04, 2, 2, 5, 2, 1, .between 0 1022, false⟩,
  ⟨0x2000, 0x05, 0x05, 2, 2, 5, 2, 1, .any, false⟩,
  ⟨0x2000, 0x06, 0x06, 2, 2, 5, 2, 1, .any, false⟩,
  ⟨0x2001, 0x01, 0x02, 13, 24, 1, 2, 3, .any, false⟩,
  ⟨0x2002, 0x01, 0x02, 8, 1, 1, 1, 4, .between 0 6, false⟩,
  ⟨0x2002, 0x03, 0x03, 3, 4, 7, 2, 3, .any, false⟩,
  ⟨0x2002, 0x04, 0x04, 3, 4, 7, 2, 3, .any, false⟩,
  ⟨0x2002, 0x05, 0x05, 3, 4, 7, 2, 3, .any, false⟩,
  ⟨0x2100, 0x01, 0x01, 3, 4, 1, 1, 1, .any, false⟩,
  ⟨0x2100, 0x02, 0x02, 3, 4, 1, 2, 4, .between 0 262144, false⟩,
  ⟨0x2100, 0x03, 0x03, 2, 2, 1, 2, 4, .between 0 4096, false⟩,
  ⟨0x2100, 0x04, 0x04, 2, 2, 6, 2, 1, .between 0 1024, false⟩,
  ⟨0x2100, 0x05, 0x05, 2, 2, 6, 2, 1, .between 205 2048, false⟩,
  ⟨0x2100, 0x06, 0x06, 13, 128, 7, 2, 3, .any, false⟩,
  ⟨0x2100, 0x07, 0x08, 2, 2, 2, 2, 3, .bits 0x87FF, false⟩,
  ⟨0x2101, 0x01, 0x01, 3, 4, 1, 2, 3, .any, false⟩,
  ⟨0x2101, 0x02, 0x02, 3, 4, 1, 2, 3, .any, false⟩,
  ⟨0x2101, 0x03, 0x03, 2, 2, 1, 2, 3, .any, false⟩,
  ⟨0x2101, 0x04, 0x04, 2, 2, 1, 2, 3, .any, false⟩,
  ⟨0x2101, 0x05, 0x05, 3, 4, 1, 2, 3, .any, false⟩,
  ⟨0x2110, 0x01, 0x01, 8, 1, 1, 1, 3, .between 0 4, true⟩,
  ⟨0x2110, 0x02, 0x02, 8, 1, 6, 2, 1, .oneOf [1, 2], true⟩,
  ⟨0x2110, 0x03, 0x03, 2, 2, 6, 2, 1, .between 0 4096, true⟩,
  ⟨0x2110, 0x04, 0x04, 2, 2, 6, 2, 1, .between 1 65535, true⟩,
  ⟨0x2110, 0x05, 0x05, 2, 2, 6, 2, 1, .between 0 4096, true⟩,
  ⟨0x2110, 0x06, 0x06, 13, 32, 6, 2, 1, .any, true⟩,
  ⟨0x2110, 0x07, 0x07, 1, 1, 6, 2, 1, .between 0 255, true⟩,
  ⟨0x2110, 0x08, 0x08, 8, 1, 6, 2, 1, .oneOf [0, 1], true⟩,
  ⟨0x2110, 0x09, 0x09, 1, 1, 6, 2, 1, .between 1 64, true⟩,
  ⟨0x2120, 0x01, 0x01, 1, 1, 3, 1, 4, .between 0 63, true⟩,
  ⟨0x2120, 0x02, 0x02, 14, 0, 1, 1, 4, .any, true⟩,
  ⟨0x2120, 0x03, 0x03, 13, 1176, 3, 1, 4, .any, true⟩,
  ⟨0x2120, 0x04, 0x04, 10, 8, 1, 1, 3, .any, true⟩,
  ⟨0x2120, 0x05, 0x05, 10, 8, 1, 1, 1, .any, true⟩,
  ⟨0x2130, 0x01, 0x40, 3, 4, 4, 1, 3, .bits 0x800FFFFF, true⟩,
  ⟨0x2131, 0x01, 0x40, 3, 4, 4, 1, 3, .any, true⟩,
  ⟨0x2132, 0x01, 0x40, 13, 32, 4, 1, 3, .any, true⟩,
  ⟨0x2133, 0x01, 0x40, 8, 1, 4, 1, 3, .oneOf [0, 1], true⟩]

/-- Entries 0x2xxx, part 2. -/
def rows2b : List Row := [
  ⟨0x2200, 0x01, 0x01, 2, 2, 6, 2, 1, .between 0 4096, false⟩,
  ⟨0x2200, 0x02, 0x02, 2, 2, 6, 2, 1, .between 8 1024, false⟩,
  ⟨0x2200, 0x03, 0x03, 4, 8, 7, 2, 3, .any, false⟩,
  ⟨0x2200, 0x04, 0x04, 4, 8, 7, 2, 3, .any, false⟩,
  ⟨0x2200, 0x05, 0x05, 4, 8, 7, 2, 3, .any, false⟩,
  ⟨0x2210, 0x01, 0x01, 8, 1, 6, 2, 1, .oneOf [0, 1], true⟩,
  ⟨0x2210, 0x02, 0x02, 3, 4, 7, 2, 3, .any, true⟩,
  ⟨0x2210, 0x03, 0x03, 3, 4, 7, 1, 3, .any, true⟩,
  ⟨0x2220, 0x01, 0x05, 3, 4, 7, 1, 3, .any, true⟩]

/-- Entries 0x3xxx, part 1. -/
def rows3a : List Row := [
  ⟨0x3000, 0x01, 0x01, 2, 2, 1, 2, 1, .between 0 256, false⟩,
  ⟨0x3000, 0x02, 0x02, 1, 1, 1, 2, 1, .between 0 16, false⟩,
  ⟨0x3000, 0x03, 0x03, 4, 8, 1, 2, 1, .any, false⟩,
  ⟨0x3000, 0x04, 0x04, 3, 4, 7, 2, 3, .any, false⟩,
  ⟨0x3010, 0x01, 0x01, 3, 4, 4, 2, 3, .between 1 16384, false⟩,
  ⟨0x3010, 0x02, 0x02, 3, 4, 4, 2, 3, .between 1 16384, false⟩,
  ⟨0x3010, 0x03, 0x03, 3, 4, 1, 2, 4, .between 0 16384, false⟩,
  ⟨0x3010, 0x04, 0x04, 3, 4, 1, 2, 4, .between 0 16384, false⟩,
  ⟨0x3010, 0x05, 0x05, 3, 4, 7, 2, 3, .any, false⟩,
  ⟨0x3010, 0x06, 0x06, 3, 4, 6, 2, 1, .orZero 60 1209600, false⟩,
  ⟨0x3010, 0x07, 0x07, 3, 4, 6, 2, 1, .between 3600 1209600, false⟩,
  ⟨0x3010, 0x08, 0x08, 3, 4, 7, 2, 3, .any, false⟩,
  ⟨0x3020, 0x01, 0x80, 13, 64, 6, 2, 1, .any, false⟩,
  ⟨0x3021, 0x01, 0x80, 13, 64, 6, 2, 1, .any, false⟩,
  ⟨0x3022, 0x01, 0x80, 13, 64, 1, 2, 4, .any, false⟩,
  ⟨0x3023, 0x01, 0x80, 13, 64, 1, 2, 4, .any, false⟩,
  ⟨0x3030, 0x01, 0x01, 13, 1024, 2, 2, 3, .any, true⟩,
  ⟨0x3100, 0x01, 0x01, 2, 2, 5, 2, 1, .between 8 256, false⟩,
  ⟨0x3100, 0x02, 0x02, 4, 8, 1, 2, 3, .any, false⟩,
  ⟨0x3100, 0x03, 0x03, 4, 8, 1, 2, 4, .any, false⟩,
  ⟨0x3100, 0x04, 0x04, 4, 8, 1, 2, 3, .any, false⟩,
  ⟨0x3100, 0x05, 0x05, 7, 1, 1, 2, 4, .between 0 1, false⟩,
  ⟨0x3100, 0x06, 0x06, 4, 8, 7, 2, 3, .any, false⟩,
  ⟨0x3100, 0x07, 0x07, 2, 2, 6, 2, 1, .between 8 1024, false⟩,
  ⟨0x3100, 0x08, 0x08, 3, 4, 1, 2, 4, .between 0 65536, false⟩,
  ⟨0x3100, 0x09, 0x09, 3, 4, 1, 2, 1, .oneOf [65536], false⟩,
  ⟨0x3100, 0x0A, 0x0A, 3, 4, 7, 2, 3, .any, false⟩,
  ⟨0x3101, 0x01, 0x01, 2, 2, 6, 2, 1, .between 8 1024, false⟩,
  ⟨0x3101, 0x02, 0x02, 2, 2, 6, 2, 1, .between 9 2048, false⟩,
  ⟨0x3101, 0x03, 0x03, 2, 2, 6, 2, 1, .between 2 1023, false⟩,
  ⟨0x3101, 0x04, 0x04, 2, 2, 6, 2, 1, .between 16 1024, false⟩,
  ⟨0x3101, 0x05, 0x08, 3, 4, 6, 2, 1, .between 86400 63072000, false⟩,
  ⟨0x3101, 0x09, 0x09, 2, 2, 6, 2, 1, .between 16 512, false⟩,
  ⟨0x3101, 0x0A, 0x0A, 4, 8, 7, 2, 3, .any, false⟩,
  ⟨0x3101, 0x0B, 0x0B, 4, 8, 7, 2, 3, .any, false⟩,
  ⟨0x3101, 0x0C, 0x0C, 4, 8, 7, 2, 3, .any, false⟩,
  ⟨0x3101, 0x0D, 0x0D, 4, 8, 7, 2, 3, .any, false⟩,
  ⟨0x3101, 0x0E, 0x0E, 3, 4, 1, 2, 1, .any, false⟩,
  ⟨0x3101, 0x0F, 0x0F, 2, 2, 1, 2, 1, .between 0 2048, false⟩,
  ⟨0x3102, 0x01, 0x01, 14, 0, 1, 2, 1, .any, false⟩]

/-- Entries 0x3xxx, part 2. -/
def rows3b : List Row := [
  ⟨0x3110, 0x01, 0x01, 4, 8, 5, 1, 1, .any, true⟩,
  ⟨0x3110, 0x02, 0x02, 4, 8, 1, 1, 1, .any, false⟩,
  ⟨0x3110, 0x03, 0x03, 3, 4, 1, 2, 4, .between 0 16777216, false⟩,
  ⟨0x3110, 0x04, 0x04, 3, 4, 1, 2, 1, .oneOf [16777216], false⟩,
  ⟨0x3110, 0x05, 0x05, 3, 4, 1, 2, 4, .any, false⟩,
  ⟨0x3110, 0x06, 0x06, 3, 4, 7, 2, 3, .any, false⟩,
  ⟨0x3110, 0x07, 0x07, 4, 8, 1, 2, 4, .any, false⟩,
  ⟨0x3111, 0x01, 0x01, 14, 0, 1, 2, 4, .any, false⟩,
  ⟨0x3200, 0x01, 0x01, 3, 4, 6, 2, 1, .between 10 60000, false⟩,
  ⟨0x3200, 0x02, 0x02, 9, 4, 1, 2, 3, .any, false⟩,
  ⟨0x3200, 0x03, 0x03, 9, 4, 1, 2, 3, .any, false⟩,
  ⟨0x3201, 0x01, 0x01, 4, 8, 7, 2, 3, .any, false⟩,
  ⟨0x3201, 0x02, 0x02, 4, 8, 7, 2, 3, .any, false⟩,
  ⟨0x3201, 0x03, 0x03, 4, 8, 7, 2, 3, .any, false⟩,
  ⟨0x3201, 0x04, 0x04, 3, 4, 7, 2, 3, .any, false⟩,
  ⟨0x3201, 0x05, 0x05, 4, 8, 7, 2, 3, .any, false⟩,
  ⟨0x3201, 0x06, 0x06, 4, 8, 7, 2, 3, .any, false⟩,
  ⟨0x3201, 0x07, 0x07, 3, 4, 1, 2, 4, .between 0 16384, false⟩,
  ⟨0x3201, 0x08, 0x08, 4, 8, 1, 2, 4, .any, false⟩,
  ⟨0x3201, 0x09, 0x09, 4, 8, 7, 2, 3, .any, false⟩,
  ⟨0x3202, 0x01, 0x07, 4, 8, 7, 2, 3, .any, false⟩,
  ⟨0x3203, 0x01, 0x05, 3, 4, 7, 2, 3, .any, false⟩,
  ⟨0x3203, 0x06, 0x06, 3, 4, 7, 2, 3, .any, false⟩,
  ⟨0x3300, 0x01, 0x01, 9, 4, 1, 2, 3, .any, false⟩,
  ⟨0x3300, 0x02, 0x02, 4, 8, 7, 2, 3, .any, false⟩,
  ⟨0x3300, 0x03, 0x03, 3, 4, 7, 2, 3, .any, false⟩,
  ⟨0x3300, 0x04, 0x04, 3, 4, 7, 2, 3, .any, false⟩]

/-- Entries 0x4xxx, part 1. -/
def rows4a : List Row := [
  ⟨0x4000, 0x01, 0x01, 2, 2, 5, 2, 1, .oneOf [800, 1200, 1600, 2000, 2400, 2800, 3200, 3600], false⟩,
  ⟨0x4000, 0x02, 0x02, 8, 1, 5, 2, 1, .oneOf [0, 1, 2, 3], false⟩,
  ⟨0x4000, 0x03, 0x03, 2, 2, 6, 2, 1, .between 20 5000, false⟩,
  ⟨0x4000, 0x04, 0x04, 2, 2, 5, 2, 1, .between 1 16, false⟩,
  ⟨0x4000, 0x05, 0x05, 3, 4, 5, 2, 1, .between 10000 400000, false⟩,
  ⟨0x4000, 0x06, 0x06, 3, 4, 5, 2, 1, .between 3600 604800, false⟩,
  ⟨0x4000, 0x07, 0x07, 2, 2, 6, 2, 1, .between 50 10000, false⟩,
  ⟨0x4001, 0x01, 0x01, 7, 1, 1, 1, 4, .between 0 1, false⟩,
  ⟨0x4001, 0x02, 0x02, 4, 8, 1, 2, 4, .any, false⟩,
  ⟨0x4001, 0x03, 0x03, 4, 8, 1, 2, 4, .any, false⟩,
  ⟨0x4001, 0x04, 0x04, 3, 4, 1, 2, 3, .any, false⟩,
  ⟨0x4001, 0x05, 0x05, 4, 8, 1, 2, 4, .any, false⟩,
  ⟨0x4001, 0x06, 0x06, 3, 4, 1, 2, 1, .any, false⟩,
  ⟨0x4001, 0x07, 0x07, 4, 8, 1, 2, 4, .any, false⟩,
  ⟨0x4001, 0x08, 0x08, 4, 8, 7, 2, 3, .any, false⟩,
  ⟨0x4002, 0x01, 0x01, 4, 8, 7, 2, 3, .any, false⟩,
  ⟨0x4002, 0x02, 0x02, 4, 8, 7, 2, 3, .any, false⟩,
  ⟨0x4002, 0x03, 0x03, 3, 4, 7, 2, 3, .any, false⟩,
  ⟨0x4002, 0x04, 0x04, 3, 4, 7, 2, 3, .any, false⟩,
  ⟨0x4002, 0x05, 0x05, 3, 4, 7, 2, 3, .any, false⟩,
  ⟨0x4002, 0x06, 0x06, 3, 4, 7, 2, 3, .any, false⟩,
  ⟨0x4002, 0x07, 0x07, 3, 4, 7, 2, 3, .any, false⟩,
  ⟨0x4003, 0x01, 0x01, 9, 4, 1, 2, 4, .any, false⟩,
  ⟨0x4003, 0x02, 0x02, 9, 4, 1, 2, 3, .any, false⟩,
  ⟨0x4010, 0x01, 0x80, 13, 24, 1, 2, 3, .any, false⟩,
  ⟨0x4011, 0x01, 0x80, 13, 24, 1, 2, 3, .any, false⟩,
  ⟨0x4012, 0x01, 0x01, 14, 0, 5, 2, 1, .any, false⟩,
  ⟨0x4013, 0x01, 0x01, 14, 0, 1, 2, 3, .any, false⟩,
  ⟨0x4100, 0x01, 0x01, 7, 1, 6, 2, 1, .between 0 1, false⟩,
  ⟨0x4100, 0x02, 0x02, 2, 2, 6, 2, 1, .between 16 4096, false⟩,
  ⟨0x4100, 0x03, 0x03, 1, 1, 6, 2, 1, .between 1 4, false⟩,
  ⟨0x4100, 0x04, 0x04, 1, 1, 6, 2, 1, .between 8 63, false⟩,
  ⟨0x4100, 0x05, 0x05, 1, 1, 6, 2, 1, .between 0 12, false⟩,
  ⟨0x4100, 0x06, 0x06, 8, 1, 6, 2, 1, .oneOf [0, 1, 2], false⟩,
  ⟨0x4100, 0x07, 0x07, 1, 1, 6, 2, 1, .between 1 8, false⟩,
  ⟨0x4100, 0x08, 0x08, 1, 1, 6, 2, 1, .between 1 12, false⟩,
  ⟨0x4100, 0x09, 0x09, 2, 2, 6, 2, 1, .between 1 3600, false⟩,
  ⟨0x4100, 0x0A, 0x0A, 7, 1, 6, 2, 1, .between 0 1, false⟩,
  ⟨0x4101, 0x01, 0x04, 2, 2, 6, 2, 1, .between 8 400, false⟩,
  ⟨0x4102, 0x01, 0x04, 3, 4, 6, 2, 1, .between 3600 63072000, false⟩]

/-- Entries 0x4xxx, part 2. -/
def rows4b : List Row := [
  ⟨0x4103, 0x01, 0x01, 4, 8, 7, 2, 3, .any, false⟩,
  ⟨0x4103, 0x02, 0x02, 4, 8, 7, 2, 3, .any, false⟩,
  ⟨0x4103, 0x03, 0x03, 4, 8, 7, 2, 3, .any, false⟩,
  ⟨0x4103, 0x04, 0x04, 4, 8, 7, 2, 3, .any, false⟩,
  ⟨0x4103, 0x05, 0x05, 4, 8, 7, 2, 3, .any, false⟩,
  ⟨0x4103, 0x06, 0x06, 4, 8, 7, 2, 3, .any, false⟩,
  ⟨0x4103, 0x07, 0x07, 4, 8, 7, 2, 3, .any, false⟩,
  ⟨0x4103, 0x08, 0x08, 4, 8, 7, 2, 3, .any, false⟩,
  ⟨0x4103, 0x09, 0x09, 4, 8, 7, 2, 3, .any, false⟩,
  ⟨0x4103, 0x0A, 0x0A, 4, 8, 7, 2, 3, .any, false⟩,
  ⟨0x4103, 0x0B, 0x0B, 3, 4, 7, 2, 3, .any, false⟩,
  ⟨0x4103, 0x0C, 0x0C, 3, 4, 7, 2, 3, .any, false⟩,
  ⟨0x4103, 0x0D, 0x0D, 3, 4, 7, 2, 3, .any, false⟩,
  ⟨0x4104, 0x01, 0x04, 3, 4, 1, 2, 3, .any, false⟩,
  ⟨0x4104, 0x05, 0x08, 2, 2, 1, 2, 4, .between 0 1024, false⟩,
  ⟨0x4104, 0x09, 0x09, 3, 4, 7, 2, 3, .any, false⟩,
  ⟨0x4105, 0x01, 0x08, 14, 0, 1, 2, 1, .any, false⟩,
  ⟨0x4106, 0x01, 0x01, 14, 0, 5, 2, 1, .any, false⟩,
  ⟨0x4200, 0x01, 0x01, 1, 1, 6, 2, 1, .between 1 8, false⟩,
  ⟨0x4200, 0x02, 0x02, 2, 2, 6, 2, 1, .between 0 10000, false⟩,
  ⟨0x4200, 0x03, 0x03, 2, 2, 6, 2, 1, .between 50 5000, false⟩,
  ⟨0x4200, 0x04, 0x04, 13, 32, 6, 2, 1, .any, false⟩,
  ⟨0x4201, 0x01, 0x03, 3, 4, 6, 2, 1, .between 5000 400000, false⟩,
  ⟨0x4201, 0x04, 0x04, 2, 2, 6, 2, 1, .between 1 1000, false⟩,
  ⟨0x4201, 0x05, 0x05, 2, 2, 6, 2, 1, .between 1 1000, false⟩,
  ⟨0x4201, 0x06, 0x06, 2, 2, 6, 2, 1, .between 1 1000, false⟩,
  ⟨0x4201, 0x07, 0x07, 2, 2, 6, 2, 1, .between 1 5000, false⟩,
  ⟨0x4201, 0x08, 0x08, 3, 4, 1, 2, 4, .any, false⟩,
  ⟨0x4201, 0x09, 0x09, 3, 4, 1, 2, 4, .any, false⟩,
  ⟨0x4201, 0x0A, 0x0A, 3, 4, 1, 2, 4, .any, false⟩,
  ⟨0x4201, 0x0B, 0x0B, 3, 4, 1, 2, 4, .any, false⟩,
  ⟨0x4202, 0x01, 0x01, 4, 8, 7, 2, 3, .any, false⟩,
  ⟨0x4202, 0x02, 0x02, 4, 8, 7, 2, 3, .any, false⟩,
  ⟨0x4202, 0x03, 0x03, 4, 8, 7, 2, 3, .any, false⟩,
  ⟨0x4202, 0x04, 0x04, 3, 4, 7, 2, 3, .any, false⟩,
  ⟨0x4202, 0x05, 0x05, 4, 8, 7, 2, 3, .any, false⟩,
  ⟨0x4202, 0x06, 0x06, 4, 8, 7, 2, 3, .any, false⟩,
  ⟨0x4202, 0x07, 0x07, 4, 8, 7, 2, 3, .any, false⟩,
  ⟨0x4203, 0x01, 0x01, 14, 0, 1, 2, 4, .any, false⟩]

/-- Entries 0x5xxx, part 1. -/
def rows5a : List Row := [
  ⟨0x5000, 0x01, 0x01, 9, 4, 5, 2, 1, .any, false⟩,
  ⟨0x5000, 0x02, 0x02, 2, 2, 5, 2, 1, .oneOf [3200, 3600, 4000, 4400, 4800, 5200, 5600, 6000, 6400, 7200, 8000], false⟩,
  ⟨0x5000, 0x03, 0x03, 2, 2, 5, 2, 1, .between 2 16, false⟩,
  ⟨0x5000, 0x04, 0x04, 1, 1, 6, 2, 1, .between 1 16, false⟩,
  ⟨0x5000, 0x05, 0x05, 2, 2, 6, 2, 1, .between 256 16384, false⟩,
  ⟨0x5000, 0x06, 0x06, 1, 1, 6, 2, 1, .between 1 2, false⟩,
  ⟨0x5000, 0x07, 0x07, 2, 2, 6, 2, 1, .between 2 100, false⟩,
  ⟨0x5001, 0x01, 0x06, 10, 8, 5, 2, 1, .any, false⟩,
  ⟨0x5002, 0x01, 0x01, 4, 8, 1, 2, 3, .any, false⟩,
  ⟨0x5002, 0x02, 0x02, 2, 2, 1, 2, 3, .between 3200 8000, false⟩,
  ⟨0x5002, 0x03, 0x03, 3, 4, 1, 2, 3, .any, false⟩,
  ⟨0x5002, 0x04, 0x04, 2, 2, 1, 1, 1, .oneOf [1000], false⟩,
  ⟨0x5002, 0x05, 0x05, 2, 2, 1, 1, 1, .oneOf [500], false⟩,
  ⟨0x5003, 0x01, 0x01, 4, 8, 7, 2, 3, .any, false⟩,
  ⟨0x5003, 0x02, 0x02, 4, 8, 7, 2, 3, .any, false⟩,
  ⟨0x5003, 0x03, 0x03, 4, 8, 7, 2, 3, .any, false⟩,
  ⟨0x5003, 0x04, 0x04, 3, 4, 7, 2, 3, .any, false⟩,
  ⟨0x5003, 0x05, 0x05, 3, 4, 7, 2, 3, .any, false⟩,
  ⟨0x5010, 0x01, 0x06, 13, 24, 1, 2, 3, .any, false⟩,
  ⟨0x5100, 0x01, 0x05, 2, 2, 5, 2, 1, .between 1 124, false⟩,
  ⟨0x5100, 0x06, 0x06, 7, 1, 6, 2, 1, .between 0 1, false⟩,
  ⟨0x5101, 0x01, 0x05, 3, 4, 1, 2, 4, .any, false⟩,
  ⟨0x5101, 0x06, 0x0A, 3, 4, 1, 2, 3, .any, false⟩,
  ⟨0x5102, 0x01, 0x01, 4, 8, 7, 2, 3, .any, false⟩,
  ⟨0x5102, 0x02, 0x02, 3, 4, 7, 2, 3, .any, false⟩,
  ⟨0x5102, 0x03, 0x03, 3, 4, 7, 2, 3, .any, false⟩,
  ⟨0x5102, 0x04, 0x04, 3, 4, 7, 2, 3, .any, false⟩,
  ⟨0x5102, 0x05, 0x05, 4, 8, 1, 2, 3, .any, false⟩,
  ⟨0x5103, 0x01, 0x06, 3, 4, 6, 2, 1, .between 0 4294967295, false⟩,
  ⟨0x5103, 0x07, 0x0C, 3, 4, 6, 2, 1, .between 1 4294967295, false⟩,
  ⟨0x5104, 0x01, 0x06, 10, 8, 1, 2, 3, .any, false⟩,
  ⟨0x5104, 0x07, 0x0C, 10, 8, 7, 2, 3, .any, false⟩,
  ⟨0x5110, 0x01, 0x28, 3, 4, 1, 2, 4, .any, false⟩,
  ⟨0x5200, 0x01, 0x01, 3, 4, 6, 2, 1, .between 600 604800, false⟩,
  ⟨0x5200, 0x02, 0x02, 3, 4, 6, 2, 1, .between 10 86400, false⟩,
  ⟨0x5200, 0x03, 0x03, 7, 1, 6, 2, 1, .between 0 1, false⟩,
  ⟨0x5201, 0x01, 0x05, 4, 8, 7, 2, 3, .any, false⟩,
  ⟨0x5201, 0x06, 0x0A, 3, 4, 7, 2, 3, .any, false⟩,
  ⟨0x5201, 0x0B, 0x0F, 3, 4, 1, 2, 3, .between 0 256, false⟩,
  ⟨0x5201, 0x10, 0x10, 3, 4, 7, 2, 3, .any, false⟩]

/-- Entries 0x5xxx, part 2. -/
def rows5b : List Row := [
  ⟨0x5202, 0x01, 0x05, 3, 4, 1, 2, 3, .any, false⟩,
  ⟨0x5202, 0x06, 0x0A, 2, 2, 1, 2, 4, .between 0 1024, false⟩,
  ⟨0x5202, 0x0B, 0x0B, 4, 8, 7, 2, 3, .any, false⟩,
  ⟨0x5203, 0x01, 0x01, 14, 0, 1, 2, 3, .any, false⟩,
  ⟨0x5203, 0x02, 0x02, 13, 24, 1, 2, 3, .any, false⟩,
  ⟨0x5204, 0x01, 0x01, 3, 4, 7, 3, 3, .any, false⟩]

/-- Entries 0x6xxx, part 1. -/
def rows6a : List Row := [
  ⟨0x6000, 0x01, 0x01, 7, 1, 5, 2, 1, .between 0 1, false⟩,
  ⟨0x6000, 0x02, 0x02, 4, 8, 5, 2, 1, .any, false⟩,
  ⟨0x6000, 0x03, 0x03, 2, 2, 6, 2, 1, .between 500 60000, false⟩,
  ⟨0x6000, 0x04, 0x04, 2, 2, 5, 2, 1, .between 10 1000, false⟩,
  ⟨0x6000, 0x05, 0x05, 8, 1, 5, 2, 1, .between 4 6, false⟩,
  ⟨0x6000, 0x06, 0x06, 3, 4, 5, 2, 1, .between 1000 600000, false⟩,
  ⟨0x6001, 0x01, 0x01, 1, 1, 1, 1, 3, .between 0 1, false⟩,
  ⟨0x6001, 0x02, 0x02, 8, 1, 1, 1, 4, .between 0 8, false⟩,
  ⟨0x6001, 0x03, 0x03, 4, 8, 1, 2, 4, .any, false⟩,
  ⟨0x6001, 0x04, 0x04, 4, 8, 1, 2, 4, .any, false⟩,
  ⟨0x6001, 0x05, 0x05, 4, 8, 1, 2, 4, .any, false⟩,
  ⟨0x6001, 0x06, 0x06, 3, 4, 1, 2, 1, .any, false⟩,
  ⟨0x6001, 0x07, 0x07, 3, 4, 1, 2, 1, .any, false⟩,
  ⟨0x6001, 0x08, 0x08, 8, 1, 3, 2, 4, .oneOf [1, 2], false⟩,
  ⟨0x6001, 0x09, 0x09, 4, 8, 7, 2, 3, .any, false⟩,
  ⟨0x6001, 0x0A, 0x0A, 3, 4, 7, 2, 3, .any, false⟩,
  ⟨0x6002, 0x01, 0x01, 13, 24, 1, 2, 3, .any, false⟩]

/-- Entries 0x7xxx, part 1. -/
def rows7a : List Row := [
  ⟨0x7000, 0x01, 0x01, 2, 2, 6, 2, 1, .between 9000 12000, false⟩,
  ⟨0x7000, 0x02, 0x02, 2, 2, 6, 2, 1, .between 8500 11500, false⟩,
  ⟨0x7000, 0x03, 0x03, 2, 2, 6, 2, 1, .between 6000 10000, false⟩,
  ⟨0x7000, 0x04, 0x04, 2, 2, 6, 2, 1, .between 50 1000, false⟩,
  ⟨0x7000, 0x05, 0x05, 2, 2, 6, 2, 1, .between 20 10000, false⟩,
  ⟨0x7000, 0x06, 0x06, 2, 2, 1, 2, 4, .any, false⟩,
  ⟨0x7000, 0x07, 0x07, 8, 1, 1, 2, 4, .between 0 3, false⟩,
  ⟨0x7000, 0x08, 0x08, 3, 4, 7, 2, 3, .any, false⟩,
  ⟨0x7000, 0x09, 0x09, 2, 2, 1, 2, 2, .any, false⟩,
  ⟨0x7000, 0x0A, 0x0A, 7, 1, 5, 2, 1, .between 0 1, false⟩,
  ⟨0x7001, 0x01, 0x01, 3, 4, 5, 2, 1, .between 12000 60000, false⟩,
  ⟨0x7001, 0x02, 0x02, 3, 4, 5, 2, 1, .between 5000 59000, false⟩,
  ⟨0x7001, 0x03, 0x03, 2, 2, 5, 2, 1, .between 10 10000, false⟩,
  ⟨0x7001, 0x04, 0x04, 2, 2, 5, 2, 1, .between 5 200, false⟩,
  ⟨0x7001, 0x05, 0x05, 2, 2, 5, 2, 1, .between 500 1000, false⟩,
  ⟨0x7001, 0x06, 0x06, 2, 2, 5, 2, 1, .between 10 3600, false⟩,
  ⟨0x7001, 0x07, 0x07, 3, 4, 1, 2, 4, .any, false⟩,
  ⟨0x7001, 0x08, 0x08, 3, 4, 1, 2, 3, .any, false⟩,
  ⟨0x7001, 0x09, 0x09, 8, 1, 1, 2, 3, .between 0 4, false⟩,
  ⟨0x7001, 0x0A, 0x0A, 8, 1, 3, 2, 4, .oneOf [1], false⟩,
  ⟨0x7010, 0x01, 0x01, 8, 1, 1, 1, 4, .between 0 3, false⟩,
  ⟨0x7010, 0x02, 0x02, 9, 4, 6, 2, 1, .bits 0x7F, false⟩,
  ⟨0x7010, 0x03, 0x03, 8, 1, 1, 1, 2, .between 0 9, false⟩,
  ⟨0x7010, 0x04, 0x04, 11, 8, 1, 1, 2, .any, false⟩,
  ⟨0x7010, 0x05, 0x05, 8, 1, 1, 2, 2, .any, false⟩,
  ⟨0x7010, 0x06, 0x06, 2, 2, 6, 2, 1, .between 512 1024, false⟩,
  ⟨0x7010, 0x07, 0x07, 3, 4, 6, 2, 1, .between 0 60000, false⟩,
  ⟨0x7010, 0x08, 0x08, 3, 4, 7, 2, 3, .any, false⟩,
  ⟨0x7010, 0x09, 0x09, 8, 1, 3, 2, 4, .oneOf [0, 2, 3], false⟩,
  ⟨0x7011, 0x01, 0x05, 2, 2, 1, 2, 4, .between 0 850, false⟩,
  ⟨0x7011, 0x06, 0x0A, 5, 2, 1, 2, 4, .signed (-300) 150, false⟩,
  ⟨0x7030, 0x01, 0x04, 2, 2, 1, 2, 4, .between 0 4095, false⟩,
  ⟨0x7030, 0x05, 0x05, 2, 2, 1, 2, 4, .between 0 4095, false⟩,
  ⟨0x7030, 0x06, 0x06, 2, 2, 6, 2, 1, .between 1024 1434, false⟩,
  ⟨0x7100, 0x01, 0x01, 5, 2, 6, 2, 1, .signed 80 119, false⟩,
  ⟨0x7100, 0x02, 0x02, 5, 2, 6, 2, 1, .signed 60 105, false⟩,
  ⟨0x7100, 0x03, 0x03, 5, 2, 6, 2, 1, .signed 85 124, false⟩,
  ⟨0x7100, 0x04, 0x04, 1, 1, 6, 2, 1, .between 1 20, false⟩,
  ⟨0x7100, 0x05, 0x05, 3, 4, 6, 2, 1, .between 0 60000, false⟩,
  ⟨0x7100, 0x06, 0x06, 3, 4, 6, 2, 1, .between 500 100000, false⟩]

/-- Entries 0x7xxx, part 2. -/
def rows7b : List Row := [
  ⟨0x7100, 0x07, 0x07, 3, 4, 6, 2, 1, .between 5000 100000, false⟩,
  ⟨0x7100, 0x08, 0x08, 5, 2, 6, 2, 1, .signed (-40) 40, false⟩,
  ⟨0x7100, 0x09, 0x09, 5, 2, 6, 2, 1, .signed 60 105, false⟩,
  ⟨0x7100, 0x0A, 0x0A, 10, 8, 5, 2, 1, .any, false⟩,
  ⟨0x7100, 0x0B, 0x0B, 9, 4, 5, 2, 1, .bits 0xF, false⟩,
  ⟨0x7101, 0x01, 0x01, 8, 1, 1, 1, 4, .between 0 4, false⟩,
  ⟨0x7101, 0x02, 0x02, 1, 1, 1, 2, 4, .any, false⟩,
  ⟨0x7101, 0x03, 0x03, 3, 4, 7, 2, 3, .any, false⟩,
  ⟨0x7101, 0x04, 0x04, 3, 4, 7, 2, 3, .any, false⟩,
  ⟨0x7101, 0x05, 0x05, 10, 8, 1, 2, 3, .any, false⟩,
  ⟨0x7101, 0x06, 0x06, 4, 8, 7, 2, 3, .any, false⟩,
  ⟨0x7101, 0x07, 0x07, 5, 2, 1, 2, 2, .any, false⟩,
  ⟨0x7102, 0x01, 0x40, 5, 2, 1, 1, 4, .signed (-240) 640, false⟩,
  ⟨0x7103, 0x01, 0x01, 14, 0, 1, 2, 4, .any, false⟩,
  ⟨0x7200, 0x01, 0x01, 8, 1, 1, 1, 2, .any, false⟩,
  ⟨0x7200, 0x02, 0x02, 11, 8, 1, 1, 2, .any, false⟩,
  ⟨0x7200, 0x03, 0x03, 8, 1, 3, 2, 4, .oneOf [1, 2], false⟩,
  ⟨0x7200, 0x04, 0x04, 3, 4, 5, 2, 1, .between 100 60000, false⟩,
  ⟨0x7200, 0x05, 0x05, 7, 1, 5, 3, 1, .between 0 1, false⟩,
  ⟨0x7200, 0x06, 0x06, 3, 4, 1, 2, 2, .any, false⟩,
  ⟨0x7200, 0x07, 0x07, 9, 4, 1, 2, 2, .bits 0x1FFFF, false⟩,
  ⟨0x7200, 0x08, 0x08, 3, 4, 1, 2, 2, .between 0 25000, false⟩,
  ⟨0x7201, 0x01, 0x01, 3, 4, 1, 2, 1, .any, false⟩,
  ⟨0x7201, 0x02, 0x09, 3, 4, 1, 2, 2, .any, false⟩]

/-- Entries 0x8xxx, part 1. -/
def rows8a : List Row := [
  ⟨0x8000, 0x01, 0x01, 2, 2, 6, 2, 1, .between 100 5000, false⟩,
  ⟨0x8000, 0x02, 0x02, 8, 1, 1, 1, 3, .oneOf [0, 1], false⟩,
  ⟨0x8001, 0x01, 0x04, 3, 4, 3, 3, 4, .any, false⟩,
  ⟨0x8001, 0x05, 0x05, 1, 1, 3, 3, 4, .between 62 63, false⟩,
  ⟨0x8001, 0x06, 0x06, 1, 1, 3, 3, 4, .between 62 63, false⟩,
  ⟨0x8001, 0x07, 0x07, 8, 1, 3, 3, 4, .oneOf [1], false⟩,
  ⟨0x8002, 0x01, 0x01, 4, 8, 7, 2, 3, .any, false⟩,
  ⟨0x8002, 0x02, 0x02, 4, 8, 7, 2, 3, .any, false⟩,
  ⟨0x8002, 0x03, 0x03, 4, 8, 7, 2, 3, .any, false⟩,
  ⟨0x8002, 0x04, 0x04, 3, 4, 7, 2, 3, .any, false⟩,
  ⟨0x8002, 0x05, 0x05, 3, 4, 1, 2, 1, .between 0 100000, false⟩,
  ⟨0x8002, 0x06, 0x06, 3, 4, 1, 2, 3, .any, false⟩,
  ⟨0x8002, 0x07, 0x07, 1, 1, 1, 2, 3, .between 0 3, false⟩,
  ⟨0x8010, 0x01, 0x01, 8, 1, 1, 1, 3, .oneOf [1, 2], false⟩,
  ⟨0x8010, 0x02, 0x02, 4, 8, 1, 1, 3, .any, false⟩,
  ⟨0x8010, 0x03, 0x03, 8, 1, 1, 2, 1, .oneOf [0, 1, 2], false⟩,
  ⟨0x8010, 0x04, 0x05, 4, 8, 1, 2, 1, .any, false⟩,
  ⟨0x8010, 0x06, 0x06, 7, 1, 1, 2, 4, .between 0 1, false⟩,
  ⟨0x8010, 0x07, 0x07, 7, 1, 1, 2, 3, .between 0 1, false⟩,
  ⟨0x8010, 0x08, 0x08, 2, 2, 1, 1, 1, .between 0 63, false⟩,
  ⟨0x8010, 0x09, 0x09, 2, 2, 3, 2, 4, .between 1 63, false⟩,
  ⟨0x8010, 0x0A, 0x0A, 14, 0, 3, 2, 4, .any, false⟩,
  ⟨0x8100, 0x01, 0x01, 14, 0, 1, 1, 1, .any, false⟩,
  ⟨0x8100, 0x02, 0x02, 13, 32, 3, 1, 4, .any, false⟩,
  ⟨0x8100, 0x03, 0x03, 14, 0, 1, 1, 4, .any, false⟩,
  ⟨0x8100, 0x04, 0x04, 8, 1, 5, 2, 1, .oneOf [1, 2], false⟩,
  ⟨0x8110, 0x01, 0x01, 14, 0, 1, 2, 1, .any, false⟩,
  ⟨0x8110, 0x02, 0x02, 14, 0, 3, 2, 4, .any, false⟩,
  ⟨0x8110, 0x03, 0x03, 14, 0, 3, 2, 4, .any, false⟩,
  ⟨0x8120, 0x01, 0x01, 13, 32, 1, 2, 4, .any, false⟩,
  ⟨0x8120, 0x02, 0x02, 14, 0, 3, 2, 4, .any, false⟩,
  ⟨0x8120, 0x03, 0x03, 8, 1, 3, 2, 4, .oneOf [1], false⟩,
  ⟨0x8120, 0x04, 0x04, 8, 1, 1, 1, 4, .oneOf [0, 1, 2], false⟩,
  ⟨0x8120, 0x05, 0x05, 1, 1, 1, 2, 3, .between 0 5, false⟩,
  ⟨0x8130, 0x01, 0x01, 3, 4, 1, 2, 1, .any, false⟩,
  ⟨0x8130, 0x02, 0x02, 3, 4, 1, 2, 4, .any, false⟩]

/-- Entries 0x9xxx, part 1. -/
def rows9a : List Row := [
  ⟨0x9000, 0x01, 0x01, 8, 1, 6, 2, 1, .between 0 5, false⟩,
  ⟨0x9000, 0x02, 0x02, 8, 1, 6, 2, 1, .between 0 2, false⟩,
  ⟨0x9000, 0x03, 0x03, 3, 4, 6, 2, 1, .between 10 60000, false⟩,
  ⟨0x9000, 0x04, 0x04, 3, 4, 6, 2, 1, .between 64 65536, false⟩,
  ⟨0x9000, 0x05, 0x05, 8, 1, 3, 2, 4, .oneOf [1], false⟩,
  ⟨0x9000, 0x06, 0x06, 14, 0, 1, 1, 1, .any, false⟩,
  ⟨0x9001, 0x01, 0x01, 4, 8, 1, 1, 1, .any, false⟩,
  ⟨0x9001, 0x02, 0x02, 3, 4, 1, 2, 4, .between 0 268435456, false⟩,
  ⟨0x9001, 0x03, 0x03, 4, 8, 7, 2, 3, .any, false⟩,
  ⟨0x9001, 0x04, 0x04, 3, 4, 7, 2, 3, .any, false⟩,
  ⟨0x9001, 0x05, 0x05, 3, 4, 1, 2, 1, .between 0 32768, false⟩,
  ⟨0x9001, 0x06, 0x06, 3, 4, 7, 2, 3, .any, false⟩,
  ⟨0x9001, 0x07, 0x07, 3, 4, 7, 2, 2, .any, false⟩,
  ⟨0x9001, 0x08, 0x08, 3, 4, 7, 2, 3, .any, false⟩,
  ⟨0x9001, 0x09, 0x09, 3, 4, 7, 2, 3, .any, false⟩,
  ⟨0x9100, 0x01, 0x01, 10, 8, 4, 2, 3, .bits 0x71FFFFF, false⟩,
  ⟨0x9100, 0x02, 0x02, 2, 2, 6, 2, 1, .between 10 65535, false⟩,
  ⟨0x9100, 0x03, 0x03, 8, 1, 3, 2, 4, .oneOf [1], false⟩,
  ⟨0x9100, 0x04, 0x04, 14, 0, 1, 2, 1, .any, false⟩,
  ⟨0x9101, 0x01, 0x01, 2, 2, 1, 2, 4, .between 0 8192, false⟩,
  ⟨0x9101, 0x02, 0x02, 3, 4, 7, 2, 3, .any, false⟩,
  ⟨0x9101, 0x03, 0x03, 2, 2, 1, 2, 4, .any, false⟩,
  ⟨0x9101, 0x04, 0x04, 14, 0, 1, 2, 4, .any, false⟩,
  ⟨0x9110, 0x01, 0x02, 14, 0, 1, 1, 3, .any, true⟩,
  ⟨0x9110, 0x03, 0x03, 9, 4, 3, 1, 4, .bits 0x3, true⟩,
  ⟨0x9111, 0x01, 0x80, 14, 0, 1, 2, 3, .any, false⟩,
  ⟨0x9112, 0x01, 0x80, 14, 0, 1, 2, 3, .any, false⟩,
  ⟨0x9113, 0x01, 0x01, 13, 32, 3, 2, 4, .any, false⟩,
  ⟨0x9120, 0x01, 0x01, 13, 32, 6, 2, 1, .any, false⟩,
  ⟨0x9120, 0x02, 0x02, 3, 4, 6, 2, 1, .between 60 604800, false⟩,
  ⟨0x9120, 0x03, 0x03, 1, 1, 6, 2, 1, .between 16 30, false⟩,
  ⟨0x9120, 0x04, 0x04, 13, 16, 3, 2, 4, .any, false⟩,
  ⟨0x9120, 0x05, 0x05, 13, 16, 1, 2, 4, .any, false⟩,
  ⟨0x9121, 0x01, 0x80, 14, 0, 1, 2, 3, .any, false⟩,
  ⟨0x9122, 0x01, 0x80, 14, 0, 1, 2, 3, .any, false⟩]

/-- The rows of the index range an index lies in. -/
def rowsOf (idx : Nat) : List Row :=
  if idx / 0x1000 = 0x1 then rows1a
  else if idx / 0x1000 = 0x2 then rows2a ++ rows2b
  else if idx / 0x1000 = 0x3 then rows3a ++ rows3b
  else if idx / 0x1000 = 0x4 then rows4a ++ rows4b
  else if idx / 0x1000 = 0x5 then rows5a ++ rows5b
  else if idx / 0x1000 = 0x6 then rows6a
  else if idx / 0x1000 = 0x7 then rows7a ++ rows7b
  else if idx / 0x1000 = 0x8 then rows8a
  else if idx / 0x1000 = 0x9 then rows9a
  else []

/-- The highest subindex of each index (R416: the value of subindex 0x00). -/
def subCounts : List (Nat × Nat) := [
  (0x1000, 0x04), (0x1100, 0x0B), (0x1200, 0x04), (0x1201, 0x04), (0x1210, 0x05), (0x1211, 0x02),
  (0x1230, 0x02), (0x2000, 0x06), (0x2001, 0x02), (0x2002, 0x05), (0x2100, 0x08), (0x2101, 0x05),
  (0x2110, 0x09), (0x2120, 0x05), (0x2130, 0x40), (0x2131, 0x40), (0x2132, 0x40), (0x2133, 0x40),
  (0x2200, 0x05), (0x2210, 0x03), (0x2220, 0x05), (0x3000, 0x04), (0x3010, 0x08), (0x3020, 0x80),
  (0x3021, 0x80), (0x3022, 0x80), (0x3023, 0x80), (0x3030, 0x01), (0x3100, 0x0A), (0x3101, 0x0F),
  (0x3102, 0x01), (0x3110, 0x07), (0x3111, 0x01), (0x3200, 0x03), (0x3201, 0x09), (0x3202, 0x07),
  (0x3203, 0x06), (0x3300, 0x04), (0x4000, 0x07), (0x4001, 0x08), (0x4002, 0x07), (0x4003, 0x02),
  (0x4010, 0x80), (0x4011, 0x80), (0x4012, 0x01), (0x4013, 0x01), (0x4100, 0x0A), (0x4101, 0x04),
  (0x4102, 0x04), (0x4103, 0x0D), (0x4104, 0x09), (0x4105, 0x08), (0x4106, 0x01), (0x4200, 0x04),
  (0x4201, 0x0B), (0x4202, 0x07), (0x4203, 0x01), (0x5000, 0x07), (0x5001, 0x06), (0x5002, 0x05),
  (0x5003, 0x05), (0x5010, 0x06), (0x5100, 0x06), (0x5101, 0x0A), (0x5102, 0x05), (0x5103, 0x0C),
  (0x5104, 0x0C), (0x5110, 0x28), (0x5200, 0x03), (0x5201, 0x10), (0x5202, 0x0B), (0x5203, 0x02),
  (0x5204, 0x01), (0x6000, 0x06), (0x6001, 0x0A), (0x6002, 0x01), (0x7000, 0x0A), (0x7001, 0x0A),
  (0x7010, 0x09), (0x7011, 0x0A), (0x7030, 0x06), (0x7100, 0x0B), (0x7101, 0x07), (0x7102, 0x40),
  (0x7103, 0x01), (0x7200, 0x08), (0x7201, 0x09), (0x8000, 0x02), (0x8001, 0x07), (0x8002, 0x07),
  (0x8010, 0x0A), (0x8100, 0x04), (0x8110, 0x03), (0x8120, 0x05), (0x8130, 0x02), (0x9000, 0x06),
  (0x9001, 0x09), (0x9100, 0x04), (0x9101, 0x04), (0x9110, 0x03), (0x9111, 0x80), (0x9112, 0x80),
  (0x9113, 0x01), (0x9120, 0x05), (0x9121, 0x80), (0x9122, 0x80)]

/-- Defaults that are not 0: index, first and last subindex, value (octet strings and text little-endian). -/
def defaultsa : List (Nat × Nat × Nat × Nat) := [
  (0x1000, 0x01, 0x01, 0x20202020202020202020303033324253),
  (0x1000, 0x03, 0x03, 0x4230),
  (0x1100, 0x08, 0x08, 0x20202020202020202020202020202020202020202020202020202020202020202020303033324253),
  (0x1210, 0x01, 0x01, 0x80),
  (0x1210, 0x03, 0x03, 0x2),
  (0x1210, 0x04, 0x04, 0x1),
  (0x1230, 0x01, 0x02, 0x5),
  (0x2000, 0x02, 0x03, 0x6),
  (0x2000, 0x04, 0x04, 0x1FF),
  (0x2000, 0x05, 0x05, 0x1EB5),
  (0x2000, 0x06, 0x06, 0x2300),
  (0x2001, 0x01, 0x02, 0x1),
  (0x2100, 0x01, 0x01, 0x40000),
  (0x2100, 0x03, 0x03, 0x29A),
  (0x2100, 0x04, 0x04, 0x100),
  (0x2100, 0x05, 0x05, 0x19A),
  (0x2101, 0x01, 0x01, 0x8000),
  (0x2101, 0x03, 0x03, 0xA0),
  (0x2101, 0x04, 0x04, 0x40),
  (0x2101, 0x05, 0x05, 0x8000),
  (0x2110, 0x04, 0x04, 0x64),
  (0x2110, 0x06, 0x06, 0x1),
  (0x2110, 0x08, 0x08, 0x1),
  (0x2110, 0x09, 0x09, 0x40),
  (0x2200, 0x01, 0x01, 0x400),
  (0x2200, 0x02, 0x02, 0x40),
  (0x3010, 0x01, 0x01, 0x4000),
  (0x3010, 0x02, 0x02, 0x4000),
  (0x3010, 0x06, 0x06, 0x15180),
  (0x3010, 0x07, 0x07, 0x93A80),
  (0x3100, 0x01, 0x01, 0x10),
  (0x3100, 0x07, 0x07, 0x40),
  (0x3100, 0x09, 0x09, 0x10000),
  (0x3101, 0x01, 0x01, 0x20),
  (0x3101, 0x02, 0x02, 0x40),
  (0x3101, 0x03, 0x03, 0x4),
  (0x3101, 0x04, 0x04, 0x40),
  (0x3101, 0x05, 0x05, 0x1E13380),
  (0x3101, 0x06, 0x06, 0xED4E00),
  (0x3101, 0x07, 0x07, 0x76A700)]

def defaultsb : List (Nat × Nat × Nat × Nat) := [
  (0x3101, 0x08, 0x08, 0x278D00),
  (0x3101, 0x09, 0x09, 0x66),
  (0x3110, 0x04, 0x04, 0x1000000),
  (0x3200, 0x01, 0x01, 0x1F4),
  (0x3200, 0x02, 0x02, 0xFFFF),
  (0x3200, 0x03, 0x03, 0xFFFFFFFF),
  (0x3300, 0x01, 0x01, 0xFFFF),
  (0x4000, 0x01, 0x01, 0xE10),
  (0x4000, 0x03, 0x03, 0x96),
  (0x4000, 0x04, 0x04, 0x2),
  (0x4000, 0x05, 0x05, 0x186A0),
  (0x4000, 0x06, 0x06, 0x15180),
  (0x4000, 0x07, 0x07, 0xC8),
  (0x4001, 0x01, 0x01, 0x1),
  (0x4010, 0x01, 0x80, 0x2),
  (0x4011, 0x01, 0x80, 0x2),
  (0x4100, 0x01, 0x01, 0x1),
  (0x4100, 0x02, 0x02, 0x40),
  (0x4100, 0x03, 0x03, 0x1),
  (0x4100, 0x04, 0x04, 0x30),
  (0x4100, 0x05, 0x05, 0xC),
  (0x4100, 0x06, 0x06, 0x2),
  (0x4100, 0x07, 0x07, 0x3),
  (0x4100, 0x08, 0x08, 0x5),
  (0x4100, 0x09, 0x09, 0x8),
  (0x4100, 0x0A, 0x0A, 0x1),
  (0x4101, 0x01, 0x01, 0x30),
  (0x4101, 0x02, 0x02, 0x60),
  (0x4101, 0x03, 0x03, 0x78),
  (0x4101, 0x04, 0x04, 0x90),
  (0x4102, 0x01, 0x01, 0x278D00),
  (0x4102, 0x02, 0x02, 0x127500),
  (0x4102, 0x03, 0x03, 0x93A80),
  (0x4102, 0x04, 0x04, 0x3F480),
  (0x4200, 0x01, 0x01, 0x2),
  (0x4200, 0x02, 0x02, 0x32),
  (0x4200, 0x03, 0x03, 0xC8),
  (0x4201, 0x01, 0x01, 0xEA60),
  (0x4201, 0x02, 0x02, 0xAFC8),
  (0x4201, 0x03, 0x03, 0x7530)]

def defaultsc : List (Nat × Nat × Nat × Nat) := [
  (0x4201, 0x04, 0x04, 0x32),
  (0x4201, 0x05, 0x05, 0x5A),
  (0x4201, 0x06, 0x06, 0x46),
  (0x4201, 0x07, 0x07, 0x12C),
  (0x4201, 0x08, 0x08, 0xFFFFFFFF),
  (0x5000, 0x01, 0x01, 0x2220),
  (0x5000, 0x02, 0x02, 0x1900),
  (0x5000, 0x03, 0x03, 0xC),
  (0x5000, 0x04, 0x04, 0x4),
  (0x5000, 0x05, 0x05, 0x800),
  (0x5000, 0x06, 0x06, 0x2),
  (0x5000, 0x07, 0x07, 0xA),
  (0x5001, 0x01, 0x01, 0x8082000),
  (0x5001, 0x02, 0x02, 0x10104000),
  (0x5001, 0x03, 0x03, 0x20208080),
  (0x5001, 0x04, 0x04, 0x40410100),
  (0x5001, 0x05, 0x05, 0x80820200),
  (0x5001, 0x06, 0x06, 0x101040000),
  (0x5002, 0x04, 0x04, 0x3E8),
  (0x5002, 0x05, 0x05, 0x1F4),
  (0x5010, 0x01, 0x06, 0x3),
  (0x5100, 0x01, 0x01, 0x4),
  (0x5100, 0x02, 0x02, 0x30),
  (0x5100, 0x03, 0x03, 0x18),
  (0x5100, 0x04, 0x04, 0x20),
  (0x5100, 0x05, 0x05, 0x14),
  (0x5100, 0x06, 0x06, 0x1),
  (0x5103, 0x01, 0x01, 0x400),
  (0x5103, 0x02, 0x02, 0x600),
  (0x5103, 0x03, 0x03, 0xC0),
  (0x5103, 0x04, 0x04, 0x40),
  (0x5103, 0x05, 0x05, 0xA),
  (0x5103, 0x06, 0x06, 0x4000),
  (0x5103, 0x07, 0x07, 0x200),
  (0x5103, 0x08, 0x08, 0x300),
  (0x5103, 0x09, 0x09, 0x60),
  (0x5103, 0x0A, 0x0A, 0x20),
  (0x5103, 0x0B, 0x0B, 0x5),
  (0x5103, 0x0C, 0x0C, 0x2000),
  (0x5104, 0x01, 0x01, 0x200000000000)]

def defaultsd : List (Nat × Nat × Nat × Nat) := [
  (0x5104, 0x02, 0x02, 0x300000000000),
  (0x5104, 0x03, 0x03, 0x60000000000),
  (0x5104, 0x04, 0x04, 0x20000000000),
  (0x5104, 0x05, 0x05, 0x5000000000),
  (0x5104, 0x06, 0x06, 0x3000000000000),
  (0x5104, 0x07, 0x07, 0x200000000000),
  (0x5104, 0x08, 0x08, 0x300000000000),
  (0x5104, 0x09, 0x09, 0x60000000000),
  (0x5104, 0x0A, 0x0A, 0x20000000000),
  (0x5104, 0x0B, 0x0B, 0x5000000000),
  (0x5104, 0x0C, 0x0C, 0x3000000000000),
  (0x5200, 0x01, 0x01, 0xE10),
  (0x5200, 0x02, 0x02, 0x3C),
  (0x5200, 0x03, 0x03, 0x1),
  (0x6000, 0x03, 0x03, 0x7D0),
  (0x6000, 0x04, 0x04, 0x32),
  (0x6000, 0x05, 0x05, 0x6),
  (0x6000, 0x06, 0x06, 0x2710),
  (0x6002, 0x01, 0x01, 0x4),
  (0x7000, 0x01, 0x01, 0x2AF8),
  (0x7000, 0x02, 0x02, 0x28A0),
  (0x7000, 0x03, 0x03, 0x2134),
  (0x7000, 0x04, 0x04, 0xC8),
  (0x7000, 0x05, 0x05, 0xC8),
  (0x7000, 0x07, 0x07, 0x3),
  (0x7000, 0x0A, 0x0A, 0x1),
  (0x7001, 0x01, 0x01, 0x88B8),
  (0x7001, 0x02, 0x02, 0x2EE0),
  (0x7001, 0x03, 0x03, 0x64),
  (0x7001, 0x04, 0x04, 0x14),
  (0x7001, 0x05, 0x05, 0x384),
  (0x7001, 0x06, 0x06, 0x78),
  (0x7010, 0x02, 0x02, 0x7F),
  (0x7010, 0x06, 0x06, 0x333),
  (0x7010, 0x07, 0x07, 0x64),
  (0x7030, 0x06, 0x06, 0x433),
  (0x7100, 0x01, 0x01, 0x6E),
  (0x7100, 0x02, 0x02, 0x5F),
  (0x7100, 0x03, 0x03, 0x78),
  (0x7100, 0x04, 0x04, 0x5)]

def defaultse : List (Nat × Nat × Nat × Nat) := [
  (0x7100, 0x05, 0x05, 0x7D0),
  (0x7100, 0x06, 0x06, 0x1D4C),
  (0x7100, 0x07, 0x07, 0x2710),
  (0x7100, 0x09, 0x09, 0x55),
  (0x7101, 0x02, 0x02, 0xFF),
  (0x7101, 0x07, 0x07, 0xFFC4),
  (0x7200, 0x01, 0x01, 0x1),
  (0x7200, 0x04, 0x04, 0x7D0),
  (0x7200, 0x05, 0x05, 0x1),
  (0x8000, 0x01, 0x01, 0x1F4),
  (0x8100, 0x04, 0x04, 0x2),
  (0x9000, 0x01, 0x01, 0x4),
  (0x9000, 0x02, 0x02, 0x1),
  (0x9000, 0x03, 0x03, 0x3E8),
  (0x9000, 0x04, 0x04, 0x1000),
  (0x9100, 0x02, 0x02, 0x3E8),
  (0x9120, 0x02, 0x02, 0xE10),
  (0x9120, 0x03, 0x03, 0x14)]

/-- The default of an entry, from the tables. -/
def defaultFrom : List (Nat × Nat × Nat × Nat) → Nat → Nat → Nat
  | [], _, _ => 0
  | (i, lo, hi, v) :: r, idx, sub =>
    if i = idx then (if lo ≤ sub ∧ sub ≤ hi then v else defaultFrom r idx sub) else defaultFrom r idx sub

/-- The row of an entry; subindex 0x00 of every index that exists is U8 RO (R416). -/
def rowOf (idx sub : Nat) : Option Row :=
  if sub = 0 then (if subCounts.any (fun p => p.1 == idx) then some ⟨idx, 0, 0, 1, 1, 1, 1, 1, .any, false⟩ else none)
  else (rowsOf idx).find? (fun r => r.idx == idx && r.lo <= sub && sub <= r.hi)

/-- The key of an entry: index, subindex, and instance field (0 the package's own value, n + 1 instance n's). -/
def entryKey (idx sub inst : Nat) : Nat := (idx * 256 + sub) * 2048 + inst

/-- The default of an entry (R416: subindex 0x00 holds the highest subindex). Defaults of the tables "per fuse",
"per part" and "power-on" are set by State.reset and POWER_ON. -/
def defaultOf (key : Nat) : Nat :=
  let e := key / 2048
  let idx := e / 256
  let sub := e % 256
  if sub = 0 then (subCounts.find? (fun p => p.1 == idx)).elim 0 Prod.snd
  else if idx < 0x3101 then defaultFrom (defaultsa) idx sub
  else if idx = 0x3101 then defaultFrom (defaultsa ++ defaultsb) idx sub
  else if idx < 0x4201 then defaultFrom (defaultsb) idx sub
  else if idx = 0x4201 then defaultFrom (defaultsb ++ defaultsc) idx sub
  else if idx < 0x5104 then defaultFrom (defaultsc) idx sub
  else if idx = 0x5104 then defaultFrom (defaultsc ++ defaultsd) idx sub
  else if idx < 0x7100 then defaultFrom (defaultsd) idx sub
  else if idx = 0x7100 then defaultFrom (defaultsd ++ defaultse) idx sub
  else defaultFrom defaultse idx sub

end Sys2Proof.Machine
end

