-- ==== Sys2Proof/Machine/Keys.lean ====
section
/-! DEFINITION. Machine/Keys.lean: the key of every dictionary entry under its name. An entry that exists once per unit
has the key of its first unit; unit i stands at `unitKey k i`, instance n's value of a per-instance entry at `instKey k n`. -/
namespace Sys2Proof.Machine

/-- The key of unit `i` of an entry that exists once per unit (R7). -/
def unitKey (k i : Nat) : Nat := k + i * 2048

/-- The key of instance `n`'s value of an entry that exists once per instance (R43). -/
def instKey (k n : Nat) : Nat := k + n + 1

namespace K
def partNumber : Nat := 0x80000800 -- 0x1000.01
def orderingCode : Nat := 0x80001000 -- 0x1000.02
def stepping : Nat := 0x80001800 -- 0x1000.03
def serialNumber : Nat := 0x80002000 -- 0x1000.04
def baseImageId : Nat := 0x88000800 -- 0x1100.01
def overlaySelect : Nat := 0x88001000 -- 0x1100.02
def overlayPresent : Nat := 0x88001800 -- 0x1100.03
def imageLoad : Nat := 0x88002000 -- 0x1100.04
def journalUsed : Nat := 0x88002800 -- 0x1100.05
def configRevert : Nat := 0x88003000 -- 0x1100.06
def nvmeSerial : Nat := 0x88003800 -- 0x1100.07
def nvmeModel : Nat := 0x88004000 -- 0x1100.08
def overlayDelete : Nat := 0x88004800 -- 0x1100.09
def imageRejectRecord : Nat := 0x88005000 -- 0x1100.0A
def overlayImageId : Nat := 0x88005800 -- 0x1100.0B
def nodeId : Nat := 0x90000800 -- 0x1200.01
def nodeIdSet : Nat := 0x90001000 -- 0x1200.02
def calendarTime : Nat := 0x90001800 -- 0x1200.03
def calendarSlew : Nat := 0x90002000 -- 0x1200.04
def mpRequests : Nat := 0x90080800 -- 0x1201.01
def mpRefused : Nat := 0x90081000 -- 0x1201.02
def mpLastRefusal : Nat := 0x90081800 -- 0x1201.03
def mpCheckDrops : Nat := 0x90082000 -- 0x1201.04
def tideLength : Nat := 0x90800800 -- 0x1210.01
def tideCounter : Nat := 0x90801000 -- 0x1210.02
def tideCloseMargin : Nat := 0x90801800 -- 0x1210.03
def settingsGenLive : Nat := 0x90802000 -- 0x1210.04
def stageRefused : Nat := 0x90802800 -- 0x1210.05
def timeBaseSelect : Nat := 0x90880800 -- 0x1211.01
def timeBaseActive : Nat := 0x90881000 -- 0x1211.02
def i3cNegotiation : Nat := 0x91800800 -- 0x1230.01
def portMode : Nat := 0x100000800 -- 0x2000.01
def targetSpeed : Nat := 0x100001000 -- 0x2000.02
def vfSplit : Nat := 0x100002000 -- 0x2000.04
def subsysVendorId : Nat := 0x100002800 -- 0x2000.05
def subsysId : Nat := 0x100003000 -- 0x2000.06
def pcieNegotiation : Nat := 0x100080800 -- 0x2001.01
def linkState : Nat := 0x100100800 -- 0x2002.01
def barBadAccess : Nat := 0x100101800 -- 0x2002.03
def windowOffAccess : Nat := 0x100102000 -- 0x2002.04
def windowRefused : Nat := 0x100102800 -- 0x2002.05
def queuePoolTotal : Nat := 0x108000800 -- 0x2100.01
def queuePoolFree : Nat := 0x108001000 -- 0x2100.02
def floorSum : Nat := 0x108001800 -- 0x2100.03
def urgentFloor : Nat := 0x108002000 -- 0x2100.04
def bgReserve : Nat := 0x108002800 -- 0x2100.05
def mbPending : Nat := 0x108003000 -- 0x2100.06
def mbManagerVector : Nat := 0x108003800 -- 0x2100.07
def capBuffer : Nat := 0x108080800 -- 0x2101.01
def capWriteBuffer : Nat := 0x108081000 -- 0x2101.02
def capDecode : Nat := 0x108081800 -- 0x2101.03
def capCompress : Nat := 0x108082000 -- 0x2101.04
def capQctx : Nat := 0x108082800 -- 0x2101.05
def instanceState : Nat := 0x108800800 -- 0x2110.01
def instanceCtrl : Nat := 0x108801000 -- 0x2110.02
def queuePairs : Nat := 0x108801800 -- 0x2110.03
def share : Nat := 0x108802000 -- 0x2110.04
def floor : Nat := 0x108802800 -- 0x2110.05
def coveBind : Nat := 0x108803000 -- 0x2110.06
def defaultCove : Nat := 0x108803800 -- 0x2110.07
def keyAuthority : Nat := 0x108804000 -- 0x2110.08
def maxSlices : Nat := 0x108804800 -- 0x2110.09
def keySession : Nat := 0x109000800 -- 0x2120.01
def keyEncap : Nat := 0x109001000 -- 0x2120.02
def keyDeliver : Nat := 0x109001800 -- 0x2120.03
def keyLoaded : Nat := 0x109002000 -- 0x2120.04
def keyCheckSet : Nat := 0x109002800 -- 0x2120.05
def slicePasid : Nat := 0x109800800 -- 0x2130.01
def sliceQueues : Nat := 0x109880800 -- 0x2131.01
def sliceCoves : Nat := 0x109900800 -- 0x2132.01
def sliceKeyMode : Nat := 0x109980800 -- 0x2133.01
def urgentCap : Nat := 0x110000800 -- 0x2200.01
def waitLimit : Nat := 0x110001000 -- 0x2200.02
def qctxMisses : Nat := 0x110001800 -- 0x2200.03
def overlapWaits : Nat := 0x110002000 -- 0x2200.04
def fetchGrants : Nat := 0x110002800 -- 0x2200.05
def orderMode : Nat := 0x110800800 -- 0x2210.01
def urgentDemoted : Nat := 0x110801000 -- 0x2210.02
def orderedBarriers : Nat := 0x110801800 -- 0x2210.03
def admitWait : Nat := 0x111000800 -- 0x2220.01
def covesDefined : Nat := 0x180000800 -- 0x3000.01
def privilegedCoves : Nat := 0x180001000 -- 0x3000.02
def thinLogicalTotal : Nat := 0x180001800 -- 0x3000.03
def capacityStateChanges : Nat := 0x180002000 -- 0x3000.04
def zoneOpenMax : Nat := 0x180800800 -- 0x3010.01
def zoneActiveMax : Nat := 0x180801000 -- 0x3010.02
def zonesActive : Nat := 0x180801800 -- 0x3010.03
def zonesOpen : Nat := 0x180802000 -- 0x3010.04
def implicitCloses : Nat := 0x180802800 -- 0x3010.05
def fzrAge : Nat := 0x180803000 -- 0x3010.06
def zfcAge : Nat := 0x180803800 -- 0x3010.07
def zonesDeviceChanged : Nat := 0x180804000 -- 0x3010.08
def coveDesc : Nat := 0x181000800 -- 0x3020.01
def coveDescHi : Nat := 0x181080800 -- 0x3021.01
def coveStatus : Nat := 0x181100800 -- 0x3022.01
def coveStatusHi : Nat := 0x181180800 -- 0x3023.01
def nsTmplQuota : Nat := 0x181800800 -- 0x3030.01
def metaBlocksPerDie : Nat := 0x188000800 -- 0x3100.01
def metaBytesTotal : Nat := 0x188001000 -- 0x3100.02
def metaBytesUsed : Nat := 0x188001800 -- 0x3100.03
def mapCacheBytes : Nat := 0x188002000 -- 0x3100.04
def mapResident : Nat := 0x188002800 -- 0x3100.05
def mapMisses : Nat := 0x188003000 -- 0x3100.06
def mapFlushTides : Nat := 0x188003800 -- 0x3100.07
def relocUsed : Nat := 0x188004000 -- 0x3100.08
def relocCapacity : Nat := 0x188004800 -- 0x3100.09
def metadataRepairs : Nat := 0x188005000 -- 0x3100.0A
def gcStartGroups : Nat := 0x188080800 -- 0x3101.01
def gcStopGroups : Nat := 0x188081000 -- 0x3101.02
def gcUrgentGroups : Nat := 0x188081800 -- 0x3101.03
def wearSpread : Nat := 0x188082000 -- 0x3101.04
def refreshAge : Nat := 0x188082800 -- 0x3101.05
def dieRetireFraction : Nat := 0x188084800 -- 0x3101.09
def gcCopies : Nat := 0x188085000 -- 0x3101.0A
def relocations : Nat := 0x188085800 -- 0x3101.0B
def refreshRewrites : Nat := 0x188086000 -- 0x3101.0C
def gcHostWaits : Nat := 0x188086800 -- 0x3101.0D
def blocksRetired : Nat := 0x188087000 -- 0x3101.0E
def diesRetired : Nat := 0x188087800 -- 0x3101.0F
def nandDieState : Nat := 0x188100800 -- 0x3102.01
def lossAck : Nat := 0x188800800 -- 0x3110.01
def lossSeqLast : Nat := 0x188801000 -- 0x3110.02
def lossEntries : Nat := 0x188801800 -- 0x3110.03
def lossCapacity : Nat := 0x188802000 -- 0x3110.04
def lossSupersets : Nat := 0x188802800 -- 0x3110.05
def lossPublishLagMax : Nat := 0x188803000 -- 0x3110.06
def lossBlocksPoisoned : Nat := 0x188803800 -- 0x3110.07
def lossMapAll : Nat := 0x188880800 -- 0x3111.01
def unitIdleMs : Nat := 0x190000800 -- 0x3200.01
def compressorsInService : Nat := 0x190001000 -- 0x3200.02
def decompressorsInService : Nat := 0x190001800 -- 0x3200.03
def framesClosed : Nat := 0x190080800 -- 0x3201.01
def framesStored : Nat := 0x190081000 -- 0x3201.02
def framesRaw : Nat := 0x190081800 -- 0x3201.03
def verifyMismatches : Nat := 0x190082000 -- 0x3201.04
def logicalBytesIn : Nat := 0x190082800 -- 0x3201.05
def storedBytesOut : Nat := 0x190083000 -- 0x3201.06
def unitsOpen : Nat := 0x190083800 -- 0x3201.07
def stagingBytes : Nat := 0x190084000 -- 0x3201.08
def outbufStalls : Nat := 0x190084800 -- 0x3201.09
def cutCount : Nat := 0x190100800 -- 0x3202.01
def dzErrors : Nat := 0x190180800 -- 0x3203.01
def dzNotReproduced : Nat := 0x190183000 -- 0x3203.06
def crcUnitsInService : Nat := 0x198000800 -- 0x3300.01
def crcLeaseWaits : Nat := 0x198001000 -- 0x3300.02
def crcSelftestFails : Nat := 0x198001800 -- 0x3300.03
def crcDisagree : Nat := 0x198002000 -- 0x3300.04
def nandTargetRate : Nat := 0x200000800 -- 0x4000.01
def nandIfPref : Nat := 0x200001000 -- 0x4000.02
def suspendMinRun : Nat := 0x200001800 -- 0x4000.03
def flushBlocksPerDie : Nat := 0x200002000 -- 0x4000.04
def holdupFlushPower : Nat := 0x200002800 -- 0x4000.05
def holdupTestInterval : Nat := 0x200003000 -- 0x4000.06
def wtLogDelay : Nat := 0x200003800 -- 0x4000.07
def writeThrough : Nat := 0x200080800 -- 0x4001.01
def atRiskLimit : Nat := 0x200081000 -- 0x4001.02
def atRiskBytes : Nat := 0x200081800 -- 0x4001.03
def holdupEnergy : Nat := 0x200082000 -- 0x4001.04
def flushRate : Nat := 0x200082800 -- 0x4001.05
def flushLast : Nat := 0x200083000 -- 0x4001.06
def wtLogBytes : Nat := 0x200083800 -- 0x4001.07
def atRiskWaits : Nat := 0x200084000 -- 0x4001.08
def suspends : Nat := 0x200100800 -- 0x4002.01
def suspendDeferrals : Nat := 0x200101000 -- 0x4002.02
def programFails : Nat := 0x200101800 -- 0x4002.03
def eraseFails : Nat := 0x200102000 -- 0x4002.04
def timeouts : Nat := 0x200102800 -- 0x4002.05
def busRetrains : Nat := 0x200103000 -- 0x4002.06
def timeOverruns : Nat := 0x200103800 -- 0x4002.07
def channelsOwned : Nat := 0x200180800 -- 0x4003.01
def channelsInService : Nat := 0x200181000 -- 0x4003.02
def nandNegotiation : Nat := 0x200800800 -- 0x4010.01
def nandNegotiationHi : Nat := 0x200880800 -- 0x4011.01
def nandTimes : Nat := 0x200900800 -- 0x4012.01
def nandGeometry : Nat := 0x200980800 -- 0x4013.01
def calEnable : Nat := 0x208000800 -- 0x4100.01
def calMinSamples : Nat := 0x208001000 -- 0x4100.02
def calStep : Nat := 0x208001800 -- 0x4100.03
def calLimit : Nat := 0x208002000 -- 0x4100.04
def ladderHardSteps : Nat := 0x208002800 -- 0x4100.05
def ladderSoft : Nat := 0x208003000 -- 0x4100.06
def softDelta : Nat := 0x208003800 -- 0x4100.07
def refreshStep : Nat := 0x208004000 -- 0x4100.08
def calPersistS : Nat := 0x208004800 -- 0x4100.09
def patrolEnable : Nat := 0x208005000 -- 0x4100.0A
def refreshBits : Nat := 0x208080800 -- 0x4101.01
def patrolLap : Nat := 0x208100800 -- 0x4102.01
def hardDecodes : Nat := 0x208180800 -- 0x4103.01
def hardFails : Nat := 0x208181000 -- 0x4103.02
def ladderHardOk : Nat := 0x208181800 -- 0x4103.03
def ladderSoftOk : Nat := 0x208182000 -- 0x4103.04
def ladderUncorrectable : Nat := 0x208182800 -- 0x4103.05
def calMoves : Nat := 0x208183000 -- 0x4103.06
def calDeferred : Nat := 0x208183800 -- 0x4103.07
def calSkippedSuspend : Nat := 0x208184000 -- 0x4103.08
def refreshMarks : Nat := 0x208184800 -- 0x4103.09
def pendingChecks : Nat := 0x208185000 -- 0x4103.0A
def retireVerdicts : Nat := 0x208185800 -- 0x4103.0B
def misdirected : Nat := 0x208186000 -- 0x4103.0C
def calAtLimit : Nat := 0x208186800 -- 0x4103.0D
def patrolLapLast : Nat := 0x208200800 -- 0x4104.01
def patrolProgress : Nat := 0x208202800 -- 0x4104.05
def patrolOverruns : Nat := 0x208204800 -- 0x4104.09
def readOffsets : Nat := 0x208280800 -- 0x4105.01
def readLevelMap : Nat := 0x208300800 -- 0x4106.01
def boundDieDepth : Nat := 0x210000800 -- 0x4200.01
def boundMinHold : Nat := 0x210001000 -- 0x4200.02
def suspendWindow : Nat := 0x210001800 -- 0x4200.03
def earlyReturn : Nat := 0x210002000 -- 0x4200.04
def nandPowerBudget : Nat := 0x210080800 -- 0x4201.01
def tokenCostRead : Nat := 0x210082000 -- 0x4201.04
def tokenCostProgram : Nat := 0x210082800 -- 0x4201.05
def tokenCostErase : Nat := 0x210083000 -- 0x4201.06
def tokenCostBus : Nat := 0x210083800 -- 0x4201.07
def thermalTokenLimit : Nat := 0x210084000 -- 0x4201.08
def tokensInForce : Nat := 0x210084800 -- 0x4201.09
def readReserve : Nat := 0x210085000 -- 0x4201.0A
def tokensHeld : Nat := 0x210085800 -- 0x4201.0B
def boundRefused : Nat := 0x210100800 -- 0x4202.01
def boundEarlyReturns : Nat := 0x210101000 -- 0x4202.02
def boundExcused : Nat := 0x210101800 -- 0x4202.03
def boundMissed : Nat := 0x210102000 -- 0x4202.04
def boundOversize : Nat := 0x210102800 -- 0x4202.05
def tokenWaits : Nat := 0x210103000 -- 0x4202.06
def admitHolds : Nat := 0x210103800 -- 0x4202.07
def boundStatus : Nat := 0x210180800 -- 0x4203.01
def dramGeometry : Nat := 0x280000800 -- 0x5000.01
def dramTargetRate : Nat := 0x280001000 -- 0x5000.02
def writeBufferGib : Nat := 0x280001800 -- 0x5000.03
def rowHitCap : Nat := 0x280002000 -- 0x5000.04
def actThreshold : Nat := 0x280002800 -- 0x5000.05
def rowBlast : Nat := 0x280003000 -- 0x5000.06
def oscDriftLimit : Nat := 0x280003800 -- 0x5000.07
def bankXorMask : Nat := 0x280080800 -- 0x5001.01
def dramBytes : Nat := 0x280100800 -- 0x5002.01
def dramRate : Nat := 0x280101000 -- 0x5002.02
def dramUsable : Nat := 0x280101800 -- 0x5002.03
def retrainPauseNs : Nat := 0x280102000 -- 0x5002.04
def retrainGapUs : Nat := 0x280102800 -- 0x5002.05
def rowMitigations : Nat := 0x280180800 -- 0x5003.01
def rowTableReplacements : Nat := 0x280181000 -- 0x5003.02
def retrainPauses : Nat := 0x280181800 -- 0x5003.03
def retrainDriftEvents : Nat := 0x280182000 -- 0x5003.04
def writeCrcRetries : Nat := 0x280182800 -- 0x5003.05
def dramNegotiation : Nat := 0x280800800 -- 0x5010.01
def poolMib : Nat := 0x288000800 -- 0x5100.01
def spillEnable : Nat := 0x288003000 -- 0x5100.06
def poolFree : Nat := 0x288080800 -- 0x5101.01
def poolBuffers : Nat := 0x288083000 -- 0x5101.06
def bpSpills : Nat := 0x288100800 -- 0x5102.01
def bpDoubleFrees : Nat := 0x288101000 -- 0x5102.02
def bpStaleHandles : Nat := 0x288101800 -- 0x5102.03
def bpRefOverflows : Nat := 0x288102000 -- 0x5102.04
def bpLastFault : Nat := 0x288102800 -- 0x5102.05
def wmThreshold : Nat := 0x288180800 -- 0x5103.01
def wmHysteresis : Nat := 0x288183800 -- 0x5103.07
def wmRecord : Nat := 0x288200800 -- 0x5104.01
def wmRecordRc : Nat := 0x288203800 -- 0x5104.07
def slicePoolFree : Nat := 0x288800800 -- 0x5110.01
def scrubLapDram : Nat := 0x290000800 -- 0x5200.01
def scrubLapSram : Nat := 0x290001000 -- 0x5200.02
def scrubEnable : Nat := 0x290001800 -- 0x5200.03
def eccCorrected : Nat := 0x290080800 -- 0x5201.01
def eccUncorrectable : Nat := 0x290083000 -- 0x5201.06
def hardFaults : Nat := 0x290085800 -- 0x5201.0B
def hardFaultOverflow : Nat := 0x290088000 -- 0x5201.10
def scrubLapLast : Nat := 0x290100800 -- 0x5202.01
def scrubProgress : Nat := 0x290103000 -- 0x5202.06
def scrubForced : Nat := 0x290105800 -- 0x5202.0B
def hardFaultTable : Nat := 0x290180800 -- 0x5203.01
def eccLastUe : Nat := 0x290181000 -- 0x5203.02
def eccTestDetects : Nat := 0x290200800 -- 0x5204.01
def pairEnable : Nat := 0x300000800 -- 0x6000.01
def pairId : Nat := 0x300001000 -- 0x6000.02
def pairDeadTime : Nat := 0x300001800 -- 0x6000.03
def pairFenceDefer : Nat := 0x300002000 -- 0x6000.04
def rinorTargetSpeed : Nat := 0x300002800 -- 0x6000.05
def pairFormTimeout : Nat := 0x300003000 -- 0x6000.06
def pairPosition : Nat := 0x300080800 -- 0x6001.01
def pairState : Nat := 0x300081000 -- 0x6001.02
def mirrorSeqSent : Nat := 0x300081800 -- 0x6001.03
def mirrorSeqAcked : Nat := 0x300082000 -- 0x6001.04
def mirrorBytesPending : Nat := 0x300082800 -- 0x6001.05
def takeovers : Nat := 0x300083000 -- 0x6001.06
def lastTakeoverUs : Nat := 0x300083800 -- 0x6001.07
def pairCtrl : Nat := 0x300084000 -- 0x6001.08
def mirrorWaits : Nat := 0x300084800 -- 0x6001.09
def mirrorResends : Nat := 0x300085000 -- 0x6001.0A
def rinorNegotiation : Nat := 0x300100800 -- 0x6002.01
def supplyWarnMv : Nat := 0x380000800 -- 0x7000.01
def supplyFlushMv : Nat := 0x380001000 -- 0x7000.02
def supplyResetMv : Nat := 0x380001800 -- 0x7000.03
def supplyHystMv : Nat := 0x380002000 -- 0x7000.04
def tHoldUs : Nat := 0x380002800 -- 0x7000.05
def supplyNowMv : Nat := 0x380003000 -- 0x7000.06
def supplyState : Nat := 0x380003800 -- 0x7000.07
def supplyDips : Nat := 0x380004000 -- 0x7000.08
def supplyLastMinMv : Nat := 0x380004800 -- 0x7000.09
def pfailEnable : Nat := 0x380005000 -- 0x7000.0A
def huTargetMv : Nat := 0x380080800 -- 0x7001.01
def huVminMv : Nat := 0x380081000 -- 0x7001.02
def huTestLoadOhm : Nat := 0x380081800 -- 0x7001.03
def huTestMs : Nat := 0x380082000 -- 0x7001.04
def huEfficiency : Nat := 0x380082800 -- 0x7001.05
def huChargeTimeoutS : Nat := 0x380083000 -- 0x7001.06
def huBankMv : Nat := 0x380083800 -- 0x7001.07
def huCapacitanceUf : Nat := 0x380084000 -- 0x7001.08
def huTestResult : Nat := 0x380084800 -- 0x7001.09
def huTestNow : Nat := 0x380085000 -- 0x7001.0A
def powerState : Nat := 0x380800800 -- 0x7010.01
def wakeEnable : Nat := 0x380801000 -- 0x7010.02
def lastWake : Nat := 0x380801800 -- 0x7010.03
def lastWakeTime : Nat := 0x380802000 -- 0x7010.04
def sleepResult : Nat := 0x380802800 -- 0x7010.05
def ebbSpeed : Nat := 0x380803000 -- 0x7010.06
def ebbIdleMs : Nat := 0x380803800 -- 0x7010.07
def sleepAborts : Nat := 0x380804000 -- 0x7010.08
def powerRequest : Nat := 0x380804800 -- 0x7010.09
def coreMv : Nat := 0x380880800 -- 0x7011.01
def bodyBiasMv : Nat := 0x380883000 -- 0x7011.06
def speedBay : Nat := 0x381800800 -- 0x7030.01
def speedHub : Nat := 0x381802800 -- 0x7030.05
def speedGuard : Nat := 0x381803000 -- 0x7030.06
def throttleC : Nat := 0x388000800 -- 0x7100.01
def boardC : Nat := 0x388001000 -- 0x7100.02
def critC : Nat := 0x388001800 -- 0x7100.03
def thermalHystC : Nat := 0x388002000 -- 0x7100.04
def throttleGraceMs : Nat := 0x388002800 -- 0x7100.05
def throttleStepMw : Nat := 0x388003000 -- 0x7100.06
def throttleFloorMw : Nat := 0x388003800 -- 0x7100.07
def nandTempMinC : Nat := 0x388004000 -- 0x7100.08
def nandTempMaxC : Nat := 0x388004800 -- 0x7100.09
def sensorMask : Nat := 0x388005000 -- 0x7100.0A
def extDiodeFitted : Nat := 0x388005800 -- 0x7100.0B
def throttleState : Nat := 0x388080800 -- 0x7101.01
def throttleCause : Nat := 0x388081000 -- 0x7101.02
def throttleEnforcements : Nat := 0x388081800 -- 0x7101.03
def thermalHolds : Nat := 0x388082000 -- 0x7101.04
def sensorsFailed : Nat := 0x388082800 -- 0x7101.05
def tempHoldWaits : Nat := 0x388083000 -- 0x7101.06
def sensorPeakC : Nat := 0x388083800 -- 0x7101.07
def sensorC : Nat := 0x388100800 -- 0x7102.01
def nandTemp : Nat := 0x388180800 -- 0x7103.01
def lastReset : Nat := 0x390000800 -- 0x7200.01
def lastResetTime : Nat := 0x390001000 -- 0x7200.02
def resetRequest : Nat := 0x390001800 -- 0x7200.03
def wdtPeriodMs : Nat := 0x390002000 -- 0x7200.04
def wdtEnable : Nat := 0x390002800 -- 0x7200.05
def wdtDeferrals : Nat := 0x390003000 -- 0x7200.06
def wdtLastStalled : Nat := 0x390003800 -- 0x7200.07
def wdtDeferMaxUs : Nat := 0x390004000 -- 0x7200.08
def powerOns : Nat := 0x390080800 -- 0x7201.01
def resetTally : Nat := 0x390081000 -- 0x7201.02
def cfSuspendMinRun : Nat := 0x400000800 -- 0x8000.01
def cfRunningBank : Nat := 0x400001000 -- 0x8000.02
def cfPasswordW : Nat := 0x400080800 -- 0x8001.01
def cfUnlockRegion : Nat := 0x400082800 -- 0x8001.05
def cfLockRegion : Nat := 0x400083000 -- 0x8001.06
def cfPasswordChange : Nat := 0x400083800 -- 0x8001.07
def cfPrograms : Nat := 0x400100800 -- 0x8002.01
def cfErases : Nat := 0x400101000 -- 0x8002.02
def cfSuspends : Nat := 0x400101800 -- 0x8002.03
def cfBankRejects : Nat := 0x400102000 -- 0x8002.04
def cfSectorErasesMax : Nat := 0x400102800 -- 0x8002.05
def cfLastStatus : Nat := 0x400103000 -- 0x8002.06
def cfPasswordFails : Nat := 0x400103800 -- 0x8002.07
def fwRunningSlot : Nat := 0x400800800 -- 0x8010.01
def fwRunningVersion : Nat := 0x400801000 -- 0x8010.02
def fwPendingSlot : Nat := 0x400801800 -- 0x8010.03
def fwSlotVersion : Nat := 0x400802000 -- 0x8010.04
def fwConfirmed : Nat := 0x400803000 -- 0x8010.06
def fwBootFallback : Nat := 0x400803800 -- 0x8010.07
def fwRollbackFuse : Nat := 0x400804000 -- 0x8010.08
def fwRollbackCommit : Nat := 0x400804800 -- 0x8010.09
def fwRecoveryImage : Nat := 0x400805000 -- 0x8010.0A
def idCert : Nat := 0x408000800 -- 0x8100.01
def attestChallenge : Nat := 0x408001000 -- 0x8100.02
def attestReport : Nat := 0x408001800 -- 0x8100.03
def attestSigAlg : Nat := 0x408002000 -- 0x8100.04
def signerKeys : Nat := 0x408800800 -- 0x8110.01
def signerKeyAdd : Nat := 0x408801000 -- 0x8110.02
def signerKeyRemove : Nat := 0x408801800 -- 0x8110.03
def serviceChallenge : Nat := 0x409000800 -- 0x8120.01
def serviceUnlock : Nat := 0x409001000 -- 0x8120.02
def serviceLock : Nat := 0x409001800 -- 0x8120.03
def serviceState : Nat := 0x409002000 -- 0x8120.04
def serviceFails : Nat := 0x409002800 -- 0x8120.05
def sanitizes : Nat := 0x409800800 -- 0x8130.01
def sanitizeEstS : Nat := 0x409801000 -- 0x8130.02
def recordMinSeverity : Nat := 0x480000800 -- 0x9000.01
def compactMinSeverity : Nat := 0x480001000 -- 0x9000.02
def freezeMaxMs : Nat := 0x480001800 -- 0x9000.03
def snapshotDepth : Nat := 0x480002000 -- 0x9000.04
def compactClear : Nat := 0x480002800 -- 0x9000.05
def eventCatalog : Nat := 0x480003000 -- 0x9000.06
def recordSeqLast : Nat := 0x480080800 -- 0x9001.01
def extRecords : Nat := 0x480081000 -- 0x9001.02
def extReplaced : Nat := 0x480081800 -- 0x9001.03
def extDropped : Nat := 0x480082000 -- 0x9001.04
def compactUsed : Nat := 0x480082800 -- 0x9001.05
def compactDropped : Nat := 0x480083000 -- 0x9001.06
def stagingDropped : Nat := 0x480083800 -- 0x9001.07
def freezeOverflows : Nat := 0x480084000 -- 0x9001.08
def extUnreadable : Nat := 0x480084800 -- 0x9001.09
def traceSources : Nat := 0x488000800 -- 0x9100.01
def traceFlushUs : Nat := 0x488001000 -- 0x9100.02
def traceClear : Nat := 0x488001800 -- 0x9100.03
def traceCatalog : Nat := 0x488002000 -- 0x9100.04
def traceLevel : Nat := 0x488080800 -- 0x9101.01
def traceLost : Nat := 0x488081000 -- 0x9101.02
def traceEntrySeq : Nat := 0x488081800 -- 0x9101.03
def traceDrain : Nat := 0x488082000 -- 0x9101.04
def histRead : Nat := 0x488800800 -- 0x9110.01
def histWrite : Nat := 0x488801000 -- 0x9110.02
def histClear : Nat := 0x488801800 -- 0x9110.03
def histCoveRead : Nat := 0x488880800 -- 0x9111.01
def histCoveReadHi : Nat := 0x488900800 -- 0x9112.01
def histCoveClear : Nat := 0x488980800 -- 0x9113.01
def heatEnable : Nat := 0x489000800 -- 0x9120.01
def heatEpochS : Nat := 0x489001000 -- 0x9120.02
def heatGrainLog2 : Nat := 0x489001800 -- 0x9120.03
def heatQuery : Nat := 0x489002000 -- 0x9120.04
def heatResult : Nat := 0x489002800 -- 0x9120.05
def heatSketch : Nat := 0x489080800 -- 0x9121.01
def heatSketchHi : Nat := 0x489100800 -- 0x9122.01
end K

end Sys2Proof.Machine
end

