-- ==== Sys2Proof/Syntax.lean ====
section
/-! DEFINITION. Syntax.lean: the commands of the SB2300, one constructor per row of spec/opcode_table.json, and the
types of their operands. An operand is what reaches the block from outside it (a message, a host command, a reading
of the board or of the media, the outcome of work whose physics the spec does not give). -/
namespace Sys2Proof

/-- A path of the dictionary engine (R42, R53, R54): the two I3C ports, the PCIe vendor-defined messages of the two
ports, and the admin queue of the function of one instance. -/
inductive Path where
  | i3c0 | i3c1 | vdmA | vdmB
  | fn (n : Nat)
deriving DecidableEq, Repr

/-- A Miowa request (R44, R53, R54): its header fields, its value bytes and, out of band, the CRC-32C it arrived with.
`cid` and `saveSel` are the command identifier and the save or select value of an in-band carrier. -/
structure MiowaReq where
  path : Path
  ver : Nat
  op : Nat
  flags : Nat
  tag : Nat
  index : Nat
  sub : Nat
  resv7 : Nat
  inst : Nat
  resv10 : Nat
  off : Nat
  value : Bytes
  check : Nat
  cid : Nat
  saveSel : Nat
deriving DecidableEq, Repr

/-- The requester of an access to an entry that has a row of its own: its path, its tag, the INSTANCE field and the
command identifier of an in-band carrier. -/
structure Access where
  path : Path
  tag : Nat
  inst : Nat
  cid : Nat
deriving DecidableEq, Repr

/-- An NVMe command as fetched: the function (instance number), the submission queue, the command identifier, the
namespace, and whether a reserved field that the SB2300 checks is non-zero (R14). -/
structure Cmd where
  fn : Nat
  sqid : Nat
  cid : Nat
  nsid : Nat
  resv : Bool
deriving DecidableEq, Repr

/-- A submission-queue entry as the queue engine reads it from host memory: what arbitration, admission and ordering
look at. -/
structure SqEntry where
  cid : Nat
  opcode : Nat
  nsid : Nat
  slba : Nat
  nlb : Nat
  fuse : Nat
  ordered : Bool
deriving DecidableEq, Repr

/-- What a stored word, buffer or transfer holds, for the rules that act on its loss by content (R18, R314, R326). -/
inductive Held where
  | hostWrite (nsid slba nlb : Nat)
  | readData (nsid slba nlb : Nat)
  | mapPage (id : Nat) (dirty : Bool)
  | mapJournal (nsid slba nlb : Nat)
  | queueContext (fn : Nat)
  | descriptor (die block : Nat) (program : Bool)
  | strandOffsets (strand : Nat)
  | mirrorRegion (seq : Nat)
  | coreData
  | free
deriving DecidableEq, Repr


/-- One protection information tuple (R135): its guard, application tag and reference tag, and the metadata bytes ahead
of it that the guard covers besides the block's data. -/
structure PiTuple where
  guard : Nat
  app : Nat
  ref : Nat
  pre : Bytes
deriving DecidableEq, Repr

/-- The protection information fields of a command: PRACT, PRCHK (guard, application tag, reference tag), the initial
reference tag, the application tag and its mask. -/
structure PiArgs where
  pract : Bool
  chkGuard : Bool
  chkApp : Bool
  chkRef : Bool
  ilbrt : Nat
  lbat : Nat
  lbatm : Nat
deriving DecidableEq, Repr

/-- One logical block a command carries: its data and, where the namespace has protection information, its tuple. -/
structure Block where
  data : Nat
  pi : Option PiTuple
deriving DecidableEq, Repr

/-- What a NAND slot answers in negotiation (R229): whether it gave a signature, the interfaces it supports (1 ONFI,
2 JESD230), its parameter page, the LUNs that answered Read Status, its factory bad blocks (LUN × 65,536 + block), and,
for each rate at which a drive and ODT pair passed training, the pair kept. -/
structure SlotReport where
  slot : Nat
  signature : Bool
  ifaces : List Nat
  maxRate : Nat
  lunMask : Nat
  planes : Nat
  blocks : Nat
  wordlines : Nat
  bad : List Nat
  passes : List (Nat × Nat × Nat)
deriving DecidableEq, Repr

/-- What a descriptor is for, to the die scheduler (R268, R269). -/
inductive Work where
  /-- host reads, map misses and their ladder steps; urgent class -/
  | foreground (urgent : Bool)
  /-- patrol, refresh, garbage collection, relocation and wear levelling -/
  | background
  /-- final passes of the at-risk set raised under R242 -/
  | atRisk
  /-- metadata and write-through-log programs -/
  | metadata
  /-- offset SET_FEATURE, temperature GET_FEATURE, retraining -/
  | service
deriving DecidableEq, Repr

/-- A descriptor of a NAND channel engine, 64 bytes (R233, R234). `resv` says that a reserved field is not zero. -/
structure Desc where
  opcode : Nat
  flush : Bool
  noSuspend : Bool
  channel : Nat
  ce : Nat
  lun : Nat
  pass : Nat
  cell : Nat
  planeMask : Nat
  cwMask : Nat
  pageType : Nat
  level : Nat
  block : Nat
  wordline : Nat
  tag : Nat
  gen : Nat
  feature : Nat
  data : Nat
  resv : Bool
  work : Work
deriving DecidableEq, Repr

/-- The address of a codeword: die, block, wordline, page type, plane, codeword (R246). -/
structure CwAddr where
  die : Nat
  block : Nat
  wl : Nat
  pt : Nat
  plane : Nat
  cw : Nat
deriving DecidableEq, Repr
/-- What a read of a stored word finds (R312 to R314): the REGION and the address of the word, the bits of the 80-bit
word that were corrected, those of them that are wrong again in the second read, whether it is uncorrectable, what it
held, and the handle of the buffer it lies in. -/
structure WordErr where
  region : Nat
  address : Nat
  bits : List Nat
  hard : List Nat
  uncorrectable : Bool
  held : Held
  handle : Option Nat
deriving DecidableEq, Repr

/-- A command opportunity of a DRAM subchannel (R295): the banks (rank × 32 + bank group × 4 + bank) whose next command
the DDR5 timing allows, how many sendings of a write fail write CRC (R302), and the errors of the words it reads. [DESIGN CHOICE, log entry 45] -/
structure DramOpp where
  ready : List Nat
  crcFails : Nat
  errs : List WordErr
deriving DecidableEq, Repr

/-- A formation record (R320); `handover` marks that of R336. -/
structure FormRec where
  position : Nat
  pairId : Nat
  stepping : Nat
  digest : Nat
  handover : Bool
deriving DecidableEq, Repr

/-- The header of a Rinor record of the mirror (R324): SEQ, ARG, LENGTH, GROUP, GROUP_END, and whether CHECK passes once
the payload is in DRAM. -/
structure MirHdr where
  seq : Nat
  arg : Nat
  len : Nat
  group : Nat
  groupEnd : Bool
  good : Bool
deriving DecidableEq, Repr

/-- An admin command carried to the owner of a half (R338). -/
inductive FwdCmd where
  | create (nsid : Nat) (zoned : Bool) (nsze ncap lbaf piType piGuard : Nat)
  | delete (nsid : Nat)
  | attach (nsid : Nat) (controllers : List Nat)
  | detach (nsid : Nat) (controllers : List Nat)
  | format (nsid ses lbaf piType piGuard : Nat)
  | sanitize (action : Nat) (ause : Bool)
deriving DecidableEq, Repr

/-- A code-flash descriptor (R382) and its issuer: 0 an internal writer, 1 the update writer or the boot ROM, 2 the
service window, 3 other code; `execBank` is the bank of the issuer's most recent instruction fetch from the code flash,
none when it runs from SRAM (R380). `resv` says that a reserved field is not zero. -/
structure CfDesc where
  issuer : Nat
  execBank : Option Nat
  noSuspend : Bool
  interrupt : Bool
  count : Nat
  address : Nat
  buffer : Nat
  tag : Nat
  resv : Bool
deriving DecidableEq, Repr
/-- The commands of the block (spec/opcode_table.json). -/
inductive Instr where
  -- "Architecture and the Clockless Timing Model"
  /-- R33: the tide edge; whether the check-value unit whose turn it is fails its self-test (R225). -/
  | tideBoundary (crcTestFails : Bool)
  /-- R31: the active time-base source stops; which sources still oscillate. -/
  | timeBaseSwitch (crystal portA portB : Bool)
  /-- R29: a reading of the speed monitor of domain `dom` (0–3 Bay, 4 hub). -/
  | speedMonitorSample (dom reading : Nat)
  /-- R30: domain `dom` has been at 0.85 V and below 1,024 for 100 µs. -/
  | speedLow (dom reading : Nat)
  /-- R18: a transfer over die-to-die link `link` and how many of its sendings mismatched; what it carried. -/
  | dieLinkTransfer (link mismatches : Nat) (held : Held)
  /-- R19: the power manager gates a Strand. -/
  | strandGate (strand : Nat)
  /-- R19: a gated Strand wakes. -/
  | strandWake (strand : Nat)
  -- "The Miowa Parameter Dictionary"
  /-- R47. -/
  | get (r : MiowaReq)
  /-- R418. -/
  | describe (r : MiowaReq)
  /-- R45. -/
  | set (r : MiowaReq)
  /-- R57. -/
  | segRead (r : MiowaReq)
  /-- R58. -/
  | segWrite (r : MiowaReq)
  /-- R59. -/
  | segAbort (r : MiowaReq)
  /-- R59: 2 s without a segment on the transfer open on an entry. -/
  | segWriteTimeout (index sub inst : Nat)
  /-- R49: the oldest configuration-journal record has been programmed, or its programming failed. -/
  | journalRecordProgram (ok : Bool)
  /-- R56: Log Specific Identifier, Log Page Offset Upper, Log Page Offset Lower, bytes asked. -/
  | getLogPageC1 (c : Cmd) (lsi offUpper offLower len : Nat)
  /-- R62: write of 0x1100.02. -/
  | overlaySelect (a : Access) (v : Nat)
  /-- R64: a complete image has been received on 0x1100.04. -/
  | imageLoad (a : Access) (image : Bytes)
  /-- R63: write of 0x1100.06. -/
  | configRevert (a : Access) (v : Nat)
  /-- R62: write of 0x1100.09. -/
  | overlayDelete (a : Access) (v : Nat)
  /-- R66: write of 0x1200.03. -/
  | calendarTime (a : Access) (v : Nat)
  -- "PCIe Ports and Functions"
  /-- R85. -/
  | perstAssert (port : Nat)
  /-- R75. -/
  | perstDeassert (port : Nat)
  /-- R72: the link reached L0 at a rate, a width and in or out of FLIT mode. -/
  | pcieLinkUp (port rate width : Nat) (flit : Bool)
  /-- R72. -/
  | pcieTrainingTimeout (port : Nat)
  /-- R85: a Hot Reset (`down` false) or a link down (`down` true). -/
  | hotReset (port : Nat) (down : Bool)
  /-- R86. -/
  | functionLevelReset (fn : Nat)
  /-- R78: a BAR write (bar 0, 2 or 4) of `width` bytes. -/
  | registerWrite (fn bar off width value : Nat)
  /-- R79: an access to the service window. -/
  | serviceWindowAccess (fn off width : Nat) (write : Bool) (value : Nat)
  /-- R80: a read of `width` bytes at `off` within the trace FIFO port. -/
  | traceFifoPop (fn off width : Nat)
  /-- R81. -/
  | l0pNarrow (port : Nat)
  /-- R81. -/
  | l0pWiden (port : Nat)
  /-- R82. -/
  | linkL1Exit (port : Nat)
  /-- R87: a DMA of a command failed. -/
  | hostDmaError (fn sqid cid : Nat)
  -- "Instances, Slices and the Manager"
  /-- R91. -/
  | instanceCommit (a : Access)
  /-- R91. -/
  | instanceReclaim (a : Access)
  /-- R94. -/
  | reclaimFinished (n : Nat)
  /-- R90: VF Enable and NumVFs of a PF's SR-IOV capability. -/
  | vfEnable (pf numVfs : Nat) (enable : Bool)
  /-- R93: CC is written with EN changing from 0 to 1. -/
  | controllerEnable (fn cc : Nat)
  /-- R93. -/
  | controllerReady (fn : Nat)
  /-- R370: CC is written with EN changing from 1 to 0. -/
  | controllerReset (fn : Nat)
  /-- R198: CC.SHN is written. -/
  | ccShutdown (fn shn : Nat)
  /-- R102: the manager writes M2T_BELL of mailbox `n`. -/
  | m2tBell (n value : Nat)
  /-- R102: the tenant writes T2M_BELL. -/
  | t2mBell (n value : Nat)
  /-- R102: the tenant writes M2T_ACK. -/
  | m2tAck (n value : Nat)
  /-- R102: the manager writes T2M_ACK. -/
  | t2mAck (n value : Nat)
  /-- R102: a W1C write to the MB_CAUSE of the manager side or of the tenant side. -/
  | mbCauseClear (n : Nat) (managerSide : Bool) (value : Nat)
  /-- R105. -/
  | pasidEnableChange (fn : Nat) (enable : Bool)
  /-- R108: write of 0x2120.01. -/
  | keySession (a : Access) (slice : Nat)
  /-- R109: write of 0x2120.03. -/
  | keyDeliver (a : Access) (value : Bytes)
  /-- R109. -/
  | keySessionTimeout (n : Nat)
  -- "Queues, Arbitration and Command Semantics"
  /-- R77. -/
  | sqTailDoorbell (fn qid value : Nat)
  /-- R113. -/
  | cqHeadDoorbell (fn qid value : Nat)
  /-- R111. -/
  | qctxFill (fn sqid : Nat)
  /-- R115: one fetch grant; the submission-queue entry read is that of the queue arbitration picks. -/
  | fetchGrant (e : SqEntry)
  /-- R119: a unit of pool 1–5 has been freed. -/
  | poolUnitFreed (pool : Nat)
  /-- R121: the identifiers of the commands in the queue that have not been fetched. -/
  | deleteIoSubmissionQueue (c : Cmd) (qid : Nat) (unfetched : List Nat)
  /-- R110. -/
  | createIoSubmissionQueue (c : Cmd) (qid qsize cqid qprio : Nat) (pc : Bool)
  /-- R121. -/
  | deleteIoCompletionQueue (c : Cmd) (qid : Nat)
  /-- R110. -/
  | createIoCompletionQueue (c : Cmd) (qid qsize vector : Nat) (pc ien : Bool)
  /-- R121: a standard log page. -/
  | getLogPage (c : Cmd) (lid lsp off len : Nat) (rae : Bool)
  /-- R189. -/
  | getLogPageC2 (c : Cmd) (off len : Nat) (rae : Bool)
  /-- R407. -/
  | getLogPageC3 (c : Cmd) (off len : Nat) (rae : Bool)
  /-- R407. -/
  | snapshotLapse (fn : Nat)
  /-- R121. -/
  | identify (c : Cmd) (cns cntid csi : Nat)
  /-- R133: whether the command still stands in its submission queue in host memory. -/
  | abort (c : Cmd) (sqid cid : Nat) (queued : Bool)
  /-- R121. -/
  | getFeatures (c : Cmd) (fid sel cdw11 : Nat)
  /-- R116. -/
  | setArbitration (c : Cmd) (ab lpw mpw hpw : Nat)
  /-- R348. -/
  | setPowerManagement (c : Cmd) (ps wh : Nat)
  /-- R368: sensor selector, over (false) or under (true), threshold in kelvin. -/
  | setTemperatureThreshold (c : Cmd) (tmpsel : Nat) (under : Bool) (kelvin : Nat)
  /-- R96. -/
  | setNumberOfQueues (c : Cmd) (ncqr nsqr : Nat)
  /-- R121. -/
  | setInterruptCoalescing (c : Cmd) (time thr : Nat)
  /-- R121. -/
  | setInterruptVectorConfiguration (c : Cmd) (vector : Nat) (cd : Bool)
  /-- R121. -/
  | setAsyncEventConfiguration (c : Cmd) (bits : Nat)
  /-- R346: APST enable and the 32 entries (idle transition power state, idle time in ms). -/
  | setAutonomousPowerStateTransition (c : Cmd) (enable : Bool) (table : List (Nat × Nat))
  /-- R279. -/
  | setHostBehaviorSupport (c : Cmd) (acre : Bool)
  /-- R348. -/
  | apstTransition
  /-- R121. -/
  | asynchronousEventRequest (c : Cmd)
  -- "Queues, Arbitration and Command Semantics": namespaces, firmware, directives, media commands
  /-- R135: command set, size and capacity in blocks, LBA format, protection information type and guard width. -/
  | namespaceCreate (c : Cmd) (zoned : Bool) (nsze ncap lbaf piType piGuard : Nat)
  /-- R138. -/
  | namespaceDelete (c : Cmd)
  /-- R138. -/
  | namespaceDeleteDone (nsid : Nat)
  /-- R136: the controllers listed. -/
  | namespaceAttach (c : Cmd) (controllers : List Nat)
  /-- R136. -/
  | namespaceDetach (c : Cmd) (controllers : List Nat)
  /-- R389. -/
  | firmwareImageDownload (c : Cmd) (off : Nat) (data : Bytes)
  /-- R390: Commit Action 000b. -/
  | firmwareCommitVerify (c : Cmd) (slot : Nat)
  /-- R390: Commit Action 001b. -/
  | firmwareCommitReplaceActivate (c : Cmd) (slot : Nat)
  /-- R390: Commit Action 010b. -/
  | firmwareCommitActivate (c : Cmd) (slot : Nat)
  /-- R388. -/
  | fwUpdateHoldTimeout
  /-- R149. -/
  | assignCove (c : Cmd) (cove zslba : Nat)
  /-- R147: the Identify directive's Enable Directive: directive type and state. -/
  | enableDirective (c : Cmd) (dtype : Nat) (enable : Bool)
  /-- R158: the first Cove, and the buffer's bytes. -/
  | coveStatus (c : Cmd) (first len : Nat)
  /-- R158. -/
  | zoneUsage (c : Cmd) (zslba len : Nat)
  /-- R121. -/
  | nvmeMiSend (c : Cmd) (request : Bytes)
  /-- R121. -/
  | nvmeMiReceive (c : Cmd) (len : Nat)
  /-- R121: secure erase setting, LBA format, protection information. -/
  | formatNvm (c : Cmd) (ses lbaf piType piGuard : Nat)
  /-- R395: security protocol and its protocol-specific field. -/
  | securitySend (c : Cmd) (secp spsp len : Nat)
  /-- R395. -/
  | securityReceive (c : Cmd) (secp spsp len : Nat)
  /-- R397: AUSE (allow unrestricted exit) and the deallocate setting of the Sanitize command. -/
  | sanitizeBlockErase (c : Cmd) (action : Nat) (ause : Bool)
  /-- R398. -/
  | exitFailureMode (c : Cmd)
  /-- R398: the dies whose data cannot be proved erased. -/
  | sanitizeDone (unproved : List Nat)
  /-- R191: first block, range length, bytes asked. -/
  | getLbaStatus (c : Cmd) (slba rl len : Nat)
  /-- R199. -/
  | flush (c : Cmd)
  /-- R127: DTYPE and DSPEC of the directive (DTYPE 0 none). -/
  | write (c : Cmd) (slba : Nat) (data : List Block) (fua ordered : Bool) (dtype dspec : Nat) (pi : PiArgs)
  /-- R24. -/
  | writeAcknowledge (fn sqid cid : Nat)
  /-- R27. -/
  | read (c : Cmd) (slba nlb : Nat) (fua ordered : Bool) (pi : PiArgs)
  /-- R122. -/
  | writeUncorrectable (c : Cmd) (slba nlb : Nat)
  /-- R123: FUSE (0 normal, 1 first of a fused pair). -/
  | compare (c : Cmd) (slba : Nat) (data : List Block) (pi : PiArgs)
  /-- R122. -/
  | writeZeroes (c : Cmd) (slba nlb : Nat) (deac : Bool) (dtype dspec : Nat)
  /-- R122: Attribute Deallocate and the ranges. -/
  | datasetManagement (c : Cmd) (deallocate : Bool) (ranges : List (Nat × Nat))
  /-- R122. -/
  | verify (c : Cmd) (slba nlb : Nat) (pi : PiArgs)
  -- "Zones, Coves and Placement"
  /-- R153: the zone start, or every zone (Select All). -/
  | zoneOpen (c : Cmd) (slba : Nat) (all : Bool)
  /-- R200. -/
  | zoneClose (c : Cmd) (slba : Nat) (all : Bool)
  /-- R434. -/
  | zoneFinish (c : Cmd) (slba : Nat) (all : Bool)
  /-- R434. -/
  | zoneReset (c : Cmd) (slba : Nat) (all : Bool)
  /-- R161. -/
  | zoneOffline (c : Cmd) (slba : Nat) (all : Bool)
  /-- R150: reporting options (0 all, else the state listed) and bytes asked. -/
  | zoneManagementReceive (c : Cmd) (slba option len : Nat) (partialReport : Bool)
  /-- R128. -/
  | zoneAppend (c : Cmd) (zslba : Nat) (data : List Block) (fua : Bool) (pi : PiArgs)
  /-- R140. -/
  | coveDescWrite (a : Access) (cove value : Nat)
  /-- R154: FZR_AGE has passed since the zone's last write. -/
  | finishZoneRecommended (nsid zone : Nat)
  /-- R154. -/
  | zoneFinishedByController (nsid zone : Nat)
  -- "Translation, Reclaim and the Loss Map"
  /-- R173: a page read from the metadata region, and which of its two copies pass: map page `page` of namespace `nsid`; for
  `page` = 2^40 + z the zone record of zone z; for namespace 0xFFFF_FFFF, page 1 the map directory, page 2 the zone-record
  directory, page 3 the loss map. [DESIGN CHOICE, log entry 129] -/
  | mapMiss (nsid page : Nat) (copyA copyB : Bool)
  /-- R281. -/
  | mapPinLoad (cove : Nat)
  /-- R174. -/
  | mapWriteback
  /-- R176: a relocation by its number. -/
  | relocationSwitch (id : Nat)
  /-- R178. -/
  | gcStart (cove : Nat)
  /-- R181. -/
  | wearLevelling (die : Nat)
  /-- R182. -/
  | refresh (die : Nat)
  /-- R185. -/
  | dieRetire (die : Nat)
  /-- R188: the enumeration of a retired die closes. -/
  | dieNoticeEnumeration (die : Nat)
  /-- R187. -/
  | lossPublish
  /-- R190. -/
  | lossAck (a : Access) (v : Nat)
  -- "Compression and Verified Frames"
  /-- R201: the next piece of a write in flight has been compressed: STORED_LENGTH its frame would have if it closed
  now, whether verification passed, the compressor, and whether it lacks an output buffer. [DESIGN CHOICE, log entry 23] -/
  | compressPiece (fn sqid cid storedLength : Nat) (verified : Bool) (compressor : Nat) (noBuffer : Bool)
  /-- R199. -/
  | unitIdleCut (nsid zone : Nat)
  /-- R212: the frame that begins at byte `start` of a zone, how far its decode went (bytes of the frame), the
  decompressor, the DZ_ code (0 none), and whether a second check-value unit agrees with a failed DATA_CRC. -/
  | decodeFrame (nsid zone start upto decompressor dz : Nat) (confirmed : Bool)
  -- "NAND Channel Engines"
  /-- R229. -/
  | nandNegotiation (reports : List SlotReport)
  /-- R230: a slot retrains after a bus error; the drive and ODT pair that passed, or none. -/
  | slotRetrain (slot : Nat) (pair : Option (Nat × Nat))
  /-- R269. -/
  | operationStart (die : Nat)
  /-- R233. -/
  | nandRead (d : Desc)
  /-- R258. -/
  | nandReadSoft (d : Desc)
  /-- R232. -/
  | nandProgram (d : Desc)
  /-- R227. -/
  | nandErase (d : Desc)
  /-- R233. -/
  | nandGetFeature (d : Desc)
  /-- R253. -/
  | nandSetFeature (d : Desc)
  /-- R245. -/
  | nandResetLun (d : Desc)
  /-- R233. -/
  | nandReadStatus (d : Desc)
  /-- R233: the LUN's operation ends: NC_ code, array time in units of 0.1 µs, status register, feature data. -/
  | nandCompletion (die status arrayTime nandSr featureOut : Nat)
  /-- R234. -/
  | descriptorWithdraw (die tag : Nat)
  /-- R185: an array operation busy beyond its limit; whether the LUN answered Reset within two tries. -/
  | arrayTimeout (die : Nat) (answered : Bool)
  /-- R270. -/
  | suspendRequest (die : Nat)
  /-- R237. -/
  | suspendMinRunElapsed (die : Nat)
  /-- R238. -/
  | resumeRequest (die : Nat)
  /-- R271. -/
  | suspendWindowExpiry (die : Nat)
  /-- R240: the flush ends; the data it left unprogrammed: namespace, first block, blocks. -/
  | flushEnd (lost : List (Nat × Nat × Nat))
  /-- R361: V1 in mV, sampled 1 ms after the charger stopped. -/
  | holdupTest (v1 : Nat)
  /-- R361: V2 in mV. -/
  | holdupTestSample (v2 : Nat)
  /-- R243: write-through data of a write has waited; whether its log pages pass program status. -/
  | wtLogDelayExpiry (fn sqid cid : Nat) (pass : Bool)
  -- "Read Recovery and Live Calibration"
  /-- R254: a hard decode at level 0x00: whether every check is satisfied, the ADDR of the decoded tail, ones read,
  bits changed from 1 to 0 and from 0 to 1, unsatisfied checks. -/
  | hardDecode (a : CwAddr) (ok : Bool) (tailAddr ones e10 e01 unsat : Nat)
  /-- R258: a ladder step ends: the page, and of each plane and codeword still failing whether it succeeded and its
  unsatisfied checks. -/
  | ladderStep (die block wl pt : Nat) (results : List (Nat × Nat × Bool × Nat))
  /-- R257. -/
  | calPersist
  /-- R266. -/
  | patrolPace
  /-- R265. -/
  | patrolRead (die block wl pt : Nat)
  -- "Die Scheduling and Tail-Latency Bounds"
  /-- R279. -/
  | admissionDeadline (fn sqid cid : Nat)
  -- "DRAM Controller"
  /-- R290: of each channel, the geometry found in the mode registers (the 12 bits of MODE [15:4]) and the rates at
  which its training passes. -/
  | dramNegotiation (channels : List (Nat × List Nat))
  /-- R295: a request for the 64-byte burst at a DRAM address, and the command opportunities that follow it. -/
  | dramRequest (addr : Nat) (write : Bool) (data : Nat) (opps : List DramOpp)
  /-- R297: channel, subchannel, rank and the bank address that is refreshed in every bank group. -/
  | sameBankRefresh (channel sub rank ba : Nat)
  /-- R299. -/
  | rowTableClear
  /-- R300: the channel, and the drift in ps that an OSC read of this pause finds. -/
  | retrainPause (channel drift : Nat)
  -- "Buffer Pools and Stored-Data Protection"
  /-- R304: domain (0 hub, 1–8 slice of a Strand), bytes, requester kind (HOLDER encoding), instance charged. -/
  | bufferAllocate (domain bytes requester inst : Nat)
  /-- R307. -/
  | bufferAcquire (handle requester : Nat)
  /-- R307. -/
  | bufferRelease (handle requester : Nat)
  /-- R310: read of 0x5104.07–.0C, watermark 0–5. -/
  | wmRecordRc (a : Access) (w : Nat)
  /-- R315: a region, whether its port or bank is idle, and what the read of the word found. -/
  | scrubAccess (region : Nat) (idle : Bool) (err : Option WordErr)
  /-- R317: ECC_TEST_CTRL is written with this REGION and OP 001. -/
  | eccTestWrite (region : Nat)
  /-- R317: OP 010. -/
  | eccTestWriteData (region : Nat)
  /-- R317: OP 011. -/
  | eccTestWriteCheck (region : Nat)
  /-- R317: OP 100. -/
  | eccTestReadCorrected (region : Nat)
  /-- R317: OP 101. -/
  | eccTestReadRaw (region : Nat)
  -- "Pair Operation over the Rinor Link"
  /-- R322. -/
  | rinorLinkUp (rate width version : Nat)
  /-- R320. -/
  | formation (f : FormRec)
  /-- R321: whether an edge was seen on PL_HB_IN since power-on. -/
  | pairFormTimeout (edge : Bool)
  /-- R324: KIND 0x01; the logical blocks it carries (namespace, LBA, data). -/
  | mirrorWriteData (h : MirHdr) (blocks : List (Nat × Nat × Nat))
  /-- R324: KIND 0x02. -/
  | mirrorUnitStaging (h : MirHdr) (blocks : List (Nat × Nat × Nat))
  /-- R324: KIND 0x03; the zone record it changes: namespace, zone, write pointer, state (ZSxx position). -/
  | metadataDelta (h : MirHdr) (nsid zone wp st : Nat)
  /-- R324: KIND 0x04. -/
  | mirrorRelease (h : MirHdr)
  /-- R325: KIND 0x05. -/
  | mirrorAck (arg : Nat)
  /-- R325: KIND 0x06. -/
  | resendRequest (seq : Nat)
  /-- R338: KIND 0x08; the function, queue and command of the package that fetched it. -/
  | adminForward (fn sqid cid : Nat) (cmd : FwdCmd)
  /-- R323: KIND 0x09. -/
  | pairSharedEntry (index sub : Nat) (value : Nat) (bytes : Bytes)
  /-- R339: KIND 0x0A; the state the partner enters. -/
  | powerCoordination (target : Nat)
  /-- R333: whether PL_HB_IN still toggles. -/
  | pairDeadTime (heartbeat : Bool)
  /-- R333: whether PL_HB_IN toggled again. -/
  | pairFenceDefer (heartbeat : Bool)
  /-- R335. -/
  | takeoverComplete
  /-- R331. -/
  | fenced
  /-- R331. -/
  | fenceRelease
  /-- R336: write of 0x6001.08. -/
  | rejoin (a : Access)
  /-- R336: write of 0x6001.08. -/
  | surrender (a : Access)
  -- "Supplies, Power States and Power Loss"
  /-- R372: the PL_POS strap, and the ordering code: SB2300-D or SB2300-S. -/
  | powerOn (plPos : Nat) (orderingD : Bool)
  /-- R343: the power-good input of a step (3–7) rises. -/
  | powerGood (step : Nat)
  /-- R344. -/
  | powerGoodTimeout (step : Nat)
  /-- R344. -/
  | powerGoodFall (step : Nat)
  /-- R342: AVSBus rail 0–4. -/
  | avsbusTimeout (rail : Nat)
  /-- R347. -/
  | ebbIdle
  /-- R348: write of 0x7010.09 with 0x02 or 0x03. -/
  | powerRequestSleep (a : Access) (v : Nat)
  /-- R352: write of 0x7010.09 with 0x00. -/
  | powerRequestWake (a : Access)
  /-- R348. -/
  | sleepCommit
  /-- R350: wake source code. -/
  | wake (source : Nat)
  /-- R356: the V12_SENSE sample, mV. -/
  | supplyWarning (mv : Nat)
  /-- R356. -/
  | supplyFlushLevel (mv : Nat)
  /-- R356. -/
  | tHoldExpiry
  /-- R356. -/
  | supplyRecovered
  /-- R358. -/
  | supplyResetLevel (mv : Nat)
  /-- R359. -/
  | pfail
  /-- R360: the HU_SENSE sample, mV. -/
  | holdupCharge (mv : Nat)
  /-- R360. -/
  | holdupChargeTimeout
  /-- R362: the HU_SENSE sample, mV. -/
  | atRiskRecompute (mv : Nat)
  /-- R361: write of 0x7001.0A. -/
  | huTestNow (a : Access) (v : Nat)
  -- "Temperature and Throttling"
  /-- R363: a sensor and its conversion in quarter degrees, none when it did not finish within 1 ms. -/
  | sensorSample (sensor : Nat) (reading : Option Int)
  /-- R366. -/
  | throttleGraceExpiry
  /-- R366. -/
  | throttleStep
  /-- R366. -/
  | throttleRelease
  /-- R368. -/
  | thermalHold
  /-- R365: a slot and the °C its feature gives, none where its parameter page names no temperature feature. -/
  | nandTempRead (slot : Nat) (reading : Option Int)
  -- "Resets and Retention"
  /-- R370. -/
  | nvmSubsystemReset
  /-- R371: write of 0x7200.03 with 0x01. -/
  | managementReset (a : Access)
  /-- R375: kicker 0–16. -/
  | watchdogKick (kicker : Nat)
  /-- R375: the kickers that missed their period. -/
  | watchdogExpiry (missed : Nat)
  -- "Code Store, Boot and Security"
  /-- R378: the words, 256 bits each. -/
  | cfProgram (d : CfDesc) (words : List Nat)
  /-- R377. -/
  | cfErase (d : CfDesc)
  /-- R382. -/
  | cfBlankCheck (d : CfDesc)
  /-- R382: the buffer compared with, as 32-byte words. -/
  | cfVerify (d : CfDesc) (words : List Nat)
  /-- R382. -/
  | cfHash (d : CfDesc)
  /-- R377: the bank whose operation ends, the words or sectors that did not fail before it stopped (none: all done),
  and its array time in µs. -/
  | cfOperationComplete (bank : Nat) (failedAt : Option Nat) (arrayUs : Nat)
  /-- R381: a bank with a read that waits. -/
  | cfSuspend (bank : Nat)
  /-- R380: source, destination, length, expected digest. -/
  | cfCopyToSram (src dst len digest : Nat)
  /-- R386. -/
  | fwConfirm
  /-- R387. -/
  | fwRecoveryImage (a : Access) (image : Bytes)
  /-- R392. -/
  | fwRollbackCommit (a : Access) (v : Nat)
  /-- R393: write of 0x8110.02. -/
  | signerKeyAdd (a : Access) (value : Bytes)
  /-- R393: write of 0x8110.03. -/
  | signerKeyRemove (a : Access) (value : Bytes)
  /-- R395: write of 0x8100.02. -/
  | attestChallenge (a : Access) (nonce : Nat)
  /-- R395. -/
  | attestReportReady
  /-- R399: read of 0x8120.01. -/
  | serviceChallenge (a : Access)
  /-- R399: write of 0x8120.02. -/
  | serviceUnlock (a : Access) (value : Bytes)
  /-- R399: write of 0x8120.03. -/
  | serviceLock (a : Access) (v : Nat)
  /-- R399. -/
  | serviceModeExpiry
  /-- R383: word 0–3 and its value. -/
  | cfPasswordW (a : Access) (w v : Nat)
  /-- R383. -/
  | cfUnlockRegion (a : Access) (v : Nat)
  /-- R383. -/
  | cfLockRegion (a : Access) (v : Nat)
  /-- R383. -/
  | cfPasswordChange (a : Access) (v : Nat)
  -- "Check-Value Units"
  /-- R221: a unit's holder may just have released it (`released`); a request for a lease. -/
  | crcLease (released : Option Nat) (holder alg : Nat) (urgentPi : Bool)
  /-- R218: a write of CTRL with INIT = 1 by `agent` (HOLDER encoding). -/
  | crcInit (unit agent : Nat)
  /-- R220. -/
  | feedB (unit agent value : Nat)
  /-- R220. -/
  | feedH (unit agent value : Nat)
  /-- R220. -/
  | feedW (unit agent value : Nat)
  /-- R222: RUNNING_LO and RUNNING_HI. -/
  | runningRestore (unit agent lo hi : Nat)
  -- rows the table lists last
  /-- R322. -/
  | rinorTrainingTimeout
  /-- R333. -/
  | rinorLinkDown
  /-- R65: an I3C port settles at a mode (0x01 SDR, 0x02 HDR-DDR, 0x03 I2C/SMBus) and a rate in kHz, or fails (mode 0). -/
  | i3cNegotiation (port mode khz : Nat)
  /-- R81: the link enters L1 (3), L1.1 (4) or L1.2 (5). -/
  | aspmL1Entry (port link : Nat) (refStopped : Bool)
  /-- R121. -/
  | interruptAggregationTime (fn cqid : Nat)
  /-- R238. -/
  | suspendLunReady (die : Nat)
  /-- R356: the V12_SENSE sample on the other side of warning plus hysteresis. -/
  | supplyHysteresisCrossing (mv : Nat)
  /-- R379. -/
  | vddAoLoss
  -- "Event Recorder, Trace FIFO and Telemetry"
  /-- R402. -/
  | stagingDrain
  /-- R403: write of 0x9000.05. -/
  | compactClear (a : Access) (v : Nat)
  /-- R405: PF 0 or 1. -/
  | cursorWrite (pf value : Nat)
  /-- R405. -/
  | winCtrlWrite (pf value : Nat)
  /-- R405: WIN_CTRL is written with ADVANCE = 1. -/
  | advance (pf : Nat)
  /-- R406: WIN_CTRL is written with FREEZE = 1. -/
  | freeze (pf : Nat)
  /-- R405: the refill finishes; the records whose page could not be decoded (R404). -/
  | windowRefillDone (pf : Nat) (unreadable : List Nat)
  /-- R406: FREEZE_MAX_MS has passed. -/
  | freezeEnd
  /-- R408. -/
  | traceItemWrite (source kind arg : Nat) (words : List Nat)
  /-- R410: TRACE_FLUSH_US has passed since the last word. -/
  | traceEntryClose
  /-- R411: write of 0x9100.03. -/
  | traceClear (a : Access) (v : Nat)
  /-- R408: SEG_READ of 0x9101.04. -/
  | traceDrain (r : MiowaReq)
  /-- R413: write of 0x9110.03. -/
  | histClear (a : Access) (v : Nat)
  /-- R413: write of 0x9113.01. -/
  | histCoveClear (a : Access) (v : Nat)
  /-- R415: write of 0x9120.04. -/
  | heatQuery (a : Access) (v : Nat)
  /-- R415. -/
  | heatEpoch
deriving DecidableEq, Repr

end Sys2Proof
end

