-- ==== Sys2Proof/Machine/State.lean ====
section
/-! DEFINITION. Machine/State.lean: the whole state of the block as plain data, the reasons a step can stop, and the
state right after power-on reset. -/
namespace Sys2Proof.Machine
open Sys2Proof

/-- The reasons the machine stops with a fault. -/
inductive Fault where
  /-- Nothing raises it: every command of the table has an effect the spec gives (safe). -/
  | stuck
deriving DecidableEq, Repr

/-- The reasons a command is refused. -/
inductive Refusal where
  /-- Raised by an arm of `exec` whose command has no meaning yet, with the row's mnemonic (safe: nothing can be
  proved of such a command). No arm raises it. -/
  | notModelled (mnemonic : String)
deriving DecidableEq, Repr

-- ===== time, tides and generations (chapter 01) =====

/-- The anchor time base, the tide counter and the calendar. [DESIGN CHOICE, log entry 3] -/
structure Clock where
  /-- anchor time since power-on, ns -/
  nowNs : Nat
  /-- 0x1210.02 TIDE_COUNTER -/
  tide : Nat
  /-- anchor time at which the tide now running began, ns -/
  tideStartNs : Nat
  /-- calendar time, or the count from power-on while `calSet` is false, ns -/
  calNs : Nat
  calSet : Bool
  /-- correction still to be slewed, ns (R66) -/
  slewNs : Int
  /-- the calendar time last persisted before this power-on, ns (R183) [DESIGN CHOICE, log entry 54] -/
  keptNs : Nat
  /-- 0x1211.02 TIME_BASE_ACTIVE -/
  source : Nat
  crystalOk : Bool
  refAOk : Bool
  refBOk : Bool
deriving DecidableEq, Repr

/-- A change that takes effect at a tide boundary. -/
inductive StagedOp where
  /-- a value of an entry (key, value) -/
  | entry (key value : Nat)
  /-- R137 -/
  | attach (nsid fn : Nat)
  | detach (nsid fn : Nat)
  /-- R137: the completion of the Namespace Attachment that runs on a namespace, after the boundary -/
  | complete (nsid : Nat)
  /-- R116: a function's Arbitration feature -/
  | arbitration (fn ab lpw mpw hpw : Nat)
  /-- R346: the package's power-state budget -/
  | budget (ps : Nat)
  /-- R90: an instance whose VF has been enabled becomes LIVE -/
  | live (n : Nat)
deriving DecidableEq, Repr

/-- A staged change and the tide that begins at the boundary where it applies (R34). -/
structure Staged where
  tide : Nat
  op : StagedOp
deriving DecidableEq, Repr

/-- A settings generation that is no longer in force but that work still carries (R36): its number and the values of
every entry while it was in force. -/
structure Gen where
  num : Nat
  snap : Assoc Nat
deriving DecidableEq, Repr

-- ===== the dictionary engine (chapter 02) =====

/-- A value of a DOMAIN entry and its DOMAIN_VERSION (R57). -/
structure Dom where
  bytes : Bytes
  version : Nat
deriving DecidableEq, Repr

/-- An open write transfer on a DOMAIN entry (R58). -/
structure Xfer where
  path : Path
  total : Nat
  got : Bytes
  /-- abandoned by its 2 s limit: its next segment is refused with MP_XFER_TIMEOUT -/
  expired : Bool
deriving DecidableEq, Repr

/-- A Miowa response (R61 and the response header). -/
structure Resp where
  op : Nat
  status : Nat
  tag : Nat
  flags : Nat
  applyTide : Nat
  domVersion : Nat
  value : Bytes
deriving DecidableEq, Repr

/-- One record of the configuration journal (R433). -/
structure JRec where
  key : Nat
  kind : Nat
  len : Nat
  value : Bytes
  applyTide : Nat
deriving DecidableEq, Repr

/-- The effect that follows once a journal record is programmed. -/
inductive JKind where
  /-- an RWP write: apply the value -/
  | rwp
  /-- an RWSP write or the batch of an overlay, already staged for a tide -/
  | rwsp (tide : Nat)
  /-- a record written by the SB2300 itself; no request waits for it -/
  | own
deriving DecidableEq, Repr

/-- A journal record waiting to be programmed (R49) and the request its response waits for. -/
structure JPend where
  req : MiowaReq
  answer : Bool
  recs : List JRec
  /-- records of it that are still to be programmed -/
  left : Nat
  /-- entries and their values before it, for a write that cannot be programmed -/
  old : List (Nat × Nat)
  /-- a pair-shared entry's response also waits for the ACK of the record with this SEQ (R323); 0 for none -/
  ackSeq : Nat
  kind : JKind
deriving DecidableEq, Repr

/-- A stored overlay image: its identifier, its bytes as received, and its records (key, value). -/
structure Overlay where
  imageId : Nat
  image : Bytes
  recs : List (Nat × Nat)
deriving DecidableEq, Repr

/-- The dictionary engine's own state. -/
structure Miowa where
  /-- latest response of each path (key: path code) -/
  resp : Assoc Resp
  /-- latest DOMAIN_VERSION read at offset 0 (key: path code and entry) [DESIGN CHOICE, log entry 107] -/
  vers : Assoc Nat
  /-- copies that a segmented read at offset 0 took (R413), by the same key -/
  copies : Assoc Bytes
  /-- open write transfers by entry -/
  xfers : Assoc Xfer
  /-- DOMAIN values written or kept by the SB2300 -/
  doms : Assoc Dom
  /-- writes held until a domain wakes (R52): entry, value -/
  heldWrites : Assoc Bytes
deriving DecidableEq, Repr

/-- The configuration store (R49, R62 to R64, R379, R433). -/
structure Store where
  /-- the journal half in use, oldest record first -/
  journal : List JRec
  /-- records waiting to be programmed, oldest first -/
  queue : List JPend
  /-- requests whose records are programmed here and wait for the partner alone (R323) -/
  waitAck : List JPend
  /-- the base image: its bytes as received, and entry values -/
  baseImage : Bytes
  base : Assoc Nat
  /-- IMAGE_ID of the base image that is stored, and of the one in force -/
  baseId : Nat
  baseIdInForce : Nat
  baseInForce : Assoc Nat
  overlays : Assoc Overlay
deriving DecidableEq, Repr

-- ===== records and telemetry (chapter 20) =====

/-- One event record; its CHECK is `Rec.check`. `detail` is the 24 DETAIL bytes read little-endian. -/
structure Rec where
  seq : Nat
  time : Nat
  tide : Nat
  severity : Nat
  event : Nat
  unit : Nat
  inst : Nat
  rflags : Nat
  detail : Nat
deriving DecidableEq, Repr

/-- The recorder window of one PF (R405). -/
structure Window where
  cursor : Nat
  minSev : Nat
  compact : Bool
  freeze : Bool
  loading : Bool
  slots : List Rec
deriving DecidableEq, Repr

/-- A snapshot of log page 0xC3 held by one controller (R407). -/
structure Snapshot where
  recs : List Rec
  extDropped : Nat
  tide : Nat
  compactUsed : Nat
  compactDropped : Nat
deriving DecidableEq, Repr

/-- The event recorder. -/
structure Recorder where
  /-- SEQ of the next record -/
  nextSeq : Nat
  staging : List Rec
  ext : List Rec
  compact : List Rec
  /-- records that wait in staging for the end of a COMPACT_CLEAR -/
  compactWait : List Rec
  compactErasing : Bool
  hold : List Rec
  frozen : Bool
  freezeStartNs : Nat
  thawedFull : Bool
  /-- staging records that a power-loss flush has programmed -/
  flushed : List Rec
  winA : Window
  winB : Window
  snaps : Assoc Snapshot
deriving DecidableEq, Repr

/-- A 32-byte trace entry (R410). -/
structure TraceEntry where
  words : List Nat
  validBytes : Nat
  firstItem : Nat
  seq : Nat
deriving DecidableEq, Repr

/-- The trace FIFO and the entry now being filled. -/
structure Trace where
  fifo : List TraceEntry
  cur : List Nat
  curFirst : Nat
  nextSeq : Nat
  /-- the entry latched by a 4- or 8-byte pop, per PF (R80) -/
  latchA : List Nat
  latchB : List Nat
deriving DecidableEq, Repr

/-- A latency histogram (R412); buckets not listed are 0. -/
structure Hist where
  since : Nat
  total : Nat
  sum : Nat
  max : Nat
  counts : Assoc Nat
deriving DecidableEq, Repr

/-- One epoch of a count-min sketch (R414); counters not listed are 0. -/
structure Sketch where
  a : List Nat
  b : List Nat
  n : Nat
  counters : Assoc Nat
deriving DecidableEq, Repr

/-- Histograms and sketches. -/
structure Telemetry where
  /-- key: instance × 2, plus 1 for HIST_WRITE -/
  hist : Assoc Hist
  /-- HIST_COVE_READ by Cove -/
  histCove : Assoc Hist
  sketchCur : Assoc Sketch
  sketchPrev : Assoc Sketch
deriving DecidableEq, Repr

-- ===== check-value units (chapter 09) =====

/-- One check-value unit. -/
structure CrcUnit where
  holder : Nat
  alg : Nat
  running : Nat
  /-- RUNNING_LO as written, until a write of RUNNING_HI applies both -/
  lo : Nat
  bytes : Nat
  dropped : Bool
  out : Bool
deriving DecidableEq, Repr

/-- A lease request that waits (R221). -/
structure CrcReq where
  holder : Nat
  alg : Nat
  urgentPi : Bool
deriving DecidableEq, Repr

/-- The 16 check-value units and the lease queue. -/
structure CrcUnits where
  units : List CrcUnit
  waiting : List CrcReq
  /-- the unit whose turn for the idle self-test comes next -/
  testTurn : Nat
deriving DecidableEq, Repr

-- ===== ports (chapter 03) =====

/-- One PCIe port. -/
structure Port where
  perst : Bool
  /-- LINK_STATE -/
  link : Nat
  rate : Nat
  width : Nat
  flit : Bool
  /-- width after L0p narrowing -/
  l0pWidth : Nat
  attempts : Nat
  /-- latency of the last LTR message sent, ns; snoop and no-snoop alike -/
  ltrNs : Nat
  /-- an LTR message is due at the next entry to L0 -/
  ltrDue : Bool
  pme : Bool
  refStopped : Bool
  vfEnable : Bool
  numVfs : Nat
  subsysVid : Nat
  subsysId : Nat
  aerSticky : Nat
deriving DecidableEq, Repr

-- ===== instances (chapter 04) =====

/-- One mailbox; areas hold the bytes that are not zero. [DEDUCED, log entry 123] -/
structure Mailbox where
  m2tBell : Nat
  m2tAck : Nat
  t2mBell : Nat
  t2mAck : Nat
  vector : Nat
  causeM : Nat
  causeT : Nat
  irqM : Bool
  irqT : Bool
  m2tArea : Assoc Nat
  t2mArea : Assoc Nat
  /-- CHANGE_PENDING and STATE as MB_STATE last showed them -/
  changePending : Bool
deriving DecidableEq, Repr

/-- An open key session (R108). -/
structure KeySession where
  slice : Nat
  id : Nat
  /-- which generated key pair it uses -/
  pair : Nat
deriving DecidableEq, Repr

/-- Asynchronous events the SB2300 reports. -/
inductive Aen where
  | invalidDoorbellRegister | invalidDoorbellValue
  | nsAttributeChanged | zoneDescriptorChanged | lbaStatusAlert
  | lossPublished (nsid : Nat)
  | capacityState (cove state : Nat) | belowRefresh (cove : Nat)
  | temperature | spareBelow | readOnlyMedia | persistentError
  | watermark (w : Nat) | firmwareActivation | anaChange | sanitizeCompleted
deriving DecidableEq, Repr

/-- One instance: its function's controller, its slices' keys, its mailbox and its features. -/
structure Inst where
  /-- INSTANCE_STATE -/
  state : Nat
  /-- CC, with EN as bit 0 -/
  cc : Nat
  rdy : Bool
  cfs : Bool
  shst : Nat
  aqa : Nat
  asq : Nat
  acq : Nat
  intms : Nat
  /-- fetching has stopped for a reclaim that took effect -/
  reclaiming : Bool
  pasidEnable : Bool
  session : Option KeySession
  nextSession : Nat
  /-- loaded keys by slice, 64 bytes each -/
  keys : Assoc Nat
  mailbox : Mailbox
  ab : Nat
  lpw : Nat
  mpw : Nat
  hpw : Nat
  icTime : Nat
  icThr : Nat
  /-- vectors with coalescing disabled -/
  ivDisabled : List Nat
  aecBits : Nat
  acre : Bool
  /-- temperature thresholds: sensor × 2 + under -/
  tempThr : Assoc Nat
  /-- command identifiers of outstanding Asynchronous Event Requests -/
  aers : List Nat
  /-- events posted and not yet carried -/
  aens : List Aen
  /-- events reported and masked until their log page is read -/
  aenMasked : List Aen
  /-- normal-class grants received, for the share arbitration -/
  served : Nat
  /-- last queue served in the urgent, high, medium and low class, and visits left of the burst -/
  lastQ : List Nat
  /-- class grants received: high, medium, low -/
  classServed : List Nat
  burstLeft : Nat
  /-- Error Information: failed commands reported (count) -/
  errorCount : Nat
  /-- Changed Namespace List and Changed Zone List (namespace × 2^32 + zone number) of the controller -/
  changedNs : List Nat
  changedZones : List Nat
  /-- NVME_SERIAL and NVME_MODEL as Identify shows them since the controller was enabled -/
  serial : Nat
  model : Nat
deriving DecidableEq, Repr

-- ===== queues and commands (chapter 05) =====

/-- The statuses commands complete with. [PRESUMED, log entry 11] -/
inductive NvStatus where
  | success | invalidOpcode | invalidField | invalidNsOrFormat | lbaOutOfRange | capacityExceeded
  | nsWriteProtected | unrecoveredRead | accessDenied | compareFailure | dataTransferError | internalError
  | commandSequenceError | commandInterrupted | abortRequested | abortedSqDeletion | failedFused | missingFused
  | invalidQueueId | invalidQueueSize | invalidVector | cqInvalid | invalidQueueDeletion | invalidLogPage
  | zoneInvalidWrite | zoneBoundary | zoneFull | zoneReadOnly | zoneOffline | tooManyActive | tooManyOpen
  | invalidZoneTransition | nsInsufficientCapacity | nsIdUnavailable | nsAlreadyAttached | nsNotAttached
  | controllerListInvalid | guardCheck | appTagCheck | refTagCheck
  | firmwareInvalidSlot | firmwareInvalidImage | firmwareNeedsReset | firmwareProhibited | overlappingRange
  | sanitizeInProgress | sanitizeFailed | aerLimit | featureNotChangeable | thinPrp | invalidFormat
  | asymAccessInaccessible | asymAccessTransition | abortLimit | namespaceNotReady
deriving DecidableEq, Repr

/-- A completion queue entry. -/
structure Cqe where
  sqid : Nat
  cid : Nat
  status : NvStatus
  dw0 : Nat
  dw1 : Nat
  /-- Command Retry Delay field (R279) -/
  crd : Nat
deriving DecidableEq, Repr

/-- A submission queue (identifier 0 is the admin queue). -/
structure Sq where
  cqid : Nat
  size : Nat
  head : Nat
  /-- tail as the doorbell store holds it -/
  tail : Nat
  prio : Nat
deriving DecidableEq, Repr

/-- A completion queue. -/
structure Cq where
  size : Nat
  tail : Nat
  phase : Bool
  vector : Nat
  ien : Bool
  /-- entries posted that the host has not freed, oldest first -/
  posted : List Cqe
  /-- completions held because the queue is full (R113), oldest first -/
  held : List Cqe
  /-- completions posted since the last interrupt, while aggregating -/
  aggregated : Nat
deriving DecidableEq, Repr

/-- How far a command in flight has come. -/
inductive Stage where
  /-- its context fill is outstanding: fetched only once it completes -/
  | filling
  /-- waits for pool units (R118) -/
  | admission
  /-- fetched and admitted; its checks have not run -/
  | fetched
  /-- waits for earlier overlapping writes (R125), for a barrier (R130) or for its first half -/
  | ordered
  /-- its data moves or its media work runs -/
  | running
  /-- its first data has moved to the host, or it has changed state: no longer abortable -/
  | committed
deriving DecidableEq, Repr

/-- One command in flight. The numbers of a command kind's own progress stand in `Flight`'s other fields. -/
structure Flight where
  fn : Nat
  sqid : Nat
  cid : Nat
  /-- the completion queue its completion goes to -/
  cqid : Nat
  /-- fetch sequence number -/
  seq : Nat
  /-- settings generation (R33) -/
  gen : Nat
  opcode : Nat
  nsid : Nat
  urgent : Bool
  fuse : Nat
  ordered : Bool
  slba : Nat
  nlb : Nat
  stage : Stage
  fetchNs : Nat
  /-- units taken from the five pools -/
  pools : List Nat
  /-- blocks of a write that are not applied yet: LBA and block -/
  blocks : List (Nat × Block)
  /-- logical ranges the command deallocates once it applies: first block, blocks -/
  clears : List (Nat × Nat)
  /-- map pages a read waits for: namespace × 2^32 + page -/
  mapWaits : List Nat
  /-- codewords a read has still to receive from the media -/
  waits : List CwAddr
  /-- frames a read has still to receive decoded: first byte within the namespace, and the last byte it needs -/
  frameWaits : List (Nat × Nat)
  /-- zones a Flush has still to cut -/
  flushZones : List Nat
  /-- what a Compare compares with -/
  compareWith : List Block
  pi : PiArgs
  /-- the worst status met so far -/
  status : NvStatus
  /-- the acknowledgement waits for the mirror record of this SEQ (R26); 0 for none -/
  mirrorSeq : Nat
  /-- write-through: the write waits for its pages (R25) -/
  throughWait : Bool
  /-- the write-path key tag -/
  tag : Nat
  /-- bounded read: admitted, excused, ladder joined -/
  admitted : Bool
  excused : Bool
  bounded : Bool
  /-- the Cove that bounds it -/
  cove : Nat
  fua : Bool
  /-- when the units of a bounded read were admitted, ns -/
  admitNs : Nat
  /-- a ladder runs as part of the read: its bound is READ_BOUND + T_ladder (R283) -/
  laddered : Bool
  /-- its namespace was attached to its controller, and not being deleted, when it was fetched (R137, R138) -/
  nsOk : Bool
  /-- blocks a read cannot return, and that are not entered in the loss map for it -/
  failed : List Nat
  /-- waits already counted: 0 overlap, 1 at-risk limit, 2 garbage collection, 3 mirror -/
  counted : List Nat
deriving DecidableEq, Repr

/-- Background work and the queue engine's own counters. -/
structure Engine where
  nextSeq : Nat
  /-- grants of every class, and urgent grants, made in this tide -/
  grants : Nat
  urgentGrants : Nat
  /-- the instance last served in the urgent round robin and what is left of its visit -/
  lastUrgent : Nat
  urgentLeft : Nat
  /-- queue contexts cached, least recently used first: function × 8,192 + queue -/
  qctx : List Nat
  /-- the command a context fill will fetch -/
  filling : List (Nat × SqEntry × Bool)
  /-- units of the five pools that background work holds -/
  background : List Nat
  lastFetchNs : Nat
  /-- commands aborted in their submission queue, whose entries are still to be fetched and dropped: queue, command identifier [DEDUCED, log entry 125] -/
  aborted : List (Nat × Nat)
  /-- commands that have arrived and may not begin yet, oldest first (R118, R123, R130, R179, R242, R434) -/
  held : List Instr
deriving DecidableEq, Repr

-- ===== namespaces and zones (chapters 05, 06) =====

/-- A namespace. -/
structure Ns where
  zoned : Bool
  /-- LBA format index (R135) -/
  lbaf : Nat
  /-- protection information: 0 none, 1–3 its type, and the guard width -/
  piType : Nat
  piGuard : Nat
  /-- NSZE = NCAP, logical blocks -/
  nsze : Nat
  /-- quotas q_c by Cove -/
  quota : Assoc Nat
  /-- instances whose controllers it is attached to -/
  attached : List Nat
  /-- the Cove directive is enabled (R147) -/
  directive : Bool
  /-- a Delete has been accepted and waits for its commands -/
  deleting : Bool
  /-- the key tag that fixes a conventional namespace's data (R106) -/
  tag : Option Nat
  /-- ANA group owner in pair mode: the position whose half holds it -/
  half : Nat
  /-- instances of the partner's controllers it is attached to -/
  remote : List Nat
  /-- the serialised command that runs (R139) -/
  running : Option (Cmd × FwdCmd)
  /-- serialised commands that wait for their turn, oldest first -/
  waitq : List (Cmd × FwdCmd)
deriving DecidableEq, Repr

/-- The states of a zone. -/
inductive ZState where
  | empty | implicitOpen | explicitOpen | closed | readOnly | full | offline
deriving DecidableEq, Repr

/-- A frame of a compressed zone (R194 to R198): the sub-slots it covers, its kind and its stored bytes. -/
structure Frame where
  /-- first byte of the frame within the zone, and its logical bytes -/
  start : Nat
  len : Nat
  /-- 0 compressed, 1 stored, 2 raw -/
  kind : Nat
  stored : Nat
  /-- CRC-32C of the original data -/
  dataCrc : Nat
  /-- offset in the zone's physical log -/
  log : Nat
  compressor : Nat
  effort : Nat
  cause : Nat
deriving DecidableEq, Repr

/-- The open compressed unit of a zone (R199 to R205). -/
structure OpenUnit where
  /-- first byte of the unit within the zone, and bytes taken in -/
  start : Nat
  bytes : Nat
  /-- staged bytes of compressed output so far -/
  staged : Nat
  dataCrc : Nat
  compressor : Nat
  effort : Nat
  lastPieceNs : Nat
  /-- a stalled output buffer is waited for (R210) -/
  stalled : Bool
  gen : Nat
deriving DecidableEq, Repr

/-- A zone. A zone that is not listed is Empty and has never been given a Cove. -/
structure Zone where
  st : ZState
  /-- write pointer: blocks from the zone start that have been checked -/
  wp : Nat
  /-- blocks from the zone start that have been applied -/
  applied : Nat
  cove : Nat
  coveValid : Bool
  group : Nat
  /-- Cove assigned by Directive Send for the next open (R149) -/
  assigned : Option Nat
  fzr : Bool
  zfc : Bool
  loss : Bool
  tag : Option Nat
  /-- STORED_z, ALLOC_z and the reservations of writes with an open frame: fetch sequence, amount, end byte (R156) -/
  stored : Nat
  alloc : Nat
  rsv : List (Nat × Nat × Nat)
  lastWriteNs : Nat
  frames : List Frame
  unit : Option OpenUnit
  /-- bytes used in the zone's physical log -/
  logEnd : Nat
  /-- block number at each position of each allocation of the group (R169); from 32,768 on with its die, (die + 1) × 32,768 + block
  (R175) [DESIGN CHOICE, log entry 57] -/
  allocs : List (List Nat)
  /-- commands (Reset or Finish) waiting for the writes checked before them (R434): fetch sequence, action -/
  actions : List (Nat × Nat)
deriving DecidableEq, Repr

-- ===== translation, reclaim and losses (chapter 07) =====

/-- Where the page map says a logical block lies: its die, block and first 4 KiB slot. -/
structure PLoc where
  die : Nat
  block : Nat
  slot : Nat
deriving DecidableEq, Repr

/-- A write stripe of a conventional Cove: one block on each die of a group (R165). -/
structure Stripe where
  cove : Nat
  group : Nat
  /-- die and block at each position -/
  blocks : List (Nat × Nat)
  /-- user bytes used -/
  used : Nat
  closed : Bool
  /-- order of closing -/
  closeSeq : Nat
deriving DecidableEq, Repr

/-- What a relocation moves: allocation `k` at position `p` of a zone to a fresh block, pages of the page map, or a whole allocation. -/
inductive RelocTarget where
  | alloc (zone k p die block : Nat)
  | pages (moves : List (Nat × PLoc × PLoc))
  /-- the whole allocation `k` of a zone, to a fresh block at every position (R175): die and block of each -/
  | whole (zone k : Nat) (blocks : List (Nat × Nat))
deriving DecidableEq, Repr

/-- Why data is relocated. -/
inductive RelocKind where
  | gc | wear | refresh | retire
deriving DecidableEq, Repr

/-- A relocation in progress (R175, R176). -/
structure Reloc where
  id : Nat
  kind : RelocKind
  srcDie : Nat
  srcBlock : Nat
  target : RelocTarget
  /-- destination blocks that have failed in this copy -/
  fails : Nat
deriving DecidableEq, Repr

/-- Data of the write buffer that has not passed on the media (R236): a logical block of a direct zone or of a
conventional namespace, or a closed frame. -/
structure WbEnt where
  nsid : Nat
  /-- first logical block and number of blocks -/
  lba : Nat
  nlb : Nat
  bytes : Nat
  /-- die, block and wordline of each page that has still to pass -/
  locs : List (Nat × Nat × Nat)
  /-- fetch sequence number of the write that carried it -/
  seq : Nat
  acked : Bool
  /-- read back from the flush area, which still holds it (R435) -/
  replay : Bool
  /-- all of it is in passed pages of the write-through log (R243) -/
  logged : Bool
deriving DecidableEq, Repr

/-- A range of lost blocks that is discovered and not yet published (R187), or a die notice (`nsid` 0xFFFF_FFFF). -/
structure LossPend where
  nsid : Nat
  slba : Nat
  nlb : Nat
  cause : Nat
  flags : Nat
  loc : Nat
  cove : Nat
  time : Nat
  atNs : Nat
deriving DecidableEq, Repr

/-- An entry of the loss map. -/
structure LossEnt where
  seq : Nat
  nsid : Nat
  slba : Nat
  nlb : Nat
  cause : Nat
  flags : Nat
  loc : Nat
  /-- Cove of a die notice -/
  cove : Nat
  time : Nat
  published : Nat
deriving DecidableEq, Repr

/-- Translation, reclaim and losses. -/
structure Xlat where
  /-- every namespace is read-only (R193, R225) -/
  readOnlyAll : Bool
  /-- no compressor is left: namespaces with quota in a compressed Cove are read-only (R209) -/
  readOnlyComp : Bool
  /-- a directory of the metadata has lost both copies (R193) -/
  metaLost : Bool
  /-- page map: namespace × 2^64 + LBA -/
  pmap : Assoc PLoc
  stripes : Assoc Stripe
  nextStripe : Nat
  closeSeq : Nat
  /-- relocation map: (zone key × 65,536 + allocation) × 8 + position, to die × 32,768 + block -/
  relocMap : Assoc Nat
  relocs : List Reloc
  nextReloc : Nat
  /-- map pages cached, least recently used first: namespace × 2^32 + page -/
  cached : List Nat
  /-- map pages that are only on the media -/
  cold : List Nat
  dirty : List Nat
  /-- map changes in the delta journal, by page -/
  journal : List Nat
  wbuf : List WbEnt
  /-- poison index: namespace × 2^64 + LBA, to its cause; plus 256 × (die + 1) for the loss of a retired die whose enumeration
  has not closed -/
  poison : Assoc Nat
  /-- blocks marked by Write Uncorrectable -/
  uncor : Assoc Nat
  /-- capacity-state bits of each Cove: 0 SPARE_WARNING, 1 BELOW_REFRESH, 2 READ_ONLY -/
  capState : Assoc Nat
  unpublished : List LossPend
  losses : List LossEnt
  /-- dies whose lost ranges are being enumerated -/
  enumerating : List Nat
deriving DecidableEq, Repr

-- ===== compression (chapter 08) =====

/-- Faults charged to the engines since power-on. -/
structure Comp where
  /-- verify mismatches of each compressor -/
  mismatches : Assoc Nat
  /-- errors not reproduced of each read-path decompressor -/
  charged : Assoc Nat
deriving DecidableEq, Repr

-- ===== NAND channels, recovery, scheduling (chapters 10 to 12) =====

/-- A NAND slot as negotiated. -/
structure Slot where
  present : Bool
  iface : Nat
  rate : Nat
  drive : Nat
  odt : Nat
  lunMask : Nat
  planes : Nat
  blocks : Nat
  wordlines : Nat
  /-- retrainings at the present rate -/
  retrains : Nat
deriving DecidableEq, Repr

/-- What an SB2300 block is used for. -/
inductive BlockUse where
  | free
  | metadata
  | flush
  | zone (key k p : Nat)
  | stripe (id p : Nat)
  | copy (reloc : Nat)
deriving DecidableEq, Repr

/-- An SB2300 block that is not a clean free block of its die. -/
structure PBlock where
  use : BlockUse
  cell : Nat
  erases : Nat
  /-- first passes and final (or single) passes that have completed with NC_OK -/
  firsts : Nat
  finals : Nat
  /-- the wordlines it receives, once closed -/
  closed : Option Nat
  /-- TIME64 of its first program -/
  progTime : Nat
  bad : Bool
  /-- a pass has failed: its readable data waits for relocation -/
  failed : Bool
  /-- due for refresh by threshold -/
  due : Bool
  /-- PENDING_CHECK: wordline and page type that patrol reads again -/
  pending : Option (Nat × Nat)
  /-- programmings in a row marked due while young (R264), and whether this one counts -/
  strikes : Nat
  struck : Bool
  /-- holds no data that is named and awaits erase -/
  stale : Bool
deriving DecidableEq, Repr

/-- An operation on a LUN. -/
structure ArrayOp where
  d : Desc
  /-- anchor time of its start or last resume, of its suspend while it is suspended; and time run before that, ns -/
  startNs : Nat
  ranNs : Nat
  suspends : Nat
  /-- a suspend request is held until SUSPEND_MIN_RUN has run -/
  asked : Bool
  tokens : Nat
deriving DecidableEq, Repr

/-- A LUN: its descriptor queue, the operation in its array, and the one it holds suspended. -/
structure Lun where
  queue : List Desc
  run : Option ArrayOp
  susp : Option ArrayOp
  /-- the LUN has become ready after the suspend, and when -/
  ready : Bool
  readyNs : Nat
  /-- tags of the foreground reads that were admitted when it became ready -/
  window : List Nat
  /-- a resume has been asked for -/
  resume : Bool
  /-- read offsets last set: page type × 256 + offset byte -/
  offsets : Assoc Nat
  /-- foreground and background passes alternate -/
  lastFore : Bool
deriving DecidableEq, Repr

/-- A read offset entry (R252). -/
structure OffEnt where
  cur : Int
  prev : Int
  /-- the settings generation that opened at the tide at which CUR applied -/
  gen : Nat
  settled : Bool
  s : Nat
  n1 : Nat
  e10 : Nat
  e01 : Nat
  pend : Option Int
deriving DecidableEq, Repr

/-- A retry ladder that runs (R258): the page, the READ_LEVEL of its next step, the best level so far and its
unsatisfied checks, and the codewords (plane, codeword) still failing. -/
structure Ladder where
  die : Nat
  block : Nat
  wl : Nat
  pt : Nat
  gen : Nat
  next : Nat
  best : Nat
  bestU : Nat
  cws : List (Nat × Nat)
  host : Bool
  /-- the frame whose DZ_ error started it (R214): its first byte in the namespace, the namespace, and the decompressor -/
  frame : Option (Nat × Nat × Nat)
deriving DecidableEq, Repr

/-- What a bounded Cove reports. -/
structure BoundSt where
  depth : Nat
  infeasible : Bool
  mapLoading : Bool
  refused : Nat
  early : Nat
  excused : Nat
  missed : Nat
deriving DecidableEq, Repr

/-- A patrol lap of one cell mode. -/
structure Lap where
  startNs : Nat
  /-- pages patrolled in this lap: die, block, wordline, page type -/
  done : List (Nat × Nat × Nat × Nat)
  /-- codewords of pages that are not decoded in full yet -/
  part : List CwAddr
deriving DecidableEq, Repr

/-- A completion of a channel engine (R233). -/
structure NcDone where
  tag : Nat
  status : Nat
  overrun : Bool
  resumed : Bool
  suspends : Nat
  nandSr : Nat
  arrayTime : Nat
  featureOut : Nat
deriving DecidableEq, Repr

/-- NAND channels, read recovery and die scheduling. -/
structure Nand where
  negotiated : Bool
  slots : Assoc Slot
  /-- NAND_TIMES, READ_LEVEL_MAP and the interface choice in force since power-on -/
  times : Bytes
  levelMap : Bytes
  metaBlocks : Nat
  flushBlocks : Nat
  /-- NAND_DIE_STATE by die: 1 in service, 2 retired -/
  dies : Assoc Nat
  /-- SB2300 blocks: die × 32,768 + block [DESIGN CHOICE, log entry 53] -/
  blocks : Assoc PBlock
  luns : Assoc Lun
  /-- codewords in the buffer slices, with the generation and work they were read for -/
  arrived : List (CwAddr × Nat × Bool)
  /-- offsets: (die × 16 + band) × 8 + page type -/
  offs : Assoc OffEnt
  /-- offsets as last persisted -/
  offsKept : Assoc Int
  ladders : List Ladder
  bound : Assoc BoundSt
  laps : List Lap
  /-- write-through log: fetch sequences and bytes of the writes it holds -/
  wtLog : List (Nat × Nat)
  /-- data the flush area holds that has not passed at its destination -/
  flushArea : Bool
  /-- channels being taken over from a partner -/
  takingOver : Nat
  /-- Strands that are gated (R19) -/
  gated : List Nat
  /-- operations that wait for tokens, in request order: die and kind in the order of R276 -/
  tokenWait : List (Nat × Nat)
  /-- patrol read rate of each die, bytes per second (R266) -/
  patrolRate : Assoc Nat
  /-- newest completion of each channel engine; the die scheduler reads each as it comes [DESIGN CHOICE, log entry 67] -/
  completions : Assoc NcDone
deriving DecidableEq, Repr

-- ===== the pair (chapter 15) =====

/-- A Rinor record that has been sent and not acknowledged. -/
structure SentRec where
  seq : Nat
  kind : Nat
  len : Nat
  /-- fetch sequence number of the write it belongs to, 0 for none -/
  group : Nat
  groupEnd : Bool
deriving DecidableEq, Repr

/-- What a received record holds, for the rules that apply it: logical blocks of data or staging (namespace, LBA, value),
or a zone-record change (namespace, zone, write pointer, state code). -/
inductive MirrorBody where
  | blocks (l : List (Nat × Nat × Nat))
  | zone (nsid zone wp state : Nat)
  | release
deriving DecidableEq, Repr

/-- A record written into the mirror receive region. -/
structure MirRec where
  seq : Nat
  kind : Nat
  arg : Nat
  len : Nat
  group : Nat
  groupEnd : Bool
  body : MirrorBody
  /-- it has passed CHECK -/
  good : Bool
deriving DecidableEq, Repr

/-- An admin command that has been carried to the owner of the other half: SEQ of its record, 0 while none is sent (R338). -/
structure Forward where
  seq : Nat
  cmd : Cmd
  fwd : FwdCmd
deriving DecidableEq, Repr

/-- The pair. -/
structure Pair where
  /-- PAIR_STATE -/
  state : Nat
  position : Nat
  /-- PAIR_ENABLE and RINOR_TARGET_SPEED at power-on -/
  enabled : Bool
  linkUp : Bool
  linkMode : Nat
  seqSent : Nat
  seqAcked : Nat
  unacked : List SentRec
  /-- acknowledged records whose data the sender still holds in its write buffer (R326) -/
  kept : List SentRec
  /-- highest contiguous SEQ written and checked -/
  recvSeq : Nat
  recv : List MirRec
  /-- a partner that sleeps is excused (R340) -/
  partnerAsleep : Bool
  /-- no edge on PL_HB_IN -/
  hbInStopped : Bool
  /-- PL_HB_OUT toggles -/
  hbOut : Bool
  fenceIn : Bool
  fenceOut : Bool
  /-- PAIR_DEAD_TIME has passed and position 1's deferral runs -/
  deferring : Bool
  fenceNs : Nat
  /-- ANA state of groups 1 and 2: 0 Optimized, 1 Inaccessible, 2 Change -/
  ana1 : Nat
  ana2 : Nat
  /-- admin commands carried to the owner that it has not executed yet, oldest first -/
  forwards : List Forward
  /-- a sleep request waits for the partner's ACK of a power coordination record with this SEQ; 0 for none -/
  coordSeq : Nat
  /-- the half being handed to the partner (R336), and whether the package returns from a fence to a half it does not own yet -/
  handing : Option Nat
  returning : Bool
deriving DecidableEq, Repr

-- ===== DRAM (chapter 13) =====

/-- A DRAM request: one 64-byte burst. -/
structure DramReq where
  /-- burst number: the DRAM address of R293 ÷ 64 -/
  burst : Nat
  write : Bool
  data : Nat
  /-- rank and bank, and row -/
  bank : Nat
  row : Nat
  ns : Nat
deriving DecidableEq, Repr

/-- A subchannel of a DRAM channel. -/
structure SubCh where
  /-- requests in the bank queues, oldest first -/
  queue : List DramReq
  /-- requests that wait at the controller's input because their bank queue is full -/
  input : List DramReq
  /-- the last bank that received an activate -/
  lastAct : Nat
  draining : Bool
  /-- open row of each bank -/
  openRow : Assoc Nat
  /-- open-row hits served in a row, by bank -/
  hits : Assoc Nat
  /-- activate table of each bank: row and count, at most 64 (R298) -/
  rows : Assoc (List (Nat × Nat))
  /-- same-bank refreshes issued, and those that wait for the end of a pause (rank × 4 + bank address) -/
  refreshed : Nat
  owed : List Nat
deriving DecidableEq, Repr

/-- A step of the retraining rotation (R300). -/
inductive Retrain where
  | oscStart (sub rank : Nat)
  | oscRead (sub rank : Nat)
  | rdq (sub rank lane : Nat)
  | wdq (sub rank lane : Nat)
deriving DecidableEq, Repr

/-- A DRAM channel. -/
structure DramCh where
  /-- its training has finished: requests reach it -/
  ready : Bool
  /-- when its last pause began, ns -/
  pauseNs : Option Nat
  /-- position in the rotation, and steps inserted by drift, done next -/
  pos : Nat
  inserted : List Retrain
deriving DecidableEq, Repr

/-- The DRAM controllers. -/
structure Dram where
  negotiated : Bool
  failed : Bool
  ranks : Nat
  /-- WIDTH and DENSITY codes of DRAM_GEOMETRY in force -/
  width : Nat
  density : Nat
  /-- the six bank masks in force (R294) -/
  masks : List Nat
  selfRefresh : Bool
  subs : Assoc SubCh
  chans : Assoc DramCh
  /-- when the last pause of the package began, ns -/
  lastPauseNs : Option Nat
  /-- contents by burst; a burst that is not listed holds zeros [DESIGN CHOICE, log entry 46] -/
  mem : Assoc Nat
  /-- bursts whose word `w` is uncorrectable: burst × 8 + w -/
  poisoned : List Nat
  /-- the last read returned: burst and data -/
  lastRead : Option (Nat × Nat)
deriving DecidableEq, Repr

-- ===== buffers and stored-data protection (chapter 14) =====

/-- A buffer of a pool (R307). -/
structure Buf where
  alloc : Bool
  refs : Nat
  tag : Nat
  poison : Bool
  /-- the instance it is charged to (0xFFFF background work) -/
  inst : Nat
deriving DecidableEq, Repr

/-- A buffer request that waits (R304). -/
structure BufReq where
  domain : Nat
  bytes : Nat
  requester : Nat
  inst : Nat
deriving DecidableEq, Repr

/-- An entry of HARD_FAULT_TABLE (R313). -/
structure HardFault where
  bitA : Nat
  bitB : Option Nat
  firstSeen : Nat
  corrections : Nat
deriving DecidableEq, Repr

/-- A scrub lap in progress (R316): its start, the words read, the words it has to read, and the next word. -/
structure ScrubLap where
  startNs : Nat
  read : Nat
  total : Nat
deriving DecidableEq, Repr

/-- The ECC test registers and test areas (R317). -/
structure EccTest where
  region : Nat
  offset : Nat
  data : Nat
  check : Nat
  refused : Bool
  outcome : Nat
  syndrome : Nat
  /-- stored words: region × 65,536 + offset, to data + check × 2^64; a word not listed is zeros with its own check -/
  mem : Assoc Nat
deriving DecidableEq, Repr

/-- Buffer pools and stored-data protection. -/
structure Buffers where
  /-- buffers of the hub pools since power-on (R303) -/
  sizes : List Nat
  /-- buffers that have been granted: (domain × 8 + pool) × 2^21 + index -/
  bufs : Assoc Buf
  waiting : List BufReq
  /-- handle of the last grant -/
  granted : Option Nat
  /-- code of the last pool operation (R308) -/
  code : Nat
  /-- hard faults: region × 2^64 + address -/
  hard : Assoc HardFault
  laps : Assoc ScrubLap
  test : EccTest
deriving DecidableEq, Repr

-- ===== power (chapter 16) =====

/-- A sleep entry in progress (R348): the target (2 Slack, 3 Neap) and whether its request came by a path whose
result the host reads in Power Management. -/
structure SleepEntry where
  target : Nat
  /-- the sleep copy has been programmed (step 2) -/
  copied : Bool
  /-- the partner has acknowledged (step 3) -/
  acked : Bool
deriving DecidableEq, Repr

/-- Supplies, power states and the hold-up bank. -/
structure Power where
  /-- POWER_STATE: 0 Flood, 1 Ebb, 2 Slack, 3 Neap -/
  state : Nat
  /-- a power-loss flush runs -/
  flushActive : Bool
  /-- the reset that follows the flush that runs: 0 none yet, 0x06 to 0x08 (R357, R371, R372) -/
  afterFlush : Nat
  /-- the flush has ended and 1 ms of good supply is waited for (R357) -/
  flushEnded : Bool
  /-- when the flush began, ns; the data that the last flush did not finish, until it is replayed (R436) -/
  flushStartNs : Nat
  flushLost : List (Nat × Nat × Nat)
  /-- function and link resets that wait for the end of the flush (R372): 0 FLR, 1 controller reset, 2 Hot Reset, 3 link down; its
  function or port [DEDUCED, log entry 82] -/
  heldResets : List (Nat × Nat)
  /-- Ebb is wanted by the throttle, or was entered on idle (R347) -/
  ebbThrottle : Bool
  ebbIdle : Bool
  /-- NVMe power state in force, and its budget (0 to 2) -/
  ps : Nat
  budget : Nat
  /-- APST: enabled, and its 32 entries (power state, idle ms) -/
  apst : Bool
  apstTable : List (Nat × Nat)
  entry : Option SleepEntry
  /-- the power state left by the sleep, and whether a sleep copy is valid or being erased (R351) -/
  before : Nat
  sleepCopy : Bool
  /-- [DEDUCED, log entry 82] -/
  copyErasing : Bool
  /-- the sequencer: highest step whose enable is driven, and highest whose power-good is high (2 to 7) -/
  step : Nat
  good : Nat
  /-- a rail fault has stopped the sequence (R344) -/
  fault : Bool
  /-- the rails are down below the reset level (R358) -/
  down : Bool
  /-- domains (0–3 Bay, 4 hub) whose speed reading is held below 1,024 (R30) -/
  slow : List Nat
  /-- requested VDD_CORE of rails 0 to 4, mV (R342) -/
  request : List Nat
  /-- a sample of V12_SENSE has been taken; the lowest of the dip; when the last fall below warning was, ns -/
  lowest : Nat
  armed : Bool
  fallNs : Nat
  /-- 1 ms at or above warning plus hysteresis has been held once since power-on (R355) -/
  supplyGood : Bool
  /-- when the 1 ms count began, ns -/
  countNs : Nat
  /-- HU_CHG_EN and HU_TEST_LOAD -/
  charging : Bool
  testLoad : Bool
  /-- the first charge has ended; a test runs (V1 once sampled); its recharge runs -/
  charged : Bool
  testing : Bool
  v1 : Nat
  recharging : Bool
  /-- C of the last completed test × 2^64, µF -/
  cap : Nat
  /-- a charge fault, or no test passed: write-through until a test passes (R360) -/
  holdupFail : Bool
  /-- AT_RISK_LIMIT that the first test since power-on set [DEDUCED, log entry 119] -/
  firstLimit : Option Nat
deriving DecidableEq, Repr

-- ===== temperature (chapter 17) =====

/-- Temperature and throttling. -/
structure Thermal where
  /-- THROTTLE_STATE and THROTTLE_CAUSE -/
  state : Nat
  cause : Nat
  /-- THROTTLE_STATE before a thermal hold -/
  before : Nat
  /-- sensors that have been read since power-on -/
  seen : List Nat
  /-- sensors that have failed since power-on, as SENSORS_FAILED shows them -/
  failed : Nat
  /-- samples in a row that differ from the median of the group by more than 30 °C -/
  deviant : Assoc Nat
  /-- Critical Warning bit 1 -/
  critical : Bool
  /-- THERMAL_TOKEN_LIMIT as last decided -/
  limit : Nat
  /-- NAND temperature of each slot, °C, and the slots outside the media window -/
  nand : Assoc Int
  held : List Nat
deriving DecidableEq, Repr

-- ===== resets (chapter 18) =====

/-- The watchdog and resets that wait. -/
structure Reset where
  /-- last kick of each kicker, ns -/
  kicks : Assoc Nat
  /-- an expiry waits for the sector operation (R375), and when it came -/
  deferred : Bool
  deferredNs : Nat
  /-- the watchdog has expired and its reset has not been done: PL_HB_OUT stops -/
  expired : Bool
deriving DecidableEq, Repr

-- ===== code store (chapter 19) =====

/-- An operation of the code flash: opcode, descriptor, data. -/
structure CfOp where
  op : Nat
  d : CfDesc
  words : List Nat
  startNs : Nat
  suspended : Bool
deriving DecidableEq, Repr

/-- A completion of the code flash. -/
structure CfDone where
  tag : Nat
  status : Nat
  done : Nat
  arrayUs : Nat
  firstBad : Nat
deriving DecidableEq, Repr

/-- A slot marker of the boot record (R385). -/
structure Marker where
  slot : Nat
  /-- 1 activate, 2 boot attempt -/
  kind : Nat
  confirmed : Bool
  seq : Nat
  /-- DIGEST_PREFIX -/
  digest : Nat
deriving DecidableEq, Repr

/-- The code flash. -/
structure CodeFlash where
  /-- 32-byte words that are not erased, by word number -/
  words : Assoc Nat
  /-- programs of a word since its sector was erased -/
  progs : Assoc Nat
  /-- erases of a sector -/
  erases : Assoc Nat
  queue : List CfOp
  /-- requesters that wait by handshake because the queue holds 64 -/
  waiting : List CfOp
  /-- the operation of each bank -/
  run0 : Option CfOp
  run1 : Option CfOp
  completions : List CfDone
  /-- digest that the last HASH computed -/
  hashOut : Nat
  /-- SRAM the copy service wrote last: destination, bytes, and the code it returned -/
  copied : Option (Nat × Nat × Nat)
  password : Nat
  pwWords : List Nat
  /-- password mismatches since power-on (R383) [DEDUCED, log entry 77] -/
  pwFails : Nat
  unlocked : List Nat
  markers : List Marker
  /-- a fallback has happened since the last activation -/
  fallback : Bool
  /-- the PF that holds an update, and the byte ranges downloaded since the slot was erased (R388, R389) -/
  hold : Option Nat
  written : List (Nat × Nat)
deriving DecidableEq, Repr

/-- A record of SIGNER_KEYS. -/
structure Signer where
  role : Nat
  alg : Nat
  hash : Nat
  added : Nat
deriving DecidableEq, Repr

/-- Boot, identity, attestation, service mode, sanitize. -/
structure Boot where
  recovery : Bool
  /-- the boot ROM runs: VDD_AO is up -/
  powered : Bool
  /-- running slot, SEQUENCE of its activate marker at boot, and the image's SECURITY_VERSION and digest -/
  slot : Nat
  markerSeq : Nat
  secVersion : Nat
  fwDigest : Nat
  /-- some function has set CSTS.RDY since the boot (R386) -/
  rdySeen : Bool
  /-- revocation mask of the four root keys [DEDUCED, log entry 79] -/
  revoked : Nat
  signers : List Signer
  /-- attestation key pair (its number) and type; endorsement (R394) -/
  attestPair : Nat
  attestAlg : Nat
  nonce : Option Nat
  building : Bool
  report : Bytes
  /-- service mode: unlocked, by which path, its DURATION_S, and the challenge in force -/
  service : Bool
  servicePath : Option Path
  serviceS : Nat
  challenge : Option Nat
  challengeNs : Nat
  /-- refused unlocks since power-on (R399) [DEDUCED, log entry 77] -/
  svcFails : Nat
  /-- a sanitize runs; it began in unrestricted mode; the sanitize failure state -/
  sanitizing : Bool
  ause : Bool
  sanitizeFailed : Bool
  failureMode : Bool
  /-- Sanitize commands that wait for the serialised commands of namespaces (R139): action and AUSE -/
  sanWait : List (Cmd × Nat × Bool)
deriving DecidableEq, Repr

-- ===== the whole =====

/-- The block. -/
structure State where
  clk : Clock
  /-- values of entries, by `entryKey`; an entry that is not listed holds its default -/
  dict : Assoc Nat
  /-- generation in force, older ones that work carries, tides of reserved ones (R36) -/
  genNow : Nat
  gens : List Gen
  reserved : List Nat
  staged : List Staged
  miowa : Miowa
  store : Store
  recd : Recorder
  trace : Trace
  tel : Telemetry
  crc : CrcUnits
  portA : Port
  portB : Port
  /-- PORT_MODE and VF_SPLIT in force since power-on (R68) -/
  portMode : Nat
  vfSplit : Nat
  /-- WAKE# driven low (R84) -/
  wakeLow : Bool
  insts : Assoc Inst
  sqs : Assoc Sq
  cqs : Assoc Cq
  flights : List Flight
  eng : Engine
  nss : Assoc Ns
  /-- zones: namespace × 2^32 + zone number -/
  zones : Assoc Zone
  /-- contents of logical blocks that are not zero: namespace × 2^64 + LBA [DESIGN CHOICE, log entry 53] -/
  blocks : Assoc Nat
  /-- protection information of logical blocks, by the same key -/
  pis : Assoc PiTuple
  /-- the newest completion of each function, and the data its last command returned -/
  lastCqe : Assoc Cqe
  hostOut : Assoc Bytes
  /-- what the last read of a function's BARs returned -/
  barRead : Assoc Nat
  /-- persisted key check values by key tag (R106) -/
  keyChecks : Assoc Nat
  /-- MSI-X messages sent: function × 2,048 + vector -/
  msix : Assoc Nat
  /-- MSI-X table entries written: function × 8,192 + dword -/
  msixTable : Assoc Nat
  power : Power
  thermal : Thermal
  wdt : Reset
  nand : Nand
  comp : Comp
  dram : Dram
  bufs : Buffers
  cf : CodeFlash
  boot : Boot
  xlat : Xlat
  pair : Pair
  /-- the model's own counter that free values are drawn by; nothing of the hardware [DESIGN CHOICE, log entry 8] -/
  freeCtr : Nat
  /-- commands that wait, first in, first out -/
  pending : List Instr
deriving DecidableEq, Repr

-- ===== reset =====

/-- A port after power-on: PERST# asserted, link down. [DESIGN CHOICE, log entry 6] -/
def Port.atReset : Port :=
  { perst := true, link := 0, rate := 0, width := 0, flit := false, l0pWidth := 0, attempts := 0, ltrNs := 0, ltrDue := false,
    pme := false, refStopped := false, vfEnable := false, numVfs := 0, subsysVid := 0, subsysId := 0, aerSticky := 0 }

/-- A check-value unit after power-on: free, RUNNING zero. -/
def CrcUnit.atReset : CrcUnit := { holder := 0, alg := 0, running := 0, lo := 0, bytes := 0, dropped := false, out := false }

/-- A recorder window after power-on. -/
def Window.atReset : Window := { cursor := 0, minSev := 0, compact := false, freeze := false, loading := false, slots := [] }

/-- Supplies and power states after power-on: Flood, SUPPLY_STATE 0x03 (R355), the boot ROM about to start step 3. [DESIGN CHOICE, log entry 6] -/
def Power.atReset : Power :=
  { state := 0, flushActive := false, afterFlush := 0, flushEnded := false, flushStartNs := 0, flushLost := [], heldResets := [], ebbThrottle := false, ebbIdle := false, ps := 0,
    budget := 0, apst := false, apstTable := [], entry := none, before := 0, sleepCopy := false, copyErasing := false,
    step := 2, good := 2, fault := false, down := false, slow := [], request := [0, 0, 0, 0, 0], lowest := 0, armed := false, fallNs := 0,
    supplyGood := false, countNs := 0, charging := true, testLoad := false, charged := false, testing := false, v1 := 0,
    recharging := false, cap := 0, holdupFail := false, firstLimit := none }

/-- Temperature after power-on. -/
def Thermal.atReset : Thermal :=
  { state := 0, cause := 0xFF, before := 0, seen := [], failed := 0, deviant := [], critical := false, limit := 2 ^ 32 - 1, nand := [], held := [] }

/-- NAND channels, recovery and scheduling after power-on: nothing negotiated. -/
def Nand.atReset : Nand :=
  { negotiated := false, slots := [], times := [], levelMap := [], metaBlocks := 16, flushBlocks := 2, dies := [], blocks := [],
    luns := [], arrived := [], offs := [], offsKept := [], ladders := [], bound := [], laps := [], wtLog := [],
    flushArea := false, takingOver := 0, gated := [], tokenWait := [], patrolRate := [], completions := [] }

/-- Translation after power-on. -/
def Xlat.atReset : Xlat :=
  { readOnlyAll := false, readOnlyComp := false, metaLost := false, pmap := [], stripes := [], nextStripe := 0, closeSeq := 0,
    relocMap := [], relocs := [], nextReloc := 0, cached := [], cold := [], dirty := [], journal := [], wbuf := [], poison := [],
    uncor := [], capState := [], unpublished := [], losses := [], enumerating := [] }

/-- DRAM after power-on: not trained; the default geometry and masks. -/
def Dram.atReset : Dram :=
  { negotiated := false, failed := false, ranks := 2, width := 2, density := 2,
    masks := [0x08082000, 0x10104000, 0x20208080, 0x40410100, 0x80820200, 0x101040000], selfRefresh := false, subs := [],
    chans := [], lastPauseNs := none, mem := [], poisoned := [], lastRead := none }

/-- Buffers after power-on: the default division of the hub pools. -/
def Buffers.atReset : Buffers :=
  { sizes := [8192, 12288, 1536, 512, 80], bufs := [], waiting := [], granted := none, code := 0, hard := [], laps := [],
    test := { region := 0, offset := 0, data := 0, check := 0, refused := false, outcome := 0, syndrome := 0, mem := [] } }

/-- The code flash after power-on of a package that holds no image: every sector erased, the password all ones. [DESIGN CHOICE, log entry 6] -/
def CodeFlash.atReset : CodeFlash :=
  { words := [], progs := [], erases := [], queue := [], waiting := [], run0 := none, run1 := none, completions := [], hashOut := 0,
    copied := none, password := 2 ^ 128 - 1, pwWords := [], pwFails := 0, unlocked := [], markers := [], fallback := false, hold := none,
    written := [] }

/-- Boot and security after power-on. [DESIGN CHOICE, log entry 6] -/
def Boot.atReset : Boot :=
  { recovery := false, powered := true, slot := 1, markerSeq := 0, secVersion := 0, fwDigest := 0, rdySeen := false, revoked := 0, signers := [], attestPair := 0,
    attestAlg := 2, nonce := none, building := false, report := [], service := false, servicePath := none, serviceS := 0,
    challenge := none, challengeNs := 0, svcFails := 0, sanitizing := false, ause := false, sanitizeFailed := false, failureMode := false, sanWait := [] }

/-- The pair after power-on: PAIR_ENABLE false, so single mode. -/
def Pair.atReset : Pair :=
  { state := 0, position := 0, enabled := false, linkUp := false, linkMode := 0, seqSent := 0, seqAcked := 0, unacked := [], kept := [],
    recvSeq := 0, recv := [], partnerAsleep := false, hbInStopped := false, hbOut := true, fenceIn := false, fenceOut := false,
    deferring := false, fenceNs := 0, ana1 := 0, ana2 := 0, forwards := [], coordSeq := 0, handing := none, returning := false }

/-- Entries whose value at reset is not the default of their table: ORDERING_CODE (fused), CAP_WRITE_BUFFER (set at
power-on from the default WRITE_BUFFER_GIB), QUEUE_PAIRS of the two PF instances (R96). [DESIGN CHOICE, log entry 6] -/
def resetDict : Assoc Nat :=
  Assoc.put (Assoc.put (Assoc.put (Assoc.put [] K.orderingCode 2) K.capWriteBuffer 196608) (instKey K.queuePairs 0) 64)
    (instKey K.queuePairs 1) 64

/-- The block right after power-on reset. [DESIGN CHOICE, log entries 6, 7] -/
def State.reset : State :=
  { clk := { nowNs := 0, tide := 0, tideStartNs := 0, calNs := 0, calSet := false, slewNs := 0, keptNs := 0, source := 1, crystalOk := true,
             refAOk := true, refBOk := true }
    dict := resetDict, genNow := 0, gens := [], reserved := [], staged := []
    miowa := { resp := [], vers := [], copies := [], xfers := [], doms := [], heldWrites := [] }
    store := { journal := [], queue := [], waitAck := [], baseImage := [], base := [], baseId := 0, baseIdInForce := 0, baseInForce := [], overlays := [] }
    recd := { nextSeq := 1, staging := [], ext := [], compact := [], compactWait := [], compactErasing := false, hold := [],
              frozen := false, freezeStartNs := 0, thawedFull := false, flushed := [], winA := Window.atReset,
              winB := Window.atReset, snaps := [] }
    trace := { fifo := [], cur := [], curFirst := 0xFF, nextSeq := 0, latchA := [], latchB := [] }
    tel := { hist := [], histCove := [], sketchCur := [], sketchPrev := [] }
    crc := { units := List.replicate 16 CrcUnit.atReset, waiting := [], testTurn := 0 }
    portA := Port.atReset, portB := Port.atReset, portMode := 0, vfSplit := defaultOf K.vfSplit, wakeLow := false
    insts := [], sqs := [], cqs := [], flights := []
    eng := { nextSeq := 1, grants := 0, urgentGrants := 0, lastUrgent := 0, urgentLeft := 0, qctx := [], filling := [],
             background := [0, 0, 0, 0, 0], lastFetchNs := 0, aborted := [], held := [] }
    nss := [], zones := [], blocks := [], pis := [], lastCqe := [], hostOut := [], barRead := [], keyChecks := [], msix := [],
    msixTable := []
    power := Power.atReset, thermal := Thermal.atReset, wdt := { kicks := [], deferred := false, deferredNs := 0, expired := false }
    nand := Nand.atReset, comp := { mismatches := [], charged := [] }, dram := Dram.atReset, bufs := Buffers.atReset,
    cf := CodeFlash.atReset, boot := Boot.atReset, xlat := Xlat.atReset, pair := Pair.atReset
    freeCtr := 0, pending := [] }

end Sys2Proof.Machine
end

