-- ==== Sys2Proof/Machine/Ops.lean ====
section
/-! DEFINITION. Machine/Ops.lean: the operations the families share: entry values and counters, time, event records,
trace items, staged changes and generations, completions, asynchronous events, interrupts. -/
namespace Sys2Proof.Machine
open Sys2Proof

-- ===== entry values =====

/-- The value in force of an entry. -/
def v (s : State) (key : Nat) : Nat :=
  match s.dict.get? key with
  | some x => x
  | none => defaultOf key

/-- A boolean entry. -/
def vb (s : State) (key : Nat) : Bool := v s key == 1

/-- An entry that exists once per instance. -/
def vi (s : State) (key n : Nat) : Nat := v s (instKey key n)

/-- The value an entry had in generation `g` (R33); the value in force where `g` is the generation in force. -/
def vg (s : State) (g key : Nat) : Nat :=
  match s.gens.find? (fun x => x.num == g) with
  | some x => (match x.snap.get? key with
    | some y => y
    | none => defaultOf key)
  | none => v s key

/-- Give an entry a value. -/
def setV (s : State) (key x : Nat) : State := { s with dict := s.dict.put key x }

/-- Give an entry of instance `n` a value. -/
def setVi (s : State) (key n x : Nat) : State := setV s (instKey key n) x

/-- Count in a counter of `w` bits, which stops at its largest value. [DESIGN CHOICE, log entry 13] -/
def bump (s : State) (key w n : Nat) : State := setV s key (satAdd w (v s key) n)

/-- Count in a U32 counter. -/
def bump32 (s : State) (key : Nat) : State := bump s key 32 1

/-- Count in a U64 counter. -/
def bump64 (s : State) (key : Nat) : State := bump s key 64 1

/-- Advance the DOMAIN_VERSION of a DOMAIN entry whose value has changed (R57). -/
def domChanged (s : State) (key : Nat) : State :=
  { s with miowa := { s.miowa with doms := s.miowa.doms.updD key ⟨[], 0⟩ (fun d => { d with version := (d.version + 1) % 2 ^ 32 }) } }

/-- Replace the stored value of a DOMAIN entry. -/
def setDom (s : State) (key : Nat) (b : Bytes) : State :=
  { s with miowa := { s.miowa with doms := s.miowa.doms.updD key ⟨[], 0⟩ (fun d => ⟨b, (d.version + 1) % 2 ^ 32⟩) } }

/-- The stored value of a DOMAIN entry. -/
def domOf (s : State) (key : Nat) : Bytes := (s.miowa.doms.getD key ⟨[], 0⟩).bytes

/-- The next free value below `m` (a value the spec leaves open), and the state with the counter advanced. [DESIGN CHOICE, log entry 8] -/
def freeBelow (s : State) (m : Nat) : Nat × State :=
  (Config.freeNat s.freeCtr % m, { s with freeCtr := s.freeCtr + 1 })

-- ===== time =====

/-- The TIME64 of now: bit 63 set while calendar time has not been set (R66). -/
def time64 (s : State) : Nat :=
  if s.clk.calSet then s.clk.calNs / 1000 % 2 ^ 63 else 2 ^ 63 + s.clk.calNs / 1000 % 2 ^ 63

/-- Anchor time passes: the calendar runs, and a slew corrects it at 500 ppm, never backward (R66). [DESIGN CHOICE, log entry 5] -/
def advance (s : State) (dNs : Nat) : State :=
  let c := s.clk
  let most : Int := dNs / 2000
  let part : Int := if c.slewNs ≥ 0 then min c.slewNs most else max c.slewNs (-most)
  { s with clk := { c with
      nowNs := c.nowNs + dNs
      calNs := ((c.calNs : Int) + dNs + part).toNat
      slewNs := c.slewNs - part } }

/-- Length of the tide now running, ns. -/
def tideLenNs (s : State) : Nat := v s K.tideLength * 1000

/-- The tide at whose boundary a change accepted now applies (R34). -/
def applyTide (s : State) : Nat :=
  if s.clk.nowNs + v s K.tideCloseMargin * 1000 ≤ s.clk.tideStartNs + tideLenNs s then s.clk.tide + 1 else s.clk.tide + 2

-- ===== event records (R400 to R406) =====

/-- The media takes records: after NAND negotiation, outside a flush, Slack, Neap and recovery (R402). [DEDUCED, log entry 14] -/
def mediaAvailable (s : State) : Bool :=
  s.nand.negotiated && !s.power.flushActive && s.power.state < 2 && !s.boot.recovery

/-- The record a new record of severity `sev` removes from a full recorder: among the records whose severity is not
above `sev`, the oldest of the lowest severity present (R404). -/
def victim (l : List Rec) (sev : Nat) : Option Nat :=
  let c := l.filter (fun r => sev ≤ r.severity)
  let worst := maxNat (c.map Rec.severity)
  (c.find? (fun r => r.severity == worst)).map Rec.seq

/-- A record enters the staging queue (R402). -/
def stageRec (s : State) (r : Rec) : State :=
  let r' := if mediaAvailable s then r else { r with rflags := r.rflags ||| 4 }
  if s.recd.staging.length < 1024 then
    { s with recd := { s.recd with staging := s.recd.staging ++ [r'] } }
  else match victim s.recd.staging r'.severity with
    | some q => { s with recd := { s.recd with staging := s.recd.staging.filter (fun x => x.seq != q) ++ [r'] } }
    | none => bump32 s K.stagingDropped

/-- Records the extended recorder holds at most (R404). -/
def extCapacity : Nat := 268435456

/-- A record enters the extended recorder (R404). -/
def extRec (s : State) (r : Rec) : State :=
  if s.recd.ext.length < extCapacity then { s with recd := { s.recd with ext := s.recd.ext ++ [r] } }
  else match victim s.recd.ext r.severity with
    | some q =>
      bump64 { s with recd := { s.recd with ext := s.recd.ext.filter (fun x => x.seq != q) ++ [r] } } K.extReplaced
    | none => bump32 s K.extDropped

/-- A record enters the compact recorder, which removes nothing (R403). -/
def compactRec (s : State) (r : Rec) : State :=
  if s.recd.compactErasing then { s with recd := { s.recd with compactWait := s.recd.compactWait ++ [r] } }
  else if s.recd.compact.length < 32768 then { s with recd := { s.recd with compact := s.recd.compact ++ [r] } }
  else bump32 s K.compactDropped

/-- A freeze ends and the held records enter in SEQ order (R406). -/
def thaw (s : State) (full : Bool) : State :=
  let held := s.recd.hold
  let s := { s with recd := { s.recd with hold := [], frozen := false, thawedFull := s.recd.thawedFull || full } }
  let s := if full then bump32 s K.freezeOverflows else s
  held.foldl stageRec s

/-- Record an event (R400, R401, R402): severity and arguments as the event table gives them. [DEDUCED, log entry 9] -/
def record (s : State) (ev unit inst : Nat) (args : List Nat) : State :=
  let sev := severityOf ev
  let compact := decide (sev ≤ v s K.compactMinSeverity)
  let stage := decide (sev ≤ v s K.recordMinSeverity)
  if !compact && !stage then s
  else
    let r : Rec :=
      { seq := s.recd.nextSeq, time := time64 s, tide := s.clk.tide, severity := sev, event := ev, unit := unit,
        inst := inst, detail := detailOf ev args,
        rflags := (if compact && s.recd.compact.length < 32768 then 1 else 0) + (if stage && s.recd.frozen then 2 else 0) }
    let s := { s with recd := { s.recd with nextSeq := s.recd.nextSeq + 1 } }
    let s := if compact then compactRec s r else s
    if !stage then s
    else if s.recd.frozen then
      let s := { s with recd := { s.recd with hold := s.recd.hold ++ [r] } }
      if s.recd.hold.length ≥ 256 then thaw s true else s
    else stageRec s r

/-- Record an event of the package as a whole. -/
def event (s : State) (ev : Nat) (args : List Nat) : State := record s ev 0xFFFF 0xFFFF args

/-- Record an event of a unit. -/
def eventU (s : State) (ev unit : Nat) (args : List Nat) : State := record s ev unit 0xFFFF args

/-- The first 60 bytes of an event record. -/
def Rec.head (r : Rec) : Bytes :=
  leBytes 8 r.seq ++ leBytes 8 r.time ++ leBytes 8 r.tide ++ leBytes 1 r.severity ++ leBytes 1 (r.event / 256)
    ++ leBytes 2 r.event ++ leBytes 2 r.unit ++ leBytes 2 r.inst ++ leBytes 1 r.rflags ++ leBytes 3 0 ++ leBytes 24 r.detail

/-- The 64 bytes of an event record, CHECK last. -/
def Rec.bytes (r : Rec) : Bytes := r.head ++ leBytes 4 (crc32c r.head)

-- ===== trace items (R408 to R411) =====

/-- Push the entry now being filled, padded with zeros (R410, R411). -/
def pushEntry (s : State) : State :=
  let t := s.trace
  let e : TraceEntry := { words := (t.cur ++ List.replicate 7 0).take 7, validBytes := 4 * t.cur.length, firstItem := t.curFirst, seq := t.nextSeq }
  let full := decide (t.fifo.length ≥ 8192)
  let s := { s with trace := { t with
    fifo := (if full then t.fifo.drop 1 else t.fifo) ++ [e], cur := [], curFirst := 0xFF, nextSeq := (t.nextSeq + 1) % 65536 } }
  if full then bump32 s K.traceLost else s

/-- Write one word; `header` says it is an item header (R408). -/
def traceWord (s : State) (header : Bool) (w : Nat) : State :=
  let t := s.trace
  let s := { s with trace := { t with
    cur := t.cur ++ [w % 2 ^ 32], curFirst := if header && t.curFirst == 0xFF then 4 * t.cur.length else t.curFirst } }
  if s.trace.cur.length ≥ 7 then pushEntry s else s

/-- Write one item, header and payload, without another item between (R408); a source whose bit is 0 writes nothing. -/
def traceItem (s : State) (source kind arg : Nat) (words : List Nat) : State :=
  if bitAt (v s K.traceSources) source then
    let ws := words.take 15
    ws.foldl (fun s w => traceWord s false w)
      (traceWord s true (source % 256 * 2 ^ 24 + ws.length * 2 ^ 20 + kind % 256 * 2 ^ 12 + arg % 4096))
  else s

/-- SUPPLY_STATE takes a value; entering another one is a trace item (R409). -/
def supplyTo (s : State) (x : Nat) : State :=
  let s' := setV s K.supplyState x
  if v s K.supplyState = x then s' else traceItem s' 0x18 0x02 x [v s K.supplyNowMv]

/-- The trace item of a power state that was entered from `was` (R409). -/
def powerTrace (s : State) (was : Nat) : State :=
  if was = s.power.state then s else traceItem s 0x18 0x01 s.power.state [s.clk.tide]

/-- A trace item of the die scheduler of a die's Bay; `arg` is the channel within the Bay (R409). -/
def dieTrace (s : State) (die kind : Nat) (words : List Nat) : State := traceItem s (0x11 + die / 512 % 4) kind (die / 64 % 8) words

-- ===== staged changes and generations (R33 to R36, R46) =====

/-- Whether work still carries a generation: commands in flight, descriptors (whose GEN is its low 4 bits), ladders. -/
def carried (s : State) (g : Nat) : Bool := s.flights.any (fun f => f.gen == g) ||
  s.nand.luns.any (fun p => p.2.queue.any (fun d => d.gen == g % 16) || p.2.run.any (fun o => o.d.gen == g % 16) || p.2.susp.any (fun o => o.d.gen == g % 16))
  || s.nand.ladders.any (fun l => l.gen == g)

/-- The older generations that are still held. -/
def heldGens (s : State) : List Gen := s.gens.filter (fun g => carried s g.num)

/-- Free the generations no work carries. -/
def freeGens (s : State) : State := { s with gens := heldGens s }

/-- Generations held: in force, older and carried, reserved (R36). -/
def gensHeld (s : State) : Nat := 1 + (heldGens s).length + s.reserved.length

/-- Whether a change that applies at tide `t` can be accepted (R36). -/
def canStage (s : State) (t : Nat) : Bool := s.reserved.contains t || gensHeld s < 16

/-- Accept a change for the boundary of tide `t`: it joins or reserves a generation; a later value of one entry for
the same boundary replaces the earlier (R46). -/
def stageAt (s : State) (t : Nat) (op : StagedOp) : State :=
  let keep := s.staged.filter (fun x => match x.op, op with
    | .entry k _, .entry k' _ => !(x.tide == t && k == k')
    | .arbitration f .., .arbitration f' .. => !(x.tide == t && f == f')
    | .budget _, .budget _ => x.tide != t
    | _, _ => true)
  { s with staged := keep ++ [⟨t, op⟩], reserved := if s.reserved.contains t then s.reserved else s.reserved ++ [t] }

/-- The pending value of an entry: that with the latest tide at or before `t`. -/
def pendingAt (s : State) (key t : Nat) : Option Nat :=
  (s.staged.foldl (fun acc x => match x.op with
    | .entry k y => if k = key ∧ x.tide ≤ t then (match acc with
        | some (t0, _) => if t0 ≤ x.tide then some (x.tide, y) else acc
        | none => some (x.tide, y)) else acc
    | _ => acc) (none : Option (Nat × Nat))).map Prod.snd

/-- The value an entry will hold when a change applies at tide `t` (R48). -/
def valueAt (s : State) (key t : Nat) : Nat := (pendingAt s key t).getD (v s key)

/-- The value an entry will hold once every staged change has applied. -/
def valueStaged (s : State) (key : Nat) : Nat :=
  (s.staged.foldl (fun acc x => match x.op with
    | .entry k y => if k = key then some y else acc
    | _ => acc) (none : Option Nat)).getD (v s key)

-- ===== instances =====

/-- A mailbox at its reset values. [DESIGN CHOICE, log entry 7] -/
def Mailbox.fresh : Mailbox := ⟨0, 0, 0, 0, 0, 0, 0, false, false, [], [], false⟩

/-- An instance that has never been configured. [DESIGN CHOICE, log entry 7] -/
def Inst.fresh : Inst :=
  { state := 0, cc := 0, rdy := false, cfs := false, shst := 0, aqa := 0, asq := 0, acq := 0, intms := 0,
    reclaiming := false, pasidEnable := false, session := none, nextSession := 1, keys := [],
    mailbox := Mailbox.fresh, ab := 0, lpw := 0, mpw := 0, hpw := 0, icTime := 0, icThr := 0, ivDisabled := [],
    aecBits := 0, acre := false, tempThr := [], aers := [], aens := [], aenMasked := [], served := 0,
    lastQ := [0, 0, 0, 0], classServed := [0, 0, 0], burstLeft := 0, errorCount := 0, changedNs := [], changedZones := [], serial := 0, model := 0 }

/-- The instance numbered `n`. -/
def inst (s : State) (n : Nat) : Inst := s.insts.getD n Inst.fresh

/-- Change the instance numbered `n`. -/
def modInst (s : State) (n : Nat) (f : Inst → Inst) : State := { s with insts := s.insts.put n (f (inst s n)) }

/-- Instance `n` is that of a PF (R88). -/
def isPf (s : State) (n : Nat) : Bool := n == 0 || (s.portMode == 0 && n == 1)

/-- The port (0 A, 1 B) whose PF owns instance `n` (R88). -/
def portOf (s : State) (n : Nat) : Nat :=
  if s.portMode = 0 ∧ (n = 1 ∨ 1 + s.vfSplit < n) then 1 else 0

/-- A port. -/
def port (s : State) (p : Nat) : Port := if p = 1 then s.portB else s.portA

/-- Change a port. -/
def modPort (s : State) (p : Nat) (f : Port → Port) : State :=
  if p = 1 then { s with portB := f s.portB } else { s with portA := f s.portA }

/-- The VF number (from 1) of VF instance `n` within its PF (R88). -/
def vfNumber (s : State) (n : Nat) : Nat :=
  if s.portMode = 0 then (if n ≤ 1 + s.vfSplit then n - 1 else n - 1 - s.vfSplit) else n

/-- The function of instance `n` exists: a PF of the port mode, or a VF its PF has enabled. -/
def fnExists (s : State) (n : Nat) : Bool :=
  isPf s n || (n < 1024 && (port s (portOf s n)).vfEnable && vfNumber s n ≤ (port s (portOf s n)).numVfs)

/-- INSTANCE_STATE of an instance; a PF's is LIVE whenever its function exists (R89). -/
def instState (s : State) (n : Nat) : Nat := if isPf s n then 3 else (inst s n).state

-- ===== interrupts, completions, asynchronous events =====

/-- Send an MSI-X message on a vector of a function. -/
def msixSend (s : State) (fn vec : Nat) : State :=
  { s with msix := s.msix.updD (fn * 2048 + vec % 2048) 0 (· + 1) }

/-- Key of a queue of a function. -/
def qkey (fn qid : Nat) : Nat := fn * 8192 + qid

/-- A completion queue the host has not created. [DESIGN CHOICE, log entry 7] -/
def Cq.fresh : Cq := { size := 65536, tail := 0, phase := true, vector := 0, ien := true, posted := [], held := [], aggregated := 0 }

/-- The completion queue `qid` of a function. -/
def cqOf (s : State) (fn qid : Nat) : Cq := s.cqs.getD (qkey fn qid) Cq.fresh

/-- The completion queue has no room: one entry always stays free. -/
def Cq.full (c : Cq) : Bool := c.posted.length + 1 ≥ c.size

/-- Interrupt of a completion queue, at once or aggregated under the Interrupt Coalescing feature. -/
def cqInterrupt (s : State) (fn qid : Nat) : State :=
  let c := cqOf s fn qid
  let i := inst s fn
  if !c.ien then s
  else if qid = 0 ∨ i.icTime = 0 ∨ i.ivDisabled.contains c.vector ∨ c.aggregated > i.icThr then
    msixSend { s with cqs := s.cqs.put (qkey fn qid) { c with aggregated := 0 } } fn c.vector
  else s

/-- Post an entry, or hold it while the queue is full (R113). -/
def postCqe (s : State) (fn qid : Nat) (e : Cqe) : State :=
  let c := cqOf s fn qid
  if c.full || !c.held.isEmpty then
    { s with cqs := s.cqs.put (qkey fn qid) { c with held := c.held ++ [e] }, lastCqe := s.lastCqe.put fn e }
  else
    let last := decide (c.tail + 1 ≥ c.size)
    cqInterrupt { s with
      cqs := s.cqs.put (qkey fn qid) { c with posted := c.posted ++ [e], tail := if last then 0 else c.tail + 1,
                                              phase := if last then !c.phase else c.phase, aggregated := c.aggregated + 1 }
      lastCqe := s.lastCqe.put fn e } fn qid

/-- The completion queue bound to a submission queue. -/
def cqidOf (s : State) (fn sqid : Nat) : Nat := (s.sqs.get? (qkey fn sqid)).elim 0 Sq.cqid

/-- The latency histogram bucket of a time in ns (R412). -/
def histBucket (x : Nat) : Nat :=
  if x < 64 then x
  else if x ≥ 2 ^ 36 then 1984
  else
    let e := log2Fuel 64 x
    64 * (e - 5) + (x / 2 ^ (e - 6) - 64)

/-- A histogram that has counted nothing since `since`. -/
def Hist.fresh (since : Nat) : Hist := ⟨since, 0, 0, 0, []⟩

/-- Count one time into a histogram (R412). -/
def Hist.count (h : Hist) (x : Nat) : Hist :=
  { h with total := h.total + 1, sum := satAdd 64 h.sum x, max := Nat.max h.max x, counts := h.counts.updD (histBucket x) 0 (· + 1) }

/-- Commands counted in HIST_READ: Read, Compare, Verify. -/
def isReadOp (op : Nat) : Bool := op == 0x02 || op == 0x05 || op == 0x0C

/-- Commands counted in HIST_WRITE: Write, Write Zeroes, Write Uncorrectable, Zone Append. -/
def isWriteOp (op : Nat) : Bool := op == 0x01 || op == 0x08 || op == 0x04 || op == 0x7D

/-- HISTOGRAM_COUNT: the fetch-to-completion time of a command (R412). -/
def histCommand (s : State) (f : Flight) : State :=
  if f.sqid = 0 then s
  else
    let t := s.clk.nowNs - f.fetchNs
    let add (s : State) (k : Nat) : State :=
      { s with tel := { s.tel with hist := s.tel.hist.updD k (Hist.fresh 0) (fun h => h.count t) } }
    if isReadOp f.opcode then add s (2 * f.fn) else if isWriteOp f.opcode then add s (2 * f.fn + 1) else s

/-- Find a command in flight. -/
def flight? (s : State) (fn sqid cid : Nat) : Option Flight :=
  s.flights.find? (fun f => f.fn == fn && f.sqid == sqid && f.cid == cid)

/-- Change a command in flight, by its fetch sequence number. -/
def modFlight (s : State) (seq : Nat) (f : Flight → Flight) : State :=
  { s with flights := s.flights.map (fun x => if x.seq = seq then f x else x) }

/-- Take a command out of flight; its pool units are free again. -/
def dropFlight (s : State) (seq : Nat) : State := { s with flights := s.flights.filter (fun x => x.seq != seq) }

/-- The status is success. -/
def NvStatus.isOk : NvStatus → Bool
  | .success => true
  | _ => false

/-- The Phase Tag of the next entry of a completion queue, behind those it holds. -/
def nextPhase (c : Cq) : Bool := if (c.tail + c.held.length) / c.size % 2 = 0 then c.phase else !c.phase

/-- Bits 31 to 16 of completion Dword 3, as the trace item COMPLETE shows them: the status, a free value but for success, and the Phase
Tag. [DESIGN CHOICE, log entry 11] -/
def dword3 (s : State) (fn qid : Nat) (st : NvStatus) (crd : Nat) : Nat :=
  (if st.isOk then 0 else 2 * (Config.statusField st.ctorIdx crd).toNat) + (if nextPhase (cqOf s fn qid) then 1 else 0)

/-- Complete a command with a Command Retry Delay: its one completion is posted (R133), it is counted and leaves flight. [PRESUMED, log entry 11] -/
def completeRetry (s : State) (f : Flight) (st : NvStatus) (dw0 dw1 crd : Nat) : State :=
  let s := histCommand s f
  let s := traceItem s 0x10 0x02 f.fn
    [f.sqid % 65536 * 65536 + f.cid % 65536, dword3 s f.fn f.cqid st crd, Nat.min (s.clk.nowNs - f.fetchNs) (2 ^ 32 - 1)]
  let s := dropFlight s f.seq
  let s := if st.isOk then s else modInst s f.fn (fun i => { i with errorCount := i.errorCount + 1 })
  postCqe s f.fn f.cqid ⟨f.sqid, f.cid, st, dw0, dw1, crd⟩

/-- Complete a command (R133). -/
def completeFlight (s : State) (f : Flight) (st : NvStatus) (dw0 dw1 : Nat) : State := completeRetry s f st dw0 dw1 0

/-- Complete a command named by its identifiers, whether or not it is in flight. -/
def complete (s : State) (c : Cmd) (st : NvStatus) (dw0 : Nat) : State :=
  match flight? s c.fn c.sqid c.cid with
  | some f => completeFlight s f st dw0 0
  | none => postCqe s c.fn (cqidOf s c.fn c.sqid) ⟨c.sqid, c.cid, st, dw0, 0, 0⟩

/-- Data a command returns to host memory. [DESIGN CHOICE, log entry 41] -/
def dmaOut (s : State) (fn : Nat) (b : Bytes) : State := { s with hostOut := s.hostOut.put fn b }

/-- The event is enabled in the function's Asynchronous Event Configuration; the bits are those of NVMe. [PRESUMED, log entries 11, 12] -/
def Aen.enabled (i : Inst) : Aen → Bool
  | .nsAttributeChanged => bitAt i.aecBits 8
  | .firmwareActivation => bitAt i.aecBits 9
  | .anaChange => bitAt i.aecBits 11
  | .zoneDescriptorChanged => bitAt i.aecBits 27
  | .lbaStatusAlert => bitAt i.aecBits 13
  | .spareBelow => bitAt i.aecBits 0
  | .temperature => bitAt i.aecBits 1
  | .readOnlyMedia => bitAt i.aecBits 3
  | _ => true

/-- Completion Dword 0 of an Asynchronous Event Request from event type, information and log page. [PRESUMED, log entry 12] -/
def aenDw0 (ty info lid : Nat) : Nat := ty + info * 2 ^ 8 + lid * 2 ^ 16

/-- Completion Dword 0 for an event: type, Asynchronous Event Information, Log Page Identifier. Those of R162 and R187
are the manual's; the others are NVMe's. [PRESUMED, log entries 11, 12] -/
def Aen.code : Aen → Nat
  | .invalidDoorbellRegister => aenDw0 0 0x00 0x01
  | .invalidDoorbellValue => aenDw0 0 0x01 0x01
  | .persistentError => aenDw0 0 0x03 0x01
  | .nsAttributeChanged => aenDw0 2 0x00 0x04
  | .firmwareActivation => aenDw0 2 0x01 0x03
  | .anaChange => aenDw0 2 0x03 0x0C
  | .lbaStatusAlert => aenDw0 2 0x05 0x0E
  | .zoneDescriptorChanged => aenDw0 2 0xEF 0xBF
  | .temperature => aenDw0 1 0x01 0x02
  | .spareBelow => aenDw0 1 0x02 0x02
  | .readOnlyMedia => aenDw0 1 0x00 0x02
  | .lossPublished _ => aenDw0 7 0x01 0xC2
  | .belowRefresh _ => aenDw0 7 0x03 0xC3
  | .watermark _ => aenDw0 7 0x04 0xC3
  | .capacityState _ st => aenDw0 1 st 0x02
  | .sanitizeCompleted => aenDw0 6 0x01 0x81

/-- Carry waiting events on the outstanding Asynchronous Event Requests. -/
def carryAens : Nat → State → Nat → State
  | 0, s, _ => s
  | n + 1, s, fn =>
    let i := inst s fn
    match i.aers, i.aens with
    | cid :: cids, e :: es =>
      let s := modInst s fn (fun i => { i with aers := cids, aens := es, aenMasked := e :: i.aenMasked })
      carryAens n (complete s ⟨fn, 0, cid, 0, false⟩ .success e.code) fn
    | _, _ => s

/-- Post an asynchronous event to a function: not when it is disabled, or when the same event (type, information and
log page) waits or is masked until its log page is read. -/
def aen (s : State) (fn : Nat) (e : Aen) : State :=
  let i := inst s fn
  if !e.enabled i || i.aens.any (fun x => x.code == e.code) || i.aenMasked.any (fun x => x.code == e.code) then s
  else carryAens 16 (modInst s fn (fun i => { i with aens := i.aens ++ [e] })) fn

/-- Post an event to every PF. -/
def aenPfs (s : State) (e : Aen) : State :=
  let s := aen s 0 e
  if s.portMode = 0 then aen s 1 e else s

/-- Unmask events when their log page is read with Retain Asynchronous Event cleared. -/
def unmask (s : State) (fn : Nat) (p : Aen → Bool) : State :=
  modInst s fn (fun i => { i with aenMasked := i.aenMasked.filter (fun e => !p e) })

-- ===== loss of a unit every namespace needs =====

/-- Every namespace becomes read-only (R193, R209, R225): reported as read-only media to every PF. -/
def allReadOnly (s : State) : State := aenPfs { s with xlat := { s.xlat with readOnlyAll := true } } .readOnlyMedia

-- ===== negotiation records (R65) =====

/-- The 24 bytes of a negotiation record, as a little-endian number. -/
def negRecord (partner outcome attempts mode offered settledAt : Nat) : Nat :=
  partner + outcome * 2 ^ 8 + Nat.min attempts 0xFFFF * 2 ^ 16 + mode % 2 ^ 32 * 2 ^ 32 + offered % 2 ^ 32 * 2 ^ 64
    + settledAt % 2 ^ 64 * 2 ^ 128

/-- OUTCOME of a record. -/
def negOutcome (r : Nat) : Nat := fld r 15 8

/-- ATTEMPTS of a record. -/
def negAttempts (r : Nat) : Nat := fld r 31 16

/-- A negotiation settles: OUTCOME 0x01 when MODE equals OFFERED, else 0x02; one more try is counted. -/
def negSettle (s : State) (key partner mode offered : Nat) : State :=
  setV s key (negRecord partner (if mode = offered then 1 else 2) (negAttempts (v s key) + 1) mode offered (time64 s))

/-- A negotiation fails. -/
def negFail (s : State) (key partner offered : Nat) : State :=
  setV s key (negRecord partner 3 (negAttempts (v s key) + 1) 0 offered (time64 s))

-- ===== LTR and WAKE# (R81, R84) =====

/-- The LTR latency of a power state, ns (R81). -/
def ltrOf (ps : Nat) : Nat := if ps = 0 then 1000 else if ps = 1 then 5000 else if ps = 2 then 200000 else 20000000

/-- Send an LTR message on a port for the power state in force, or owe it until the link is in L0 (R81). -/
def ltrSend (s : State) (p : Nat) : State :=
  modPort s p (fun x => if x.link = 1 ∨ x.link = 2 then { x with ltrNs := ltrOf s.power.state, ltrDue := false } else { x with ltrDue := true })

/-- LTR messages on entry to a power state (R81). -/
def ltrAll (s : State) : State := ltrSend (ltrSend s 0) 1

/-- A port asks for WAKE#: a PME pending, its link in L1.2 with the reference clock stopped, or in L2 (R84). -/
def Port.wantsWake (p : Port) : Bool := p.pme && p.link == 5 && p.refStopped

/-- Drive or release WAKE# (R84): in single and bonded modes only port A counts. -/
def driveWake (s : State) : State :=
  { s with wakeLow := s.portA.wantsWake || (s.portMode == 0 && s.portB.wantsWake) }

end Sys2Proof.Machine
end

