-- ==== Sys2Proof/Machine/CheckValues.lean ====
section
/-! DEFINITION. Machine/CheckValues.lean: "Check-Value Units": the three CRCs, the registers of a unit, leases and the
self-test. -/
namespace Sys2Proof.Machine
open Sys2Proof

/-- Width of the CRC of an ALG (R217). -/
def algWidth (alg : Nat) : Nat := if alg = 1 then 16 else if alg = 2 then 32 else if alg = 3 then 64 else 0

/-- Initial value of RUNNING. -/
def algInit (alg : Nat) : Nat := if alg = 2 then 2 ^ 32 - 1 else if alg = 3 then 2 ^ 64 - 1 else 0

/-- Final XOR. -/
def algFinal (alg : Nat) : Nat := algInit alg

/-- One byte into RUNNING (R217): CRC-16/T10-DIF is not reflected, the others are; the reflected polynomials are
0x1EDC_6F41 and 0xAD93_D235_94C9_3659 with their bits in reverse order. -/
def algByte (alg running b : Nat) : Nat :=
  if alg = 1 then crcLeftByte 16 0x8BB7 running b
  else if alg = 2 then crcRightByte 0x82F63B78 running b
  else if alg = 3 then crcRightByte 0x9A6C9329AC4BC9B5 running b
  else running

/-- `n` bytes of a little-endian value into RUNNING, bits [7:0] first (R220). -/
def algFeed (alg : Nat) : Nat → Nat → Nat → Nat
  | 0, running, _ => running
  | n + 1, running, x => algFeed alg n (algByte alg running (x % 256)) (x / 256)

/-- RESULT: RUNNING XOR the final XOR (R218). -/
def CrcUnit.result (u : CrcUnit) : Nat := u.running ^^^ algFinal u.alg

/-- The register a feed, INIT or restore of unit `n` changes. -/
def modUnit (s : State) (n : Nat) (f : CrcUnit → CrcUnit) : State := { s with crc := { s.crc with units := modNth s.crc.units n f } }

/-- A feed of `k` bytes by `agent`: dropped from an agent that is not HOLDER, or with ALG 00 (R219). -/
def CrcUnit.feed (u : CrcUnit) (agent k x : Nat) : CrcUnit :=
  if u.holder = agent ∧ u.holder ≠ 0 ∧ u.alg ≠ 0 then
    { u with running := algFeed u.alg k u.running x, bytes := satAdd 32 u.bytes k }
  else { u with dropped := true }

/-- A restore of RUNNING by `agent`; BYTES counts from the restore (R222). -/
def CrcUnit.restore (u : CrcUnit) (agent lo hi : Nat) : CrcUnit :=
  if u.holder = agent ∧ u.holder ≠ 0 ∧ u.alg ≠ 0 then
    { u with running := (lo % 2 ^ 32 + hi % 2 ^ 32 * 2 ^ 32) % 2 ^ algWidth u.alg, bytes := 0 }
  else { u with dropped := true }

/-- INIT loads RUNNING with the initial value of ALG and clears BYTES. [DEDUCED, log entry 15] -/
def CrcUnit.init (u : CrcUnit) : CrcUnit := { u with running := algInit u.alg, bytes := 0 }

/-- [DEDUCED, log entry 15] -/
def execCrcInit (unit _agent : Nat) (s : State) : Host.Outcome State Fault Refusal := .next (modUnit s unit CrcUnit.init)

def execFeedB (unit agent value : Nat) (s : State) : Host.Outcome State Fault Refusal :=
  .next (modUnit s unit (fun u => u.feed agent 1 value))

def execFeedH (unit agent value : Nat) (s : State) : Host.Outcome State Fault Refusal :=
  .next (modUnit s unit (fun u => u.feed agent 2 value))

def execFeedW (unit agent value : Nat) (s : State) : Host.Outcome State Fault Refusal :=
  .next (modUnit s unit (fun u => u.feed agent 4 value))

def execRunningRestore (unit agent lo hi : Nat) (s : State) : Host.Outcome State Fault Refusal :=
  .next (modUnit s unit (fun u => u.restore agent lo hi))

-- ===== leases (R221) =====

/-- The lease of a unit ends: CTRL returns to HOLDER 0x0, ALG 00. -/
def CrcUnit.release (u : CrcUnit) : CrcUnit := { u with holder := 0, alg := 0 }

/-- The first unit that is free and in service. -/
def freeUnit (l : List CrcUnit) : Nat := l.findIdx (fun u => u.holder == 0 && !u.out)

/-- The next waiting request: the PI path of an urgent-class command first, else the oldest. -/
def nextLease (l : List CrcReq) : Option (Nat × CrcReq) :=
  let i := l.findIdx CrcReq.urgentPi
  let j := if i < l.length then i else 0
  (l[j]?).map (fun r => (j, r))

/-- Grant waiting requests while units are free. -/
def grantLeases : Nat → CrcUnits → CrcUnits
  | 0, c => c
  | n + 1, c =>
    let u := freeUnit c.units
    match nextLease c.waiting with
    | some (j, r) =>
      if u < c.units.length then
        grantLeases n { c with units := modNth c.units u (fun x => { x with holder := r.holder, alg := r.alg }), waiting := c.waiting.eraseIdx j }
      else c
    | none => c

/-- CRC_LEASE: a unit its holder has released is free again; a request (HOLDER not 0) joins the lease queue, and the
requests are granted while units are free. One that must wait is counted. -/
def crcLease (s : State) (released : Option Nat) (holder alg : Nat) (urgentPi : Bool) : State :=
  let c := match released with
    | some u => { s.crc with units := modNth s.crc.units u CrcUnit.release }
    | none => s.crc
  let c := grantLeases 16 c
  if holder = 0 then { s with crc := c }
  else
    let c' := grantLeases 16 { c with waiting := c.waiting ++ [⟨holder, alg, urgentPi⟩] }
    let s := { s with crc := c' }
    if c'.waiting.length > c.waiting.length then bump64 s K.crcLeaseWaits else s

def execCrcLease (released : Option Nat) (holder alg : Nat) (urgentPi : Bool) (s : State) : Host.Outcome State Fault Refusal :=
  .next (crcLease s released holder alg urgentPi)

-- ===== self-test (R224, R225) =====

/-- A unit fails its self-test: it is taken out of service until the next power-on; with no unit left, every namespace
becomes read-only. -/
def crcUnitFails (s : State) (n : Nat) : State :=
  let s := modUnit s n (fun u => { u with out := true })
  let s := bump32 (setV s K.crcUnitsInService (withBit (v s K.crcUnitsInService) n false)) K.crcSelftestFails
  let s := eventU s Ev.crcUnitOut n [n]
  if v s K.crcUnitsInService = 0 then event (allReadOnly s) Ev.crcUnitsNone [] else s

/-- The idle unit whose turn it is repeats its self-test once per tide. A unit that passes is unchanged. -/
def crcTideTest (s : State) (fails : Bool) : State :=
  let n := s.crc.testTurn % 16
  let idle := (s.crc.units[n]?).elim false (fun u => u.holder == 0 && !u.out)
  let s := { s with crc := { s.crc with testTurn := (n + 1) % 16 } }
  if idle && fails then crcUnitFails s n else s

/-- CRC_RECHECK (R224): a failed check is computed again on a different unit. Where the second unit does not agree, the
first unit's failure is a self-test failure. The first unit is the first in service. -/
def crcRecheck (s : State) (confirmed : Bool) : State :=
  if confirmed then s
  else
    let n := s.crc.units.findIdx (fun u => !u.out)
    let s := bump32 s K.crcDisagree
    if n < s.crc.units.length then crcUnitFails s n else s

/-- No check can be made: every unit is out of service. -/
def noCrcUnit (s : State) : Bool := s.crc.units.all CrcUnit.out

end Sys2Proof.Machine
end

