-- ==== Sys2Proof/Machine/Instances.lean ====
section
/-! DEFINITION. Machine/Instances.lean: "Instances, Slices and the Manager": the pool of queue pairs, floors, mailboxes,
slices and keys. -/
namespace Sys2Proof.Machine
open Sys2Proof

-- ===== pools of queue pairs, shares and floors =====

/-- The PF instances of the port mode. -/
def pfs (s : State) : List Nat := if s.portMode = 0 then [0, 1] else [0]

/-- The committed instances: PF instances always (R89), VF instances in a state other than UNASSIGNED. -/
def committed (s : State) : List Nat :=
  pfs s ++ ((s.insts.keep (fun n i => !isPf s n && i.state != 0)).keys)

/-- The default of QUEUE_PAIRS is 64 for PF instances. -/
def queuePairs (s : State) (n : Nat) : Nat := vi s K.queuePairs n

/-- QUEUE_PAIRS of an instance once staged values apply. -/
def queuePairsStaged (s : State) (n : Nat) : Nat := valueStaged s (instKey K.queuePairs n)

/-- 0x2100.02 QUEUE_POOL_FREE: pairs not given to any instance, staged values included. -/
def queuePoolFree (s : State) : Nat := 262144 - sumNat ((committed s).map (queuePairsStaged s))

/-- 0x2100.03 FLOOR_SUM (R98), staged values included. -/
def floorSum (s : State) : Nat :=
  valueStaged s K.urgentFloor + valueStaged s K.bgReserve + sumNat ((committed s).map (fun n => valueStaged s (instKey K.floor n)))

/-- The floor of `F/4,096` of a pool of `c` units (R98). -/
def floorUnits (f c : Nat) : Nat := f * c / 4096

/-- Capacity of pool `p`, 1 to 5 (0x2101). -/
def poolCap (s : State) (p : Nat) : Nat := v s (unitKey K.capBuffer (p - 1))

-- ===== the mailbox (R102, R103) =====

/-- CHANGE_PENDING: a staged change to one of the instance's entries awaits its tide. -/
def changePending (s : State) (n : Nat) : Bool :=
  s.staged.any (fun x => match x.op with
    | .entry k _ => k % 2048 == n + 1
    | .live m => m == n
    | _ => false)

/-- A cause on the tenant side; MSI-X on VECTOR when ENABLE is 1, one outstanding until software clears it. -/
def causeTenant (s : State) (n bit : Nat) : State :=
  let m := (inst s n).mailbox
  let send := bitAt m.vector 15 && !m.irqT
  let s := modInst s n (fun i => { i with mailbox := { i.mailbox with causeT := withBit m.causeT bit true, irqT := m.irqT || send } })
  if send then msixSend s n (fld m.vector 10 0) else s

/-- A cause on the manager side: MB_PENDING bit n, and the manager vector of each PF that enables it. -/
def causeManager (s : State) (n bit : Nat) : State :=
  let m := (inst s n).mailbox
  let s' := modInst s n (fun i => { i with mailbox := { i.mailbox with causeM := withBit m.causeM bit true, irqM := true } })
  let s' := setV s' K.mbPending (withBit (v s' K.mbPending) n true)
  if m.irqM then s'
  else (pfs s).foldl (fun s p =>
    let w := v s (unitKey K.mbManagerVector p)
    if bitAt w 15 then msixSend s p (fld w 10 0) else s) s'

/-- MB_STATE changed: STATE_CHANGED on both sides. [DESIGN CHOICE, log entry 127] -/
def causeState (s : State) (n : Nat) : State := causeTenant (causeManager s n 2) n 2

/-- CHANGE_PENDING follows the staged changes; a change raises STATE_CHANGED. [DESIGN CHOICE, log entry 127] -/
def mbRefresh (s : State) (n : Nat) : State :=
  if isPf s n ∨ (inst s n).mailbox.changePending = changePending s n then s
  else causeState (modInst s n (fun i => { i with mailbox := { i.mailbox with changePending := changePending s n } })) n

/-- Give an instance another INSTANCE_STATE; MB_STATE shows it. -/
def instStateTo (s : State) (n st : Nat) : State :=
  if (inst s n).state = st then s else causeState (modInst s n (fun i => { i with state := st })) n

/-- A VF instance has a mailbox; those of PF instances behave as reserved ranges (R89). -/
def hasMailbox (s : State) (n : Nat) : Bool := !isPf s n && n < 1024

/-- Change a mailbox. -/
def modMb (s : State) (n : Nat) (f : Mailbox → Mailbox) : State := modInst s n (fun i => { i with mailbox := f i.mailbox })

/-- M2T_BELL: with LENGTH above the area, BAD_BELL on the ringing side and nothing delivered. -/
def m2tBell (s : State) (n value : Nat) : State :=
  if !hasMailbox s n then s
  else if fld value 11 0 > 2048 then causeManager s n 4
  else causeTenant (modMb s n (fun m => { m with m2tBell := value % 2 ^ 32 &&& 0xFFFF0FFF })) n 0

/-- T2M_BELL, by the tenant of an existing VF. -/
def t2mBell (s : State) (n value : Nat) : State :=
  if !hasMailbox s n || !fnExists s n then s
  else if fld value 11 0 > 1984 then causeTenant s n 4
  else causeManager (modMb s n (fun m => { m with t2mBell := value % 2 ^ 32 &&& 0xFFFF0FFF })) n 0

/-- M2T_ACK, by the tenant. -/
def m2tAck (s : State) (n value : Nat) : State :=
  if !hasMailbox s n || !fnExists s n then s
  else causeManager (modMb s n (fun m => { m with m2tAck := value % 2 ^ 32 &&& 0xFFFF0000 })) n 1

/-- T2M_ACK, by the manager. -/
def t2mAck (s : State) (n value : Nat) : State :=
  if !hasMailbox s n then s
  else causeTenant (modMb s n (fun m => { m with t2mAck := value % 2 ^ 32 &&& 0xFFFF0000 })) n 1

/-- MB_CAUSE, W1C: the interrupt of the register is armed again. -/
def mbCauseClear (s : State) (n : Nat) (managerSide : Bool) (value : Nat) : State :=
  if !hasMailbox s n then s
  else if managerSide then modMb s n (fun m => { m with causeM := clearBits m.causeM value, irqM := false })
  else if fnExists s n then modMb s n (fun m => { m with causeT := clearBits m.causeT value, irqT := false })
  else s

def execM2tBell (n value : Nat) (s : State) : Host.Outcome State Fault Refusal := .next (m2tBell s n value)
def execT2mBell (n value : Nat) (s : State) : Host.Outcome State Fault Refusal := .next (t2mBell s n value)
def execM2tAck (n value : Nat) (s : State) : Host.Outcome State Fault Refusal := .next (m2tAck s n value)
def execT2mAck (n value : Nat) (s : State) : Host.Outcome State Fault Refusal := .next (t2mAck s n value)
def execMbCauseClear (n : Nat) (managerSide : Bool) (value : Nat) (s : State) : Host.Outcome State Fault Refusal :=
  .next (mbCauseClear s n managerSide value)

/-- An FLR of a VF clears the tenant side of its mailbox and sets TENANT_RESET on the manager side (R103). -/
def clearTenantSide (s : State) (n : Nat) : State :=
  if !hasMailbox s n then s
  else causeManager (modMb s n (fun m => { m with t2mBell := 0, m2tAck := 0, vector := 0, causeT := 0, irqT := false, t2mArea := [] })) n 3

/-- Write `w` bytes of `value` into an area at byte offset `off`. [DEDUCED, log entry 123] -/
def areaWrite (a : Assoc Nat) (off : Nat) : Nat → Nat → Assoc Nat
  | 0, _ => a
  | w + 1, value =>
    let b := value % 256
    areaWrite (if b = 0 then a.del off else a.put off b) (off + 1) w (value / 256)

/-- A write of `width` bytes into a mailbox area or MB_VECTOR; one to the other side's area or register is dropped. -/
def mailboxWrite (s : State) (n : Nat) (managerSide : Bool) (off width value : Nat) : State :=
  if !hasMailbox s n then s
  else if managerSide then
    if 0x40 ≤ off ∧ off + width ≤ 0x840 then modMb s n (fun m => { m with m2tArea := areaWrite m.m2tArea (off - 0x40) width value }) else s
  else if 0x840 ≤ off ∧ off + width ≤ 0x1000 then modMb s n (fun m => { m with t2mArea := areaWrite m.t2mArea (off - 0x840) width value })
  else if off = 0x18 then modMb s n (fun m => { m with vector := value % 2 ^ 32 &&& 0x87FF })
  else s

-- ===== slices (R104, R105) =====

/-- The queue range of a slice from 1: first QID and count. -/
def sliceRange (s : State) (n sl : Nat) : Nat × Nat :=
  let w := vi s (unitKey K.sliceQueues sl) n
  (w / 2 ^ 16 % 2 ^ 16, w % 2 ^ 16)

/-- The slice that holds a queue: the admin queue and every I/O queue not given to another slice are slice 0's. -/
def sliceOf (s : State) (n qid : Nat) : Nat :=
  if qid = 0 then 0
  else ((List.range 64).find? (fun sl => sl ≠ 0 &&
    (let r := sliceRange s n sl; r.1 ≤ qid && qid < r.1 + r.2))).getD 0

/-- The key tag of a command from a queue: [15:6] the instance, [5:0] the slice whose key it uses. -/
def keyTag (s : State) (n qid : Nat) : Nat :=
  let sl := sliceOf s n qid
  n * 64 + (if vi s (unitKey K.sliceKeyMode sl) n = 1 then sl else 0)

/-- The key of a tag is loaded. -/
def keyLoaded (s : State) (tag : Nat) : Bool := (inst s (tag / 64)).keys.has (tag % 64)

/-- The Coves a queue's slice may use: SLICE_COVES, or the instance's COVE_BIND where that is all zeros. -/
def coveBinding (s : State) (g n qid : Nat) : Nat :=
  let w := vg s g (instKey (unitKey K.sliceCoves (sliceOf s n qid)) n)
  if w = 0 then vg s g (instKey K.coveBind n) else w

/-- A queue pair of the instance has been created. -/
def queueCreated (s : State) (n qid : Nat) : Bool := s.sqs.has (qkey n qid) || s.cqs.has (qkey n qid)

/-- The highest I/O queue identifier the tenant has created. -/
def highestQueue (s : State) (n : Nat) : Nat :=
  maxNat (((s.sqs.keys ++ s.cqs.keys).filter (fun k => k / 8192 == n)).map (fun k => k % 8192))

/-- The code that refuses a write of slice `sl`'s entry `key` (0x2130–0x2133) with `value`, or 0 (R105): against the
other slices' values once staged changes apply. -/
def sliceCheck (s : State) (n key sl value : Nat) : Nat :=
  let others := (List.range 64).filter (fun x => x ≠ 0 && x ≠ sl)
  let base := key - sl * 2048
  if (inst s n).pasidEnable = false then 0x09
  else if sl ≥ vi s K.maxSlices n then 0x09
  else if base = K.sliceQueues then
    let first := value / 2 ^ 16 % 2 ^ 16
    let cnt := value % 2 ^ 16
    let old := sliceRange s n sl
    let moved := (List.range 4097).any (fun q => q ≠ 0 && queueCreated s n q
      && ((old.1 ≤ q && q < old.1 + old.2) != (first ≤ q && q < first + cnt)))
    if cnt ≠ 0 ∧ (first = 0 ∨ first + cnt - 1 > queuePairs s n) then 0x07
    else if others.any (fun x =>
        let w := valueStaged s (instKey (unitKey K.sliceQueues x) n)
        let f := w / 2 ^ 16 % 2 ^ 16
        let c := w % 2 ^ 16
        cnt ≠ 0 && c ≠ 0 && f < first + cnt && first < f + c) then 0x07
    else if moved then 0x0B
    else 0
  else if base = K.slicePasid then
    if bitAt value 31 && others.any (fun x => valueStaged s (instKey (unitKey K.slicePasid x) n) == value) then 0x07 else 0
  else if base = K.sliceCoves then
    if value &&& valueStaged s (instKey K.coveBind n) = value then 0 else 0x07
  else 0

/-- PASID_ENABLE_CHANGE: fetching from the queues of slices 1–63 stops or resumes; nothing completes or fails. -/
def execPasidEnableChange (fn : Nat) (enable : Bool) (s : State) : Host.Outcome State Fault Refusal :=
  .next (if fnExists s fn then modInst s fn (fun i => { i with pasidEnable := enable }) else s)

-- ===== keys (R106 to R109) =====

/-- The check value of a key under a tag: the first 8 bytes of SHA3-256(key ‖ tag) (R106). -/
def keyCheck (key tag : Nat) : Nat := Config.sha3 (leBytes 64 key ++ leBytes 2 tag) % 2 ^ 64

/-- Close a key session; its private key is erased and KEY_ENCAP is empty again. [DEDUCED, log entry 22] -/
def closeSession (s : State) (n : Nat) : State :=
  if (inst s n).session.isSome then
    setDom (modInst s n (fun i => { i with session := none })) (instKey K.keyEncap n) []
  else s

/-- Signature algorithm of the attestation key, and its signature length. -/
def sigLength (alg : Nat) : Nat := if alg = 1 then 2420 else 3309

/-- KEY_SESSION (R108): a fresh key pair; KEY_ENCAP holds the signed encapsulation key. [DEDUCED, log entry 22] -/
def openSession (s : State) (n slice : Nat) : State :=
  let id := (inst s n).nextSession
  let alg := s.boot.attestAlg
  let head := leBytes 1 slice ++ leBytes 1 alg ++ leBytes 2 n ++ leBytes 4 id ++ leBytes 1184 (Config.encapKey s.freeCtr)
  let enc := head ++ leBytes 4 (sigLength alg) ++ Config.attestSign alg head
  let s' := modInst { s with freeCtr := s.freeCtr + 1 } n (fun i =>
    { i with session := some ⟨slice, id, s.freeCtr⟩, nextSession := (id + 1) % 2 ^ 32 })
  setDom s' (instKey K.keyEncap n) enc

/-- KEY_DELIVER (R109): the code that refuses it, or 0 with the key loaded. Whatever the outcome, the session closes. -/
def deliverKey (s : State) (n : Nat) (value : Bytes) : Nat × State :=
  let closed := closeSession s n
  match (inst s n).session with
  | none => (0x0D, closed)
  | some x =>
    let id := leAt value 0 4
    let slice := leAt value 4 1
    let ct := (value.drop 8).take 1088
    let wrapped := (value.drop 1096).take 64
    let ss := leBytes 32 (Config.decaps x.pair ct)
    let ctx := [0x53, 0x42, 0x4B, 0x57] ++ leBytes 4 id ++ leBytes 2 n ++ leBytes 1 slice
    let p1 := leBytes 32 (Config.sha3 (ss ++ ctx ++ [0x01]))
    let p2 := leBytes 32 (Config.sha3 (ss ++ ctx ++ [0x02]))
    let key := leNat wrapped ^^^ leNat (p1 ++ p2)
    let tag := n * 64 + slice
    if id ≠ x.id ∨ slice ≠ x.slice then (0x0D, closed)
    else if leAt value 1160 16 ≠ Config.sha3 (ss ++ ctx ++ [0x03] ++ wrapped) % 2 ^ 128 then (0x0F, closed)
    else if key % 2 ^ 256 = key / 2 ^ 256 then (0x07, closed)
    else if (s.keyChecks.get? tag).any (fun c => c != keyCheck key tag) then (0x0F, closed)
    else (0, modInst closed n (fun i => { i with keys := i.keys.put slice key }))

def execKeySessionTimeout (n : Nat) (s : State) : Host.Outcome State Fault Refusal := .next (closeSession s n)

/-- KEY_LOADED: bit s for each slice with a key. -/
def keyLoadedBits (s : State) (n : Nat) : Nat := sumNat (((inst s n).keys.keys.filter (· < 64)).map (2 ^ ·))

/-- KEY_CHECK_SET: bit s where a check value is persisted for tag (n, s). -/
def keyCheckBits (s : State) (n : Nat) : Nat := sumNat ((s.keyChecks.keys.filter (fun t => t / 64 == n)).map (fun t => 2 ^ (t % 64)))

-- ===== INSTANCE_CTRL (R89, R91, R92) =====

/-- The code that refuses a COMMIT or RECLAIM of instance `n`, or 0. `t` is the tide at which it would apply. -/
def instanceCtrlCheck (s : State) (n value t : Nat) : Nat :=
  let st := (inst s n).state
  if isPf s n then 0x09
  else if value = 1 then
    if st ≠ 0 then 0x0D
    else if !bitAt (valueAt s (instKey K.coveBind n) t) (valueAt s (instKey K.defaultCove n) t) then 0x07
    else if queuePairsStaged s n > queuePoolFree s then 0x07
    else if floorSum s + valueStaged s (instKey K.floor n) > 4096 then 0x07
    else 0
  else if st = 0 ∨ st = 4 then 0x0D
  else 0

/-- INSTANCE_STATE when a COMMIT or RECLAIM is accepted. -/
def instanceCtrlAccept (s : State) (n value : Nat) : State :=
  if value = 1 then instStateTo s n (if fnExists s n then 2 else 1) else instStateTo s n 4

/-- NVME_SERIAL: its default is SERIAL_NUMBER. [DEDUCED, log entry 113] -/
def nvmeSerial (s : State) : Nat := (s.dict.get? K.nvmeSerial).getD (v s K.serialNumber)

/-- CONTROLLER_ENABLE (R93): CC.EN becomes 1 and the admin queue pair starts with the sizes of AQA; CSTS.RDY stays 0
until the instance is LIVE. [DEDUCED, log entry 113] -/
def controllerEnable (s : State) (fn cc : Nat) : State :=
  if fnExists s fn && !bitAt (inst s fn).cc 0 then
    let aqa := (inst s fn).aqa
    let cq : Cq := { Cq.fresh with size := fld aqa 27 16 + 1 }
    modInst { s with sqs := s.sqs.put (qkey fn 0) ⟨0, fld aqa 11 0 + 1, 0, 0, 1⟩, cqs := s.cqs.put (qkey fn 0) cq } fn
      (fun i => { i with cc := withBit (cc % 2 ^ 32) 0 true, shst := 0, serial := nvmeSerial s, model := v s K.nvmeModel })
  else s

def execControllerEnable (fn cc : Nat) (s : State) : Host.Outcome State Fault Refusal := .next (controllerEnable s fn cc)

end Sys2Proof.Machine
end

