-- ==== Sys2Proof/Machine/Coves.lean ====
section
/-! DEFINITION. Machine/Coves.lean: "Zones, Coves and Placement": the Cove descriptor, the dies and blocks of a Cove, its
physical space, promises, charges and capacity states. -/
namespace Sys2Proof.Machine
open Sys2Proof

-- ===== the descriptor (R140) =====

/-- The key of a Cove's descriptor. -/
def coveKey (c : Nat) : Nat := if c < 128 then unitKey K.coveDesc c else unitKey K.coveDescHi (c - 128)

/-- The descriptor of a Cove, 64 bytes. -/
def coveDesc (s : State) (c : Nat) : Nat := v s (coveKey c)

/-- The descriptor a Cove had in a generation (R33). -/
def coveDescG (s : State) (g c : Nat) : Nat := vg s g (coveKey c)

namespace Cd
def defined (d : Nat) : Bool := bitAt d 31
def raw (d : Nat) : Bool := bitAt d 30
def thinRatio (d : Nat) : Nat := fld d 29 26
def policy (d : Nat) : Nat := fld d 21 20
def effort (d : Nat) : Nat := fld d 19 18
def comp (d : Nat) : Nat := fld d 17 16
def zoneSize (d : Nat) : Nat := fld d 10 8
def zoneWidth (d : Nat) : Nat := fld d 5 4
def cell (d : Nat) : Nat := fld d 1 0
def channels (d : Nat) : Nat := fld d 63 32
def targets (d : Nat) : Nat := fld d 127 64
def readBound (d : Nat) : Nat := fld d 159 128
def spareWarn (d : Nat) : Nat := fld d 175 160
def refreshReserve (d : Nat) : Nat := fld d 191 176
def gcReserve (d : Nat) : Nat := fld d 207 192
def convOp (d : Nat) : Nat := fld d 223 208
/-- Dies per zone. -/
def width (d : Nat) : Nat := 2 ^ zoneWidth d
/-- Zone size in bytes: 256 MiB times a power of two. -/
def zoneBytes (d : Nat) : Nat := 2 ^ (28 + zoneSize d)
def thin (d : Nat) : Bool := comp d == 2
def compressed (d : Nat) : Bool := comp d == 1 || comp d == 2
def bounded (d : Nat) : Bool := defined d && policy d == 1
/-- The bits of the descriptor and of COVE_CFG that are named reserved (R141). -/
def reservedMask : Nat := 0x03C0F8CC + (2 ^ 512 - 2 ^ 224)
/-- The dies of the set, by CE, then LUN, then channel, the channel varying fastest (R142). -/
def dies (d : Nat) : List Nat :=
  ((List.range 64).filter (bitAt (targets d))).flatMap (fun t =>
    ((List.range 32).filter (bitAt (channels d))).map (fun ch => ch * 64 + t))
end Cd

/-- The Coves with DEFINED = 1. -/
def coves (s : State) : List Nat := (List.range 256).filter (fun c => Cd.defined (coveDesc s c))

-- ===== slots, LUNs and SB2300 blocks (R226, R227) =====

/-- The slot of a LUN: channel × 8 + CE. -/
def slotOfDie (die : Nat) : Nat := die / 8

/-- Thermal hold: background media work starts nothing new (R368). -/
def backgroundHeld (s : State) : Bool := s.thermal.state == 4

/-- A slot that negotiation has not found. -/
def Slot.none : Slot := ⟨false, 0, 0, 0, 0, 0, 0, 0, 0, 0⟩

/-- A slot. -/
def slotAt (s : State) (sl : Nat) : Slot := s.nand.slots.getD sl Slot.none

/-- The slot a die sits on. -/
def slotOf (s : State) (die : Nat) : Slot := slotAt s (slotOfDie die)

/-- NAND_DIE_STATE of a die: 0 absent, 1 in service, 2 retired. -/
def dieState (s : State) (die : Nat) : Nat := s.nand.dies.getD die 0

/-- Pages per wordline and plane in a cell mode (R227). -/
def cellPages (cell : Nat) : Nat := if cell = 0 then 1 else cell + 2

/-- User bytes of one block in a cell mode. -/
def Slot.blockBytes (x : Slot) (cell : Nat) : Nat := x.wordlines * cellPages cell * x.planes * 16384

/-- A little-endian field of a slot's NAND_TIMES record (R231). -/
def nandTime (s : State) (sl off n : Nat) : Nat := leAt s.nand.times (32 * sl + off) n

/-- NAND_TIMES names a slot's maxima, and its MODES has a cell mode (R231). -/
def slotSupports (s : State) (sl cell : Nat) : Bool :=
  leAt s.nand.times (32 * sl) 32 != 0 && bitAt (nandTime s sl 28 1) cell

/-- A LUN counts as found for a Cove: in service and supported, or retired (R141, R231). -/
def dieFound (s : State) (die cell : Nat) : Bool :=
  dieState s die == 2 || (dieState s die == 1 && slotSupports s (slotOfDie die) cell)

/-- Key of an SB2300 block. -/
def bkey (die block : Nat) : Nat := die * 32768 + block

/-- A clean free block that has never been used. -/
def PBlock.fresh : PBlock :=
  { use := .free, cell := 0, erases := 0, firsts := 0, finals := 0, closed := none, progTime := 0, bad := false,
    failed := false, due := false, pending := none, strikes := 0, struck := false, stale := false }

/-- An SB2300 block. -/
def blockAt (s : State) (die block : Nat) : PBlock := s.nand.blocks.getD (bkey die block) PBlock.fresh

/-- Change an SB2300 block. -/
def modBlock (s : State) (die block : Nat) (f : PBlock → PBlock) : State :=
  { s with nand := { s.nand with blocks := s.nand.blocks.put (bkey die block) (f (blockAt s die block)) } }

/-- The first `n` good blocks of a die at or after block `from`. -/
def goodFrom (s : State) (die : Nat) : Nat → Nat → Nat → List Nat
  | 0, _, _ => []
  | fuel + 1, b, n =>
    if n = 0 then [] else if (blockAt s die b).bad then goodFrom s die fuel (b + 1) n
    else b :: goodFrom s die fuel (b + 1) (n - 1)

/-- The blocks of a die that are the metadata region and the flush area (R166, R240). -/
def reservedBlocks (s : State) (die : Nat) : List Nat :=
  goodFrom s die (slotOf s die).blocks 0 (s.nand.metaBlocks + s.nand.flushBlocks)

/-- Bad blocks of a die, factory-bad and retired. -/
def badBlocks (s : State) (die : Nat) : Nat :=
  (s.nand.blocks.filter (fun p => p.1 / 32768 == die && p.2.bad)).length

/-- Good blocks of a die outside the metadata region and the flush area. -/
def dataBlocks (s : State) (die : Nat) : Nat :=
  (slotOf s die).blocks - badBlocks s die - s.nand.metaBlocks - s.nand.flushBlocks

-- ===== physical space (R143, R145, R156, R162) =====

/-- PHYS_TOTAL of a Cove with descriptor `d`. -/
def physOf (s : State) (d : Nat) : Nat :=
  sumNat ((Cd.dies d).map (fun die => if dieState s die = 1 then dataBlocks s die * (slotOf s die).blockBytes (Cd.cell d) else 0))

/-- G of a Cove: the zone width times the user bytes of one block. -/
def groupBytes (s : State) (d : Nat) : Nat :=
  Cd.width d * (((Cd.dies d).find? (fun die => (slotOf s die).present)).elim 0 (fun die => (slotOf s die).blockBytes (Cd.cell d)))

/-- Round up to whole groups. -/
def roundG (g x : Nat) : Nat := g * ceilDiv x g

/-- Logical block size of a namespace. -/
def Ns.blk (n : Ns) : Nat := if n.lbaf < 4 then 4096 else 16384

/-- The promise F of one zone (R145). -/
def zonePromise (s : State) (d blk : Nat) : Nat :=
  let z := Cd.zoneBytes d
  let p := if Cd.comp d = 1 ∧ !Cd.raw d then z + 256 * (z / blk) else z
  if Cd.thin d then 0 else roundG (groupBytes s d) p

/-- The promise of a conventional namespace of `bytes`. -/
def convPromise (s : State) (d bytes : Nat) : Nat :=
  let g := groupBytes s d
  g * ceilDiv (bytes * (1024 + Cd.convOp d)) (1024 * g)

/-- What a namespace with quota `q` is promised in a Cove. -/
def nsPromise (s : State) (d : Nat) (n : Ns) (q : Nat) : Nat :=
  if q = 0 then 0 else if n.zoned then q * zonePromise s d n.blk else convPromise s d (n.nsze * n.blk)

/-- PROMISED of a Cove. -/
def promised (s : State) (c : Nat) : Nat := sumNat (s.nss.map (fun p => nsPromise s (coveDesc s c) p.2 (p.2.quota.getD c 0)))

/-- RSV_z. -/
def Zone.rsvSum (z : Zone) : Nat := sumNat (z.rsv.map (fun r => r.2.1))

/-- CHARGE_z of a thin zone (R156); a Full one's is ALLOC_z (R157). -/
def Zone.charge (z : Zone) : Nat :=
  match z.st with
  | .empty => 0
  | .offline => 0
  | .full => if z.rsv.isEmpty then z.alloc else Nat.max z.alloc (z.stored + z.rsvSum)
  | _ => Nat.max z.alloc (z.stored + z.rsvSum)

/-- CHARGED of a Cove. -/
def charged (s : State) (c : Nat) : Nat :=
  if Cd.thin (coveDesc s c) then sumNat ((s.zones.filter (fun p => p.2.coveValid && p.2.cove == c)).map (fun p => p.2.charge)) else 0

/-- FREE of a Cove. -/
def freeOf (s : State) (c : Nat) : Int := (physOf s (coveDesc s c) : Int) - promised s c - charged s c

/-- The level of a reserve field: the field × PHYS_TOTAL ÷ 1,024, rounded down (R162). -/
def level (s : State) (d field : Nat) : Nat := field * physOf s d / 1024

/-- HEADROOM of a Cove. -/
def headroom (s : State) (c : Nat) : Nat := (freeOf s c - level s (coveDesc s c) (Cd.refreshReserve (coveDesc s c))).toNat

/-- The capacity-state bits of a Cove. -/
def capBits (s : State) (c : Nat) : Nat := s.xlat.capState.getD c 0

/-- The namespace holds quota in a Cove. -/
def Ns.inCove (n : Ns) (c : Nat) : Bool := n.quota.getD c 0 > 0

/-- The controllers attached to a namespace with quota in a Cove, and every PF (R162). -/
def capReaders (s : State) (c : Nat) : List Nat :=
  (pfs s ++ s.nss.flatMap (fun p => if p.2.inCove c then p.2.attached else [])).eraseDups

/-- One capacity-state bit of a Cove takes a value; an entry records an event and posts an asynchronous one. -/
def capBit (s : State) (c bit : Nat) (now : Bool) : State :=
  if bitAt (capBits s c) bit = now then s
  else
    let s := bump32 { s with xlat := { s.xlat with capState := s.xlat.capState.put c (withBit (capBits s c) bit now) } } K.capacityStateChanges
    if now then
      let free := ofSigned 64 (freeOf s c)
      let s := event s (if bit = 0 then Ev.capSpareWarning else if bit = 1 then Ev.capBelowRefresh else Ev.capReadOnly) [c, free]
      let a : Aen := if bit = 0 then .capacityState c 2 else if bit = 1 then .belowRefresh c else .capacityState c 0
      (capReaders s c).foldl (fun s fn => aen s fn a) s
    else s

/-- CAPACITY_STATE_CHANGE of one Cove (R162): the comparison made at every change of FREE. READ_ONLY is left at the
REFRESH_RESERVE level. -/
def capCheck1 (s : State) (c : Nat) : State :=
  let d := coveDesc s c
  if Cd.defined d then
    let free := freeOf s c
    let s := capBit s c 0 (free < level s d (Cd.spareWarn d))
    let s := capBit s c 1 (free < level s d (Cd.refreshReserve d))
    if free < level s d (Cd.gcReserve d) then capBit s c 2 true
    else if free ≥ level s d (Cd.refreshReserve d) then capBit s c 2 false
    else s
  else s

/-- The comparison for every defined Cove. -/
def capCheck (s : State) : State := (coves s).foldl capCheck1 s

/-- A namespace is read-only: for all (R193), for want of compressors (R209), or by a Cove in READ_ONLY (R162). -/
def nsReadOnly (s : State) (n : Ns) : Bool :=
  s.xlat.readOnlyAll
    || (s.xlat.readOnlyComp && n.quota.any (fun q => q.2 > 0 && Cd.compressed (coveDesc s q.1)))
    || n.quota.any (fun q => q.2 > 0 && bitAt (capBits s q.1) 2)

-- ===== the zones of a namespace =====

/-- Key of a zone. -/
def zkey (nsid zone : Nat) : Nat := nsid * 2 ^ 32 + zone

/-- An Empty zone. -/
def Zone.fresh : Zone :=
  { st := .empty, wp := 0, applied := 0, cove := 0, coveValid := false, group := 0, assigned := none, fzr := false,
    zfc := false, loss := false, tag := none, stored := 0, alloc := 0, rsv := [], lastWriteNs := 0, frames := [],
    unit := none, logEnd := 0, allocs := [], actions := [] }

/-- A zone. -/
def zoneAt (s : State) (k : Nat) : Zone := s.zones.getD k Zone.fresh

/-- Change a zone. -/
def modZone (s : State) (k : Nat) (f : Zone → Zone) : State := { s with zones := s.zones.put k (f (zoneAt s k)) }

/-- The namespace of an identifier. -/
def nsOf (s : State) (nsid : Nat) : Option Ns := s.nss.get? nsid

/-- The first Cove a namespace has quota in. -/
def Ns.firstCove (n : Ns) : Nat := (n.quota.find? (fun q => q.2 > 0)).elim 0 Prod.fst

/-- Zone size of a namespace in logical blocks: its Coves share one ZONE_SIZE (R144). -/
def zoneBlocks (s : State) (n : Ns) : Nat := Cd.zoneBytes (coveDesc s n.firstCove) / n.blk

/-- The number of zones. -/
def zoneCount (s : State) (n : Ns) : Nat := ceilDiv n.nsze (zoneBlocks s n)

/-- Open and active states. -/
def ZState.isOpen : ZState → Bool
  | .implicitOpen => true
  | .explicitOpen => true
  | _ => false

def ZState.isActive : ZState → Bool
  | .closed => true
  | z => z.isOpen

/-- Zone state codes of the Zoned Namespace Command Set. -/
def ZState.code : ZState → Nat
  | .empty => 1
  | .implicitOpen => 2
  | .explicitOpen => 3
  | .closed => 4
  | .readOnly => 0xD
  | .full => 0xE
  | .offline => 0xF

/-- Zones of the package that are open, or active. -/
def openCount (s : State) : Nat := (s.zones.filter (fun p => p.2.st.isOpen)).length
def activeCount (s : State) : Nat := (s.zones.filter (fun p => p.2.st.isActive)).length

/-- NS_ACTIVE: zones of a namespace in a Cove that are neither Empty nor Offline. -/
def nsActive (s : State) (nsid c : Nat) : Nat :=
  (s.zones.filter (fun p => p.1 / 2 ^ 32 == nsid && p.2.coveValid && p.2.cove == c && p.2.st != .empty && p.2.st != .offline)).length

/-- Charged bytes of die group `g` of a Cove: the groups allocated to zones that hold it (R152). -/
def groupCharged (s : State) (c g : Nat) : Nat :=
  sumNat ((s.zones.filter (fun p => p.2.coveValid && p.2.cove == c && p.2.group == g)).map (fun p =>
    if Cd.thin (coveDesc s c) then p.2.charge
    else match p.2.st with
      | .empty => 0
      | .offline => 0
      | _ => zonePromise s (coveDesc s c) ((nsOf s (p.1 / 2 ^ 32)).elim 4096 Ns.blk)))

/-- Number of die groups of a Cove. -/
def groupCount (d : Nat) : Nat := (Cd.dies d).length / Cd.width d

/-- The die group a zone is given when it opens: the fewest charged bytes, lowest number on a tie (R152). -/
def pickGroup (s : State) (c : Nat) : Nat :=
  (((List.range (groupCount (coveDesc s c))).foldl (fun best g =>
    let x := groupCharged s c g
    match best with
    | none => some (g, x)
    | some (_, y) => if x < y then some (g, x) else best) (none : Option (Nat × Nat)))).elim 0 Prod.fst

/-- The die at position `p` of a group. -/
def groupDie (d g p : Nat) : Nat := (Cd.dies d).getD (g * Cd.width d + p) 0

/-- A device-made zone change enters the Changed Zone List and raises Zone Descriptor Changed (R154). -/
def zoneChanged (s : State) (nsid zone : Nat) : State :=
  let s := bump32 s K.zonesDeviceChanged
  ((nsOf s nsid).elim [] Ns.attached).foldl (fun s fn =>
    aen (modInst s fn (fun i => { i with changedZones := if i.changedZones.contains (zkey nsid zone) then i.changedZones else i.changedZones ++ [zkey nsid zone] })) fn
      .zoneDescriptorChanged) s

-- ===== Cove Status and Zone Usage (R158) =====

/-- KIND of a Cove. -/
def coveKind (s : State) (c : Nat) : Nat :=
  if s.nss.any (fun p => !p.2.zoned && p.2.inCove c) then 3 else Cd.comp (coveDesc s c)

/-- The 64-byte Cove Status record; for a namespace, or the dictionary view. -/
def coveStatusRec (s : State) (c : Nat) (ns : Option (Nat × Ns)) : Bytes :=
  let d := coveDesc s c
  leBytes 1 c ++ leBytes 1 (capBits s c) ++ leBytes 1 (Cd.cell d) ++ leBytes 1 (coveKind s c)
    ++ leBytes 4 (ns.elim 0 (fun n => n.2.quota.getD c 0)) ++ leBytes 8 (physOf s d) ++ leBytes 8 (promised s c)
    ++ leBytes 8 (charged s c) ++ leBytes 8 (ofSigned 64 (freeOf s c)) ++ leBytes 8 (headroom s c) ++ leBytes 8 (groupBytes s d)
    ++ leBytes 4 (ns.elim 0 (fun n => nsActive s n.1 c)) ++ leBytes 4 0

/-- The 16-byte header of the Cove directive's Directive Receive operations. -/
def recvHeader (s : State) (n : Nat) : Bytes := leBytes 2 n ++ List.replicate 6 0 ++ leBytes 8 s.clk.tide

/-- STORED and CHARGE of a zone. -/
def zoneStored (s : State) (nsid : Nat) (z : Zone) : Nat :=
  if Cd.compressed (coveDesc s z.cove) then z.stored else z.applied * ((nsOf s nsid).elim 4096 Ns.blk)

def zoneCharge (s : State) (nsid : Nat) (z : Zone) : Nat :=
  if Cd.thin (coveDesc s z.cove) then z.charge
  else if z.st = .empty ∨ z.st = .offline then 0 else zonePromise s (coveDesc s z.cove) ((nsOf s nsid).elim 4096 Ns.blk)

/-- The 32-byte Zone Usage record. -/
def zoneUsageRec (s : State) (nsid : Nat) (n : Ns) (i : Nat) : Bytes :=
  let z := zoneAt s (zkey nsid i)
  let fl := (if Cd.thin (coveDesc s z.cove) && z.coveValid then 1 else 0) + (if z.loss then 2 else 0) + (if z.fzr then 4 else 0)
    + (if z.coveValid then 8 else 0) + (if z.zfc then 16 else 0)
  leBytes 8 (i * zoneBlocks s n) ++ leBytes 1 (if z.coveValid then z.cove else 0) ++ leBytes 1 z.st.code ++ leBytes 1 fl
    ++ List.replicate 5 0 ++ leBytes 8 (if z.coveValid then zoneStored s nsid z else 0) ++ leBytes 8 (if z.coveValid then zoneCharge s nsid z else 0)

end Sys2Proof.Machine
end

