-- ==== Sys2Proof/Machine/Media.lean ====
section
/-! DEFINITION. Machine/Media.lean: "Translation, Reclaim and the Loss Map" and "NAND Channel Engines": where user data
lies on the dies, how blocks are allocated, what the write buffer holds until its pages pass, poison index and losses. -/
namespace Sys2Proof.Machine
open Sys2Proof

-- ===== free blocks (R181) =====

/-- A block of a die that may be allocated for data. -/
def blockFree (s : State) (die b : Nat) (res : List Nat) : Bool :=
  let x := blockAt s die b
  x.use == .free && !x.bad && !res.contains b

/-- The free block of a die with the lowest erase count, an erased one before one that awaits its erase. -/
def pickFree (s : State) (die : Nat) : Option Nat :=
  let res := reservedBlocks s die
  let c := (List.range (slotOf s die).blocks).filter (fun b => blockFree s die b res)
  let rank (b : Nat) := let x := blockAt s die b; x.erases + (if x.stale then 2 ^ 40 else 0)
  c.foldl (fun best b => match best with
    | none => some b
    | some y => if rank b < rank y then some b else best) none

/-- A die that takes work: in service. -/
def dieUp (s : State) (die : Nat) : Bool := dieState s die == 1

/-- A free block on `die`, or on another die of the Cove where that die is out of service or has none (R175). [DESIGN CHOICE, log entry 24] -/
def pickBlock (s : State) (d die : Nat) : Option (Nat × Nat) :=
  match (if dieUp s die then pickFree s die else none) with
  | some b => some (die, b)
  | none => ((Cd.dies d).filter (fun x => x != die && dieUp s x)).findSome? (fun x => (pickFree s x).map (fun b => (x, b)))

/-- Take a block for a use. [DESIGN CHOICE, log entry 24] -/
def takeBlock (s : State) (die b : Nat) (u : BlockUse) (cell : Nat) : State :=
  modBlock s die b (fun x => { x with use := u, cell := cell, firsts := 0, finals := 0, closed := none, progTime := 0, failed := false,
                                      due := false, pending := none, struck := false })

/-- Age of a block's data, µs (R183): calendar time, or while it is not set the calendar time last persisted and the count since
power-on, less the time of programming; of a block programmed before the calendar was set, the difference of the two counts. [DEDUCED, log entry 54] -/
def blockAge (s : State) (b : PBlock) : Nat :=
  if b.progTime < 2 ^ 63 then (if s.clk.calSet then time64 s else (s.clk.keptNs + s.clk.calNs) / 1000) - b.progTime
  else if s.clk.calSet then 0 else time64 s - b.progTime

/-- A block's data is younger than REFRESH_AGE ÷ 8 of its cell mode (R264). -/
def blockYoung (s : State) (b : PBlock) : Bool := decide (blockAge s b * 8 < v s (unitKey K.refreshAge b.cell) * 1000000)

/-- Release a block: its data is named by nothing and it awaits its erase (R138, R157). A programming that has outlived
its first REFRESH_AGE ÷ 8 without a mark clears the strikes (R264). -/
def releaseBlock (s : State) (die b : Nat) : State :=
  modBlock s die b (fun x => { x with use := .free, stale := true, closed := none, due := false, pending := none, failed := false,
                                      strikes := if x.struck || blockYoung s x then x.strikes else 0 })

-- ===== zone allocations and R169 =====

/-- Key of a relocation-map entry. -/
def rkey (zk k p : Nat) : Nat := (zk * 65536 + k) * 8 + p

/-- What the zone record holds for a block of a position: its number; on another die than the position's, its die too (R175). [DESIGN CHOICE, log entry 57] -/
def recEntry (home : Nat) (q : Nat × Nat) : Nat := if q.1 = home then q.2 else (q.1 + 1) * 32768 + q.2

/-- The die and block of allocation `k` at position `p` of a zone. -/
def allocAt (s : State) (zk : Nat) (z : Zone) (k p : Nat) : Nat × Nat :=
  match s.xlat.relocMap.get? (rkey zk k p) with
  | some y => (y / 32768, y % 32768)
  | none =>
    let y := (z.allocs.getD k []).getD p 0
    if y < 32768 then (groupDie (coveDesc s z.cove) z.group p, y) else (y / 32768 - 1, y % 32768)

/-- The relocation map can name another die for a position: it does already, or has a free entry; refresh and wear levelling
leave the last 16,384 (R175). -/
def relocRoom (s : State) (k : RelocKind) (key : Nat) : Bool :=
  let most := match k with
    | .refresh => 65536 - 16384
    | .wear => 65536 - 16384
    | _ => 65536
  s.xlat.relocMap.has key || s.xlat.relocMap.length < most

/-- R169: die, block and user-data offset within the block of a physical-log offset. -/
def logLoc (s : State) (zk : Nat) (z : Zone) (x : Nat) : Nat × Nat × Nat :=
  let d := coveDesc s z.cove
  let g := groupBytes s d
  let w := Cd.width d
  let r := x % g
  let (die, block) := allocAt s zk z (x / g) (r / 65536 % w)
  (die, block, r / (65536 * w) * 65536 + r % 65536)

/-- R228: the codeword that holds user-data offset `b` of a block. -/
def cwAt (s : State) (die block b : Nat) : CwAddr :=
  let sl := slotOf s die
  let n := cellPages (blockAt s die block).cell
  let p := Nat.max sl.planes 1
  { die := die, block := block, wl := b / (16384 * p * n), pt := b / (16384 * p) % n, plane := b / 16384 % p, cw := b / 4096 % 4 }

/-- The user-data offset of the first byte of a codeword (the inverse of R228). -/
def cwOffset (s : State) (a : CwAddr) : Nat :=
  let p := Nat.max (slotOf s a.die).planes 1
  let n := cellPages (blockAt s a.die a.block).cell
  ((a.wl * n + a.pt) * p + a.plane) * 16384 + a.cw * 4096

/-- Take fresh blocks for allocation `k` of a zone, with a relocation-map entry for a block on another die. -/
def allocGroup (s : State) (zk k : Nat) : State :=
  let z := zoneAt s zk
  let d := coveDesc s z.cove
  let (s, bs) := (List.range (Cd.width d)).foldl (fun (acc : State × List Nat) p =>
    let s := acc.1
    let die := groupDie d z.group p
    match pickBlock s d die with
    | some (die', b) =>
      let s := takeBlock s die' b (.zone zk k p) (Cd.cell d)
      if die' = die ∨ !relocRoom s .retire (rkey zk k p) then (s, acc.2 ++ [recEntry die (die', b)])
      else ({ s with xlat := { s.xlat with relocMap := s.xlat.relocMap.put (rkey zk k p) (bkey die' b) } }, acc.2 ++ [b])
    | none => (s, acc.2 ++ [0])) (s, [])
  modZone s zk (fun z => { z with allocs := z.allocs ++ [bs] })

/-- Allocate until the zone's physical log can take byte `x`. [DESIGN CHOICE, log entry 24] -/
def allocTo : Nat → State → Nat → Nat → State
  | 0, s, _, _ => s
  | n + 1, s, zk, x =>
    let z := zoneAt s zk
    if z.allocs.length * groupBytes s (coveDesc s z.cove) ≤ x then allocTo n (allocGroup s zk z.allocs.length) zk x else s

/-- The zone that a relocation is for, where it is for one. -/
def RelocTarget.zoneOf : RelocTarget → Option Nat
  | .alloc zk _ _ _ _ => some zk
  | .whole zk _ _ => some zk
  | .pages _ => none

/-- The destination blocks of a relocation that ends without a switch are released (R177). -/
def freeCopies (s : State) (id : Nat) : State :=
  (s.nand.blocks.filter (fun p => p.2.use == .copy id)).foldl (fun s p => releaseBlock s (p.1 / 32768) (p.1 % 32768)) s

/-- Release every block of a zone and its relocation-map entries; its relocations are abandoned (R157, R175, R177). -/
def releaseZone (s : State) (zk : Nat) : State :=
  let mine := s.nand.blocks.filter (fun p => match p.2.use with
    | .zone k _ _ => k == zk
    | _ => false)
  let s := mine.foldl (fun s p => releaseBlock s (p.1 / 32768) (p.1 % 32768)) s
  let s := (s.xlat.relocs.filter (fun r => r.target.zoneOf == some zk)).foldl (fun s r => freeCopies s r.id) s
  { s with xlat := { s.xlat with
      relocMap := s.xlat.relocMap.keep (fun k _ => k / 8 / 65536 != zk)
      relocs := s.xlat.relocs.filter (fun r => r.target.zoneOf != some zk) } }

-- ===== paired sets and the write buffer (R235, R236, R240) =====

/-- Wordlines of a block whose pages have passed: every pass of the paired set has completed with NC_OK (R235). -/
def PBlock.passed (b : PBlock) : Nat :=
  if b.cell < 2 then b.finals
  else match b.closed with
    | some n => if b.finals ≥ n then b.finals else b.finals - 1
    | none => b.finals - 1

/-- A page that has not passed. -/
def unpassed (s : State) (l : Nat × Nat × Nat) : Bool := (blockAt s l.1 l.2.1).passed ≤ l.2.2

/-- The pages that hold physical-log bytes `x` to `x + n − 1` of a zone: die, block and wordline. -/
def logPages (s : State) (zk : Nat) (z : Zone) (x n : Nat) : List (Nat × Nat × Nat) :=
  ((List.range (ceilDiv (x % 4096 + n) 4096)).map (fun i =>
    let (die, block, b) := logLoc s zk z (x / 4096 * 4096 + i * 4096)
    (die, block, (cwAt s die block b).wl))).eraseDups

/-- Data enters the write buffer. -/
def wbAdd (s : State) (e : WbEnt) : State := { s with xlat := { s.xlat with wbuf := s.xlat.wbuf ++ [e] } }

/-- The entries of the write buffer that hold a logical block. -/
def wbHas (s : State) (nsid lba : Nat) : Bool :=
  s.xlat.wbuf.any (fun e => e.nsid == nsid && e.lba ≤ lba && lba < e.lba + e.nlb)

/-- Data of a range of logical blocks leaves the write buffer: it has been superseded. -/
def wbDrop (s : State) (nsid lba nlb : Nat) : State :=
  { s with xlat := { s.xlat with wbuf := s.xlat.wbuf.filter (fun e => !(e.nsid == nsid && lba ≤ e.lba && e.lba + e.nlb ≤ lba + nlb)) } }

/-- AT_RISK_BYTES: acknowledged data whose pages have not passed, log copies and flush-area copies left out, and the
staging of open units (R240, R435). -/
def atRisk (s : State) : Nat :=
  sumNat (s.xlat.wbuf.map (fun e => if e.acked && !e.replay && !e.logged then e.bytes else 0))
    + sumNat (s.zones.map (fun p => p.2.unit.elim 0 OpenUnit.bytes))

/-- The at-risk set has become empty in write-through mode: the AT_RISK_CLEAR Notice event (R242). -/
def atRiskClear (before : Nat) (s : State) : State :=
  if vb s K.writeThrough && before > 0 && atRisk s == 0 then event s Ev.atRiskClear [] else s

/-- A write has nothing left that has not passed or been logged (R25, R243). -/
def writeSafe (s : State) (seq : Nat) : Bool :=
  !s.xlat.wbuf.any (fun e => e.seq == seq && !e.logged) && !s.zones.any (fun p => p.2.unit.isSome && p.2.rsv.any (fun r => r.1 == seq))

-- ===== the mirror, sending side (R26, R324) =====

/-- The package is one of a formed pair whose mirror counts for acknowledgement (R26): paired with a partner that has not surrendered
(R391), or handing its own half over; a solo package that hands a half back mirrors again once it is done (R336). -/
def mirroring (s : State) : Bool :=
  (s.pair.state == 2 && (if s.pair.position = 0 then s.pair.ana2 else s.pair.ana1) == 1)
    || (s.pair.state == 6 && s.pair.handing == some s.pair.position)

/-- Send a record: it takes the next SEQ and waits for its ACK. [DEDUCED, log entry 96] -/
def mirrorSend (s : State) (kind len group : Nat) (groupEnd : Bool) : State :=
  let q := s.pair.seqSent + 1
  { s with pair := { s.pair with seqSent := q, unacked := s.pair.unacked ++ [⟨q, kind, len, group, groupEnd⟩] } }

/-- A KIND 0x04 release for each entry of the write buffer that is gone (R324). [DEDUCED, log entry 96] -/
def mirrorReleases (s : State) (gone : List WbEnt) : State :=
  if mirroring s then gone.foldl (fun s e => mirrorSend s 4 0 e.seq false) s else s

/-- Pages have passed: the data they hold is released; data already logged drops its log copy (PAGE_PASSED, R236). -/
def releasePassed (s : State) : State :=
  let all := s.xlat.wbuf.map (fun e => { e with locs := e.locs.filter (unpassed s) })
  let w := all.filter (fun e => !e.locs.isEmpty)
  let s := mirrorReleases { s with xlat := { s.xlat with wbuf := w } } (all.filter (fun e => e.locs.isEmpty))
  let s := { s with nand := { s.nand with wtLog := s.nand.wtLog.filter (fun l => s.xlat.wbuf.any (fun e => e.seq == l.1 && e.logged)) } }
  if s.nand.flushArea && !w.any WbEnt.replay then { s with nand := { s.nand with flushArea := false } } else s

-- ===== poison index (R186, R192) =====

/-- Key of a logical block. -/
def lkey (nsid lba : Nat) : Nat := nsid * 2 ^ 64 + lba

/-- A logical block is lost. -/
def poisoned (s : State) (nsid lba : Nat) : Bool := s.xlat.poison.has (lkey nsid lba)

/-- Zone number of a logical block. -/
def zoneOfLba (s : State) (n : Ns) (lba : Nat) : Nat := lba / zoneBlocks s n

/-- The LOSS flag of a zone follows the index (R192). -/
def lossFlag (s : State) (nsid zone : Nat) : State :=
  match nsOf s nsid with
  | some n =>
    if n.zoned then
      let zb := zoneBlocks s n
      let has := s.xlat.poison.any (fun p => p.1 / 2 ^ 64 == nsid && p.1 % 2 ^ 64 / zb == zone)
      if (zoneAt s (zkey nsid zone)).loss = has then s else modZone s (zkey nsid zone) (fun z => { z with loss := has })
    else s
  | none => s

/-- Blocks of a range leave the poison index and lose their Write Uncorrectable marks (R192). -/
def unpoison (s : State) (nsid lba nlb : Nat) : State :=
  let out (k : Nat) := !(k / 2 ^ 64 == nsid && lba ≤ k % 2 ^ 64 && k % 2 ^ 64 < lba + nlb)
  if s.xlat.poison.any (fun p => !out p.1) then
    let s := { s with xlat := { s.xlat with poison := s.xlat.poison.keep (fun k _ => out k), uncor := s.xlat.uncor.keep (fun k _ => out k) } }
    match nsOf s nsid with
    | some n => if n.zoned then lossFlag s nsid (zoneOfLba s n lba) else s
    | none => s
  else if s.xlat.uncor.any (fun p => !out p.1) then { s with xlat := { s.xlat with uncor := s.xlat.uncor.keep (fun k _ => out k) } }
  else s

-- ===== losses (R186 to R191) =====

/-- Group rising block numbers into ranges. -/
def runsOf : List Nat → List (Nat × Nat)
  | [] => []
  | a :: r => match runsOf r with
    | (b, n) :: t => if b = a + 1 then (a, n + 1) :: t else (a, 1) :: (b, n) :: t
    | [] => [(a, 1)]

/-- Split a range into entries of at most 0xFFFF_FFFF blocks (R188). -/
def splitRange : Nat → Nat → Nat → List (Nat × Nat)
  | 0, _, _ => []
  | f + 1, a, n => if n ≤ 0xFFFFFFFF then [(a, n)] else (a, 0xFFFFFFFF) :: splitRange f (a + 0xFFFFFFFF) (n - 0xFFFFFFFF)

/-- A range waits for its publication. -/
def lossPend (s : State) (nsid slba nlb cause flags loc cove : Nat) : State :=
  { s with xlat := { s.xlat with unpublished := s.xlat.unpublished ++ [⟨nsid, slba, nlb, cause, flags, loc, cove, time64 s, s.clk.nowNs⟩] } }

/-- LOSS_DISCOVERY (R186): the blocks that are not in the poison index yet enter it, their map states and the zone's
LOSS flag are set, and their ranges wait for publication. `lbas` rise. -/
def discover (s : State) (nsid cause flags loc : Nat) (lbas : List Nat) : State :=
  let new := lbas.filter (fun l => !poisoned s nsid l)
  if new.isEmpty then s
  else
    let s := { s with xlat := { s.xlat with poison := new.foldl (fun m l => m.put (lkey nsid l) cause) s.xlat.poison } }
    let s := match nsOf s nsid with
      | some n => if n.zoned then ((new.map (zoneOfLba s n)).eraseDups).foldl (fun s z => lossFlag s nsid z) s else s
      | none => s
    (runsOf new).foldl (fun s r => (splitRange 16 r.1 r.2).foldl (fun s x => lossPend s nsid x.1 x.2 cause flags loc 0) s) s

/-- Gap between two ranges. -/
def gapOf (a n b m : Nat) : Nat := if a + n ≤ b then b - (a + n) else if b + m ≤ a then a - (b + m) else 0

/-- The entry that covers two ranges and the gap between them, SUPERSET set (R191). [DESIGN CHOICE, log entry 25] -/
def LossEnt.merge (x y : LossEnt) (seq : Nat) : LossEnt :=
  let lo := Nat.min x.slba y.slba
  let hi := Nat.max (x.slba + x.nlb) (y.slba + y.nlb)
  { y with seq := seq, slba := lo, nlb := hi - lo, flags := (x.flags ||| y.flags) ||| 1 }

/-- Entries the loss map retains at most. -/
def lossCapacity : Nat := 16777216

/-- The entry of a list with the smallest gap to a range of its namespace. -/
def nearest (l : List LossEnt) (e : LossEnt) : Option LossEnt :=
  (l.filter (fun x => x.nsid == e.nsid && x.flags &&& 8 == 0 && x.seq != e.seq)).foldl (fun best x => match best with
    | none => some x
    | some y => if gapOf x.slba x.nlb e.slba e.nlb < gapOf y.slba y.nlb e.slba e.nlb then some x else best) none

/-- LOSS_MAP_MERGE (R191): into a full map, the new range is merged with the nearest entry of its namespace; where there
is none, the two nearest entries of one namespace are merged first. [DESIGN CHOICE, log entry 25] -/
def lossInsert (s : State) (e : LossEnt) : State :=
  let l := s.xlat.losses
  let last := v s K.lossSeqLast
  let put (s : State) (l : List LossEnt) (seq : Nat) : State :=
    setV { s with xlat := { s.xlat with losses := l } } K.lossSeqLast seq
  if l.length < lossCapacity then put s (l ++ [{ e with seq := last + 1 }]) (last + 1)
  else match nearest l e with
    | some x => put s (l.filter (fun y => y.seq != x.seq) ++ [x.merge e (last + 1)]) (last + 1)
    | none =>
      let best := l.foldl (fun (acc : Option (LossEnt × LossEnt)) x => match nearest l x, acc with
        | some y, none => some (x, y)
        | some y, some (a, b) => if gapOf x.slba x.nlb y.slba y.nlb < gapOf a.slba a.nlb b.slba b.nlb then some (x, y) else acc
        | none, _ => acc) none
      match best with
      | some (x, y) =>
        put s (l.filter (fun z => z.seq != x.seq && z.seq != y.seq) ++ [x.merge y (last + 1), { e with seq := last + 2 }]) (last + 2)
      | none => put s (l ++ [{ e with seq := last + 1 }]) (last + 1)

/-- Instances a loss entry is visible to (R187, R188). [DESIGN CHOICE, log entry 26] -/
def lossReaders (s : State) (nsid cove : Nat) : List Nat :=
  if nsid = 0xFFFFFFFF then (s.nss.flatMap (fun p => if p.2.inCove cove then p.2.attached else [])).eraseDups
  else (nsOf s nsid).elim [] Ns.attached

/-- LOSS_PUBLISH (R187): the oldest discovered range becomes an entry with the next SEQ, and each controller that sees it
receives the asynchronous event. [DEDUCED, log entry 32] -/
def lossPublish (s : State) : State :=
  match s.xlat.unpublished with
  | [] => s
  | p :: r =>
    let s := { s with xlat := { s.xlat with unpublished := r } }
    let e : LossEnt := ⟨0, p.nsid, p.slba, p.nlb, p.cause, p.flags, p.loc, p.cove, p.time, s.clk.tide⟩
    let s := lossInsert s e
    let lag := (s.clk.nowNs - p.atNs) / 1000
    let s := setV s K.lossPublishLagMax (Nat.max (v s K.lossPublishLagMax) lag)
    (lossReaders s p.nsid p.cove).foldl (fun s fn => aen s fn (.lossPublished p.nsid)) s

def execLossPublish (s : State) : Host.Outcome State Fault Refusal := .next (lossPublish s)

/-- Entries that every instance they are visible to has acknowledged are removed (R190). [DESIGN CHOICE, log entry 26] -/
def lossPrune (s : State) : State :=
  { s with xlat := { s.xlat with losses := s.xlat.losses.filter (fun e =>
      let rd := lossReaders s e.nsid e.cove
      rd.isEmpty || rd.any (fun n => vi s K.lossAck n < e.seq)) } }

/-- The 48-byte entry of log page 0xC2. -/
def LossEnt.bytes (e : LossEnt) : Bytes :=
  leBytes 8 e.seq ++ leBytes 8 e.slba ++ leBytes 4 e.nlb ++ leBytes 4 e.nsid ++ leBytes 8 e.time ++ leBytes 8 e.published
    ++ leBytes 1 e.cause ++ leBytes 1 e.flags ++ leBytes 2 e.loc ++ leBytes 4 0

/-- A die notice of a view has no closing notice yet. -/
def enumeratingIn (l : List LossEnt) : Bool :=
  l.any (fun e => e.flags &&& 8 != 0 && e.flags &&& 16 == 0 && !l.any (fun x => x.flags &&& 16 != 0 && x.loc == e.loc && x.seq > e.seq))

/-- The header and entries of log page 0xC2 (R189). -/
def lossPage (s : State) (ack : Nat) (l : List LossEnt) : Bytes :=
  leBytes 8 (v s K.lossSeqLast) ++ leBytes 8 ack ++ leBytes 4 l.length ++ leBytes 4 (l.filter (fun e => e.flags &&& 1 != 0)).length
    ++ leBytes 8 s.clk.tide ++ leBytes 4 lossCapacity ++ leBytes 4 (if enumeratingIn l then 1 else 0) ++ List.replicate 24 0
    ++ l.flatMap LossEnt.bytes

/-- A controller's view of the loss map (R189). -/
def lossView (s : State) (fn : Nat) : List LossEnt :=
  s.xlat.losses.filter (fun e => vi s K.lossAck fn < e.seq && (lossReaders s e.nsid e.cove).contains fn)

-- ===== the logical blocks that physical addresses hold (R186, R267) =====

/-- Rising block numbers from `a`, `n` of them. -/
def rangeFrom (a n : Nat) : List Nat := (List.range n).map (· + a)

/-- The logical blocks of frame `f` of a zone of namespace `n`. -/
def frameLbas (s : State) (n : Ns) (zone : Nat) (f : Frame) : List Nat :=
  rangeFrom (zone * zoneBlocks s n + f.start / n.blk) (f.len / n.blk)

/-- The logical blocks lost with physical-log bytes `x` to `x + len − 1` of a zone: those whose data lies there; every
block of a compressed frame that is not raw (R186). -/
def logLbas (s : State) (zone : Nat) (n : Ns) (z : Zone) (x len : Nat) : List Nat :=
  if Cd.compressed (coveDesc s z.cove) then
    (z.frames.filter (fun f => f.log < x + len && x < f.log + f.stored)).flatMap (fun f =>
      if f.kind = 2 then
        let lo := Nat.max x f.log - f.log
        let hi := Nat.min (x + len) (f.log + f.stored) - f.log
        rangeFrom (zone * zoneBlocks s n + (f.start + lo) / n.blk) ((f.start + hi - 1) / n.blk + 1 - (f.start + lo) / n.blk)
      else frameLbas s n zone f)
  else
    let first := x / n.blk
    rangeFrom (zone * zoneBlocks s n + first) (Nat.min ((x + len - 1) / n.blk + 1) z.applied - first)

/-- The physical-log offset of user-data offset `b` of the block at allocation `k`, position `p` (the inverse of R169). -/
def logOf (s : State) (z : Zone) (k p b : Nat) : Nat :=
  let d := coveDesc s z.cove
  k * groupBytes s d + b / 65536 * (65536 * Cd.width d) + p * 65536 + b % 65536

/-- Namespace and logical blocks of user-data bytes `b` to `b + len − 1` of a block. -/
def lbasAt (s : State) (die block b len : Nat) : List (Nat × List Nat) :=
  match (blockAt s die block).use with
  | .zone zk k p =>
    match nsOf s (zk / 2 ^ 32) with
    | some n => [(zk / 2 ^ 32, logLbas s (zk % 2 ^ 32) n (zoneAt s zk) (logOf s (zoneAt s zk) k p b) len)]
    | none => []
  | .stripe _ _ =>
    let hit := s.xlat.pmap.filter (fun q => q.2.die == die && q.2.block == block && q.2.slot * 4096 < b + len
      && b < q.2.slot * 4096 + ((nsOf s (q.1 / 2 ^ 64)).elim 4096 Ns.blk))
    ((hit.map (fun q => q.1 / 2 ^ 64)).eraseDups).map (fun ns => (ns, (hit.filter (fun q => q.1 / 2 ^ 64 == ns)).map (fun q => q.1 % 2 ^ 64)))
  | _ => []

-- ===== conventional Coves: stripes and the page map (R165, R178, R179) =====

/-- Valid 4 KiB pages of a stripe: those of the logical blocks that the page map places in it (R178). -/
def stripeValid (s : State) (x : Stripe) : Nat :=
  sumNat ((s.xlat.pmap.filter (fun q => x.blocks.contains (q.2.die, q.2.block))).map (fun q => ((nsOf s (q.1 / 2 ^ 64)).elim 4096 Ns.blk) / 4096))

/-- Stripes a group could still take from its free blocks. -/
def freeStripes (s : State) (d g : Nat) : Nat :=
  ((List.range (Cd.width d)).map (fun p =>
    let die := groupDie d g p
    if dieUp s die then
      let res := reservedBlocks s die
      ((List.range (slotOf s die).blocks).filter (fun b => blockFree s die b res)).length
    else 0)).foldl Nat.min (2 ^ 32)

/-- Clean stripes of a conventional Cove: those the free blocks make, and closed ones with no valid page (R178). -/
def cleanStripes (s : State) (c : Nat) : Nat :=
  let d := coveDesc s c
  sumNat ((List.range (groupCount d)).map (freeStripes s d))
    + (s.xlat.stripes.filter (fun p => p.2.cove == c && p.2.closed && stripeValid s p.2 == 0)).length

/-- Release the blocks of a closed stripe that holds no valid page. -/
def releaseStripe (s : State) (id : Nat) : State :=
  match s.xlat.stripes.get? id with
  | some x =>
    let s := x.blocks.foldl (fun s b => releaseBlock s b.1 b.2) s
    { s with xlat := { s.xlat with stripes := s.xlat.stripes.del id } }
  | none => s

/-- Release the closed stripes of a Cove that hold no valid page. [DEDUCED, log entry 128] -/
def releaseEmpty (s : State) (c : Nat) : State :=
  (s.xlat.stripes.filter (fun p => p.2.cove == c && p.2.closed && stripeValid s p.2 == 0)).foldl (fun s p => releaseStripe s p.1) s

/-- Open a stripe in the group of a Cove with the most free blocks. -/
def openStripe (s : State) (c : Nat) : Option (Nat × State) :=
  let d := coveDesc s c
  let g := ((List.range (groupCount d)).foldl (fun best g => match best with
    | none => some (g, freeStripes s d g)
    | some (_, m) => if m < freeStripes s d g then some (g, freeStripes s d g) else best) (none : Option (Nat × Nat)))
  match g with
  | some (g, m) =>
    if m = 0 then none
    else
      let id := s.xlat.nextStripe
      let (s, bs) := (List.range (Cd.width d)).foldl (fun (acc : State × List (Nat × Nat)) p =>
        let die := groupDie d g p
        match pickFree acc.1 die with
        | some b => (takeBlock acc.1 die b (.stripe id p) (Cd.cell d), acc.2 ++ [(die, b)])
        | none => acc) (s, [])
      some (id, { s with xlat := { s.xlat with nextStripe := id + 1, stripes := s.xlat.stripes.put id ⟨c, g, bs, 0, false, 0⟩ } })
  | none => none

/-- The open stripe of a Cove. -/
def openStripeOf (s : State) (c : Nat) : Option (Nat × Stripe) := s.xlat.stripes.firstWith (fun _ x => x.cove == c && !x.closed)

/-- Place `bytes` (one logical block) in the open stripe of a Cove; a stripe that is complete closes. [DESIGN CHOICE, log entry 24] -/
def placePage (s : State) (c bytes : Nat) : Option (PLoc × State) :=
  let found := match openStripeOf s c with
    | some (id, x) => some (id, x, s)
    | none => (openStripe (releaseEmpty s c) c).bind (fun r => (r.2.xlat.stripes.get? r.1).map (fun x => (r.1, x, r.2)))
  match found with
  | some (id, x, s) =>
    let d := coveDesc s c
    let w := Nat.max x.blocks.length 1
    let (die, block) := x.blocks.getD (x.used / 65536 % w) (0, 0)
    let b := x.used / (65536 * w) * 65536 + x.used % 65536
    let used := x.used + bytes
    let full := used + bytes > groupBytes s d
    let s := { s with xlat := { s.xlat with
      stripes := s.xlat.stripes.put id { x with used := used, closed := full, closeSeq := s.xlat.closeSeq }
      closeSeq := if full then s.xlat.closeSeq + 1 else s.xlat.closeSeq } }
    let s := if full then x.blocks.foldl (fun s q => modBlock s q.1 q.2 (fun y => { y with closed := some ((slotOf s q.1).wordlines) })) s else s
    some (⟨die, block, b / 4096⟩, s)
  | none => none

-- ===== the map cache (R172 to R174) =====

/-- Entries of one map page. -/
def mapEntries : Nat := 678

/-- Map pages of one zone in a compressed Cove. -/
def zonePages (zoneBytes : Nat) : Nat := ceilDiv (zoneBytes / 65536) mapEntries

/-- Map pages of a namespace, at full size (R168). -/
def nsMapPages (s : State) (n : Ns) : Nat :=
  if n.zoned then
    (if Cd.compressed (coveDesc s n.firstCove) then zoneCount s n * zonePages (Cd.zoneBytes (coveDesc s n.firstCove)) else 0)
  else ceilDiv (n.nsze * n.blk / 4096) mapEntries

/-- The map page of a logical block: page j of a zone, zone by zone; or the page of the 4 KiB page map. -/
def mapPageOf (s : State) (nsid : Nat) (n : Ns) (lba : Nat) : Nat :=
  if n.zoned then
    let zb := zoneBlocks s n
    nsid * 2 ^ 32 + (lba / zb * zonePages (zb * n.blk) + lba % zb * n.blk / 65536 / mapEntries)
  else nsid * 2 ^ 32 + lba * n.blk / 4096 / mapEntries

/-- Map pages in use in the package. [DEDUCED, log entry 27] -/
def mapPagesAll (s : State) : Nat := sumNat (s.nss.map (fun p => nsMapPages s p.2))

/-- MAP_RESIDENT (R172). -/
def mapResident (s : State) : Bool := v s K.mapCacheBytes ≥ 4096 * mapPagesAll s

/-- A namespace has quota in a bounded Cove: its map pages are pinned (R281). -/
def nsPinned (s : State) (nsid : Nat) : Bool :=
  (nsOf s nsid).elim false (fun n => n.quota.any (fun q => q.2 > 0 && Cd.bounded (coveDesc s q.1)))

/-- A map page that may not be evicted: of an open unit, of a command in flight, or pinned. -/
def pagePinned (s : State) (page : Nat) : Bool :=
  nsPinned s (page / 2 ^ 32) || s.flights.any (fun f => f.nsid == page / 2 ^ 32 && f.sqid != 0)
    || s.zones.any (fun p => p.1 / 2 ^ 32 == page / 2 ^ 32 && p.2.unit.isSome)

/-- A page enters the cache, or becomes the most recently used; a full cache evicts the least recently used unpinned
page, which is written back first where it is dirty (R174). -/
def mapTouch (s : State) (page : Nat) : State :=
  let x := s.xlat
  let l := x.cached.filter (· != page)
  let cold := x.cold.filter (· != page)
  match (if (l.length + 1) * 4096 > v s K.mapCacheBytes then l.find? (fun q => !pagePinned s q) else none) with
  | some q => { s with xlat := { x with cached := l.filter (· != q) ++ [page], cold := cold ++ [q], dirty := x.dirty.filter (· != q) } }
  | none => { s with xlat := { x with cached := l ++ [page], cold := cold } }

/-- A map change: into the page where it is cached, else into the delta journal (R174). -/
def mapChanged (s : State) (page : Nat) : State :=
  if s.xlat.cold.contains page then
    (if s.xlat.journal.contains page then s else { s with xlat := { s.xlat with journal := s.xlat.journal ++ [page] } })
  else
    let s := mapTouch s page
    if s.xlat.dirty.contains page then s else { s with xlat := { s.xlat with dirty := s.xlat.dirty ++ [page] } }

end Sys2Proof.Machine
end

