-- ==== Sys2Proof/Machine/Frames.lean ====
section
/-! DEFINITION. Machine/Frames.lean: "Compression and Verified Frames": open units, frames and their close, compressors
out of service; the contents of logical blocks; the mirror's sending side. -/
namespace Sys2Proof.Machine
open Sys2Proof

-- ===== contents of logical blocks =====

/-- Store a block's contents; a block of zeros is not listed. -/
def storeBlock (s : State) (nsid lba : Nat) (b : Block) : State :=
  let k := lkey nsid lba
  { s with
    blocks := if b.data = 0 then s.blocks.del k else s.blocks.put k b.data
    pis := match b.pi with
      | some t => s.pis.put k t
      | none => s.pis.del k }

/-- The data of a logical block. -/
def blockData (s : State) (nsid lba : Nat) : Nat := s.blocks.getD (lkey nsid lba) 0

/-- Forget the contents of a range. -/
def clearBlocks (s : State) (nsid lba nlb : Nat) : State :=
  let out (k : Nat) := !(k / 2 ^ 64 == nsid && lba ≤ k % 2 ^ 64 && k % 2 ^ 64 < lba + nlb)
  { s with blocks := s.blocks.keep (fun k _ => out k), pis := s.pis.keep (fun k _ => out k) }

/-- The ANA state of a namespace's group: 0 Optimized, 1 Inaccessible, 2 Change (R337). -/
def anaState (s : State) (n : Ns) : Nat :=
  if s.pair.enabled then (if n.half = 0 then s.pair.ana1 else s.pair.ana2) else 0

-- ===== compressors (R209) =====

/-- A verify mismatch is charged to a compressor; its second takes it out of service (R209). -/
def compressorCharge (s : State) (n : Nat) : State :=
  let m := s.comp.mismatches.getD n 0 + 1
  let s := { s with comp := { s.comp with mismatches := s.comp.mismatches.put n m } }
  if m = 2 ∧ bitAt (v s K.compressorsInService) n then
    let s := setV s K.compressorsInService (withBit (v s K.compressorsInService) n false)
    let s := setV s K.capCompress (v s K.capCompress - 4)
    let s := eventU s Ev.compressorOut n [n]
    if v s K.compressorsInService = 0 then
      event (aenPfs { s with xlat := { s.xlat with readOnlyComp := true } } .readOnlyMedia) Ev.compressorsNone []
    else s
  else s

-- ===== units and frames (R195 to R206) =====

/-- The CRC-32C of a byte string continued from that of its start. -/
def crcExtend (c : Nat) (bs : Bytes) : Nat :=
  bs.foldl (fun c b => crcRightByte 0x82F63B78 c b.toNat) (c ^^^ 0xFFFFFFFF) ^^^ 0xFFFFFFFF

/-- STORED_LENGTH of a stored frame of `len` bytes (R205). -/
def storedLength (len : Nat) : Nat := 16 + len + 5 * ceilDiv len 32768

/-- L of a STORED_LENGTH (R195). -/
def frameBytes (n : Nat) : Nat := 256 * ceilDiv n 256

/-- How a frame of `len` bytes closes (R205): its kind (0 compressed, 1 stored, 2 raw) and the bytes L it occupies. `sc` is
the STORED_LENGTH of the compressed frame. -/
def frameChoice (raw : Bool) (len sc : Nat) : Nat × Nat :=
  if raw then (if frameBytes sc < len then (0, frameBytes sc) else (2, len))
  else if sc ≤ storedLength len then (0, frameBytes sc) else (1, frameBytes (storedLength len))

/-- Count a frame that closes, and its cut. -/
def countFrame (s : State) (kind len stored cause : Nat) : State :=
  let s := bump64 s K.framesClosed
  let s := if kind = 1 then bump64 s K.framesStored else if kind = 2 then bump64 s K.framesRaw else s
  let s := bump (bump s K.logicalBytesIn 64 len) K.storedBytesOut 64 stored
  if cause = 0 then s else bump64 s (unitKey K.cutCount (cause - 1))

/-- A write of the namespace that is still in flight holds block `lba`. -/
def inFlightWrite (s : State) (nsid lba : Nat) : Bool :=
  s.flights.any (fun f => f.nsid == nsid && isWriteOp f.opcode && f.slba ≤ lba && lba < f.slba + f.nlb)

/-- FRAME_CLOSE (R198): the zone's open unit becomes a frame at the end of its physical log; STORED_z grows by L, the
reservations of the writes whose last byte it holds are released (R157), and the frame enters the write buffer. -/
def closeUnit (s : State) (zk cause : Nat) : State :=
  let z := zoneAt s zk
  match z.unit, nsOf s (zk / 2 ^ 32) with
  | some u, some n =>
    if u.bytes = 0 then modZone s zk (fun z => { z with unit := none })
    else
      let d := coveDesc s z.cove
      let (kind, len) := frameChoice (Cd.raw d) u.bytes u.staged
      let f : Frame := { start := u.start, len := u.bytes, kind := kind, stored := len, dataCrc := u.dataCrc, log := z.logEnd,
                         compressor := u.compressor, effort := u.effort, cause := cause }
      let s := allocTo 64 s zk (z.logEnd + len - 1)
      let upto := u.start + u.bytes
      let s := modZone s zk (fun z => { z with frames := z.frames ++ [f], stored := z.stored + len, logEnd := z.logEnd + len, unit := none,
                                               rsv := z.rsv.filter (fun r => upto < r.2.2) })
      let lba := (zk % 2 ^ 32) * zoneBlocks s n + u.start / n.blk
      let s := wbAdd s { nsid := zk / 2 ^ 32, lba := lba, nlb := u.bytes / n.blk, bytes := len, seq := 0,
                         locs := logPages s zk (zoneAt s zk) f.log len, acked := !inFlightWrite s (zk / 2 ^ 32) lba, replay := false,
                         logged := false }
      let s := mapChanged (countFrame s kind u.bytes len cause) (mapPageOf s (zk / 2 ^ 32) n lba)
      capCheck s
  | _, _ => s

/-- One piece joins its unit, which opens where none is open (R198, R201): its bytes are staged, the running DATA_CRC is
extended, and `sc` is the STORED_LENGTH the unit would have if it closed now. -/
def addPiece (s : State) (zk start : Nat) (bs : Bytes) (sc compressor gen : Nat) : State :=
  modZone s zk (fun z =>
    let u := match z.unit with
      | some u => u
      | none => { start := start, bytes := 0, staged := 0, dataCrc := 0, compressor := compressor,
                  effort := Cd.effort (coveDescG s gen z.cove), lastPieceNs := 0, stalled := false, gen := gen }
    let u := if u.bytes = 0 then { u with start := start, effort := Cd.effort (coveDescG s gen z.cove), gen := gen } else u
    { z with unit := some { u with bytes := u.bytes + bs.length, staged := sc, dataCrc := crcExtend u.dataCrc bs,
                                   compressor := compressor, lastPieceNs := s.clk.nowNs, stalled := false } })

/-- CUT: close the open units of zones a test selects. [DEDUCED, log entry 84] -/
def cutUnits (s : State) (cause : Nat) (sel : Nat → Zone → Bool) : State :=
  (s.zones.filter (fun p => p.2.unit.isSome && sel p.1 p.2)).foldl (fun s p => closeUnit s p.1 cause) s

/-- Discard a zone's open unit and its staging (R200). -/
def dropUnit (s : State) (zk : Nat) : State := modZone s zk (fun z => { z with unit := none })

-- ===== map entries as the service window shows them (R170) =====

/-- The compressed-unit map entry of slot `i` of a zone: START, RAW, SPAN, FILL, STATE. -/
def unitMapEntry (s : State) (nsid zone : Nat) (n : Ns) (i : Nat) : Nat :=
  let z := zoneAt s (zkey nsid zone)
  let fs := z.frames.filter (fun f => f.start / 65536 == i)
  let sub (f : Frame) : Nat := f.start % 65536 / 4096
  let start := sumNat (fs.map (fun f => 2 ^ sub f))
  let raw := sumNat (fs.map (fun f => if f.kind = 2 then 2 ^ sub f else 0))
  let lost := fs.any (fun f => (frameLbas s n zone f).any (poisoned s nsid))
  start * 2 ^ 32 + raw * 2 ^ 16 + sumNat (fs.map (fun f => f.stored / 256)) * 2 ^ 7 + sumNat (fs.map (fun f => f.len / 4096)) * 2 ^ 2
    + (if fs.isEmpty then 0 else if lost then 2 else 1)

/-- The page map entry of 4 KiB page `j` of logical block `lba`; DIE is the index in the Cove's die order (R142). -/
def pageMapEntry (s : State) (nsid : Nat) (n : Ns) (lba j : Nat) : Nat :=
  if s.xlat.uncor.has (lkey nsid lba) then 3 * 2 ^ 46
  else match s.xlat.pmap.get? (lkey nsid lba) with
    | some q => (if poisoned s nsid lba then 2 else 1) * 2 ^ 46 + (Cd.dies (coveDesc s n.firstCove)).idxOf q.die * 2 ^ 35 + q.block * 2 ^ 20 + (q.slot + j) * 2 ^ 4
    | none => if poisoned s nsid lba then 2 * 2 ^ 46 else 0

/-- SYNC to HEADER_CHECK of a frame that is not raw (R194). -/
def frameHeader (n : Ns) (zsl : Nat) (f : Frame) (storedLen : Nat) : Bytes :=
  let slot := (zsl * n.blk + f.start) / 65536
  let flags := (if f.kind = 1 then 0x80 else if f.effort ≥ 2 then 0x40 else 0) + f.cause * 8 + f.effort * 2
  let h := leBytes 1 0xB7 ++ leBytes 1 flags ++ leBytes 1 (f.len / 4096) ++ leBytes 1 (f.start % 65536 / 4096) ++ leBytes 4 storedLen
    ++ leBytes 4 f.dataCrc ++ leBytes 2 (slot % 65536)
  h ++ leBytes 2 (h.foldl (fun c b => crcLeftByte 16 0x8BB7 c b.toNat) 0)

end Sys2Proof.Machine
end

