-- ==== Sys2Proof/Machine/Queues.lean ====
section
/-! DEFINITION. Machine/Queues.lean: "Queues, Arbitration and Command Semantics": doorbells, queue contexts, fetch
arbitration, admission to the pools, queue commands and the features kept per function. -/
namespace Sys2Proof.Machine
open Sys2Proof

-- ===== queues =====

/-- A function holds submission queue `qid`. -/
def sqOf (s : State) (fn qid : Nat) : Option Sq := s.sqs.get? (qkey fn qid)

/-- SQ_TAIL_DOORBELL (R77, R112): the value lands in the doorbell store. -/
def sqTail (s : State) (fn qid value : Nat) : State :=
  match sqOf s fn qid with
  | none => aen s fn .invalidDoorbellRegister
  | some q =>
    if value ≥ q.size then aen s fn .invalidDoorbellValue
    else { s with sqs := s.sqs.put (qkey fn qid) { q with tail := value } }

/-- Post the completions a queue holds while it has room (R113). -/
def postHeld : Nat → State → Nat → Nat → State
  | 0, s, _, _ => s
  | n + 1, s, fn, qid =>
    let c := cqOf s fn qid
    match c.held with
    | e :: r =>
      if c.full then s
      else postHeld n (postCqe { s with cqs := s.cqs.put (qkey fn qid) { c with held := [] } } fn qid e |>
        (fun s => { s with cqs := s.cqs.upd (qkey fn qid) (fun c => { c with held := r }) })) fn qid
    | [] => s

/-- CQ_HEAD_DOORBELL: the host has freed the entries up to the new head. -/
def cqHead (s : State) (fn qid value : Nat) : State :=
  match s.cqs.get? (qkey fn qid) with
  | none => aen s fn .invalidDoorbellRegister
  | some c =>
    if value ≥ c.size then aen s fn .invalidDoorbellValue
    else
      let head := (c.tail + c.size - c.posted.length) % c.size
      let n := (value + c.size - head) % c.size
      postHeld c.size { s with cqs := s.cqs.put (qkey fn qid) { c with posted := c.posted.drop n } } fn qid

def execCqHeadDoorbell (fn qid value : Nat) (s : State) : Host.Outcome State Fault Refusal := .next (cqHead s fn qid value)

/-- INTERRUPT_AGGREGATION_TIME: the pending completion interrupt is sent. -/
def execInterruptAggregationTime (fn cqid : Nat) (s : State) : Host.Outcome State Fault Refusal :=
  let c := cqOf s fn cqid
  .next (if c.aggregated > 0 && c.ien then msixSend { s with cqs := s.cqs.put (qkey fn cqid) { c with aggregated := 0 } } fn c.vector else s)

-- ===== pools (R98, R118, R119) =====

/-- Data block size of a namespace. [DEDUCED, log entry 17] -/
def nsBlk (s : State) (nsid : Nat) : Nat := (s.nss.get? nsid).elim 4096 (fun n => if n.lbaf < 4 then 4096 else 16384)

/-- The units a command takes from the five pools before it runs: buffers (4 KiB), write buffer (64 KiB), decode slots,
compressor slots, queue contexts. The manual gives the units and not the numbers each command takes. [DEDUCED, log entry 17] -/
def poolNeed (s : State) (e : SqEntry) : List Nat :=
  let bytes := e.nlb * nsBlk s e.nsid
  if e.opcode = 0x01 ∨ e.opcode = 0x7D then [ceilDiv bytes 4096, ceilDiv bytes 65536, 0, 1, 1]
  else if e.opcode = 0x08 then [0, ceilDiv bytes 65536, 0, 1, 1]
  else if isReadOp e.opcode then [ceilDiv bytes 4096, 0, 1, 0, 1]
  else [0, 0, 0, 0, 1]

/-- Units of pool `p` (1 to 5) that the commands a test selects hold. -/
def heldBy (s : State) (p : Nat) (sel : Flight → Bool) : Nat :=
  sumNat ((s.flights.filter sel).map (fun f => f.pools.getD (p - 1) 0))

/-- Units of pool `p` that are held. -/
def heldAll (s : State) (p : Nat) : Nat := heldBy s p (fun _ => true) + s.eng.background.getD (p - 1) 0

/-- Reserved units of pool `p` that their owners do not use: of the other instances' floors, of the urgent class (but
for an urgent command) and of background work. -/
def unmet (s : State) (p fn : Nat) (urgent : Bool) : Nat :=
  let c := poolCap s p
  sumNat ((committed s).map (fun n => if n = fn then 0 else floorUnits (vi s K.floor n) c - heldBy s p (fun f => f.fn == n && !f.urgent)))
    + (if urgent then 0 else floorUnits (v s K.urgentFloor) c - heldBy s p Flight.urgent)
    + (floorUnits (v s K.bgReserve) c - s.eng.background.getD (p - 1) 0)

/-- `k` units of pool `p` can be given to a command of function `fn` now. -/
def poolFits (s : State) (fn : Nat) (urgent : Bool) (p k : Nat) : Bool :=
  k = 0 || heldAll s p + unmet s p fn urgent + k ≤ poolCap s p

/-- Every pool can give what a command needs. -/
def allFit (s : State) (fn : Nat) (urgent : Bool) (need : List Nat) : Bool :=
  (List.range 5).all (fun i => poolFits s fn urgent (i + 1) (need.getD i 0))

/-- Commands of an instance that wait for pool units. -/
def waitingCount (s : State) (fn : Nat) : Nat := (s.flights.filter (fun f => f.fn == fn && f.stage == .admission)).length

/-- What a waiting command needs. -/
def Flight.need (s : State) (f : Flight) : List Nat := poolNeed s ⟨f.cid, f.opcode, f.nsid, f.slba, f.nlb, f.fuse, f.ordered⟩

/-- The waiting command a freed unit of pool `p` is granted to (R119). [DESIGN CHOICE, log entry 18] -/
def nextWaiter (s : State) (p : Nat) : Option Flight :=
  let w := s.flights.filter (fun f => f.stage == .admission && (f.need s).getD (p - 1) 0 > 0)
  let c := poolCap s p
  let urg := w.filter (fun f => f.urgent && heldBy s p Flight.urgent < floorUnits (v s K.urgentFloor) c)
  let flo := w.filter (fun f => heldBy s p (fun g => g.fn == f.fn) < floorUnits (vi s K.floor f.fn) c)
  match urg, flo with
  | f :: _, _ => some f
  | [], f :: _ => some f
  | [], [] => w.foldl (fun best f => match best with
      | none => some f
      | some b =>
        if heldBy s p (fun g => g.fn == f.fn) * vi s K.share b.fn < heldBy s p (fun g => g.fn == b.fn) * vi s K.share f.fn then some f
        else best) none

/-- POOL_UNIT_FREED: the first waiting command in the order of R119 is admitted once every pool can give what it needs;
a compressor that stalled for an output buffer resumes (R210). [DESIGN CHOICE, log entry 18] -/
def poolUnitFreed (s : State) (p : Nat) : State :=
  let resume := if p = 1 then
      (s.zones.firstWith (fun _ z => z.unit.any OpenUnit.stalled)).map Prod.fst
    else none
  match resume with
  | some k => { s with zones := s.zones.upd k (fun z => { z with unit := z.unit.map (fun u => { u with stalled := false }) }) }
  | none =>
    match nextWaiter s p with
    | some f =>
      if allFit s f.fn f.urgent (f.need s) then modFlight s f.seq (fun x => { x with stage := .fetched, pools := f.need s }) else s
    | none => s

-- ===== arbitration (R114 to R117) =====

/-- CC.AMS selects Weighted Round Robin with Urgent Priority Class (bits 13:11, as NVMe places them). [DESIGN CHOICE, log entry 16] -/
def wrr (s : State) (fn : Nat) : Bool := fld (inst s fn).cc 13 11 == 1

/-- A function's class of a queue: 0 urgent, 1 high, 2 medium, 3 low; one class under Round Robin (R114). -/
def classOf (s : State) (fn : Nat) (q : Sq) : Nat := if wrr s fn then q.prio % 4 else 1

/-- A function may be fetched from at all; a sleep entry stops every fetch (R348), and so does thermal hold (R368). -/
def fnFetchable (s : State) (fn : Nat) : Bool :=
  let i := inst s fn
  bitAt i.cc 0 && i.rdy && !i.reclaiming && s.power.entry.isNone && s.power.state < 2 && s.thermal.state != 4 && waitingCount s fn < v s K.waitLimit

/-- A submission queue holds an entry that may be fetched (R113, R105, R117). -/
def sqFetchable (s : State) (fn qid : Nat) (q : Sq) : Bool :=
  q.head != q.tail && (cqOf s fn q.cqid).held.isEmpty
    && (sliceOf s fn qid = 0 || (inst s fn).pasidEnable)
    && !s.eng.filling.any (fun x => x.1 == qkey fn qid)

/-- The fetchable queues of a function: identifier and class. -/
def fetchable (s : State) (fn : Nat) : List (Nat × Nat) :=
  if fnFetchable s fn then
    ((s.sqs.filter (fun p => p.1 / 8192 == fn && sqFetchable s fn (p.1 % 8192) p.2)).map (fun p => (p.1 % 8192, classOf s fn p.2)))
  else []

/-- Arbitration Burst of a function: 2^AB commands, 111b no limit, for which 64 is applied (R116). -/
def burst (s : State) (fn : Nat) : Nat := let ab := (inst s fn).ab % 8; if ab = 7 then 64 else 2 ^ ab

/-- Next in round robin: the first element above `last`, else the first. -/
def nextRr (l : List Nat) (last : Nat) : Option Nat :=
  match l.find? (fun x => last < x) with
  | some x => some x
  | none => l.head?

/-- The instances with a controller, rising. -/
def fetchers (s : State) : List Nat := (s.sqs.keys.map (· / 8192)).eraseDups

/-- The urgent cap leaves room for one more urgent grant in this tide (R115). -/
def urgentRoom (s : State) : Bool :=
  s.eng.urgentGrants < v s K.urgentCap * Nat.max (25 * v s K.tideLength) s.eng.grants / 4096

/-- The choice of an urgent grant: instance and queue. A visit takes up to the burst from one queue. -/
def pickUrgent (s : State) : Option (Nat × Nat) :=
  let cands := (fetchers s).filter (fun fn => (fetchable s fn).any (fun q => q.2 == 0))
  let queues (fn : Nat) := ((fetchable s fn).filter (fun q => q.2 == 0)).map Prod.fst
  let same := s.eng.lastUrgent
  if s.eng.urgentLeft > 0 && cands.contains same && (queues same).contains ((inst s same).lastQ.getD 0 0) then
    some (same, (inst s same).lastQ.getD 0 0)
  else match nextRr cands same with
    | some fn => (nextRr (queues fn) ((inst s fn).lastQ.getD 0 0)).map (fun q => (fn, q))
    | none => none

/-- The instance a normal-class grant goes to: the one with the fewest grants for its SHARE, lowest number on a tie (R97). [DESIGN CHOICE, log entry 16] -/
def pickInstance (s : State) : Option Nat :=
  let cands := (fetchers s).filter (fun fn => !(fetchable s fn).isEmpty)
  cands.foldl (fun best fn => match best with
    | none => some fn
    | some b => if (inst s fn).served * vi s K.share b < (inst s b).served * vi s K.share fn then some fn else best) none

/-- Weight of class 1 high, 2 medium, 3 low of a function: the feature's weight plus 1 (R116). -/
def classWeight (s : State) (fn c : Nat) : Nat :=
  let i := inst s fn
  (if c = 1 then i.hpw else if c = 2 then i.mpw else i.lpw) + 1

/-- The queue a function's normal-class grant goes to, and its class: the admin queue first; else the class with the
fewest grants for its weight; within it round robin by bursts. An urgent queue whose cap is spent counts as high. [DESIGN CHOICE, log entry 16] -/
def pickQueue (s : State) (fn : Nat) : Option (Nat × Nat) :=
  let f := (fetchable s fn).map (fun q => (q.1, if q.2 = 0 then 1 else q.2))
  if f.any (fun q => q.1 == 0) then some (0, 0)
  else
    let served (c : Nat) := (inst s fn).classServed.getD (c - 1) 0
    let cls := ([1, 2, 3].filter (fun c => f.any (fun q => q.2 == c))).foldl (fun best c => match best with
      | none => some c
      | some b => if served c * classWeight s fn b < served b * classWeight s fn c then some c else best) none
    match cls with
    | none => none
    | some c =>
      let qs := (f.filter (fun q => q.2 == c)).map Prod.fst
      let last := (inst s fn).lastQ.getD c 0
      if (inst s fn).burstLeft > 0 && qs.contains last then some (last, c) else (nextRr qs last).map (fun q => (q, c))

/-- A command is fetched: it takes the next fetch sequence number and the generation in force (R33, R35), and the pool
units it needs, or waits for them (R118). [DESIGN CHOICE, log entry 21] -/
def fetchNow (s : State) (fn qid : Nat) (urgent : Bool) (e : SqEntry) : State :=
  let need := poolNeed s e
  let fit := allFit s fn urgent need
  let f : Flight :=
    { fn := fn, sqid := qid, cid := e.cid, cqid := cqidOf s fn qid, seq := s.eng.nextSeq, gen := s.genNow, opcode := e.opcode,
      nsid := e.nsid, urgent := urgent, fuse := e.fuse, ordered := e.ordered, slba := e.slba, nlb := e.nlb,
      stage := if fit then .fetched else .admission, fetchNs := s.clk.nowNs,
      pools := if fit then need else [0, 0, 0, 0, 0], blocks := [], clears := [], mapWaits := [],
      waits := [], frameWaits := [], flushZones := [], compareWith := [], pi := ⟨false, false, false, false, 0, 0, 0⟩, status := .success,
      mirrorSeq := 0, throughWait := false, tag := keyTag s fn qid, admitted := false, excused := false, bounded := false,
      cove := 0, fua := false, admitNs := 0, laddered := false,
      nsOk := (s.nss.get? e.nsid).elim false (fun n => n.attached.contains fn && !n.deleting), failed := [], counted := [] }
  let short := (List.range 5).filter (fun i => !poolFits s fn urgent (i + 1) (need.getD i 0))
  let s1 := short.foldl (fun s i => bump32 s (instKey (unitKey K.admitWait i) fn)) s
  let s2 := traceItem s1 0x10 0x01 fn [qid % 65536 * 65536 + e.cid % 65536, e.opcode % 256 * 2 ^ 24 + e.nsid % 2 ^ 24, s.eng.nextSeq % 2 ^ 32]
  { s2 with flights := s2.flights ++ [f], eng := { s2.eng with nextSeq := s2.eng.nextSeq + 1, lastFetchNs := s2.clk.nowNs } }

/-- The head of a submission queue moves past the entry fetched. -/
def sqAdvance (s : State) (fn qid : Nat) : State :=
  { s with sqs := s.sqs.upd (qkey fn qid) (fun q => { q with head := if q.head + 1 ≥ q.size then 0 else q.head + 1 }) }

/-- A context is used: it becomes the most recently used. -/
def touchCtx (s : State) (k : Nat) : State :=
  { s with eng := { s.eng with qctx := s.eng.qctx.filter (· != k) ++ [k] } }

/-- The context to evict for function `fn`: the least recently used that is not pinned and whose instance holds more
than its floor of CAP_QCTX, or is the instance that missed (R111). -/
def evictCtx (s : State) (fn : Nat) : Option Nat :=
  s.eng.qctx.find? (fun k =>
    !s.flights.any (fun f => qkey f.fn f.sqid == k) &&
    (k / 8192 == fn || (s.eng.qctx.filter (fun x => x / 8192 == k / 8192)).length > floorUnits (vi s K.floor (k / 8192)) (v s K.capQctx)))

/-- The entry at the head of a submission queue is taken: a command aborted while it stood there has completed already, and is dropped
(R134); any other is fetched. [DEDUCED, log entry 125] -/
def takeEntry (s : State) (fn qid : Nat) (urgent : Bool) (e : SqEntry) : State :=
  let s := sqAdvance (touchCtx s (qkey fn qid)) fn qid
  if s.eng.aborted.contains (qkey fn qid, e.cid) then
    { s with eng := { s.eng with aborted := s.eng.aborted.filter (· != (qkey fn qid, e.cid)) } }
  else fetchNow s fn qid urgent e

/-- QCTX_FILL (R111): the context enters the cache and the fetch that needed it proceeds. -/
def qctxFill (s : State) (fn sqid : Nat) : State :=
  match s.eng.filling.find? (fun x => x.1 == qkey fn sqid) with
  | none => s
  | some (k, e, urgent) =>
    let s := { s with eng := { s.eng with filling := s.eng.filling.filter (fun x => x.1 != k) } }
    let s := if s.eng.qctx.length ≥ v s K.capQctx then (match evictCtx s fn with
        | some y => { s with eng := { s.eng with qctx := s.eng.qctx.filter (· != y) } }
        | none => s) else s
    takeEntry s fn sqid urgent e

def execQctxFill (fn sqid : Nat) (s : State) : Host.Outcome State Fault Refusal := .next (qctxFill s fn sqid)

/-- Grant a fetch from queue `qid`: at once where its context is cached, else once the fill completes. -/
def grant (s : State) (fn qid : Nat) (urgent : Bool) (e : SqEntry) : State :=
  let s := bump64 { s with eng := { s.eng with grants := s.eng.grants + 1, urgentGrants := s.eng.urgentGrants + (if urgent then 1 else 0) } } K.fetchGrants
  let k := qkey fn qid
  if s.eng.qctx.contains k then takeEntry s fn qid urgent e
  else bump64 { s with eng := { s.eng with filling := s.eng.filling ++ [(k, e, urgent)] } } K.qctxMisses

/-- One fetch grant by arbitration (R115, R116); nothing happens while no queue may be fetched. -/
def arbitrate (s : State) (e : SqEntry) : State :=
  let room := urgentRoom s
  match (if room then pickUrgent s else none) with
  | some (fn, q) =>
    let cont := s.eng.urgentLeft > 0 ∧ s.eng.lastUrgent = fn ∧ (inst s fn).lastQ.getD 0 0 = q
    let s := { s with eng := { s.eng with lastUrgent := fn, urgentLeft := if cont then s.eng.urgentLeft - 1 else burst s fn - 1 } }
    let s := modInst s fn (fun i => { i with lastQ := setNth i.lastQ 0 q })
    grant s fn q true e
  | none =>
    match pickInstance s with
    | none => s
    | some fn =>
      match pickQueue s fn with
      | none => s
      | some (q, c) =>
        let demoted := c = 1 ∧ (sqOf s fn q).any (fun x => classOf s fn x == 0)
        let cont := (inst s fn).burstLeft > 0 ∧ (inst s fn).lastQ.getD c 0 = q
        let s := if demoted then bump32 s (instKey K.urgentDemoted fn) else s
        let s := modInst s fn (fun i => { i with
          served := i.served + 1
          lastQ := if c = 0 then i.lastQ else setNth i.lastQ c q
          classServed := if c = 0 then i.classServed else modNth i.classServed (c - 1) (· + 1)
          burstLeft := if c = 0 then i.burstLeft else if cont then i.burstLeft - 1 else burst s fn - 1 })
        grant s fn q false e

-- ===== queue commands (R110, R121, R124) =====

/-- A command of the table is not for VFs. -/
def pfOnly (s : State) (c : Cmd) : Bool := !isPf s c.fn

/-- DELETE_IO_SUBMISSION_QUEUE: the commands not yet fetched complete with Command Aborted due to SQ Deletion. -/
def deleteSq (s : State) (c : Cmd) (qid : Nat) (unfetched : List Nat) : State :=
  match (if qid = 0 then none else sqOf s c.fn qid) with
  | none => complete s c .invalidQueueId 0
  | some q =>
    if c.resv then complete s c .invalidField 0
    else
      let n := (q.tail + q.size - q.head) % q.size
      let s := ((unfetched.take n).filter (fun cid => !s.eng.aborted.contains (qkey c.fn qid, cid))).foldl (fun s cid => postCqe s c.fn q.cqid ⟨qid, cid, .abortedSqDeletion, 0, 0, 0⟩) s
      let s := { s with
        sqs := s.sqs.del (qkey c.fn qid)
        eng := { s.eng with qctx := s.eng.qctx.filter (· != qkey c.fn qid), filling := s.eng.filling.filter (fun x => x.1 != qkey c.fn qid)
                            aborted := s.eng.aborted.filter (fun x => x.1 != qkey c.fn qid) } }
      complete s c .success 0

def execDeleteIoSubmissionQueue (c : Cmd) (qid : Nat) (unfetched : List Nat) (s : State) : Host.Outcome State Fault Refusal :=
  .next (deleteSq s c qid unfetched)

/-- The status of a Create I/O Submission Queue (R110, R104, R124). -/
def createSqStatus (s : State) (c : Cmd) (qid qsize cqid : Nat) (pc : Bool) : NvStatus :=
  if c.resv then .invalidField
  else if qid = 0 ∨ qid > queuePairs s c.fn ∨ (sqOf s c.fn qid).isSome then .invalidQueueId
  else if qsize = 0 ∨ qsize > 0xFFFF then .invalidQueueSize
  else if !pc then .invalidField
  else if cqid = 0 ∨ !s.cqs.has (qkey c.fn cqid) ∨ sliceOf s c.fn cqid ≠ sliceOf s c.fn qid then .cqInvalid
  else .success

/-- CREATE_IO_SUBMISSION_QUEUE. -/
def createSq (s : State) (c : Cmd) (qid qsize cqid qprio : Nat) (pc : Bool) : State :=
  let st := createSqStatus s c qid qsize cqid pc
  let s := if st.isOk then { s with sqs := s.sqs.put (qkey c.fn qid) ⟨cqid, qsize + 1, 0, 0, qprio % 4⟩ } else s
  complete s c st 0

def execCreateIoSubmissionQueue (c : Cmd) (qid qsize cqid qprio : Nat) (pc : Bool) (s : State) : Host.Outcome State Fault Refusal :=
  .next (createSq s c qid qsize cqid qprio pc)

/-- DELETE_IO_COMPLETION_QUEUE: refused while a submission queue is bound to it. -/
def deleteCq (s : State) (c : Cmd) (qid : Nat) : State :=
  if c.resv then complete s c .invalidField 0
  else if qid = 0 ∨ !s.cqs.has (qkey c.fn qid) then complete s c .invalidQueueId 0
  else if s.sqs.any (fun p => p.1 / 8192 == c.fn && p.2.cqid == qid) then complete s c .invalidQueueDeletion 0
  else complete { s with cqs := s.cqs.del (qkey c.fn qid) } c .success 0

def execDeleteIoCompletionQueue (c : Cmd) (qid : Nat) (s : State) : Host.Outcome State Fault Refusal := .next (deleteCq s c qid)

/-- The status of a Create I/O Completion Queue (R110, R124). -/
def createCqStatus (s : State) (c : Cmd) (qid qsize vector : Nat) (pc : Bool) : NvStatus :=
  if c.resv then .invalidField
  else if qid = 0 ∨ qid > queuePairs s c.fn ∨ s.cqs.has (qkey c.fn qid) then .invalidQueueId
  else if qsize = 0 ∨ qsize > 0xFFFF then .invalidQueueSize
  else if vector > 2047 then .invalidVector
  else if !pc then .invalidField
  else .success

/-- CREATE_IO_COMPLETION_QUEUE. -/
def createCq (s : State) (c : Cmd) (qid qsize vector : Nat) (pc ien : Bool) : State :=
  let st := createCqStatus s c qid qsize vector pc
  let cq : Cq := { Cq.fresh with size := qsize + 1, vector := vector, ien := ien }
  let s := if st.isOk then { s with cqs := s.cqs.put (qkey c.fn qid) cq } else s
  complete s c st 0

def execCreateIoCompletionQueue (c : Cmd) (qid qsize vector : Nat) (pc ien : Bool) (s : State) : Host.Outcome State Fault Refusal :=
  .next (createCq s c qid qsize vector pc ien)

-- ===== features kept per function, asynchronous event requests (R121) =====

/-- Complete a Set Features command that only changes its function. -/
def setFeature (s : State) (c : Cmd) (f : Inst → Inst) : State :=
  if c.resv then complete s c .invalidField 0 else complete (modInst s c.fn f) c .success 0

/-- SET_ARBITRATION (R116): staged for the next boundary; the completion arrives before it. -/
def setArbitration (s : State) (c : Cmd) (ab lpw mpw hpw : Nat) : State :=
  let t := applyTide s
  if c.resv then complete s c .invalidField 0
  else if !canStage s t then complete s c .commandInterrupted 0
  else complete (stageAt s t (.arbitration c.fn (ab % 8) (lpw % 256) (mpw % 256) (hpw % 256))) c .success 0

def execSetArbitration (c : Cmd) (ab lpw mpw hpw : Nat) (s : State) : Host.Outcome State Fault Refusal :=
  .next (setArbitration s c ab lpw mpw hpw)

/-- SET_NUMBER_OF_QUEUES (R96): reports QUEUE_PAIRS less 1 for both kinds, whatever is asked. -/
def numberOfQueues (s : State) (fn : Nat) : Nat := let q := queuePairs s fn - 1; q + q * 65536

def execSetNumberOfQueues (c : Cmd) (_ncqr _nsqr : Nat) (s : State) : Host.Outcome State Fault Refusal :=
  .next (if c.resv then complete s c .invalidField 0 else complete s c .success (numberOfQueues s c.fn))

def execSetInterruptCoalescing (c : Cmd) (time thr : Nat) (s : State) : Host.Outcome State Fault Refusal :=
  .next (setFeature s c (fun i => { i with icTime := time % 256, icThr := thr % 256 }))

/-- SET_INTERRUPT_VECTOR_CONFIGURATION: a vector outside the function's 2,048 is an invalid field. -/
def setVectorConfig (s : State) (c : Cmd) (vector : Nat) (cd : Bool) : State :=
  if vector > 2047 then complete s c .invalidField 0
  else setFeature s c (fun i => { i with ivDisabled := if cd then vector :: i.ivDisabled.filter (· != vector) else i.ivDisabled.filter (· != vector) })

def execSetInterruptVectorConfiguration (c : Cmd) (vector : Nat) (cd : Bool) (s : State) : Host.Outcome State Fault Refusal :=
  .next (setVectorConfig s c vector cd)

def execSetAsyncEventConfiguration (c : Cmd) (bits : Nat) (s : State) : Host.Outcome State Fault Refusal :=
  .next (setFeature s c (fun i => { i with aecBits := bits % 2 ^ 32 }))

def execSetHostBehaviorSupport (c : Cmd) (acre : Bool) (s : State) : Host.Outcome State Fault Refusal :=
  .next (setFeature s c (fun i => { i with acre := acre }))

/-- ASYNCHRONOUS_EVENT_REQUEST: held until an event is posted; AERL 15, so 16 may be outstanding. -/
def asyncEventRequest (s : State) (c : Cmd) : State :=
  if c.resv then complete s c .invalidField 0
  else if (inst s c.fn).aers.length ≥ 16 then complete s c .aerLimit 0
  else carryAens 16 (modInst s c.fn (fun i => { i with aers := i.aers ++ [c.cid] })) c.fn

def execAsynchronousEventRequest (c : Cmd) (s : State) : Host.Outcome State Fault Refusal := .next (asyncEventRequest s c)

end Sys2Proof.Machine
end

