-- ==== Sys2Proof/Machine/Zones.lean ====
section
/-! DEFINITION. Machine/Zones.lean: "Zones, Coves and Placement": the check order of commands that open or write zones,
zone actions and their effects, device-made transitions, the Cove directive. -/
namespace Sys2Proof.Machine
open Sys2Proof

-- ===== what a command on a namespace meets first =====

/-- The flight of a command: where the command has not been fetched by an earlier step it is fetched now, its pool units
granted (log entry 21). -/
def ensure (s : State) (c : Cmd) (opcode slba nlb : Nat) : State :=
  match flight? s c.fn c.sqid c.cid with
  | some _ => s
  | none =>
    let s := fetchNow s c.fn c.sqid false ⟨c.cid, opcode, c.nsid, slba, nlb, 0, false⟩
    modFlight s (s.eng.nextSeq - 1) (fun f => { f with stage := .fetched })

/-- The flight of a command that `ensure` has run for. -/
def flightOf (s : State) (c : Cmd) : Flight :=
  match flight? s c.fn c.sqid c.cid with
  | some f => f
  | none =>
    { fn := c.fn, sqid := c.sqid, cid := c.cid, cqid := cqidOf s c.fn c.sqid, seq := 0, gen := s.genNow, opcode := 0, nsid := c.nsid,
      urgent := false, fuse := 0, ordered := false, slba := 0, nlb := 0, stage := .fetched, fetchNs := s.clk.nowNs, pools := [],
      blocks := [], clears := [], mapWaits := [], waits := [], frameWaits := [], flushZones := [], compareWith := [],
      pi := ⟨false, false, false, false, 0, 0, 0⟩, status := .success, mirrorSeq := 0, throughWait := false, tag := keyTag s c.fn c.sqid,
      admitted := false, excused := false, bounded := false, cove := 0, fua := false, admitNs := 0, laddered := false,
      nsOk := false, failed := [], counted := [] }

/-- The namespace record a command works with; one that does not exist is met as an empty one. -/
def nsRec (s : State) (nsid : Nat) : Ns :=
  (nsOf s nsid).getD { zoned := false, lbaf := 0, piType := 0, piGuard := 16, nsze := 0, quota := [], attached := [], directive := true,
                       deleting := false, tag := none, half := 0, remote := [], running := none, waitq := [] }

/-- Namespace, kind, reserved fields and ANA group (R124, R122, R14, R337). `zoned`: the kinds that have the command. -/
def ioStatus (s : State) (f : Flight) (resv : Bool) (conv zoned : Bool) : NvStatus :=
  let n := nsRec s f.nsid
  if !f.nsOk || (nsOf s f.nsid).isNone then .invalidNsOrFormat
  else if !(if n.zoned then zoned else conv) then .invalidOpcode
  else if resv then .invalidField
  else if s.boot.sanitizing then .sanitizeInProgress
  else if s.boot.failureMode then .sanitizeFailed
  else if anaState s n = 1 then .asymAccessInaccessible
  else if anaState s n = 2 then .asymAccessTransition
  else .success

/-- Key of the command's slice, and the tag that fixes the data (R106). [DEDUCED, log entry 36] -/
def keyStatus (s : State) (f : Flight) (fixed : Option Nat) : NvStatus :=
  if !keyLoaded s f.tag then .accessDenied
  else match fixed with
    | some t => if t = f.tag then .success else .accessDenied
    | none => .success

/-- The range lies in the namespace (R124). -/
def rangeStatus (s : State) (f : Flight) (slba nlb : Nat) : NvStatus :=
  if slba + nlb > (nsRec s f.nsid).nsze then .lbaOutOfRange else .success

/-- The first status of a list that is not success. -/
def firstBad : List NvStatus → NvStatus
  | [] => .success
  | x :: r => if x.isOk then firstBad r else x

/-- A key tag fixes data for the first time: its key check value is persisted (R106). [DEDUCED, log entry 36] -/
def keyFix (s : State) (tag : Nat) : State :=
  if s.keyChecks.has tag then s
  else match (inst s (tag / 64)).keys.get? (tag % 64) with
    | some k => { s with keyChecks := s.keyChecks.put tag (keyCheck k tag) }
    | none => s

/-- The key check value of a tag that fixes nothing any more is erased (R106). -/
def keyUnfix (s : State) (tag : Option Nat) : State :=
  match tag with
  | some t => if s.zones.any (fun p => p.2.tag == some t) || s.nss.any (fun p => p.2.tag == some t) then s else { s with keyChecks := s.keyChecks.del t }
  | none => s

-- ===== Coves of commands (R101, R147, R148) =====

/-- A Cove lies in the binding of the issuing slice. [DEDUCED, log entry 35] -/
def bound (s : State) (f : Flight) (c : Nat) : Bool := bitAt (coveBinding s f.gen f.fn f.sqid) c

/-- R147: the Cove directive of a Write or Write Zeroes (`dtype` 0 carries none) on namespace `n`; `zoneCove` is the Cove
of a zone that is not Empty, or of a conventional namespace. [DEDUCED, log entry 35] -/
def directiveStatus (s : State) (f : Flight) (n : Ns) (dtype dspec : Nat) (zoneCove : Option Nat) : NvStatus :=
  if dtype = 0 then .success
  else if dtype ≠ 0x0F ∨ !n.directive ∨ dspec ≥ 256 then .invalidField
  else if !n.inCove dspec then .invalidField
  else if zoneCove.any (fun c => c != dspec) then .invalidField
  else if !bound s f dspec then .accessDenied
  else .success

/-- R148: the Cove an Empty zone is opened in, or the status that refuses it. [DEDUCED, log entry 35] -/
def chooseCove (s : State) (f : Flight) (n : Ns) (z : Zone) (dtype dspec : Nat) : Nat × NvStatus :=
  let c := match z.assigned with
    | some c => c
    | none => if dtype = 0x0F then dspec else vg s f.gen (instKey K.defaultCove f.fn)
  if !bound s f c then (c, .accessDenied) else if !n.inCove c then (c, .invalidField) else (c, .success)

-- ===== limits on open and active zones (R151, R153) =====

/-- The least recently written Implicitly Opened zone. [DEDUCED, log entry 34] -/
def lruImplicit (s : State) : Option Nat :=
  (s.zones.foldl (fun (best : Option (Nat × Nat)) p =>
    if p.2.st == .implicitOpen then (match best with
      | some (_, t) => if p.2.lastWriteNs < t then some (p.1, p.2.lastWriteNs) else best
      | none => some (p.1, p.2.lastWriteNs)) else best) none).map Prod.fst

/-- Step 6 of R153 for a zone that is Empty or Closed: room for one more open zone, made by an implicit close. -/
def openLimit (s : State) (z : Zone) : NvStatus × State :=
  if z.st.isOpen then (.success, s)
  else if openCount s < v s K.zoneOpenMax then (.success, s)
  else if openCount s > v s K.zoneOpenMax then (.tooManyOpen, s)
  else match lruImplicit s with
    | some k => (.success, bump32 (modZone s k (fun z => { z with st := .closed })) K.implicitCloses)
    | none => (.tooManyOpen, s)

/-- Step 5 of R153 for an Empty zone that would take Cove `c`. -/
def activeLimit (s : State) (nsid : Nat) (n : Ns) (c : Nat) : NvStatus :=
  if nsActive s nsid c ≥ n.quota.getD c 0 ∨ activeCount s ≥ v s K.zoneActiveMax then .tooManyActive else .success

/-- The state of a zone refuses a write (step 2 of R153). -/
def zoneStateStatus : ZState → NvStatus
  | .full => .zoneFull
  | .readOnly => .zoneReadOnly
  | .offline => .zoneOffline
  | _ => .success

/-- Rsv_w (R155). -/
def reservation (d bytes : Nat) : Nat := if Cd.raw d then bytes else bytes + 256 * (ceilDiv bytes 65536 + 1)

/-- Step 7 of R153 (R156): ALLOC_z after admission, where HEADROOM allows it. [DEDUCED, log entry 37] -/
def thinAdmit (s : State) (c : Nat) (z : Zone) (bytes : Nat) : Option Nat :=
  let d := coveDesc s c
  let need := z.stored + z.rsvSum + reservation d bytes
  let a := Nat.max z.alloc (roundG (groupBytes s d) need)
  if Nat.max a need - z.charge ≤ headroom s c then some a else none

/-- Steps 3 to 6 of R153, for a write or for the Open action: the Cove of the zone, the status, and the state with an
implicit close made. [DEDUCED, log entry 34] -/
def openSteps (s : State) (f : Flight) (n : Ns) (z : Zone) (dtype dspec : Nat) : Nat × NvStatus × State :=
  let empty := decide (z.st = .empty)
  let dir := directiveStatus s f n dtype dspec (if empty then none else some z.cove)
  let (c, chosen) := if empty then chooseCove s f n z dtype dspec
    else (z.cove, if z.coveValid && !bound s f z.cove then NvStatus.accessDenied else .success)
  let low := if empty && (bitAt (capBits s c) 1 || bitAt (capBits s c) 2) then NvStatus.tooManyActive else .success
  let act := if empty then activeLimit s f.nsid n c else .success
  match firstBad [dir, chosen, low, act] with
  | .success =>
    let (st, s') := openLimit s z
    (c, st, s')
  | st => (c, st, s)

/-- A zone opens (R152, R153): it takes its Cove and, when it leaves Empty, its die group. -/
def openZone (s : State) (zk c : Nat) (st : ZState) : State :=
  let z := zoneAt s zk
  if z.st = .empty then
    let g := pickGroup s c
    modZone s zk (fun z => { z with st := st, cove := c, coveValid := true, group := g, assigned := none, lastWriteNs := s.clk.nowNs })
  else modZone s zk (fun z => { z with st := st })

-- ===== writes into a zone: the check (R127, R128, R153) =====

/-- The check of a write of `nlb` blocks at block `off` of a zone; `append` takes the write pointer's place. -/
def zoneWriteStatus (s : State) (n : Ns) (z : Zone) (append : Bool) (off nlb : Nat) : NvStatus :=
  let st := zoneStateStatus z.st
  if nsReadOnly s n then .nsWriteProtected
  else if !st.isOk then st
  else if !append && off ≠ z.wp then .zoneInvalidWrite
  else if (if append then z.wp else off) + nlb > zoneBlocks s n then .zoneBoundary
  else .success

/-- Check a write into a zone and, when every step passes, advance its write pointer (R127): the status, the first
logical block it will write, and the state. [DEDUCED, log entry 33] -/
def zoneCheck (s : State) (f : Flight) (zone : Nat) (append : Bool) (lba nlb dtype dspec : Nat) : NvStatus × Nat × State :=
  let n := nsRec s f.nsid
  let zk := zkey f.nsid zone
  let z := zoneAt s zk
  let zb := zoneBlocks s n
  let bytes := nlb * n.blk
  match zoneWriteStatus s n z append (lba - zone * zb) nlb with
  | .success =>
    match openSteps s f n z dtype dspec with
    | (c, .success, s1) =>
      let thin := Cd.thin (coveDesc s c)
      match (if thin then thinAdmit s1 c z bytes else some z.alloc) with
      | some a =>
        let s2 := if z.st.isActive && z.st != .closed then s1 else openZone s1 zk c .implicitOpen
        let full := decide (z.wp + nlb = zb)
        let s3 := modZone s2 zk (fun y => { y with
          wp := z.wp + nlb
          st := if full then .full else y.st
          alloc := a
          rsv := if thin then y.rsv ++ [(f.seq, reservation (coveDesc s c) bytes, (z.wp + nlb) * n.blk)] else y.rsv
          lastWriteNs := s.clk.nowNs
          fzr := false
          tag := some (y.tag.getD f.tag) })
        let s4 := if z.fzr then zoneChanged s3 f.nsid zone else s3
        (.success, zone * zb + z.wp, capCheck (keyFix s4 f.tag))
      | none => (.capacityExceeded, lba, s1)
    | (_, st, s1) => (st, lba, s1)
  | st => (st, lba, s)

/-- A checked write to the zone that has not yet applied every block. -/
def zoneWriter (s : State) (nsid zone : Nat) (f : Flight) : Bool :=
  let n := nsRec s nsid
  f.nsid == nsid && isWriteOp f.opcode && (f.stage == .running || f.stage == .committed) && !f.blocks.isEmpty && f.slba / zoneBlocks s n == zone

/-- A checked write fails before it has applied every block (R127): the write pointer returns to its first unapplied
block, and the later-checked writes of the zone that have not applied complete with Zone Invalid Write. [DEDUCED, log entries 33, 37] -/
def zoneWriteFail (s : State) (f : Flight) : State :=
  let n := nsRec s f.nsid
  let zone := f.slba / zoneBlocks s n
  let zk := zkey f.nsid zone
  match f.blocks with
  | [] => s
  | (lba, _) :: _ =>
    let off := lba - zone * zoneBlocks s n
    let later := s.flights.filter (fun g => zoneWriter s f.nsid zone g && g.seq != f.seq && g.slba > f.slba)
    let gone := f.seq :: later.map Flight.seq
    let s := modZone s zk (fun z => { z with
      wp := Nat.min z.wp off
      st := if z.st = .full then .implicitOpen else z.st
      rsv := z.rsv.filter (fun r => !gone.contains r.1) })
    capCheck (later.foldl (fun s g => completeFlight s g .zoneInvalidWrite 0 0) s)

-- ===== closing blocks, finishing, resetting, taking offline =====

/-- User bytes that position `p` of allocation `k` holds of a physical log of `t` bytes (R169). -/
def bytesIn (g w t k p : Nat) : Nat :=
  let r := Nat.min (t - k * g) g
  r / (65536 * w) * 65536 + Nat.min (r % (65536 * w) - p * 65536) 65536

/-- Bytes of a zone's physical log. -/
def logBytes (s : State) (zk : Nat) : Nat :=
  let z := zoneAt s zk
  if Cd.compressed (coveDesc s z.cove) then z.logEnd else z.applied * (nsRec s (zk / 2 ^ 32)).blk

/-- BLOCK_CLOSE_PAD (R235): the blocks of a zone receive no more data; the last wordline each has begun is padded, and its
remaining passes will run. -/
def closeBlocks (s : State) (zk : Nat) : State :=
  let z := zoneAt s zk
  let d := coveDesc s z.cove
  let t := logBytes s zk
  { s with nand := { s.nand with blocks := s.nand.blocks.mapVal (fun key b => match b.use with
      | .zone k a p => if k = zk ∧ b.closed = none then
          let per := 16384 * Nat.max (slotOf s (key / 32768)).planes 1 * cellPages b.cell
          { b with closed := some (ceilDiv (bytesIn (groupBytes s d) (Cd.width d) t a p) per) } else b
      | _ => b) } }

/-- A Full zone that holds all it will hold closes its blocks. [DEDUCED, log entry 33] -/
def closeIfFull (s : State) (zk : Nat) : State :=
  let z := zoneAt s zk
  if z.st = .full ∧ z.applied = z.wp ∧ z.unit.isNone then releasePassed (closeBlocks s zk) else s

/-- Finish a zone (R434, R154): its open unit is cut and its blocks are closed. [DEDUCED, log entry 30] -/
def finishZone (s : State) (zk : Nat) : State :=
  let n := nsRec s (zk / 2 ^ 32)
  let s := closeUnit s zk 3
  let s := modZone s zk (fun z => { z with st := .full, wp := zoneBlocks s n, assigned := none })
  capCheck (releasePassed (closeBlocks s zk))

/-- Reset a zone (R434): its open unit and its data are gone, its charge returns to FREE, its blocks await erase. -/
def resetZone (s : State) (zk : Nat) : State :=
  let n := nsRec s (zk / 2 ^ 32)
  let nsid := zk / 2 ^ 32
  let zb := zoneBlocks s n
  let first := zk % 2 ^ 32 * zb
  let tag := (zoneAt s zk).tag
  let before := atRisk s
  let s := releaseZone s zk
  let s := unpoison (wbDrop (clearBlocks s nsid first zb) nsid first zb) nsid first zb
  let s := modZone s zk (fun _ => Zone.fresh)
  let s := if Cd.compressed (coveDesc s n.firstCove) then mapChanged s (mapPageOf s nsid n first) else s
  capCheck (atRiskClear before (keyUnfix s tag))

/-- A transition to Offline (R161): q_c falls by 1, and the promise or charge is released. `c` is the zone's Cove, or the
Cove an Empty zone is given up in. -/
def offlineZone (s : State) (zk c : Nat) : State :=
  let nsid := zk / 2 ^ 32
  let n := nsRec s nsid
  let zb := zoneBlocks s n
  let tag := (zoneAt s zk).tag
  let before := atRisk s
  let s := releaseZone s zk
  let s := wbDrop (clearBlocks s nsid (zk % 2 ^ 32 * zb) zb) nsid (zk % 2 ^ 32 * zb) zb
  let s := modZone s zk (fun z => { z with st := .offline, unit := none, rsv := [], tag := none, stored := 0, alloc := 0, frames := [], allocs := [], assigned := none })
  let s := { s with nss := s.nss.upd nsid (fun n => { n with quota := n.quota.upd c (· - 1) }) }
  capCheck (atRiskClear before (keyUnfix s tag))

-- ===== Zone Management Send =====

/-- The zone actions, with NVMe's numbers: Close, Finish, Open, Reset, Offline. -/
inductive ZAction where
  | close | finish | open | reset | offline
deriving DecidableEq, Repr

/-- Whether Select All reaches a zone in a state. [DEDUCED, log entry 39] -/
def ZAction.eligible : ZAction → ZState → Bool
  | .close, z => z.isOpen
  | .finish, z => z.isActive
  | .open, z => z == .closed
  | .reset, z => z.isActive || z == .full
  | .offline, z => z == .readOnly

/-- The status of an action on one zone by its state alone. -/
def ZAction.stateStatus : ZAction → ZState → NvStatus
  | .close, z => if z.isActive then .success else .invalidZoneTransition
  | .finish, z => if z = .readOnly ∨ z = .offline then .invalidZoneTransition else .success
  | .open, z => if z = .full ∨ z = .readOnly ∨ z = .offline then .invalidZoneTransition else .success
  | .reset, z => if z = .readOnly ∨ z = .offline then .invalidZoneTransition else .success
  | .offline, z => if z = .readOnly ∨ z = .offline then .success else .invalidZoneTransition

/-- The Open action on one zone (R153, steps 1 to 6). -/
def openAction (s : State) (f : Flight) (zone : Nat) : NvStatus × State :=
  let n := nsRec s f.nsid
  let zk := zkey f.nsid zone
  let z := zoneAt s zk
  if nsReadOnly s n then (.nsWriteProtected, s)
  else match ZAction.stateStatus .open z.st with
    | .success =>
      (match openSteps s f n z 0 0 with
      | (c, .success, s) => (.success, openZone s zk c .explicitOpen)
      | (_, st, s) => (st, s))
    | st => (st, s)

/-- The immediate actions on one zone: Close, Open and Offline. [DEDUCED, log entry 30] -/
def actNow (s : State) (f : Flight) (a : ZAction) (zone : Nat) : NvStatus × State :=
  let zk := zkey f.nsid zone
  let z := zoneAt s zk
  match a with
  | .open => openAction s f zone
  | .close =>
    let st := ZAction.stateStatus .close z.st
    (st, if st.isOk then modZone s zk (fun z => { z with st := .closed }) else s)
  | .offline =>
    let st := ZAction.stateStatus .offline z.st
    (st, if z.st = .readOnly then offlineZone s zk z.cove else s)
  | _ => (.success, s)

/-- The zones an action names: the one that starts at `slba`, or every one whose state Select All reaches. [DEDUCED, log entry 39] -/
def actZones (s : State) (f : Flight) (a : ZAction) (slba : Nat) (all : Bool) : List Nat :=
  let n := nsRec s f.nsid
  if all then ((s.zones.filter (fun p => p.1 / 2 ^ 32 == f.nsid && a.eligible p.2.st)).map (fun p => p.1 % 2 ^ 32))
  else [slba / zoneBlocks s n]

/-- The checks of a zone action before its zones' states. -/
def actStatus (s : State) (f : Flight) (resv : Bool) (slba : Nat) (all : Bool) : NvStatus :=
  let n := nsRec s f.nsid
  match ioStatus s f resv false true with
  | .success =>
    if all then .success
    else if slba ≥ n.nsze then .lbaOutOfRange
    else if slba % zoneBlocks s n ≠ 0 then .invalidField
    else .success
  | st => st

/-- Number of an action that waits in `Zone.actions`. -/
def ZAction.num : ZAction → Nat
  | .close => 1
  | .finish => 2
  | .open => 3
  | .reset => 4
  | .offline => 5

/-- A waiting Reset or Finish of a zone takes effect (R434). -/
def actDone (s : State) (zk seq act : Nat) : State :=
  let z := zoneAt s zk
  let s := modZone s zk (fun z => { z with actions := z.actions.filter (fun a => a.1 != seq) })
  let a : ZAction := if act = 2 then .finish else .reset
  let rest := (zoneAt s zk).actions
  match a.stateStatus z.st with
  | .success =>
    if act = 2 then (if z.st = .full then s else finishZone s zk)
    else if z.st = .empty then s
    else modZone (resetZone s zk) zk (fun y => { y with actions := rest })
  | st => modFlight s seq (fun f => { f with status := if f.status.isOk then st else f.status })

/-- ZONE_OPEN, ZONE_CLOSE, ZONE_OFFLINE: at once, zone by zone, stopping at the first that fails. -/
def zoneActNow (s : State) (c : Cmd) (a : ZAction) (slba : Nat) (all : Bool) : State :=
  let s := ensure s c 0x79 slba 0
  let f := flightOf s c
  match actStatus s f c.resv slba all with
  | .success =>
    let (st, s) := (actZones s f a slba all).foldl (fun (acc : NvStatus × State) z =>
      if acc.1.isOk then actNow acc.2 f a z else acc) (NvStatus.success, s)
    completeFlight s f st 0 0
  | st => completeFlight s f st 0 0

/-- ZONE_FINISH, ZONE_RESET: the action takes its place in each zone's check order (R434). -/
def zoneActLater (s : State) (c : Cmd) (a : ZAction) (slba : Nat) (all : Bool) : State :=
  let s := ensure s c 0x79 slba 0
  let f := flightOf s c
  match actStatus s f c.resv slba all with
  | .success =>
    let s := modFlight s f.seq (fun x => { x with stage := .running })
    (actZones s f a slba all).foldl (fun s z => modZone s (zkey f.nsid z) (fun y => { y with actions := y.actions ++ [(f.seq, a.num)] })) s
  | st => completeFlight s f st 0 0

-- ===== device-made changes (R154) =====

/-- FINISH_ZONE_RECOMMENDED: an active zone not written for FZR_AGE receives the attribute. [DEDUCED, log entry 38] -/
def finishRecommended (s : State) (nsid zone : Nat) : State :=
  let zk := zkey nsid zone
  let z := zoneAt s zk
  let age := v s K.fzrAge
  if z.st.isActive && !z.fzr && age != 0 && decide (s.clk.nowNs - z.lastWriteNs ≥ age * 1000000000) then
    zoneChanged (modZone s zk (fun z => { z with fzr := true })) nsid zone
  else s

def execFinishZoneRecommended (nsid zone : Nat) (s : State) : Host.Outcome State Fault Refusal := .next (finishRecommended s nsid zone)

/-- ZONE_FINISHED_BY_CONTROLLER: an active zone not written for ZFC_AGE is finished; the transition and the attribute are
one report each. [DEDUCED, log entry 38] -/
def finishedByController (s : State) (nsid zone : Nat) : State :=
  let zk := zkey nsid zone
  let z := zoneAt s zk
  if z.st.isActive && decide (s.clk.nowNs - z.lastWriteNs ≥ v s K.zfcAge * 1000000000) then
    let s := finishZone s zk
    zoneChanged (zoneChanged (modZone s zk (fun z => { z with zfc := true, fzr := false })) nsid zone) nsid zone
  else s

-- ===== the Cove directive and reports (R147 to R150, R158) =====

/-- ASSIGN_COVE (R149). -/
def assignStatus (s : State) (f : Flight) (resv : Bool) (cove zslba : Nat) : NvStatus :=
  let n := nsRec s f.nsid
  match ioStatus s f resv false true with
  | .success =>
    if !n.directive ∨ cove ≥ 256 ∨ zslba ≥ n.nsze ∨ zslba % zoneBlocks s n ≠ 0 then .invalidField
    else if (zoneAt s (zkey f.nsid (zslba / zoneBlocks s n))).st ≠ .empty then .invalidZoneTransition
    else if !n.inCove cove then .invalidField
    else if !bound s f cove then .accessDenied
    else .success
  | st => st

def assignCove (s : State) (c : Cmd) (cove zslba : Nat) : State :=
  let s := ensure s c 0x19 zslba 0
  let f := flightOf s c
  let st := assignStatus s f c.resv cove zslba
  let s := if st.isOk then modZone s (zkey f.nsid (zslba / zoneBlocks s (nsRec s f.nsid))) (fun z => { z with assigned := some cove }) else s
  completeFlight s f st 0 0

def execAssignCove (c : Cmd) (cove zslba : Nat) (s : State) : Host.Outcome State Fault Refusal := .next (assignCove s c cove zslba)

/-- ENABLE_DIRECTIVE: the Identify directive's Enable Directive; the Cove directive alone can be enabled or disabled. -/
def enableDirective (s : State) (c : Cmd) (dtype : Nat) (enable : Bool) : State :=
  let s := ensure s c 0x19 0 0
  let f := flightOf s c
  match ioStatus s f c.resv true true with
  | .success =>
    if dtype = 0x0F then completeFlight { s with nss := s.nss.upd f.nsid (fun n => { n with directive := enable }) } f .success 0 0
    else completeFlight s f .invalidField 0 0
  | st => completeFlight s f st 0 0

def execEnableDirective (c : Cmd) (dtype : Nat) (enable : Bool) (s : State) : Host.Outcome State Fault Refusal :=
  .next (enableDirective s c dtype enable)

/-- Answer a command that returns data, cut to the length asked. -/
def answerData (s : State) (f : Flight) (b : Bytes) (len : Nat) : State := completeFlight (dmaOut s f.fn (b.take len)) f .success 0 0

/-- COVE_STATUS (R158): a record for each Cove from `first` on in which the namespace has quota. -/
def coveStatus (s : State) (c : Cmd) (first len : Nat) : State :=
  let s := ensure s c 0x1A 0 0
  let f := flightOf s c
  let n := nsRec s f.nsid
  match ioStatus s f c.resv true true with
  | .success =>
    let cs := (n.quota.keys.filter (fun c => first ≤ c && n.inCove c)).take ((len - 16) / 64)
    answerData s f (recvHeader s cs.length ++ cs.flatMap (fun c => coveStatusRec s c (some (f.nsid, n)))) len
  | st => completeFlight s f st 0 0

def execCoveStatus (c : Cmd) (first len : Nat) (s : State) : Host.Outcome State Fault Refusal := .next (coveStatus s c first len)

/-- ZONE_USAGE (R158): one record per zone from a zone start, up to the buffer end or the last zone. -/
def zoneUsage (s : State) (c : Cmd) (zslba len : Nat) : State :=
  let s := ensure s c 0x1A zslba 0
  let f := flightOf s c
  let n := nsRec s f.nsid
  match ioStatus s f c.resv false true with
  | .success =>
    if zslba ≥ n.nsze then completeFlight s f .lbaOutOfRange 0 0
    else if zslba % zoneBlocks s n ≠ 0 then completeFlight s f .invalidField 0 0
    else
      let i := zslba / zoneBlocks s n
      let k := Nat.min (zoneCount s n - i) ((len - 16) / 32)
      answerData s f (recvHeader s k ++ (rangeFrom i k).flatMap (zoneUsageRec s f.nsid n)) len
  | st => completeFlight s f st 0 0

def execZoneUsage (c : Cmd) (zslba len : Nat) (s : State) : Host.Outcome State Fault Refusal := .next (zoneUsage s c zslba len)

/-- The 64-byte Zone Descriptor (Zoned Namespace Command Set): type, state, attributes, capacity, start, write pointer. -/
def zoneDescriptor (s : State) (nsid : Nat) (n : Ns) (i : Nat) : Bytes :=
  let z := zoneAt s (zkey nsid i)
  let zb := zoneBlocks s n
  let wp := if z.st = .full ∨ z.st = .readOnly ∨ z.st = .offline then 2 ^ 64 - 1 else i * zb + z.wp
  leBytes 1 2 ++ leBytes 1 (z.st.code * 16) ++ leBytes 1 ((if z.zfc then 1 else 0) + (if z.fzr then 2 else 0)) ++ List.replicate 5 0
    ++ leBytes 8 zb ++ leBytes 8 (i * zb) ++ leBytes 8 wp ++ List.replicate 32 0

/-- The state a reporting option lists: 1 Empty … 7 Offline; 0 lists every zone. -/
def reportState : Nat → Option ZState
  | 1 => some .empty
  | 2 => some .implicitOpen
  | 3 => some .explicitOpen
  | 4 => some .closed
  | 5 => some .full
  | 6 => some .readOnly
  | 7 => some .offline
  | _ => none

/-- ZONE_MANAGEMENT_RECEIVE (R150): a report of zones from the zone of `slba`; the header counts the zones listed, or
with `part` only those the buffer holds. -/
def zoneReport (s : State) (c : Cmd) (slba option len : Nat) (part : Bool) : State :=
  let s := ensure s c 0x7A slba 0
  let f := flightOf s c
  let n := nsRec s f.nsid
  match ioStatus s f c.resv false true with
  | .success =>
    if slba ≥ n.nsze then completeFlight s f .lbaOutOfRange 0 0
    else if option > 7 then completeFlight s f .invalidField 0 0
    else
      let i := slba / zoneBlocks s n
      let all := (rangeFrom i (zoneCount s n - i)).filter (fun j =>
        (reportState option).all (fun st => st == (zoneAt s (zkey f.nsid j)).st))
      let fit := all.take ((len - 64) / 64)
      let count := if part then fit.length else all.length
      answerData s f (leBytes 8 count ++ List.replicate 56 0 ++ fit.flatMap (zoneDescriptor s f.nsid n)) len
  | st => completeFlight s f st 0 0

def execZoneManagementReceive (c : Cmd) (slba option len : Nat) (partialReport : Bool) (s : State) : Host.Outcome State Fault Refusal :=
  .next (zoneReport s c slba option len partialReport)

end Sys2Proof.Machine
end

