-- ==== Sys2Proof/Machine/Io.lean ====
section
/-! DEFINITION. Machine/Io.lean: "Queues, Arbitration and Command Semantics": the write side of the I/O commands: what
holds a command back, its checks, how its blocks are applied in order, when it completes; protection information. -/
namespace Sys2Proof.Machine
open Sys2Proof

-- ===== protection information (R135; the rules of checking are the NVM Command Set's) =====

/-- The ALG of a guard width. -/
def guardAlg (w : Nat) : Nat := if w = 32 then 2 else if w = 64 then 3 else 1

/-- The guard of a block: its data, then the metadata bytes ahead of the tuple. -/
def guardOf (n : Ns) (data : Nat) (pre : Bytes) : Nat :=
  let a := guardAlg n.piGuard
  pre.foldl (fun r b => algByte a r b.toNat) (algFeed a n.blk (algInit a) data) ^^^ algFinal a

/-- Reference tag width of a guard width. -/
def refWidth (w : Nat) : Nat := if w = 64 then 48 else 32

/-- The tuple disables checking by its tags. [PRESUMED, log entry 40] -/
def piEscape (n : Ns) (t : PiTuple) : Bool :=
  if n.piType = 3 then t.app == 0xFFFF && t.ref == 2 ^ refWidth n.piGuard - 1 else t.app == 0xFFFF

/-- The check of block number `i` of a command against its PRCHK fields. [PRESUMED, log entry 40] -/
def piCheck (n : Ns) (a : PiArgs) (i : Nat) (b : Block) : NvStatus :=
  if n.piType = 0 then .success
  else
    let t := b.pi.getD ⟨0, 0, 0, []⟩
    if piEscape n t then .success
    else if a.chkGuard && t.guard != guardOf n b.data t.pre then .guardCheck
    else if a.chkApp && (t.app &&& a.lbatm) != (a.lbat &&& a.lbatm) then .appTagCheck
    else if a.chkRef && n.piType != 3 && t.ref != (a.ilbrt + i) % 2 ^ refWidth n.piGuard then .refTagCheck
    else .success

/-- The first failing check of a list of blocks. [PRESUMED, log entry 40] -/
def piChecks (n : Ns) (a : PiArgs) : Nat → List Block → NvStatus
  | _, [] => .success
  | i, b :: r => match piCheck n a i b with
    | .success => piChecks n a (i + 1) r
    | st => st

/-- Block number `i` as it is stored: with PRACT the tuple is generated, else it is the host's. [PRESUMED, log entry 40] -/
def piStore (n : Ns) (a : PiArgs) (i : Nat) (b : Block) : Block :=
  if n.piType = 0 then { b with pi := none }
  else if a.pract then
    { b with pi := some ⟨guardOf n b.data [], a.lbat, if n.piType = 3 then a.ilbrt else (a.ilbrt + i) % 2 ^ refWidth n.piGuard, []⟩ }
  else b

/-- The tuple of a block that has none of its own (zeroed, deallocated or never written): the escape that disables checking. [PRESUMED, log entry 40] -/
def escTuple (n : Ns) : PiTuple := ⟨2 ^ n.piGuard - 1, 0xFFFF, 2 ^ refWidth n.piGuard - 1, []⟩

-- ===== overlap and order (R123, R125, R130) =====

/-- The ranges a command names. -/
def Flight.ranges (f : Flight) : List (Nat × Nat) := if f.opcode = 0x09 then f.clears else [(f.slba, f.nlb)]

/-- Two commands name a common logical block. -/
def overlaps (f g : Flight) : Bool :=
  f.nsid == g.nsid && f.ranges.any (fun a => g.ranges.any (fun b => a.1 < b.1 + b.2 && b.1 < a.1 + a.2))

/-- A command that counts as a write. -/
def countsWrite (op : Nat) : Bool := isWriteOp op || op == 0x09

/-- Its checks have run. -/
def Flight.checked (f : Flight) : Bool := f.stage == .running || f.stage == .committed || f.stage == .ordered

/-- An earlier-fetched write that overlaps and is in flight. -/
def earlierOverlap (s : State) (f : Flight) : Bool :=
  s.flights.any (fun g => g.seq < f.seq && countsWrite g.opcode && g.sqid != 0 && overlaps f g)

/-- A fused pair of other commands executes on a common block (R123). -/
def fusedElsewhere (s : State) (f : Flight) : Bool :=
  s.flights.any (fun g => overlaps f g && !(g.fn == f.fn && g.sqid == f.sqid) && ((g.fuse == 1 && g.stage == .running) || g.fuse == 3))

/-- The instance of a command is in compatibility mode in its generation (R129). -/
def compat (s : State) (f : Flight) : Bool := vg s f.gen (instKey K.orderMode f.fn) == 1

/-- A barrier: a Read or Write with the ordered mark in compatibility mode (R130). -/
def Flight.barrier (s : State) (f : Flight) : Bool := f.ordered && compat s f && (f.opcode == 1 || f.opcode == 2)

/-- A barrier of its queue holds a command, or it is one and earlier commands of its queue have not completed (R130). -/
def barrierHolds (s : State) (f : Flight) : Bool :=
  let earlier := s.flights.filter (fun g => g.fn == f.fn && g.sqid == f.sqid && g.seq < f.seq)
  (f.barrier s && !earlier.isEmpty) || earlier.any (Flight.barrier s)

/-- Count a wait of a command once. -/
def countWait (s : State) (f : Flight) (kind key : Nat) : State :=
  if f.counted.contains kind then s else bump64 (modFlight s f.seq (fun x => { x with counted := kind :: x.counted })) key

-- ===== what holds a write back =====

/-- The zone of a logical block waits for a Reset or Finish fetched before, or an earlier-fetched command on it has not
been checked (R127, R434). -/
def zoneHolds (s : State) (f : Flight) (lba : Nat) : Bool :=
  let n := nsRec s f.nsid
  let zone := lba / zoneBlocks s n
  n.zoned && ((zoneAt s (zkey f.nsid zone)).actions.any (fun a => a.1 < f.seq)
    || s.flights.any (fun g => g.seq < f.seq && g.nsid == f.nsid && g.sqid != 0 && !g.checked
        && (isWriteOp g.opcode || g.opcode == 0x79) && g.slba / zoneBlocks s n == zone))

/-- Bytes of writes that have been checked and have not completed. [DEDUCED, log entry 42] -/
def writesInFlight (s : State) : Nat :=
  sumNat ((s.flights.filter (fun g => isWriteOp g.opcode && g.checked)).map (fun g => g.nlb * nsBlk s g.nsid))

/-- R242: the write would take AT_RISK_BYTES above AT_RISK_LIMIT. [DEDUCED, log entry 42] -/
def atRiskHolds (s : State) (bytes : Nat) : Bool :=
  let now := atRisk s + writesInFlight s
  !vb s K.writeThrough && now > 0 && now + bytes > v s K.atRiskLimit

/-- R179: a conventional Cove is down to the clean stripes host writes may not take. -/
def gcHolds (s : State) (n : Ns) : Bool :=
  !n.zoned && decide (cleanStripes s n.firstCove ≤ v s K.gcUrgentGroups)

/-- Its units, its queue's barriers, or its first half hold a command. -/
def beginHolds (s : State) (f : Flight) : Bool :=
  f.stage == .admission || f.stage == .filling || barrierHolds s f

/-- The Compare of the pair whose second half `f` is, while it is in flight. -/
def firstHalf (s : State) (f : Flight) : Option Flight :=
  s.flights.find? (fun g => g.fn == f.fn && g.sqid == f.sqid && g.seq < f.seq && g.fuse == 1
    && !s.flights.any (fun h => h.fn == f.fn && h.sqid == f.sqid && g.seq < h.seq && h.seq < f.seq))

/-- Whether a write must wait, with each wait counted once. -/
def writeHolds (s : State) (f : Flight) (lba bytes : Nat) : Bool × State :=
  let n := nsRec s f.nsid
  if beginHolds s f || (f.fuse == 2 && (firstHalf s f).isSome) || zoneHolds s f lba || fusedElsewhere s f then (true, s)
  else if f.nsOk && gcHolds s n then (true, countWait s f 2 K.gcHostWaits)
  else if f.nsOk && atRiskHolds s bytes then (true, countWait s f 1 K.atRiskWaits)
  else (false, s)

-- ===== applying blocks =====

/-- Data of one block of a conventional namespace takes effect: it is placed in the open stripe, enters the write buffer
and the page map; an earlier loss or mark of the block ends (R174, R192). -/
def applyConv (s : State) (f : Flight) (lba : Nat) (b : Block) : State :=
  let n := nsRec s f.nsid
  let s := unpoison (wbDrop (storeBlock s f.nsid lba b) f.nsid lba 1) f.nsid lba 1
  match placePage s n.firstCove n.blk with
  | some (q, s) =>
    let wl := (cwAt s q.die q.block (q.slot * 4096)).wl
    let s := wbAdd s { nsid := f.nsid, lba := lba, nlb := 1, bytes := n.blk, locs := [(q.die, q.block, wl)], seq := f.seq, acked := false,
                       replay := false, logged := false }
    mapChanged { s with xlat := { s.xlat with pmap := s.xlat.pmap.put (lkey f.nsid lba) q } } (mapPageOf s f.nsid n lba)
  | none => s

/-- Blocks of a direct zone take effect at the end of its physical log. -/
def applyDirect (s : State) (f : Flight) (bs : List (Nat × Block)) : State :=
  match bs with
  | [] => s
  | (lba, _) :: _ =>
    let n := nsRec s f.nsid
    let zb := zoneBlocks s n
    let zk := zkey f.nsid (lba / zb)
    let off := (lba % zb) * n.blk
    let len := bs.length * n.blk
    let s := bs.foldl (fun s b => storeBlock s f.nsid b.1 b.2) s
    let s := allocTo 64 s zk (off + len - 1)
    let s := modZone s zk (fun z => { z with applied := lba % zb + bs.length })
    let s := wbAdd s { nsid := f.nsid, lba := lba, nlb := bs.length, bytes := len, locs := logPages s zk (zoneAt s zk) off len,
                       seq := f.seq, acked := false, replay := false, logged := false }
    closeIfFull s zk

/-- A range is deallocated: its blocks read as zeros (R122, R192). -/
def deallocate (s : State) (nsid lba nlb : Nat) : State :=
  let n := nsRec s nsid
  let s := unpoison (wbDrop (clearBlocks s nsid lba nlb) nsid lba nlb) nsid lba nlb
  let out (k : Nat) := !(k / 2 ^ 64 == nsid && lba ≤ k % 2 ^ 64 && k % 2 ^ 64 < lba + nlb)
  let pages := ((s.xlat.pmap.filter (fun p => !out p.1)).map (fun p => mapPageOf s nsid n (p.1 % 2 ^ 64))).eraseDups
  pages.foldl mapChanged { s with xlat := { s.xlat with pmap := s.xlat.pmap.keep (fun k _ => out k) } }

/-- A range is marked by Write Uncorrectable: its blocks read as Unrecovered Read Error until rewritten. -/
def markUncor (s : State) (nsid lba nlb : Nat) : State :=
  let n := nsRec s nsid
  let s := wbDrop (clearBlocks s nsid lba nlb) nsid lba nlb
  let l := rangeFrom lba nlb
  let s := { s with xlat := { s.xlat with
    uncor := l.foldl (fun m x => m.put (lkey nsid x) 1) s.xlat.uncor
    pmap := s.xlat.pmap.keep (fun k _ => !(k / 2 ^ 64 == nsid && lba ≤ k % 2 ^ 64 && k % 2 ^ 64 < lba + nlb)) } }
  ((l.map (mapPageOf s nsid n)).eraseDups).foldl mapChanged s

/-- Send the mirror records of a write: its data, at most 65,536 bytes a record, and its metadata delta, which ends the
group (R324); the command then waits for that record's ACK (R26). -/
def mirrorWrite (s : State) (f : Flight) (kind bytes : Nat) : State :=
  if mirroring s then
    let k := bytes / 65536
    let s := (List.range k).foldl (fun s _ => mirrorSend s kind 65536 f.seq false) s
    let s := if bytes % 65536 = 0 then s else mirrorSend s kind (bytes % 65536) f.seq false
    let s := mirrorSend s 3 64 f.seq true
    modFlight s f.seq (fun x => { x with mirrorSeq := s.pair.seqSent })
  else s

/-- The blocks of a write may be applied now: in a conventional namespace once no earlier overlapping write is in flight
(R125), in a zone once every earlier-checked write of it has applied (R127). -/
def mayApply (s : State) (f : Flight) : Bool :=
  let n := nsRec s f.nsid
  if n.zoned then !s.flights.any (fun g => zoneWriter s f.nsid (f.slba / zoneBlocks s n) g && g.slba < f.slba)
  else !earlierOverlap s f

/-- The zone of a command is in a compressed Cove: its blocks are applied piece by piece (R201). -/
def compressedWrite (s : State) (f : Flight) : Bool :=
  let n := nsRec s f.nsid
  n.zoned && Cd.compressed (coveDesc s (zoneAt s (zkey f.nsid (f.slba / zoneBlocks s n))).cove)

/-- Apply every block, range and mark of a write that is not compressed. -/
def applyAll (s : State) (f : Flight) : State :=
  let n := nsRec s f.nsid
  let s := if n.zoned then applyDirect s f f.blocks else f.blocks.foldl (fun s b => applyConv s f b.1 b.2) s
  let s := f.clears.foldl (fun s r => deallocate s f.nsid r.1 r.2) s
  let s := if f.opcode = 0x04 then markUncor s f.nsid f.slba f.nlb else s
  let s := modFlight s f.seq (fun x => { x with blocks := [], clears := [], stage := .committed })
  mirrorWrite s f 1 (f.blocks.length * n.blk)

-- ===== completing writes (R24 to R26) =====

/-- Data of a range has nothing that has not passed or been logged (R25, R243). -/
def rangeSafe (s : State) (nsid lba nlb : Nat) : Bool :=
  !s.xlat.wbuf.any (fun e => e.nsid == nsid && e.lba < lba + nlb && lba < e.lba + e.nlb && !e.logged && !e.locs.isEmpty)
    && !s.zones.any (fun p => p.1 / 2 ^ 32 == nsid && p.2.unit.any (fun u =>
      let n := nsRec s nsid
      let first := p.1 % 2 ^ 32 * zoneBlocks s n + u.start / n.blk
      first < lba + nlb && lba < first + u.bytes / n.blk))

/-- The acknowledgement condition of a write is met: every block applied, its mirror record acknowledged in pair mode, its
pages passed in write-through mode. -/
def ackMet (s : State) (f : Flight) : Bool :=
  f.stage == .committed && f.blocks.isEmpty && (f.mirrorSeq == 0 || !mirroring s || f.mirrorSeq ≤ s.pair.seqAcked)
    && (!vb s K.writeThrough || rangeSafe s f.nsid f.slba f.nlb)

/-- The write-buffer entries whose writes have all completed are acknowledged data. [DEDUCED, log entry 29] -/
def markAcked (s : State) : State :=
  { s with xlat := { s.xlat with wbuf := s.xlat.wbuf.map (fun e =>
      if e.acked then e
      else { e with acked := !s.flights.any (fun f => f.nsid == e.nsid && isWriteOp f.opcode && f.checked
        && f.slba < e.lba + e.nlb && e.lba < f.slba + f.nlb) }) } }

/-- Complete a write: Zone Append reports its first logical block (R128). -/
def completeWrite (s : State) (f : Flight) : State :=
  markAcked (if f.opcode = 0x7D then completeFlight s f .success (f.slba % 2 ^ 32) (f.slba / 2 ^ 32) else completeFlight s f .success 0 0)

/-- WRITE_ACKNOWLEDGE: the data of a write is in and its path is done; it completes once its condition is met, and counts a
mirror wait where that is the ACK alone. -/
def writeAcknowledge (s : State) (fn sqid cid : Nat) : State :=
  match flight? s fn sqid cid with
  | some f =>
    if isWriteOp f.opcode && f.checked && !(compressedWrite s f && !f.blocks.isEmpty) then
      let s := modFlight s f.seq (fun x => { x with stage := .committed })
      let s := if !f.blocks.isEmpty && mayApply s f then applyAll s f else s
      if (flightOf s ⟨fn, sqid, cid, f.nsid, false⟩).mirrorSeq > s.pair.seqAcked && mirroring s then countWait s f 3 K.mirrorWaits else s
    else s
  | none => s

-- ===== starting writes =====

/-- The checks of a command that writes user data: namespace, kind, transfer size, ordered mark, range, key. -/
def writeStatus (s : State) (f : Flight) (resv : Bool) (conv zoned : Bool) (limit : Bool) (slba nlb : Nat) : NvStatus :=
  let n := nsRec s f.nsid
  let fixed := if n.zoned then (zoneAt s (zkey f.nsid (slba / zoneBlocks s n))).tag else n.tag
  firstBad [ioStatus s f resv conv zoned,
    if f.ordered && !(f.barrier s) then .invalidField else .success,
    if n.zoned && f.fuse != 0 then .invalidField else .success,
    if nlb = 0 ∨ (limit ∧ nlb * n.blk > 2097152) then .invalidField else .success,
    rangeStatus s f slba nlb, keyStatus s f fixed]

/-- A conventional namespace refuses a write: write-protected, its directive, or no space for an unmapped block (R162). -/
def convStatus (s : State) (f : Flight) (n : Ns) (slba nlb dtype dspec : Nat) : NvStatus :=
  let c := n.firstCove
  if nsReadOnly s n then .nsWriteProtected
  else firstBad [directiveStatus s f n dtype dspec (some c),
    if bitAt (capBits s c) 1 && (rangeFrom slba nlb).any (fun l => !s.xlat.pmap.has (lkey f.nsid l)) then .capacityExceeded else .success]

/-- The first write after a format fixes a conventional namespace's key tag (R106). -/
def fixConvTag (s : State) (f : Flight) : State :=
  let n := nsRec s f.nsid
  if n.tag.isNone then keyFix { s with nss := s.nss.upd f.nsid (fun n => { n with tag := some f.tag }) } f.tag else s

/-- A failed first half, or a missing one, ends the second half of a fused pair (R123). -/
def fuseStatus (f : Flight) : NvStatus :=
  if f.fuse = 4 then .failedFused else if f.fuse = 2 ∨ f.fuse = 5 then .missingFused else .success

/-- Begin a Write, Write Zeroes or Zone Append whose blocks are `bs`. -/
def beginWrite (s : State) (f : Flight) (resv append limit : Bool) (slba : Nat) (bs : List Block) (dtype dspec : Nat) : State :=
  let n := nsRec s f.nsid
  let nlb := bs.length
  let zb := zoneBlocks s n
  let s := if f.barrier s then bump32 s (instKey K.orderedBarriers f.fn) else s
  match firstBad [fuseStatus f, writeStatus s f resv (!append) true limit slba nlb,
      if append && slba % zb != 0 then .invalidField else .success] with
  | .success =>
    if n.zoned then
      match zoneCheck s f (slba / zb) append slba nlb dtype dspec with
      | (.success, lba, s) =>
        let stored := (rangeFrom lba nlb).zip ((List.range nlb).zip bs |>.map (fun p => piStore n f.pi p.1 p.2))
        let g : Flight := { f with stage := .running, slba := lba, nlb := nlb, blocks := stored }
        let s := modFlight s f.seq (fun _ => g)
        match (if f.pi.pract then NvStatus.success else piChecks n f.pi 0 bs) with
        | .success => s
        | st => completeFlight (zoneWriteFail s g) g st 0 0
      | (st, _, s) => completeFlight s f st 0 0
    else
      match firstBad [convStatus s f n slba nlb dtype dspec, if f.pi.pract then .success else piChecks n f.pi 0 bs] with
      | .success =>
        let s := fixConvTag s f
        let stored := (rangeFrom slba nlb).zip ((List.range nlb).zip bs |>.map (fun p => piStore n f.pi p.1 p.2))
        let wait := earlierOverlap s f
        let s := if wait then countWait s f 0 K.overlapWaits else s
        modFlight s f.seq (fun x => { x with stage := if wait then .ordered else .running, slba := slba, nlb := nlb, blocks := stored })
      | st => completeFlight s f st 0 0
  | st => completeFlight s f st 0 0

/-- Begin Write Uncorrectable, Deallocate, or Write Zeroes with DEAC in a conventional namespace: they change state without
data, at once or after the earlier overlapping writes. -/
def beginClear (s : State) (f : Flight) (resv : Bool) (clears : List (Nat × Nat)) (dtype dspec : Nat) : State :=
  let n := nsRec s f.nsid
  match firstBad [writeStatus s f resv true (f.opcode != 0x04) false f.slba (if f.opcode = 0x09 then 1 else f.nlb),
      if clears.any (fun r => r.1 + r.2 > n.nsze) then .lbaOutOfRange else .success,
      if nsReadOnly s n then .nsWriteProtected else .success, directiveStatus s f n dtype dspec (some n.firstCove)] with
  | .success =>
    let wait := earlierOverlap s { f with clears := clears }
    let s := if wait then countWait s f 0 K.overlapWaits else s
    modFlight s f.seq (fun x => { x with clears := clears, stage := if wait then .ordered else .running })
  | st => completeFlight s f st 0 0

/-- A command that changes state without data. -/
def Flight.dataless (f : Flight) : Bool := f.opcode == 0x04 || f.opcode == 0x09 || (f.opcode == 0x08 && !f.clears.isEmpty)

-- ===== what waits and may go on =====

/-- A waiting Reset or Finish of a zone takes effect once every write checked before it has applied or failed (R434). -/
def settleActions (s : State) : State :=
  (s.zones.filter (fun p => !p.2.actions.isEmpty)).foldl (fun s p =>
    match (zoneAt s p.1).actions with
    | (seq, act) :: _ =>
      if s.flights.any (fun g => zoneWriter s (p.1 / 2 ^ 32) (p.1 % 2 ^ 32) g) then s else actDone s p.1 seq act
    | [] => s) s

/-- A Zone Management Send completes once its action has taken effect in every zone it reaches. -/
def settleSends (s : State) : State :=
  (s.flights.filter (fun f => f.opcode == 0x79 && f.sqid != 0 && f.stage == .running)).foldl (fun s f =>
    if s.zones.any (fun p => p.2.actions.any (fun a => a.1 == f.seq)) then s
    else completeFlight s (flightOf s ⟨f.fn, f.sqid, f.cid, f.nsid, false⟩) (flightOf s ⟨f.fn, f.sqid, f.cid, f.nsid, false⟩).status 0 0) s

/-- A Flush cuts each zone's unit once the writes fetched before it have applied there, then completes (R199). -/
def settleFlushes (s : State) : State :=
  (s.flights.filter (fun f => f.opcode == 0x00 && f.sqid != 0 && f.stage == .running)).foldl (fun s f =>
    let ready (z : Nat) := !s.flights.any (fun g => g.seq < f.seq && zoneWriter s f.nsid z g)
    let (go, stay) := f.flushZones.partition ready
    let s := go.foldl (fun s z => closeUnit s (zkey f.nsid z) 1) s
    if stay.isEmpty then completeFlight s { f with flushZones := [] } .success 0 0
    else modFlight s f.seq (fun x => { x with flushZones := stay })) s

/-- Writes whose turn has come apply; those whose condition is met complete, in fetch order. -/
def settleWrites (s : State) : State :=
  (s.flights.filter (fun f => countsWrite f.opcode && f.sqid != 0)).foldl (fun s f0 =>
    match s.flights.find? (fun g => g.seq == f0.seq) with
    | some f =>
      let waiting := (f.stage == .committed && !f.blocks.isEmpty && !compressedWrite s f)
        || ((f.stage == .ordered || f.stage == .running) && f.dataless)
      let s := if waiting && mayApply s f then applyAll s f else s
      match s.flights.find? (fun g => g.seq == f0.seq) with
      | some g => if ackMet s g then completeWrite s g else s
      | none => s
    | none => s) s

end Sys2Proof.Machine
end

