-- ==== Sys2Proof/Machine/Sched.lean ====
section
/-! DEFINITION. Machine/Sched.lean: "Die Scheduling and Tail-Latency Bounds": the worst-case read formula, channel depths,
excuses, power tokens. -/
namespace Sys2Proof.Machine
open Sys2Proof

-- ===== NAND times (R231) =====

/-- Read time of a cell mode on a slot, µs. -/
def tRead (s : State) (sl cell : Nat) : Nat := nandTime s sl (2 * cell) 2

/-- Largest suspend latency of a slot, in 0.1 µs. -/
def tSus (s : State) (sl : Nat) : Nat := Nat.max (nandTime s sl 22 2) (nandTime s sl 24 2)

/-- NAND_TIMES records a maximum for an operation: reads, program passes, erases, Reset. -/
def opTimed (d : Desc) : Bool := (1 ≤ d.opcode && d.opcode ≤ 4) || d.opcode == 7

/-- The recorded maximum of an operation in units of 0.1 µs; 0 where none is recorded. -/
def opMax (s : State) (sl : Nat) (d : Desc) : Nat :=
  if d.opcode = 1 ∨ d.opcode = 2 then 10 * tRead s sl d.cell
  else if d.opcode = 3 then
    10 * (match d.cell with
      | 0 => nandTime s sl 8 2
      | 1 => nandTime s sl 10 2
      | 2 => nandTime s sl (if d.pass = 1 then 12 else 14) 2
      | _ => nandTime s sl (if d.pass = 1 then 16 else 18) 2)
  else if d.opcode = 4 then 100 * nandTime s sl 20 2
  else if d.opcode = 7 then 10 * nandTime s sl 26 2
  else 0

/-- Transfer of one codeword at a bus rate, ns, rounded up (the codeword table, in proportion). -/
def tCw (cell rate : Nat) : Nat :=
  ceilDiv ((if cell = 0 then 1220 else if cell = 1 then 1270 else if cell = 2 then 1300 else 1350) * 3600) (Nat.max rate 1)

/-- The lowest settled rate among the slots present on a list of channels. -/
def lowRate (s : State) (chs : List Nat) : Nat :=
  (s.nand.slots.filter (fun p => p.2.present && chs.contains (p.1 / 8))).foldl (fun r p => Nat.min r p.2.rate) 3600

-- ===== sets of a Cove =====

/-- Slots of a Cove's dies, and its channels. -/
def coveSlots (s : State) (c : Nat) : List Nat := ((Cd.dies (coveDesc s c)).map slotOfDie).eraseDups
def coveChannels (s : State) (c : Nat) : List Nat := ((coveSlots s c).map (· / 8)).eraseDups

/-- The bounded Coves. -/
def boundedCoves (s : State) : List Nat := (coves s).filter (fun c => Cd.bounded (coveDesc s c))

/-- The bounded Coves with a die on a channel; a die of a bounded Cove. -/
def channelCoves (s : State) (ch : Nat) : List Nat := (boundedCoves s).filter (fun c => bitAt (Cd.channels (coveDesc s c)) ch)
def dieBounded (s : State) (die : Nat) : Bool := (boundedCoves s).any (fun c => (Cd.dies (coveDesc s c)).contains die)

-- ===== the worst-case read formula at the slow corner, ns (R284) =====

def tFront : Nat := 3000

/-- T_hold. -/
def tHold (s : State) (c : Nat) : Nat :=
  let sl := coveSlots s c
  Nat.max (v s K.suspendMinRun * 1000 + maxNat (sl.map (tSus s)) * 100) (maxNat (sl.map (fun x => nandTime s x 8 2)) * 1000) + 300

/-- The terms but T_dram, with depths Q and A. -/
def boundSum (s : State) (c a : Nat) : Nat :=
  let d := coveDesc s c
  let sl := coveSlots s c
  let m := Cd.cell d
  let p := maxNat (sl.map (fun x => (slotAt s x).planes))
  tFront + tHold s c + (v s K.boundDieDepth + 1) * (1000 + maxNat (sl.map (fun x => tRead s x m)) * 1000)
    + (4 * p * a + 1) * tCw m (lowRate s (coveChannels s c)) + 2400 + 400 + (if Cd.compressed d then 60900 else 28100)

/-- T_bound with a channel depth A: the sum and n_p DRAM pauses. -/
def tBound (s : State) (c a : Nat) : Nat := boundSum s c a + (boundSum s c a / 500000 + 1) * 1000

/-- The depth of a Cove (R285): the largest A from Q to 64 that keeps BOUND_MIN_HOLD; none when infeasible. -/
def depthOf (s : State) (c : Nat) : Option Nat :=
  let q := v s K.boundDieDepth
  ((List.range (65 - q)).map (fun i => 64 - i)).find? (fun a =>
    decide (tBound s c a + v s K.boundMinHold * 1000 ≤ Cd.readBound (coveDesc s c) * 1000))

/-- What a Cove reports, its depth recomputed at the last boundary. -/
def boundOf (s : State) (c : Nat) : BoundSt := s.nand.bound.getD c ⟨0, false, false, 0, 0, 0, 0⟩

/-- Change what a Cove reports. -/
def modBound (s : State) (c : Nat) (f : BoundSt → BoundSt) : State := { s with nand := { s.nand with bound := s.nand.bound.put c (f (boundOf s c)) } }

/-- A of a channel: the least depth among its bounded Coves; Q where one is infeasible. -/
def channelDepth (s : State) (ch : Nat) : Nat :=
  (channelCoves s ch).foldl (fun a c => Nat.min a (if (boundOf s c).infeasible then v s K.boundDieDepth else (boundOf s c).depth)) 64

/-- The least A among a Cove's channels, and the T_bound it gives. -/
def coveDepth (s : State) (c : Nat) : Nat := (coveChannels s c).foldl (fun a ch => Nat.min a (channelDepth s ch)) 64
def coveBound (s : State) (c : Nat) : Nat := tBound s c (coveDepth s c)

/-- BOUND_RECOMPUTE (R285). -/
def boundRecompute (s : State) : State :=
  (boundedCoves s).foldl (fun s c =>
    match depthOf s c with
    | some a => modBound s c (fun b => { b with depth := a, infeasible := false })
    | none =>
      let was := (boundOf s c).infeasible
      let s := modBound s c (fun b => { b with depth := v s K.boundDieDepth, infeasible := true })
      if was then s else event s Ev.boundInfeasible [c, tBound s c (v s K.boundDieDepth)]) s

/-- T_ladder of a Cove (R259), ns. -/
def tLadder (s : State) (c : Nat) : Nat :=
  let d := coveDesc s c
  let h := v s K.ladderHardSteps
  let soft := v s K.ladderSoft
  (h + (if soft = 0 then 0 else if soft = 1 then 3 else 7)) * (1000 + maxNat ((coveSlots s c).map (fun x => tRead s x (Cd.cell d))) * 1000
    + tCw (Cd.cell d) (lowRate s (coveChannels s c))) + h * 2400 + soft * 12000

-- ===== power tokens (R275 to R277) =====

/-- TOKENS_IN_FORCE. -/
def tokensInForce (s : State) : Nat :=
  if s.power.state ≥ 2 then 0 else Nat.min (v s (unitKey K.nandPowerBudget s.power.budget)) (v s K.thermalTokenLimit)

/-- READ_RESERVE: the dies of the bounded Coves and the channels that carry them. -/
def readReserveNow (s : State) : Nat :=
  let cs := boundedCoves s
  v s K.tokenCostRead * ((cs.flatMap (fun c => Cd.dies (coveDesc s c))).eraseDups).length
    + v s K.tokenCostBus * ((cs.flatMap (coveChannels s)).eraseDups).length

/-- No reserve exists (R277). [DEDUCED, log entry 68] -/
def reserveGone (s : State) : Bool := decide (tokensInForce s < readReserveNow s)

/-- A read unit. -/
def descRead (d : Desc) : Bool := d.opcode == 1 || d.opcode == 2

/-- The tokens an operation holds. [DEDUCED, log entry 51] -/
def tokenCost (s : State) (d : Desc) : Nat :=
  if descRead d then v s K.tokenCostRead else if d.opcode = 3 then v s K.tokenCostProgram else if d.opcode = 4 then v s K.tokenCostErase else 0

/-- The die of a descriptor. -/
def descDie (d : Desc) : Nat := d.channel * 64 + d.ce * 8 + d.lun

/-- A read unit of the reserve. -/
def reserved (s : State) (d : Desc) : Bool := descRead d && dieBounded s (descDie d) && !reserveGone s

/-- Tokens held by running operations, with the bus tokens of the channels that run a read unit. [DEDUCED, log entry 51] -/
def tokensHeldNow (s : State) : Nat :=
  let ops := s.nand.luns.filterMap (fun p => p.2.run)
  sumNat (ops.map ArrayOp.tokens) + v s K.tokenCostBus * (((ops.filter (fun o => descRead o.d)).map (fun o => o.d.channel)).eraseDups).length

/-- Tokens of the remainder that running operations hold. -/
def remainderHeld (s : State) : Nat :=
  let ops := (s.nand.luns.filterMap (fun p => p.2.run)).filter (fun o => !reserved s o.d)
  sumNat (ops.map ArrayOp.tokens) + v s K.tokenCostBus * (((ops.filter (fun o => descRead o.d)).map (fun o => o.d.channel)).eraseDups).length

/-- The kind of an operation in the order of R276: 0 reads, 1 resumes, 2 at-risk final passes, 3 foreground programs,
4 background programs, 5 erases. -/
def tokenKind (d : Desc) (resume : Bool) : Nat :=
  if descRead d then 0 else if resume then 1
  else if d.opcode = 4 then 5
  else match d.work with
    | .atRisk => 2
    | .background => 4
    | _ => 3

/-- The governor grants an operation its tokens: those of the reserve at once; the remainder in the order of R276. [DEDUCED, log entry 68] -/
def tokensGranted (s : State) (d : Desc) (resume : Bool) : Bool :=
  let cost := tokenCost s d
  if cost = 0 || reserved s d || s.power.flushActive then true
  else
    let left := tokensInForce s - (if reserveGone s then 0 else readReserveNow s)
    let k := tokenKind d resume
    decide (remainderHeld s + cost + (if descRead d then v s K.tokenCostBus else 0) ≤ left)
      && !s.nand.tokenWait.any (fun w => w.1 != descDie d && decide (w.2 < k))

-- ===== excuses (R287) =====

/-- An excuse that covers every read fetched while it lasts. -/
def excuseAll (s : State) : Bool :=
  s.power.flushActive || s.thermal.state == 2 || s.power.state == 1 || reserveGone s || !s.power.slow.isEmpty

/-- An excuse of a Cove: infeasible, its map pages loading, or a channel being taken over. -/
def excuseCove (s : State) (c : Nat) : Bool :=
  let b := boundOf s c
  b.infeasible || b.mapLoading || (coveChannels s c).any (bitAt s.nand.takingOver)

/-- A read is counted once as excused. -/
def excuse (s : State) (f : Flight) : State :=
  if f.excused || !f.bounded then s
  else
    let s := modFlight s f.seq (fun x => { x with excused := true })
    if f.laddered then s
    else modBound (bump64 s K.boundExcused) f.cove (fun b => { b with excused := satAdd 32 b.excused 1 })

/-- Excuse every bounded read in flight with a codeword to receive that a test accepts. -/
def excuseReads (s : State) (p : CwAddr → Bool) : State :=
  (s.flights.filter (fun f => f.bounded && f.waits.any p)).foldl excuse s

/-- BOUND_STATUS record of a Cove (R287). -/
def boundRecord (s : State) (c : Nat) : Bytes :=
  if Cd.bounded (coveDesc s c) then
    let b := boundOf s c
    let t := coveBound s c
    let ex := excuseAll s || excuseCove s c
    leBytes 1 c ++ leBytes 1 ((if b.infeasible then 2 else 1) + (if ex then 4 else 0) + (if b.mapLoading then 8 else 0))
      ++ leBytes 1 (v s K.boundDieDepth) ++ leBytes 1 (coveDepth s c) ++ leBytes 4 t
      ++ leBytes 4 (if b.infeasible then 0 else Cd.readBound (coveDesc s c) * 1000 - t) ++ leBytes 4 0
      ++ leBytes 4 b.refused ++ leBytes 4 b.early ++ leBytes 4 b.excused ++ leBytes 4 b.missed
  else leBytes 1 c ++ List.replicate 31 0

end Sys2Proof.Machine
end

