-- ==== Sys2Proof/Machine/Relocation.lean ====
section
/-! DEFINITION. Machine/Relocation.lean: "Translation, Reclaim and the Loss Map" and "Media loss in a Cove": relocations,
retirement of blocks and of dies. -/
namespace Sys2Proof.Machine
open Sys2Proof

-- ===== starting a relocation (R175, R176, R180) =====

/-- A relocation of a block runs: of the block itself, or of the whole allocation it belongs to. -/
def moving (s : State) (die block : Nat) : Bool :=
  s.xlat.relocs.any (fun r => (r.srcDie == die && r.srcBlock == block) || (match r.target, (blockAt s die block).use with
    | .whole zk k _, .zone zk' k' _ => zk == zk' && k == k'
    | _, _ => false))

/-- The write buffer's pages on one block are to be programmed into another block. -/
def wbMove (s : State) (die block die' block' : Nat) : State :=
  { s with xlat := { s.xlat with wbuf := s.xlat.wbuf.map (fun e => { e with
      locs := (e.locs.map (fun l => if l.1 = die ∧ l.2.1 = block then (die', block', l.2.2) else l)).eraseDups }) } }

/-- Register a relocation. -/
def addReloc (s : State) (k : RelocKind) (die block : Nat) (t : RelocTarget) : State :=
  { s with xlat := { s.xlat with relocs := s.xlat.relocs ++ [⟨s.xlat.nextReloc, k, die, block, t, 0⟩], nextReloc := s.xlat.nextReloc + 1 } }

/-- The destination blocks of a relocation: die and block. -/
def RelocTarget.blocks : RelocTarget → List (Nat × Nat)
  | .alloc _ _ _ d b => [(d, b)]
  | .whole _ _ bs => bs
  | .pages _ => []

/-- The target with another block in the place of a destination block. -/
def RelocTarget.replace (t : RelocTarget) (q q' : Nat × Nat) : RelocTarget :=
  match t with
  | .alloc zk k p d b => if (d, b) = q then .alloc zk k p q'.1 q'.2 else t
  | .whole zk k bs => .whole zk k (bs.map (fun x => if x = q then q' else x))
  | .pages _ => t

/-- New places in the open stripe of a Cove for mapped logical blocks. -/
def placeAll (s : State) (c : Nat) (l : List (Nat × PLoc)) : List (Nat × PLoc × PLoc) × State :=
  l.foldl (fun acc x =>
    match placePage acc.2 c ((nsOf s (x.1 / 2 ^ 64)).elim 4096 Ns.blk) with
    | some (q, s) => (acc.1 ++ [(x.1, x.2, q)], s)
    | none => acc) ([], s)

/-- Data of the write buffer that a move takes to a new place is programmed there. -/
def wbMovePage (s : State) (key : Nat) (q : PLoc) : State :=
  { s with xlat := { s.xlat with wbuf := s.xlat.wbuf.map (fun e =>
      if lkey e.nsid e.lba = key then { e with locs := [(q.die, q.block, (cwAt s q.die q.block (q.slot * 4096)).wl)] } else e) } }

/-- A fresh block takes the pages that the write buffer still holds for another (R236): it is to be programmed up to where that one is. -/
def copyInto (s : State) (id : Nat) (src dst : Nat × Nat) (cell : Nat) : State :=
  wbMove (modBlock (takeBlock s dst.1 dst.2 (.copy id) cell) dst.1 dst.2 (fun x => { x with closed := (blockAt s src.1 src.2).closed }))
    src.1 src.2 dst.1 dst.2

/-- No relocation-map entry is free (R175): the whole allocation `k` of a zone is copied to fresh blocks at every position. [DESIGN CHOICE, log entry 57] -/
def startWhole (s : State) (kind : RelocKind) (die block zk k : Nat) : State :=
  let z := zoneAt s zk
  let d := coveDesc s z.cove
  let old := (List.range (Cd.width d)).map (allocAt s zk z k)
  let id := s.xlat.nextReloc
  if old.any (fun o => moving s o.1 o.2) then s
  else
    let (s', bs) := old.zipIdx.foldl (fun (acc : State × List (Nat × Nat)) o =>
      match pickBlock acc.1 d (groupDie d z.group o.2) with
      | some q => (copyInto acc.1 id o.1 q (Cd.cell d), acc.2 ++ [q])
      | none => acc) (s, [])
    if bs.length = old.length then addReloc s' kind die block (.whole zk k bs) else s

/-- Start the relocation of a block: the block of a zone to a fresh block, on the same die or on another (R175); the
mapped pages of a stripe's block to the open stripe. Data the write buffer still holds goes to the destination (R236). [DESIGN CHOICE, log entry 52] -/
def startReloc (s : State) (k : RelocKind) (die block : Nat) : State :=
  if moving s die block then s
  else
    let b := blockAt s die block
    match b.use with
    | .zone zk a p =>
      (match pickBlock s (coveDesc s (zoneAt s zk).cove) die with
      | some (d', b') =>
        if d' ≠ groupDie (coveDesc s (zoneAt s zk).cove) (zoneAt s zk).group p ∧ !relocRoom s k (rkey zk a p) then startWhole s k die block zk a
        else
          let id := s.xlat.nextReloc
          copyInto (addReloc s k die block (.alloc zk a p d' b')) id (die, block) (d', b') b.cell
      | none => s)
    | .stripe id _ =>
      (match s.xlat.stripes.get? id with
      | some x =>
        let hit := s.xlat.pmap.filter (fun q => q.2.die == die && q.2.block == block)
        let (moves, s) := placeAll s x.cove hit
        let s := moves.foldl (fun s m => wbMovePage s m.1 m.2.2) s
        addReloc s k die block (.pages moves)
      | none => s)
    | _ => s

/-- A relocation ends without its switch: data the write buffer holds is programmed at its source again, and the destination
blocks are released (R177). -/
def dropReloc (s : State) (r : Reloc) : State :=
  let s := match r.target with
    | .alloc _ _ _ d b => wbMove s d b r.srcDie r.srcBlock
    | .whole zk k bs => bs.zipIdx.foldl (fun s q =>
        let o := allocAt s zk (zoneAt s zk) k q.2
        wbMove s q.1.1 q.1.2 o.1 o.2) s
    | .pages moves => moves.foldl (fun s m =>
        if s.xlat.wbuf.any (fun e => lkey e.nsid e.lba == m.1 && e.locs.any (fun l => l.1 == m.2.2.die && l.2.1 == m.2.2.block))
        then wbMovePage s m.1 m.2.1 else s) s
  let s := freeCopies s r.id
  { s with xlat := { s.xlat with relocs := s.xlat.relocs.filter (fun x => x.id != r.id) } }

/-- The copy in a destination block of a relocation goes on in a fresh block (R180); where there is none the relocation ends. -/
def redirect (s : State) (r : Reloc) (zk : Nat) (q : Nat × Nat) (fails : Nat) : State :=
  match pickBlock s (coveDesc s (zoneAt s zk).cove) q.1 with
  | some q' =>
    let s := copyInto s r.id q q' (blockAt s q.1 q.2).cell
    { s with xlat := { s.xlat with relocs := s.xlat.relocs.map (fun x =>
        if x.id = r.id then { x with fails := x.fails + fails, target := x.target.replace q q' } else x) } }
  | none => dropReloc s r

-- ===== die retirement (R159, R160, R185, R188) =====

/-- Blocks on a retired die are lost: they enter the poison index, marked with the die until its enumeration closes. -/
def poisonDie (s : State) (nsid die : Nat) (lbas : List Nat) : State :=
  let new := lbas.filter (fun l => !poisoned s nsid l)
  let s := { s with xlat := { s.xlat with poison := new.foldl (fun m l => m.put (lkey nsid l) (3 + 256 * (die + 1))) s.xlat.poison } }
  match nsOf s nsid with
  | some n => if n.zoned then ((new.map (zoneOfLba s n)).eraseDups).foldl (fun s z => lossFlag s nsid z) s else s
  | none => s

/-- A zone has a group position or a block on a die. -/
def zoneOnDie (s : State) (zk : Nat) (z : Zone) (die : Nat) : Bool :=
  z.coveValid && ((List.range (Cd.width (coveDesc s z.cove))).any (fun p => groupDie (coveDesc s z.cove) z.group p == die)
    || s.nand.blocks.any (fun b => b.1 / 32768 == die && (match b.2.use with
      | .zone k _ _ => k == zk
      | _ => false)))

/-- Every block of a die that a use selects. -/
def dieBlocks (s : State) (die : Nat) (p : BlockUse → Bool) : List Nat :=
  (s.nand.blocks.filter (fun b => b.1 / 32768 == die && p b.2.use)).map (fun b => b.1 % 32768)

/-- Logical blocks of a zone on a die that the write buffer does not hold. -/
def zoneLost (s : State) (zk die : Nat) : List Nat :=
  let bs := dieBlocks s die (fun u => match u with
    | .zone k _ _ => k == zk
    | _ => false)
  ((bs.flatMap (fun b => (lbasAt s die b 0 ((slotOf s die).blockBytes (blockAt s die b).cell)).flatMap Prod.snd)).eraseDups).filter
    (fun l => !wbHas s (zk / 2 ^ 32) l)

/-- Writes not acknowledged to a zone that has become Read Only or Offline complete with that status. -/
def endZoneWrites (s : State) (zk : Nat) (st : NvStatus) : State :=
  (s.flights.filter (fun f => zoneWriter s (zk / 2 ^ 32) (zk % 2 ^ 32) f)).foldl (fun s f => completeFlight s f st 0 0) s

/-- A zone loses a die (R159): Read Only while a written block of it is not lost, else Offline. -/
def zoneLosesDie (s : State) (zk die : Nat) : State :=
  let nsid := zk / 2 ^ 32
  let n := nsRec s nsid
  let lost := zoneLost s zk die
  let s := closeUnit s zk 3
  let s := (dieBlocks s die (fun u => match u with
    | .zone k _ _ => k == zk
    | _ => false)).foldl (fun s b =>
      if s.xlat.wbuf.any (fun e => e.locs.any (fun l => l.1 == die && l.2.1 == b)) then startReloc s .retire die b else s) s
  let s := poisonDie s nsid die lost
  let z := zoneAt s zk
  let first := zk % 2 ^ 32 * zoneBlocks s n
  let readable := (rangeFrom first z.applied).any (fun l => !poisoned s nsid l)
  if readable then
    if z.st = .readOnly then s
    else zoneChanged (modZone (endZoneWrites s zk .zoneReadOnly) zk (fun z => { z with st := .readOnly, wp := z.applied, rsv := [] })) nsid (zk % 2 ^ 32)
  else zoneChanged (offlineZone (endZoneWrites s zk .zoneOffline) zk z.cove) nsid (zk % 2 ^ 32)

/-- Mapped pages of conventional namespaces on a die: those of the write buffer get new places, the others are lost. -/
def pagesLoseDie (s : State) (die : Nat) : State :=
  let hit := s.xlat.pmap.filter (fun q => q.2.die == die)
  hit.foldl (fun s q =>
    let nsid := q.1 / 2 ^ 64
    let lba := q.1 % 2 ^ 64
    let n := nsRec s nsid
    if wbHas s nsid lba then
      match placePage s n.firstCove n.blk with
      | some (l, s) => wbMovePage { s with xlat := { s.xlat with pmap := s.xlat.pmap.put q.1 l } } q.1 l
      | none => s
    else poisonDie s nsid die [lba]) s

/-- Relocations of a block on a retired die end, but for data the write buffer holds; a destination on it is taken elsewhere (R180). -/
def relocsLoseDie (s : State) (die : Nat) : State :=
  let s := s.xlat.relocs.foldl (fun s r => match r.target with
    | .alloc _ _ _ d b => if r.srcDie = die ∧ !s.xlat.wbuf.any (fun e => e.locs.any (fun l => l.1 == d && l.2.1 == b)) then dropReloc s r else s
    | .pages _ => if r.srcDie = die then dropReloc s r else s
    | .whole _ _ _ => s) s
  s.xlat.relocs.foldl (fun s r => match r.target with
    | .pages moves =>
      { s with xlat := { s.xlat with relocs := s.xlat.relocs.map (fun x => if x.id = r.id then { x with target := .pages (moves.filter (fun m => m.2.2.die != die)) } else x) } }
    | t => (t.blocks.filter (fun q => q.1 == die)).foldl (fun s q =>
        if s.xlat.relocs.any (fun x => x.id == r.id) then redirect s r (t.zoneOf.getD 0) q 0 else s) s) s

/-- One step of R160: the namespace with the most room in a Cove gives up its Empty zone with the highest ZSLBA. -/
def recoverStep (s : State) (c : Nat) : Option State :=
  let d := coveDesc s c
  if freeOf s c ≥ level s d (Cd.refreshReserve d) then none
  else
    let best := s.nss.foldl (fun (acc : Option (Nat × Nat)) p =>
      let room := p.2.quota.getD c 0 - nsActive s p.1 c
      if p.2.zoned && room > 0 && acc.all (fun a => a.2 < room) then some (p.1, room) else acc) none
    match best with
    | some (nsid, _) =>
      let n := nsRec s nsid
      match ((List.range (zoneCount s n)).reverse).find? (fun i => (zoneAt s (zkey nsid i)).st == .empty) with
      | some i => some (zoneChanged (offlineZone s (zkey nsid i) c) nsid i)
      | none => none
    | none => none

/-- CAPACITY_RECOVERY (R160). -/
def recoverCove : Nat → State → Nat → State
  | 0, s, _ => s
  | n + 1, s, c => match recoverStep s c with
    | some s => recoverCove n s c
    | none => s

/-- DIE_RETIRE (R185): every address on the die is lost but for data the write buffer holds; a die notice is published, zones
go Read Only or Offline, Empty zones are given up until FREE reaches the refresh reserve. [DEDUCED, log entry 59] -/
def dieRetire (s : State) (die : Nat) : State :=
  if dieState s die ≠ 1 then s
  else
    let s := excuseReads s (fun a => a.die == die)
    let s := { s with nand := { s.nand with dies := s.nand.dies.put die 2, luns := s.nand.luns.del die } }
    let s := bump (domChanged s K.nandDieState) K.diesRetired 16 1
    let inCoves := (coves s).filter (fun c => (Cd.dies (coveDesc s c)).contains die)
    let s := inCoves.foldl (fun s c => lossPend s 0xFFFFFFFF 0 0 3 8 die c) s
    let s := { s with xlat := { s.xlat with enumerating := s.xlat.enumerating ++ [die] } }
    let zs := s.zones.filter (fun p => p.2.st != .empty && p.2.st != .offline && zoneOnDie s p.1 p.2 die)
    let s := zs.foldl (fun s p => zoneLosesDie s p.1 die) s
    let s := relocsLoseDie (pagesLoseDie s die) die
    let s := { s with
      flights := s.flights.map (fun f => { f with waits := f.waits.filter (fun a => a.die != die) })
      nand := { s.nand with ladders := s.nand.ladders.filter (fun l => l.die != die) } }
    let s := inCoves.foldl (fun s c =>
      if Cd.thin (coveDesc s c) then s else recoverCove (sumNat (s.nss.map (fun p => p.2.quota.getD c 0))) s c) s
    capCheck s

-- ===== block retirement (R184) =====

/-- Retired blocks of a die: bad blocks that a failure has retired. [DEDUCED, log entry 59] -/
def retiredBlocks (s : State) (die : Nat) : Nat := (s.nand.blocks.filter (fun p => p.1 / 32768 == die && p.2.bad && p.2.failed)).length

/-- BLOCK_RETIRE: the block leaves PHYS_TOTAL; too many retired blocks retire the die (R185). -/
def blockRetire (s : State) (die block : Nat) : State :=
  let s := bump32 (modBlock s die block (fun b => { b with bad := true, failed := true, use := .free, stale := false, due := false, pending := none })) K.blocksRetired
  if retiredBlocks s die * 1024 > v s K.dieRetireFraction * (slotOf s die).blocks then dieRetire s die else capCheck s

/-- A block that has failed, or has a retire verdict: its readable data is relocated first (R184); one without data is
retired at once. [DEDUCED, log entry 57] -/
def blockFails (s : State) (die block : Nat) : State :=
  let s := modBlock s die block (fun b => { b with failed := true })
  match (blockAt s die block).use with
  | .zone _ _ _ => startReloc s .retire die block
  | .stripe _ _ => startReloc s .retire die block
  | .copy _ => s
  | _ => if (blockAt s die block).bad then s else blockRetire s die block

-- ===== the switch (R176) =====

/-- The source of a relocation has nothing left that names it: released, or retired where it has failed. -/
def sourceDone (s : State) (die block : Nat) : State :=
  if (blockAt s die block).failed then blockRetire s die block else releaseBlock s die block

/-- A destination block takes the place of the block it was copied from, in a zone. -/
def takesPlace (s : State) (src dst : Nat × Nat) (zk k p : Nat) : State :=
  let b := blockAt s src.1 src.2
  modBlock s dst.1 dst.2 (fun x => { x with
    use := .zone zk k p, closed := b.closed, firsts := Nat.max x.firsts b.firsts, finals := Nat.max x.finals b.finals, progTime := time64 s })

/-- The switch of a whole allocation: the zone record names the new blocks, and no relocation-map entry is left (R175). -/
def switchWhole (s : State) (zk k : Nat) (bs : List (Nat × Nat)) : State :=
  let z := zoneAt s zk
  let d := coveDesc s z.cove
  let old := (List.range bs.length).map (allocAt s zk z k)
  let s := bs.zipIdx.foldl (fun s q => takesPlace s (old.getD q.2 (0, 0)) q.1 zk k q.2) s
  let s := modZone { s with xlat := { s.xlat with relocMap := s.xlat.relocMap.keep (fun key _ => key / 8 != zk * 65536 + k) } } zk
    (fun z => { z with allocs := modNth z.allocs k (fun _ => bs.zipIdx.map (fun q => recEntry (groupDie d z.group q.2) q.1)) })
  releasePassed (old.foldl (fun s o => match (blockAt s o.1 o.2).use with
    | .zone zk' k' _ => if zk' = zk ∧ k' = k then sourceDone s o.1 o.2 else s
    | _ => s) s)

/-- RELOCATION_SWITCH: the destination is verified and takes the source's place in one step; a page whose entry has changed in
the meantime is discarded. [DESIGN CHOICE, log entry 52] -/
def relocationSwitch (s : State) (id : Nat) : State :=
  match s.xlat.relocs.find? (fun r => r.id == id) with
  | none => s
  | some r =>
    let s := { s with xlat := { s.xlat with relocs := s.xlat.relocs.filter (fun x => x.id != id) } }
    match r.target with
    | .alloc zk k p d b =>
      let z := zoneAt s zk
      let home := groupDie (coveDesc s z.cove) z.group p
      let s := takesPlace s (r.srcDie, r.srcBlock) (d, b) zk k p
      let s := if d = home ∨ !relocRoom s .retire (rkey zk k p) then
          modZone { s with xlat := { s.xlat with relocMap := s.xlat.relocMap.del (rkey zk k p) } } zk
            (fun z => { z with allocs := modNth z.allocs k (fun l => setNth l p (recEntry home (d, b))) })
        else { s with xlat := { s.xlat with relocMap := s.xlat.relocMap.put (rkey zk k p) (bkey d b) } }
      releasePassed (sourceDone s r.srcDie r.srcBlock)
    | .whole zk k bs => switchWhole s zk k bs
    | .pages moves =>
      let s := moves.foldl (fun s m =>
        if s.xlat.pmap.get? m.1 = some m.2.1 then
          let n := nsRec s (m.1 / 2 ^ 64)
          mapChanged { s with xlat := { s.xlat with pmap := s.xlat.pmap.put m.1 m.2.2 } } (mapPageOf s (m.1 / 2 ^ 64) n (m.1 % 2 ^ 64))
        else s) s
      match (blockAt s r.srcDie r.srcBlock).use, r.kind with
      | .stripe sid _, .gc => (match s.xlat.stripes.get? sid with
        | some x => if stripeValid s x = 0 then releaseStripe s sid else s
        | none => s)
      | _, .gc => s
      | _, _ => sourceDone s r.srcDie r.srcBlock

end Sys2Proof.Machine
end

