-- ==== Sys2Proof/Machine/Losses.lean ====
section
/-! DEFINITION. Machine/Losses.lean: what follows when stored or transferred data turns out uncorrectable, by what it held
(R18, R314, R326), and when a program fails (R180, R184). -/
namespace Sys2Proof.Machine
open Sys2Proof

/-- The logical blocks that a loss of blocks `slba` to `slba + nlb − 1` of write data takes: in a compressed zone, every
block of each frame that is not raw and holds one of them (R186). -/
def writtenLbas (s : State) (nsid slba nlb : Nat) : List Nat :=
  let l := rangeFrom slba nlb
  match nsOf s nsid with
  | some n =>
    if n.zoned then
      let zone := zoneOfLba s n slba
      let z := zoneAt s (zkey nsid zone)
      let more := (z.frames.filter (fun f => f.kind != 2)).flatMap (fun f =>
        let b := frameLbas s n zone f
        if b.any l.contains then b else [])
      (List.range (zoneBlocks s n)).map (· + zone * zoneBlocks s n) |>.filter (fun x => l.contains x || more.contains x)
    else l
  | none => l

/-- Write data not yet on the media is uncorrectable (R186, R314): in a formed pair the partner's copy replaces it; else
every block it holds is lost. The data's pages are still programmed (R235). -/
def writeDataLost (s : State) (cause nsid slba nlb : Nat) : State :=
  if mirroring s then s else discover s nsid cause 0 0xFFFF (writtenLbas s nsid slba nlb)

/-- A controller reports a fatal status. -/
def setCfs (s : State) (fn : Nat) : State := modInst s fn (fun i => { i with cfs := true })

/-- The functions that exist. -/
def functions (s : State) : List Nat := (List.range 1024).filter (fnExists s)

/-- Every function sets CSTS.CFS; a controller-wide fatal error stops the heartbeat (R330). -/
def cfsAll (s : State) : State := (functions s).foldl setCfs { s with pair := { s.pair with hbOut := false } }

/-- COPY_DEST_FAIL (R180): the destination of a copy fails; a Warning event names the die, the block and the copy's source, the
block is retired, and the copy starts again in a fresh block. -/
def copyDestFail (s : State) (r : Reloc) (die block : Nat) : State :=
  let s := event s Ev.copyDestFail [die, block, r.srcDie, r.srcBlock]
  match r.target with
  | .pages moves =>
    let hit := moves.filter (fun m => m.2.2.die == die && m.2.2.block == block)
    let c := (hit.head?).elim 0 (fun m => (nsRec s (m.1 / 2 ^ 64)).firstCove)
    let (again, s) := placeAll s c (hit.map (fun m => (m.1, m.2.1)))
    let keep := moves.filter (fun m => !(m.2.2.die == die && m.2.2.block == block))
    let s := { s with xlat := { s.xlat with relocs := s.xlat.relocs.map (fun x =>
      if x.id = r.id then { x with fails := x.fails + 1, target := .pages (keep ++ again) } else x) } }
    blockFails s die block
  | x => blockRetire (redirect s r (x.zoneOf.getD 0) (die, block) 1) die block

/-- A page of a block has failed program status (R180, R184): a copy's destination is redirected; any other block is retired
once its readable data has moved. -/
def programFail (s : State) (die block : Nat) : State :=
  let dest := s.xlat.relocs.find? (fun r => match r.target with
    | .pages moves => moves.any (fun m => m.2.2.die == die && m.2.2.block == block)
    | t => t.blocks.contains (die, block))
  match dest with
  | some r => copyDestFail s r die block
  | none => blockFails s die block

/-- A word or transfer that held `h` is uncorrectable, by content (the table of R314; R18). -/
def heldLost (s : State) (cause : Nat) (h : Held) : State :=
  match h with
  | .hostWrite nsid slba nlb => writeDataLost s cause nsid slba nlb
  | .readData _ _ _ => s
  | .mapPage id dirty =>
    let x := s.xlat
    { s with xlat := { x with
        cached := x.cached.filter (· != id)
        cold := if x.cold.contains id then x.cold else x.cold ++ [id]
        dirty := x.dirty.filter (· != id)
        journal := if dirty && !x.journal.contains id then x.journal ++ [id] else x.journal } }
  | .mapJournal nsid slba nlb => discover s nsid 6 0 0xFFFF (rangeFrom slba nlb)
  | .queueContext fn => setCfs s fn
  | .descriptor die block program => if program then programFail s die block else s
  | .strandOffsets strand => { s with nand := { s.nand with offs := s.nand.offs.mapVal (fun k o =>
      if k / 8 / 16 / 256 == strand then { o with cur := (s.nand.offsKept.get? k).getD 0, prev := (s.nand.offsKept.get? k).getD 0, settled := false } else o) } }
  | .mirrorRegion seq =>
    { s with pair := { s.pair with recv := s.pair.recv.map (fun r => if r.seq = seq then { r with good := false } else r) } }
  | .coreData => allReadOnly s
  | .free => s

end Sys2Proof.Machine
end

