-- ==== Sys2Proof/Machine/Ecc.lean ====
section
/-! DEFINITION. Machine/Ecc.lean: "Buffer Pools and Stored-Data Protection": corrected and uncorrectable words, hard
faults, test mode. -/
namespace Sys2Proof.Machine
open Sys2Proof

/-- Key of a word: REGION and address. -/
def wordKey (region address : Nat) : Nat := region * 2 ^ 64 + address

/-- HARD_FAULTS of a region is the number of its table entries. -/
def countHard (s : State) (region : Nat) : State :=
  setV s (unitKey K.hardFaults region) ((s.bufs.hard.filter (fun p => p.1 / 2 ^ 64 == region)).length)

/-- A hard bit of a word (R313): a new entry while there is room, else counted; a second bit of an entry sets TWO_HARD. -/
def hardBit (s : State) (region address bit : Nat) : State :=
  let k := wordKey region address
  match s.bufs.hard.get? k with
  | some h =>
    if h.bitA = bit ∨ h.bitB = some bit ∨ h.bitB.isSome then s
    else
      let s := { s with bufs := { s.bufs with hard := s.bufs.hard.put k { h with bitB := some bit } } }
      event (domChanged s K.hardFaultTable) Ev.hardFaultTwo [region, address]
  | none =>
    if s.bufs.hard.length < 256 then
      let s := { s with bufs := { s.bufs with hard := s.bufs.hard.put k ⟨bit, none, time64 s, 0⟩ } }
      event (countHard (domChanged s K.hardFaultTable) region) Ev.hardFault [region, address, bit]
    else bump32 s K.hardFaultOverflow

/-- ECC_CORRECTION (R313): the word is corrected and counted; a bit wrong again in the second read is a hard fault. -/
def eccCorrected (s : State) (e : WordErr) : State :=
  let s := bump64 s (unitKey K.eccCorrected e.region)
  let s := e.hard.foldl (fun s b => hardBit s e.region e.address b) s
  match s.bufs.hard.get? (wordKey e.region e.address) with
  | some h => domChanged { s with bufs := { s.bufs with hard := s.bufs.hard.put (wordKey e.region e.address) { h with corrections := satAdd 32 h.corrections 1 } } } K.hardFaultTable
  | none => s

/-- The POISON bit of a buffer. -/
def poisonBuf (s : State) (handle : Option Nat) : State :=
  match handle with
  | some h => { s with bufs := { s.bufs with bufs := s.bufs.bufs.upd ((fld h 28 25 * 8 + fld h 31 29) * 2 ^ 21 + fld h 20 0) (fun b => { b with poison := true }) } }
  | none => s

/-- ECC_UNCORRECTABLE (R314): counted, recorded, and acted on by what the word held; a word of a free buffer or an idle
region is rewritten and counted only. -/
def eccUncorrectable (s : State) (e : WordErr) : State :=
  let s := bump32 s (unitKey K.eccUncorrectable e.region)
  if e.held = .free then s
  else
    let s := event s Ev.eccUncorrectable [e.region, e.address]
    let s := setV s K.eccLastUe (e.region + e.address % 2 ^ 64 * 2 ^ 64 + time64 s * 2 ^ 128)
    heldLost (poisonBuf s e.handle) (if e.region = 0 then 4 else 5) e.held

/-- What a read of a word does (R313, R314). -/
def eccRead (s : State) (e : WordErr) : State :=
  if e.uncorrectable then eccUncorrectable s e else if e.bits.isEmpty then s else eccCorrected s e

-- ===== scrubbing (R315, R316) =====

/-- Bytes of SRAM of a region (R303): hub 128 MiB, a channel die 16 MiB less the slices of its gated Strands; the size of
the anchor's SRAM is the implementation's. [DESIGN CHOICE, log entry 49] -/
def sramBytes (s : State) (region : Nat) : Nat :=
  if region = 1 then 134217728
  else if region = 2 ∨ region = 3 then
    16777216 - 2883584 * ((List.range 4).filter (fun i => s.nand.gated.contains (4 * (region - 2) + i))).length
  else Config.anchorSramBytes

/-- Words of a region that a lap reads: the test areas are never scrubbed, and a domain that is off is skipped. [DESIGN CHOICE, log entry 49] -/
def scrubWords (s : State) (region : Nat) : Nat :=
  if region = 0 then (v s K.dramBytes - 65536) / 8
  else if s.power.state ≥ 2 ∧ region ≠ 4 then 0 else sramBytes s region / 8

/-- Lap target of a region, ns. -/
def lapTargetNs (s : State) (region : Nat) : Nat := (if region = 0 then v s K.scrubLapDram else v s K.scrubLapSram) * 1000000000

/-- A lap that has read nothing. [DESIGN CHOICE, log entry 49] -/
def newLap (s : State) (region : Nat) : ScrubLap := ⟨s.clk.nowNs, 0, scrubWords s region⟩

/-- The lap in progress is projected to end more than 25 % late (R315). -/
def scrubBehind (s : State) (region : Nat) (l : ScrubLap) : Bool :=
  let t := s.clk.nowNs - l.startNs
  if l.read = 0 then decide (t * 4 > lapTargetNs s region * 5) else decide (t * l.total * 4 > lapTargetNs s region * l.read * 5)

/-- SCRUB_LAP_END (R316). -/
def scrubLapEnd (s : State) (region : Nat) (l : ScrubLap) : State :=
  let t := s.clk.nowNs - l.startNs
  let s := setV s (unitKey K.scrubLapLast region) (Nat.min (t / 1000000) (2 ^ 32 - 1))
  let s := { s with bufs := { s.bufs with laps := s.bufs.laps.put region (newLap s region) } }
  if t * 10 > lapTargetNs s region * 11 then event s Ev.scrubLapLong [region, t / 1000000] else s

/-- SCRUB_ACCESS: one word, in an idle slot, or in a forced one while the lap is behind. -/
def scrubAccess (s : State) (region : Nat) (idle : Bool) (err : Option WordErr) : State :=
  let l := s.bufs.laps.getD region (newLap s region)
  if region > 4 ∨ l.total = 0 ∨ !vb s K.scrubEnable ∨ s.power.state ≥ 2 ∨ (!idle && !scrubBehind s region l) then s
  else
    let s := if idle then s else bump64 s K.scrubForced
    let s := match err with
      | some e => eccRead s { e with region := region }
      | none => s
    let l := { l with read := l.read + 1 }
    if l.read ≥ l.total then scrubLapEnd s region l else { s with bufs := { s.bufs with laps := s.bufs.laps.put region l } }

def execScrubAccess (region : Nat) (idle : Bool) (err : Option WordErr) (s : State) : Host.Outcome State Fault Refusal :=
  .next (scrubAccess s region idle err)

-- ===== test mode (R317) =====

/-- Bytes of the test area of a region: 64 KiB in DRAM, 4 KiB in a die's SRAM. -/
def testArea (region : Nat) : Nat := if region = 0 then 65536 else if region ≤ 4 then 4096 else 0

/-- The word an ECC test operation names is refused: outside the test area, or its region is off or absent. -/
def eccRefused (s : State) (region : Nat) : Bool :=
  s.bufs.test.offset + 8 > testArea region || s.bufs.test.offset % 8 != 0
    || (s.power.state ≥ 2 && region != 4) || (region == 0 && !s.dram.negotiated)

/-- The test word stored at the offset register: its data and its check bits. [DESIGN CHOICE, log entry 48] -/
def testWord (s : State) (region : Nat) : Nat × Nat :=
  match s.bufs.test.mem.get? (region * 65536 + s.bufs.test.offset) with
  | some x => (x % 2 ^ 64, x / 2 ^ 64)
  | none => (0, Config.eccCheck 0 % 65536)

/-- Change the ECC test registers. -/
def modTest (s : State) (f : EccTest → EccTest) : State := { s with bufs := { s.bufs with test := f s.bufs.test } }

/-- Run an ECC test operation in service mode: with REFUSED it changes nothing else. -/
def eccTestOp (s : State) (region : Nat) (f : EccTest → EccTest) : State :=
  if !s.boot.service then s
  else
    let s := modTest s (fun t => { t with region := region })
    if eccRefused s region then modTest s (fun t => { t with refused := true }) else modTest s (fun t => { f t with refused := false })

/-- Store a test word. -/
def putTest (region data check : Nat) (t : EccTest) : EccTest :=
  { t with mem := t.mem.put (region * 65536 + t.offset) (data % 2 ^ 64 + check % 65536 * 2 ^ 64) }

/-- The data with bits of an 80-bit word flipped, and the check bits likewise. -/
def flip80 (w : Nat) (bits : List Nat) : Nat := bits.foldl (fun w b => w ^^^ 2 ^ b) w

/-- A correction of an 80-bit word by at most two bits: the bits, where the result is a codeword (R312). [DESIGN CHOICE, log entry 48] -/
def eccCorrection (data check : Nat) : Option (List Nat) :=
  let w := data % 2 ^ 64 + check % 65536 * 2 ^ 64
  let good (bits : List Nat) := let x := flip80 w bits; Config.eccCheck (x % 2 ^ 64) % 65536 == x / 2 ^ 64
  let one := (List.range 80).map (fun a => [a])
  let two := (List.range 80).flatMap (fun a => (List.range a).map (fun b => [b, a]))
  ([] :: one ++ two).find? good

/-- OUTCOME of a read of a test word, and its corrected data. [DESIGN CHOICE, log entry 48] -/
def eccDecode (data check : Nat) : Nat × Nat :=
  match eccCorrection data check with
  | some bits => (bits.length, flip80 (data % 2 ^ 64 + check % 65536 * 2 ^ 64) bits % 2 ^ 64)
  | none => (3, data)

def eccTestWrite (s : State) (region : Nat) : State :=
  eccTestOp s region (fun t => putTest region t.data (Config.eccCheck t.data) t)

def eccTestWriteData (s : State) (region : Nat) : State :=
  let w := testWord s region
  eccTestOp s region (fun t => putTest region t.data w.2 t)

def eccTestWriteCheck (s : State) (region : Nat) : State :=
  let w := testWord s region
  eccTestOp s region (fun t => putTest region w.1 t.check t)

/-- A read of a test word reports OUTCOME and SYNDROME, and counts what it detects. -/
def eccTestReport (s : State) (region : Nat) : State :=
  if s.boot.service && !eccRefused s region then
    let (d, c) := testWord s region
    let (o, _) := eccDecode d c
    let s := modTest s (fun t => { t with outcome := o, syndrome := (Config.eccCheck d % 65536) ^^^ c })
    if o = 0 then s else bump32 s K.eccTestDetects
  else s

/-- OP 100: corrected data into DATA. -/
def eccTestReadCorrected (s : State) (region : Nat) : State :=
  let s := eccTestReport s region
  let w := testWord s region
  eccTestOp s region (fun t => { t with data := (eccDecode w.1 w.2).2 })

/-- OP 101: the stored word into DATA and CHECK. -/
def eccTestReadRaw (s : State) (region : Nat) : State :=
  let s := eccTestReport s region
  let w := testWord s region
  eccTestOp s region (fun t => { t with data := w.1, check := w.2 })

def execEccTestWrite (region : Nat) (s : State) : Host.Outcome State Fault Refusal := .next (eccTestWrite s region)
def execEccTestWriteData (region : Nat) (s : State) : Host.Outcome State Fault Refusal := .next (eccTestWriteData s region)
def execEccTestWriteCheck (region : Nat) (s : State) : Host.Outcome State Fault Refusal := .next (eccTestWriteCheck s region)
def execEccTestReadCorrected (region : Nat) (s : State) : Host.Outcome State Fault Refusal := .next (eccTestReadCorrected s region)
def execEccTestReadRaw (region : Nat) (s : State) : Host.Outcome State Fault Refusal := .next (eccTestReadRaw s region)

end Sys2Proof.Machine
end

