-- ==== Sys2Proof/Machine/Buffers.lean ====
section
/-! DEFINITION. Machine/Buffers.lean: "Buffer Pools and Stored-Data Protection": pools, handles, references, watermarks. -/
namespace Sys2Proof.Machine
open Sys2Proof

-- ===== geometry (R303) =====

/-- Buffer sizes of pools 0 to 4. -/
def bufSizes : List Nat := [512, 4096, 16384, 65536, 262144]

/-- Buffers of the pools of a Strand's slice. -/
def slicePools : List Nat := [512, 384, 32, 4, 1]

/-- Buffers of pool `p` of a domain: 0 the hub, 1 to 8 the slices. -/
def poolBufs (s : State) (domain p : Nat) : Nat :=
  if domain = 0 then s.bufs.sizes.getD p 0 else if domain ≤ 8 then slicePools.getD p 0 else 0

/-- Buffers of each hub pool from POOL_MIB; the defaults, with a Warning event, when the five do not sum to 128. -/
def poolSetup (s : State) : State :=
  let mib := (List.range 5).map (fun p => v s (unitKey K.poolMib p))
  let sizes := if sumNat mib = 128 then (mib.zip bufSizes).map (fun x => x.1 * 2 ^ 20 / x.2) else [8192, 12288, 1536, 512, 80]
  let s := { s with bufs := { s.bufs with sizes := sizes, bufs := [], waiting := [] } }
  let s := if sumNat mib = 128 then s else event s Ev.poolSizeDefault [sumNat mib]
  (List.range 5).foldl (fun s p =>
    let n := sizes.getD p 0
    setV (setV s (unitKey K.poolBuffers p) n) (unitKey K.wmRecord p) (n * 2 ^ 32)) s

-- ===== watermarks (R309 to R311) =====

/-- Free buffers of a pool. -/
def freeBufs (s : State) (domain p : Nat) : Nat :=
  poolBufs s domain p - (s.bufs.bufs.filter (fun b => b.2.alloc && b.1 / 2 ^ 21 == domain * 8 + p)).length

/-- Free write buffer in 64 KiB units: what the data not yet passed and the open units' staging leave. -/
def writeBufferFree (s : State) : Nat :=
  v s K.capWriteBuffer - ceilDiv (sumNat (s.xlat.wbuf.map WbEnt.bytes) + sumNat (s.zones.map (fun z => z.2.unit.elim 0 OpenUnit.staged))) 65536

/-- Free capacity that a watermark watches. -/
def wmFree (s : State) (w : Nat) : Nat := if w < 5 then freeBufs s 0 w else writeBufferFree s

/-- Watermark record fields. -/
def wmLevel (r : Nat) : Bool := bitAt r 0
def wmCrossed (r : Nat) : Bool := bitAt r 1
def wmCrossings (r : Nat) : Nat := fld r 31 16
def wmExtreme (r : Nat) : Nat := fld r 63 32
def wmPack (level crossed : Bool) (crossings extreme : Nat) : Nat :=
  (if level then 1 else 0) + (if crossed then 2 else 0) + crossings * 2 ^ 16 + extreme * 2 ^ 32

/-- WATERMARK_CROSSING (R309): the record follows the free capacity; CROSSED going from 0 to 1 records a Notice event and
posts an asynchronous event to each PF (R311). A threshold of 0 disables the watermark. -/
def watermark (s : State) (w : Nat) : State :=
  let r := v s (unitKey K.wmRecord w)
  let free := wmFree s w
  let t := v s (unitKey K.wmThreshold w)
  let h := v s (unitKey K.wmHysteresis w)
  let level := if t = 0 then false else if free < t then true else if free ≥ t + h then false else wmLevel r
  let cross := level && !wmLevel r
  let s' := setV s (unitKey K.wmRecord w)
    (wmPack level (wmCrossed r || cross) (if cross then satAdd 16 (wmCrossings r) 1 else wmCrossings r) (Nat.min (wmExtreme r) free))
  if cross && !wmCrossed r then aenPfs (event s' Ev.watermarkCrossed [w, free]) (.watermark w) else s'

/-- The six watermarks. -/
def watermarks (s : State) : State := (List.range 6).foldl watermark s

/-- WM_RECORD_RC (R310): the record is returned; CROSSED and CROSSINGS clear and EXTREME takes the current free capacity. -/
def wmRecordRead (s : State) (w : Nat) : Nat × State :=
  let r := v s (unitKey K.wmRecord w)
  (r, setV s (unitKey K.wmRecord w) (wmPack (wmLevel r) false 0 (wmFree s w)))

-- ===== handles (R307, R308) =====

/-- Key of a buffer. -/
def bufKey (domain p i : Nat) : Nat := (domain * 8 + p) * 2 ^ 21 + i

/-- A handle, and its fields. -/
def mkHandle (domain p tag i : Nat) : Nat := p * 2 ^ 29 + domain * 2 ^ 25 + tag * 2 ^ 21 + i
def hPool (h : Nat) : Nat := fld h 31 29
def hDomain (h : Nat) : Nat := fld h 28 25
def hTag (h : Nat) : Nat := fld h 24 21
def hIndex (h : Nat) : Nat := fld h 20 0

/-- A buffer that has never been granted. -/
def Buf.fresh : Buf := ⟨false, 0, 0, false, 0⟩

/-- A buffer. -/
def bufAt (s : State) (k : Nat) : Buf := s.bufs.bufs.getD k Buf.fresh

/-- The handle names a buffer of the geometry. -/
def handleOk (s : State) (h : Nat) : Bool := hPool h < 5 && hDomain h ≤ 8 && hIndex h < poolBufs s (hDomain h) (hPool h)

/-- BP_REFUSED (R308): nothing of the buffer changes; the code is counted, recorded and returned. -/
def bpRefuse (s : State) (code h requester : Nat) : State :=
  let s := { s with bufs := { s.bufs with code := code } }
  let s := if code = 1 ∨ code = 4 then bump32 s K.bpDoubleFrees else if code = 2 ∨ code = 5 then bump32 s K.bpStaleHandles
    else if code = 3 then bump32 s K.bpRefOverflows else s
  event (setV s K.bpLastFault (code * 2 ^ 56 + requester % 256 * 2 ^ 48 + h % 2 ^ 32)) Ev.bpRefused [code, h, requester]

/-- The lowest free index of a pool. -/
def lowestFree (s : State) (domain p : Nat) : Option Nat :=
  (List.range (poolBufs s domain p)).find? (fun i => !(bufAt s (bufKey domain p i)).alloc)

/-- The pool a request of `bytes` goes to first. -/
def poolFor (bytes : Nat) : Option Nat := (List.range 5).find? (fun p => bytes ≤ bufSizes.getD p 0)

/-- Grant a buffer (R307): state bit, count 1, TAG advanced, POISON cleared. -/
def grantBuf (s : State) (domain p i inst : Nat) : State :=
  let k := bufKey domain p i
  let tag := ((bufAt s k).tag + 1) % 16
  { s with bufs := { s.bufs with bufs := s.bufs.bufs.put k ⟨true, 1, tag, false, inst⟩, granted := some (mkHandle domain p tag i), code := 0 } }

/-- Granules of 512 bytes charged to an owner: an instance, or 0xFFFF for background work (R305). -/
def granulesOf (s : State) (own : Nat → Bool) : Nat :=
  sumNat ((s.bufs.bufs.filter (fun b => b.2.alloc && b.1 / 2 ^ 24 == 0 && own b.2.inst)).map (fun b => bufSizes.getD (b.1 / 2 ^ 21 % 8) 0 / 512))

/-- A hub buffer of pool `p` can be charged to an owner: what is held, with the part of the others' floors and of BG_RESERVE that they
do not use, leaves room for it in CAP_BUFFER (R98, R305). Slice buffers are charged to nobody. [DESIGN CHOICE, log entry 50] -/
def chargeFits (s : State) (domain p own : Nat) : Bool :=
  let c := poolCap s 1
  let unmet (n floor : Nat) : Nat := if n = own then 0 else 8 * floorUnits floor c - granulesOf s (· == n)
  domain != 0 || decide (granulesOf s (fun _ => true) + sumNat ((committed s).map (fun n => unmet n (vi s K.floor n))) + unmet 0xFFFF (v s K.bgReserve)
    + bufSizes.getD p 0 / 512 ≤ 8 * c)

/-- Grant a request from its pool, or, with SPILL_ENABLE, from the next larger one (R304); none where neither can. -/
def tryGrant (s : State) (q : BufReq) : Option State :=
  match poolFor q.bytes with
  | none => none
  | some p =>
    match lowestFree s q.domain p with
    | some i => if chargeFits s q.domain p q.inst then some (watermarks (grantBuf s q.domain p i q.inst)) else none
    | none =>
      if vb s K.spillEnable && p < 4 && chargeFits s q.domain (p + 1) q.inst then
        (lowestFree s q.domain (p + 1)).map (fun i => watermarks (bump64 (grantBuf s q.domain (p + 1) i q.inst) K.bpSpills))
      else none

/-- BUFFER_ALLOCATE (R304): above 256 KiB it is refused with BP_BAD_SIZE; a request that cannot be granted waits. [DESIGN CHOICE, log entry 50] -/
def bufferAllocate (s : State) (domain bytes requester inst : Nat) : State :=
  if domain > 8 then bpRefuse s 5 (mkHandle (domain % 16) 0 0 0) requester
  else if (poolFor bytes).isNone then bpRefuse s 6 0 requester
  else match tryGrant s ⟨domain, bytes, requester, inst⟩ with
    | some s => s
    | none => { s with bufs := { s.bufs with waiting := s.bufs.waiting ++ [⟨domain, bytes, requester, inst⟩], granted := none } }

def execBufferAllocate (domain bytes requester inst : Nat) (s : State) : Host.Outcome State Fault Refusal :=
  .next (bufferAllocate s domain bytes requester inst)

/-- BUFFER_ACQUIRE (R307). -/
def bufferAcquire (s : State) (h requester : Nat) : State :=
  let k := bufKey (hDomain h) (hPool h) (hIndex h)
  let b := bufAt s k
  if !handleOk s h then bpRefuse s 5 h requester
  else if !b.alloc then bpRefuse s 4 h requester
  else if b.tag ≠ hTag h then bpRefuse s 2 h requester
  else if b.refs ≥ 255 then bpRefuse s 3 h requester
  else { s with bufs := { s.bufs with bufs := s.bufs.bufs.put k { b with refs := b.refs + 1 }, code := 0 } }

def execBufferAcquire (handle requester : Nat) (s : State) : Host.Outcome State Fault Refusal := .next (bufferAcquire s handle requester)

/-- Waiting requests are granted in arrival order as far as the pools reach. [DESIGN CHOICE, log entry 50] -/
def grantWaiting : Nat → State → State
  | 0, s => s
  | n + 1, s => match s.bufs.waiting.find? (fun q => (tryGrant s q).isSome) with
    | some q => (match tryGrant s q with
      | some s' => grantWaiting n { s' with bufs := { s'.bufs with waiting := s'.bufs.waiting.erase q } }
      | none => s)
    | none => s

/-- BUFFER_RELEASE (R307): the release that brings the count to 0 frees the buffer, which the next waiter may take. -/
def bufferRelease (s : State) (h requester : Nat) : State :=
  let k := bufKey (hDomain h) (hPool h) (hIndex h)
  let b := bufAt s k
  if !handleOk s h then bpRefuse s 5 h requester
  else if !b.alloc then bpRefuse s 1 h requester
  else if b.tag ≠ hTag h then bpRefuse s 2 h requester
  else
    let b' := if b.refs ≤ 1 then { b with refs := 0, alloc := false } else { b with refs := b.refs - 1 }
    let s := { s with bufs := { s.bufs with bufs := s.bufs.bufs.put k b', code := 0 } }
    if b'.alloc then s else grantWaiting s.bufs.waiting.length (watermarks s)

def execBufferRelease (handle requester : Nat) (s : State) : Host.Outcome State Fault Refusal := .next (bufferRelease s handle requester)

end Sys2Proof.Machine
end

