-- ==== Sys2Proof/Machine/Dram.lean ====
section
/-! DEFINITION. Machine/Dram.lean: "DRAM Controller": negotiation, layout, address mapping, queues and pick order, row
activates, retraining pauses. -/
namespace Sys2Proof.Machine
open Sys2Proof

-- ===== geometry (R288, R293) =====

/-- Data devices of a subchannel for a WIDTH code. -/
def dataDevices (width : Nat) : Nat := if width = 1 then 8 else if width = 2 then 4 else 2

/-- GiB of a device for a DENSITY code: 8, 16 or 32 Gbit. -/
def deviceGib (density : Nat) : Nat := if density = 1 then 1 else if density = 2 then 2 else 4

/-- Bytes of one channel: two subchannels × ranks × data devices × density. -/
def channelBytes (ranks width density : Nat) : Nat := 2 * ranks * dataDevices width * deviceGib density * 2 ^ 30

/-- Bits of COLUMN, of the bank address, of the bank group and of the rank (R293). -/
def columnBits (width : Nat) : Nat := if width = 1 then 7 else 6
def baBits (density : Nat) : Nat := if density = 1 then 1 else 2
def bgBits (width : Nat) : Nat := if width = 3 then 2 else 3
def rankBits (ranks : Nat) : Nat := if ranks = 2 then 1 else 0

/-- Home bit of each bank-select bit BA0, BA1, BG0, BG1, BG2, RANK; none for one the geometry lacks. -/
def homeBits (ranks width density : Nat) : List (Option Nat) :=
  let c := 7 + columnBits width
  let g := c + baBits density
  let r := g + bgBits width
  [some c, if baBits density = 2 then some (c + 1) else none, some g, some (g + 1), if bgBits width = 3 then some (g + 2) else none,
   if ranks = 2 then some r else none]

/-- The lowest bit of ROW. -/
def rowBit (ranks width density : Nat) : Nat := 7 + columnBits width + baBits density + bgBits width + rankBits ranks

/-- Bits of a channel-local address. -/
def channelBits (ranks width density : Nat) : Nat := log2Fuel 64 (channelBytes ranks width density)

/-- The check of mask `i` at power-on (R294): its own home bit, no other home bit, no bit of L[6:0], none above the address. -/
def maskOk (ranks width density : Nat) (masks : List Nat) (i : Nat) : Bool :=
  let homes := homeBits ranks width density
  let m := masks.getD i 0
  match homes.getD i none with
  | none => true
  | some h =>
    bitAt m h && m % 128 == 0 && m / 2 ^ channelBits ranks width density == 0
      && (List.range 6).all (fun j => j == i || (homes.getD j none).all (fun x => !bitAt m x))

/-- Channel of a DRAM address, and its channel-local address L (R293). -/
def dramChannel (a : Nat) : Nat := a / 256 % 6
def dramLocal (a : Nat) : Nat := a / 256 / 6 * 256 + a % 256

/-- Parity of a number below 2^64. -/
def parity (x : Nat) : Nat := popCount 64 x % 2

/-- Bank-select bit `i` of L: the parity of L AND its mask (R294). -/
def bankBit (s : State) (l i : Nat) : Nat :=
  match (homeBits s.dram.ranks s.dram.width s.dram.density).getD i none with
  | some _ => parity (l &&& s.dram.masks.getD i 0)
  | none => 0

/-- Subchannel (0 A, 1 B), bank (rank × 32 + bank group × 4 + bank) and row of L. -/
def subOf (l : Nat) : Nat := l / 64 % 2
def bankOf (s : State) (l : Nat) : Nat :=
  bankBit s l 5 * 32 + (bankBit s l 4 * 4 + bankBit s l 3 * 2 + bankBit s l 2) * 4 + bankBit s l 1 * 2 + bankBit s l 0
def dramRow (s : State) (l : Nat) : Nat := l / 2 ^ rowBit s.dram.ranks s.dram.width s.dram.density

-- ===== negotiation and layout (R290 to R292) =====

/-- The rates of R290. -/
def dramRates : List Nat := [8000, 7200, 6400, 6000, 5600, 5200, 4800, 4400, 4000, 3600, 3200]

/-- The rate a channel reaches: the first one at or below the target at which it trains. -/
def dramReached (target : Nat) (passes : List Nat) : Option Nat := dramRates.find? (fun r => r ≤ target && passes.contains r)

/-- The cause of a fatal channel (0 none): 1 geometry, 2 training. -/
def dramCause (want target : Nat) (x : Nat × List Nat) : Nat :=
  if x.1 ≠ want then 1 else if (dramReached target x.2).isNone then 2 else 0

/-- One channel fails: OUTCOME 0x03 and a Fatal event. -/
def dramFatal (s : State) (ch cause offered : Nat) : State :=
  event (negFail s (unitKey K.dramNegotiation ch) 3 offered) Ev.dramNegFatal [ch, cause]

/-- A new subchannel: nothing queued, no row open. [DESIGN CHOICE, log entry 7] -/
def SubCh.fresh : SubCh := ⟨[], [], 63, false, [], [], [], 0, []⟩

/-- A subchannel (channel × 2 + subchannel) and a channel. -/
def subAt (s : State) (k : Nat) : SubCh := s.dram.subs.getD k SubCh.fresh
def chanAt (s : State) (ch : Nat) : DramCh := s.dram.chans.getD ch ⟨false, none, 0, []⟩

/-- The write buffer in GiB (R292): the entry, or its computed default, within DRAM_BYTES ÷ 8. [DEDUCED, log entry 47] -/
def writeBufferGib (s : State) (bytes : Nat) : Nat :=
  let limit := bytes / 8 / 2 ^ 30
  match s.dict.get? K.writeBufferGib with
  | some x => Nat.min x limit
  | none => Nat.min 12 limit

/-- Bytes of the map cache region: what the fixed regions leave (R292). -/
def mapCacheOf (s : State) (bytes gib : Nat) : Nat :=
  bytes - 2 ^ 25 - 2 ^ 30 - gib * 2 ^ 30 - (if s.pair.enabled then gib * 2 ^ 30 else 0)

/-- DRAM is divided into its regions (R292), and watermark 5 watches the write buffer. -/
def dramLayout (s : State) (bytes : Nat) : State :=
  let gib := writeBufferGib s bytes
  let asked := v s K.writeBufferGib
  let s := if (s.dict.get? K.writeBufferGib).isSome ∧ gib < asked then event s Ev.writeBufferLimited [asked, gib] else s
  let s := setV s K.writeBufferGib gib
  let s := setV (setV s K.capWriteBuffer (gib * 16384)) K.mapCacheBytes (mapCacheOf s bytes gib)
  setV s (unitKey K.wmRecord 5) (gib * 16384 * 2 ^ 32)

/-- The bank masks are checked and put in force (R294). -/
def dramMasks (s : State) (ranks width density : Nat) : State :=
  let m := (List.range 6).map (fun i => v s (unitKey K.bankXorMask i))
  match (List.range 6).find? (fun i => !maskOk ranks width density m i) with
  | none => { s with dram := { s.dram with masks := m } }
  | some i =>
    event { s with dram := { s.dram with masks := (homeBits ranks width density).map (fun h => h.elim 0 (2 ^ ·)) } } Ev.xorMaskInvalid
      [0x5001 * 256 + (i + 1)]

/-- DRAM_NEGOTIATION (R290). -/
def dramNegotiate (s : State) (channels : List (Nat × List Nat)) : State :=
  let geo := v s K.dramGeometry
  let target := v s K.dramTargetRate
  let offered := target * 2 ^ 16 + geo % 2 ^ 16
  let want := fld geo 15 4
  let ranks := fld geo 15 12
  let width := fld geo 11 8
  let density := fld geo 7 4
  let bytes := 6 * channelBytes ranks width density
  let at_ (ch : Nat) : Nat × List Nat := channels.getD ch (0, [])
  let bad := (List.range 6).filter (fun ch => dramCause want target (at_ ch) != 0)
  if !bad.isEmpty then
    cfsAll { bad.foldl (fun s ch => dramFatal s ch (dramCause want target (at_ ch)) offered) s with dram := { s.dram with failed := true } }
  else if bytes > 192 * 2 ^ 30 then
    cfsAll { (List.range 6).foldl (fun s ch => dramFatal s ch 3 offered) s with dram := { s.dram with failed := true } }
  else
    let rate := ((List.range 6).map (fun ch => (dramReached target (at_ ch).2).getD 0)).foldl Nat.min 8000
    let mode := rate * 2 ^ 16 + want * 16
    let s := (List.range 6).foldl (fun s ch =>
      let s := negSettle s (unitKey K.dramNegotiation ch) 3 mode offered
      if mode = offered then s else event s Ev.dramNegLower [ch, mode]) s
    let s := setV (setV (setV s K.dramBytes bytes) K.dramRate rate) K.dramUsable (36 * rate)
    let s := { s with dram := { s.dram with
      negotiated := true, failed := false, ranks := ranks, width := width, density := density
      chans := (List.range 6).map (fun ch => (ch, ⟨true, none, 0, []⟩)), subs := [] } }
    dramLayout (dramMasks s ranks width density) bytes

def execDramNegotiation (channels : List (Nat × List Nat)) (s : State) : Host.Outcome State Fault Refusal := .next (dramNegotiate s channels)

-- ===== row activates (R298, R299) =====

/-- Change a subchannel. -/
def modSub (s : State) (k : Nat) (f : SubCh → SubCh) : State := { s with dram := { s.dram with subs := s.dram.subs.put k (f (subAt s k)) } }

/-- Change a channel. -/
def modChan (s : State) (ch : Nat) (f : DramCh → DramCh) : State := { s with dram := { s.dram with chans := s.dram.chans.put ch (f (chanAt s ch)) } }

/-- The lowest count of a table, 0 for an empty one. -/
def lowCount : List (Nat × Nat) → Nat
  | [] => 0
  | [x] => x.2
  | x :: r => Nat.min x.2 (lowCount r)

/-- An activate of a row enters a bank's table of 64: the table, whether an entry was replaced, and the row's count. [DESIGN CHOICE, log entry 45] -/
def tableActivate (t : List (Nat × Nat)) (row : Nat) : List (Nat × Nat) × Bool × Nat :=
  match t.find? (fun x => x.1 == row) with
  | some x => (t.map (fun y => if y.1 = row then (row, y.2 + 1) else y), false, x.2 + 1)
  | none =>
    if t.length < 64 then (t ++ [(row, 1)], false, 1)
    else
      let low := lowCount t
      match t.find? (fun x => x.2 == low) with
      | some x => (t.map (fun y => if y.1 = x.1 then (row, low + 1) else y), true, low + 1)
      | none => (t, false, 0)

/-- ROW_MITIGATION (R298): a row that reaches ACT_THRESHOLD has its neighbours refreshed; its count becomes the lowest of
the others in the table. -/
def activate (s : State) (k bank row : Nat) : State :=
  let t := (subAt s k).rows.getD bank []
  let (t, replaced, count) := tableActivate t row
  let s := if replaced then bump64 s K.rowTableReplacements else s
  let hot := decide (count ≥ v s K.actThreshold)
  let t := if hot then t.map (fun y => if y.1 = row then (row, lowCount (t.filter (fun z => z.1 != row))) else y) else t
  let s := if hot then bump64 s K.rowMitigations else s
  modSub s k (fun b => { b with rows := b.rows.put bank t, openRow := b.openRow.put bank row, hits := b.hits.put bank 0, lastAct := bank })

-- ===== the queues (R295, R296) =====

/-- Requests of a bank that may be served next: none has an earlier request for its burst before it. -/
def SubCh.first (b : SubCh) (bank : Nat) : List DramReq :=
  (b.queue.filter (fun r => r.bank == bank)).foldl (fun acc r => if acc.any (fun x => x.burst == r.burst) then acc else acc ++ [r]) []

/-- The request of a bank that is served next (R295): one older than 2 µs; else an open-row hit, up to the cap while other
banks wait; reads before writes, or writes first while the subchannel drains. [DESIGN CHOICE, log entry 45] -/
def pickReq (b : SubCh) (bank now cap : Nat) : Option DramReq :=
  let c := b.first bank
  match c.find? (fun r => decide (now - r.ns > 2000)) with
  | some r => some r
  | none =>
    let hit (r : DramReq) : Bool := b.openRow.get? bank == some r.row
    let capped := decide (b.hits.getD bank 0 ≥ cap) && b.queue.any (fun r => r.bank != bank)
    let pref := c.filter (fun r => if capped then !hit r else hit r)
    let l := if pref.isEmpty then c else pref
    match l.find? (fun r => r.write == b.draining) with
    | some r => some r
    | none => l.head?

/-- The bank served at a command opportunity: the first that has a request and whose next command the timing allows,
from the bank after the last activate. [DESIGN CHOICE, log entry 45] -/
def pickBank (b : SubCh) (ready : List Nat) : Option Nat :=
  ((List.range 64).map (fun i => (b.lastAct + 1 + i) % 64)).find? (fun k => ready.contains k && b.queue.any (fun r => r.bank == k))

/-- Draining starts at 192 queued writes and stops at 64. -/
def SubCh.drain (b : SubCh) : SubCh :=
  let w := (b.queue.filter DramReq.write).length
  { b with draining := if w ≥ 192 then true else if w ≤ 64 then false else b.draining }

/-- A bank queue has room for a request: 16 a bank, 256 a subchannel. -/
def SubCh.room (b : SubCh) (bank : Nat) : Bool :=
  b.queue.length < 256 && (b.queue.filter (fun r => r.bank == bank)).length < 16

/-- Requests at the input enter the queues in order while there is room. -/
def SubCh.takeIn : Nat → SubCh → SubCh
  | 0, b => b
  | n + 1, b => match b.input with
    | r :: t => if b.room r.bank then SubCh.takeIn n { b with queue := b.queue ++ [r], input := t } else b
    | [] => b

/-- Contents of a burst. [DESIGN CHOICE, log entries 7, 46] -/
def burstData (s : State) (burst : Nat) : Nat := s.dram.mem.getD burst 0

/-- A write of a burst takes effect; its words' earlier errors are gone (R314). [DESIGN CHOICE, log entry 46] -/
def putBurst (s : State) (burst data : Nat) : State :=
  { s with dram := { s.dram with
      mem := if data % 2 ^ 512 = 0 then s.dram.mem.del burst else s.dram.mem.put burst (data % 2 ^ 512)
      poisoned := s.dram.poisoned.filter (fun w => w / 8 != burst) } }

/-- WRITE_CRC_RETRY (R302): at 5,600 MT/s and above a failed write is repeated up to 3 times; a fourth failure is an
uncorrectable word. -/
def serveWrite (s : State) (r : DramReq) (o : DramOpp) : State :=
  let n := if v s K.dramRate ≥ 5600 then o.crcFails else 0
  let s := bump s K.writeCrcRetries 32 (Nat.min n 3)
  if n ≤ 3 then putBurst s r.burst r.data
  else
    let s := { s with dram := { s.dram with poisoned := (List.range 8).map (· + 8 * r.burst) ++ s.dram.poisoned.filter (fun w => w / 8 != r.burst) } }
    let e : WordErr := o.errs.headD { region := 0, address := r.burst * 64, bits := [], hard := [], uncorrectable := true, held := .free, handle := none }
    eccUncorrectable s { e with region := 0 }

/-- A read of a burst returns its data, corrected; the errors of its words follow R313 and R314. -/
def serveRead (s : State) (r : DramReq) (o : DramOpp) : State :=
  let s := { s with dram := { s.dram with lastRead := some (r.burst, burstData s r.burst) } }
  o.errs.foldl (fun s e => eccRead s { e with region := 0 }) s

/-- A channel serves no request: before its training, in self-refresh, or in a pause (R297, R300). -/
def dramBlocked (s : State) (ch : Nat) : Bool :=
  !(chanAt s ch).ready || s.dram.selfRefresh || ((chanAt s ch).pauseNs.any (fun t => decide (s.clk.nowNs < t + 1000)))

/-- One command opportunity of a subchannel. -/
def dramServe (s : State) (k : Nat) (o : DramOpp) : State :=
  if dramBlocked s (k / 2) then s
  else
    let b := subAt s k
    match (pickBank b o.ready).bind (fun bank => pickReq b bank s.clk.nowNs (v s K.rowHitCap)) with
    | none => s
    | some r =>
      let hit := b.openRow.get? r.bank == some r.row
      let s := if hit then modSub s k (fun b => { b with hits := b.hits.updD r.bank 0 (· + 1) }) else activate s k r.bank r.row
      let s := modSub s k (fun b => SubCh.drain (SubCh.takeIn 256 { b with queue := b.queue.erase r }))
      if r.write then serveWrite s r o else serveRead s r o

/-- DRAM_REQUEST: a read of a burst whose write is queued returns that write's data; else the request enters its bank queue,
or waits at the input; then the command opportunities are taken. -/
def dramRequest (s : State) (addr : Nat) (write : Bool) (data : Nat) (opps : List DramOpp) : State :=
  let l := dramLocal addr
  let k := dramChannel addr * 2 + subOf l
  let r : DramReq := { burst := addr / 64, write := write, data := data % 2 ^ 512, bank := bankOf s l, row := dramRow s l, ns := s.clk.nowNs }
  let b := subAt s k
  let s := match (if write then none else ((b.queue ++ b.input).filter (fun x => x.write && x.burst == r.burst)).getLast?) with
    | some x => { s with dram := { s.dram with lastRead := some (x.burst, x.data) } }
    | none => modSub s k (fun b => SubCh.drain (SubCh.takeIn 256 { b with input := b.input ++ [r] }))
  opps.foldl (fun s o => dramServe s k o) s

def execDramRequest (addr : Nat) (write : Bool) (data : Nat) (opps : List DramOpp) (s : State) : Host.Outcome State Fault Refusal :=
  .next (dramRequest s addr write data opps)

/-- Entry into self-refresh drains every queue, each burst in arrival order (R296, R297). -/
def dramDrain (s : State) : State :=
  let s := s.dram.subs.foldl (fun s p => (p.2.queue ++ p.2.input).foldl (fun s r =>
    if r.write then putBurst s r.burst r.data else { s with dram := { s.dram with lastRead := some (r.burst, burstData s r.burst) } }) s) s
  { s with dram := { s.dram with subs := s.dram.subs.mapVal (fun _ b => { b with queue := [], input := [], draining := false, openRow := [], hits := [] }) } }

-- ===== refresh (R297, R299) =====

/-- SAME_BANK_REFRESH: the bank address `ba` of a rank is refreshed in every bank group, which closes those banks' rows;
one that falls due in a pause is issued after it, and none is issued in self-refresh. [DESIGN CHOICE, log entry 45] -/
def sameBankRefresh (s : State) (ch sub rank ba : Nat) : State :=
  let k := ch * 2 + sub
  if s.dram.selfRefresh || !(chanAt s ch).ready then s
  else if dramBlocked s ch then modSub s k (fun b => { b with owed := b.owed ++ [rank * 4 + ba] })
  else modSub s k (fun b =>
    let due := b.owed ++ [rank * 4 + ba]
    { b with refreshed := b.refreshed + due.length, owed := []
             openRow := b.openRow.keep (fun x _ => !due.contains (x / 32 * 4 + x % 4)) })

def execSameBankRefresh (channel sub rank ba : Nat) (s : State) : Host.Outcome State Fault Refusal :=
  .next (sameBankRefresh s channel sub rank ba)

/-- ROW_TABLE_CLEAR (R299). -/
def rowTableClear (s : State) : State :=
  { s with dram := { s.dram with subs := s.dram.subs.mapVal (fun _ b => { b with rows := [] }) } }

def execRowTableClear (s : State) : Host.Outcome State Fault Refusal := .next (rowTableClear s)

-- ===== retraining pauses (R300, R301) =====

/-- Step `i` of the rotation: 12 steps for each rank of both subchannels. -/
def rotationStep (i : Nat) : Retrain :=
  let sub := i / 12 % 2
  let rank := i / 24
  match i % 12 with
  | 0 => .oscStart sub rank
  | 1 => .oscRead sub rank
  | n => if n < 7 then .rdq sub rank (n - 2) else .wdq sub rank (n - 7)

/-- The RDQ and WDQ steps of a rank. -/
def driftSteps (sub rank : Nat) : List Retrain :=
  (List.range 5).map (Retrain.rdq sub rank) ++ (List.range 5).map (Retrain.wdq sub rank)

/-- RETRAIN_PAUSE: one step, in Flood or Ebb, at least 500 µs after the channel's last pause and 83 µs after the package's;
drift above OSC_DRIFT_LIMIT inserts the rank's RDQ and WDQ steps. -/
def retrainPause (s : State) (ch drift : Nat) : State :=
  let c := chanAt s ch
  let apart (t : Option Nat) (ns : Nat) : Bool := t.all (fun t => decide (s.clk.nowNs ≥ t + ns))
  if s.power.state ≥ 2 || s.dram.selfRefresh || !c.ready || !apart c.pauseNs 500000 || !apart s.dram.lastPauseNs 83000 then s
  else
    let (step, rest, pos) := match c.inserted with
      | x :: r => (x, r, c.pos)
      | [] => (rotationStep c.pos, [], (c.pos + 1) % (24 * Nat.max s.dram.ranks 1))
    let (more, beyond) := match step with
      | .oscRead sub rank => if drift > v s K.oscDriftLimit then (driftSteps sub rank, true) else ([], false)
      | _ => ([], false)
    let s := modChan s ch (fun c => { c with pauseNs := some s.clk.nowNs, pos := pos, inserted := rest ++ more })
    let s := bump64 { s with dram := { s.dram with lastPauseNs := some s.clk.nowNs } } K.retrainPauses
    if beyond then bump32 s K.retrainDriftEvents else s

def execRetrainPause (channel drift : Nat) (s : State) : Host.Outcome State Fault Refusal := .next (retrainPause s channel drift)

end Sys2Proof.Machine
end

