-- ==== Sys2Proof/Machine/Flags.lean ====
section
/-! DEFINITION. Machine/Flags.lean: the status and flag values of the block's answers: MP_ codes and the NVMe status each
maps to in band (R61), and RSFLAGS. -/
namespace Sys2Proof.Machine
open Sys2Proof

/-- NVMe status of an MP_ code (R61). -/
def mpNvme (st : Nat) : NvStatus :=
  if st = 0x00 then .success
  else if st = 0x04 ∨ st = 0x13 then .accessDenied
  else if st = 0x0A ∨ st = 0x0B then .commandInterrupted
  else if st = 0x0C ∨ st = 0x0D ∨ st = 0x0E then .commandSequenceError
  else if st = 0x0F then .dataTransferError
  else if st = 0x10 then .internalError
  else .invalidField

/-- RSFLAGS: PENDING, STALE_DOMAIN_OFF, PERSISTED, DOMAIN_END. -/
def rsFlags (pending stale persisted domainEnd : Bool) : Nat :=
  (if pending then 1 else 0) + (if stale then 2 else 0) + (if persisted then 4 else 0) + (if domainEnd then 8 else 0)

/-- Completion Dword 0 of an in-band write: STATUS, and the low 24 bits of APPLY_TIDE (R54). -/
def mpDw0 (st tide : Nat) : Nat := st % 256 + tide % 2 ^ 24 * 256

end Sys2Proof.Machine
end

