-- ==== Sys2Proof/Machine/Operands.lean ====
section
/-! DEFINITION. Machine/Operands.lean: the operand forms of the dictionary: a value against its entry's type and range
(R44, R45), the bytes of a Miowa message (R53), privilege, and the instance a request selects (R42, R43, R419). -/
namespace Sys2Proof.Machine
open Sys2Proof

/-- The integer a value of a type spells: I16 and I32 are two's complement. -/
def asSigned (size x : Nat) : Int := if x ≥ 2 ^ (8 * size - 1) then (x : Int) - 2 ^ (8 * size) else x

/-- The MP_ code that refuses a value of `size` bytes for its range, or 0 (R44, R45). -/
def Range.check (r : Range) (size x : Nat) : Nat :=
  match r with
  | .any => 0
  | .between lo hi => if lo ≤ x ∧ x ≤ hi then 0 else 0x07
  | .oneOf vs => if vs.contains x then 0 else 0x07
  | .step lo hi m => if lo ≤ x ∧ x ≤ hi ∧ x % m = 0 then 0 else 0x07
  | .orZero lo hi => if x = 0 ∨ (lo ≤ x ∧ x ≤ hi) then 0 else 0x07
  | .signed lo hi => if lo ≤ asSigned size x ∧ asSigned size x ≤ hi then 0 else 0x07
  | .bits m => if x &&& m = x then 0 else 0x08

/-- The range check of a row; a BOOL holds 0 or 1. -/
def Row.check (r : Row) (x : Nat) : Nat := if r.ty = 7 ∧ x > 1 then 0x07 else r.range.check r.size x

/-- Minimum and maximum that DESCRIBE returns (R418): the widest bounds; 0 where not numeric. [DEDUCED, log entry 114] -/
def Row.bounds (r : Row) : Nat × Nat :=
  match r.range with
  | .between lo hi => (lo, hi)
  | .step lo hi _ => (lo, hi)
  | .orZero _ hi => (0, hi)
  | .signed lo hi => ((lo % 2 ^ 32).toNat, (hi % 2 ^ 32).toNat)
  | .oneOf vs => (vs.foldl Nat.min (vs.headD 0), maxNat vs)
  | _ => if r.ty ≤ 4 then (0, Nat.min (2 ^ (8 * r.size) - 1) (2 ^ 32 - 1)) else (0, 0)

/-- A number for each path. -/
def pathCode : Path → Nat
  | .i3c0 => 0
  | .i3c1 => 1
  | .vdmA => 2
  | .vdmB => 3
  | .fn n => 16 + n

/-- The path is out of band: an endpoint of the management fabric. -/
def outOfBand : Path → Bool
  | .fn _ => false
  | _ => true

/-- Largest value of one message, or segment (R53, R54). -/
def segMost : Path → Nat
  | .i3c0 => 1024
  | .i3c1 => 1024
  | _ => 4096

/-- The privilege of a path (R42): 1 tenant, 2 manager, 3 service while it holds service mode (R399). -/
def privOf (s : State) (p : Path) : Nat :=
  if s.boot.service && s.boot.servicePath == some p then 3
  else match p with
    | .fn n => if isPf s n then 2 else 1
    | _ => 2

/-- Instances that can be named. -/
def instCount (_s : State) : Nat := 1024

/-- The instance field of the key an accepted request names (0 for a package entry), or an MP_ code (R43, R419);
NS_TMPL_QUOTA (0x3030) exists for PF instances alone. -/
def selectInst (s : State) (r : Row) (p : Path) (field : Nat) : Except Nat Nat :=
  if !r.perInst then (if field = 0 then .ok 0 else .error 0x01)
  else
    let own := match p with
      | .fn n => some n
      | _ => none
    let n := if field = 0 ∨ privOf s p < 2 then own else if field - 1 < instCount s then some (field - 1) else none
    match n with
    | none => .error 0x01
    | some n => if r.idx = 0x3030 ∧ !isPf s n then .error 0x01 else .ok (n + 1)

/-- The header and value bytes of a request, over which its CRC-32C runs (R53). -/
def MiowaReq.bytes (r : MiowaReq) : Bytes :=
  leBytes 1 (r.ver % 16 * 16 + r.op % 16) ++ leBytes 1 r.flags ++ leBytes 2 r.tag ++ leBytes 2 r.index ++ leBytes 1 r.sub
    ++ leBytes 1 r.resv7 ++ leBytes 2 r.inst ++ leBytes 2 r.resv10 ++ leBytes 4 r.off ++ r.value

end Sys2Proof.Machine
end

