-- ==== Sys2Proof/Machine/Miowa.lean ====
section
/-! DEFINITION. Machine/Miowa.lean: the part of "The Miowa Parameter Dictionary" that every family uses: the answer to a
request, the checks every request passes, and the write or read of an entry that has a row of its own. -/
namespace Sys2Proof.Machine
open Sys2Proof

/-- What a request is answered with, but for its value: status, RSFLAGS, and the applying tide if there is one. -/
structure Ans where
  st : Nat
  flags : Nat
  tide : Option Nat
deriving DecidableEq, Repr

/-- An answer with a status alone. -/
def Ans.code (st : Nat) : Ans := ⟨st, 0, none⟩

/-- The bytes of a response: header and value. -/
def Resp.bytes (r : Resp) : Bytes :=
  leBytes 1 (0x18 + r.op) ++ leBytes 1 r.status ++ leBytes 2 r.tag ++ leBytes 2 r.flags ++ leBytes 2 0 ++ leBytes 8 r.applyTide
    ++ leBytes 4 r.domVersion ++ leBytes 4 r.value.length ++ r.value

/-- Answer a request (R61): it is counted; in band its carrying command completes with the status that the code maps to,
and a GET or DESCRIBE returns the whole response in its 4 KiB buffer (R54). -/
def respond (s : State) (path : Path) (op tag cid idx sub : Nat) (a : Ans) (version : Nat) (value : Bytes) : State :=
  let tide := a.tide.getD s.clk.tide
  let r : Resp := { op := op, status := a.st, tag := tag, flags := a.flags, applyTide := tide, domVersion := version, value := value }
  let s := bump32 { s with miowa := { s.miowa with resp := s.miowa.resp.put (pathCode path) r } } K.mpRequests
  let s := if a.st = 0 then s
    else setV (bump32 s K.mpRefused) K.mpLastRefusal (a.st * 2 ^ 24 + sub % 256 * 2 ^ 16 + idx % 65536)
  match path with
  | .fn n =>
    if op = 1 ∨ op = 3 then complete (dmaOut s n (r.bytes.take 4096)) ⟨n, 0, cid, 0, false⟩ (mpNvme a.st) a.st
    else complete s ⟨n, 0, cid, 0, false⟩ (mpNvme a.st) (mpDw0 a.st tide)
  | _ => s

/-- Row and key of the entry a request names, or the MP_ code that refuses it: 0xF000 and above (R42, R417), an entry or an
instance that does not exist, an entry above the path's privilege. [DEDUCED, log entry 10] -/
def lookup (s : State) (path : Path) (idx sub field : Nat) : Except Nat (Row × Nat) :=
  if idx ≥ 0xF000 then .error (if privOf s path ≥ 3 then 0x01 else 0x13)
  else match rowOf idx sub with
    | none => .error 0x01
    | some r =>
      match selectInst s r path field with
      | .error e => .error e
      | .ok i => if r.priv > privOf s path then .error 0x04 else .ok (r, entryKey idx sub i)

/-- A write of an entry that has a row of its own: the entry must exist, the path may write it, the value lies in its range.
`f` is the entry's own effect, with the instance of its key; its state stands with the answer it gives. -/
def accessWrite (s : State) (a : Access) (idx sub value : Nat) (f : State → Nat → Ans × State) : State :=
  match lookup s a.path idx sub a.inst with
  | .error e => respond s a.path 2 a.tag a.cid idx sub (.code e) 0 []
  | .ok (r, key) =>
    if r.check value ≠ 0 then respond s a.path 2 a.tag a.cid idx sub (.code (r.check value)) 0 []
    else
      let (ans, s) := f s (key % 2048 - 1)
      respond s a.path 2 a.tag a.cid idx sub ans 0 []

/-- A write of an entry of bytes that has a row of its own, of the length `len` (0: any length). A DOMAIN entry arrives as
the last segment of a transfer (opcode 0x5). -/
def accessBytes (s : State) (a : Access) (idx sub len : Nat) (value : Bytes) (f : State → Nat → Ans × State) : State :=
  let op := match rowOf idx sub with
    | some r => if r.ty = 14 then 5 else 2
    | none => 2
  match lookup s a.path idx sub a.inst with
  | .error e => respond s a.path op a.tag a.cid idx sub (.code e) 0 []
  | .ok (_, key) =>
    if len ≠ 0 ∧ value.length ≠ len then respond s a.path op a.tag a.cid idx sub (.code 0x06) 0 []
    else
      let (ans, s) := f s (key % 2048 - 1)
      respond s a.path op a.tag a.cid idx sub ans 0 []

/-- A read of an entry that has a row of its own: `f` gives the value and the state after it. -/
def accessRead (s : State) (a : Access) (idx sub : Nat) (f : State → Nat → Bytes × State) : State :=
  match lookup s a.path idx sub a.inst with
  | .error e => respond s a.path 1 a.tag a.cid idx sub (.code e) 0 []
  | .ok (_, key) =>
    let (v, s) := f s (key % 2048 - 1)
    respond s a.path 1 a.tag a.cid idx sub (.code 0) 0 v

end Sys2Proof.Machine
end

