-- ==== Sys2Proof/Machine/CodeFlash.lean ====
section
/-! DEFINITION. Machine/CodeFlash.lean: the code flash of "Code Store, Boot and Security": descriptors, words, banks, the
maker regions, firmware slots, boot selection and firmware update. -/
namespace Sys2Proof.Machine
open Sys2Proof

-- ===== words (R377 to R379) =====

/-- An erased word. -/
def cfErased : Nat := 2 ^ 256 - 1

/-- The 32-byte word numbered `w` (flash address ÷ 32). -/
def cfWord (s : State) (w : Nat) : Nat := s.cf.words.getD w cfErased

/-- A word takes a value; erased words are not listed. -/
def cfPut (s : State) (w x : Nat) : State :=
  { s with cf := { s.cf with words := if x = cfErased then s.cf.words.del w else s.cf.words.put w x } }

/-- `n` bytes of the flash from word `w`, byte `off`. -/
def cfBytes (s : State) (w off n : Nat) : Bytes :=
  (((List.range (ceilDiv (off + n) 32)).flatMap (fun i => leBytes 32 (cfWord s (w + i)))).drop off).take n

/-- Program one word: only 1 bits turn to 0 (R378). -/
def cfProgramWord (s : State) (w x : Nat) : State :=
  let s := cfPut s w (cfWord s w &&& x)
  bump64 { s with cf := { s.cf with progs := s.cf.progs.updD w 0 (· + 1) } } K.cfPrograms

/-- Erase one 4 KiB sector: 128 words. -/
def cfEraseSector (s : State) (sec : Nat) : State :=
  let outside (k : Nat) : Bool := k / 128 != sec
  let n := s.cf.erases.getD sec 0 + 1
  let s := { s with cf := { s.cf with words := s.cf.words.keep (fun k _ => outside k), progs := s.cf.progs.keep (fun k _ => outside k),
                                      erases := s.cf.erases.put sec n } }
  bump64 (setV s K.cfSectorErasesMax (Nat.max (v s K.cfSectorErasesMax) n)) K.cfErases

/-- Words of a byte string, padded with 0xFF. -/
def cfWordsOf : Nat → Bytes → List Nat
  | 0, _ => []
  | n + 1, b =>
    let p := b.take 32
    leNat (p ++ List.replicate (32 - p.length) 0xFF) :: cfWordsOf n (b.drop 32)

-- ===== descriptors (R380 to R382) =====

/-- Write policy of a region: 0 INTERNAL, 1 UPDATE, 2 PASSWORD, 3 LOCKED. -/
def cfPolicy (r : Nat) : Nat :=
  if r ≤ 24 ∨ (32 ≤ r ∧ r ≤ 55) then 1 else if r = 26 ∨ (29 ≤ r ∧ r ≤ 31) then 3 else if r = 62 ∨ r = 63 then 2 else 0

/-- Bank of an address. -/
def cfBank (address : Nat) : Nat := address / 0x2000000

/-- ADDRESS or COUNT breaks the descriptor table. -/
def cfMisaligned (op : Nat) (d : CfDesc) : Bool :=
  let sectors := op = 2 ∨ op = 3
  let bytes := if sectors then 4096 * d.count else 32 * d.count
  decide (d.count = 0 ∨ d.address + bytes > 0x4000000 ∨ (sectors ∧ (d.address % 4096 ≠ 0 ∨ d.count > 256
    ∨ d.address / 0x100000 ≠ (d.address + bytes - 1) / 0x100000)) ∨ (¬ sectors ∧ (d.address % 32 ≠ 0
    ∨ d.count > (if op = 1 then 128 else 32768))) ∨ (op = 1 ∧ d.address / 4096 ≠ (d.address + bytes - 1) / 4096))

/-- The region's write policy allows the issuer. -/
def cfAllowed (s : State) (d : CfDesc) : Bool :=
  let r := d.address / 0x100000
  match cfPolicy r with
  | 0 => d.issuer == 0
  | 1 => d.issuer == 1
  | 2 => d.issuer == 2 && s.boot.service && s.cf.unlocked.contains r
  | _ => false

/-- The words of a PROGRAM that break R378. -/
def cfBreaksRule (s : State) (d : CfDesc) (ws : List Nat) : Bool :=
  (List.range d.count).any (fun i =>
    let w := d.address / 32 + i
    let x := ws.getD i cfErased % 2 ^ 256
    s.cf.progs.getD w 0 ≥ 2 || x &&& cfWord s w != x)

/-- The CF_ code that refuses an operation before it touches the array, or 0. [DEDUCED, log entry 76] -/
def cfCheck (s : State) (o : CfOp) : Nat :=
  let d := o.d
  let writes := o.op = 1 ∨ o.op = 2
  if d.resv then 0x0B
  else if cfMisaligned o.op d then 0x04
  else if writes ∧ !cfAllowed s d then 0x02
  else if writes ∧ d.execBank = some (cfBank d.address) then 0x01
  else if o.op = 2 ∧ !s.boot.service ∧ (List.range d.count).any (fun i => s.cf.erases.getD (d.address / 4096 + i) 0 ≥ 100000) then 0x09
  else if o.op = 1 ∧ cfBreaksRule s d o.words then 0x03
  else 0

/-- CF_LAST_STATUS: the code and ADDRESS ÷ 4. [DEDUCED, log entry 77] -/
def cfLast (s : State) (code address : Nat) : State := setV s K.cfLastStatus (code * 2 ^ 24 + address / 4 % 2 ^ 24)

/-- A completion. -/
def cfDone (s : State) (d : CfDesc) (e : CfDone) : State :=
  cfLast { s with cf := { s.cf with completions := s.cf.completions ++ [e] } } e.status d.address

/-- The operation a bank runs. -/
def cfRunning (s : State) (bank : Nat) : Option CfOp := if bank = 0 then s.cf.run0 else s.cf.run1

/-- Set it. -/
def cfSetRun (s : State) (bank : Nat) (o : Option CfOp) : State :=
  if bank = 0 then { s with cf := { s.cf with run0 := o } } else { s with cf := { s.cf with run1 := o } }

/-- Start what may start: the oldest operation of the queue whose bank is idle; requesters that wait enter the queue (R382). [DEDUCED, log entry 76] -/
def cfServe : Nat → State → State
  | 0, s => s
  | n + 1, s =>
    let s := match s.cf.waiting with
      | o :: r => if s.cf.queue.length < 64 then { s with cf := { s.cf with queue := s.cf.queue ++ [o], waiting := r } } else s
      | [] => s
    match s.cf.queue.findIdx? (fun o => (cfRunning s (cfBank o.d.address % 2)).isNone) with
    | none => s
    | some i =>
      match s.cf.queue[i]? with
      | none => s
      | some o =>
        let s := { s with cf := { s.cf with queue := s.cf.queue.eraseIdx i } }
        let code := cfCheck s o
        if code = 0 then cfServe n (cfSetRun s (cfBank o.d.address % 2) (some { o with startNs := s.clk.nowNs }))
        else
          let s := if code = 0x01 then bump32 s K.cfBankRejects else s
          cfServe n (cfDone s o.d ⟨o.d.tag, code, 0, 0, 0xFFFFFFFF⟩)

/-- A descriptor arrives. -/
def cfArrive (s : State) (op : Nat) (d : CfDesc) (words : List Nat) : State :=
  let s := { s with cf := { s.cf with waiting := s.cf.waiting ++ [⟨op, d, words, 0, false⟩] } }
  cfServe (s.cf.queue.length + s.cf.waiting.length) s

def execCfProgram (d : CfDesc) (words : List Nat) (s : State) : Host.Outcome State Fault Refusal := .next (cfArrive s 1 d words)
def execCfErase (d : CfDesc) (s : State) : Host.Outcome State Fault Refusal := .next (cfArrive s 2 d [])
def execCfBlankCheck (d : CfDesc) (s : State) : Host.Outcome State Fault Refusal := .next (cfArrive s 3 d [])
def execCfVerify (d : CfDesc) (words : List Nat) (s : State) : Host.Outcome State Fault Refusal := .next (cfArrive s 4 d words)
def execCfHash (d : CfDesc) (s : State) : Host.Outcome State Fault Refusal := .next (cfArrive s 5 d [])

/-- A word whose program did not end well: some of the bits to clear are cleared (a free value). [DEDUCED, log entry 76] -/
def cfSpoilWord (s : State) (w x : Nat) : State :=
  let (f, s) := freeBelow s (2 ^ 256)
  cfPut s w (cfWord s w &&& (x ||| f))

/-- A sector whose erase did not end well holds free values. [DEDUCED, log entry 76] -/
def cfSpoilSector (s : State) (sec : Nat) : State :=
  (List.range 128).foldl (fun s i => let (f, s) := freeBelow s (2 ^ 256); cfPut s (sec * 128 + i) f) s

/-- How many sectors, or 32-byte units, an operation passes before the first that fails. -/
def firstFail (n : Nat) (p : Nat → Bool) : Option Nat := (List.range n).find? (fun i => !p i)

/-- The end of an operation (R382): what changed, and its completion. `failedAt` is that of a PROGRAM or ERASE. -/
def cfEnd (s : State) (o : CfOp) (failedAt : Option Nat) (us : Nat) : State :=
  let d := o.d
  let w := d.address / 32
  let sec := d.address / 4096
  let k := match failedAt with
    | some k => if k < d.count then some k else none
    | none => none
  let done (s : State) (code : Nat) (bad : Option Nat) (size : Nat) : State :=
    cfDone s d ⟨d.tag, if bad.isSome then code else 0, bad.getD d.count, us, bad.elim 0xFFFFFFFF (fun k => d.address + size * k)⟩
  if o.op = 1 then
    let s := (List.range (k.getD d.count)).foldl (fun s i => cfProgramWord s (w + i) (o.words.getD i cfErased % 2 ^ 256)) s
    let s := k.elim s (fun k => cfSpoilWord s (w + k) (o.words.getD k cfErased % 2 ^ 256))
    done s 0x05 k 32
  else if o.op = 2 then
    let s := (List.range (k.getD d.count)).foldl (fun s i => cfEraseSector s (sec + i)) s
    let s := k.elim s (fun k => cfSpoilSector s (sec + k))
    done s 0x06 k 4096
  else if o.op = 3 then
    done s 0x06 (firstFail d.count (fun i => !s.cf.words.any (fun p => p.1 / 128 == sec + i))) 4096
  else if o.op = 4 then
    done s 0x0C (firstFail d.count (fun i => cfWord s (w + i) == o.words.getD i cfErased % 2 ^ 256)) 32
  else done { s with cf := { s.cf with hashOut := Config.sha3 (cfBytes s w 0 (32 * d.count)) } } 0 none 32

/-- CF_OPERATION_COMPLETE. -/
def cfOperationComplete (s : State) (bank : Nat) (failedAt : Option Nat) (us : Nat) : State :=
  match cfRunning s bank with
  | none => s
  | some o =>
    let s := cfEnd (cfSetRun s bank none) o failedAt us
    cfServe (s.cf.queue.length + s.cf.waiting.length) s

/-- A program or erase of a sector is in progress. -/
def cfSectorBusy (s : State) : Bool := [s.cf.run0, s.cf.run1].any (fun o => o.any (fun o => o.op == 1 || o.op == 2))

/-- CF_SUSPEND (R381): the operation of a bank is suspended, every waiting read served, and the operation resumed. -/
def cfSuspend (s : State) (bank : Nat) : State :=
  match cfRunning s bank with
  | some o =>
    if (o.op = 1 ∨ o.op = 2) ∧ !o.d.noSuspend ∧ !s.wdt.deferred then
      bump64 (cfSetRun s bank (some { o with startNs := s.clk.nowNs })) K.cfSuspends
    else s
  | none => s

def execCfSuspend (bank : Nat) (s : State) : Host.Outcome State Fault Refusal := .next (cfSuspend s bank)

/-- CF_COPY_TO_SRAM (R380). -/
def execCfCopyToSram (src dst len digest : Nat) (s : State) : Host.Outcome State Fault Refusal :=
  .next { s with cf := { s.cf with
    copied := some (dst, len, if Config.sha3 (cfBytes s (src / 32) (src % 32) len) = digest then 0 else 0x0C) } }

/-- Operations cut short by the loss of VDD_AO leave what they reached open (R379). [DEDUCED, log entry 76] -/
def cfCutShort (s : State) : State :=
  let s := (s.cf.run0.toList ++ s.cf.run1.toList).foldl (fun s o =>
    if o.op = 1 then (List.range o.d.count).foldl (fun s i => cfSpoilWord s (o.d.address / 32 + i) (o.words.getD i cfErased % 2 ^ 256)) s
    else if o.op = 2 then (List.range o.d.count).foldl (fun s i => cfSpoilSector s (o.d.address / 4096 + i)) s
    else s) s
  { s with cf := { s.cf with run0 := none, run1 := none, queue := [], waiting := [], completions := [] } }

-- ===== maker regions (R383) =====

/-- CF_PASSWORD_W: word `w` of the password; out of order, the sequence restarts. -/
def cfPasswordW (s : State) (a : Access) (w x : Nat) : State :=
  accessWrite s a 0x8001 (1 + w) x (fun s _ =>
    if w = s.cf.pwWords.length then (.code 0, { s with cf := { s.cf with pwWords := s.cf.pwWords ++ [x] } })
    else (.code 0x0D, { s with cf := { s.cf with pwWords := [] } }))

def execCfPasswordW (a : Access) (w x : Nat) (s : State) : Host.Outcome State Fault Refusal := .next (cfPasswordW s a w x)

/-- The 128-bit number four words spell. -/
def pwNumber (l : List Nat) : Nat := leNat (l.flatMap (leBytes 4))

/-- CF_UNLOCK_REGION. [DEDUCED, log entry 77] -/
def cfUnlockRegion (s : State) (a : Access) (x : Nat) : State :=
  accessWrite s a 0x8001 5 x (fun s _ =>
    let address := x * 0x100000
    if s.cf.pwFails ≥ 3 then (.code 0x0F, cfLast s 0x08 address)
    else if s.cf.pwWords.length ≠ 4 then (.code 0x0D, s)
    else
      let same := decide (pwNumber s.cf.pwWords = s.cf.password)
      let s := { s with cf := { s.cf with pwWords := [] } }
      if same then (.code 0, { s with cf := { s.cf with unlocked := x :: s.cf.unlocked.filter (· != x) } })
      else
        let s := { s with cf := { s.cf with pwFails := s.cf.pwFails + 1 } }
        (.code 0x0F, cfLast (setV s K.cfPasswordFails (Nat.min 3 (v s K.cfPasswordFails + 1))) 0x07 address))

def execCfUnlockRegion (a : Access) (x : Nat) (s : State) : Host.Outcome State Fault Refusal := .next (cfUnlockRegion s a x)

/-- CF_LOCK_REGION. -/
def execCfLockRegion (a : Access) (x : Nat) (s : State) : Host.Outcome State Fault Refusal :=
  .next (accessWrite s a 0x8001 6 x (fun s _ => (.code 0, { s with cf := { s.cf with unlocked := s.cf.unlocked.filter (· != x) } })))

/-- CF_PASSWORD_CHANGE: while region 62 is unlocked, the four words written replace the password. -/
def execCfPasswordChange (a : Access) (x : Nat) (s : State) : Host.Outcome State Fault Refusal :=
  .next (accessWrite s a 0x8001 7 x (fun s _ =>
    if s.cf.unlocked.contains 62 && s.cf.pwWords.length == 4 then
      (.code 0, { s with cf := { s.cf with password := pwNumber s.cf.pwWords, pwWords := [] } })
    else (.code 0x0D, s)))

-- ===== firmware slots (R384, R385) =====

/-- First word of a slot: 1 A, 2 B. -/
def slotWord (slot : Nat) : Nat := if slot = 2 then 0x100000 else 0

/-- Bytes of a slot: 24 MiB. -/
def slotBytes : Nat := 0x1800000

/-- A header field of the image in a slot. -/
def imgField (s : State) (slot off n : Nat) : Nat := leNat (cfBytes s (slotWord slot) off n)

/-- Header and body of the image. -/
def imgSigned (s : State) (slot : Nat) : Bytes := cfBytes s (slotWord slot) 0 (128 + imgField s slot 12 4)

/-- The activate marker of a slot: that with the highest SEQUENCE. -/
def slotMarker (s : State) (slot : Nat) : Option Marker :=
  (s.cf.markers.filter (fun m => m.slot == slot && m.kind == 1)).foldl (fun acc m => match acc with
    | some b => if b.seq ≤ m.seq then some m else acc
    | none => some m) none

/-- TARGET_ORDERING and TARGET_STEPPING match the part (R64): 1 is the SB2300-S, 2 the SB2300-D, 0 any. [DEDUCED, log entry 78] -/
def targetOk (s : State) (ordering stepping : Nat) : Bool :=
  (ordering == 0 || ordering == v s K.orderingCode) && (stepping == 0 || stepping == v s K.stepping)

/-- The first check of R384 that the image in a slot fails: 1 magic or format, 2 target, 3 digest, 4 signer or signature, 5
security version, 6 marker prefix; 0 when it verifies. `marker` says whether the marker is checked. [DEDUCED, log entry 78] -/
def imageFault (s : State) (slot : Nat) (marker : Bool) : Nat :=
  let f := imgField s slot
  let len := f 12 4
  let body := cfBytes s (slotWord slot) 128 len
  let signed := imgSigned s slot
  let sig := cfBytes s (slotWord slot) (128 + len) 3317
  if f 0 4 ≠ 0x57464253 ∨ f 4 2 ≠ 1 ∨ 128 + len + 3317 > slotBytes then 1
  else if !targetOk s (f 6 1) (f 8 2) then 2
  else if Config.sha384 body ≠ f 24 48 then 3
  else if !(List.range 4).any (fun k => Config.rootKey k == f 72 32 && !bitAt s.boot.revoked k) ∨ leAt sig 0 1 ≠ 2
      ∨ leAt sig 4 4 ≠ 3309 ∨ !Config.sigVerify 2 (f 72 32) signed (sig.drop 8) then 4
  else if f 10 2 < v s K.fwRollbackFuse then 5
  else if marker ∧ (slotMarker s slot).elim true (fun m => Config.sha384 signed % 2 ^ 96 != m.digest) then 6
  else 0

/-- Program a slot marker. -/
def putMarker (s : State) (m : Marker) : State := bump64 { s with cf := { s.cf with markers := s.cf.markers ++ [m] } } K.cfPrograms

/-- The highest SEQUENCE of the activate markers. -/
def lastSeq (s : State) : Nat := maxNat ((s.cf.markers.filter (fun m => m.kind == 1)).map Marker.seq)

/-- Program an activate marker for a slot; FW_BOOT_FALLBACK ends. -/
def activateSlot (s : State) (slot : Nat) : State :=
  let m : Marker :=
    { slot := slot, kind := 1, confirmed := false, seq := lastSeq s + 1, digest := Config.sha384 (imgSigned s slot) % 2 ^ 96 }
  let s := putMarker { s with cf := { s.cf with fallback := false } } m
  setV s K.fwBootFallback 0

/-- The other slot. -/
def otherSlot (slot : Nat) : Nat := if slot = 2 then 1 else 2

/-- The control cores run from a slot (R385): entries of the running image follow. -/
def runSlot (s : State) (slot : Nat) : State :=
  let m := slotMarker s slot
  let s := match m with
    | some x => if x.confirmed then s else putMarker s ⟨slot, 2, false, x.seq, x.digest⟩
    | none => s
  let s := { s with boot := { s.boot with
    recovery := false, slot := slot, markerSeq := m.elim 0 Marker.seq, secVersion := imgField s slot 10 2,
    fwDigest := Config.sha384 (imgSigned s slot) } }
  setV (setV (setV (setV s K.fwRunningSlot slot) K.cfRunningBank (slot - 1)) K.fwRunningVersion (imgField s slot 16 8))
    K.fwBootFallback (if s.cf.fallback then 1 else 0)

/-- The marker the boot ROM starts from, and the SEQUENCE of a marker abandoned after three attempts. -/
def bootMarker (s : State) : Option Marker × Option Nat :=
  let acts := s.cf.markers.filter (fun m => m.kind == 1)
  let best (l : List Marker) : Option Marker := l.foldl (fun acc m => match acc with
    | some b => if b.seq ≤ m.seq then some m else acc
    | none => some m) none
  match best acts with
  | none => (none, none)
  | some m =>
    if !m.confirmed && 3 ≤ (s.cf.markers.filter (fun x => x.kind == 2 && x.seq == m.seq)).length then
      match best (acts.filter (fun x => x.confirmed && x.seq < m.seq)) with
      | some b => (some b, some m.seq)
      | none => (some m, none)
    else (some m, none)

/-- Try the slots in turn; each that fails is an Error event; when none verifies, recovery (R385, R387). [DEDUCED, log entry 79] -/
def bootTry (s : State) (abandoned : Option Nat) : List Nat → State
  | [] => { s with boot := { s.boot with recovery := true } }
  | slot :: r =>
    let c := imageFault s slot true
    if c = 0 then
      match abandoned with
      | some q => event (runSlot { s with cf := { s.cf with fallback := true } } slot) Ev.bootFallback [slot, q]
      | none => runSlot s slot
    else bootTry (event s Ev.bootSlotFailed [slot, c]) abandoned r

/-- BOOT_SLOT_SELECT, then ATTESTATION_KEY_GENERATION (R394): the attestation key pair is fresh at each boot. [DEDUCED, log entries 78, 79] -/
def bootSelect (s : State) : State :=
  let (m, ab) := bootMarker s
  let first := m.elim 1 Marker.slot
  let s := bootTry s ab [first, otherSlot first]
  { s with boot := { s.boot with rdySeen := false, attestPair := s.freeCtr, nonce := none, building := false, report := [] }, freeCtr := s.freeCtr + 1 }

/-- FW_PENDING_SLOT: the slot of an activate marker newer than the running slot's; 0 none. -/
def fwPending (s : State) : Nat :=
  (s.cf.markers.filter (fun m => m.kind == 1 && m.seq > s.boot.markerSeq)).foldl (fun acc m =>
    if m.seq = lastSeq s then m.slot else acc) 0

/-- FW_CONFIRMED. -/
def fwConfirmed (s : State) : Bool := s.cf.markers.any (fun m => m.kind == 1 && m.seq == s.boot.markerSeq && m.slot == s.boot.slot && m.confirmed)

/-- FW_SLOT_VERSION. -/
def slotVersion (s : State) (slot : Nat) : Nat := if imageFault s slot true = 0 then imgField s slot 16 8 else 0

/-- FW_CONFIRM (R386): the second program of the running image's marker, once some function has set CSTS.RDY. -/
def fwConfirm (s : State) : State :=
  if !s.boot.recovery && s.boot.rdySeen && s.cf.markers.any (fun m => m.kind == 1 && m.seq == s.boot.markerSeq && !m.confirmed) then
    bump64 { s with cf := { s.cf with markers := s.cf.markers.map (fun m =>
      if m.kind = 1 ∧ m.seq = s.boot.markerSeq then { m with confirmed := true } else m) } } K.cfPrograms
  else s

def execFwConfirm (s : State) : Host.Outcome State Fault Refusal := .next (fwConfirm s)

-- ===== updates (R387 to R392) =====

/-- Erase the 24 regions of a slot. -/
def eraseSlot (s : State) (slot : Nat) : State :=
  (List.range 6144).foldl (fun s i => cfEraseSector s (slotWord slot / 128 + i)) s

/-- Program bytes into a slot at an offset that is a multiple of 32. -/
def programSlot (s : State) (slot off : Nat) (data : Bytes) : State :=
  let ws := cfWordsOf (ceilDiv data.length 32) data
  (List.range ws.length).foldl (fun s i => cfProgramWord s (slotWord slot + off / 32 + i) (ws.getD i cfErased)) s

/-- FW_RECOVERY_IMAGE (R387): the slot whose last marker has the lower SEQUENCE takes the image; its marker follows when it
verifies. The entry exists in recovery alone. [DEDUCED, log entry 78] -/
def fwRecoveryImage (s : State) (a : Access) (image : Bytes) : State :=
  if !s.boot.recovery then respond s a.path 5 a.tag a.cid 0x8010 0x0A (.code 0x01) 0 []
  else accessBytes s a 0x8010 0x0A 0 image (fun s _ =>
    let q (x : Nat) := (slotMarker s x).elim 0 Marker.seq
    let slot := if q 2 < q 1 then 2 else 1
    if image.length > slotBytes then (.code 0x12, s)
    else
      let s := programSlot (eraseSlot s slot) slot 0 image
      let c := imageFault s slot false
      if c = 0 then (.code 0, activateSlot s slot) else (.code (if c = 4 then 0x11 else 0x12), s))

def execFwRecoveryImage (a : Access) (image : Bytes) (s : State) : Host.Outcome State Fault Refusal := .next (fwRecoveryImage s a image)

/-- FW_ROLLBACK_COMMIT (R392). -/
def execFwRollbackCommit (a : Access) (x : Nat) (s : State) : Host.Outcome State Fault Refusal :=
  .next (accessWrite s a 0x8010 9 x (fun s _ =>
    if x > s.boot.secVersion ∨ x < v s K.fwRollbackFuse then (.code 0x07, s) else (.code 0, setV s K.fwRollbackFuse x)))

/-- The hold on an update ends (R388). -/
def endHold (s : State) : State := { s with cf := { s.cf with hold := none, written := [] } }

/-- FW_UPDATE_HOLD_TIMEOUT. -/
def execFwUpdateHoldTimeout (s : State) : Host.Outcome State Fault Refusal := .next (endHold s)

/-- The status of a Firmware Image Download (R388, R389). [DEDUCED, log entry 78] -/
def downloadStatus (s : State) (c : Cmd) (off len : Nat) : NvStatus :=
  if !isPf s c.fn then .invalidOpcode
  else if c.resv then .invalidField
  else if off % 4096 ≠ 0 ∨ len % 4096 ≠ 0 ∨ len = 0 ∨ off + len > slotBytes then .invalidField
  else if s.cf.hold.any (· != c.fn) then .firmwareProhibited
  else if off ≠ 0 ∧ s.cf.hold.isNone then .commandSequenceError
  else if off ≠ 0 ∧ s.cf.written.any (fun r => r.1 < off + len && off < r.1 + r.2) then .overlappingRange
  else .success

/-- FIRMWARE_IMAGE_DOWNLOAD (R389): at offset 0 the slot that is not running is erased first. -/
def firmwareDownload (s : State) (c : Cmd) (off : Nat) (data : Bytes) : State :=
  let st := downloadStatus s c off data.length
  if !st.isOk then complete s c st 0
  else
    let slot := otherSlot s.boot.slot
    let s := if off = 0 then { eraseSlot s slot with cf := { (eraseSlot s slot).cf with hold := some c.fn, written := [] } } else s
    let s := programSlot s slot off data
    complete { s with cf := { s.cf with written := s.cf.written ++ [(off, data.length)] } } c .success 0

def execFirmwareImageDownload (c : Cmd) (off : Nat) (data : Bytes) (s : State) : Host.Outcome State Fault Refusal :=
  .next (firmwareDownload s c off data)

/-- The slot a Firmware Commit names: 0 is the one that is not running. -/
def commitSlot (s : State) (slot : Nat) : Nat := if slot = 0 then otherSlot s.boot.slot else slot

/-- What refuses a Firmware Commit before its action: `same` says that the running slot may be named, `act` that it activates. -/
def commitGate (s : State) (c : Cmd) (slot : Nat) (same act : Bool) : NvStatus :=
  if !isPf s c.fn then .invalidOpcode
  else if c.resv then .invalidField
  else if s.cf.hold.any (· != c.fn) then .firmwareProhibited
  else if act && s.pair.enabled && s.pair.state != 4 && s.pair.state != 8 then .firmwareProhibited
  else if slot > 2 ∨ (!same ∧ commitSlot s slot = s.boot.slot) then .firmwareInvalidSlot
  else .success

/-- A Commit of the holding PF with CA 001b or 010b ends the hold, whatever its status. -/
def endHoldOf (s : State) (fn : Nat) : State := if s.cf.hold = some fn then endHold s else s

/-- FIRMWARE_COMMIT_VERIFY: CA 000b. -/
def execFirmwareCommitVerify (c : Cmd) (slot : Nat) (s : State) : Host.Outcome State Fault Refusal :=
  let st := commitGate s c slot false false
  .next (complete s c (if !st.isOk then st else if imageFault s (commitSlot s slot) false = 0 then .success else .firmwareInvalidImage) 0)

/-- Activate a slot, or refuse. [DEDUCED, log entry 78] -/
def commitActivate (s : State) (c : Cmd) (slot : Nat) (same marker : Bool) : State :=
  let st := commitGate s c slot same true
  let x := commitSlot s slot
  let s' := endHoldOf s c.fn
  if !st.isOk then complete s' c st 0
  else if imageFault s x marker = 0 then complete (activateSlot s' x) c .firmwareNeedsReset 0
  else complete s' c .firmwareInvalidImage 0

/-- FIRMWARE_COMMIT_REPLACE_ACTIVATE: CA 001b. -/
def execFirmwareCommitReplaceActivate (c : Cmd) (slot : Nat) (s : State) : Host.Outcome State Fault Refusal :=
  .next (commitActivate s c slot false false)

/-- FIRMWARE_COMMIT_ACTIVATE: CA 010b. -/
def execFirmwareCommitActivate (c : Cmd) (slot : Nat) (s : State) : Host.Outcome State Fault Refusal :=
  .next (commitActivate s c slot true true)

end Sys2Proof.Machine
end

