-- ==== Sys2Proof/Machine/Link.lean ====
section
/-! DEFINITION. Machine/Link.lean: "PCIe Ports and Functions": negotiation, link states, BAR writes. Resets of functions
stand in Resets.lean, wakes in Power.lean, the service window in Security.lean. -/
namespace Sys2Proof.Machine
open Sys2Proof

/-- A port trains in the port mode in force: port B only in dual mode (R68, R70). -/
def portActive (s : State) (p : Nat) : Bool := p = 0 || (p = 1 && s.portMode == 0)

/-- PERST_DEASSERT (R71, R75): the subsystem identifiers are loaded and training starts. -/
def perstDeassert (s : State) (p : Nat) : State :=
  if portActive s p && (port s p).perst then
    modPort s p (fun x => { x with perst := false, link := 6, subsysVid := v s K.subsysVendorId, subsysId := v s K.subsysId })
  else s

def execPerstDeassert (port : Nat) (s : State) : Host.Outcome State Fault Refusal := .next (perstDeassert s port)

/-- MODE and OFFERED of a PCIe record (R72). -/
def pcieMode (rate width : Nat) (flit : Bool) : Nat := rate % 256 * 2 ^ 24 + width % 256 * 2 ^ 16 + (if flit then 2 ^ 15 else 0)

/-- OFFERED of a port: TARGET_SPEED, the width of the port mode, FLIT. -/
def pcieOffered (s : State) (p : Nat) : Nat := pcieMode (v s (unitKey K.targetSpeed p)) (if s.portMode = 2 then 16 else 8) true

/-- PCIE_LINK_UP (R72, R81): the record is written; a lower mode is a Warning event; an LTR message that is owed is sent. -/
def pcieLinkUp (s : State) (p rate width : Nat) (flit : Bool) : State :=
  if portActive s p && !(port s p).perst then
    let mode := pcieMode rate width flit
    let offered := pcieOffered s p
    let s := negSettle s (unitKey K.pcieNegotiation p) 1 mode offered
    let s := if mode = offered then s else eventU s Ev.pcieNegLower p [p, mode]
    let s := modPort s p (fun x => { x with link := 1, rate := rate, width := width, flit := flit, l0pWidth := width, refStopped := false })
    let s := if (port s p).ltrDue then ltrSend s p else s
    driveWake s
  else s

def execPcieLinkUp (port rate width : Nat) (flit : Bool) (s : State) : Host.Outcome State Fault Refusal :=
  .next (pcieLinkUp s port rate width flit)

/-- PCIE_TRAINING_TIMEOUT (R72): OUTCOME 0x03; training retries. -/
def pcieTrainingTimeout (s : State) (p : Nat) : State :=
  if (port s p).link = 6 then negFail s (unitKey K.pcieNegotiation p) 1 (pcieOffered s p) else s

def execPcieTrainingTimeout (port : Nat) (s : State) : Host.Outcome State Fault Refusal := .next (pcieTrainingTimeout s port)

/-- The next narrower L0p width (R74, R81). -/
def narrower (x : Port) : Nat := if x.width = 16 then (if x.l0pWidth > 4 then x.l0pWidth / 2 else x.l0pWidth)
  else if x.l0pWidth > 2 then x.l0pWidth / 2 else x.l0pWidth

/-- L0P_NARROW (R81): only in Ebb, on a link in L0 in FLIT mode. -/
def l0pNarrow (s : State) (p : Nat) : State :=
  let x := port s p
  if s.power.state = 1 ∧ (x.link = 1 ∨ x.link = 2) ∧ x.flit ∧ narrower x < x.l0pWidth then
    ltrSend (modPort s p (fun x => { x with l0pWidth := narrower x, link := 2 })) p
  else s

def execL0pNarrow (port : Nat) (s : State) : Host.Outcome State Fault Refusal := .next (l0pNarrow s port)

/-- L0P_WIDEN (R81): full width is requested. -/
def l0pWiden (s : State) (p : Nat) : State :=
  if (port s p).link = 2 then ltrSend (modPort s p (fun x => { x with l0pWidth := x.width, link := 1 })) p else s

def execL0pWiden (port : Nat) (s : State) : Host.Outcome State Fault Refusal := .next (l0pWiden s port)

/-- ASPM_L1_ENTRY (R81, R84): LINK_STATE and the WAKE# conditions change. -/
def aspmL1Entry (s : State) (p link : Nat) (refStopped : Bool) : State :=
  let x := port s p
  if (link = 3 ∨ link = 4 ∨ link = 5) ∧ (1 ≤ x.link ∧ x.link ≤ 5) then
    driveWake (modPort s p (fun x => { x with link := link, refStopped := refStopped && link == 5 }))
  else s

def execAspmL1Entry (port link : Nat) (refStopped : Bool) (s : State) : Host.Outcome State Fault Refusal :=
  .next (aspmL1Entry s port link refStopped)

/-- The best mode an I3C port offers: HDR-DDR at 12.5 MHz. [DEDUCED, log entry 20] -/
def i3cOffered : Nat := 0x02 * 2 ^ 24 + 12500

/-- I3C_NEGOTIATION (R65): I2C/SMBus fallback exists on I3C1 only. [DEDUCED, log entry 20] -/
def i3cNegotiation (s : State) (p mode khz : Nat) : State :=
  if p > 1 ∨ mode > 3 ∨ (mode = 3 ∧ p = 0) then s
  else if mode = 0 then negFail s (unitKey K.i3cNegotiation p) 5 i3cOffered
  else negSettle s (unitKey K.i3cNegotiation p) 5 (mode * 2 ^ 24 + khz % 2 ^ 24) i3cOffered

def execI3cNegotiation (port mode khz : Nat) (s : State) : Host.Outcome State Fault Refusal := .next (i3cNegotiation s port mode khz)

-- ===== BAR writes (R76 to R78) =====

/-- A BAR access is naturally aligned and of a width listed: 4 or 8 bytes. -/
def barGood (off width : Nat) : Bool := (width == 4 || width == 8) && off % width == 0

/-- A write of an NVMe controller register. CC keeps EN and SHN for the rows of their own; offsets are NVMe's. [PRESUMED, log entry 11] -/
def nvmeRegWrite (s : State) (fn off value : Nat) : State :=
  let x := value % 2 ^ 32
  if off = 0x0C then modInst s fn (fun i => { i with intms := i.intms ||| x })
  else if off = 0x10 then modInst s fn (fun i => { i with intms := clearBits i.intms x })
  else if off = 0x14 then modInst s fn (fun i => { i with cc := withBit (x &&& 0xFFFF3FFF ||| (i.cc &&& 0xC000)) 0 (bitAt i.cc 0) })
  else if bitAt (inst s fn).cc 0 then s
  else if off = 0x24 then modInst s fn (fun i => { i with aqa := x &&& 0x0FFF0FFF })
  else if off = 0x28 then modInst s fn (fun i => { i with asq := value % 2 ^ 64 })
  else if off = 0x30 then modInst s fn (fun i => { i with acq := value % 2 ^ 64 })
  else s

/-- REGISTER_WRITE: a BAR write to a register without a row of its own. Reserved ranges are dropped and not counted. -/
def registerWrite (s : State) (fn bar off width value : Nat) : State :=
  if !fnExists s fn then s
  else if !barGood off width then bump32 s K.barBadAccess
  else if bar = 0 then nvmeRegWrite s fn off value
  else if bar = 4 then
    if off < 0x8000 then { s with msixTable := s.msixTable.put (fn * 8192 + off / 4) (value % 2 ^ 32) } else s
  else if bar = 2 then
    if isPf s fn then (if off < 0x400000 then mailboxWrite s (off / 4096) true (off % 4096) width value else s)
    else if off < 0x1000 then mailboxWrite s fn false off width value
    else s
  else s

def execRegisterWrite (fn bar off width value : Nat) (s : State) : Host.Outcome State Fault Refusal :=
  .next (registerWrite s fn bar off width value)

end Sys2Proof.Machine
end

