-- ==== Sys2Proof/Machine/Records.lean ====
section
/-! DEFINITION. Machine/Records.lean: "Event Recorder, Trace FIFO and Telemetry": recorders, read window, freeze, log
page 0xC3, trace FIFO, histograms and heat sketches. -/
namespace Sys2Proof.Machine
open Sys2Proof

-- ===== recorders and window =====

/-- The erase of a COMPACT_CLEAR has ended: the records that waited for it enter the compact recorder (R403). [DEDUCED, log entry 124] -/
def compactEraseEnd (s : State) : State :=
  s.recd.compactWait.foldl compactRec { s with recd := { s.recd with compactWait := [], compactErasing := false } }

/-- STAGING_DRAIN: staged records reach the extended recorder while the media is available and nothing is frozen; an erase of the compact
recorder has ended. [DEDUCED, log entry 124] -/
def drainStaging (s : State) : State :=
  let s := compactEraseEnd s
  if mediaAvailable s && !s.recd.frozen then
    let l := s.recd.staging
    l.foldl extRec { s with recd := { s.recd with staging := [] } }
  else s

def execStagingDrain (s : State) : Host.Outcome State Fault Refusal := .next (drainStaging s)

/-- The window of a PF. -/
def window (s : State) (pf : Nat) : Window := if pf = 1 then s.recd.winB else s.recd.winA

/-- Change the window of a PF. -/
def modWindow (s : State) (pf : Nat) (f : Window → Window) : State :=
  if pf = 1 then { s with recd := { s.recd with winB := f s.recd.winB } }
  else { s with recd := { s.recd with winA := f s.recd.winA } }

/-- A refill of the slots starts: VALID reads 0 until it is done (R405). -/
def Window.refill (w : Window) : Window := { w with loading := true, slots := [] }

/-- The records a window's selected recorder retains: with the media unavailable, SOURCE 0 shows the staging queue. [DEDUCED, log entry 14] -/
def windowSource (s : State) (w : Window) : List Rec :=
  if w.compact then s.recd.compact else if mediaAvailable s then s.recd.ext else s.recd.staging

/-- The first 63 retained records at or after CURSOR that pass MIN_SEVERITY (R405), but for unreadable ones (R404). [DEDUCED, log entry 14] -/
def windowFill (s : State) (w : Window) (bad : List Nat) : List Rec :=
  ((windowSource s w).filter (fun r => w.cursor ≤ r.seq && r.severity ≤ w.minSev && !bad.contains r.seq)).take 63

def execCursorWrite (pf value : Nat) (s : State) : Host.Outcome State Fault Refusal :=
  .next (modWindow s pf (fun w => { w with cursor := value % 2 ^ 64 }.refill))

/-- ADVANCE moves CURSOR past the last valid slot. -/
def Window.advance (w : Window) : Window :=
  { w with cursor := (w.slots.getLast?).elim w.cursor (fun r => r.seq + 1) }.refill

/-- The frozen state follows the two FREEZE bits (R406). A write of FREEZE = 1 begins a freeze and clears THAWED_FULL. -/
def freezeBit (s : State) (pf : Nat) (b : Bool) : State :=
  let s := modWindow s pf (fun w => { w with freeze := b })
  if b then
    { s with recd := { s.recd with thawedFull := false, frozen := true,
                                   freezeStartNs := if s.recd.frozen then s.recd.freezeStartNs else s.clk.nowNs } }
  else if s.recd.frozen && !s.recd.winA.freeze && !s.recd.winB.freeze then thaw s false
  else s

def execWinCtrlWrite (pf value : Nat) (s : State) : Host.Outcome State Fault Refusal :=
  let s := modWindow s pf (fun w => { w with minSev := fld value 10 8, compact := bitAt value 2 })
  let s := modWindow s pf (fun w => if bitAt value 0 then w.advance else w.refill)
  .next (if bitAt value 1 || (window s pf).freeze then freezeBit s pf (bitAt value 1) else s)

def execAdvance (pf : Nat) (s : State) : Host.Outcome State Fault Refusal := .next (modWindow s pf Window.advance)

def execFreeze (pf : Nat) (s : State) : Host.Outcome State Fault Refusal :=
  .next (modWindow (freezeBit s pf true) pf Window.refill)

/-- WINDOW_REFILL_DONE: LOADING clears; records whose page cannot be decoded are skipped and counted (R404). -/
def execWindowRefillDone (pf : Nat) (unreadable : List Nat) (s : State) : Host.Outcome State Fault Refusal :=
  let w := window s pf
  if w.loading then
    let met := (windowSource s w).filter (fun r => w.cursor ≤ r.seq && unreadable.contains r.seq)
    .next (bump (modWindow s pf (fun w => { w with loading := false, slots := windowFill s w unreadable })) K.extUnreadable 32
      (if w.compact then 0 else met.length))
  else .next s

def execFreezeEnd (s : State) : Host.Outcome State Fault Refusal :=
  .next (if s.recd.frozen then thaw s false else s)

-- ===== log page 0xC3 =====

/-- The newest `n` of the retained records a controller may see: those of the extended recorder and of the staging
queue; a VF sees only its own (R407). -/
def snapshotRecs (s : State) (fn n : Nat) : List Rec :=
  let l := (s.recd.ext ++ s.recd.staging).filter (fun r => isPf s fn || r.inst == fn)
  l.drop (l.length - n)

/-- The 64-byte header of log page 0xC3. -/
def Snapshot.header (x : Snapshot) : Bytes :=
  leBytes 8 (x.recs.getLast?.elim 0 Rec.seq) ++ leBytes 8 (x.recs.head?.elim 0 Rec.seq) ++ leBytes 4 x.recs.length
    ++ leBytes 4 x.extDropped ++ leBytes 8 x.tide ++ leBytes 4 x.compactUsed ++ leBytes 4 x.compactDropped
    ++ List.replicate 24 0

/-- The bytes of log page 0xC3. -/
def Snapshot.bytes (x : Snapshot) : Bytes := x.header ++ x.recs.flatMap Rec.bytes

/-- A segment of `len` bytes at `off`, zeros past the end. -/
def segment (b : Bytes) (off len : Nat) : Bytes :=
  let p := (b.drop off).take len
  p ++ List.replicate (len - p.length) 0

/-- GET_LOG_PAGE_C3 (R407): the snapshot is taken at offset 0 and continued at later offsets; with Retain Asynchronous
Event cleared the read unmasks the events of R311 and R162. -/
def logPageC3 (c : Cmd) (off len : Nat) (rae : Bool) (s : State) : State :=
  if c.resv then complete s c .invalidField 0
  else
    let s := if rae then s else unmask s c.fn (fun e => match e with
      | .watermark _ => true
      | .belowRefresh _ => true
      | _ => false)
    let snap : Snapshot :=
      { recs := snapshotRecs s c.fn (v s K.snapshotDepth), extDropped := v s K.extDropped, tide := s.clk.tide,
        compactUsed := s.recd.compact.length, compactDropped := v s K.compactDropped }
    let s := if off = 0 then { s with recd := { s.recd with snaps := s.recd.snaps.put c.fn snap } } else s
    match s.recd.snaps.get? c.fn with
    | some x => complete (dmaOut s c.fn (segment x.bytes off len)) c .success 0
    | none => complete s c .commandSequenceError 0

def execGetLogPageC3 (c : Cmd) (off len : Nat) (rae : Bool) (s : State) : Host.Outcome State Fault Refusal :=
  .next (logPageC3 c off len rae s)

def execSnapshotLapse (fn : Nat) (s : State) : Host.Outcome State Fault Refusal :=
  .next { s with recd := { s.recd with snaps := s.recd.snaps.del fn } }

-- ===== trace FIFO =====

/-- KIND 0x80–0xFF belong to the control cores, the others to the hardware sources (R409). -/
def kindAllowed (source kind : Nat) : Bool := if source < 16 then 0x80 ≤ kind && kind < 0x100 else kind < 0x80

def execTraceItemWrite (source kind arg : Nat) (words : List Nat) (s : State) : Host.Outcome State Fault Refusal :=
  .next (if kindAllowed source kind then traceItem s source kind arg words else s)

def execTraceEntryClose (s : State) : Host.Outcome State Fault Refusal :=
  .next (if s.trace.cur.isEmpty then s else pushEntry s)

/-- The eight words of an entry: its data and its TAG. -/
def TraceEntry.all (e : TraceEntry) : List Nat :=
  e.words ++ [e.validBytes % 256 * 2 ^ 24 + e.firstItem % 256 * 2 ^ 16 + e.seq % 65536]

/-- What a pop of an empty FIFO returns (R410). -/
def idleWords : List Nat := List.replicate 8 0x1D1E1D1E

/-- Pop one entry; a partly filled entry is closed first when no full one is held (R410). -/
def popEntry (s : State) : List Nat × State :=
  let s := if s.trace.fifo.isEmpty && !s.trace.cur.isEmpty then pushEntry s else s
  match s.trace.fifo with
  | e :: r => (e.all, { s with trace := { s.trace with fifo := r } })
  | [] => (idleWords, s)

/-- Pop `n` entries, oldest first. -/
def popEntries : Nat → State → List Nat × State
  | 0, s => ([], s)
  | n + 1, s =>
    let (w, s) := popEntry s
    let (ws, s) := popEntries n s
    (w ++ ws, s)

/-- The number little-endian words spell. -/
def wordsNat : List Nat → Nat
  | [] => 0
  | w :: r => w % 2 ^ 32 + 2 ^ 32 * wordsNat r

/-- What a BAR read returned to the host. -/
def barReturn (s : State) (fn x : Nat) : State := { s with barRead := s.barRead.put fn x }

/-- TRACE_FIFO_POP (R78, R80): a read at offset 0x00 pops; one of 4 or 8 bytes latches the entry popped. -/
def traceFifoPop (fn off width : Nat) (s : State) : State :=
  let latch := if fn = 1 then s.trace.latchB else s.trace.latchA
  let setLatch (s : State) (w : List Nat) : State :=
    { s with trace := if fn = 1 then { s.trace with latchB := w } else { s.trace with latchA := w } }
  if width = 32 then
    if off = 0 then
      let (w, s) := popEntry s
      barReturn s fn (wordsNat w)
    else barReturn (bump32 s K.barBadAccess) fn 0
  else if (width = 4 ∨ width = 8) ∧ off % width = 0 ∧ off + width ≤ 32 then
    if off = 0 then
      let (w, s) := popEntry s
      barReturn (setLatch s w) fn (wordsNat (w.take (width / 4)))
    else barReturn s fn (wordsNat ((latch.drop (off / 4)).take (width / 4)))
  else barReturn (bump32 s K.barBadAccess) fn 0

def execTraceFifoPop (fn off width : Nat) (s : State) : Host.Outcome State Fault Refusal :=
  .next (if isPf s fn then traceFifoPop fn off width s else s)

/-- The bytes of little-endian words. -/
def wordBytes (ws : List Nat) : Bytes := ws.flatMap (leBytes 4)

/-- COMPACT_CLEAR: both regions are erased (R403). -/
def clearCompact (s : State) : State := { s with recd := { s.recd with compact := [], compactErasing := true } }

/-- TRACE_CLEAR empties the FIFO. -/
def clearTrace (s : State) : State := { s with trace := { s.trace with fifo := [] } }

-- ===== histograms =====

/-- The 15,928 bytes of a histogram; TIDE is that of the copy. -/
def Hist.bytes (h : Hist) (tide : Nat) : Bytes :=
  leBytes 8 h.since ++ leBytes 8 tide ++ leBytes 8 h.total ++ leBytes 8 h.sum ++ leBytes 8 h.max ++ leBytes 4 1985
    ++ leBytes 4 0 ++ (List.range 1985).flatMap (fun i => leBytes 8 (h.counts.getD i 0))

/-- HIST_CLEAR of an instance: bit 0 read, bit 1 write (R413). -/
def clearHist (s : State) (n bits : Nat) : State :=
  let fresh := Hist.fresh (time64 s)
  let s := if bitAt bits 0 then
      domChanged { s with tel := { s.tel with hist := s.tel.hist.put (2 * n) fresh } } (instKey K.histRead n) else s
  if bitAt bits 1 then
    domChanged { s with tel := { s.tel with hist := s.tel.hist.put (2 * n + 1) fresh } } (instKey K.histWrite n) else s

/-- The key of a Cove's HIST_COVE_READ. -/
def histCoveKey (c : Nat) : Nat := if c < 128 then unitKey K.histCoveRead c else unitKey K.histCoveReadHi (c - 128)

/-- HIST_COVE_CLEAR: Cove c at bit c (R413). -/
def clearHistCoves (s : State) (bits : Nat) : State :=
  (List.range 256).foldl (fun s c => if bitAt bits c then
    domChanged { s with tel := { s.tel with histCove := s.tel.histCove.put c (Hist.fresh (time64 s)) } } (histCoveKey c)
    else s) s

/-- Count a read with a block in Cove `c` (R412). -/
def histCove (s : State) (c t : Nat) : State :=
  { s with tel := { s.tel with histCove := s.tel.histCove.updD c (Hist.fresh 0) (fun h => h.count t) } }

-- ===== heat sketches =====

/-- The modulus of the sketch hashes. -/
def heatPrime : Nat := 2 ^ 61 - 1

/-- A sketch with fresh seeds, from free values `k` to `k + 7` (R415). -/
def Sketch.fresh (k : Nat) : Sketch :=
  { a := (List.range 4).map (fun r => Config.freeNat (k + r) % heatPrime),
    b := (List.range 4).map (fun r => Config.freeNat (k + 4 + r) % heatPrime), n := 0, counters := [] }

/-- The counter of row `r` a key uses. -/
def Sketch.cell (x : Sketch) (r key : Nat) : Nat :=
  16384 * r + (x.a.getD r 0 * key + x.b.getD r 0) % heatPrime % 16384

/-- Add 1 in every row for a key. -/
def Sketch.add (x : Sketch) (key : Nat) : Sketch :=
  { x with counters := (List.range 4).foldl (fun m r => m.updD (x.cell r key) 0 (fun c => satAdd 32 c 1)) x.counters }

/-- The estimate: the least of the key's four counters (R414). -/
def Sketch.estimate (x : Sketch) (key : Nat) : Nat :=
  ((List.range 4).map (fun r => x.counters.getD (x.cell r key) 0)).foldl Nat.min (2 ^ 32 - 1)

/-- The bytes of a HEAT_SKETCH: 72-byte header, then the counters row by row. -/
def Sketch.bytes (x : Sketch) : Bytes :=
  (List.range 4).flatMap (fun r => leBytes 8 (x.a.getD r 0) ++ leBytes 8 (x.b.getD r 0)) ++ leBytes 8 x.n
    ++ (List.range 65536).flatMap (fun i => leBytes 4 (x.counters.getD i 0))

/-- A read command's grains are counted in the sketch of a Cove whose bit is set (R414). -/
def heatRead (s : State) (cove nsid lba nlb blk : Nat) : State :=
  if bitAt (v s K.heatEnable) cove then
    let g := v s K.heatGrainLog2
    let first := lba * blk / 2 ^ g
    let last := ((lba + nlb) * blk - 1) / 2 ^ g
    let (x, s) := match s.tel.sketchCur.get? cove with
      | some x => (x, s)
      | none => (Sketch.fresh s.freeCtr, { s with freeCtr := s.freeCtr + 8 })
    let x := (List.range (last + 1 - first)).foldl (fun x i => x.add (nsid * 2 ^ 40 + first + i)) { x with n := x.n + 1 }
    { s with tel := { s.tel with sketchCur := s.tel.sketchCur.put cove x } }
  else s

/-- HEAT_EPOCH (R415): every sketch restarts with fresh seeds; the epoch just ended stays readable. -/
def heatEpoch (s : State) : State :=
  let coves := (List.range 256).filter (fun c => bitAt (v s K.heatEnable) c)
  let s := { s with tel := { s.tel with sketchPrev := s.tel.sketchCur, sketchCur := [] } }
  let s := coves.foldl (fun s c => { s with tel := { s.tel with sketchCur := s.tel.sketchCur.put c (Sketch.fresh s.freeCtr) }, freeCtr := s.freeCtr + 8 }) s
  (List.range 128).foldl (fun s i => domChanged (domChanged s (unitKey K.heatSketch i)) (unitKey K.heatSketchHi i)) s

def execHeatEpoch (s : State) : Host.Outcome State Fault Refusal := .next (heatEpoch s)

/-- HEAT_QUERY: the estimate and N of the key asked appear in HEAT_RESULT (R415). -/
def heatQuery (s : State) (q : Nat) : State :=
  let cove := q % 256
  let m := if q / 256 % 256 = 0 then s.tel.sketchCur else s.tel.sketchPrev
  let key := q / 2 ^ 32 % 2 ^ 32 * 2 ^ 40 + q / 2 ^ 64 % 2 ^ 64
  match m.get? cove with
  | some x => setV s K.heatResult (x.estimate key + x.n % 2 ^ 64 * 2 ^ 64)
  | none => setV s K.heatResult 0

end Sys2Proof.Machine
end

