-- ==== Sys2Proof/Machine/Reads.lean ====
section
/-! DEFINITION. Machine/Reads.lean: the read side of the I/O commands (R27, R123, R126): what a read needs from the media,
bounded admission (R278 to R280), how it finishes. -/
namespace Sys2Proof.Machine
open Sys2Proof

-- ===== what a read needs =====

/-- The codewords that hold physical-log bytes `x` to `x + len − 1` of a zone. -/
def logCws (s : State) (zk : Nat) (z : Zone) (x len : Nat) : List CwAddr :=
  (List.range (ceilDiv (x % 4096 + len) 4096)).map (fun i =>
    let (die, b, o) := logLoc s zk z (x / 4096 * 4096 + i * 4096)
    cwAt s die b o)

/-- The codewords and the frames (first byte in the namespace, last byte needed) that one logical block needs: none where
it is served from the write buffer or an open unit, reads as zeros, or is lost (R126, R171, R212). -/
def blockNeeds (s : State) (nsid : Nat) (n : Ns) (lba : Nat) : List CwAddr × List (Nat × Nat) :=
  if poisoned s nsid lba || s.xlat.uncor.has (lkey nsid lba) || wbHas s nsid lba then ([], [])
  else if n.zoned then
    let zb := zoneBlocks s n
    let zk := zkey nsid (lba / zb)
    let z := zoneAt s zk
    let off := lba % zb * n.blk
    if Cd.compressed (coveDesc s z.cove) then
      match z.frames.find? (fun f => f.start ≤ off && off < f.start + f.len) with
      | some f =>
        if f.kind = 2 then (logCws s zk z (f.log + (off - f.start)) n.blk, [])
        else
          let first := ((z.frames.find? (fun g => g.start / 65536 == off / 65536)).elim f.log Frame.log)
          (logCws s zk z first (f.log + f.stored - first), [(lba / zb * (zb * n.blk) + f.start, lba * n.blk + n.blk - 1)])
      | none => ([], [])
    else if lba % zb < z.applied then (logCws s zk z off n.blk, [])
    else ([], [])
  else match s.xlat.pmap.get? (lkey nsid lba) with
    | some q => ((List.range (n.blk / 4096)).map (fun j => cwAt s q.die q.block ((q.slot + j) * 4096)), [])
    | none => ([], [])

/-- A namespace is translated through map pages: page maps and compressed-unit maps (R169, R172). -/
def mapped (s : State) (n : Ns) : Bool := !n.zoned || Cd.compressed (coveDesc s n.firstCove)

/-- The map pages of a range that are only on the media (R173). [DEDUCED, log entry 44] -/
def coldPages (s : State) (nsid : Nat) (n : Ns) (slba nlb : Nat) : List Nat :=
  if mapped s n then (((rangeFrom slba nlb).map (mapPageOf s nsid n)).eraseDups).filter s.xlat.cold.contains else []

/-- Keep, of the frames a read waits for, one entry each, with the furthest byte needed. -/
def mergeFrames (l : List (Nat × Nat)) : List (Nat × Nat) :=
  ((l.map Prod.fst).eraseDups).map (fun a => (a, maxNat ((l.filter (fun x => x.1 == a)).map Prod.snd)))

/-- Translate a read: the codewords and frames it waits for. With no read-path decompressor in service, blocks of frames
that are not raw fail (R215). [DEDUCED, log entry 44] -/
def planRead (s : State) (f : Flight) : State :=
  let n := nsRec s f.nsid
  let needs := (rangeFrom f.slba f.nlb).map (fun l => (l, blockNeeds s f.nsid n l))
  let none := decide (v s K.decompressorsInService = 0)
  let bad := if none then (needs.filter (fun x => !x.2.2.isEmpty)).map Prod.fst else []
  modFlight s f.seq (fun x => { x with
    waits := ((needs.filter (fun x => !bad.contains x.1)).flatMap (fun x => x.2.1)).eraseDups
    frameWaits := if none then [] else mergeFrames (needs.flatMap (fun x => x.2.2))
    failed := x.failed ++ bad })

-- ===== bounded admission (R278 to R280) =====

/-- A read unit: die, block, wordline, page type (R268). -/
def CwAddr.unit (a : CwAddr) : Nat × Nat × Nat × Nat := (a.die, a.block, a.wl, a.pt)

/-- A codeword is in a buffer slice. -/
def hasArrived (s : State) (a : CwAddr) : Bool := s.nand.arrived.any (fun x => x.1 == a)

/-- The read units of a command. -/
def unitsOf (f : Flight) : List (Nat × Nat × Nat × Nat) := (f.waits.map CwAddr.unit).eraseDups

/-- The places its units still hold: those whose last codeword has not come off the bus. -/
def placesOf (s : State) (f : Flight) : List (Nat × Nat × Nat × Nat) := ((f.waits.filter (fun a => !hasArrived s a)).map CwAddr.unit).eraseDups

/-- Dies of the foreground units that are admitted, one entry a unit; host ladders hold theirs. -/
def admittedDies (s : State) : List Nat :=
  (s.flights.filter (fun f => f.admitted && f.stage == .running)).flatMap (fun f => (placesOf s f).map (·.1))
    ++ (s.nand.ladders.filter Ladder.host).map Ladder.die

/-- A LUN has a background read unit queued or in its array. -/
def backgroundRead (l : Lun) : Bool :=
  l.queue.any (fun d => descRead d && d.work == .background) || l.run.any (fun o => descRead o.d && o.d.work == .background)

/-- Units of every kind admitted on a channel. -/
def channelUnits (s : State) (ch : Nat) : Nat :=
  ((admittedDies s).filter (fun d => d / 64 == ch)).length + (s.nand.luns.filter (fun p => p.1 / 64 == ch && backgroundRead p.2)).length

/-- Foreground units admitted on a die. -/
def dieUnits (s : State) (die : Nat) : Nat := ((admittedDies s).filter (fun d => d == die)).length

/-- The channels of a command's units, and its dies. -/
def flightDies (f : Flight) : List Nat := (unitsOf f).map (·.1)

/-- A read that needs more than Q units on a die, or more than A − 1 on a channel, is oversize (R280). -/
def oversize (s : State) (f : Flight) : Bool :=
  let ds := flightDies f
  ds.any (fun d => (ds.filter (· == d)).length > v s K.boundDieDepth)
    || ds.any (fun d => (channelCoves s (d / 64)) != [] && (ds.filter (fun e => e / 64 == d / 64)).length > channelDepth s (d / 64) - 1)

/-- All of a command's units fit now (R278). [DEDUCED, log entry 44] -/
def unitsFit (s : State) (f : Flight) : Bool :=
  let ds := flightDies f
  ds.eraseDups.all (fun d =>
    (!dieBounded s d || decide (dieUnits s d + (ds.filter (· == d)).length ≤ v s K.boundDieDepth))
      && (channelCoves s (d / 64) == [] || decide (channelUnits s (d / 64) + (ds.filter (fun e => e / 64 == d / 64)).length ≤ channelDepth s (d / 64))))

/-- READ_BOUND of the Cove that bounds a read, ns. -/
def readBoundNs (s : State) (f : Flight) : Nat := Cd.readBound (coveDescG s f.gen f.cove) * 1000

/-- The admission deadline of a bounded read (R279). [DEDUCED, log entry 55] -/
def deadline (s : State) (f : Flight) : Nat := f.fetchNs + readBoundNs s f - (coveBound s f.cove - tFront)

/-- A read of a bounded Cove that is held to its deadline. -/
def held (f : Flight) : Bool := isReadOp f.opcode && f.sqid != 0 && f.stage == .running && !f.admitted && f.mapWaits.isEmpty

/-- Admit a command's units. -/
def admitRead (s : State) (f : Flight) : State := modFlight s f.seq (fun x => { x with admitted := true, admitNs := s.clk.nowNs })

/-- The order in which held reads take places (R278): bounded ones by deadline, then the others, urgent class first. -/
def heldBefore (s : State) (f g : Flight) : Bool :=
  if f.bounded && g.bounded then decide (deadline s f ≤ deadline s g)
  else if f.bounded != g.bounded then f.bounded
  else if f.urgent != g.urgent then f.urgent
  else decide (f.seq ≤ g.seq)

/-- READ_ADMISSION: every held read that fits, in order; a hold is counted once. -/
def admitReads (s : State) : State :=
  (((s.flights.filter held).mergeSort (heldBefore s))).foldl (fun s f =>
    if unitsFit s f then admitRead s f else countWait s f 4 K.admitHolds) s

-- ===== finishing =====

/-- Command Retry Delay of a retried read (R279). [DEDUCED, log entry 60] -/
def crdOf (s : State) (fn : Nat) : Nat := if (inst s fn).acre then 1 else 0

/-- A frame a read waited for is lost. -/
def frameLost (s : State) (f : Flight) (w : Nat × Nat) : Bool := poisoned s f.nsid (w.1 / (nsRec s f.nsid).blk)

/-- BOUND_MISSED (R286): a bounded read beyond its bound without an excuse. [DEDUCED, log entry 55] -/
def boundMissed (s : State) (f : Flight) : State :=
  let limit := readBoundNs s f + (if f.laddered then tLadder s f.cove else 0)
  let took := s.clk.nowNs - f.fetchNs
  if f.bounded && !f.excused && took > limit then
    event (modBound (bump32 s K.boundMissed) f.cove (fun b => { b with missed := satAdd 32 b.missed 1 })) Ev.boundMissed [f.cove, f.fn, took / 1000]
  else s

/-- The stored block that a read compares, checks or returns. -/
def storedBlock (s : State) (n : Ns) (nsid lba : Nat) : Block := ⟨blockData s nsid lba, some ((s.pis.get? (lkey nsid lba)).getD (escTuple n))⟩

/-- Everything a read needs has come: unrecoverable blocks give Unrecovered Read Error and the others are transferred
(R27); protection information is checked, a Compare compares. [DESIGN CHOICE, log entry 41] -/
def finishRead (s : State) (f : Flight) : State :=
  let n := nsRec s f.nsid
  let lbas := rangeFrom f.slba f.nlb
  let bad (l : Nat) := poisoned s f.nsid l || s.xlat.uncor.has (lkey f.nsid l) || f.failed.contains l
  let good := lbas.filter (fun l => !bad l)
  let pi := firstBad (good.map (fun l => piCheck n f.pi (l - f.slba) (storedBlock s n f.nsid l)))
  let cmp := (lbas.zip f.compareWith).all (fun p => bad p.1 || p.2.data == blockData s f.nsid p.1)
  let st := firstBad [if lbas.any bad then .unrecoveredRead else .success, pi, if cmp then .success else .compareFailure]
  let s := boundMissed s f
  let s := histCove s f.cove (s.clk.nowNs - f.fetchNs)
  let s := if f.opcode = 0x02 ∧ pi.isOk then dmaOut s f.fn (good.flatMap (fun l => leBytes n.blk (blockData s f.nsid l))) else s
  let s := if f.fuse = 1 then
      { s with flights := s.flights.map (fun g => if g.fn == f.fn && g.sqid == f.sqid && g.seq > f.seq && g.fuse == 2 then { g with fuse := if st.isOk then 3 else 4 } else g) }
    else s
  completeFlight s f st 0 0

/-- A read whose waits are over. -/
def readDone (s : State) (f : Flight) : Bool :=
  isReadOp f.opcode && f.sqid != 0 && f.stage == .running && f.admitted && f.mapWaits.isEmpty && f.waits.isEmpty
    && f.frameWaits.all (frameLost s f)

/-- Finish every read whose waits are over, in fetch order. -/
def finishReads (s : State) : State :=
  (s.flights.filter (readDone s)).foldl (fun s f => finishRead s f) s

-- ===== starting reads =====

/-- The zones a range touches are Offline, or fixed to another key. -/
def zonesRead (s : State) (f : Flight) (n : Ns) (slba nlb : Nat) : NvStatus :=
  if n.zoned then
    let zb := zoneBlocks s n
    firstBad ((rangeFrom (slba / zb) ((slba + nlb - 1) / zb + 1 - slba / zb)).map (fun i =>
      let z := zoneAt s (zkey f.nsid i)
      if z.st = .offline then .zoneOffline else keyStatus s f z.tag))
  else keyStatus s f n.tag

/-- The checks of a Read, Compare or Verify (R124, R14, R106, R161). -/
def readStatus (s : State) (f : Flight) (resv limit : Bool) (slba nlb : Nat) : NvStatus :=
  let n := nsRec s f.nsid
  firstBad [ioStatus s f resv true true,
    if f.ordered && !(f.barrier s) then .invalidField else .success,
    if n.zoned && f.fuse != 0 then .invalidField else .success,
    if nlb = 0 ∨ (limit ∧ nlb * n.blk > 2097152) then .invalidField else .success,
    rangeStatus s f slba nlb, zonesRead s f n slba nlb]

/-- The Cove a read lies in: its zone's, or its namespace's first. -/
def readCove (s : State) (f : Flight) (n : Ns) (slba : Nat) : Nat :=
  let z := zoneAt s (zkey f.nsid (slba / zoneBlocks s n))
  if n.zoned && z.coveValid then z.cove else n.firstCove

/-- Begin a Read, Compare or Verify: its checks, its translation, its admission. -/
def beginRead (s : State) (f : Flight) (resv limit : Bool) (slba nlb : Nat) : State :=
  let n := nsRec s f.nsid
  let s := if f.barrier s then bump32 s (instKey K.orderedBarriers f.fn) else s
  match readStatus s f resv limit slba nlb with
  | .success =>
    let c := readCove s f n slba
    let cold := coldPages s f.nsid n slba nlb
    let g : Flight := { f with stage := .running, slba := slba, nlb := nlb, cove := c, bounded := Cd.bounded (coveDescG s f.gen c), mapWaits := cold }
    let s := heatRead (modFlight s f.seq (fun _ => g)) c f.nsid slba nlb n.blk
    let s := if cold.isEmpty then planRead s g else s
    let g := flightOf s ⟨f.fn, f.sqid, f.cid, f.nsid, false⟩
    let s := if g.bounded && (excuseAll s || excuseCove s c) then excuse s g else s
    let g := flightOf s ⟨f.fn, f.sqid, f.cid, f.nsid, false⟩
    if g.bounded && oversize s g then
      let s := bump64 (excuse s g) K.boundOversize
      modFlight s f.seq (fun x => { x with bounded := false })
    else s
  | st => completeFlight s f st 0 0

/-- Every map page a read waited for has come: it is translated. -/
def mapArrived (s : State) (page : Nat) : State :=
  (s.flights.filter (fun f => f.mapWaits.contains page)).foldl (fun s f =>
    let left := f.mapWaits.filter (· != page)
    let s := modFlight s f.seq (fun x => { x with mapWaits := left })
    if left.isEmpty then planRead s f else s) s

-- ===== reads that end early (R279, R283) =====

/-- Worst-case completion, ns from now, of the first admitted unit to end on the die or channel that blocks a read: an
admitted bounded unit ends within T_bound − T_front of its admission. -/
def blockingUs (s : State) (f : Flight) : Nat :=
  let chs := ((flightDies f).map (· / 64)).eraseDups
  let ends := (s.flights.filter (fun g => g.admitted && (placesOf s g).any (fun u => chs.contains (u.1 / 64)))).map
    (fun g => g.admitNs + (coveBound s f.cove - tFront))
  match ends with
  | [] => 0
  | a :: r => ceilDiv (r.foldl Nat.min a - s.clk.nowNs) 1000

/-- Complete a read with Command Interrupted and Dword 0 in µs. -/
def interruptRead (s : State) (f : Flight) (us : Nat) : State :=
  completeRetry (histCove s f.cove (s.clk.nowNs - f.fetchNs)) f .commandInterrupted (Nat.min us (2 ^ 32 - 1)) 0 (crdOf s f.fn)

/-- ADMISSION_DEADLINE (R279): a bounded read still held at its deadline is refused; one that an excuse covers waits on. -/
def admissionDeadline (s : State) (fn sqid cid : Nat) : State :=
  match flight? s fn sqid cid with
  | some f =>
    if f.bounded && held f && s.clk.nowNs ≥ deadline s f && !unitsFit s f then
      if f.excused || excuseAll s || excuseCove s f.cove then modFlight (excuse s f) f.seq (fun x => { x with bounded := false })
      else
        let s := traceItem (bump64 s K.boundRefused) (0x11 + (flightDies f).headD 0 / 512 % 4) 0x04 f.cove [f.fn % 1024, f.sqid % 65536 * 65536 + f.cid % 65536]
        interruptRead (modBound s f.cove (fun b => { b with refused := satAdd 32 b.refused 1 })) f (blockingUs s f)
    else s
  | none => s

end Sys2Proof.Machine
end

