-- ==== Sys2Proof/Machine/Settle.lean ====
section
/-! DEFINITION. Machine/Settle.lean: "Queues, Arbitration and Command Semantics": the I/O commands as they arrive, wait and
begin, and everything that goes on once something has changed. -/
namespace Sys2Proof.Machine
open Sys2Proof

-- ===== what holds the other commands =====

/-- A read waits: for its queue's barriers, its pool units, a fused pair on its blocks; a fused Compare also for earlier
overlapping writes (R123, R130). -/
def readHolds (s : State) (f : Flight) : Bool :=
  beginHolds s f || fusedElsewhere s f || (f.fuse == 1 && earlierOverlap s f)

/-- An earlier-fetched command on the namespace's zones that has not been checked holds a Flush or a Select All action. -/
def uncheckedBefore (s : State) (f : Flight) : Bool :=
  s.flights.any (fun g => g.seq < f.seq && g.nsid == f.nsid && g.sqid != 0 && !g.checked && (isWriteOp g.opcode || g.opcode == 0x79))

/-- A Zone Management Send waits for its place in the check order of the zones it names. -/
def actHolds (s : State) (f : Flight) (slba : Nat) (all : Bool) : Bool :=
  beginHolds s f || (if all then uncheckedBefore s f else zoneHolds s f slba)

-- ===== fused pairs (R123) =====

/-- The command fetched after `f` from its queue. [DEDUCED, log entry 56] -/
def nextInQueue (s : State) (f : Flight) : Option Flight :=
  s.flights.find? (fun g => g.fn == f.fn && g.sqid == f.sqid && g.seq > f.seq)

/-- The second half follows and matches: a Write of the same range with FUSE 10b. [DEDUCED, log entry 56] -/
def matchesHalf (f g : Flight) : Bool := g.fuse == 2 && g.opcode == 0x01 && g.nsid == f.nsid && g.slba == f.slba && g.nlb == f.nlb

/-- Set the fuse state of the command behind `f`. -/
def markHalf (s : State) (f : Flight) (x : Nat) : State :=
  match nextInQueue s f with
  | some g => if g.fuse = 2 then modFlight s g.seq (fun y => { y with fuse := x }) else s
  | none => s

/-- ACWU + 1 blocks of a namespace. [DEDUCED, log entry 43] -/
def acwuBlocks (n : Ns) : Nat := 1048576 / n.blk

/-- Begin the Compare of a fused pair whose second half has been fetched. [DEDUCED, log entry 43] -/
def beginFused (s : State) (f g : Flight) (resv : Bool) (slba nlb : Nat) : State :=
  let n := nsRec s f.nsid
  if !matchesHalf f g then completeFlight (markHalf s f 5) f .missingFused 0 0
  else if nlb > acwuBlocks n then completeFlight (markHalf s f 4) f .invalidField 0 0
  else
    let s' := beginRead s f resv true slba nlb
    if s'.flights.any (fun x => x.seq == f.seq) then s' else markHalf s' f 4

-- ===== beginning each command =====

/-- Set what the fetched entry did not say. -/
def setArgs (s : State) (c : Cmd) (slba nlb : Nat) (fua ordered : Bool) (pi : PiArgs) (cmp : List Block) : State :=
  modFlight s (flightOf s c).seq (fun f => { f with slba := slba, nlb := nlb, fua := fua, ordered := f.ordered || ordered, pi := pi, compareWith := cmp })

/-- No protection information fields. -/
def noPi : PiArgs := ⟨false, false, false, false, 0, 0, 0⟩

/-- Begin a Write or a Zone Append, or find that it waits. -/
def tryWrite (s : State) (c : Cmd) (append : Bool) (slba : Nat) (bs : List Block) (fua ordered : Bool) (dtype dspec : Nat) (pi : PiArgs) : Bool × State :=
  let s := setArgs (ensure s c (if append then 0x7D else 0x01) slba bs.length) c slba bs.length fua ordered pi []
  let f := flightOf s c
  let (hold, s) := writeHolds s f slba (bs.length * (nsRec s f.nsid).blk)
  if hold then (true, s) else (false, beginWrite s (flightOf s c) c.resv append true slba bs dtype dspec)

/-- Write Zeroes: zeros at the write pointer of a zone; in a conventional namespace zeros, or a deallocation with DEAC. -/
def tryZeroes (s : State) (c : Cmd) (slba nlb : Nat) (deac : Bool) (dtype dspec : Nat) : Bool × State :=
  let s := setArgs (ensure s c 0x08 slba nlb) c slba nlb false false noPi []
  let f := flightOf s c
  let n := nsRec s f.nsid
  let (hold, s) := writeHolds s f slba (nlb * n.blk)
  let f := flightOf s c
  if hold then (true, s)
  else if deac && !n.zoned then (false, beginClear s f c.resv [(slba, nlb)] dtype dspec)
  else (false, beginWrite s f c.resv false false slba (List.replicate nlb ⟨0, some (escTuple n)⟩) dtype dspec)

/-- Write Uncorrectable, and Dataset Management: deallocation in conventional namespaces; other attributes change nothing. -/
def tryClear (s : State) (c : Cmd) (opcode slba nlb : Nat) (clears : List (Nat × Nat)) (ad : Bool) : Bool × State :=
  let s := setArgs (ensure s c opcode slba nlb) c slba nlb false false noPi []
  let s := modFlight s (flightOf s c).seq (fun f => { f with clears := clears })
  let f := flightOf s c
  let (hold, s) := writeHolds s f slba 0
  let f := flightOf s c
  if hold then (true, s)
  else if opcode = 0x09 ∧ (!ad ∨ (nsRec s f.nsid).zoned) then
    match ioStatus s f c.resv true true with
    | .success => (false, completeFlight s f (if ad then .invalidField else .success) 0 0)
    | st => (false, completeFlight s f st 0 0)
  else (false, beginClear s f c.resv clears 0 0)

/-- Begin a Read, Compare or Verify. A Compare of a fused pair waits until the command behind it has been fetched. -/
def tryRead (s : State) (c : Cmd) (opcode slba nlb : Nat) (fua ordered : Bool) (pi : PiArgs) (cmp : List Block) : Bool × State :=
  let s := setArgs (ensure s c opcode slba nlb) c slba nlb fua ordered pi cmp
  let f := flightOf s c
  if readHolds s f then (true, s)
  else if f.fuse = 1 ∧ opcode = 0x05 ∧ !(nsRec s f.nsid).zoned then
    match nextInQueue s f with
    | some g => (false, beginFused s f g c.resv slba nlb)
    | none => (true, s)
  else if f.fuse = 2 ∨ (f.fuse = 1 ∧ opcode ≠ 0x05) then (false, completeFlight s f .missingFused 0 0)
  else (false, beginRead s f c.resv (opcode != 0x0C) slba nlb)

/-- A Flush names the zones whose units it cuts; in a conventional namespace there are none (R199). -/
def tryFlush (s : State) (c : Cmd) : Bool × State :=
  let s := ensure s c 0x00 0 0
  let f := flightOf s c
  if beginHolds s f || uncheckedBefore s f then (true, s)
  else match ioStatus s f c.resv true true with
    | .success =>
      let n := nsRec s f.nsid
      let zs := (s.zones.filter (fun p => p.1 / 2 ^ 32 == f.nsid && (p.2.unit.isSome
        || s.flights.any (fun g => g.seq < f.seq && n.zoned && zoneWriter s f.nsid (p.1 % 2 ^ 32) g)))).map (fun p => p.1 % 2 ^ 32)
      (false, modFlight s f.seq (fun x => { x with flushZones := zs, stage := .running }))
    | st => (false, completeFlight s f st 0 0)

/-- A Zone Management Send action, or its wait. -/
def tryAct (s : State) (c : Cmd) (a : ZAction) (slba : Nat) (all : Bool) : Bool × State :=
  let s := modFlight (ensure s c 0x79 slba 0) (flightOf (ensure s c 0x79 slba 0) c).seq (fun f => { f with slba := slba })
  if actHolds s (flightOf s c) slba all then (true, s)
  else match a with
    | .finish => (false, zoneActLater s c a slba all)
    | .reset => (false, zoneActLater s c a slba all)
    | _ => (false, zoneActNow s c a slba all)

/-- Begin an I/O command, or find that it waits (true). Another command of the table begins nowhere here. -/
def tryBegin (s : State) (i : Instr) : Bool × State :=
  match i with
  | .write c slba data fua ordered dtype dspec pi => tryWrite s c false slba data fua ordered dtype dspec pi
  | .zoneAppend c zslba data fua pi => tryWrite s c true zslba data fua false 0 0 pi
  | .writeZeroes c slba nlb deac dtype dspec => tryZeroes s c slba nlb deac dtype dspec
  | .writeUncorrectable c slba nlb => tryClear s c 0x04 slba nlb [] true
  | .datasetManagement c ad ranges => tryClear s c 0x09 ((ranges.head?).elim 0 Prod.fst) ((ranges.head?).elim 0 Prod.snd) (if ad then ranges else []) ad
  | .read c slba nlb fua ordered pi => tryRead s c 0x02 slba nlb fua ordered pi []
  | .compare c slba data pi => tryRead s c 0x05 slba data.length false false pi data
  | .verify c slba nlb pi => tryRead s c 0x0C slba nlb false false pi []
  | .flush c => tryFlush s c
  | .zoneOpen c slba all => tryAct s c .open slba all
  | .zoneClose c slba all => tryAct s c .close slba all
  | .zoneFinish c slba all => tryAct s c .finish slba all
  | .zoneReset c slba all => tryAct s c .reset slba all
  | .zoneOffline c slba all => tryAct s c .offline slba all
  | _ => (false, s)

/-- The command that an I/O command of the table is. -/
def ioCmd (i : Instr) : Option Cmd :=
  match i with
  | .write c _ _ _ _ _ _ _ => some c
  | .zoneAppend c _ _ _ _ => some c
  | .writeZeroes c _ _ _ _ _ => some c
  | .writeUncorrectable c _ _ => some c
  | .datasetManagement c _ _ => some c
  | .read c _ _ _ _ _ => some c
  | .compare c _ _ _ => some c
  | .verify c _ _ _ => some c
  | .flush c => some c
  | .zoneOpen c _ _ => some c
  | .zoneClose c _ _ => some c
  | .zoneFinish c _ _ => some c
  | .zoneReset c _ _ => some c
  | .zoneOffline c _ _ => some c
  | _ => none

-- ===== going on =====

/-- Try every waiting command again, oldest first; those whose flight has ended are forgotten. -/
def retryHeld (s : State) : State :=
  let l := s.eng.held
  l.foldl (fun s i =>
    match ioCmd i with
    | some c =>
      if (flight? s c.fn c.sqid c.cid).isSome then
        (match tryBegin s i with
        | (true, s) => { s with eng := { s.eng with held := s.eng.held ++ [i] } }
        | (false, s) => s)
      else s
    | none => s) { s with eng := { s.eng with held := [] } }

/-- One pass over everything that waits. -/
def settlePass (s : State) : State :=
  finishReads (admitReads (settleWrites (retryHeld (settleFlushes (settleSends (settleActions s))))))

/-- Passes until nothing more completes or begins. -/
def settleLoop : Nat → State → State
  | 0, s => s
  | n + 1, s =>
    let s' := settlePass s
    if s'.flights.length = s.flights.length ∧ s'.eng.held.length = s.eng.held.length then s' else settleLoop n s'

/-- Everything that waits and may go on does; the write buffer's watermark follows. -/
def settle (s : State) : State := watermark (settleLoop (s.flights.length + s.eng.held.length + 2) s) 5

/-- An I/O command arrives: it begins or waits, and what it sets free goes on. -/
def ioArrive (s : State) (i : Instr) : State :=
  match tryBegin s i with
  | (true, s) => settle { s with eng := { s.eng with held := s.eng.held ++ [i] } }
  | (false, s) => settle s

-- ===== the commands =====

def execFlush (c : Cmd) (s : State) : Host.Outcome State Fault Refusal := .next (ioArrive s (.flush c))
def execWrite (c : Cmd) (slba : Nat) (data : List Block) (fua ordered : Bool) (dtype dspec : Nat) (pi : PiArgs) (s : State) :
    Host.Outcome State Fault Refusal := .next (ioArrive s (.write c slba data fua ordered dtype dspec pi))
def execRead (c : Cmd) (slba nlb : Nat) (fua ordered : Bool) (pi : PiArgs) (s : State) : Host.Outcome State Fault Refusal :=
  .next (ioArrive s (.read c slba nlb fua ordered pi))
def execCompare (c : Cmd) (slba : Nat) (data : List Block) (pi : PiArgs) (s : State) : Host.Outcome State Fault Refusal :=
  .next (ioArrive s (.compare c slba data pi))
def execVerify (c : Cmd) (slba nlb : Nat) (pi : PiArgs) (s : State) : Host.Outcome State Fault Refusal :=
  .next (ioArrive s (.verify c slba nlb pi))
def execWriteZeroes (c : Cmd) (slba nlb : Nat) (deac : Bool) (dtype dspec : Nat) (s : State) : Host.Outcome State Fault Refusal :=
  .next (ioArrive s (.writeZeroes c slba nlb deac dtype dspec))
def execWriteUncorrectable (c : Cmd) (slba nlb : Nat) (s : State) : Host.Outcome State Fault Refusal :=
  .next (ioArrive s (.writeUncorrectable c slba nlb))
def execDatasetManagement (c : Cmd) (deallocate : Bool) (ranges : List (Nat × Nat)) (s : State) : Host.Outcome State Fault Refusal :=
  .next (ioArrive s (.datasetManagement c deallocate ranges))
def execZoneAppend (c : Cmd) (zslba : Nat) (data : List Block) (fua : Bool) (pi : PiArgs) (s : State) : Host.Outcome State Fault Refusal :=
  .next (ioArrive s (.zoneAppend c zslba data fua pi))
def execZoneOpen (c : Cmd) (slba : Nat) (all : Bool) (s : State) : Host.Outcome State Fault Refusal := .next (ioArrive s (.zoneOpen c slba all))
def execZoneClose (c : Cmd) (slba : Nat) (all : Bool) (s : State) : Host.Outcome State Fault Refusal := .next (ioArrive s (.zoneClose c slba all))
def execZoneFinish (c : Cmd) (slba : Nat) (all : Bool) (s : State) : Host.Outcome State Fault Refusal := .next (ioArrive s (.zoneFinish c slba all))
def execZoneReset (c : Cmd) (slba : Nat) (all : Bool) (s : State) : Host.Outcome State Fault Refusal := .next (ioArrive s (.zoneReset c slba all))
def execZoneOffline (c : Cmd) (slba : Nat) (all : Bool) (s : State) : Host.Outcome State Fault Refusal := .next (ioArrive s (.zoneOffline c slba all))

/-- WRITE_ACKNOWLEDGE. -/
def execWriteAcknowledge (fn sqid cid : Nat) (s : State) : Host.Outcome State Fault Refusal := .next (settle (writeAcknowledge s fn sqid cid))

/-- POOL_UNIT_FREED. -/
def execPoolUnitFreed (pool : Nat) (s : State) : Host.Outcome State Fault Refusal := .next (settle (poolUnitFreed s pool))

/-- ZONE_FINISHED_BY_CONTROLLER. -/
def execZoneFinishedByController (nsid zone : Nat) (s : State) : Host.Outcome State Fault Refusal := .next (settle (finishedByController s nsid zone))

/-- ADMISSION_DEADLINE. -/
def execAdmissionDeadline (fn sqid cid : Nat) (s : State) : Host.Outcome State Fault Refusal := .next (settle (admissionDeadline s fn sqid cid))

end Sys2Proof.Machine
end

