-- ==== Sys2Proof/Machine/Compression.lean ====
section
/-! DEFINITION. Machine/Compression.lean: "Compression and Verified Frames": pieces, cuts by idle time, decompressors out of
service. -/
namespace Sys2Proof.Machine
open Sys2Proof

/-- The next piece of a write: its blocks that lie in one 64 KiB slot, and the rest. -/
def nextPiece (s : State) (f : Flight) : List (Nat × Block) × List (Nat × Block) :=
  match f.blocks with
  | [] => ([], [])
  | (lba, b) :: r =>
    let per := 65536 / (nsRec s f.nsid).blk
    (((lba, b) :: r).takeWhile (fun x => x.1 / per == lba / per), ((lba, b) :: r).dropWhile (fun x => x.1 / per == lba / per))

/-- A compressor waits for an output buffer (R210). -/
def pieceStalls (s : State) (zk off compressor gen : Nat) : State :=
  modZone (bump64 s K.outbufStalls) zk (fun z => { z with unit := some (match z.unit with
    | some u => { u with stalled := true }
    | none => { start := off, bytes := 0, staged := 0, dataCrc := 0, compressor := compressor, effort := 0, lastPieceNs := s.clk.nowNs,
                stalled := true, gen := gen }) })

/-- VERIFY_MISMATCH (R208): the piece's output is discarded, a frame begun before it closes with cause VERIFY, and the
compressor is charged. -/
def pieceMismatch (s : State) (zk nsid lba compressor : Nat) : State :=
  let n := nsRec s nsid
  let s := event (bump32 s K.verifyMismatches) Ev.verifyMismatch [compressor, nsid, lba * n.blk / 65536]
  let s := if (zoneAt s zk).unit.any (fun u => u.bytes > 0) then closeUnit s zk 6 else s
  compressorCharge s compressor

/-- A verified piece joins its unit; the unit closes at its slot's end, or behind a command with FUA (R198, R201). -/
def pieceDone (s : State) (f : Flight) (zk : Nat) (piece rest : List (Nat × Block)) (sc compressor : Nat) : State :=
  let n := nsRec s f.nsid
  let zb := zoneBlocks s n
  match piece with
  | [] => s
  | (lba, _) :: _ =>
    let off := lba % zb * n.blk
    let s := piece.foldl (fun s b => storeBlock s f.nsid b.1 b.2) s
    let s := addPiece s zk off (piece.flatMap (fun b => leBytes n.blk b.2.data)) sc compressor f.gen
    let s := modZone s zk (fun z => { z with applied := lba % zb + piece.length })
    let s := modFlight s f.seq (fun x => { x with blocks := rest })
    let s := if (off + piece.length * n.blk) % 65536 = 0 then closeUnit s zk 0
      else if rest.isEmpty && f.fua then closeUnit s zk 2 else s
    let s := if rest.isEmpty then mirrorWrite s f 2 (f.nlb * n.blk) else s
    closeIfFull s zk

/-- COMPRESS_PIECE: the next piece of a write whose earlier-checked writes of the zone have applied. [DESIGN CHOICE, log entry 23] -/
def compressPiece (s : State) (fn sqid cid sc : Nat) (verified : Bool) (compressor : Nat) (noBuffer : Bool) : State :=
  match flight? s fn sqid cid with
  | some f =>
    let (piece, rest) := nextPiece s f
    match piece with
    | [] => s
    | (lba, _) :: _ =>
      let n := nsRec s f.nsid
      let zk := zkey f.nsid (lba / zoneBlocks s n)
      if !(f.stage == .running || f.stage == .committed) || !compressedWrite s f || !mayApply s f
          || !bitAt (v s K.compressorsInService) compressor then s
      else if noBuffer then pieceStalls s zk (lba % zoneBlocks s n * n.blk) compressor f.gen
      else if !verified then pieceMismatch s zk f.nsid lba compressor
      else pieceDone s f zk piece rest sc compressor
  | none => s

def execCompressPiece (fn sqid cid storedLength : Nat) (verified : Bool) (compressor : Nat) (noBuffer : Bool) (s : State) :
    Host.Outcome State Fault Refusal := .next (settle (compressPiece s fn sqid cid storedLength verified compressor noBuffer))

/-- UNIT_IDLE_CUT: a unit no piece has entered for UNIT_IDLE_MS is cut with cause IDLE (R199). -/
def unitIdleCut (s : State) (nsid zone : Nat) : State :=
  match (zoneAt s (zkey nsid zone)).unit with
  | some u => if u.bytes > 0 ∧ s.clk.nowNs ≥ u.lastPieceNs + v s K.unitIdleMs * 1000000 then closeUnit s (zkey nsid zone) 4 else s
  | none => s

def execUnitIdleCut (nsid zone : Nat) (s : State) : Host.Outcome State Fault Refusal := .next (settle (unitIdleCut s nsid zone))

-- ===== decompressors (R215) =====

/-- With no read-path decompressor in service, the blocks that reads in flight wait for in frames fail, without a loss. -/
def failFrames (s : State) : State :=
  if v s K.decompressorsInService = 0 then
    { s with flights := s.flights.map (fun f =>
        let b := (nsRec s f.nsid).blk
        { f with
          failed := f.failed ++ (rangeFrom f.slba f.nlb).filter (fun l => f.frameWaits.any (fun w => w.1 ≤ l * b && l * b ≤ w.2))
          frameWaits := [] }) }
  else s

/-- An error that another decompressor did not reproduce is charged; the second takes the decompressor out of service. [DEDUCED, log entry 74] -/
def decompressorCharge (s : State) (n : Nat) : State :=
  let m := s.comp.charged.getD n 0 + 1
  let s := bump32 { s with comp := { s.comp with charged := s.comp.charged.put n m } } K.dzNotReproduced
  if m = 2 ∧ bitAt (v s K.decompressorsInService) n then
    let s := event (setV s K.decompressorsInService (withBit (v s K.decompressorsInService) n false)) Ev.decompressorOut [n]
    if v s K.decompressorsInService = 0 then failFrames (event s Ev.decompressorsNone []) else s
  else s

end Sys2Proof.Machine
end

