-- ==== Sys2Proof/Machine/Translation.lean ====
section
/-! DEFINITION. Machine/Translation.lean: "Translation, Reclaim and the Loss Map": map misses, write-back, garbage collection,
wear levelling, refresh, die notices. -/
namespace Sys2Proof.Machine
open Sys2Proof

-- ===== map pages (R167, R173, R174, R193, R281) =====

/-- The logical blocks a map page maps: of a page map the mapped ones; of a compressed-unit map those of its slots' frames. -/
def pageLbas (s : State) (id : Nat) : List Nat :=
  let nsid := id / 2 ^ 32
  let n := nsRec s nsid
  if n.zoned then
    let zb := zoneBlocks s n
    let per := Nat.max (zonePages (zb * n.blk)) 1
    let zone := id % 2 ^ 32 / per
    let j := id % 2 ^ 32 % per
    ((zoneAt s (zkey nsid zone)).frames.filter (fun f => f.start / 65536 / mapEntries == j)).flatMap (frameLbas s n zone)
  else (s.xlat.pmap.filter (fun q => q.1 / 2 ^ 64 == nsid && mapPageOf s nsid n (q.1 % 2 ^ 64) == id)).map (fun q => q.1 % 2 ^ 64)

/-- A page enters the cache; the journal's changes to it are applied, which makes it dirty; the reads that wait for it go on. -/
def pageLoaded (s : State) (id : Nat) : State :=
  let late := s.xlat.journal.contains id
  let s := mapTouch s id
  let s := { s with xlat := { s.xlat with
    journal := s.xlat.journal.filter (· != id)
    dirty := if late && !s.xlat.dirty.contains id then s.xlat.dirty ++ [id] else s.xlat.dirty } }
  mapArrived s id

/-- METADATA_LOST (R193): a directory has lost both copies. -/
def metadataLost (s : State) (structure' : Nat) : State :=
  if s.xlat.metaLost then s
  else event (allReadOnly (aenPfs { s with xlat := { s.xlat with metaLost := true } } .persistentError)) Ev.metadataLost [structure']

/-- ZONE_OFFLINE or ZONE_READ_ONLY of a loss entry: the state of the zone that holds a logical block (R188). -/
def zoneLossFlags (s : State) (nsid lba : Nat) : Nat :=
  let n := nsRec s nsid
  let z := (zoneAt s (zkey nsid (zoneOfLba s n lba))).st
  if n.zoned then (if z = .offline then 2 else if z = .readOnly then 4 else 0) else 0

/-- Both copies of a zone record are lost: the zone goes Offline and its whole range is lost (R159, R193). -/
def zoneRecordLost (s : State) (nsid zone : Nat) : State :=
  let n := nsRec s nsid
  let zk := zkey nsid zone
  if !n.zoned ∨ zone ≥ zoneCount s n ∨ (zoneAt s zk).st = .offline then s
  else
    let zb := zoneBlocks s n
    let s := offlineZone (endZoneWrites s zk .zoneOffline) zk (if (zoneAt s zk).coveValid then (zoneAt s zk).cove else n.firstCove)
    discover (zoneChanged s nsid zone) nsid 7 2 0xFFFF (rangeFrom (zone * zb) zb)

/-- Both copies of the loss map are lost (R193): it is rebuilt from the poison index and the zone records; the ranges found wait for
their publication under cause 0x06. Ranges that wait already, and those of a die whose enumeration runs, are published in their own
time. [DEDUCED, log entry 58] -/
def lossMapLost (s : State) : State :=
  let waits (nsid lba : Nat) := s.xlat.unpublished.any (fun p => p.nsid == nsid && p.slba ≤ lba && lba < p.slba + p.nlb)
  let mine := s.xlat.poison.filter (fun p => p.2 < 256 && !waits (p.1 / 2 ^ 64) (p.1 % 2 ^ 64))
  let s := { s with xlat := { s.xlat with losses := [] } }
  ((mine.map (fun p => p.1 / 2 ^ 64)).eraseDups).foldl (fun s nsid =>
    (runsOf ((mine.filter (fun p => p.1 / 2 ^ 64 == nsid)).map (fun p => p.1 % 2 ^ 64))).foldl (fun s r =>
      (splitRange 16 r.1 r.2).foldl (fun s x => lossPend s nsid x.1 x.2 6 (zoneLossFlags s nsid x.1) 0xFFFF 0) s) s) s

/-- A structure of the metadata region that is not a map page. [DEDUCED, log entry 58; DESIGN CHOICE, log entry 129] -/
def metadataRead (s : State) (nsid page : Nat) (any : Bool) : State :=
  if any then s
  else if nsid = 0xFFFFFFFF then (if page = 1 ∨ page = 2 then metadataLost s page else if page = 3 then lossMapLost s else s)
  else zoneRecordLost s nsid (page - 2 ^ 40)

/-- MAP_MISS (R173): the first copy is read, the other where its check fails; a bad copy is written again (R167); with
both lost, every block the page maps is lost (R193). [DEDUCED, log entry 58] -/
def mapMiss (s : State) (nsid page : Nat) (copyA copyB : Bool) : State :=
  let repaired (s : State) := if !copyA && copyB then bump32 s K.metadataRepairs else s
  if nsid = 0xFFFFFFFF ∨ page ≥ 2 ^ 40 then metadataRead (repaired s) nsid page (copyA || copyB)
  else
    let id := nsid * 2 ^ 32 + page
    if !s.xlat.cold.contains id then s
    else
      let s := repaired (bump64 s K.mapMisses)
      if copyA || copyB then pageLoaded s id
      else
        let lost := (pageLbas s id).mergeSort (fun a b => decide (a ≤ b))
        pageLoaded (discover s nsid 6 0 0xFFFF lost) id

def execMapMiss (nsid page : Nat) (copyA copyB : Bool) (s : State) : Host.Outcome State Fault Refusal := .next (settle (mapMiss s nsid page copyA copyB))

/-- MAP_PIN_LOAD (R281): every map page of the namespaces with quota in a bounded Cove is loaded, and MAP_LOADING clears. [DEDUCED, log entry 108] -/
def mapPinLoad (s : State) (c : Nat) : State :=
  if Cd.bounded (coveDesc s c) then
    let pages := s.xlat.cold.filter (fun p => (nsOf s (p / 2 ^ 32)).any (fun n => n.inCove c))
    modBound (pages.foldl pageLoaded s) c (fun b => { b with mapLoading := false })
  else s

def execMapPinLoad (cove : Nat) (s : State) : Host.Outcome State Fault Refusal := .next (settle (mapPinLoad s cove))

/-- MAP_WRITEBACK (R174): every dirty page is written back and every journal delta applied. -/
def mapWriteback (s : State) : State := { s with xlat := { s.xlat with dirty := [], journal := [] } }

def execMapWriteback (s : State) : Host.Outcome State Fault Refusal := .next (settle (mapWriteback s))

-- ===== garbage collection (R178) =====

/-- The victim: the closed stripe with the fewest valid pages above none, then the earliest close, then lowest die and block. [DEDUCED, log entry 128] -/
def gcVictim (s : State) (c : Nat) : Option Stripe :=
  ((s.xlat.stripes.filter (fun p => p.2.cove == c && p.2.closed && stripeValid s p.2 > 0
      && !s.xlat.relocs.any (fun r => p.2.blocks.contains (r.srcDie, r.srcBlock)))).map Prod.snd).foldl (fun best x => match best with
    | none => some x
    | some y =>
      let a := stripeValid s x
      let b := stripeValid s y
      if a < b || (a == b && (x.closeSeq < y.closeSeq || (x.closeSeq == y.closeSeq && decide ((x.blocks.headD (0, 0)).1 * 32768 + (x.blocks.headD (0, 0)).2 < (y.blocks.headD (0, 0)).1 * 32768 + (y.blocks.headD (0, 0)).2)))) then some x
      else some y) none

/-- Copy the valid pages of one victim. -/
def gcCopy (s : State) (c : Nat) : State :=
  match gcVictim s c with
  | some x =>
    let (d, b) := x.blocks.headD (0, 0)
    let hit := s.xlat.pmap.filter (fun q => x.blocks.contains (q.2.die, q.2.block))
    let pages := (hit.map (fun q => mapPageOf s (q.1 / 2 ^ 64) (nsRec s (q.1 / 2 ^ 64)) (q.1 % 2 ^ 64))).eraseDups
    let s := pages.foldl (fun s p => if s.xlat.journal.contains p then pageLoaded s p else s) s
    let (moves, s) := placeAll s c hit
    let s := moves.foldl (fun s m => if wbHas s (m.1 / 2 ^ 64) (m.1 % 2 ^ 64) then wbMovePage s m.1 m.2.2 else s) s
    let copied := sumNat (moves.map (fun m => (nsRec s (m.1 / 2 ^ 64)).blk / 4096))
    addReloc (bump s K.gcCopies 64 copied) .gc d b (.pages moves)
  | none => s

/-- GC_START: below GC_START_GROUPS clean stripes a victim is copied. [DEDUCED, log entry 128] -/
def gcStart (s : State) (c : Nat) : State :=
  if coveKind s c = 3 ∧ !backgroundHeld s ∧ cleanStripes s c < v s K.gcStartGroups then gcCopy s c else s

def execGcStart (cove : Nat) (s : State) : Host.Outcome State Fault Refusal := .next (settle (gcStart s cove))

/-- RELOCATION_SWITCH; garbage collection goes on with its next victim until GC_STOP_GROUPS stripes are clean. [DEDUCED, log entry 128] -/
def switchAndGo (s : State) (id : Nat) : State :=
  match s.xlat.relocs.find? (fun r => r.id == id) with
  | some r =>
    let c := match r.target with
      | .pages (m :: _) => (nsRec s (m.1 / 2 ^ 64)).firstCove
      | _ => 256
    let s := relocationSwitch s id
    if r.kind == .gc && coveKind s c == 3 && decide (cleanStripes s c < v s K.gcStopGroups) then gcCopy s c else s
  | none => s

def execRelocationSwitch (id : Nat) (s : State) : Host.Outcome State Fault Refusal := .next (settle (switchAndGo s id))

-- ===== wear levelling and refresh (R181, R182) =====

/-- Blocks of a die that hold user data and are not being relocated. -/
def userBlocks (s : State) (die : Nat) : List (Nat × PBlock) :=
  (s.nand.blocks.filter (fun p => p.1 / 32768 == die && (match p.2.use with
    | .zone _ _ _ => true
    | .stripe _ _ => true
    | _ => false) && !moving s die (p.1 % 32768))).map (fun p => (p.1 % 32768, p.2))

/-- The first of a list by an order. -/
def firstBy (l : List (Nat × PBlock)) (before : PBlock → PBlock → Bool) : Option Nat :=
  (l.foldl (fun (best : Option (Nat × PBlock)) x => match best with
    | none => some x
    | some y => if before x.2 y.2 then some x else some y) none).map Prod.fst

/-- WEAR_LEVELLING: when the erase counts of the good data blocks of a die differ by more than WEAR_SPREAD, the block with the
lowest is relocated, the oldest program time on a tie. -/
def wearLevelling (s : State) (die : Nat) : State :=
  let good := (List.range (slotOf s die).blocks).filter (fun b => !(blockAt s die b).bad && !(reservedBlocks s die).contains b)
  let es := good.map (fun b => (blockAt s die b).erases)
  let lo := es.foldl Nat.min (maxNat es)
  if !dieUp s die ∨ backgroundHeld s ∨ maxNat es ≤ lo + v s K.wearSpread then s
  else match firstBy ((userBlocks s die).filter (fun x => x.2.erases == lo)) (fun a b => a.progTime < b.progTime) with
    | some b =>
      let s' := startReloc s .wear die b
      if s'.xlat.nextReloc = s.xlat.nextReloc then s' else bump64 s' K.relocations
    | none => s

def execWearLevelling (die : Nat) (s : State) : Host.Outcome State Fault Refusal := .next (settle (wearLevelling s die))

/-- The block of a die that is refreshed next: due by threshold first, then by age, the oldest first within each. -/
def refreshNext (s : State) (die : Nat) : Option Nat :=
  let l := userBlocks s die
  let old (b : PBlock) := decide (blockAge s b > v s (unitKey K.refreshAge b.cell) * 1000000)
  match firstBy (l.filter (fun x => x.2.due)) (fun a b => a.progTime < b.progTime) with
  | some b => some b
  | none => firstBy (l.filter (fun x => old x.2 && x.2.progTime != 0)) (fun a b => a.progTime < b.progTime)

/-- REFRESH. -/
def refresh (s : State) (die : Nat) : State :=
  if !dieUp s die || backgroundHeld s then s
  else match refreshNext s die with
    | some b =>
      let s' := startReloc s .refresh die b
      if s'.xlat.nextReloc = s.xlat.nextReloc then s' else bump64 s' K.refreshRewrites
    | none => s

def execRefresh (die : Nat) (s : State) : Host.Outcome State Fault Refusal := .next (settle (refresh s die))

-- ===== die notices (R185, R188) =====

def execDieRetire (die : Nat) (s : State) : Host.Outcome State Fault Refusal := .next (settle (dieRetire s die))

/-- DIE_NOTICE_ENUMERATION: the ranges lost with a retired die are determined and wait for publication, with the zone state the
loss caused; a last die notice closes the enumeration. -/
def dieEnumerate (s : State) (die : Nat) : State :=
  if !s.xlat.enumerating.contains die then s
  else
    let mark := 3 + 256 * (die + 1)
    let mine := s.xlat.poison.filter (fun p => p.2 == mark)
    let s := { s with xlat := { s.xlat with
      poison := s.xlat.poison.mapVal (fun _ c => if c = mark then 3 else c), enumerating := s.xlat.enumerating.filter (· != die) } }
    let nsids := (mine.map (fun p => p.1 / 2 ^ 64)).eraseDups
    let s := nsids.foldl (fun s nsid =>
      let lbas := (mine.filter (fun p => p.1 / 2 ^ 64 == nsid)).map (fun p => p.1 % 2 ^ 64)
      (runsOf lbas).foldl (fun s r =>
        let flags := zoneLossFlags s nsid r.1
        (splitRange 16 r.1 r.2).foldl (fun s x => lossPend s nsid x.1 x.2 3 flags die 0) s) s) s
    ((coves s).filter (fun c => (Cd.dies (coveDesc s c)).contains die)).foldl (fun s c => lossPend s 0xFFFFFFFF 0 0 3 (8 + 16) die c) s

def execDieNoticeEnumeration (die : Nat) (s : State) : Host.Outcome State Fault Refusal := .next (settle (dieEnumerate s die))

end Sys2Proof.Machine
end

