-- ==== Sys2Proof/Machine/Namespaces.lean ====
section
/-! DEFINITION. Machine/Namespaces.lean: Namespace Management and Attachment, Format NVM, Sanitize, Get LBA Status. Those of
one namespace are serialised (R139); in pair mode those of the partner's half are carried to it (R338). -/
namespace Sys2Proof.Machine
open Sys2Proof

-- ===== identifiers, owners, answers =====

/-- First controller identifier of a package, less 1: 1,024 at position 1 (R136, R338). -/
def cntlidBase (s : State) : Nat := if s.pair.enabled && s.pair.position == 1 then 1024 else 0

/-- The controller identifier of instance `n`. -/
def cntlid (s : State) (n : Nat) : Nat := cntlidBase s + n + 1

/-- The instance of a controller identifier: of this package (false) or of the partner (true). -/
def ctrlOf (s : State) (id : Nat) : Option (Bool × Nat) :=
  let own := cntlidBase s
  let other := 1024 - own
  if own < id ∧ id ≤ own + 1024 then some (false, id - 1 - own)
  else if s.pair.enabled ∧ other < id ∧ id ≤ other + 1024 then some (true, id - 1 - other)
  else none

/-- Answer an admin command; one that the partner carried here is completed by the partner. -/
def answer (s : State) (c : Cmd) (st : NvStatus) (dw0 : Nat) : State := if c.fn < 1024 then complete s c st dw0 else s

/-- This package drives the channels of a half (R318, R320, R335, R336): paired, the halves whose group is not Inaccessible on it; taking
over, its own; alone, both. -/
def drivesHalf (s : State) (half : Nat) : Bool :=
  let ana := if half = 0 then s.pair.ana1 else s.pair.ana2
  if s.pair.state = 2 then ana != 1
  else if s.pair.state = 6 then !s.pair.returning && ana != 1
  else if s.pair.state = 3 then half == s.pair.position
  else s.pair.state == 4

/-- This package executes admin commands for a half (R338). -/
def ownsHalf (s : State) (half : Nat) : Bool := !s.pair.enabled || drivesHalf s half

/-- The half of a set of channels: 1 for channels 16 to 31 (R319). -/
def halfOf (channels : Nat) : Nat := if channels < 2 ^ 16 then 0 else 1

-- ===== Create (R135, R144, R145, R168, R281, R319) =====

/-- Quotas of a template, by Cove. -/
def templateQuota (x : Nat) : Assoc Nat :=
  ((List.range 256).map (fun c => (c, x / 2 ^ (32 * c) % 2 ^ 32))).filter (fun q => q.2 != 0)

/-- An LBA format allows protection information with a guard width. -/
def piAllowed (lbaf piType piGuard : Nat) : Bool :=
  piType = 0 || (piType ≤ 3 && (if lbaf % 4 = 0 then false else if lbaf % 4 = 1 then piGuard == 16 else piGuard == 16 || piGuard == 32 || piGuard == 64))

/-- The namespace a Create would make. -/
def newNs (quota : Assoc Nat) (half : Nat) (zoned : Bool) (nsze lbaf piType piGuard : Nat) : Ns :=
  { zoned := zoned, lbaf := lbaf, piType := piType, piGuard := piGuard, nsze := nsze, quota := quota, attached := [], directive := true,
    deleting := false, tag := none, half := half, remote := [], running := none, waitq := [] }

/-- A Cove holds a namespace of a kind. -/
def coveHolds (s : State) (c : Nat) (zoned : Bool) : Bool := s.nss.any (fun p => p.2.inCove c && p.2.zoned == zoned)

/-- The cases of R144 and R319, and the size rules. -/
def createFields (s : State) (n : Ns) (ncap : Nat) : NvStatus :=
  let cs := n.quota.keys
  let ds := cs.map (coveDesc s)
  let d0 := ds.headD 0
  let halves := cs.map (fun c => halfOf (Cd.channels (coveDesc s c)))
  if n.quota.isEmpty || ds.any (fun d => !Cd.defined d) then .invalidField
  else if s.pair.enabled && halves.any (· != halves.headD 0) then .invalidField
  else if n.nsze ≠ ncap ∨ n.nsze = 0 then .invalidField
  else if n.zoned then
    if ds.any (fun d => Cd.zoneSize d != Cd.zoneSize d0 || Cd.comp d != Cd.comp d0) then .invalidField
    else if n.nsze ≠ Cd.zoneBytes d0 / n.blk * sumNat n.quota.vals then .invalidField
    else if cs.any (fun c => coveHolds s c false) then .invalidField
    else .success
  else if n.quota.vals ≠ [1] ∨ Cd.comp d0 ≠ 0 then .invalidField
  else if n.nsze * n.blk % 2 ^ 30 ≠ 0 then .invalidField
  else if cs.any (fun c => coveHolds s c true) then .invalidField
  else .success

/-- Logical bytes of the thin zones of a namespace in Cove `c`. -/
def thinLogical (s : State) (n : Ns) (c : Nat) : Nat :=
  if n.zoned && Cd.thin (coveDesc s c) then n.quota.getD c 0 * Cd.zoneBytes (coveDesc s c) else 0

/-- THIN_LOGICAL_TOTAL: Σ q_c × Z_B over thin Coves. -/
def thinTotal (s : State) : Nat := sumNat (s.nss.map (fun p => sumNat (p.2.quota.keys.map (thinLogical s p.2))))

/-- Map pages pinned for bounded Coves (R281). -/
def pinnedPages (s : State) : Nat :=
  sumNat (s.nss.map (fun p => if p.2.quota.keys.any (fun c => p.2.inCove c && Cd.bounded (coveDesc s c)) then nsMapPages s p.2 else 0))

/-- The pinned pages of the bounded Coves exceed 7/8 of MAP_CACHE_BYTES. -/
def pinnedOver (s : State) : Bool := decide (pinnedPages s * 4096 * 8 > v s K.mapCacheBytes * 7)

/-- The space a Create needs is not there (R145, R168, R281). `s'` is the state with the new namespace. -/
def noSpace (s s' : State) (n : Ns) : Bool :=
  n.quota.keys.any (fun c =>
    let d := coveDesc s c
    if Cd.thin d then
      decide (sumNat (s'.nss.map (fun p => thinLogical s p.2 c)) * 8 > (8 + Cd.thinRatio d) * physOf s d)
    else decide (promised s' c + charged s c + level s d (Cd.spareWarn d) > physOf s d))
  || decide (thinTotal s' > 2 ^ 51) || decide (mapPagesAll s' * 4096 * 8 > v s K.metaBytesTotal * 3) || pinnedOver s'

/-- The lowest free NSID from 1 to 1,024. -/
def freeNsid (s : State) : Option Nat := (List.range 1024).map (· + 1) |>.find? (fun k => !s.nss.has k)

/-- Execute a Create with a template; `want` is the NSID that position 0 has assigned, 0 for none. -/
def createNs (s : State) (c : Cmd) (quota : Assoc Nat) (want : Nat) (zoned : Bool) (nsze ncap lbaf piType piGuard : Nat) : State :=
  let half := halfOf (Cd.channels (coveDesc s (quota.keys.headD 0)))
  let n := newNs quota half zoned nsze lbaf piType piGuard
  if lbaf > 7 ∨ !piAllowed lbaf piType piGuard then answer s c .invalidFormat 0
  else match createFields s n ncap with
    | .success =>
      match (if want = 0 ∨ s.nss.has want then freeNsid s else some want) with
      | none => answer s c .nsIdUnavailable 0
      | some id =>
        let s' := { s with nss := s.nss.put id n }
        if noSpace s s' n then answer s c .nsInsufficientCapacity 0 else answer (capCheck s') c .success id
    | st => answer s c st 0

-- ===== the data of a namespace =====

/-- Forget every relocation, mapping, cached page, contents, mark and loss of a namespace; its space is free once erased
(R177, R192). Offline zones stay Offline. -/
def wipeNs (s : State) (nsid : Nat) : State :=
  let n := nsRec s nsid
  let before := atRisk s
  let mine := s.zones.filter (fun p => p.1 / 2 ^ 32 == nsid)
  let s := mine.foldl (fun s p => if p.2.st = .offline then s else resetZone s p.1) s
  let s := unpoison (wbDrop (clearBlocks s nsid 0 n.nsze) nsid 0 n.nsze) nsid 0 n.nsze
  let s := mine.foldl (fun s p => lossFlag s nsid (p.1 % 2 ^ 32)) s
  let page (k : Nat) := k / 2 ^ 32 != nsid
  let s := { s with xlat := { s.xlat with
    pmap := s.xlat.pmap.keep (fun k _ => k / 2 ^ 64 != nsid)
    cached := s.xlat.cached.filter page, cold := s.xlat.cold.filter page, dirty := s.xlat.dirty.filter page
    journal := s.xlat.journal.filter page
    relocs := s.xlat.relocs.filter (fun r => match r.target with
      | .pages ms => ms.any (fun m => m.1 / 2 ^ 64 != nsid)
      | _ => true) } }
  let s := keyUnfix { s with nss := s.nss.upd nsid (fun n => { n with tag := none }) } n.tag
  capCheck (atRiskClear before s)

/-- I/O commands in flight on a namespace complete with a status. [PRESUMED, log entry 62] -/
def endCommands (s : State) (p : Flight → Bool) (st : NvStatus) : State :=
  (s.flights.filter (fun f => f.sqid != 0 && p f)).foldl (fun s f =>
    if s.flights.any (fun g => g.seq == f.seq) then completeFlight s f st 0 0 else s) s

-- ===== Attachment, Format, Delete in turn (R136 to R139) =====

/-- The instance of a controller may be attached: committed (R136). -/
def ctrlUsable (s : State) (id : Nat) : Bool :=
  match ctrlOf s id with
  | some (false, n) => (isPf s n || (s.insts.get? n).elim false (fun i => i.state != 0))
  | some (true, _) => true
  | none => false

/-- A controller is attached to a namespace. -/
def ctrlAttached (s : State) (n : Ns) (id : Nat) : Bool :=
  match ctrlOf s id with
  | some (false, k) => n.attached.contains k
  | some (true, k) => n.remote.contains k
  | none => false

/-- The status of an attach (true) or detach. -/
def attachStatus (s : State) (n : Ns) (on : Bool) (ids : List Nat) : NvStatus :=
  if ids.isEmpty ∨ ids.length > 1024 ∨ ids.any (fun i => !ctrlUsable s i) then .controllerListInvalid
  else if ids.any (fun i => ctrlAttached s n i == on) then (if on then .nsAlreadyAttached else .nsNotAttached)
  else .success

/-- Stage the attachment change of each controller for the next boundary (R137). A partner's controller is noted at once. -/
def stageAttach (s : State) (nsid : Nat) (on : Bool) (ids : List Nat) : State :=
  let t := applyTide s
  ids.foldl (fun s i => match ctrlOf s i with
    | some (false, k) => stageAt s t (if on then .attach nsid k else .detach nsid k)
    | some (true, k) => { s with nss := s.nss.upd nsid (fun n => { n with remote := if on then n.remote ++ [k] else n.remote.filter (· != k) }) }
    | none => s) s

/-- Block size of an LBA format. -/
def lbafBlk (lbaf : Nat) : Nat := if lbaf < 4 then 4096 else 16384

/-- FORMAT_NVM: the status of its fields. [PRESUMED, log entry 62] -/
def formatStatus (ses lbaf piType piGuard : Nat) : NvStatus :=
  if ses > 1 then .invalidField else if lbaf > 7 ∨ !piAllowed lbaf piType piGuard then .invalidFormat else .success

/-- FORMAT_NVM: the namespace's data is gone, its format is the new one, its key tag is free (R106). [PRESUMED, log entry 62] -/
def formatNs (s : State) (nsid lbaf piType piGuard : Nat) : State :=
  let s := wipeNs (endCommands s (fun f => f.nsid == nsid) .abortRequested) nsid
  capCheck { s with nss := s.nss.upd nsid (fun n =>
    { n with nsze := n.nsze * n.blk / lbafBlk lbaf, lbaf := lbaf, piType := piType, piGuard := piGuard }) }

/-- Run a serialised command; whether it has finished. An attachment change finishes at its boundary, a Delete when the
namespace has no command left. -/
def nsRun (s : State) (c : Cmd) (op : FwdCmd) : Bool × State :=
  let staged (nsid : Nat) (on : Bool) (ids : List Nat) : Bool × State :=
    match attachStatus s (nsRec s nsid) on ids with
    | .success =>
      if canStage s (applyTide s) then (false, stageAt (stageAttach s nsid on ids) (applyTide s) (.complete nsid))
      else (true, answer s c .commandInterrupted 0)
    | st => (true, answer s c st 0)
  match op with
  | .create .. => (true, s)
  | .sanitize .. => (true, s)
  | .attach nsid ids => staged nsid true ids
  | .detach nsid ids => staged nsid false ids
  | .format nsid ses lbaf t g =>
    (match formatStatus ses lbaf t g with
    | .success => (true, answer (formatNs s nsid lbaf t g) c .success 0)
    | st => (true, answer s c st 0))
  | .delete nsid =>
    let n := nsRec s nsid
    if n.attached.isEmpty || canStage s (applyTide s) then
      let s := { s with nss := s.nss.upd nsid (fun n => { n with deleting := true, remote := [] }) }
      (false, n.attached.foldl (fun s k => stageAt s (applyTide s) (.detach nsid k)) s)
    else (true, answer s c .commandInterrupted 0)

/-- Start a Sanitize (R397): the command completes, and until SANITIZE_DONE no I/O command is executed. [PRESUMED, log entry 63] -/
def sanitizeStart (s : State) (c : Cmd) (ause : Bool) : State :=
  let s := endCommands s (fun _ => true) .sanitizeInProgress
  answer { s with boot := { s.boot with sanitizing := true, ause := ause, failureMode := false } } c .success 0

/-- No serialised command of a namespace runs. -/
def nsQuiet (s : State) : Bool := !s.nss.any (fun p => p.2.running.isSome)

/-- The Sanitize that has waited longest starts once nothing runs. [PRESUMED, log entry 63] -/
def sanitizeNext (s : State) : State :=
  match s.boot.sanWait with
  | (c, _, ause) :: r =>
    if nsQuiet s && !s.boot.sanitizing then sanitizeStart { s with boot := { s.boot with sanWait := r } } c ause else s
  | [] => s

/-- Run the waiting commands of a namespace in turn, until one does not finish at once. -/
def nsServe : Nat → State → Nat → State
  | 0, s, _ => s
  | k + 1, s, nsid =>
    let n := nsRec s nsid
    match n.waitq with
    | (c, op) :: r =>
      if s.boot.sanitizing || !s.boot.sanWait.isEmpty || n.running.isSome then s
      else
        let (done, s') := nsRun { s with nss := s.nss.upd nsid (fun n => { n with waitq := r, running := some (c, op) }) } c op
        if done then nsServe k { s' with nss := s'.nss.upd nsid (fun n => { n with running := none }) } nsid else s'
    | [] => s

/-- The command that runs on a namespace has finished. -/
def nsFinish (s : State) (nsid : Nat) : State :=
  let s := { s with nss := s.nss.upd nsid (fun n => { n with running := none }) }
  let s := sanitizeNext s
  nsServe ((nsRec s nsid).waitq.length + 1) s nsid

/-- A serialised command arrives at its owner. [DEDUCED, log entry 31] -/
def nsArrive (s : State) (c : Cmd) (op : FwdCmd) (nsid : Nat) : State :=
  match nsOf s nsid with
  | some n => nsServe (n.waitq.length + 1) { s with nss := s.nss.put nsid { n with waitq := n.waitq ++ [(c, op)] } } nsid
  | none => answer s c .invalidNsOrFormat 0

/-- The owner executes an admin command of R338. A Create that was carried uses the template of the PF that sent it, which both
packages hold alike. [DEDUCED, log entry 64] -/
def fwdRun (s : State) (c : Cmd) (op : FwdCmd) : State :=
  match op with
  | .create nsid zoned nsze ncap lbaf t g => createNs s c (templateQuota (vi s K.nsTmplQuota (c.fn % 1024))) nsid zoned nsze ncap lbaf t g
  | .delete nsid => nsArrive s c op nsid
  | .attach nsid _ => nsArrive s c op nsid
  | .detach nsid _ => nsArrive s c op nsid
  | .format nsid _ _ _ _ => nsArrive s c op nsid
  | .sanitize action ause =>
    if s.boot.sanitizing then answer s c .sanitizeInProgress 0
    else sanitizeNext { s with boot := { s.boot with sanWait := s.boot.sanWait ++ [(c, action, ause)] } }

/-- Carry an admin command to the owner, or execute it here. A mirror that is lost keeps the record unacknowledged. [DEDUCED, log entry 64] -/
def fwdOrRun (s : State) (c : Cmd) (half : Nat) (op : FwdCmd) : State :=
  if ownsHalf s half then fwdRun s c op
  else
    let s := mirrorSend s 8 64 0 false
    { s with pair := { s.pair with forwards := s.pair.forwards ++ [⟨s.pair.seqSent, c, op⟩] } }

-- ===== the commands =====

/-- The checks every command of this file shares: PF only, reserved fields. -/
def nsGate (s : State) (c : Cmd) : NvStatus := if pfOnly s c then .invalidOpcode else if c.resv then .invalidField else .success

/-- NAMESPACE_CREATE. -/
def namespaceCreate (s : State) (c : Cmd) (zoned : Bool) (nsze ncap lbaf piType piGuard : Nat) : State :=
  match nsGate s c with
  | .success =>
    let q := templateQuota (vi s K.nsTmplQuota c.fn)
    let op : FwdCmd := .create 0 zoned nsze ncap lbaf piType piGuard
    fwdOrRun s c (halfOf (Cd.channels (coveDesc s (q.keys.headD 0)))) op
  | st => complete s c st 0

def execNamespaceCreate (c : Cmd) (zoned : Bool) (nsze ncap lbaf piType piGuard : Nat) (s : State) : Host.Outcome State Fault Refusal :=
  .next (namespaceCreate s c zoned nsze ncap lbaf piType piGuard)

/-- A serialised command, checked and carried or executed. -/
def nsCommand (s : State) (c : Cmd) (op : FwdCmd) : State :=
  match nsGate s c with
  | .success =>
    (match nsOf s c.nsid with
    | some n => settle (fwdOrRun s c n.half op)
    | none => complete s c .invalidNsOrFormat 0)
  | st => complete s c st 0

def execNamespaceDelete (c : Cmd) (s : State) : Host.Outcome State Fault Refusal := .next (nsCommand s c (.delete c.nsid))

def execNamespaceAttach (c : Cmd) (controllers : List Nat) (s : State) : Host.Outcome State Fault Refusal :=
  .next (nsCommand s c (.attach c.nsid controllers))

def execNamespaceDetach (c : Cmd) (controllers : List Nat) (s : State) : Host.Outcome State Fault Refusal :=
  .next (nsCommand s c (.detach c.nsid controllers))

/-- [DEDUCED, log entry 31] -/
def execFormatNvm (c : Cmd) (ses lbaf piType piGuard : Nat) (s : State) : Host.Outcome State Fault Refusal :=
  .next (nsCommand s c (.format c.nsid ses lbaf piType piGuard))

/-- NAMESPACE_DELETE_DONE (R138): detached and without a command in flight, the namespace is removed with its loss-map entries
and its key tags; commands that waited behind the Delete find no namespace. -/
def namespaceDeleteDone (s : State) (nsid : Nat) : State :=
  match nsOf s nsid with
  | some n =>
    if n.deleting && n.attached.isEmpty && !s.flights.any (fun f => f.nsid == nsid && f.sqid != 0) then
      let s := wipeNs s nsid
      let s := { s with
        nss := s.nss.del nsid
        zones := s.zones.keep (fun k _ => k / 2 ^ 32 != nsid)
        xlat := { s.xlat with losses := s.xlat.losses.filter (fun e => e.nsid != nsid)
                              unpublished := s.xlat.unpublished.filter (fun e => e.nsid != nsid) } }
      let s := n.running.elim s (fun r => answer s r.1 .success 0)
      let s := n.waitq.foldl (fun s r => answer s r.1 .invalidNsOrFormat 0) s
      settle (sanitizeNext (capCheck s))
    else s
  | none => s

def execNamespaceDeleteDone (nsid : Nat) (s : State) : Host.Outcome State Fault Refusal := .next (namespaceDeleteDone s nsid)

-- ===== Sanitize (R397, R398) =====

/-- SANITIZE_BLOCK_ERASE: action 2 Block Erase; 3 Overwrite and 4 Crypto Erase are not supported. -/
def sanitizeBlockErase (s : State) (c : Cmd) (action : Nat) (ause : Bool) : State :=
  match nsGate s c with
  | .success =>
    if action ≠ 2 then complete s c .invalidField 0
    else if s.boot.sanitizing then complete s c .sanitizeInProgress 0
    else if s.boot.failureMode && !s.boot.ause && ause then complete s c .sanitizeFailed 0
    else
      let s := if s.pair.enabled && mirroring s then mirrorSend s 8 64 0 false else s
      fwdRun s c (.sanitize action ause)
  | st => complete s c st 0

def execSanitizeBlockErase (c : Cmd) (action : Nat) (ause : Bool) (s : State) : Host.Outcome State Fault Refusal :=
  .next (sanitizeBlockErase s c action ause)

/-- EXIT_FAILURE_MODE: leaves the sanitize failure state, for a sanitize that allowed unrestricted exit. -/
def exitFailureMode (s : State) (c : Cmd) : State :=
  match nsGate s c with
  | .success =>
    if s.boot.sanitizing then complete s c .sanitizeInProgress 0
    else if s.boot.failureMode && !s.boot.ause then complete s c .sanitizeFailed 0
    else complete { s with boot := { s.boot with failureMode := false } } c .success 0
  | st => complete s c st 0

def execExitFailureMode (c : Cmd) (s : State) : Host.Outcome State Fault Refusal := .next (exitFailureMode s c)

/-- Every block of the dies in service is erased. [PRESUMED, log entry 63] -/
def eraseAll (s : State) : State :=
  { s with nand := { s.nand with
      blocks := s.nand.blocks.mapVal (fun k b =>
        if b.bad ∨ dieState s (k / 32768) ≠ 1 then b else { PBlock.fresh with erases := b.erases + 1 })
      arrived := [], ladders := [], wtLog := [], flushArea := false } }

/-- SANITIZE_DONE: every namespace reads as zeros, every zone is Empty, the poison index, the loss map and the key check values
are cleared; with dies whose data cannot be proved erased it ends as Failed. [PRESUMED, log entry 63] -/
def sanitizeDone (s : State) (unproved : List Nat) : State :=
  if !s.boot.sanitizing then s
  else
    let ok := unproved.isEmpty
    let s := s.nss.keys.foldl wipeNs s
    let s := { s with
      zones := [], keyChecks := []
      xlat := { s.xlat with pmap := [], stripes := [], relocMap := [], relocs := [], wbuf := [], poison := [], uncor := [], losses := [],
                            unpublished := [], enumerating := [], cached := [], cold := [], dirty := [], journal := [] } }
    let s := eraseAll s
    let s := { s with boot := { s.boot with sanitizing := false, failureMode := !ok, sanitizeFailed := !ok } }
    let s := if ok then bump32 s K.sanitizes else s
    let s := (pfs s).foldl (fun s p => aen s p .sanitizeCompleted) s
    let s := s.nss.keys.foldl (fun s k => nsServe ((nsRec s k).waitq.length + 1) s k) s
    settle (capCheck s)

def execSanitizeDone (unproved : List Nat) (s : State) : Host.Outcome State Fault Refusal := .next (sanitizeDone s unproved)

-- ===== Get LBA Status (R191) =====

/-- The blocks of a range that a read would fail. [PRESUMED, log entry 65] -/
def failingLbas (s : State) (nsid slba nlb : Nat) : List Nat :=
  let inR (k : Nat) := k / 2 ^ 64 == nsid && slba ≤ k % 2 ^ 64 && k % 2 ^ 64 < slba + nlb
  (((s.xlat.poison.keys ++ s.xlat.uncor.keys).filter inR).map (· % 2 ^ 64)).eraseDups.mergeSort (fun a b => decide (a ≤ b))

/-- The LBA Status Descriptor List: ranges of unrecoverable blocks, as many as the buffer of `len` bytes takes. [PRESUMED, log entry 65] -/
def lbaStatus (s : State) (nsid slba nlb len : Nat) : Bytes :=
  let rs := (runsOf (failingLbas s nsid slba nlb)).flatMap (fun r => splitRange 16 r.1 r.2)
  let fit := rs.take ((len - 8) / 16)
  leBytes 4 fit.length ++ leBytes 4 (if fit.length < rs.length then 2 else 1)
    ++ fit.flatMap (fun r => leBytes 8 r.1 ++ leBytes 4 (r.2 % 2 ^ 32) ++ leBytes 4 0x0100)

/-- GET_LBA_STATUS: range length 0 reaches to the end of the namespace. -/
def getLbaStatus (s : State) (c : Cmd) (slba rl len : Nat) : State :=
  match nsOf s c.nsid with
  | some n =>
    if !n.attached.contains c.fn then complete s c .invalidNsOrFormat 0
    else if c.resv then complete s c .invalidField 0
    else if slba ≥ n.nsze then complete s c .lbaOutOfRange 0
    else complete (dmaOut s c.fn ((lbaStatus s c.nsid slba (if rl = 0 then n.nsze - slba else rl) len).take len)) c .success 0
  | none => complete s c .invalidNsOrFormat 0

def execGetLbaStatus (c : Cmd) (slba rl len : Nat) (s : State) : Host.Outcome State Fault Refusal := .next (getLbaStatus s c slba rl len)

end Sys2Proof.Machine
end

