-- ==== Sys2Proof/Machine/Recovery.lean ====
section
/-! DEFINITION. Machine/Recovery.lean: "Read Recovery and Live Calibration": hard decodes, samples and read offsets, the retry
ladder, refresh marks and retire verdicts, patrol, the decoding of frames. -/
namespace Sys2Proof.Machine
open Sys2Proof

-- ===== pages and offset entries =====

/-- ADDR of a codeword's tail (R246). -/
def tailAddrOf (a : CwAddr) : Nat :=
  a.die * 2 ^ 53 + a.block * 2 ^ 38 + a.wl * 2 ^ 22 + a.pt * 2 ^ 19 + a.plane * 2 ^ 17 + a.cw * 2 ^ 15

/-- The age band of a block (R251). -/
def bandOf (s : State) (b : PBlock) : Nat :=
  let h := blockAge s b / 3600000000
  if b.cell = 0 then 0 else if h = 0 then 1 else Nat.min 15 (log2Fuel 64 h + 2)

/-- Key of an offset entry. -/
def offKey (die band pt : Nat) : Nat := (die * 16 + band) * 8 + pt

/-- The offset entry of a key; one that has never moved holds the persisted offset. -/
def offAt (s : State) (k : Nat) : OffEnt :=
  let kept := (s.nand.offsKept.get? k).getD 0
  s.nand.offs.getD k ⟨kept, kept, 0, false, 0, 0, 0, 0, none⟩

/-- Change an offset entry. -/
def modOff (s : State) (k : Nat) (f : OffEnt → OffEnt) : State := { s with nand := { s.nand with offs := s.nand.offs.put k (f (offAt s k)) } }

/-- The offset entry of a codeword. -/
def offKeyOf (s : State) (a : CwAddr) : Nat := offKey a.die (bandOf s (blockAt s a.die a.block)) a.pt

/-- A read of generation `g` uses CUR (R252). -/
def OffEnt.usesCur (e : OffEnt) (g : Nat) : Bool := decide (e.gen ≤ g)

/-- The LUN holds a suspended program. -/
def suspendedProgram (s : State) (die : Nat) : Bool := (s.nand.luns.get? die).any (fun l => l.susp.any (fun o => o.d.opcode == 3))

/-- FEATURE and ORIENT of a slot's READ_LEVEL_MAP record (R253). -/
def levelFeature (s : State) (die : Nat) : Nat := leAt s.nand.levelMap (8 * slotOfDie die) 1
def levelOrient (s : State) (die : Nat) : Nat := leAt s.nand.levelMap (8 * slotOfDie die + 2) 1

/-- The generation in force whose low four bits a descriptor carries. [DEDUCED, log entry 71] -/
def genOf (s : State) (g4 : Nat) : Nat :=
  if s.genNow % 16 = g4 then s.genNow else ((s.gens.find? (fun g => g.num % 16 == g4)).elim s.genNow Gen.num)

/-- A sample of a hard decode that has succeeded (R254): none with PREV, none across a suspended program. [DEDUCED, log entry 71] -/
def sample (s : State) (a : CwAddr) (gen ones e10 e01 : Nat) : State :=
  let k := offKeyOf s a
  if !vb s K.calEnable then s
  else if suspendedProgram s a.die then bump64 s K.calSkippedSuspend
  else if (offAt s k).usesCur gen then
    modOff s k (fun e => { e with s := e.s + 1, n1 := e.n1 + ones, e10 := e.e10 + e10, e01 := e.e01 + e01 })
  else s

-- ===== refresh marks and verdicts (R262 to R264) =====

/-- A retire verdict (R264, R184). -/
def retireVerdict (s : State) (die block : Nat) : State := blockFails (bump32 s K.retireVerdicts) die block

/-- A block is marked due for refresh; under case 1, while its data is young, its programming takes a strike, and the third in a
row is a verdict. [DEDUCED, log entry 72] -/
def markDue (s : State) (die block : Nat) (case1 : Bool) : State :=
  let b := blockAt s die block
  let strike := case1 && blockYoung s b && !b.struck
  let s := if b.due then s else bump64 s K.refreshMarks
  let s := modBlock s die block (fun b => { b with
    due := true, pending := none, struck := b.struck || strike, strikes := if strike then b.strikes + 1 else b.strikes })
  if strike && decide (b.strikes + 1 ≥ 3) then retireVerdict s die block else s

/-- Case 1 or 2 of R262 on a page: the block becomes due where the entry is settled, else patrol looks again (R263). -/
def markOrCheck (s : State) (a : CwAddr) (settled case1 : Bool) : State :=
  if settled then markDue s a.die a.block case1
  else bump64 (modBlock s a.die a.block (fun b => { b with pending := some (a.wl, a.pt) })) K.pendingChecks

-- ===== patrol laps (R265, R266) =====

/-- The lap of a cell mode. -/
def lapAt (s : State) (cell : Nat) : Lap := s.nand.laps.getD cell ⟨0, [], []⟩

/-- Change the lap of a cell mode. -/
def modLap (s : State) (cell : Nat) (f : Lap → Lap) : State :=
  { s with nand := { s.nand with laps := (List.range 4).map (fun i => if i = cell then f (lapAt s i) else lapAt s i) } }

/-- A block holds data that patrol covers. -/
def patrolled (s : State) (die : Nat) (b : PBlock) : Bool :=
  dieUp s die && (match b.use with
    | .zone .. => true
    | .stripe .. => true
    | .metadata => true
    | .flush => true
    | _ => false)

/-- The blocks of a lap's territory: die, block and wordlines that have passed. [DEDUCED, log entry 72] -/
def territory (s : State) (cell : Nat) : List (Nat × Nat × Nat) :=
  ((s.nand.blocks.filter (fun p => p.2.cell == cell && patrolled s (p.1 / 32768) p.2 && p.2.passed > 0)).map
    (fun p => (p.1 / 32768, p.1 % 32768, p.2.passed)))

/-- Pages of the territory, and those covered in this lap. -/
def lapTotal (s : State) (cell : Nat) : Nat := sumNat ((territory s cell).map (fun t => t.2.2 * cellPages cell))
def lapCovered (s : State) (cell : Nat) : Nat :=
  let d := (lapAt s cell).done
  sumNat ((territory s cell).map (fun t => (d.filter (fun p => p.1 == t.1 && p.2.1 == t.2.1 && decide (p.2.2.1 < t.2.2))).length))

/-- PATROL_PROGRESS in 1/1,024. -/
def patrolShare (s : State) (cell : Nat) : Nat := if lapTotal s cell = 0 then 0 else lapCovered s cell * 1024 / lapTotal s cell

/-- A lap ends once its territory is covered; a long one is counted and recorded. [DEDUCED, log entry 72] -/
def lapEnd (s : State) (cell : Nat) : State :=
  if lapTotal s cell = 0 ∨ lapCovered s cell < lapTotal s cell then s
  else
    let secs := (s.clk.nowNs - (lapAt s cell).startNs) / 1000000000
    let s := setV s (unitKey K.patrolLapLast cell) secs
    let s := if secs * 10 > v s (unitKey K.patrolLap cell) * 11 then event (bump32 s K.patrolOverruns) Ev.patrolOverrun [cell, secs] else s
    modLap s cell (fun _ => ⟨s.clk.nowNs, [], []⟩)

/-- A codeword has decoded at level 0x00 in this lap; a page decoded in full is covered, which ends a PENDING_CHECK of it that
its settled re-read has not confirmed. -/
def cover (s : State) (a : CwAddr) (settled : Bool) : State :=
  let b := blockAt s a.die a.block
  let lap := lapAt s b.cell
  if lap.done.contains (CwAddr.unit a) then s
  else
    let part := if lap.part.contains a then lap.part else lap.part ++ [a]
    let mine := part.filter (fun x => CwAddr.unit x == (CwAddr.unit a))
    if mine.length ≥ 4 * (slotOf s a.die).planes then
      let s := modLap s b.cell (fun l => { l with done := l.done ++ [(CwAddr.unit a)], part := part.filter (fun x => CwAddr.unit x != (CwAddr.unit a)) })
      let s := if settled && b.pending == some (a.wl, a.pt) then modBlock s a.die a.block (fun b => { b with pending := none }) else s
      lapEnd s b.cell
    else modLap s b.cell (fun l => { l with part := part })

-- ===== the ladder (R258 to R261) =====

/-- The page a ladder climbs. -/
def Ladder.unit (l : Ladder) : Nat × Nat × Nat × Nat := (l.die, l.block, l.wl, l.pt)

/-- The ladder that runs on a page. -/
def ladderOn (s : State) (u : Nat × Nat × Nat × Nat) : Option Ladder := s.nand.ladders.find? (fun l => l.unit == u)

/-- Change the ladder of a page. -/
def modLadder (s : State) (u : Nat × Nat × Nat × Nat) (f : Ladder → Ladder) : State :=
  { s with nand := { s.nand with ladders := s.nand.ladders.map (fun l => if l.unit == u then f l else l) } }

/-- Remove the ladder of a page. -/
def dropLadder (s : State) (u : Nat × Nat × Nat × Nat) : State :=
  { s with nand := { s.nand with ladders := s.nand.ladders.filter (fun l => l.unit != u) } }

/-- A codeword has succeeded: reads wait for it no more. -/
def deliver (s : State) (a : CwAddr) : State :=
  { s with flights := s.flights.map (fun f => if f.waits.contains a then { f with waits := f.waits.filter (· != a) } else f) }

/-- The first level after hard level `l` of a ladder in its generation: a hard step, a soft step, or none. -/
def afterHard (s : State) (g l best : Nat) : Option Nat :=
  if l + 1 ≤ vg s g K.ladderHardSteps then some (l + 1)
  else if vg s g K.ladderSoft ≥ 1 then some (0x20 + best)
  else none

/-- The level after `l` (R258); a slot without a read-offset feature has one further read at level 0x00 only (R253). -/
def nextLevel (s : State) (die g l best : Nat) : Option Nat :=
  if levelFeature s die = 0 then none
  else if l < 0x20 then afterHard s g l best
  else if l < 0x30 ∧ vg s g K.ladderSoft = 2 then some (0x30 + best)
  else none

/-- Data lost at the end of a ladder is discovered (R267): the blocks of each codeword left; the block is marked due or, while
its data is young, retired. -/
def codewordsLost (s : State) (die block : Nat) (as : List CwAddr) (host : Bool) : State :=
  let s := as.foldl (fun s a =>
    let s := bump64 s K.ladderUncorrectable
    let s := (lbasAt s die block (cwOffset s a) 4096).foldl (fun s x => discover s x.1 (if host then 1 else 2) 0 die x.2) s
    deliver s a) s
  if blockYoung s (blockAt s die block) then retireVerdict s die block else markDue s die block false

/-- The codewords a ladder still holds. -/
def Ladder.left (l : Ladder) : List CwAddr := l.cws.map (fun c => ⟨l.die, l.block, l.wl, l.pt, c.1, c.2⟩)

/-- The reads that wait for a frame have it. -/
def frameArrived (s : State) (nsid key : Nat) : State :=
  { s with flights := s.flights.map (fun f =>
      if f.nsid == nsid && f.frameWaits.any (fun w => w.1 == key) then { f with frameWaits := f.frameWaits.filter (fun w => w.1 != key) } else f) }

/-- The frame that begins at a byte of a namespace: its zone and the frame. [DEDUCED, log entry 60] -/
def frameOf (s : State) (nsid key : Nat) : Option (Nat × Frame) :=
  let n := nsRec s nsid
  let zbytes := zoneBlocks s n * n.blk
  ((zoneAt s (zkey nsid (key / zbytes))).frames.find? (fun f => f.start == key % zbytes)).map (fun f => (key / zbytes, f))

/-- A frame could not be verified: every block of it is lost (R214, R186). -/
def frameUnverified (s : State) (nsid key die : Nat) (host : Bool) : State :=
  let s := { s with nand := { s.nand with ladders := s.nand.ladders.filter (fun l => !l.frame.any (fun f => f.1 == key && f.2.1 == nsid)) } }
  match frameOf s nsid key with
  | some (zone, f) => discover s nsid (if host then 1 else 2) 0 die (frameLbas s (nsRec s nsid) zone f)
  | none => s

/-- A ladder ends with codewords left. -/
def ladderFail (s : State) (l : Ladder) : State :=
  match l.frame with
  | some (key, nsid, _) => frameUnverified (dropLadder s l.unit) nsid key l.die l.host
  | none => codewordsLost (dropLadder s l.unit) l.die l.block l.left l.host

/-- Start the ladder of a page at the level after `produced`; one without a step ends at once. [DEDUCED, log entry 60] -/
def ladderStart (s : State) (u : Nat × Nat × Nat × Nat) (gen produced unsat : Nat) (cws : List (Nat × Nat)) (host : Bool)
    (frame : Option (Nat × Nat × Nat)) : State :=
  let first := if levelFeature s u.1 = 0 then some 0 else nextLevel s u.1 gen produced produced
  let l : Ladder :=
    { die := u.1, block := u.2.1, wl := u.2.2.1, pt := u.2.2.2, gen := gen, next := first.getD 0, best := produced, bestU := unsat, cws := cws,
      host := host, frame := frame }
  if first.isNone then ladderFail s l else { s with nand := { s.nand with ladders := s.nand.ladders ++ [l] } }

/-- The bounded reads that wait for a page whose first hard decode has failed (R283): they return early, or the ladder becomes
part of them. -/
def boundedFail (s : State) (a : CwAddr) : State :=
  (s.flights.filter (fun f => f.bounded && f.waits.contains a)).foldl (fun s f =>
    if bitAt (vg s f.gen K.earlyReturn) f.cove then
      let s := modBound (bump64 s K.boundEarlyReturns) f.cove (fun b => { b with early := satAdd 32 b.early 1 })
      interruptRead s f (ceilDiv (tLadder s f.cove) 1000)
    else if f.laddered then s
    else
      let s := modFlight s f.seq (fun x => { x with laddered := true })
      if f.excused then s else modBound (bump64 s K.boundExcused) f.cove (fun b => { b with excused := satAdd 32 b.excused 1 })) s

/-- A codeword has failed at level 0x00: it joins the ladder of its page, or starts it (R258, R260). -/
def decodeFail (s : State) (a : CwAddr) (gen unsat : Nat) : State :=
  match ladderOn s (CwAddr.unit a) with
  | some _ => modLadder s (CwAddr.unit a) (fun l => if l.cws.contains (a.plane, a.cw) then l else { l with cws := l.cws ++ [(a.plane, a.cw)] })
  | none =>
    let host := s.flights.any (fun f => f.waits.contains a)
    boundedFail (ladderStart (bump64 s K.hardFails) (CwAddr.unit a) gen 0 unsat [(a.plane, a.cw)] host none) a

/-- HARD_DECODE (R247, R254, R262). [DEDUCED, log entry 71] -/
def hardDecode (s : State) (a : CwAddr) (ok : Bool) (tailAddr ones e10 e01 unsat : Nat) : State :=
  let gen := (s.nand.arrived.find? (fun x => x.1 == a)).elim s.genNow (fun x => x.2.1)
  let s := bump64 { s with nand := { s.nand with arrived := s.nand.arrived.filter (fun x => x.1 != a) } } K.hardDecodes
  let s := if ok ∧ tailAddr ≠ tailAddrOf a then event (bump32 s K.misdirected) Ev.misdirected [tailAddrOf a, tailAddr] else s
  if ok ∧ tailAddr = tailAddrOf a then
    let settled := (offAt s (offKeyOf s a)).settled
    let s := sample s a gen ones e10 e01
    let s := if e10 + e01 ≥ vg s gen (unitKey K.refreshBits (blockAt s a.die a.block).cell) then markOrCheck s a settled true else s
    deliver (cover s a settled) a
  else decodeFail s a gen unsat

def execHardDecode (a : CwAddr) (ok : Bool) (tailAddr ones e10 e01 unsat : Nat) (s : State) : Host.Outcome State Fault Refusal :=
  .next (settle (hardDecode s a ok tailAddr ones e10 e01 unsat))

/-- A codeword has succeeded at step `level` of a ladder of generation `gen` (cases 2 and 3 of R262); another result ends a
PENDING_CHECK of its page on a settled entry (R263). -/
def ladderOk (s : State) (a : CwAddr) (gen level : Nat) : State :=
  let s := bump64 s (if level < 0x20 then K.ladderHardOk else K.ladderSoftOk)
  let settled := (offAt s (offKeyOf s a)).settled
  let s := if level ≥ 0x20 then markDue s a.die a.block false
    else if level ≥ vg s gen K.refreshStep then markOrCheck s a settled false
    else if settled && (blockAt s a.die a.block).pending == some (a.wl, a.pt) then modBlock s a.die a.block (fun b => { b with pending := none })
    else s
  deliver s a

/-- A ladder with every codeword recovered ends; a frame's reads go on, and an error that its first re-read does not reproduce is
charged to the decompressor (R214, R215). -/
def ladderSuccess (s : State) (l : Ladder) (level : Nat) : State :=
  let s := dropLadder s l.unit
  match l.frame with
  | some (key, nsid, dz) =>
    if s.nand.ladders.any (fun x => x.frame == l.frame) then s
    else frameArrived (if level ≤ 1 then decompressorCharge s dz else s) nsid key
  | none => s

/-- LADDER_STEP (R258): the codewords that succeed leave; the rest climb on, or are uncorrectable. -/
def ladderStep (s : State) (u : Nat × Nat × Nat × Nat) (results : List (Nat × Nat × Bool × Nat)) : State :=
  match ladderOn s u with
  | none => s
  | some l =>
    let level := l.next
    let good := l.cws.filter (fun c => results.any (fun r => (r.1, r.2.1) == c && r.2.2.1))
    let rest := l.cws.filter (fun c => !good.contains c)
    let u1 := sumNat ((results.filter (fun r => rest.contains (r.1, r.2.1))).map (fun r => r.2.2.2))
    let s := good.foldl (fun s c => ladderOk s ⟨l.die, l.block, l.wl, l.pt, c.1, c.2⟩ l.gen level) s
    if rest.isEmpty then ladderSuccess s l level
    else
      let better := level < 0x20 && decide (u1 < l.bestU)
      let l' := { l with cws := rest, best := if better then level else l.best, bestU := if better then u1 else l.bestU }
      match nextLevel s l.die l.gen level l'.best with
      | some n => modLadder s u (fun _ => { l' with next := n })
      | none => ladderFail s l'

def execLadderStep (die block wl pt : Nat) (results : List (Nat × Nat × Bool × Nat)) (s : State) : Host.Outcome State Fault Refusal :=
  .next (settle (ladderStep s (die, block, wl, pt) results))

-- ===== frames (R212 to R215, R224) =====

/-- A frame fails: the error is counted and recorded, and every codeword of the frame is read again through the ladder. [DEDUCED, log entry 74] -/
def frameError (s : State) (nsid zone : Nat) (f : Frame) (decompressor dz : Nat) : State :=
  let n := nsRec s nsid
  let key := zone * (zoneBlocks s n * n.blk) + f.start
  let s := bump32 s (unitKey K.dzErrors (dz - 1))
  let s := event s Ev.dzError [decompressor, dz, nsid, key / n.blk]
  let zk := zkey nsid zone
  let cws := logCws s zk (zoneAt s zk) f.log f.stored
  let host := s.flights.any (fun g => g.nsid == nsid && g.frameWaits.any (fun w => w.1 == key))
  ((cws.map CwAddr.unit).eraseDups).foldl (fun s u =>
    if (ladderOn s u).isSome then s
    else ladderStart s u s.genNow 0 (2 ^ 32) ((cws.filter (fun a => (CwAddr.unit a) == u)).map (fun a => (a.plane, a.cw))) host (some (key, nsid, decompressor))) s

/-- DECODE_FRAME: without an error, the reads that need no further byte of the frame have it. -/
def decodeFrame (s : State) (nsid zone start upto decompressor dz : Nat) (confirmed : Bool) : State :=
  let n := nsRec s nsid
  let key := zone * (zoneBlocks s n * n.blk) + start
  match frameOf s nsid key with
  | none => s
  | some (_, f) =>
    if f.kind = 2 ∨ dz > 5 then s
    else
      let s := if dz = 5 then crcRecheck s confirmed else s
      if dz = 0 ∨ (dz = 5 ∧ !confirmed) then
        { s with flights := s.flights.map (fun g =>
            if g.nsid == nsid && g.waits.isEmpty then { g with frameWaits := g.frameWaits.filter (fun w => !(w.1 == key && decide (w.2 < key + upto))) } else g) }
      else frameError s nsid zone f decompressor dz

def execDecodeFrame (nsid zone start upto decompressor dz : Nat) (confirmed : Bool) (s : State) : Host.Outcome State Fault Refusal :=
  .next (settle (decodeFrame s nsid zone start upto decompressor dz confirmed))

-- ===== patrol (R265, R266) =====

/-- Bytes a die has left to patrol in the lap of a cell mode. -/
def patrolLeft (s : State) (cell die : Nat) : Nat :=
  let t := (territory s cell).filter (fun t => t.1 == die)
  let d := (lapAt s cell).done
  let pages := sumNat (t.map (fun x => x.2.2 * cellPages cell - (d.filter (fun p => p.1 == die && p.2.1 == x.2.1 && decide (p.2.2.1 < x.2.2))).length))
  pages * (slotOf s die).planes * 16384

/-- Patrol pauses in Slack and Neap, and while it is off. -/
def patrolOn (s : State) : Bool := vb s K.patrolEnable && !backgroundHeld s && decide (s.power.state < 2) && !s.power.flushActive

/-- The patrol read rate of a die, bytes per second: what it has left in the laps divided by the time they have left. -/
def patrolRateOf (s : State) (die : Nat) : Nat :=
  sumNat ((List.range 4).map (fun cell =>
    let gone := (s.clk.nowNs - (lapAt s cell).startNs) / 1000000000
    ceilDiv (patrolLeft s cell die) (Nat.max 1 (v s (unitKey K.patrolLap cell) - gone))))

/-- PATROL_PACE: each die sets its rate; a lap whose territory is covered ends. -/
def patrolPace (s : State) : State :=
  let s := (List.range 4).foldl lapEnd s
  let dies := (s.nand.dies.keys).filter (dieUp s)
  { s with nand := { s.nand with patrolRate := dies.foldl (fun m d => m.put d (if patrolOn s then patrolRateOf s d else 0)) [] } }

def execPatrolPace (s : State) : Host.Outcome State Fault Refusal := .next (patrolPace s)

/-- CAL_PERSIST (R257): the CUR values are written to the metadata region. -/
def calPersist (s : State) : State :=
  { s with nand := { s.nand with offsKept := s.nand.offs.foldl (fun m p => m.put p.1 p.2.cur) s.nand.offsKept } }

def execCalPersist (s : State) : Host.Outcome State Fault Refusal := .next (calPersist s)

-- ===== evaluation and moves at a boundary (R255, R256) =====

/-- L_cw of a cell mode, bytes. -/
def cwLength (cell : Nat) : Nat := if cell = 0 then 4352 else if cell = 1 then 4544 else if cell = 2 then 4656 else 4816

/-- The cell mode of a die's Cove. -/
def dieCell (s : State) (die : Nat) : Nat :=
  ((coves s).find? (fun c => (Cd.dies (coveDesc s c)).contains die)).elim 3 (fun c => Cd.cell (coveDesc s c))

/-- Sign of an integer. -/
def signOf (x : Int) : Int := if x > 0 then 1 else if x < 0 then -1 else 0

/-- The direction that the counters of an entry ask for. -/
def OffEnt.dir (e : OffEnt) (cell : Nat) : Int :=
  let err := e.e10 + e.e01
  let d : Int := (e.e10 : Int) - e.e01
  if err ≥ 32 then (if 4 * d.natAbs ≤ err then 0 else signOf d)
  else
    let bits := e.s * 8 * cwLength cell
    let x : Int := (e.n1 : Int) - bits / 2
    if x * x ≤ 4 * bits then 0 else signOf x

/-- Evaluate one entry (R255). -/
def evaluate (s : State) (k : Nat) (e : OffEnt) : State :=
  let die := k / 128
  let band := k / 8 % 16
  let dir := e.dir (if band = 0 then 0 else dieCell s die)
  let o : Int := if bitAt (levelOrient s die) (k % 8) then -1 else 1
  let target := e.cur + dir * o * v s K.calStep
  let put (s : State) (f : OffEnt → OffEnt) := modOff s k (fun e => f { e with s := 0, n1 := 0, e10 := 0, e01 := 0 })
  if dir = 0 then put s (fun e => { e with settled := true })
  else if target.natAbs > v s K.calLimit then bump32 (put s (fun e => { e with settled := true })) K.calAtLimit
  else put s (fun e => { e with pend := some target })

/-- The Strand of an entry's die is powered. -/
def strandUp (s : State) (die : Nat) : Bool := !s.nand.gated.contains (die / 256)

/-- Every entry with enough samples and no move pending is evaluated at a boundary. [DEDUCED, log entry 104] -/
def calEvaluate (s : State) : State :=
  if vb s K.calEnable then
    (s.nand.offs.filter (fun p => strandUp s (p.1 / 128) && p.2.s ≥ v s K.calMinSamples && p.2.pend.isNone)).foldl (fun s p => evaluate s p.1 p.2) s
  else s

/-- A read is outstanding on a die under a generation before `g`. -/
def oldReads (s : State) (die g : Nat) : Bool :=
  s.flights.any (fun f => f.gen < g && f.waits.any (fun a => a.die == die))
    || s.nand.ladders.any (fun l => l.die == die && l.gen < g)
    || (s.nand.luns.get? die).any (fun l => l.queue.any (fun d => descRead d && genOf s d.gen < g) || l.run.any (fun o => descRead o.d && genOf s o.d.gen < g))

/-- Apply the pending moves that may apply, as of generation `g`; whether one did. `free` says that a generation may open for
them. [DEDUCED, log entry 104] -/
def calMoves (s : State) (g : Nat) (free : Bool) : Bool × State :=
  (s.nand.offs.filter (fun p => p.2.pend.isSome)).foldl (fun acc p =>
    let (did, s) := acc
    if vb s K.calEnable && free && strandUp s (p.1 / 128) && !oldReads s (p.1 / 128) p.2.gen then
      (true, bump64 (modOff s p.1 (fun e => { e with prev := e.cur, cur := e.pend.getD e.cur, gen := g, settled := false, pend := none })) K.calMoves)
    else (did, bump64 s K.calDeferred)) (false, s)

end Sys2Proof.Machine
end

