-- ==== Sys2Proof/Machine/Nand.lean ====
section
/-! DEFINITION. Machine/Nand.lean: "NAND Channel Engines" and the starting of operations: negotiation, retraining, descriptors,
completions, suspend and resume, the write-through log. -/
namespace Sys2Proof.Machine
open Sys2Proof

-- ===== ownership (R244, R318, R320) =====

/-- Channels of a half. -/
def halfMask (p : Nat) : Nat := if p = 0 then 0xFFFF else 0xFFFF0000

/-- Channels whose slots this package negotiates. -/
def driveMask (s : State) : Nat :=
  if !s.pair.enabled then 2 ^ 32 - 1 else (if drivesHalf s 0 then halfMask 0 else 0) + (if drivesHalf s 1 then halfMask 1 else 0)

/-- CHANNELS_OWNED: in single mode the channels with a slot in service, from the end of negotiation. -/
def ownedMask (s : State) : Nat := if s.nand.negotiated then v s K.channelsInService &&& driveMask s else 0

/-- The fence holds the NAND outputs (R331). -/
def fencedNow (s : State) : Bool := s.pair.state == 5

-- ===== negotiation (R229, R230) =====

/-- Bus rates, highest first. -/
def nandRates : List Nat := [3600, 3200, 2800, 2400, 2000, 1600, 1200, 800]

/-- The interface chosen by NAND_IF_PREF among those a slot supports. -/
def chooseIface (pref : Nat) (sup : List Nat) : Option Nat :=
  let order := if pref = 0 then [1, 2] else if pref = 1 then [2, 1] else if pref = 2 then [1] else [2]
  order.find? sup.contains

/-- MODE and OFFERED of a NAND record. -/
def nandMode (iface rate drive odt : Nat) : Nat := iface * 2 ^ 24 + rate * 2 ^ 12 + drive * 2 ^ 8 + odt * 2 ^ 4

/-- OFFERED: the interface preferred and NAND_TARGET_RATE. -/
def nandOffered (s : State) : Nat :=
  let p := v s K.nandIfPref
  nandMode (if p = 0 ∨ p = 2 then 1 else 2) (v s K.nandTargetRate) 0 0

/-- The key of a slot's negotiation record. -/
def nandNegKey (sl : Nat) : Nat := if sl < 128 then unitKey K.nandNegotiation sl else unitKey K.nandNegotiationHi (sl - 128)

/-- What negotiation settles for a slot: none for an absent one. -/
def settleSlot (s : State) (r : SlotReport) : Option Slot :=
  match (if r.signature then chooseIface (v s K.nandIfPref) r.ifaces else none) with
  | none => none
  | some i =>
    let top := Nat.min (v s K.nandTargetRate) r.maxRate
    let tries := top :: nandRates.filter (· < top)
    (tries.findSome? (fun rate => r.passes.find? (fun p => p.1 == rate))).map (fun p =>
      ⟨true, i, p.1, p.2.1, p.2.2, r.lunMask, r.planes, r.blocks, r.wordlines, 0⟩)

/-- A slot's record is written; a lower mode or an absent slot is a Warning event. -/
def slotRecord (s : State) (sl : Nat) (x : Option Slot) : State :=
  let k := nandNegKey sl
  let off := nandOffered s
  match x with
  | some t =>
    let mode := nandMode t.iface t.rate t.drive t.odt
    let lower := mode / 2 ^ 12 != off / 2 ^ 12
    let s := setV s k (negRecord 2 (if lower then 2 else 1) (negAttempts (v s k) + 1) mode off (time64 s))
    if lower then event s Ev.nandNegLower [sl, mode] else s
  | none => event (negFail s k 2 off) Ev.nandSlotAbsent [sl]

/-- The LUNs of a slot enter service; a LUN that was in service and is not found is retired (R185). -/
def slotDies (s : State) (sl mask : Nat) : State :=
  (List.range 8).foldl (fun s l =>
    let die := sl * 8 + l
    if bitAt mask l then
      (if dieState s die = 0 then domChanged { s with nand := { s.nand with dies := s.nand.dies.put die 1 } } K.nandDieState else s)
    else if dieState s die = 1 then dieRetire s die else s) s

/-- Factory bad blocks of a slot: LUN × 65,536 + block. -/
def factoryBad (s : State) (sl : Nat) (bad : List Nat) : State :=
  bad.foldl (fun s b => modBlock s (sl * 8 + b / 65536) (b % 65536) (fun x => { x with bad := true })) s

/-- Negotiate one slot. -/
def negotiateSlot (s : State) (reports : List SlotReport) (sl : Nat) : State :=
  let r := reports.find? (fun r => r.slot == sl)
  let x := r.bind (settleSlot s)
  let s := slotRecord s sl x
  let s := { s with nand := { s.nand with slots := x.elim (s.nand.slots.del sl) (s.nand.slots.put sl) } }
  let s := x.elim s (fun _ => factoryBad s sl (r.elim [] SlotReport.bad))
  let s := slotDies s sl (x.elim 0 Slot.lunMask)
  if x.isSome && levelFeature s (sl * 8) == 0 then event s Ev.noReadOffsetFeature [sl] else s

/-- The slots of a set of channels. -/
def slotsOf (mask : Nat) : List Nat := (List.range 256).filter (fun sl => bitAt mask (sl / 8))

/-- What follows from the slots present: CHANNELS_IN_SERVICE, META_BYTES_TOTAL, FLUSH blocks, the depths. -/
def slotsChanged (s : State) : State :=
  let chs := (List.range 32).filter (fun ch => (List.range 8).any (fun ce => (slotAt s (ch * 8 + ce)).present))
  let s := setV s K.channelsInService (sumNat (chs.map (2 ^ ·)))
  let up := (s.nand.dies.keys).filter (dieUp s)
  domChanged (setV s K.metaBytesTotal (sumNat (up.map (fun d => s.nand.metaBlocks * (slotOf s d).blockBytes 0)))) K.nandGeometry

/-- The metadata region and the flush area of each die are its first good blocks (R166, R240). -/
def reserveBlocks (s : State) : State :=
  ((s.nand.dies.keys).filter (dieUp s)).foldl (fun s die =>
    let l := reservedBlocks s die
    let region := l.take s.nand.metaBlocks
    l.foldl (fun s b => if (blockAt s die b).use = .free then modBlock s die b (fun x => { x with use := if region.contains b then .metadata else .flush }) else s) s) s

/-- NAND_NEGOTIATION: every slot of the channels this package drives. -/
def nandNegotiate (s : State) (reports : List SlotReport) : State :=
  if driveMask s = 0 ∨ s.power.state ≥ 2 ∨ s.power.down then s
  else
    let s := (slotsOf (driveMask s)).foldl (fun s sl => negotiateSlot s reports sl) s
    let s := reserveBlocks (slotsChanged { s with nand := { s.nand with negotiated := true } })
    boundRecompute (capCheck s)

def execNandNegotiation (reports : List SlotReport) (s : State) : Host.Outcome State Fault Refusal := .next (settle (nandNegotiate s reports))

/-- The next lower rate of a slot. [DESIGN CHOICE, log entry 70] -/
def lowerRate (r : Nat) : Option Nat := nandRates.find? (· < r)

/-- SLOT_RETRAIN (R230): at the same rate up to three times, then at the next lower one; without a lower rate the slot is absent. [DESIGN CHOICE, log entry 70] -/
def slotRetrain (s : State) (sl : Nat) (pair : Option (Nat × Nat)) : State :=
  let x := slotAt s sl
  if !x.present then s
  else
    let s := excuseReads (bump32 s K.busRetrains) (fun a => a.die / 64 == sl / 8)
    let same := decide (x.retrains < 3)
    let rate := if same then some x.rate else lowerRate x.rate
    match rate, pair with
    | some r, some (d, o) =>
      let t := { x with rate := r, drive := d, odt := o, retrains := if same then x.retrains + 1 else 0 }
      slotRecord { s with nand := { s.nand with slots := s.nand.slots.put sl t } } sl (some t)
    | some r, none =>
      let t := { x with rate := r, retrains := if same then x.retrains + 1 else 3 }
      negFail { s with nand := { s.nand with slots := s.nand.slots.put sl t } } (nandNegKey sl) 2 (nandOffered s)
    | none, _ =>
      slotsChanged (slotDies (slotRecord { s with nand := { s.nand with slots := s.nand.slots.del sl } } sl none) sl 0)

def execSlotRetrain (slot : Nat) (pair : Option (Nat × Nat)) (s : State) : Host.Outcome State Fault Refusal := .next (settle (slotRetrain s slot pair))

-- ===== LUN queues =====

/-- A LUN with nothing to do. -/
def Lun.fresh : Lun :=
  { queue := [], run := none, susp := none, ready := false, readyNs := 0, window := [], resume := false, offsets := [], lastFore := false }

/-- A LUN. -/
def lunAt (s : State) (die : Nat) : Lun := s.nand.luns.getD die Lun.fresh

/-- Change a LUN. -/
def modLun (s : State) (die : Nat) (f : Lun → Lun) : State := { s with nand := { s.nand with luns := s.nand.luns.put die (f (lunAt s die)) } }

/-- Post a completion of a channel engine. [DESIGN CHOICE, log entry 67] -/
def ncPost (s : State) (ch : Nat) (e : NcDone) : State := { s with nand := { s.nand with completions := s.nand.completions.put ch e } }

/-- A descriptor completes without having started. -/
def ncNotStarted (s : State) (d : Desc) (st : Nat) : State := ncPost s d.channel ⟨d.tag, st, false, false, 0, 0, 0, 0⟩

/-- A read level that is not reserved (R258). -/
def levelOk (l : Nat) : Bool := l ≤ 0x0C || (0x20 ≤ l && l ≤ 0x2C) || (0x30 ≤ l && l ≤ 0x3C)

/-- The checks of R234; 0 where the descriptor may start. [DEDUCED, log entry 66] -/
def descCheck (s : State) (d : Desc) : Nat :=
  let x := slotAt s (d.channel * 8 + d.ce)
  let die := descDie d
  let media := d.opcode = 1 ∨ d.opcode = 2 ∨ d.opcode = 3 ∨ d.opcode = 4
  if fencedNow s then 0x07
  else if !bitAt (ownedMask s) d.channel then 0x08
  else if !x.present || dieState s die != 1 then 0x0C
  else if d.resv ∨ d.opcode = 0 ∨ d.opcode > 8 ∨ d.pass > 2 then 0x0B
  else if media ∧ (d.planeMask = 0 ∨ d.planeMask ≥ 2 ^ x.planes ∨ d.block ≥ x.blocks ∨ d.wordline ≥ x.wordlines) then 0x0B
  else if (d.opcode = 1 ∨ d.opcode = 2) ∧ (d.cwMask = 0 ∨ d.cwMask > 15 ∨ d.pageType ≥ cellPages d.cell ∨ !levelOk d.level) then 0x0B
  else if media ∧ !bitAt (nandTime s (d.channel * 8 + d.ce) 28 1) d.cell then 0x0B
  else if d.opcode = 3 ∧ (if d.cell < 2 then d.pass ≠ 0 else d.pass ≠ 1 ∧ d.pass ≠ 2) then 0x0B
  else 0

/-- Passes of a block that wait or run: first passes, and final or single ones. -/
def passesQueued (s : State) (die block : Nat) (first : Bool) : Nat :=
  let l := lunAt s die
  let sel (d : Desc) := d.opcode == 3 && d.block == block && (d.pass == 1) == first
  (l.queue.filter sel).length + (if l.run.any (fun o => sel o.d) then 1 else 0) + (if l.susp.any (fun o => sel o.d) then 1 else 0)

/-- The program order of R235: a block receives no other program. -/
def programNext (s : State) (d : Desc) : Bool :=
  let b := blockAt s (descDie d) d.block
  let f := b.firsts + passesQueued s (descDie d) d.block true
  let l := b.finals + passesQueued s (descDie d) d.block false
  if d.cell < 2 then d.wordline == l && b.closed.all (fun n => decide (l < n))
  else if d.pass = 1 then d.wordline == f && decide (f ≤ l + 1) && b.closed.all (fun n => decide (f < n))
  else d.wordline == l && decide (l < f) && (decide (l + 2 ≤ f) || b.closed == some f)

/-- A descriptor is written into its LUN's queue of 16 entries, or completes at once. [DEDUCED, log entry 66] -/
def enqueue (s : State) (opcode : Nat) (d0 : Desc) : State :=
  let d := { d0 with opcode := opcode }
  let die := descDie d
  match descCheck s d with
  | 0 =>
    if (lunAt s die).queue.length ≥ 16 ∨ (opcode = 3 ∧ !programNext s d) then s
    else if opcode = 1 ∧ d.work = .background ∧ backgroundRead (lunAt s die) then s
    else modLun s die (fun l => { l with queue := l.queue ++ [d] })
  | st =>
    let s := ncNotStarted s d st
    if st = 0x0B then event s Ev.ncBadDescriptor [d.channel, d.tag] else s

def execNandRead (d : Desc) (s : State) : Host.Outcome State Fault Refusal := .next (enqueue s 1 d)
def execNandReadSoft (d : Desc) (s : State) : Host.Outcome State Fault Refusal := .next (enqueue s 2 d)
def execNandProgram (d : Desc) (s : State) : Host.Outcome State Fault Refusal := .next (enqueue s 3 d)
def execNandErase (d : Desc) (s : State) : Host.Outcome State Fault Refusal := .next (enqueue s 4 d)
def execNandGetFeature (d : Desc) (s : State) : Host.Outcome State Fault Refusal := .next (enqueue s 5 d)
def execNandSetFeature (d : Desc) (s : State) : Host.Outcome State Fault Refusal := .next (enqueue s 6 d)
def execNandResetLun (d : Desc) (s : State) : Host.Outcome State Fault Refusal := .next (enqueue s 7 d)
def execNandReadStatus (d : Desc) (s : State) : Host.Outcome State Fault Refusal := .next (enqueue s 8 d)

/-- PATROL_READ (R265): a background read of a page of the lap's territory, one at a time on a die. A page under PENDING_CHECK is
read again. -/
def patrolRead (s : State) (die block wl pt : Nat) : State :=
  let b := blockAt s die block
  let again := b.pending == some (wl, pt)
  let x := slotOf s die
  let free := !backgroundRead (lunAt s die) && (channelCoves s (die / 64) == [] || decide (channelUnits s (die / 64) < channelDepth s (die / 64)))
  if !patrolOn s || !patrolled s die b || wl ≥ b.passed || pt ≥ cellPages b.cell || !free then s
  else if (lapAt s b.cell).done.contains (die, block, wl, pt) && !again then s
  else
    let s := if again then modLap s b.cell (fun l =>
        { l with done := l.done.filter (fun u => u != (die, block, wl, pt)), part := l.part.filter (fun a => CwAddr.unit a != (die, block, wl, pt)) }) else s
    let d : Desc :=
      { opcode := 1, flush := false, noSuspend := false, channel := die / 64, ce := die / 8 % 8, lun := die % 8, pass := 0, cell := b.cell,
        planeMask := 2 ^ x.planes - 1, cwMask := 15, pageType := pt, level := 0, block := block, wordline := wl, tag := 0, gen := s.genNow % 16,
        feature := 0, data := 0, resv := false, work := .background }
    enqueue s 1 d

def execPatrolRead (die block wl pt : Nat) (s : State) : Host.Outcome State Fault Refusal := .next (patrolRead s die block wl pt)

-- ===== which operation starts (R269) =====

/-- A foreground read unit. -/
def foreRead (d : Desc) : Bool := descRead d && (match d.work with
  | .foreground _ => true
  | _ => false)

/-- Its unit has been admitted: no held command holds it alone (R278). -/
def unitAdmitted (s : State) (d : Desc) : Bool :=
  let u := (descDie d, d.block, d.wordline, d.pageType)
  let fs := s.flights.filter (fun f => (unitsOf f).contains u)
  fs.isEmpty || fs.any Flight.admitted

/-- A foreground read that may start; once a resume has been asked for, only those of the window (R271). [DEDUCED, log entry 69] -/
def foreReady (s : State) (l : Lun) (d : Desc) : Bool :=
  foreRead d && unitAdmitted s d && (!(l.susp.isSome && l.resume) || l.window.contains d.tag)

/-- A program pass or an erase. -/
def isPE (d : Desc) : Bool := d.opcode == 3 || d.opcode == 4

/-- No program or erase starts, but FLUSH descriptors: the supply has fallen below the warning level and has not recovered (R356),
or has not been good since power-on (R355). -/
def supplyStops (s : State) (d : Desc) : Bool := isPE d && !d.flush && (s.power.armed || !s.power.supplyGood)

/-- The items of a LUN's queue that may start, by the steps of R269; `none` is the resume. [DEDUCED, log entry 68] -/
def candidates (s : State) (l : Lun) : List (Option Desc) :=
  let q := l.queue.filter (fun d => !supplyStops s d && !(backgroundHeld s && d.work == .background))
  let pick (p : Desc → Bool) : List (Option Desc) := (q.filter p).map some
  let free := l.susp.isNone
  if s.power.flushActive then pick (fun d => d.flush && free)
  else
    let fore := q.any (foreReady s l)
    let prog (p : Desc → Bool) := pick (fun d => free && d.opcode == 3 && p d)
    let back := prog (fun d => d.work == .background)
    let front := prog (fun d => match d.work with
      | .foreground _ => true
      | .service => true
      | _ => false)
    pick (fun d => d.opcode == 8 || (free && (d.opcode == 6 || d.opcode == 7)))
      ++ pick (fun d => foreReady s l d && d.work == .foreground true)
      ++ pick (fun d => foreReady s l d && d.work != .foreground true)
      ++ pick (fun d => descRead d && !foreRead d)
      ++ (if l.susp.isSome && l.ready && (l.resume || !fore) then [none] else [])
      ++ pick (fun d => d.opcode == 5 && !fore)
      ++ prog (fun d => d.work == .atRisk) ++ prog (fun d => d.work == .metadata)
      ++ (if l.lastFore then back ++ front else front ++ back)
      ++ pick (fun d => free && d.opcode == 4)

/-- An operation waits for tokens: counted once. -/
def tokenWaitAdd (s : State) (die kind : Nat) : State :=
  if s.nand.tokenWait.contains (die, kind) then s
  else bump64 { s with nand := { s.nand with tokenWait := s.nand.tokenWait ++ [(die, kind)] } } K.tokenWaits

/-- The LUN waits for tokens no more. -/
def tokenWaitDel (s : State) (die : Nat) : State := { s with nand := { s.nand with tokenWait := s.nand.tokenWait.filter (fun w => w.1 != die) } }

/-- The suspended operation of a LUN runs again, once it has its tokens. -/
def resumeRun (s : State) (die : Nat) : State :=
  match (lunAt s die).susp with
  | some o =>
    if tokensGranted s o.d true then
      let s := modLun (tokenWaitDel s die) die (fun l => { l with
        run := some { o with startNs := s.clk.nowNs, asked := false, tokens := tokenCost s o.d }, susp := none, ready := false, window := [], resume := false })
      dieTrace s die 0x03 [die, o.d.tag, Nat.min ((s.clk.nowNs - o.startNs) / 100) (2 ^ 32 - 1)]
    else tokenWaitAdd (modLun s die (fun l => { l with resume := true })) die (tokenKind o.d true)
  | none => s

/-- Start a descriptor of a LUN's queue. -/
def startDesc (s : State) (die : Nat) (d : Desc) : State :=
  let l := lunAt s die
  if descRead d && l.susp.any (fun o => o.d.opcode == 4 && o.d.block == d.block) then
    ncNotStarted (modLun s die (fun l => { l with queue := l.queue.filter (· != d) })) d 0x0A
  else if isPE d && !d.flush && s.thermal.held.contains (slotOfDie die) then ncNotStarted (bump64 s K.tempHoldWaits) d 0x09
  else if tokensGranted s d false then
    let s := modLun (tokenWaitDel s die) die (fun l => { l with
      queue := l.queue.erase d, run := some ⟨d, s.clk.nowNs, 0, 0, false, tokenCost s d⟩
      lastFore := if d.opcode = 3 then d.work != .background else l.lastFore })
    dieTrace s die 0x01 [d.level % 256 * 2 ^ 24 + d.opcode % 256 * 2 ^ 16 + die % 65536, d.tag]
  else tokenWaitAdd s die (tokenKind d false)

/-- OPERATION_START (R269): a LUN with nothing in its array starts the first startable item; work for a gated Strand waits (R19). [DEDUCED, log entry 68] -/
def operationStart (s : State) (die : Nat) : State :=
  let l := lunAt s die
  if l.run.isSome || (l.susp.isSome && !l.ready) || s.power.state ≥ 2 || fencedNow s || !dieUp s die || !(strandUp s die || s.power.flushActive) then s
  else match candidates s l with
    | some d :: _ => startDesc s die d
    | none :: _ => resumeRun s die
    | [] => s

def execOperationStart (die : Nat) (s : State) : Host.Outcome State Fault Refusal := .next (operationStart s die)

-- ===== how operations end (R233, the table of NC_ codes) =====

/-- The codewords a read descriptor transfers. -/
def descCws (d : Desc) : List CwAddr :=
  ((List.range 4).filter (bitAt d.planeMask)).flatMap (fun p =>
    ((List.range 4).filter (bitAt d.cwMask)).map (fun c => ⟨descDie d, d.block, d.wordline, d.pageType, p, c⟩))

/-- The codewords of a read at level 0x00 are in the buffer slice; a ladder step's results come with LADDER_STEP. -/
def readArrived (s : State) (d : Desc) : State :=
  if d.opcode = 1 ∧ d.level = 0 then
    let new := (descCws d).filter (fun a => !hasArrived s a)
    { s with nand := { s.nand with arrived := s.nand.arrived ++ new.map (fun a => (a, genOf s d.gen, d.work == .background)) } }
  else s

/-- A program pass has completed with NC_OK: pages that have passed with it are released (R235, R236). -/
def programOk (s : State) (d : Desc) : State :=
  let die := descDie d
  releasePassed (modBlock s die d.block (fun b => { b with
    cell := d.cell, stale := false
    firsts := if d.pass = 1 then b.firsts + 1 else b.firsts
    finals := if d.pass = 1 then b.finals else b.finals + 1
    progTime := if b.progTime = 0 then time64 s else b.progTime }))

/-- An erase has completed: the block is clean. -/
def eraseOk (s : State) (d : Desc) : State :=
  modBlock s (descDie d) d.block (fun b => { b with erases := b.erases + 1, firsts := 0, finals := 0, closed := none, progTime := 0, stale := false })

/-- A program or erase has failed, or is treated as failed. -/
def peFail (s : State) (d : Desc) : State :=
  if d.opcode = 3 then programFail s (descDie d) d.block else blockRetire s (descDie d) d.block

/-- A read that timed out is retried by the ladder. -/
def readTimeout (s : State) (d : Desc) : State :=
  (descCws d).foldl (fun s a => decodeFail s a (genOf s d.gen) (2 ^ 32)) s

/-- What follows from a status. -/
def ncFollow (s : State) (d : Desc) (status : Nat) : State :=
  let die := descDie d
  if status = 0 then
    (if descRead d then readArrived s d
     else if d.opcode = 3 then programOk s d
     else if d.opcode = 4 then eraseOk s d
     else if d.opcode = 6 then modLun s die (fun l => { l with offsets := l.offsets.put (fld d.data 15 8 * 256 + d.feature % 256) (d.data % 256) })
     else s)
  else if status = 1 then peFail (bump32 s K.programFails) d
  else if status = 2 then peFail (bump32 s K.eraseFails) d
  else if status = 3 then
    (let s := excuseReads (bump32 s K.timeouts) (fun a => a.die == die)
     if isPE d then peFail s d else if descRead d then readTimeout s d else s)
  else if status = 4 then dieRetire (bump32 s K.timeouts) die
  else if status = 5 then modLun (excuseReads s (fun a => a.die / 64 == d.channel)) die (fun l => { l with queue := d :: l.queue })
  else s

/-- The operation in a LUN's array ends with a status. -/
def arrayEnd (s : State) (die status arrayTime nandSr featureOut : Nat) : State :=
  match (lunAt s die).run with
  | none => s
  | some o =>
    let d := o.d
    let overrun := opTimed d && decide (arrayTime > opMax s (slotOfDie die) d)
    let s := modLun s die (fun l => { l with run := none })
    let s := ncPost s d.channel ⟨d.tag, status, overrun, decide (o.suspends > 0), Nat.min o.suspends 255, nandSr, Nat.min arrayTime (2 ^ 32 - 1),
      if d.opcode = 5 then featureOut else 0⟩
    let s := if overrun then excuseReads (bump32 s K.timeOverruns) (fun a => a.die == die) else s
    ncFollow s d status

/-- NAND_COMPLETION: the codes a LUN's operation can end with are 0x00 to 0x05, and only a program fails program status and an
erase erase status. -/
def nandCompletion (s : State) (die status arrayTime nandSr featureOut : Nat) : State :=
  match (lunAt s die).run with
  | none => s
  | some o =>
    if status > 5 ∨ (status = 1 ∧ o.d.opcode ≠ 3) ∨ (status = 2 ∧ o.d.opcode ≠ 4) then s
    else arrayEnd s die status arrayTime nandSr featureOut

def execNandCompletion (die status arrayTime nandSr featureOut : Nat) (s : State) : Host.Outcome State Fault Refusal :=
  .next (settle (nandCompletion s die status arrayTime nandSr featureOut))

/-- DESCRIPTOR_WITHDRAW (R234): a descriptor that has not begun completes with NC_WITHDRAWN. -/
def descriptorWithdraw (s : State) (die tag : Nat) : State :=
  match (lunAt s die).queue.find? (fun d => d.tag == tag) with
  | some d => ncNotStarted (modLun s die (fun l => { l with queue := l.queue.erase d })) d 0x0D
  | none => s

def execDescriptorWithdraw (die tag : Nat) (s : State) : Host.Outcome State Fault Refusal := .next (descriptorWithdraw s die tag)

/-- ARRAY_TIMEOUT: beyond four times its maximum, and at least 10 ms, Reset ends the operation with NC_TIMEOUT, or the die does not
respond and is retired. -/
def arrayTimeout (s : State) (die : Nat) (answered : Bool) : State :=
  match (lunAt s die).run with
  | some o => arrayEnd s die (if answered then 3 else 4) (Nat.max (4 * opMax s (slotOfDie die) o.d + 1) 100000) 0 0
  | none => s

def execArrayTimeout (die : Nat) (answered : Bool) (s : State) : Host.Outcome State Fault Refusal := .next (settle (arrayTimeout s die answered))

-- ===== suspend and resume (R237, R238, R270, R271) =====

/-- An operation that may be suspended for reads: not SLC passes, not FLUSH or NO_SUSPEND. [DEDUCED, log entry 69] -/
def suspendable (d : Desc) : Bool := isPE d && !d.flush && !d.noSuspend && !(d.opcode == 3 && d.cell == 0)

/-- The suspend is issued: the operation leaves the array and releases its tokens. -/
def suspendNow (s : State) (die : Nat) : State :=
  match (lunAt s die).run with
  | some o =>
    let s := bump64 (modLun s die (fun l => { l with
      run := none, ready := false, resume := false, window := []
      susp := some { o with startNs := s.clk.nowNs, ranNs := o.ranNs + (s.clk.nowNs - o.startNs), suspends := o.suspends + 1, asked := false, tokens := 0 } })) K.suspends
    dieTrace s die 0x02 [die, o.d.tag]
  | none => s

/-- SUSPEND_REQUEST: for an admitted foreground read that waits; one that comes before SUSPEND_MIN_RUN is held until then. [DEDUCED, log entry 69] -/
def suspendRequest (s : State) (die : Nat) : State :=
  let l := lunAt s die
  match l.run with
  | some o =>
    if !suspendable o.d || l.susp.isSome || o.asked || !l.queue.any (fun d => foreRead d && unitAdmitted s d) then s
    else if s.clk.nowNs - o.startNs ≥ v s K.suspendMinRun * 1000 then suspendNow s die
    else bump64 (modLun s die (fun l => { l with run := some { o with asked := true } })) K.suspendDeferrals
  | none => s

def execSuspendRequest (die : Nat) (s : State) : Host.Outcome State Fault Refusal := .next (suspendRequest s die)

/-- SUSPEND_MIN_RUN_ELAPSED: a request that was held is issued. -/
def suspendMinRunElapsed (s : State) (die : Nat) : State :=
  if (lunAt s die).run.any ArrayOp.asked then suspendNow s die else s

def execSuspendMinRunElapsed (die : Nat) (s : State) : Host.Outcome State Fault Refusal := .next (suspendMinRunElapsed s die)

/-- SUSPEND_LUN_READY: the LUN takes reads; the window's reads are those admitted now. -/
def suspendLunReady (s : State) (die : Nat) : State :=
  let l := lunAt s die
  if l.susp.isSome && !l.ready then
    modLun s die (fun l => { l with ready := true, readyNs := s.clk.nowNs, window := (l.queue.filter (fun d => foreRead d && unitAdmitted s d)).map Desc.tag })
  else s

def execSuspendLunReady (die : Nat) (s : State) : Host.Outcome State Fault Refusal := .next (suspendLunReady s die)

/-- The reads of the window have finished. -/
def windowDone (l : Lun) : Bool := !l.queue.any (fun d => foreRead d && l.window.contains d.tag)

/-- RESUME_REQUEST: once no foreground read waits, or the window has passed and its reads have finished. -/
def resumeRequest (s : State) (die : Nat) : State :=
  let l := lunAt s die
  if l.susp.isNone || !l.ready || l.run.isSome then s
  else if !l.queue.any (fun d => foreRead d && unitAdmitted s d) || ((l.resume || s.clk.nowNs - l.readyNs ≥ v s K.suspendWindow * 1000) && windowDone l) then
    resumeRun s die
  else s

def execResumeRequest (die : Nat) (s : State) : Host.Outcome State Fault Refusal := .next (resumeRequest s die)

/-- SUSPEND_WINDOW_EXPIRY: the resume is asked for; reads outside the window wait for the next suspend. -/
def suspendWindowExpiry (s : State) (die : Nat) : State :=
  let l := lunAt s die
  if l.susp.isSome && l.ready then resumeRequest (modLun s die (fun l => { l with resume := true })) die else s

def execSuspendWindowExpiry (die : Nat) (s : State) : Host.Outcome State Fault Refusal := .next (suspendWindowExpiry s die)

-- ===== a flush, a fence (R239, R245) =====

/-- What a LUN does at the start of a flush: reads and erases are abandoned, a suspended program runs to its end, descriptors not
begun do not start. -/
def Lun.atFlush (now : Nat) (l : Lun) : Lun :=
  let stay (o : Option ArrayOp) := o.filter (fun o => !(descRead o.d || o.d.opcode == 4))
  let susp := stay l.susp
  { l with
    queue := l.queue.filter Desc.flush
    run := match stay l.run, susp with
      | some o, _ => some o
      | none, some o => some { o with startNs := now, asked := false }
      | none, none => none
    susp := none, ready := false, resume := false, window := [] }

/-- Descriptors that end before their operation, with a status: those not begun, then those whose operation has begun. -/
def ncEndAll (s : State) (queued : List Desc) (ops : List ArrayOp) (st : Nat) : State :=
  let s := queued.foldl (fun s d => ncNotStarted s d st) s
  ops.foldl (fun s o => ncPost s o.d.channel ⟨o.d.tag, st, false, decide (o.suspends > 0), Nat.min o.suspends 255, 0, 0, 0⟩) s

/-- The LUNs at the start of a flush; ladders end without a verdict (R261). A block whose erase was ended is erased again; what
does not go on completes with NC_ABORTED_POWER. -/
def nandFlushStart (s : State) : State :=
  let ended := s.nand.luns.flatMap (fun p => ((p.2.run.toList ++ p.2.susp.toList).filter (fun o => o.d.opcode == 4)).map (fun o => (p.1, o.d.block)))
  let s := ended.foldl (fun s e => modBlock s e.1 e.2 (fun b => { b with stale := true })) s
  let s := s.nand.luns.foldl (fun s p => ncEndAll s (p.2.queue.filter (fun d => !d.flush))
    ((p.2.run.toList ++ p.2.susp.toList).filter (fun o => descRead o.d || o.d.opcode == 4)) 6) s
  { s with nand := { s.nand with
      luns := s.nand.luns.mapVal (fun _ l => l.atFlush s.clk.nowNs), ladders := [], arrived := [], tokenWait := [] } }

/-- Every descriptor not yet finished completes with NC_FENCED. -/
def nandFenced (s : State) : State :=
  let s := s.nand.luns.foldl (fun s p => ncEndAll s p.2.queue (p.2.run.toList ++ p.2.susp.toList) 7) s
  { s with nand := { s.nand with luns := [], ladders := [], arrived := [], tokenWait := [] } }

-- ===== the write-through log (R243) =====

/-- The block of the flush area that takes the next log page: of the lowest owned die in service. [DEDUCED, log entry 73] -/
def logBlock (s : State) : Option (Nat × Nat) :=
  ((s.nand.dies.keys).find? (fun d => dieUp s d && bitAt (ownedMask s) (d / 64))).bind (fun d =>
    ((reservedBlocks s d)[s.nand.metaBlocks]?).map (fun b => (d, b)))

/-- WT_LOG_DELAY_EXPIRY: the data of a write that has waited goes to the log; once all of it is in passed pages the write
completes. A log page that fails retires its block, and the data waits for another page. [DEDUCED, log entry 73] -/
def wtLogDelayExpiry (s : State) (fn sqid cid : Nat) (pass : Bool) : State :=
  match flight? s fn sqid cid with
  | some f =>
    let hit (e : WbEnt) := e.nsid == f.nsid && decide (e.lba < f.slba + f.nlb) && decide (f.slba < e.lba + e.nlb) && !e.logged
    let l := s.xlat.wbuf.filter hit
    if !vb s K.writeThrough || f.stage != .committed || l.isEmpty then s
    else match logBlock s with
      | none => s
      | some (die, b) =>
        if pass then
          { s with
            xlat := { s.xlat with wbuf := s.xlat.wbuf.map (fun e => if hit e then { e with logged := true } else e) }
            nand := { s.nand with wtLog := s.nand.wtLog ++ l.map (fun e => (e.seq, e.bytes)) } }
        else blockRetire s die b
  | none => s

def execWtLogDelayExpiry (fn sqid cid : Nat) (pass : Bool) (s : State) : Host.Outcome State Fault Refusal :=
  .next (settle (wtLogDelayExpiry s fn sqid cid pass))

end Sys2Proof.Machine
end

