-- ==== Sys2Proof/Machine/Restart.lean ====
section
/-! DEFINITION. Machine/Restart.lean: "Resets and Retention", its effects: what a function reset, a link reset, a restart of the
hub die, the power-loss flush and its replay do to the state (R85, R86, R239, R240, R357, R370 to R374, R435, R436). -/
namespace Sys2Proof.Machine
open Sys2Proof

-- ===== commands abandoned (R86, R370) =====

/-- Free choice of the blocks of an abandoned command that are applied. -/
def chosen (mask : Nat) {α : Type} (l : List α) : List α := (l.zip (List.range l.length)).filterMap (fun x => if bitAt mask x.2 then some x.1 else none)

/-- Pieces of an abandoned compressed write that are applied: `k` blocks at most, STORED_LENGTH free. [DESIGN CHOICE, log entry 28] -/
def abandonPieces : Nat → State → Flight → Nat → State × Flight
  | 0, s, f, _ => (s, f)
  | n + 1, s, f, k =>
    let (piece, rest) := nextPiece s f
    match piece with
    | [] => (s, f)
    | (lba, _) :: _ =>
      if piece.length > k then (s, f)
      else
        let (sc, s) := freeBelow s 131072
        let zk := zkey f.nsid (lba / zoneBlocks s (nsRec s f.nsid))
        abandonPieces n (pieceDone s { f with fua := false } zk piece rest sc 0) { f with blocks := rest } (k - piece.length)

/-- A write that had not completed when its function was reset: each block is written in full or not at all; a zone's write pointer
reflects the blocks applied (R86). Which of the blocks are applied is a free value. [DESIGN CHOICE, log entry 28] -/
def abandonWrite (s : State) (f : Flight) : State :=
  let n := nsRec s f.nsid
  if !(f.stage == .running || f.stage == .committed) then s
  else if n.zoned then
    match f.blocks with
    | [] => s
    | (lba, _) :: _ =>
      let z := zoneAt s (zkey f.nsid (lba / zoneBlocks s n))
      if z.applied = lba % zoneBlocks s n ∧ mayApply s f then
        let (k, s) := freeBelow s (f.blocks.length + 1)
        if compressedWrite s f then
          let (s, f) := abandonPieces f.blocks.length s f k
          zoneWriteFail s f
        else zoneWriteFail (applyDirect s f (f.blocks.take k)) { f with blocks := f.blocks.drop k }
      else zoneWriteFail s f
  else
    let (m, s) := freeBelow s (2 ^ (f.blocks.length + f.nlb + 1))
    let s := (chosen m f.blocks).foldl (fun s b => applyConv s f b.1 b.2) s
    let s := (chosen m (f.clears.flatMap (fun r => rangeFrom r.1 r.2))).foldl (fun s l => deallocate s f.nsid l 1) s
    if f.opcode = 0x04 then (chosen m (rangeFrom f.slba f.nlb)).foldl (fun s l => markUncor s f.nsid l 1) s else s

/-- Commands are abandoned without a completion: those of a test leave flight, oldest first. -/
def abandon (s : State) (p : Flight → Bool) : State :=
  let gone := s.flights.filter p
  let seqs := gone.map Flight.seq
  let s := { s with
    flights := s.flights.filter (fun f => !p f)
    zones := s.zones.mapVal (fun _ z => { z with actions := z.actions.filter (fun a => !seqs.contains a.1) }) }
  let s := gone.foldl abandonWrite s
  { s with zones := s.zones.mapVal (fun _ z => { z with rsv := z.rsv.filter (fun r => !seqs.contains r.1) }) }

/-- Serialised commands of a function go on without a completion; those that wait for their turn are abandoned. [DEDUCED, log entry 80] -/
def orphanCmds (s : State) (fns : List Nat) : State :=
  let mute (c : Cmd) : Cmd := if fns.contains c.fn then { c with fn := c.fn + 1024 } else c
  { s with
    nss := s.nss.mapVal (fun _ n => { n with running := n.running.map (fun r => (mute r.1, r.2)), waitq := n.waitq.filter (fun w => !fns.contains w.1.fn) })
    boot := { s.boot with sanWait := s.boot.sanWait.filter (fun w => !fns.contains w.1.fn) }
    pair := { s.pair with forwards := s.pair.forwards.map (fun f => { f with cmd := mute f.cmd }) } }

-- ===== functions (R370, R373) =====

/-- A write whose carrying command is abandoned goes on without an answer. -/
def JPend.mute (fn : Nat) (p : JPend) : JPend := if p.req.path = .fn fn then { p with answer := false } else p

/-- The NVMe controller of a function returns to its defaults: queues, CC, host-set Features, outstanding AERs; its commands are
abandoned. -/
def resetController (s : State) (fn : Nat) : State :=
  let s := orphanCmds (abandon s (fun f => f.fn == fn)) [fn]
  let mine (k : Nat) : Bool := k / 8192 == fn
  let i := inst s fn
  let i' : Inst :=
    { Inst.fresh with
      state := i.state, reclaiming := i.reclaiming, pasidEnable := i.pasidEnable, session := i.session, nextSession := i.nextSession, keys := i.keys,
      mailbox := i.mailbox, changedNs := i.changedNs, changedZones := i.changedZones, errorCount := i.errorCount }
  { s with
    sqs := s.sqs.keep (fun k _ => !mine k), cqs := s.cqs.keep (fun k _ => !mine k), insts := s.insts.put fn i'
    staged := s.staged.filter (fun x => match x.op with
      | .arbitration f .. => f != fn
      | _ => true)
    eng := { s.eng with qctx := s.eng.qctx.filter (fun k => !mine k), filling := s.eng.filling.filter (fun x => !mine x.1), aborted := s.eng.aborted.filter (fun x => !mine x.1),
                        held := s.eng.held.filter (fun i => (ioCmd i).elim true (fun c => c.fn != fn)) }
    recd := { s.recd with snaps := s.recd.snaps.del fn }
    store := { s.store with queue := s.store.queue.map (JPend.mute fn), waitAck := s.store.waitAck.map (JPend.mute fn) }
    cf := if s.cf.hold = some fn then { s.cf with hold := none, written := [] } else s.cf }

/-- A transfer on a DOMAIN entry, and the versions and copies kept, of the paths of a function end. -/
def dropPath (s : State) (fn : Nat) : State :=
  let other (k : Nat) : Bool := k / 2 ^ 64 != 16 + fn
  { s with miowa := { s.miowa with vers := s.miowa.vers.keep (fun k _ => other k), copies := s.miowa.copies.keep (fun k _ => other k) } }

/-- Every open write transfer is abandoned (R59). -/
def dropTransfers (s : State) : State := { s with miowa := { s.miowa with xfers := [] } }

/-- The keys a record of an image or of an overlay sets: it names no instance, so it gives every instance's value (of NS_TMPL_QUOTA,
every PF instance's). -/
def imageKeys (key : Nat) : List Nat :=
  if key % 2048 = 0 && (rowOf (key / 2048 / 256) (key / 2048 % 256)).any Row.perInst then
    (List.range (if key / 2048 / 256 = 0x3030 then 2 else 1024)).map (instKey key)
  else [key]

/-- What the base image in force says of entries. [DEDUCED, log entry 110] -/
def baseValues (s : State) : List (Nat × Nat) := s.store.baseInForce.flatMap (fun e => (imageKeys e.1).map (fun k => (k, e.2)))

/-- Entries of a test return to their defaults; for an entry that the base image sets, to that value. [DEDUCED, log entry 86] -/
def clearEntries (s : State) (p : Nat → Bool) : State :=
  let kept := s.dict.keep (fun k _ => !p k)
  { s with
    dict := ((baseValues s).filter (fun e => p e.1)).foldl (fun m e => m.put e.1 e.2) kept
    miowa := { s.miowa with doms := s.miowa.doms.keep (fun k _ => !p k) } }

/-- Entries of instance `fn` that a function reset returns to their defaults: 0x2130 to 0x2133; of a PF also MB_MANAGER_VECTOR and
NS_TMPL_QUOTA. [DEDUCED, log entry 110] -/
def resetEntry (s : State) (fn key : Nat) : Bool :=
  let idx := key / 2048 / 256
  (0x2130 ≤ idx && idx ≤ 0x2133 && key % 2048 == fn + 1)
    || (isPf s fn && (key == unitKey K.mbManagerVector fn || (idx == 0x3030 && key % 2048 == fn + 1)))

/-- A function is reset (PERST#, Hot Reset, FLR, NVM subsystem reset): its controller, its configuration space, and the tenant side of
its mailbox (R103). [DEDUCED, log entry 86] -/
def resetFunction (s : State) (fn : Nat) : State :=
  let s := dropPath (resetController s fn) fn
  let s := clearEntries s (resetEntry s fn)
  let s := { s with
    staged := s.staged.filter (fun x => match x.op with
      | .entry k _ => !resetEntry s fn k
      | _ => true)
    msixTable := s.msixTable.keep (fun k _ => k / 8192 != fn) }
  clearTenantSide (modInst s fn (fun i => { i with pasidEnable := false })) fn

/-- VFs that a PF has no longer enabled: their instances go to COMMITTED_ABSENT (R90). -/
def vfsAbsent (s : State) (ns : List Nat) : State :=
  ns.foldl (fun s n => if !isPf s n && ((inst s n).state == 2 || (inst s n).state == 3) then
      instStateTo { s with staged := s.staged.filter (fun x => match x.op with
        | .live m => m != n
        | _ => true) } n 1
    else s) s

/-- The existing functions of a port: its PF and the PF's VFs. -/
def portFns (s : State) (p : Nat) : List Nat := (functions s).filter (fun n => portOf s n == p)

/-- VF Enable of a port's PF is cleared. -/
def vfClear (s : State) (p : Nat) : State :=
  let vfs := (portFns s p).filter (fun n => !isPf s n)
  vfsAbsent (modPort s p (fun x => { x with vfEnable := false, numVfs := 0 })) vfs

/-- Every function of a port is reset. -/
def resetPortFns (s : State) (p : Nat) : State :=
  let fns := portFns s p
  vfClear (fns.foldl resetFunction s) p

/-- A port's link is reset: it is down until it trains again; `sticky` keeps the AER sticky bits, `held` says that PERST# is low. -/
def resetLink (s : State) (p : Nat) (sticky held : Bool) : State :=
  driveWake (modPort s p (fun x =>
    { Port.atReset with perst := held, attempts := x.attempts, ltrNs := 0, subsysVid := x.subsysVid, subsysId := x.subsysId,
                        aerSticky := if sticky then x.aerSticky else 0 }))

/-- RESET_TALLY of a code; LAST_RESET of those that restart a port or a die. -/
def tally (s : State) (code : Nat) : State :=
  let s := if code = 1 then s else bump32 s (unitKey K.resetTally (code - 2))
  if code = 4 ∨ code = 5 then s else setV (setV s K.lastReset code) K.lastResetTime (time64 s)

/-- An FLR: of a PF it reaches the PF and all its VFs, and clears VF Enable; of a VF that VF alone (R86). -/
def flr (s : State) (fn : Nat) : State :=
  let s := tally s 4
  if isPf s fn then resetPortFns s (portOf s fn) else resetFunction s fn

/-- The ports that train in the port mode. -/
def activePorts (s : State) : List Nat := if s.portMode = 0 then [0, 1] else [0]

/-- An NVM subsystem reset: both ports' links and every function; the Rinor link and mirroring go on. -/
def resetSubsystem (s : State) : State :=
  let s := (activePorts s).foldl (fun s p => resetLink (resetPortFns s p) p false false) s
  { dropTransfers (endHold s) with staged := s.staged.filter (fun x => match x.op with
      | .budget _ => false
      | _ => true) }

-- ===== the power-loss flush (R239, R240, R362) =====

/-- A test that runs is aborted by a flush; it runs again at the next power-on (R362). -/
def abortTest (s : State) : State :=
  if s.power.testing then
    setV { s with power := { s.power with testing := false, testLoad := false, charging := true } } K.huTestResult 3
  else s

/-- FLUSH_START (R239): reads are abandoned, programs end, open units close with cause SHUTDOWN, and the at-risk set goes to the flush
area. Every bounded read is excused (R287). [DEDUCED, log entry 84] -/
def flushStart (s : State) : State :=
  if s.power.flushActive then s
  else
    let s := excuseReads (cutUnits (abortTest s) 5 (fun _ _ => true)) (fun _ => true)
    let s := nandFlushStart s
    supplyTo { s with power := { s.power with flushActive := true, flushEnded := false, flushStartNs := s.clk.nowNs, lowest := v s K.supplyNowMv } } 2

/-- The blocks lost with a range that the flush left unprogrammed, widened so that no unit that must stay whole is split (R436). [DESIGN CHOICE, log entry 83] -/
def widenLost (s : State) (nsid slba nlb : Nat) : List Nat :=
  let n := nsRec s nsid
  let base := rangeFrom slba nlb
  if n.zoned then
    let zones := (base.map (zoneOfLba s n)).eraseDups
    let more := zones.flatMap (fun z => ((zoneAt s (zkey nsid z)).frames.filter (fun f => f.kind != 2
      && (frameLbas s n z f).any (fun l => slba ≤ l && l < slba + nlb))).flatMap (frameLbas s n z))
    sortNat (base ++ more).eraseDups
  else
    let seqs := ((s.xlat.wbuf.filter (fun e => e.nsid == nsid && slba < e.lba + e.nlb && e.lba < slba + nlb)).map WbEnt.seq).eraseDups
    let more := seqs.flatMap (fun q =>
      let mine := s.xlat.wbuf.filter (fun e => e.nsid == nsid && e.seq == q)
      if sumNat (mine.map WbEnt.bytes) ≤ 1048576 then mine.flatMap (fun e => rangeFrom e.lba e.nlb) else [])
    sortNat (base ++ more).eraseDups

/-- FLUSH_REPLAY and FLUSH_LOSS_DETERMINATION: what the flush did not finish is lost with cause 0x09; the rest is read back into the
write buffer, where its flush-area copy still holds it (R435, R436). [DESIGN CHOICE, log entry 83] -/
def replayFlush (s : State) : State :=
  let s := s.power.flushLost.foldl (fun s r =>
    let l := widenLost s r.1 r.2.1 r.2.2
    l.foldl (fun s x => wbDrop s r.1 x 1) (discover s r.1 0x09 0 0xFFFF l)) s
  let s := { s with
    power := { s.power with flushLost := [] }
    nand := { s.nand with wtLog := [] } }
  let s := { s with xlat := { s.xlat with wbuf := s.xlat.wbuf.map (fun (e : WbEnt) => { e with acked := true, replay := true, logged := false }) } }
  { s with nand := { s.nand with flushArea := s.nand.flushArea || !s.xlat.wbuf.isEmpty } }

-- ===== restarts of the hub die (R372, R373) =====

/-- Retention class of an entry's key. -/
def classOfKey (key : Nat) : Nat := (rowOf (key / 2048 / 256) (key / 2048 % 256)).elim 1 Row.cls

/-- Service mode ends: a Notice event with its cause; regions unlocked by password lock. -/
def serviceEnd (s : State) (cause : Nat) : State :=
  if s.boot.service then
    event { s with boot := { s.boot with service := false, servicePath := none }, cf := { s.cf with unlocked := [] } } Ev.serviceEnd [cause]
  else s

/-- PAIR_STATE and the link after a restart: a package that holds the fence stays as it is; another forms again. [DESIGN CHOICE, log entry 97] -/
def pairRestart (s : State) : State :=
  let p := s.pair
  let st := if !p.enabled then 0 else if p.fenceOut then p.state else 1
  { s with pair := { p with
      state := st, linkUp := false, linkMode := 0, seqSent := 0, seqAcked := 0, unacked := [], kept := [], recvSeq := 0, recv := [], partnerAsleep := false,
      hbOut := !(p.enabled && st == 5), deferring := false, coordSeq := 0, handing := none, returning := p.returning && st == 1 } }

/-- The instances after a restart (R89, R90): a committed VF instance is COMMITTED_ABSENT, every other UNASSIGNED; keys are gone. [DEDUCED, log entry 81] -/
def restartInsts (s : State) : State :=
  let committed (n : Nat) : Nat := if !isPf s n && vi s K.instanceCtrl n == 1 then 1 else 0
  let ns := ((s.insts.keys ++ (s.dict.filter (fun (e : Nat × Nat) => e.1 / 2048 == K.instanceCtrl / 2048 && e.1 % 2048 != 0)).map (fun (e : Nat × Nat) => e.1 % 2048 - 1)).eraseDups)
  { s with insts := ns.foldl (fun m n => m.put n { Inst.fresh with state := committed n }) [] }

/-- Relocations in progress end; their sources still hold the data. -/
def dropRelocs (s : State) : State := s.xlat.relocs.foldl dropReloc s

/-- Every bounded Cove loads its map pages (R281). [DEDUCED, log entries 86, 108] -/
def pinAll (s : State) : State :=
  { s with nand := { s.nand with bound := ((coves s).filter (fun c => Cd.bounded (coveDesc s c))).foldl (fun m c =>
      m.updD c ⟨0, false, false, 0, 0, 0, 0⟩ (fun b => { b with mapLoading := true })) s.nand.bound } }

/-- A restart of the hub die and both channel dies: commands are abandoned; class C entries, keys, mailboxes, queues, Features, write
transfers and every buffer of those dies return to their defaults; NAND and DRAM negotiate again. [DEDUCED, log entry 86] -/
def hubRestart (s : State) : State :=
  let s := orphanCmds (abandon s (fun _ => true)) (functions s)
  let s := clearEntries s (fun k => classOfKey k == 3)
  let s := { s with
    staged := s.staged.filter (fun x => match x.op with
      | .entry k _ => classOfKey k != 3
      | _ => false)
    gens := [], sqs := [], cqs := [], msixTable := []
    miowa := { s.miowa with xfers := [], vers := [], copies := [], heldWrites := [] }
    crc := { units := List.replicate 16 CrcUnit.atReset, waiting := [], testTurn := 0 }
    comp := { mismatches := [], charged := [] }
    tel := { hist := [], histCove := [], sketchCur := [], sketchPrev := [] }
    trace := { s.trace with fifo := [], cur := [], curFirst := 0xFF, latchA := [], latchB := [] }
    recd := { s.recd with snaps := [] }
    portA := { Port.atReset with perst := s.portA.perst, subsysVid := s.portA.subsysVid, subsysId := s.portA.subsysId }
    portB := { Port.atReset with perst := s.portB.perst, subsysVid := s.portB.subsysVid, subsysId := s.portB.subsysId }
    eng := { s.eng with grants := 0, urgentGrants := 0, lastUrgent := 0, urgentLeft := 0, qctx := [], filling := [], background := [0, 0, 0, 0, 0], aborted := [], held := [] }
    nand := { s.nand with negotiated := false, luns := [], arrived := [], ladders := [], bound := [], tokenWait := [], gated := [], takingOver := 0,
                          offs := [], patrolRate := [], completions := [] }
    dram := { s.dram with negotiated := false, failed := false, selfRefresh := false, subs := [], chans := [], lastPauseNs := none, lastRead := none }
    bufs := { s.bufs with bufs := [], waiting := [], granted := none, hard := [], laps := [] }
    xlat := { s.xlat with cold := (s.xlat.cold ++ s.xlat.cached).eraseDups, cached := [], dirty := [], journal := [] }
    power := { s.power with state := 0, ps := 0, budget := 0, apst := false, apstTable := [], entry := none, ebbThrottle := false, ebbIdle := false,
                            flushActive := false, flushEnded := false, afterFlush := 0, heldResets := [], slow := [] } }
  let s := dropRelocs (restartInsts (endHold (pinAll s)))
  driveWake (pairRestart s)

/-- Watchdog reset: after the flush. -/
def watchdogReset (s : State) : State :=
  let s := replayFlush (hubRestart (serviceEnd (tally s 7) 3))
  bootSelect { s with wdt := { s.wdt with kicks := [], expired := false, deferred := false } }

/-- Management reset: after the flush; the rail sequence starts again at step 3. -/
def managementResetNow (s : State) : State :=
  let s := replayFlush (hubRestart (serviceEnd (tally s 8) 3))
  let s := bootSelect { s with
    power := { s.power with step := 2, good := 2, fault := false, down := false }
    wdt := { s.wdt with kicks := [], expired := false, deferred := false } }
  if s.boot.recovery then s else { s with power := { s.power with step := 3 } }

/-- NVM subsystem reset: a management reset while an activate marker is newer than the running slot (R391). -/
def subsystemResetNow (s : State) : State :=
  if fwPending s ≠ 0 then managementResetNow s else resetSubsystem (tally s 6)

/-- The reset that waits for the end of the flush. [DEDUCED, log entry 82] -/
def afterFlushReset (s : State) : State :=
  let k := s.power.afterFlush
  let s := { s with power := { s.power with afterFlush := 0 } }
  if k = 8 then managementResetNow s else if k = 7 then watchdogReset s else if k = 6 then subsystemResetNow s else s

/-- The rails are up and the media takes a flush (R371). -/
def railsUp (s : State) : Bool := decide (s.power.good = 7) && !s.power.fault && !s.power.down && decide (s.power.state < 2) && s.nand.negotiated

/-- A sleep entry in progress is undone (R349, R374): SLEEP_RESULT reads PW_SLEEP_ABORTED_BY_WAKE; a sleep copy is kept until its
blocks are erased (R351). -/
def sleepUndo (s : State) : State :=
  match s.power.entry with
  | some e =>
    let s := { s with power := { s.power with entry := none, copyErasing := s.power.copyErasing || e.copied }, pair := { s.pair with coordSeq := 0 } }
    bump32 (setV s K.sleepResult 1) K.sleepAborts
  | none => s

/-- A watchdog or management reset (code 7 or 8): the power-loss flush first, when the rails are up (R371). [DEDUCED, log entry 82] -/
def resetWithFlush (s : State) (code : Nat) : State :=
  let s := sleepUndo s
  if s.power.flushActive then { s with power := { s.power with afterFlush := Nat.max s.power.afterFlush code } }
  else if railsUp s then flushStart { s with power := { s.power with afterFlush := code } }
  else if code = 8 then managementResetNow s else watchdogReset s

end Sys2Proof.Machine
end

