-- ==== Sys2Proof/Machine/Power.lean ====
section
/-! DEFINITION. Machine/Power.lean: "Supplies, Power States and Power Loss": rails and sequencing, power states, sleep and wake, supply
thresholds, the flush and the hold-up bank. -/
namespace Sys2Proof.Machine
open Sys2Proof

/-- The latest V12_SENSE sample is below the warning level. -/
def belowWarning (s : State) : Bool := decide (v s K.supplyNowMv ≠ 0 ∧ v s K.supplyNowMv < v s K.supplyWarnMv)

/-- The level of recovery: warning plus hysteresis. -/
def recoverLevel (s : State) : Nat := v s K.supplyWarnMv + v s K.supplyHystMv

/-- A V12_SENSE sample; the lowest of a dip or flush is kept. -/
def supplySample (s : State) (mv : Nat) : State :=
  setV { s with power := { s.power with lowest := if s.power.armed || s.power.flushActive then Nat.min s.power.lowest mv else mv } }
    K.supplyNowMv mv

-- ===== power-loss thresholds (R355 to R359) =====

/-- SUPPLY_WARNING (R356): the flush is armed and programs and erases stop starting; from power-on until the supply has been good,
SUPPLY_STATE stays 0x03 (R355). -/
def supplyWarning (s : State) (mv : Nat) : State :=
  let s := supplySample s mv
  if s.power.flushActive then s
  else if !s.power.supplyGood then { s with power := { s.power with countNs := s.clk.nowNs } }
  else supplyTo { s with power := { s.power with armed := true, fallNs := s.clk.nowNs } } 1

def execSupplyWarning (mv : Nat) (s : State) : Host.Outcome State Fault Refusal := .next (supplyWarning s mv)

/-- A fall below the flush level: in Slack or Neap a Warning event and no flush (R351); nothing while no supply has been good since
power-on (R355); else the flush starts. -/
def flushFall (s : State) : State :=
  if s.power.down then s
  else if s.power.state ≥ 2 then event s Ev.flushLevelInSleep [v s K.supplyNowMv]
  else if !s.power.supplyGood then s
  else flushStart { s with power := { s.power with armed := true } }

/-- SUPPLY_FLUSH_LEVEL. -/
def supplyFlushLevel (s : State) (mv : Nat) : State := flushFall (supplySample s mv)

def execSupplyFlushLevel (mv : Nat) (s : State) : Host.Outcome State Fault Refusal := .next (supplyFlushLevel s mv)

/-- T_HOLD_EXPIRY (R356): below the warning level for longer than T_HOLD_US. -/
def tHoldExpiry (s : State) : State :=
  if s.power.armed && belowWarning s && s.power.state < 2 then flushFall s else s

def execTHoldExpiry (s : State) : Host.Outcome State Fault Refusal := .next (tHoldExpiry s)

/-- PFAIL (R359): counts as a fall below the flush level while PFAIL_ENABLE is true. -/
def pfail (s : State) : State := if vb s K.pfailEnable then flushFall s else s

def execPfail (s : State) : Host.Outcome State Fault Refusal := .next (pfail s)

/-- SUPPLY_HYSTERESIS_CROSSING (R356): at or above warning plus hysteresis the 1 ms count starts and SUPPLY_STATE reads 0x03; below it
again, the state after a dip or flush is 0x01. -/
def supplyCrossing (s : State) (mv : Nat) : State :=
  let s := supplySample s mv
  let s := { s with power := { s.power with countNs := s.clk.nowNs } }
  if s.power.flushActive || !(s.power.armed || s.power.flushEnded) then s
  else supplyTo s (if mv ≥ recoverLevel s then 3 else 1)

def execSupplyHysteresisCrossing (mv : Nat) (s : State) : Host.Outcome State Fault Refusal := .next (supplyCrossing s mv)

/-- SUPPLY_RECOVERED: 1 ms at or above warning plus hysteresis. After a flush: the Error event and the NVM subsystem reset (R357); after a
dip: the Warning event and its count (R356); from power-on: SUPPLY_STATE 0x00 (R355). -/
def supplyRecovered (s : State) : State :=
  if v s K.supplyState ≠ 3 ∨ v s K.supplyNowMv < recoverLevel s ∨ s.power.flushActive ∨ s.power.down then s
  else
    let low := s.power.lowest
    let calm := supplyTo { s with power := { s.power with armed := false, flushEnded := false, supplyGood := true } } 0
    if s.power.flushEnded then
      subsystemResetNow (sleepUndo (event (setV calm K.supplyLastMinMv low) Ev.flushReset [low, v s K.flushLast]))
    else if s.power.armed then settle (bump32 (event (setV calm K.supplyLastMinMv low) Ev.supplyDip [low]) K.supplyDips)
    else calm

def execSupplyRecovered (s : State) : Host.Outcome State Fault Refusal := .next (supplyRecovered s)

/-- Ranges of the write buffer that no copy on the media covers. [DESIGN CHOICE, log entry 83] -/
def uncovered (s : State) : List (Nat × Nat × Nat) :=
  (s.xlat.wbuf.filter (fun e => !e.replay && !e.logged && e.acked)).map (fun e => (e.nsid, e.lba, e.nlb))

/-- Operation ends below the reset level (R358): the rails go down in reverse order and the other dies stay in reset. Acknowledged data
that no flush, sleep copy or log covers is lost at the next power-on; of a flush that had not ended, what it left is a free value. -/
def resetLevel (s : State) : State :=
  if s.power.down then s
  else
    let asleep := decide (s.power.state ≥ 2) && s.power.sleepCopy
    let s := if s.power.flushActive then event s Ev.flushIncomplete [atRisk s] else s
    let s := cutUnits s 5 (fun _ _ => !asleep)
    let l := uncovered s
    let (m, s) := if s.power.flushActive then freeBelow s (2 ^ l.length) else (2 ^ l.length - 1, s)
    let lost := if asleep || s.power.flushEnded then [] else chosen m l
    let s := nandFlushStart (orphanCmds (abandon s (fun _ => true)) (functions s))
    supplyTo { s with
      power := { s.power with down := true, step := 2, good := 2, flushActive := false, flushLost := s.power.flushLost ++ lost, entry := none }
      nand := { s.nand with negotiated := false, luns := [] }
      insts := s.insts.mapVal (fun _ i => { i with rdy := false })
      dram := { s.dram with negotiated := false } } 1

/-- SUPPLY_RESET_LEVEL. -/
def execSupplyResetLevel (mv : Nat) (s : State) : Host.Outcome State Fault Refusal := .next (resetLevel (supplySample s mv))

/-- FLUSH_END (R240, R357): its duration and lowest supply are kept; the resets that waited take effect (R372), else 1 ms of good supply is
waited for. `lost` is what the flush left unprogrammed. [DESIGN CHOICE, log entry 83] -/
def flushEnd (s : State) (lost : List (Nat × Nat × Nat)) : State :=
  if !s.power.flushActive then s
  else
    let us := Nat.min ((s.clk.nowNs - s.power.flushStartNs) / 1000) (2 ^ 32 - 1)
    let above := decide (v s K.supplyNowMv ≥ recoverLevel s)
    let s := setV (setV s K.flushLast us) K.supplyLastMinMv s.power.lowest
    let hit (e : WbEnt) : Bool := lost.any (fun r => r.1 == e.nsid && r.2.1 < e.lba + e.nlb && e.lba < r.2.1 + r.2.2)
    let s := { s with
      xlat := { s.xlat with wbuf := s.xlat.wbuf.map (fun (e : WbEnt) => if hit e then e else { e with replay := true, logged := false }) }
      nand := { s.nand with flushArea := true, wtLog := [] }
      recd := { s.recd with flushed := s.recd.staging }
      wdt := { s.wdt with kicks := [] }
      power := { s.power with flushActive := false, flushEnded := true, flushLost := lost, countNs := s.clk.nowNs } }
    let s := supplyTo s (if above then 3 else 1)
    if s.power.afterFlush ≠ 0 then
      let s := { s with power := { s.power with flushEnded := false, armed := !above, heldResets := [], flushLost := if s.power.afterFlush = 6 then [] else lost } }
      afterFlushReset (if above then supplyTo s 0 else s)
    else
      let held := s.power.heldResets
      held.foldl (fun s h => match h.1 with
        | 0 => flr s h.2
        | 1 => dropTransfers (resetController (tally s 5) h.2)
        | 2 => resetLink (resetPortFns s h.2) h.2 true false
        | _ => resetLink (resetPortFns s h.2) h.2 true false) { s with power := { s.power with heldResets := [] } }

def execFlushEnd (lost : List (Nat × Nat × Nat)) (s : State) : Host.Outcome State Fault Refusal := .next (settle (flushEnd s lost))

-- ===== rails and sequencing (R342 to R345) =====

/-- RAIL_FAULT (R344): a Fatal event naming the rail, then as a crossing of the reset level; the sequence stops. [DESIGN CHOICE, log entry 88] -/
def railFaultAt (s : State) (rail : Nat) : State :=
  let s := resetLevel (event s Ev.railFault [rail, 0x03])
  { s with power := { s.power with fault := true, step := 2, good := 2, down := true } }

/-- The rail of a step: AVSBus rail 0 for the cores, 5 VDD_SRAM, 6 VDD_PHY, 7 VDDQ_DDR, 8 VCCQ_NAND. -/
def stepRail (step : Nat) : Nat := if step = 3 then 5 else if step = 4 then 0 else step + 1

/-- The sequence runs: no fault, no fall below the reset level, not stopped in recovery (R387). -/
def sequencing (s : State) : Bool := !s.power.fault && !s.power.down && !s.boot.recovery && s.boot.powered

/-- POWER_GOOD (R343): the power-good input of the step now driven rises; the next step starts. -/
def powerGood (s : State) (step : Nat) : State :=
  if sequencing s && step == s.power.good + 1 && step ≤ 7 then
    let s := { s with power := { s.power with good := step, step := Nat.min 7 (step + 1) } }
    if step = 4 then
      (List.range 5).foldl (fun s i => setV s (unitKey K.coreMv i) 750) { s with power := { s.power with request := [750, 750, 750, 750, 750] } }
    else s
  else s

def execPowerGood (step : Nat) (s : State) : Host.Outcome State Fault Refusal := .next (powerGood s step)

/-- POWER_GOOD_TIMEOUT: low past 20 ms. -/
def powerGoodTimeout (s : State) (step : Nat) : State :=
  if sequencing s && step == s.power.good + 1 && step ≤ 7 then railFaultAt s (stepRail step) else s

def execPowerGoodTimeout (step : Nat) (s : State) : Host.Outcome State Fault Refusal := .next (powerGoodTimeout s step)

/-- The rails of a step are enabled: up, and not turned off by Slack (Bays alone) or Neap. -/
def stepOn (s : State) (step : Nat) : Bool := decide (3 ≤ step ∧ step ≤ s.power.good) && (s.power.state < 3 || step == 6)

/-- POWER_GOOD_FALL. [DESIGN CHOICE, log entry 88] -/
def powerGoodFall (s : State) (step : Nat) : State :=
  if sequencing s && stepOn s step then railFaultAt s (stepRail step) else s

def execPowerGoodFall (step : Nat) (s : State) : Host.Outcome State Fault Refusal := .next (powerGoodFall s step)

/-- AVSBUS_TIMEOUT (R342): a VDD_CORE rail reports a fault or does not answer within 100 µs. [DEDUCED, log entry 105] -/
def avsbusTimeout (s : State) (rail : Nat) : State :=
  if sequencing s && rail < 5 && stepOn s 4 then railFaultAt s rail else s

def execAvsbusTimeout (rail : Nat) (s : State) : Host.Outcome State Fault Refusal := .next (avsbusTimeout s rail)

-- ===== Ebb (R347) =====

/-- EBB_IDLE: no command has been fetched for EBB_IDLE_MS; Ebb is entered at the next tide boundary. -/
def ebbIdle (s : State) : State :=
  if v s K.ebbIdleMs ≠ 0 ∧ s.power.state = 0 ∧ s.power.entry.isNone then { s with power := { s.power with ebbIdle := true } } else s

def execEbbIdle (s : State) : Host.Outcome State Fault Refusal := .next (ebbIdle s)

/-- EBB_EXIT: the first command fetched ends Ebb entered on idle at once. -/
def ebbExit (s : State) : State :=
  if s.power.ebbIdle then
    let back := s.power.state = 1 ∧ !s.power.ebbThrottle
    let s' := powerTrace { s with power := { s.power with ebbIdle := false, state := if back then 0 else s.power.state } } s.power.state
    if back then ltrAll s' else s'
  else s

/-- Ebb entry and exit at a tide boundary. -/
def ebbBoundary (s : State) : State :=
  let want := s.power.ebbIdle || s.power.ebbThrottle
  if s.power.state = 0 ∧ want then ltrAll (powerTrace { s with power := { s.power with state := 1 } } s.power.state)
  else if s.power.state = 1 ∧ !want then ltrAll (powerTrace { s with power := { s.power with state := 0 } } s.power.state)
  else s

/-- FETCH_GRANT: one fetch by arbitration; in Ebb entered on idle it starts the exit. -/
def fetchGrant (s : State) (e : SqEntry) : State :=
  let s' := arbitrate s e
  settle (if s'.eng.grants = s.eng.grants then s' else ebbExit s')

def execFetchGrant (e : SqEntry) (s : State) : Host.Outcome State Fault Refusal := .next (fetchGrant s e)

-- ===== wake (R349 to R352) =====

/-- A wake source is enabled; 0x07 and 0x09 always are. -/
def wakeEnabled (s : State) (source : Nat) : Bool :=
  if 1 ≤ source ∧ source ≤ 6 then bitAt (v s K.wakeEnable) (source - 1)
  else if source = 8 then bitAt (v s K.wakeEnable) 6
  else source == 7 || source == 9

/-- LAST_WAKE, LAST_WAKE_TIME and the Info event of a wake or abort. -/
def noteWake (s : State) (source : Nat) : State :=
  event (setV (setV s K.lastWake source) K.lastWakeTime (time64 s)) Ev.wake [source, v s K.sleepResult]

/-- A wake by an enabled source: during entry it undoes the entry (R349); after the commit the state left is restored, at the Flood
budget of the power state in force before, and the sleep copy is void (R350, R351). [DEDUCED, log entry 87] -/
def wakeNow (s : State) (source : Nat) : State :=
  if s.power.entry.isSome then noteWake (sleepUndo s) source
  else if s.power.state ≥ 2 then
    let s := powerTrace { s with
      power := { s.power with state := 0, ps := s.power.before, budget := s.power.before, sleepCopy := false, copyErasing := s.power.copyErasing || s.power.sleepCopy,
                              ebbIdle := false }
      dram := { s.dram with selfRefresh := false }
      wdt := { s.wdt with kicks := [] } } s.power.state
    let s := (List.range 5).foldl (fun s i => setV s (unitKey K.coreMv i) (s.power.request.getD i 750)) s
    let s := (List.range 5).foldl (fun s i => setV s (unitKey K.bodyBiasMv i) 0) s
    noteWake (ltrAll s) source
  else s

/-- WAKE. -/
def wake (s : State) (source : Nat) : State := if wakeEnabled s source then settle (wakeNow s source) else s

def execWake (source : Nat) (s : State) : Host.Outcome State Fault Refusal := .next (wake s source)

/-- SQ_TAIL_DOORBELL: the doorbell store takes the value; a doorbell write aborts a sleep entry (R349). -/
def sqTailDoorbell (s : State) (fn qid value : Nat) : State :=
  let s := sqTail s fn qid value
  if s.power.entry.isSome && fnExists s fn then wakeNow s 7 else s

def execSqTailDoorbell (fn qid value : Nat) (s : State) : Host.Outcome State Fault Refusal := .next (sqTailDoorbell s fn qid value)

/-- LINK_L1_EXIT (R82, R84): the link returns to L0; in Slack, Neap or during entry it is wake source 0x01 or 0x02. -/
def linkL1Exit (s : State) (p : Nat) : State :=
  let x := port s p
  if x.link < 3 then s
  else
    let s := modPort s p (fun x => { x with link := 1, refStopped := false, pme := false })
    let s := if x.ltrDue then ltrSend s p else s
    let s := driveWake s
    if (s.power.entry.isSome || s.power.state ≥ 2) && wakeEnabled s (p + 1) then wakeNow s (p + 1) else s

def execLinkL1Exit (port : Nat) (s : State) : Host.Outcome State Fault Refusal := .next (settle (linkL1Exit s port))

-- ===== sleep (R348, R351, R353) =====

/-- Every fetched command has completed, but for held Asynchronous Event Requests, and no LUN works (step 1). -/
def sleepQuiet (s : State) : Bool :=
  s.flights.all (fun f => f.sqid == 0 && f.opcode == 0x0C) && s.nand.luns.all (fun p => p.2.run.isNone && p.2.susp.isNone)

/-- Steps 1 to 3 as far as they go: the sleep copy, then power coordination with the partner (R339). [DEDUCED, log entry 87] -/
def sleepProgress (s : State) : State :=
  match s.power.entry with
  | some e =>
    if sleepQuiet s && !e.copied then
      let s := { s with power := { s.power with entry := some { e with copied := true } } }
      if s.pair.enabled && s.pair.linkUp && mirroring s then
        let s := mirrorSend s 0x0A 8 0 false
        { s with pair := { s.pair with coordSeq := s.pair.seqSent } }
      else { s with power := { s.power with entry := some { e with copied := true, acked := true } } }
    else s
  | none => s

/-- A sleep request for Slack (2) or Neap (3); refused below the warning level (R349). [DEDUCED, log entry 87] -/
def sleepRequest (s : State) (target : Nat) : State :=
  if s.power.state ≥ 2 || s.power.entry.isSome || s.power.down || s.boot.recovery || s.power.flushActive then s
  else if belowWarning s then setV s K.sleepResult 2
  else sleepProgress { s with power := { s.power with entry := some ⟨target, false, false⟩ } }

/-- POWER_REQUEST_SLEEP: a write of POWER_REQUEST with 0x02 or 0x03. -/
def execPowerRequestSleep (a : Access) (x : Nat) (s : State) : Host.Outcome State Fault Refusal :=
  .next (accessWrite s a 0x7010 9 x (fun s _ => (.code 0, if x = 2 ∨ x = 3 then sleepRequest s x else s)))

/-- POWER_REQUEST_WAKE: 0x00 out of band is wake source 0x08. -/
def execPowerRequestWake (a : Access) (s : State) : Host.Outcome State Fault Refusal :=
  .next (accessWrite s a 0x7010 9 0 (fun s _ => (.code 0, if outOfBand a.path then wake s 8 else s)))

/-- SLEEP_COMMIT (step 5): the DRAM queues drain and the ranks go into self-refresh, the domains of the target state are gated and its rails go off. In Neap key
RAM, write transfers and the trace FIFO are gone from the hub; what is saved is restored at wake. [DEDUCED, log entry 87] -/
def sleepCommit (s0 : State) : State :=
  let s := sleepProgress s0
  match s.power.entry with
  | some e =>
    if e.copied && e.acked then
      let neap := e.target = 3
      let s := dramDrain s
      let s := powerTrace { s with
        power := { s.power with state := e.target, before := s.power.ps, ps := e.target + 1, entry := none, sleepCopy := true }
        dram := { s.dram with selfRefresh := true }
        nand := { s.nand with arrived := [] }
        pair := { s.pair with coordSeq := 0 }
        wdt := { s.wdt with kicks := [] }
        miowa := if neap then { s.miowa with xfers := [] } else s.miowa } s.power.state
      let s := if neap then { s with trace := { s.trace with fifo := [], cur := [], curFirst := 0xFF } } else s
      let s := (List.range 5).foldl (fun s i => setV s (unitKey K.coreMv i) (if !neap ∧ i = 0 then 650 else 0)) s
      let s := if neap then s else setV s K.bodyBiasMv (2 ^ 16 - 300)
      ltrAll (setV s K.sleepResult 0)
    else s
  | none => s

def execSleepCommit (s : State) : Host.Outcome State Fault Refusal := .next (sleepCommit s)

-- ===== the hold-up bank (R241, R242, R360 to R362) =====

/-- HOLDUP_CHARGE (R360): a sample of the bank; at the target the charger stops and a recharge ends, 2 % below it starts again. -/
def holdupCharge (s : State) (mv : Nat) : State :=
  let s := setV s K.huBankMv mv
  let target := v s K.huTargetMv
  if mv ≥ target then { s with power := { s.power with charging := false, charged := true, recharging := false } }
  else if mv * 100 < target * 98 && !s.power.testing then { s with power := { s.power with charging := true } }
  else s

def execHoldupCharge (mv : Nat) (s : State) : Host.Outcome State Fault Refusal := .next (holdupCharge s mv)

/-- 2^64. [DESIGN CHOICE, log entry 126] -/
def fix64 : Nat := 2 ^ 64

/-- ln(a ÷ b) × 2^128 for a > b, by the series 2·artanh((a − b) ÷ (a + b)): `x` is its next odd power, `k` the odd number under it. [DESIGN CHOICE, log entry 126] -/
def lnSeries (q d : Nat) : Nat → Nat → Nat → Nat
  | 0, _, _ => 0
  | n + 1, x, k => x / k + lnSeries q d n (x * q / d * q / d) (k + 2)

/-- ln(a ÷ b) × 2^128 for b < a: halved to a ratio below 2 first. [DESIGN CHOICE, log entry 126] -/
def lnRatio : Nat → Nat → Nat → Nat
  | 0, _, _ => 0
  | n + 1, a, b =>
    if a ≥ 2 * b then 2 * lnSeries 1 3 60 (2 ^ 128 / 3) 1 + lnRatio n a (2 * b)
    else 2 * lnSeries (a - b) (a + b) 60 (2 ^ 128 * (a - b) / (a + b)) 1

/-- C of a test in µF × 2^64 (R361): HU_TEST_MS ÷ (HU_TEST_LOAD_OHM × ln(V1 ÷ V2)); 0 where it cannot be computed. [DESIGN CHOICE, log entry 126] -/
def capacitance (s : State) (v1 v2 : Nat) : Nat :=
  if v2 = 0 ∨ v2 ≥ v1 then 0
  else v s K.huTestMs * 1000 * 2 ^ 192 / (v s K.huTestLoadOhm * lnRatio 64 v1 v2)

/-- Usable energy of the bank at `mv`, mJ, rounded down (R361). -/
def bankEnergy (s : State) (c mv : Nat) : Nat :=
  v s K.huEfficiency * c * (mv * mv - v s K.huVminMv * v s K.huVminMv) / (1000 * 2 * 1000000000 * fix64)

/-- Owned channels with a slot in service. -/
def flushChannels (s : State) : List Nat := (List.range 32).filter (fun c => bitAt (ownedMask s) c && s.nand.slots.any (fun p => p.2.present && p.1 / 8 == c))

/-- B_flush, bytes per second (R240). -/
def flushRate (s : State) : Nat :=
  let bus := 8 * sumNat ((flushChannels s).map (fun c => lowRate s [c] * 1000000)) / 10
  let dies := (s.nand.dies.filter (fun p => p.2 == 1 && bitAt (ownedMask s) (p.1 / 64))).map Prod.fst
  let arr := sumNat (dies.map (fun d =>
    let t := nandTime s (slotOfDie d) 8 2
    if t = 0 then 0 else 16384 * (slotOf s d).planes * 1000000 * fix64 / t)) / fix64
  Nat.min bus arr

/-- t_drain, µs. -/
def drainUs (s : State) : Nat :=
  let cells := 0 :: ((coves s).map (fun c => Cd.cell (coveDesc s c)))
  let off (cell : Nat) : Nat := if cell = 0 then 8 else if cell = 1 then 10 else if cell = 2 then 14 else 18
  maxNat ((s.nand.slots.filter (fun p => p.2.present)).flatMap (fun p => nandTime s p.1 26 2 :: cells.map (fun c => nandTime s p.1 (off c) 2)))

/-- Erased bytes of the flush area: its SLC blocks that hold nothing. -/
def flushErased (s : State) : Nat :=
  if s.power.copyErasing || s.power.sleepCopy || s.nand.flushArea then 0
  else sumNat ((s.nand.blocks.filter (fun p => p.2.use == .flush && !p.2.stale && p.2.finals == 0 && !p.2.bad)).map (fun p => (slotOf s (p.1 / 32768)).blockBytes 0))

/-- AT_RISK_LIMIT of an energy (R241), with its caps: the write buffer's size and half the erased flush area. -/
def limitOf (s : State) (mJ : Nat) : Nat :=
  let b := flushRate s
  let p := v s K.holdupFlushPower
  let t := drainUs s + 2000
  let raw := if p = 0 then 0 else (b * mJ * 10 * 1000000 - b * t * 12 * p) / (12 * p * 1000000)
  Nat.min raw (Nat.min (v s K.capWriteBuffer * 65536) (flushErased s / 2))

/-- The outcome of a measured energy (R241, R242): AT_RISK_LIMIT; pass, or write-through at once with its Error event. `failCode` is what
HU_TEST_RESULT reads when it fails. -/
def applyEnergy (s : State) (mJ failCode : Nat) : State :=
  let lim := limitOf s mJ
  let pass := decide (lim ≥ 268435456)
  let s := { s with power := { s.power with firstLimit := some (s.power.firstLimit.getD lim) } }
  let s' := setV (setV (setV s K.holdupEnergy mJ) K.atRiskLimit lim) K.huTestResult (if pass then 1 else failCode)
  if pass then settle (setV { s' with power := { s'.power with holdupFail := false } } K.writeThrough 0)
  else if vb s K.writeThrough then { s' with power := { s'.power with holdupFail := true } }
  else
    let s' := event (setV { s' with power := { s'.power with holdupFail := true } } K.writeThrough 1) Ev.holdupTestFail [lim, mJ]
    if atRisk s' = 0 then event s' Ev.atRiskClear [] else s'

/-- HOLDUP_CHARGE_TIMEOUT (R360). -/
def holdupChargeTimeout (s : State) : State :=
  if s.power.charged then s else applyEnergy (event s Ev.holdupChargeFault [v s K.huBankMv]) 0 4

def execHoldupChargeTimeout (s : State) : Host.Outcome State Fault Refusal := .next (holdupChargeTimeout s)

/-- A test may start: the first charge has ended and NAND negotiation has finished, or HU_TEST_NOW asked for it; no flush runs (R361). -/
def testable (s : State) : Bool := ((s.power.charged && s.nand.negotiated) || s.power.testing) && !s.power.flushActive && !s.power.down && s.power.state < 2

/-- HOLDUP_TEST: the charger has been off for 1 ms; V1 is sampled and the test load goes on. -/
def holdupTest (s : State) (v1 : Nat) : State :=
  if testable s && !s.power.testLoad then
    setV { s with power := { s.power with testing := true, charging := false, testLoad := true, v1 := v1 } } K.huBankMv v1
  else s

def execHoldupTest (v1 : Nat) (s : State) : Host.Outcome State Fault Refusal := .next (holdupTest s v1)

/-- HOLDUP_TEST_SAMPLE: V2; the load goes off, the charger on, C and E_meas are computed and R241 applies. -/
def holdupTestSample (s : State) (v2 : Nat) : State :=
  if s.power.testing && s.power.testLoad then
    let c := capacitance s s.power.v1 v2
    let s := setV { s with power := { s.power with testing := false, testLoad := false, charging := true, recharging := true, cap := c } } K.huBankMv v2
    let s := setV s K.huCapacitanceUf (Nat.min (c / fix64) (2 ^ 32 - 1))
    applyEnergy s (Nat.min (if c = 0 then 0 else bankEnergy s c (v s K.huTargetMv)) (2 ^ 32 - 1)) 2
  else s

def execHoldupTestSample (v2 : Nat) (s : State) : Host.Outcome State Fault Refusal := .next (holdupTestSample s v2)

/-- AT_RISK_RECOMPUTE (R362): every 1 ms of a test and its recharge, with the energy at the sampled voltage and the last measured C. -/
def atRiskRecompute (s : State) (mv : Nat) : State :=
  if s.power.testing || s.power.recharging then
    let s := setV s K.huBankMv mv
    settle (setV s K.atRiskLimit (limitOf s (bankEnergy s s.power.cap mv)))
  else s

def execAtRiskRecompute (mv : Nat) (s : State) : Host.Outcome State Fault Refusal := .next (atRiskRecompute s mv)

/-- HU_TEST_NOW (R361): refused while a test or a flush runs. -/
def execHuTestNow (a : Access) (x : Nat) (s : State) : Host.Outcome State Fault Refusal :=
  .next (accessWrite s a 0x7001 0x0A x (fun s _ =>
    if s.power.testing || s.power.flushActive then (.code 0x0B, s)
    else (.code 0, { s with power := { s.power with testing := true, charging := false, testLoad := false, v1 := 0 } })))

end Sys2Proof.Machine
end

