-- ==== Sys2Proof/Machine/Resets.lean ====
section
/-! DEFINITION. Machine/Resets.lean: the commands of "Resets and Retention" and those of ports and instances that reset functions, the
watchdog, power-on, and readiness. -/
namespace Sys2Proof.Machine
open Sys2Proof

-- ===== ports and functions (R85, R86, R90, R370, R374) =====

/-- PERST_ASSERT: at once, even while a flush runs (R372); in Slack or Neap it wakes the package as source 0x01 or 0x02, whatever
WAKE_ENABLE holds (R374). [DEDUCED, log entry 82] -/
def perstAssert (s : State) (p : Nat) : State :=
  if !portActive s p || (port s p).perst then s
  else
    let s := sleepUndo s
    let s := if s.power.state ≥ 2 then wakeNow s (p + 1) else s
    resetLink (resetPortFns (tally s (p + 2)) p) p false true

def execPerstAssert (port : Nat) (s : State) : Host.Outcome State Fault Refusal := .next (settle (perstAssert s port))

/-- HOT_RESET: a Hot Reset or a link down; as PERST#, with the AER sticky bits kept. It waits for a flush (R372). [DEDUCED, log entry 82] -/
def hotReset (s : State) (p : Nat) (down : Bool) : State :=
  if !portActive s p then s
  else if s.power.flushActive then { s with power := { s.power with heldResets := s.power.heldResets ++ [(if down then 3 else 2, p)] } }
  else resetLink (resetPortFns (sleepUndo s) p) p true (port s p).perst

def execHotReset (port : Nat) (down : Bool) (s : State) : Host.Outcome State Fault Refusal := .next (settle (hotReset s port down))

/-- FUNCTION_LEVEL_RESET. -/
def functionLevelReset (s : State) (fn : Nat) : State :=
  if !fnExists s fn then s
  else if s.power.flushActive then { s with power := { s.power with heldResets := s.power.heldResets ++ [(0, fn)] } }
  else flr (sleepUndo s) fn

def execFunctionLevelReset (fn : Nat) (s : State) : Host.Outcome State Fault Refusal := .next (settle (functionLevelReset s fn))

/-- CONTROLLER_RESET: CC.EN changes from 1 to 0. It proceeds inside a sleep entry (R374), and abandons every write transfer (R59). -/
def controllerReset (s : State) (fn : Nat) : State :=
  if !fnExists s fn || !bitAt (inst s fn).cc 0 then s
  else if s.power.flushActive then { s with power := { s.power with heldResets := s.power.heldResets ++ [(1, fn)] } }
  else dropTransfers (resetController (tally s 5) fn)

def execControllerReset (fn : Nat) (s : State) : Host.Outcome State Fault Refusal := .next (settle (controllerReset s fn))

/-- CONTROLLER_READY (R93): CSTS.RDY becomes 1 once the instance is LIVE; not before NAND and DRAM negotiation and the supply have been
good (R355), in pair mode not before the pair has formed or the partner is fenced (R320), and not while a flush runs. -/
def readyOk (s : State) (fn : Nat) : Bool :=
  let i := inst s fn
  bitAt i.cc 0 && instState s fn == 3 && fnExists s fn && !i.reclaiming && s.nand.negotiated && s.dram.negotiated && s.power.supplyGood
    && !s.power.flushActive && !s.power.down && !s.boot.recovery && (!s.pair.enabled || s.pair.state == 2 || s.pair.state == 3 || s.pair.state == 4 || s.pair.state == 6 || s.pair.state == 8)

def execControllerReady (fn : Nat) (s : State) : Host.Outcome State Fault Refusal :=
  .next (if readyOk s fn then modInst { s with boot := { s.boot with rdySeen := true } } fn (fun i => { i with rdy := true }) else s)

/-- CC_SHUTDOWN: CC.SHN is written. The open units of zones of namespaces attached to the function close with cause SHUTDOWN (R198);
CSTS.SHST then reads 10b. -/
def ccShutdown (s : State) (fn shn : Nat) : State :=
  if !fnExists s fn then s
  else
    let s := modInst s fn (fun i => { i with cc := i.cc - fld i.cc 15 14 * 2 ^ 14 + shn % 4 * 2 ^ 14, shst := if shn % 4 = 1 ∨ shn % 4 = 2 then 2 else i.shst })
    if shn % 4 = 1 ∨ shn % 4 = 2 then cutUnits s 5 (fun k _ => (nsRec s (k / 2 ^ 32)).attached.contains fn) else s

def execCcShutdown (fn shn : Nat) (s : State) : Host.Outcome State Fault Refusal := .next (settle (ccShutdown s fn shn))

/-- VF_ENABLE (R90): VFs that come to exist take a COMMITTED_ABSENT instance to STAGED, LIVE at its applying tide; those no longer covered
are treated as at an FLR and go to COMMITTED_ABSENT. [DESIGN CHOICE, log entry 19] -/
def vfEnable (s : State) (pf numVfs : Nat) (enable : Bool) : State :=
  if !isPf s pf then s
  else
    let p := portOf s pf
    let total := if s.portMode = 0 then (if p = 0 then s.vfSplit else 1022 - s.vfSplit) else 1023
    let before := (portFns s p).filter (fun n => !isPf s n)
    let after := modPort s p (fun x => { x with vfEnable := enable, numVfs := Nat.min numVfs total })
    let now := (portFns after p).filter (fun n => !isPf s n)
    let gone := before.filter (fun n => !now.contains n)
    let new := now.filter (fun n => !before.contains n)
    let s := gone.foldl resetFunction s
    let s := vfsAbsent s gone
    let s := modPort s p (fun x => { x with vfEnable := enable, numVfs := Nat.min numVfs total })
    new.foldl (fun s n => if (inst s n).state = 1 then instStateTo (stageAt s (applyTide s) (.live n)) n 2 else s) s

def execVfEnable (pf numVfs : Nat) (enable : Bool) (s : State) : Host.Outcome State Fault Refusal := .next (settle (vfEnable s pf numVfs enable))

/-- Entries of instance `n` that a reclaim returns to their defaults: 0x2110, 0x2130 to 0x2133, LOSS_ACK. [DEDUCED, log entry 81] -/
def reclaimEntry (n key : Nat) : Bool :=
  let idx := key / 2048 / 256
  key % 2048 == n + 1 && (idx == 0x2110 || (0x2130 ≤ idx && idx ≤ 0x2133) || key == instKey K.lossAck n)

/-- RECLAIM_FINISHED (R94): once no fetched command is left, the controller is reset, namespaces are detached, keys discarded, entries at
their defaults, LOSS_ACK is 0 (R190), and the instance is UNASSIGNED. -/
def reclaimFinished (s : State) (n : Nat) : State :=
  if !(inst s n).reclaiming || s.flights.any (fun f => f.fn == n && !(f.sqid == 0 && f.opcode == 0x0C)) then s
  else
    let s := closeSession (resetController (tally s 5) n) n
    let s := clearEntries s (reclaimEntry n)
    let s := { s with
      nss := s.nss.mapVal (fun _ x => { x with attached := x.attached.filter (· != n) })
      dict := s.dict.del (instKey K.lossAck n)
      staged := s.staged.filter (fun x => match x.op with
        | .entry k _ => !reclaimEntry n k
        | _ => true)
      store := { s.store with journal := s.store.journal.filter (fun r => !reclaimEntry n r.key) } }
    let s := lossPrune (modInst s n (fun i => { Inst.fresh with state := i.state }))
    instStateTo s n 0

def execReclaimFinished (n : Nat) (s : State) : Host.Outcome State Fault Refusal := .next (settle (reclaimFinished s n))

-- ===== package resets (R370 to R372, R391) =====

/-- NVM_SUBSYSTEM_RESET; while a flush runs it waits; while an activate marker is newer than the running slot it is a management reset. -/
def nvmSubsystemReset (s : State) : State :=
  if fwPending s ≠ 0 then resetWithFlush s 8
  else if s.power.flushActive then { s with power := { s.power with afterFlush := Nat.max s.power.afterFlush 6 } }
  else subsystemResetNow (sleepUndo s)

def execNvmSubsystemReset (s : State) : Host.Outcome State Fault Refusal := .next (settle (nvmSubsystemReset s))

/-- MANAGEMENT_RESET: a write of RESET_REQUEST with 0x01; the response is sent before the reset begins. -/
def managementReset (s : State) (a : Access) : State :=
  let s' := accessWrite s a 0x7200 3 1 (fun s _ => (.code 0, s))
  match lookup s a.path 0x7200 3 a.inst with
  | .ok _ => resetWithFlush s' 8
  | .error _ => s'

def execManagementReset (a : Access) (s : State) : Host.Outcome State Fault Refusal := .next (settle (managementReset s a))

-- ===== the watchdog (R375, R376) =====

/-- WATCHDOG_KICK. -/
def execWatchdogKick (kicker : Nat) (s : State) : Host.Outcome State Fault Refusal :=
  .next { s with wdt := { s.wdt with kicks := s.wdt.kicks.put kicker s.clk.nowNs } }

/-- The watchdog reset proceeds after a deferral of `us`. [DEDUCED, log entry 85] -/
def watchdogGo (s : State) (us : Nat) : State :=
  let s := event s Ev.watchdogExpiry [v s K.wdtLastStalled, us]
  resetWithFlush { s with wdt := { s.wdt with deferred := false } } 7

/-- WATCHDOG_EXPIRY: the kickers that missed are recorded and PL_HB_OUT stops; the reset waits for a sector operation of the code flash. [DEDUCED, log entry 85] -/
def watchdogExpiry (s : State) (missed : Nat) : State :=
  if !vb s K.wdtEnable || s.power.state ≥ 2 || s.power.flushActive || s.wdt.deferred then s
  else
    let s := setV s K.wdtLastStalled (missed % 2 ^ 17)
    let s := { s with wdt := { s.wdt with expired := true }, pair := { s.pair with hbOut := s.pair.hbOut && !s.pair.enabled } }
    if cfSectorBusy s then bump32 { s with wdt := { s.wdt with deferred := true, deferredNs := s.clk.nowNs } } K.wdtDeferrals
    else watchdogGo s 0

def execWatchdogExpiry (missed : Nat) (s : State) : Host.Outcome State Fault Refusal := .next (settle (watchdogExpiry s missed))

/-- CF_OPERATION_COMPLETE; a watchdog reset that waited for the sector operation proceeds, with its flush (R375). -/
def cfComplete (s : State) (bank : Nat) (failedAt : Option Nat) (us : Nat) : State :=
  let s := cfOperationComplete s bank failedAt us
  if s.wdt.deferred && !cfSectorBusy s then
    let d := Nat.min 25000 ((s.clk.nowNs - s.wdt.deferredNs) / 1000)
    settle (watchdogGo (setV s K.wdtDeferMaxUs (Nat.max (v s K.wdtDeferMaxUs) d)) d)
  else s

def execCfOperationComplete (bank : Nat) (failedAt : Option Nat) (arrayUs : Nat) (s : State) : Host.Outcome State Fault Refusal :=
  .next (cfComplete s bank failedAt arrayUs)

-- ===== the time base =====

/-- The source TIME_BASE_SELECT gives among those that oscillate: 1 crystal, 2 port A, 3 port B, 4 internal. [DEDUCED, log entry 94] -/
def timeBasePick (s : State) : Nat :=
  let ok (n : Nat) : Bool := if n = 1 then s.clk.crystalOk else if n = 2 then s.clk.refAOk else s.clk.refBOk
  let sel := v s K.timeBaseSelect
  if sel = 0 then (if ok 1 then 1 else if ok 2 then 2 else if ok 3 then 3 else 4) else if ok sel then sel else 4

/-- The policy has changed: the source it gives is taken. [DEDUCED, log entry 94] -/
def timeBaseUpdate (s : State) : State := { s with clk := { s.clk with source := timeBasePick s } }

/-- TIME_BASE_ACTIVE: in Neap the internal oscillator (R32). -/
def timeBaseActive (s : State) : Nat := if s.power.state = 3 then 4 else s.clk.source

-- ===== power-on (R49, R50, R90, R343, R372, R373, R379, R385) =====

/-- VDD_AO_LOSS (R379): what runs in the code flash is cut short, records waiting to be programmed are gone, and acknowledged data that
no flush covered is lost at the next power-on. -/
def vddAoLoss (s : State) : State :=
  let s := cfCutShort (resetLevel s)
  { s with store := { s.store with queue := [], waitAck := [] }, boot := { s.boot with powered := false } }

def execVddAoLoss (s : State) : Host.Outcome State Fault Refusal := .next (vddAoLoss s)

/-- The value a journal record gives its entry. -/
def JRec.apply (s : State) (r : JRec) : State :=
  if (rowOf (r.key / 2048 / 256) (r.key / 2048 % 256)).any (fun x => x.ty == 14) then setDom s r.key r.value
  else (imageKeys r.key).foldl (fun s k => setV s k (leNat r.value)) s

/-- Bytes of an entry's value; of a writable DOMAIN entry, its fixed length. -/
def sizeOfKey (key : Nat) : Nat :=
  if key = K.nandTimes then 8192 else if key = K.readLevelMap then 2048
  else (rowOf (key / 2048 / 256) (key / 2048 % 256)).elim 0 Row.size

/-- An entry whose persisted value the journal and the images rebuild: class P, RWP or RWSP. -/
def rebuilt (key : Nat) : Bool :=
  (rowOf (key / 2048 / 256) (key / 2048 % 256)).any (fun r => r.cls == 1 && (r.acc == 5 || r.acc == 6))

/-- The entries after power-on (R372): defaults, then the base image, then the journal; class P values that the SB2300 keeps itself stay. -/
def loadEntries (s : State) (orderingD : Bool) : State :=
  let kept := s.dict.keep (fun k _ => classOfKey k == 1 && !rebuilt k)
  let doms := s.miowa.doms.keep (fun k _ => classOfKey k == 1 && !rebuilt k)
  let first := Assoc.put (Assoc.put kept (instKey K.queuePairs 0) 64) (instKey K.queuePairs 1) 64
  let s := { s with dict := first.put K.orderingCode (if orderingD then 2 else 1)
                    miowa := { s.miowa with doms := doms, resp := [], vers := [], copies := [], xfers := [], heldWrites := [] }
                    store := { s.store with baseIdInForce := s.store.baseId, baseInForce := s.store.base } }
  let s := s.store.base.foldl (fun s e => JRec.apply s ⟨e.1, 0, 0, leBytes (sizeOfKey e.1) e.2, 0⟩) s
  s.store.journal.foldl JRec.apply s

/-- PORT_MODE and VF_SPLIT come into force; a change of numbering leaves every instance from 1 up at its defaults (R90). [DEDUCED, log entry 81] -/
def renumber (s : State) : State :=
  let mode := v s K.portMode
  let split := v s K.vfSplit
  let changed := (mode = 0) ≠ (s.portMode = 0) ∨ (mode = 0 ∧ split ≠ s.vfSplit)
  let s' := { s with portMode := mode, vfSplit := split }
  if changed then
    let out (k : Nat) : Bool := k % 2048 ≤ 1
    { s' with dict := (s.dict.keep (fun k _ => out k)).put (instKey K.queuePairs 1) 64
              store := { s.store with journal := s.store.journal.filter (fun r => out r.key) }
              nss := s.nss.mapVal (fun _ n => { n with attached := n.attached.filter (· < 1) }) }
  else s'

/-- The pair at power-on (R318): PL_POS gives the position; pair mode needs an SB2300-D with PAIR_ENABLE. -/
def pairPowerOn (s : State) (plPos : Nat) (orderingD : Bool) : State :=
  let on := orderingD && vb s K.pairEnable
  let s := setV s K.pairPosition (plPos % 2)
  { s with pair := { Pair.atReset with
      state := if on then 1 else 0, position := plPos % 2, enabled := on
      ana1 := if plPos % 2 = 0 then 0 else 1
      ana2 := if plPos % 2 = 0 then 1 else 0 } }

/-- POWER_ON: everything restarts. Data that no flush covered is lost with cause 0x09; the flush area or sleep copy is replayed (R240, R351). -/
def powerOn (s0 : State) (plPos : Nat) (orderingD : Bool) : State :=
  let s := if s0.boot.powered then vddAoLoss s0 else s0
  let service := s.boot.service
  let s := hubRestart s
  let s := { s with
    clk := { State.reset.clk with crystalOk := s.clk.crystalOk, refAOk := s.clk.refAOk, refBOk := s.clk.refBOk,
                                  keptNs := if s.clk.calSet then s.clk.calNs else s.clk.keptNs }
    genNow := 0, gens := [], reserved := [], staged := []
    recd := { s.recd with staging := s.recd.flushed, flushed := [], compactWait := [], compactErasing := false, hold := [], frozen := false,
                          thawedFull := false, winA := Window.atReset, winB := Window.atReset, snaps := [] }
    portA := { Port.atReset with subsysVid := s.portA.subsysVid, subsysId := s.portA.subsysId }
    portB := { Port.atReset with subsysVid := s.portB.subsysVid, subsysId := s.portB.subsysId }
    wakeLow := false, lastCqe := [], hostOut := [], barRead := [], msix := []
    thermal := Thermal.atReset, wdt := { kicks := [], deferred := false, deferredNs := 0, expired := false }
    power := { Power.atReset with flushLost := s.power.flushLost }
    cf := { s.cf with queue := [], waiting := [], run0 := none, run1 := none, completions := [], pwWords := [], pwFails := 0, unlocked := [] }
    boot := { s.boot with powered := true, service := false, servicePath := none, challenge := none, svcFails := 0 } }
  let s := pinAll (restartInsts (renumber (timeBaseUpdate (loadEntries s orderingD))))
  let s := { s with
    nand := { s.nand with times := domOf s K.nandTimes, levelMap := domOf s K.readLevelMap, metaBlocks := v s K.metaBlocksPerDie,
                          flushBlocks := v s K.flushBlocksPerDie }
    dram := { Dram.atReset with masks := s.dram.masks }
    boot := { s.boot with attestAlg := v s K.attestSigAlg } }
  let s := poolSetup (pairPowerOn s plPos orderingD)
  let s := setV (tally s 1) K.powerOns (satAdd 32 (v s K.powerOns) 1)
  let s := if service then event s Ev.serviceEnd [3] else s
  let s := bootSelect (replayFlush s)
  if s.boot.recovery then s else { s with power := { s.power with step := 3 } }

def execPowerOn (plPos : Nat) (orderingD : Bool) (s : State) : Host.Outcome State Fault Refusal := .next (powerOn s plPos orderingD)

end Sys2Proof.Machine
end

