-- ==== Sys2Proof/Machine/Thermal.lean ====
section
/-! DEFINITION. Machine/Thermal.lean: "Temperature and Throttling": sensors, the throttle sequence, thermal hold and the media window
(R363 to R369). -/
namespace Sys2Proof.Machine
open Sys2Proof

-- ===== sensors (R363, R364) =====

/-- A value of an I16 entry. -/
def v16 (s : State) (key : Nat) : Int := toSigned 16 (v s key)

/-- The last reading of a sensor, in quarter degrees. -/
def sensorAt (s : State) (n : Nat) : Int := v16 s (unitKey K.sensorC n)

/-- The junction group: sensors 0 to 51. The others are the board group. -/
def junction (n : Nat) : Bool := n < 52

/-- An external diode that is not fitted is not sampled, reads 0 and counts for no limit. -/
def fitted (s : State) (n : Nat) : Bool := n < 60 || bitAt (v s K.extDiodeFitted) (n - 60)

/-- The hub and channel dies are powered. -/
def diesOn (s : State) : Bool := 4 ≤ s.power.good && !s.power.down

/-- A sensor is sampled in the power state in force. -/
def sampled (s : State) (n : Nat) : Bool :=
  if n < 16 then diesOn s && s.power.state < 3
  else if n < 48 then diesOn s && s.power.state < 2
  else n < 64 && fitted s n

/-- A sensor that has been read and is not masked. -/
def counts (s : State) (n : Nat) : Bool := s.thermal.seen.contains n && fitted s n && !bitAt (v s K.sensorMask) n

/-- The sensors that count for the limits. [DEDUCED, log entry 89] -/
def counted (s : State) : List Nat := (List.range 64).filter (counts s)

/-- A sensor has failed since power-on. [DEDUCED, log entry 89] -/
def sensorFailed (s : State) (n : Nat) : Bool := bitAt s.thermal.failed n

/-- The throttle limit of a sensor's group, in quarter degrees. -/
def throttleLimit (s : State) (n : Nat) : Int := 4 * v16 s (if junction n then K.throttleC else K.boardC)

/-- Twice the median of the readings of a sensor's group, its own reading `x` among them: those sampled and not failed. [DEDUCED, log entry 89] -/
def medianTwice (s : State) (n : Nat) (x : Int) : Int :=
  let group := (List.range 64).filter (fun m => m != n && junction m == junction n && s.thermal.seen.contains m && sampled s m && !sensorFailed s m)
  let l := sortNat ((x :: group.map (sensorAt s)).map (fun y => (y + 1000).toNat))
  (l.getD ((l.length - 1) / 2) 0 : Int) + (l.getD (l.length / 2) 0 : Int) - 2000

/-- A reading differs from the median of its group by more than 30 °C. [DEDUCED, log entry 89] -/
def deviates (s : State) (n : Nat) (x : Int) : Bool := decide ((2 * x - medianTwice s n x).natAbs > 240)

/-- What is wrong with a conversion: 1 not finished, 2 out of range, 3 the tenth deviation in a row, 0 nothing (R364). -/
def sensorCause (s : State) (n : Nat) (reading : Option Int) : Nat :=
  match reading with
  | none => 1
  | some x =>
    if x < -240 ∨ 640 < x then 2
    else if deviates s n x && decide (s.thermal.deviant.getD n 0 + 1 ≥ 10) then 3
    else 0

-- ===== the throttle sequence (R366, R367) =====

/-- THROTTLE_STATE of the sequence itself, which a thermal hold covers. -/
def throttleAt (s : State) : Nat := if s.thermal.state = 4 then s.thermal.before else s.thermal.state

/-- The trace item of a THROTTLE_STATE entered from `was`: the limit, the sensor behind it, and its last reading (R409). [DEDUCED, log entry 132] -/
def throttleTrace (s : State) (was n : Nat) : State :=
  if was = s.thermal.state then s
  else traceItem s 0x19 0x01 s.thermal.state
    [s.thermal.limit, n * 2 ^ 16 + (if n < 64 then ofSigned 16 (sensorAt s n) else (Config.noReading s.freeCtr).toNat)]

/-- Give the sequence another state, for sensor `n`. -/
def throttleTo (s : State) (x n : Nat) : State :=
  throttleTrace { s with thermal := if s.thermal.state = 4 then { s.thermal with before := x } else { s.thermal with state := x } } s.thermal.state n

/-- A reading stands at or above its limit, or a domain is too slow (R30). -/
def hot (s : State) : Bool := (counted s).any (fun n => decide (sensorAt s n ≥ throttleLimit s n)) || !s.power.slow.isEmpty

/-- Every reading lies below its limit less THERMAL_HYST_C, and no domain is too slow. -/
def cool (s : State) : Bool :=
  (counted s).all (fun n => decide (sensorAt s n < throttleLimit s n - 4 * (v s K.thermalHystC : Int))) && s.power.slow.isEmpty

/-- The NAND budget in force. -/
def nandBudget (s : State) : Nat := v s (unitKey K.nandPowerBudget s.power.budget)

/-- Step 1: the request, for sensor `cause` (0xFE: speed). -/
def throttleRequest (s : State) (cause reading : Nat) : State :=
  let s := throttleTo { s with thermal := { s.thermal with cause := cause, critical := true } } 1 cause
  event (aenPfs s .temperature) Ev.throttleRequest [cause, reading]

/-- Step 3: enforcement with a limit; Ebb is entered at the next tide (R347). [DEDUCED, log entry 90] -/
def enforce (s : State) (limit : Nat) : State :=
  let s := if throttleAt s = 2 then s else bump32 s K.throttleEnforcements
  throttleTo { s with thermal := { s.thermal with limit := limit, critical := true }, power := { s.power with ebbThrottle := true } } 2 s.thermal.cause

/-- The limit one step lower, not below THROTTLE_FLOOR_MW. -/
def lowered (s : State) (x : Nat) : Nat := Nat.max (v s K.throttleFloorMw) (x - v s K.throttleStepMw)

/-- A crossing: of no sequence it starts a request, during release it resumes enforcement at once. -/
def throttleCross (s : State) (cause reading : Nat) : State :=
  if throttleAt s = 0 then throttleRequest s cause reading
  else if throttleAt s = 3 then enforce { s with thermal := { s.thermal with cause := cause } } (lowered s s.thermal.limit)
  else s

/-- R367: enforcement at the floor, with no request and no grace. [PRESUMED, log entry 91] -/
def throttleCritical (s : State) (n reading : Nat) : State :=
  let s := enforce { s with thermal := { s.thermal with cause := n } } (v s K.throttleFloorMw)
  event (aenPfs s .temperature) Ev.throttleCritical [n, reading]

/-- The sequence ends. [DEDUCED, log entry 90] -/
def throttleEnd (s : State) : State := throttleTo { s with thermal := { s.thermal with cause := 0xFF, critical := false } } 0 s.thermal.cause

/-- What a new reading does to the sequence: `was` is the reading before, none for the first. -/
def throttleEval (s : State) (n : Nat) (was : Option Int) (failedNow : Bool) : State :=
  let x := sensorAt s n
  let u := ofSigned 32 x
  let crit := 4 * v16 s K.critC
  let newly := was.all (fun w => w < crit)
  let floor := v s K.throttleFloorMw
  if failedNow then throttleCritical s n u
  else if !counts s n then s
  else if junction n && decide (x ≥ crit) && (newly || throttleAt s != 2 || decide (s.thermal.limit > floor)) then throttleCritical s n u
  else if x ≥ throttleLimit s n then throttleCross s n u
  else if throttleAt s = 1 && cool s then throttleEnd s
  else s

-- ===== thermal hold (R368) =====

/-- Live, unmasked junction sensors. -/
def liveJunction (s : State) : List Nat := (counted s).filter (fun n => junction n && !sensorFailed s n)

/-- The hold ends when every live junction reading is below THROTTLE_C. [DEDUCED, log entry 89] -/
def holdEval (s : State) : State :=
  if s.thermal.state = 4 && (liveJunction s).all (fun n => decide (sensorAt s n < 4 * v16 s K.throttleC)) then
    throttleTrace { s with thermal := { s.thermal with state := s.thermal.before } } s.thermal.state s.thermal.cause else s

/-- The hottest of a list of sensors. -/
def hottest (s : State) (l : List Nat) : Option Nat :=
  l.foldl (fun best n => match best with
    | none => some n
    | some m => if sensorAt s n > sensorAt s m then some n else some m) none

/-- THERMAL_HOLD: a live reading has stayed at or above 125 °C for 100 ms. -/
def thermalHold (s : State) : State :=
  match hottest s ((liveJunction s).filter (fun n => decide (sensorAt s n ≥ 500))) with
  | some n =>
    if s.thermal.state = 4 then s
    else
      let s := throttleTrace { s with thermal := { s.thermal with before := s.thermal.state, state := 4 } } s.thermal.state n
      event (bump32 s K.thermalHolds) Ev.thermalHold [n, ofSigned 32 (sensorAt s n)]
  | none => s

def execThermalHold (s : State) : Host.Outcome State Fault Refusal := .next (thermalHold s)

-- ===== temperatures the host sees (R368) =====

/-- Quarter degrees in kelvin. -/
def kelvin (x : Int) : Nat := (x / 4 + 273).toNat

/-- The highest reading of a list of sensors, in kelvin; 0 where none has been read. -/
def kelvinOf (s : State) (l : List Nat) : Nat := (hottest s l).elim 0 (fun n => kelvin (sensorAt s n))

/-- Composite Temperature: the highest unmasked junction reading. [PRESUMED, log entry 91] -/
def compositeK (s : State) : Nat := kelvinOf s ((counted s).filter junction)

/-- Temperatures of the NAND slots, in kelvin. -/
def nandKelvins (s : State) : List Nat := s.thermal.nand.vals.map (fun c => (c + 273).toNat)

/-- Temperature Sensor `n`, 1 to 8: hub die, channel dies, anchor die, substrate, external diodes, highest and lowest NAND slot. -/
def sensorK (s : State) (n : Nat) : Nat :=
  let among (lo hi : Nat) : Nat := kelvinOf s ((List.range 64).filter (fun m => lo ≤ m && m ≤ hi && s.thermal.seen.contains m && fitted s m))
  if n = 1 then among 0 15 else if n = 2 then among 16 31 else if n = 3 then among 32 47 else if n = 4 then among 48 51
  else if n = 5 then among 52 59 else if n = 6 then among 60 63
  else if n = 7 then maxNat (nandKelvins s)
  else (nandKelvins s).foldl Nat.min (maxNat (nandKelvins s))

/-- The temperature a selector names: 0 composite, 1 to 8 a sensor. -/
def tempOf (s : State) (sel : Nat) : Nat := if sel = 0 then compositeK s else sensorK s sel

/-- WCTEMP and CCTEMP. -/
def wctemp (s : State) : Nat := (v16 s K.throttleC + 273).toNat
def cctemp (s : State) : Nat := (v16 s K.critC + 273).toNat

/-- A threshold of a controller; NVMe's default where the host has set none. -/
def tempThreshold (s : State) (i : Inst) (sel : Nat) (under : Bool) : Nat :=
  i.tempThr.getD (2 * sel + (if under then 1 else 0)) (if under then 0 else if sel = 0 then wctemp s else 0xFFFF)

/-- A temperature stands beyond a threshold. [PRESUMED, log entry 91] -/
def beyond (s : State) (i : Inst) (sel : Nat) (under : Bool) : Bool :=
  let t := tempOf s sel
  if under then decide (t ≤ tempThreshold s i sel true) else decide (t ≥ tempThreshold s i sel false)

/-- A reading has changed from state `old` to `s`: thresholds newly crossed raise the SMART / Health event, and never throttle. [PRESUMED, log entry 91] -/
def hostThresholds (old s : State) : State :=
  (functions s).foldl (fun s fn =>
    let i := inst s fn
    if bitAt i.cc 0 && (List.range 9).any (fun sel => tempOf s sel != 0 &&
        ((beyond s i sel false && !beyond old i sel false) || (beyond s i sel true && !(beyond old i sel true && tempOf old sel != 0)))) then
      aen s fn .temperature else s) s

-- ===== SENSOR_SAMPLE =====

/-- A reading of a sensor is stored. -/
def storeReading (s : State) (n : Nat) (x : Int) (failed : Bool) : State :=
  let y := if failed then 600 else x
  let s := setV s (unitKey K.sensorC n) (ofSigned 16 y)
  let s := { s with thermal := { s.thermal with seen := if s.thermal.seen.contains n then s.thermal.seen else s.thermal.seen ++ [n] } }
  if junction n && counts s n && decide (y / 4 > v16 s K.sensorPeakC) then setV s K.sensorPeakC (ofSigned 16 (y / 4)) else s

/-- In Slack and Neap a board or anchor reading within 5 °C of its limit is wake source 0x06. [DEDUCED, log entry 92] -/
def warmWake (s : State) (n : Nat) : State :=
  if s.power.state ≥ 2 && decide (48 ≤ n) && counts s n && decide (sensorAt s n ≥ throttleLimit s n - 20) && wakeEnabled s 6 then wakeNow s 6 else s

/-- SENSOR_SAMPLE: a failed sensor reads 150 °C until the next power-on. -/
def sensorSample (s0 : State) (n : Nat) (reading : Option Int) : State :=
  if !sampled s0 n then s0
  else
    let was := if s0.thermal.seen.contains n then some (sensorAt s0 n) else none
    let cause := sensorCause s0 n reading
    let x := reading.getD 0
    let failedNow := !sensorFailed s0 n && cause != 0
    let dev := reading.any (deviates s0 n)
    let s := { s0 with thermal := { s0.thermal with
      failed := if failedNow then withBit s0.thermal.failed n true else s0.thermal.failed
      deviant := if dev then s0.thermal.deviant.updD n 0 (· + 1) else s0.thermal.deviant.del n } }
    let s := storeReading s n x (sensorFailed s n)
    let s := if failedNow then eventU (setV s K.sensorsFailed (withBit (v s K.sensorsFailed) n true)) Ev.sensorFailed n [n, cause] else s
    warmWake (hostThresholds s0 (holdEval (throttleEval s n was failedNow))) n

def execSensorSample (sensor : Nat) (reading : Option Int) (s : State) : Host.Outcome State Fault Refusal :=
  .next (settle (sensorSample s sensor reading))

-- ===== the steps of the sequence in time =====

/-- THROTTLE_GRACE_EXPIRY: the grace time ends with a reading still at or above its limit. [DEDUCED, log entry 90] -/
def throttleGraceExpiry (s : State) : State :=
  if throttleAt s = 1 && hot s then enforce s (lowered s (nandBudget s)) else s

def execThrottleGraceExpiry (s : State) : Host.Outcome State Fault Refusal := .next (throttleGraceExpiry s)

/-- THROTTLE_STEP: a further 100 ms in which a reading is still at or above its limit. -/
def throttleStep (s : State) : State :=
  if throttleAt s = 2 && hot s then { s with thermal := { s.thermal with limit := lowered s s.thermal.limit } } else s

def execThrottleStep (s : State) : Host.Outcome State Fault Refusal := .next (throttleStep s)

/-- A rise of the limit; one that would reach the budget in force ends the sequence. [DEDUCED, log entry 90] -/
def throttleRise (s : State) : State :=
  let x := s.thermal.limit + v s K.throttleStepMw
  if x ≥ nandBudget s then
    throttleEnd { s with thermal := { s.thermal with limit := 2 ^ 32 - 1 }, power := { s.power with ebbThrottle := false } }
  else throttleTo { s with thermal := { s.thermal with limit := x } } 3 s.thermal.cause

/-- THROTTLE_RELEASE: every unmasked reading has stayed cool for 1 s, or a further 100 ms of the release has passed. [DEDUCED, log entry 90] -/
def throttleRelease (s : State) : State :=
  if (throttleAt s = 2 && cool s) || throttleAt s = 3 then throttleRise s else s

def execThrottleRelease (s : State) : Host.Outcome State Fault Refusal := .next (throttleRelease s)

-- ===== the media window (R365, R369) =====

/-- The highest reading among the board sensors, °C. -/
def boardHighest (s : State) : Int :=
  (hottest s ((List.range 64).filter (fun n => !junction n && s.thermal.seen.contains n && fitted s n))).elim 0 (fun n => sensorAt s n / 4)

/-- A slot leaves the window at its edges and returns 2 °C inside them. -/
def windowEval (s : State) (slot : Nat) (c : Int) : State :=
  let lo := v16 s K.nandTempMinC
  let hi := v16 s K.nandTempMaxC
  let held := s.thermal.held.contains slot
  if c < lo ∨ hi < c then (if held then s else { s with thermal := { s.thermal with held := s.thermal.held ++ [slot] } })
  else if held && decide (lo + 2 ≤ c) && decide (c ≤ hi - 2) then { s with thermal := { s.thermal with held := s.thermal.held.filter (· != slot) } }
  else s

/-- NAND_TEMP_READ: the temperature of a slot, read from its lowest-numbered LUN in service. -/
def nandTempRead (s0 : State) (slot : Nat) (reading : Option Int) : State :=
  if !(slotAt s0 slot).present || !(List.range 8).any (fun l => dieState s0 (slot * 8 + l) == 1) || s0.power.state ≥ 2 then s0
  else
    let c := toSigned 8 (ofSigned 8 (reading.getD (boardHighest s0)))
    let s := if s0.thermal.nand.get? slot = some c then s0
      else domChanged { s0 with thermal := { s0.thermal with nand := s0.thermal.nand.put slot c } } K.nandTemp
    hostThresholds s0 (windowEval s slot c)

def execNandTempRead (slot : Nat) (reading : Option Int) (s : State) : Host.Outcome State Fault Refusal :=
  .next (settle (nandTempRead s slot reading))

/-- The 256 bytes of NAND_TEMP: −128 for an absent slot. -/
def nandTempBytes (s : State) : Bytes :=
  (List.range 256).map (fun i => BitVec.ofNat 8 (ofSigned 8 (s.thermal.nand.getD i (-128))))

end Sys2Proof.Machine
end

