-- ==== Sys2Proof/Machine/Journal.lean ====
section
/-! DEFINITION. Machine/Journal.lean: the configuration journal (R49, R50, R379, R433), and what follows when an
entry's value changes. -/
namespace Sys2Proof.Machine
open Sys2Proof

-- ===== entries whose change does more =====

/-- What follows when an entry has taken a new value. -/
def entryApplied (s : State) (key : Nat) : State :=
  if key = K.nodeId then setV s K.nodeIdSet 1
  else if key = K.timeBaseSelect then timeBaseUpdate s
  else if key / 2048 = K.lossAck / 2048 then lossPrune s
  else s

/-- A class of entries that are DOMAIN entries. -/
def isDomain (key : Nat) : Bool := (rowOf (key / 2048 / 256) (key / 2048 % 256)).any (fun x => x.ty == 14)

/-- A persisted write takes effect. [DEDUCED, log entry 109] -/
def applyRec (s : State) (r : JRec) : State := entryApplied (JRec.apply s r) r.key

-- ===== the journal =====

/-- The journal record of a write. [DEDUCED, log entry 109] -/
def jrec (key kind : Nat) (value : Bytes) (tide : Nat) : JRec := ⟨key, kind, value.length, value, tide⟩

/-- Bytes a record uses (R433). -/
def JRec.size (r : JRec) : Nat := 32 * ceilDiv (20 + r.len) 32

/-- The 16-byte head of a record. -/
def JRec.head (r : JRec) : Bytes :=
  leBytes 2 (r.key / 2048 / 256) ++ leBytes 1 (r.key / 2048) ++ leBytes 1 r.kind ++ leBytes 4 r.len ++ leBytes 8 r.applyTide

/-- A record as it stands in the code flash: head, value, CRC-32C, 0xFF padding (R433). -/
def JRec.image (r : JRec) : Bytes :=
  let b := r.head ++ r.value
  let c := b ++ leBytes 4 (crc32c b)
  c ++ List.replicate (r.size - c.length) 0xFF

/-- JOURNAL_USED. -/
def journalUsed (s : State) : Nat := sumNat (s.store.journal.map JRec.size)

/-- Only the last record of each entry, in order. -/
def lastRecs : List JRec → List JRec
  | [] => []
  | r :: l => if l.any (fun x => x.key == r.key) then lastRecs l else r :: lastRecs l

/-- JOURNAL_COMPACTION (R379). [DEDUCED, log entry 93] -/
def compact (s : State) : State := { s with store := { s.store with journal := lastRecs s.store.journal } }

/-- Records are in the journal; a half that has no room for them is compacted first. [DEDUCED, log entry 93] -/
def journalPut (s : State) (rs : List JRec) : State :=
  let s := if journalUsed s + sumNat (rs.map JRec.size) > 1048576 then compact s else s
  { s with store := { s.store with journal := s.store.journal ++ rs } }

/-- A write waits for its records to be programmed. -/
def journalAsk (s : State) (p : JPend) : State := { s with store := { s.store with queue := s.store.queue ++ [p] } }

/-- No request. -/
def MiowaReq.none : MiowaReq :=
  { path := .i3c0, ver := 1, op := 2, flags := 0, tag := 0, index := 0, sub := 0, resv7 := 0, inst := 0, resv10 := 0, off := 0, value := [],
    check := 0, cid := 0, saveSel := 0 }

/-- A record the SB2300 writes for itself. -/
def journalOwn (s : State) (r : JRec) : State := journalAsk s ⟨MiowaReq.none, false, [r], 1, [], 0, .own⟩

/-- The DOMAIN_VERSION a response to a request on an entry carries. -/
def versionOf (s : State) (key : Nat) : Nat := if isDomain key then (s.miowa.doms.getD key ⟨[], 0⟩).version else 0

/-- The response of a persisted write, with its status. -/
def persistAnswer (s : State) (p : JPend) (st : Nat) : State :=
  if p.answer then
    let tide := match p.kind with
      | .rwsp t => some t
      | _ => none
    respond s p.req.path p.req.op p.req.tag p.req.cid p.req.index p.req.sub
      ⟨st, if st = 0 then rsFlags false false true false else 0, if st = 0 then tide else none⟩ (versionOf s ((p.recs.head?).elim 0 JRec.key)) []
  else s

/-- The applying tide that a write held for a domain that is off reports (R52). -/
def heldTide : Nat := 2 ^ 64 - 1

/-- A staged or held write that cannot be programmed is withdrawn; one that has applied already gives its entries their former values
back. [DEDUCED, log entry 93] -/
def withdraw (s : State) (p : JPend) (tide : Nat) : State :=
  let s := if tide = heldTide then
      { s with miowa := { s.miowa with heldWrites := s.miowa.heldWrites.filter (fun x => !p.recs.any (fun r => r.key == x.1)) } }
    else s
  if s.clk.tide < tide then
    { s with staged := s.staged.filter (fun x => match x.op with
        | .entry k _ => !(x.tide == tide && p.recs.any (fun r => r.key == k))
        | _ => true) }
  else p.old.foldl (fun s e => setV s e.1 e.2) s

/-- Its records are programmed: an RWP value takes effect; a pair-shared entry's response also waits for the partner. -/
def persisted (s : State) (p : JPend) : State :=
  let s := journalPut s p.recs
  let s := match p.kind with
    | .rwp => p.recs.foldl applyRec s
    | _ => s
  if p.ackSeq ≤ s.pair.seqAcked ∨ !mirroring s then persistAnswer s p 0
  else { s with store := { s.store with waitAck := s.store.waitAck ++ [p] } }

/-- JOURNAL_RECORD_PROGRAM: the oldest record waiting has been programmed, or its programming failed. [DEDUCED, log entry 93] -/
def journalProgram (s : State) (ok : Bool) : State :=
  match s.store.queue with
  | [] => s
  | p :: r =>
    let rest := { s with store := { s.store with queue := r } }
    if !ok then
      let s := match p.kind with
        | .rwsp t => withdraw rest p t
        | _ => rest
      persistAnswer s p 0x10
    else if p.left > 1 then { s with store := { s.store with queue := { p with left := p.left - 1 } :: r } }
    else persisted rest p

def execJournalRecordProgram (ok : Bool) (s : State) : Host.Outcome State Fault Refusal := .next (settle (journalProgram s ok))

/-- Responses whose partner has acknowledged, or no longer counts, are sent. -/
def ackedWrites (s : State) : State :=
  let ready (p : JPend) : Bool := decide (p.ackSeq ≤ s.pair.seqAcked) || !mirroring s
  let l := s.store.waitAck.filter ready
  l.foldl (fun s p => persistAnswer s p 0) { s with store := { s.store with waitAck := s.store.waitAck.filter (fun p => !ready p) } }

end Sys2Proof.Machine
end

