-- ==== Sys2Proof/Machine/Pair.lean ====
section
/-! DEFINITION. Machine/Pair.lean: "Pair Operation over the Rinor Link": forming, the mirror, fencing, takeover, handing a half back
(R318 to R340). -/
namespace Sys2Proof.Machine
open Sys2Proof

-- ===== halves and groups (R318, R337) =====

/-- The other half. -/
def otherHalf (h : Nat) : Nat := if h = 0 then 1 else 0

/-- ANA state of a half's group. -/
def anaOf (s : State) (h : Nat) : Nat := if h = 0 then s.pair.ana1 else s.pair.ana2

/-- The group of a half moves to a state; Asymmetric Namespace Access Change is posted. -/
def anaTo (s : State) (h x : Nat) : State :=
  if anaOf s h = x then s
  else
    let s := { s with pair := if h = 0 then { s.pair with ana1 := x } else { s.pair with ana2 := x } }
    (functions s).foldl (fun s n => aen s n .anaChange) s

/-- The four Strands of a half. -/
def halfStrands (h : Nat) : List Nat := (List.range 4).map (· + 4 * h)

/-- The Strands of a half are gated, or wake. -/
def gateHalf (s : State) (h : Nat) (off : Bool) : State :=
  let rest := s.nand.gated.filter (fun x => !(halfStrands h).contains x)
  { s with nand := { s.nand with gated := if off then rest ++ halfStrands h else rest } }

/-- The link carries records with a partner. -/
def peerUp (s : State) : Bool := s.pair.enabled && s.pair.linkUp && !s.pair.fenceIn

-- ===== the Rinor link (R322) =====

/-- MODE of the link. -/
def rinorMode (rate width version : Nat) : Nat := rate % 256 * 2 ^ 24 + width % 256 * 2 ^ 16 + version % 256 * 2 ^ 8

/-- OFFERED: RINOR_TARGET_SPEED, eight lanes, version 1. -/
def rinorOffered (s : State) : Nat := rinorMode (v s K.rinorTargetSpeed) 8 1

/-- RINOR_LINK_UP: the record is written with PARTNER 0x04. -/
def rinorLinkUp (s : State) (rate width version : Nat) : State :=
  if s.pair.enabled then
    let mode := rinorMode rate width version
    traceItem (negSettle { s with pair := { s.pair with linkUp := true, linkMode := mode } } K.rinorNegotiation 4 mode (rinorOffered s)) 0x1A 0x02 1 [mode]
  else s

def execRinorLinkUp (rate width version : Nat) (s : State) : Host.Outcome State Fault Refusal := .next (rinorLinkUp s rate width version)

/-- RINOR_TRAINING_TIMEOUT: not in L0 within 100 ms; training retries. -/
def rinorTrainingTimeout (s : State) : State :=
  if s.pair.enabled && !s.pair.linkUp then negFail s K.rinorNegotiation 4 (rinorOffered s) else s

def execRinorTrainingTimeout (s : State) : Host.Outcome State Fault Refusal := .next (rinorTrainingTimeout s)

/-- RINOR_LINK_DOWN; the trace item names the mode the link was in. [DEDUCED, log entry 132] -/
def rinorLinkDown (s : State) : State :=
  let s' := { s with pair := { s.pair with linkUp := false, linkMode := 0 } }
  if s.pair.linkUp then traceItem s' 0x1A 0x02 0 [s.pair.linkMode] else s'

def execRinorLinkDown (s : State) : Host.Outcome State Fault Refusal := .next (rinorLinkDown s)

-- ===== receiving records (R324 to R326) =====

/-- The highest contiguous SEQ written and checked, from `q` on. -/
def contiguous (l : List MirRec) : Nat → Nat → Nat
  | 0, q => q
  | n + 1, q => if l.any (fun r => r.seq == q + 1 && r.good) then contiguous l n (q + 1) else q

/-- A record is written; the run that is acknowledged grows as far as it goes. A record the partner sends ends its sleep (R340). [DEDUCED, log entry 95] -/
def recvPut (s : State) (r : MirRec) : State :=
  if r.seq ≤ s.pair.recvSeq ∨ s.pair.recv.any (fun x => x.seq == r.seq && x.good) then s
  else
    let l := s.pair.recv.filter (fun x => x.seq != r.seq) ++ [r]
    { s with pair := { s.pair with recv := l, recvSeq := contiguous l (l.length + 1) s.pair.recvSeq, partnerAsleep := false } }

/-- A record whose payload is no part of the mirror takes the next SEQ. -/
def recvOther (s : State) (kind : Nat) : State :=
  let q := s.pair.recv.foldl (fun m r => Nat.max m r.seq) s.pair.recvSeq
  recvPut s ⟨q + 1, kind, 0, 0, 0, false, .release, true⟩

/-- A record of the mirror arrives: KIND 0x01 to 0x04. -/
def mirrorRecv (s : State) (kind : Nat) (h : MirHdr) (b : MirrorBody) : State :=
  if peerUp s && (s.pair.state == 2 || s.pair.state == 6) then recvPut s ⟨h.seq, kind, h.arg, h.len, h.group, h.groupEnd, b, h.good⟩ else s

def execMirrorWriteData (h : MirHdr) (blocks : List (Nat × Nat × Nat)) (s : State) : Host.Outcome State Fault Refusal :=
  .next (mirrorRecv s 1 h (.blocks blocks))

def execMirrorUnitStaging (h : MirHdr) (blocks : List (Nat × Nat × Nat)) (s : State) : Host.Outcome State Fault Refusal :=
  .next (mirrorRecv s 2 h (.blocks blocks))

def execMetadataDelta (h : MirHdr) (nsid zone wp st : Nat) (s : State) : Host.Outcome State Fault Refusal :=
  .next (mirrorRecv s 3 h (.zone nsid zone wp st))

-- ===== applying records (R324, R334) =====

/-- The state of a zone that a zone record's code names, in the order Empty, Implicitly Opened, Explicitly Opened, Closed, Read Only,
Full, Offline. [DEDUCED, log entry 95] -/
def zstateOf (x : Nat) : ZState :=
  match x with
  | 0 => .empty
  | 1 => .implicitOpen
  | 2 => .explicitOpen
  | 3 => .closed
  | 4 => .readOnly
  | 5 => .full
  | _ => .offline

/-- A zone of the mirror has a Cove. -/
def mirZone (s : State) (n : Ns) (zk : Nat) : State :=
  modZone s zk (fun z => if z.coveValid then z else { z with cove := n.firstCove, coveValid := true })

/-- A block of a compressed zone joins the zone's unit; what it takes once compressed is a free value. -/
def mirPiece (s : State) (zk off : Nat) (blk : Nat) (nsid lba data : Nat) : State :=
  let (sc, s) := freeBelow s 131072
  let s := storeBlock s nsid lba ⟨data, none⟩
  let s := addPiece s zk off (leBytes blk data) sc 0 s.genNow
  let s := modZone s zk (fun z => { z with applied := off / blk + 1 })
  if (off + blk) % 65536 = 0 then closeUnit s zk 0 else s

/-- A mirrored block is applied at the takeover: it joins the write buffer as acknowledged data. [DEDUCED, log entry 95] -/
def mirBlock (s : State) (b : Nat × Nat × Nat) : State :=
  let (nsid, lba, data) := b
  match nsOf s nsid with
  | none => s
  | some n =>
    let f := flightOf s ⟨0, 0, 0, nsid, false⟩
    if n.zoned then
      let zk := zkey nsid (lba / zoneBlocks s n)
      let s := mirZone s n zk
      if Cd.compressed (coveDesc s (zoneAt s zk).cove) then mirPiece s zk (lba % zoneBlocks s n * n.blk) n.blk nsid lba data
      else applyDirect s f [(lba, ⟨data, none⟩)]
    else applyConv s f lba ⟨data, none⟩

/-- A mirrored zone record takes effect. [DEDUCED, log entry 95] -/
def mirZoneRec (s : State) (nsid zone wp st : Nat) : State :=
  match nsOf s nsid with
  | none => s
  | some n => modZone (mirZone s n (zkey nsid zone)) (zkey nsid zone) (fun z => { z with wp := wp, applied := wp, st := zstateOf st })

/-- A record takes effect at the takeover. [DEDUCED, log entry 95] -/
def mirApply (s : State) (r : MirRec) : State :=
  match r.body with
  | .blocks l => l.foldl mirBlock s
  | .zone nsid zone wp st => mirZoneRec s nsid zone wp st
  | .release => s

/-- Data whose pages have passed on the sender's side is on the media that both packages reach. -/
def mirSettled (s : State) (r : MirRec) : State :=
  match r.body with
  | .blocks l => l.foldl (fun s b => storeBlock s b.1 b.2.1 ⟨b.2.2, none⟩) s
  | .zone nsid zone wp st => mirZoneRec s nsid zone wp st
  | .release => s

/-- KIND 0x04: the space at ARG is free again; what it held has passed. [DEDUCED, log entry 95] -/
def mirrorRelease (s : State) (h : MirHdr) : State :=
  let s' := mirrorRecv s 4 h .release
  if h.good && peerUp s && (s.pair.state == 2 || s.pair.state == 6) then
    let gone := s'.pair.recv.filter (fun r => decide (r.kind ≤ 3) && r.arg == h.arg && decide (r.seq < h.seq))
    let s' := gone.foldl mirSettled s'
    { s' with pair := { s'.pair with recv := s'.pair.recv.filter (fun r => !(gone.any (fun g => g.seq == r.seq)) && !(decide (r.kind > 3) && decide (r.seq ≤ s'.pair.recvSeq))) } }
  else s'

def execMirrorRelease (h : MirHdr) (s : State) : Host.Outcome State Fault Refusal := .next (mirrorRelease s h)

/-- The consistency point: the last record with GROUP_END within the contiguous run (R334). -/
def consistencyPoint (s : State) : Nat :=
  maxNat ((s.pair.recv.filter (fun r => r.groupEnd && decide (r.seq ≤ s.pair.recvSeq))).map MirRec.seq)

/-- Records in SEQ order. -/
def bySeq (l : List MirRec) : List MirRec := (sortNat (l.map MirRec.seq)).filterMap (fun q => l.find? (fun r => r.seq == q))

-- ===== sending side (R325, R326, R338, R339) =====

/-- Acknowledged records whose data is still in the write buffer. [DEDUCED, log entry 96] -/
def keptRecs (s : State) (l : List SentRec) : List SentRec := l.filter (fun r => r.group != 0 && s.xlat.wbuf.any (fun e => e.seq == r.group))

/-- MIRROR_ACK: writes, carried commands, persisted entries and a sleep entry that waited for it go on. -/
def mirrorAck (s : State) (arg0 : Nat) : State :=
  let arg := Nat.min arg0 s.pair.seqSent
  if !peerUp s ∨ arg ≤ s.pair.seqAcked then s
  else
    let done := s.pair.forwards.filter (fun f => decide (f.seq ≤ arg))
    let s := { s with
      pair := { s.pair with
        seqAcked := arg, unacked := s.pair.unacked.filter (fun r => decide (arg < r.seq))
        kept := keptRecs s (s.pair.kept ++ s.pair.unacked.filter (fun r => decide (r.seq ≤ arg)))
        forwards := s.pair.forwards.filter (fun f => decide (arg < f.seq)) } }
    let s := ackedWrites (done.foldl (fun s f => fwdRun s f.cmd f.fwd) s)
    let s := if s.pair.coordSeq ≠ 0 ∧ s.pair.coordSeq ≤ arg then
        { s with power := { s.power with entry := s.power.entry.map (fun e => { e with acked := true }) } } else s
    sleepProgress s

def execMirrorAck (arg : Nat) (s : State) : Host.Outcome State Fault Refusal := .next (settle (mirrorAck s arg))

/-- RESEND_REQUEST: the record is sent again while the sender holds its data; each resend is counted. [DEDUCED, log entry 96] -/
def resendRequest (s : State) (seq : Nat) : State :=
  if peerUp s && (s.pair.unacked ++ keptRecs s s.pair.kept).any (fun r => r.seq == seq) then
    traceItem (bump32 s K.mirrorResends) 0x1A 0x01 0 [seq, seq / 2 ^ 32]
  else s

def execResendRequest (seq : Nat) (s : State) : Host.Outcome State Fault Refusal := .next (resendRequest s seq)

/-- ADMIN_FORWARD: the owner executes a command the partner fetched; the partner completes it. [DEDUCED, log entry 64] -/
def adminForward (s : State) (fn sqid cid : Nat) (cmd : FwdCmd) : State :=
  let nsid := match cmd with
    | .create n .. => n
    | .delete n => n
    | .attach n _ => n
    | .detach n _ => n
    | .format n .. => n
    | .sanitize .. => 0
  if peerUp s then fwdRun (recvOther s 8) ⟨fn % 1024 + 1024, sqid, cid, nsid, false⟩ cmd else s

def execAdminForward (fn sqid cid : Nat) (cmd : FwdCmd) (s : State) : Host.Outcome State Fault Refusal :=
  .next (settle (adminForward s fn sqid cid cmd))

/-- The pair-shared entries (R320). -/
def pairShared (idx sub : Nat) : Bool :=
  ((idx == 0x3020 || idx == 0x3021) && decide (1 ≤ sub ∧ sub ≤ 0x80)) || (idx == 0x6000 && sub == 2) || (idx == 0x5000 && sub == 3)
    || (idx == 0x3100 && sub == 1) || (idx == 0x4000 && (sub == 1 || sub == 2 || sub == 4)) || (idx == 0x4012 && sub == 1) || (idx == 0x4106 && sub == 1)

/-- PAIR_SHARED_ENTRY (R323): the partner's value is persisted here too, and applies at this package's own next boundary. -/
def pairSharedEntry (s : State) (idx sub value : Nat) (bytes : Bytes) : State :=
  match rowOf idx sub with
  | some r =>
    if peerUp s && pairShared idx sub then
      let s := recvOther s 9
      let key := entryKey idx sub 0
      let b := if r.ty = 14 then bytes else leBytes r.size value
      if r.acc = 6 then
        let t := applyTide s
        journalOwn (stageAt s t (.entry key value)) (jrec key 2 b t)
      else journalAsk s ⟨MiowaReq.none, false, [jrec key 1 b 0], 1, [], 0, .rwp⟩
    else s
  | none => s

def execPairSharedEntry (index sub value : Nat) (bytes : Bytes) (s : State) : Host.Outcome State Fault Refusal :=
  .next (settle (pairSharedEntry s index sub value bytes))

/-- POWER_COORDINATION (R339, R340): the partner enters Slack or Neap. -/
def powerCoordination (s : State) (target : Nat) : State :=
  if peerUp s then
    let s := recvOther s 0x0A
    { s with pair := { s.pair with partnerAsleep := target == 2 || target == 3 } }
  else s

def execPowerCoordination (target : Nat) (s : State) : Host.Outcome State Fault Refusal := .next (powerCoordination s target)

-- ===== forming (R320, R321, R336) =====

/-- SHA3-256 of the pair-shared entries. -/
def pairDigest (s : State) : Nat :=
  Config.sha3 ((List.range 256).flatMap (fun c => leBytes 64 (coveDesc s c)) ++ leBytes 8 (v s K.pairId) ++ leBytes 2 (v s K.writeBufferGib)
    ++ leBytes 2 (v s K.metaBlocksPerDie) ++ leBytes 2 (v s K.flushBlocksPerDie) ++ leBytes 2 (v s K.nandTargetRate) ++ leBytes 1 (v s K.nandIfPref)
    ++ domOf s K.nandTimes ++ domOf s K.readLevelMap)

/-- Why a formation record does not match: 1 positions equal, 2 PAIR_ID, 3 stepping, 4 digest; 0 it matches. -/
def formCause (s : State) (f : FormRec) : Nat :=
  if f.position = s.pair.position then 1 else if f.pairId ≠ v s K.pairId then 2 else if f.stepping ≠ v s K.stepping then 3
  else if f.digest ≠ pairDigest s then 4 else 0

/-- PAIR_REFUSED: no channel is driven, and every function sets CSTS.CFS. [DEDUCED, log entry 98] -/
def pairRefused (s : State) (cause : Nat) : State :=
  cfsAll (event { s with pair := { s.pair with state := 7, hbOut := false } } Ev.pairRefused [cause])

/-- A new run of records begins. -/
def newRun (s : State) : State := { s with pair := { s.pair with recvSeq := 0, recv := [] } }

/-- The pair has formed: each package owns its half; a package that returns from a fence waits for its half, one that had surrendered
stays in standby. -/
def formed (s : State) : State :=
  let me := s.pair.position
  let s := newRun s
  if s.pair.returning then anaTo (anaTo { s with pair := { s.pair with state := 6 } } me 2) (otherHalf me) 1
  else if anaOf s me = 1 then { s with pair := { s.pair with state := 8 } }
  else gateHalf (anaTo { s with pair := { s.pair with state := 2 } } (otherHalf me) 1) (otherHalf me) true

/-- A package begins to hand a half over (R336, step 1). [DESIGN CHOICE, log entry 97] -/
def handOver (s : State) (h : Nat) : State := anaTo { s with pair := { s.pair with state := 6, handing := some h } } h 2

/-- A half is taken from the partner that handed it over: its channels are driven and its group is Optimized. [DEDUCED, log entry 75] -/
def takeHalf (s : State) (h : Nat) : State :=
  anaTo (gateHalf { s with pair := { s.pair with state := 2, returning := false } } h false) h 0

/-- FORMATION: a formation record arrives. One that marks a handover hands a half to this package, or, from a partner that had
surrendered, asks for its half back. [DESIGN CHOICE, log entry 97] -/
def formation (s : State) (f : FormRec) : State :=
  let me := s.pair.position
  let other := otherHalf me
  if !peerUp s then s
  else if f.handover then
    if s.pair.state = 6 ∧ s.pair.returning then takeHalf s me
    else if s.pair.state = 2 ∧ anaOf s other = 1 then takeHalf s other
    else if s.pair.state = 2 ∧ anaOf s other = 0 then handOver s other
    else s
  else if s.pair.state = 1 then
    (match formCause s f with
    | 0 => formed s
    | k => pairRefused s k)
  else if s.pair.state = 4 ∧ !s.pair.fenceOut then
    (match formCause s f with
    | 0 => handOver (newRun s) other
    | k => pairRefused s k)
  else if s.pair.state = 2 then
    (match formCause s f with
    | 0 => newRun s
    | k => pairRefused s k)
  else s

def execFormation (f : FormRec) (s : State) : Host.Outcome State Fault Refusal := .next (settle (formation s f))

-- ===== fencing and takeover (R321, R332 to R335) =====

/-- PARTNER_FENCE: PL_FENCE_OUT# falls. The consistency point is fixed and its groups take effect; the fenced group goes to Change; writes
complete without the partner from now on; the Strands of the fenced half wake. A package that is fenced itself never fences. -/
def partnerFence (s : State) : State :=
  if s.pair.fenceIn then s
  else
    let me := s.pair.position
    let other := otherHalf me
    let cp := consistencyPoint s
    let rs := bySeq (s.pair.recv.filter (fun r => decide (r.seq ≤ cp)))
    let s := { s with
      pair := { s.pair with state := 3, fenceOut := true, fenceNs := s.clk.nowNs, deferring := false, handing := none, returning := false, recv := []
                            unacked := [], kept := [], partnerAsleep := false }
      nand := { s.nand with takingOver := halfMask other } }
    let s := anaTo (anaTo s me 0) other 2
    let s := (rs.foldl mirApply s)
    let s := { s with xlat := { s.xlat with wbuf := s.xlat.wbuf.map (fun (e : WbEnt) => if e.seq = 0 then { e with acked := true } else e) } }
    ackedWrites (excuseReads (gateHalf s other false) (fun a => bitAt (halfMask other) (a.die / 64)))

/-- PAIR_FORM_TIMEOUT: no formation record; with no edge on PL_HB_IN the partner is absent: position 0 fences it, position 1 defers. [DEDUCED, log entry 98] -/
def pairFormTimeout (s : State) (edge : Bool) : State :=
  if s.pair.state ≠ 1 ∨ edge then s
  else if s.pair.position = 0 then partnerFence s
  else { s with pair := { s.pair with deferring := true } }

def execPairFormTimeout (edge : Bool) (s : State) : Host.Outcome State Fault Refusal := .next (settle (pairFormTimeout s edge))

/-- Mirroring is lost: the link is not in L0, or a record is unacknowledged. -/
def mirrorLost (s : State) : Bool := !s.pair.linkUp || !s.pair.unacked.isEmpty

/-- PAIR_DEAD_TIME: the loss has lasted that long. A sleeping partner whose heartbeat goes on is excused (R340), and one that has
surrendered (R391). -/
def pairDeadTime (s : State) (heartbeat : Bool) : State :=
  let s := { s with pair := { s.pair with hbInStopped := !heartbeat } }
  if !(mirroring s && (mirrorLost s || s.pair.partnerAsleep)) || (s.pair.partnerAsleep && heartbeat) then s
  else if s.pair.position = 0 then partnerFence s
  else if heartbeat then s
  else { s with pair := { s.pair with deferring := true } }

def execPairDeadTime (heartbeat : Bool) (s : State) : Host.Outcome State Fault Refusal := .next (settle (pairDeadTime s heartbeat))

/-- PAIR_FENCE_DEFER: position 1's deferral has passed. -/
def pairFenceDefer (s : State) (heartbeat : Bool) : State :=
  if !s.pair.deferring then s
  else if heartbeat then { s with pair := { s.pair with deferring := false, hbInStopped := false } }
  else partnerFence s

def execPairFenceDefer (heartbeat : Bool) (s : State) : Host.Outcome State Fault Refusal := .next (settle (pairFenceDefer s heartbeat))

/-- TAKEOVER_COMPLETE (R335): the open units of the fenced half close with TAKEOVER, its group is Optimized, and commands that were carried
to the partner run here. [DEDUCED, log entry 75] -/
def takeoverComplete (s : State) : State :=
  if s.pair.state ≠ 3 then s
  else
    let other := otherHalf s.pair.position
    let s := cutUnits s 7 (fun k _ => (nsRec s (k / 2 ^ 32)).half == other)
    let fs := s.pair.forwards
    let s := anaTo { s with
      pair := { s.pair with state := 4, forwards := [] }
      nand := { s.nand with takingOver := 0 } } other 0
    let s := bump32 (setV s K.lastTakeoverUs (Nat.min ((s.clk.nowNs - s.pair.fenceNs) / 1000) (2 ^ 32 - 1))) K.takeovers
    fs.foldl (fun s f => fwdRun s f.cmd f.fwd) s

def execTakeoverComplete (s : State) : Host.Outcome State Fault Refusal := .next (settle (takeoverComplete s))

-- ===== being fenced (R331, R370 to R372) =====

/-- FENCED: PL_FENCE_IN# is low. Outstanding descriptors complete with NC_FENCED, every function sets CSTS.CFS, the heartbeat stops, and the
package undergoes the pair fence reset, with no flush: its data is the survivor's. [DEDUCED, log entry 98] -/
def fenced (s : State) : State :=
  if !s.pair.enabled || s.pair.fenceIn then s
  else
    let s := nandFenced (serviceEnd (tally s 9) 3)
    let s := hubRestart s
    let s := { s with
      zones := s.zones.mapVal (fun _ z => { z with unit := none, rsv := [] })
      xlat := { s.xlat with wbuf := [] }
      nand := { s.nand with wtLog := [], flushArea := false }
      power := { s.power with flushLost := [] }
      pair := { s.pair with state := 5, fenceIn := true, fenceOut := false, hbOut := false, returning := false, forwards := [] }
      wdt := { s.wdt with kicks := [], expired := false, deferred := false } }
    cfsAll (bootSelect s)

def execFenced (s : State) : Host.Outcome State Fault Refusal := .next (settle (fenced s))

/-- FENCE_RELEASE: PL_FENCE_IN# has been high for 1 ms; the package forms again, to a half it does not hold yet. -/
def fenceRelease (s : State) : State :=
  if s.pair.state = 5 then { s with pair := { s.pair with state := 1, fenceIn := false, returning := true, hbOut := true } } else s

def execFenceRelease (s : State) : Host.Outcome State Fault Refusal := .next (fenceRelease s)

-- ===== PAIR_CTRL (R336) =====

/-- REJOIN at the solo package releases PL_FENCE_OUT#; at a package that has surrendered it asks for its half back. [DESIGN CHOICE, log entry 97] -/
def rejoinNow (s : State) : Ans × State :=
  if s.pair.state = 4 then (.code 0, { s with pair := { s.pair with fenceOut := false } })
  else if s.pair.state = 8 then
    let s := { s with pair := { s.pair with state := 6, returning := true } }
    (.code 0, anaTo (if s.pair.linkUp then mirrorSend s 7 64 0 false else s) s.pair.position 2)
  else (.code 0x0D, s)

def execRejoin (a : Access) (s : State) : Host.Outcome State Fault Refusal :=
  .next (settle (accessWrite s a 0x6001 8 1 (fun s _ => rejoinNow s)))

/-- SURRENDER: a paired package hands its own half to its partner. [DEDUCED, log entry 98] -/
def surrenderNow (s : State) : Ans × State :=
  if s.pair.state = 2 ∧ mirroring s then (.code 0, handOver s s.pair.position) else (.code 0x0D, s)

def execSurrender (a : Access) (s : State) : Host.Outcome State Fault Refusal :=
  .next (settle (accessWrite s a 0x6001 8 2 (fun s _ => surrenderNow s)))

/-- The group being handed over has no command in flight, and its write buffer and map journal are on the media. [DEDUCED, log entry 98] -/
def handReady (s : State) (h : Nat) : Bool :=
  let mine (nsid : Nat) : Bool := (nsRec s nsid).half == h
  s.flights.all (fun f => f.sqid == 0 || !mine f.nsid) && s.xlat.wbuf.all (fun e => !mine e.nsid)
    && s.zones.all (fun p => p.2.unit.isNone || !mine (p.1 / 2 ^ 32)) && s.xlat.dirty.all (fun p => !mine (p / 2 ^ 32))

/-- The last steps of a handover: the channels float, the formation record is sent, and the group is Inaccessible here. Open units close
first, so that their data can be programmed. -/
def handFinish (s : State) : State :=
  match s.pair.state, s.pair.handing with
  | 6, some h =>
    let s := cutUnits s 5 (fun k _ => (nsRec s (k / 2 ^ 32)).half == h)
    if handReady s h then
      let s := if s.pair.linkUp then mirrorSend s 7 64 0 false else s
      gateHalf (anaTo { s with pair := { s.pair with state := if h = s.pair.position then 8 else 2, handing := none } } h 1) h true
    else s
  | _, _ => s

end Sys2Proof.Machine
end

