-- ==== Sys2Proof/Machine/Security.lean ====
section
/-! DEFINITION. Machine/Security.lean: signer keys, attestation, key sessions, service mode and the service window. -/
namespace Sys2Proof.Machine
open Sys2Proof

-- ===== signer keys (R393) =====

/-- The 48 bytes of a SIGNER_KEYS record. -/
def Signer.bytes (x : Signer) : Bytes :=
  leBytes 1 x.role ++ leBytes 1 x.alg ++ leBytes 6 0 ++ leBytes 32 x.hash ++ leBytes 8 x.added

/-- SIGNER_KEYS: 16 records of 48 bytes. -/
def signerBytes (s : State) : Bytes :=
  s.boot.signers.flatMap Signer.bytes ++ List.replicate (48 * (16 - s.boot.signers.length)) 0

/-- SERIAL_NUMBER. -/
def serialBytes (s : State) : Bytes := leBytes 20 (v s K.serialNumber)

/-- A signature by a stored key of a role, with its algorithm. -/
def signedBy (s : State) (role alg : Nat) (msg sig : Bytes) : Bool :=
  s.boot.signers.any (fun x => x.role == role && x.alg == alg && Config.sigVerify alg x.hash msg sig)

/-- The AUTH fields at `off` of a value: an OWNER signature over the bytes before them followed by SERIAL_NUMBER. [DEDUCED, log entry 99] -/
def ownerAuth (s : State) (value : Bytes) (off : Nat) : Bool :=
  signedBy s 1 (leAt value off 1) (value.take off ++ serialBytes s) ((value.drop (off + 8)).take (leAt value (off + 4) 4))

/-- The AUTH fields end a value, with their reserved bytes 0. [DEDUCED, log entry 99] -/
def authForm (value : Bytes) (off : Nat) : Nat :=
  if value.length < off + 8 ∨ value.length ≠ off + 8 + leAt value (off + 4) 4 then 0x06
  else if leAt value (off + 1) 3 ≠ 0 then 0x08
  else 0

/-- Public key bytes of a SIG_ALG. -/
def publicLength (alg : Nat) : Nat := if alg = 1 then 1312 else 1952

/-- The store holds an OWNER key. -/
def hasOwner (s : State) : Bool := s.boot.signers.any (fun x => x.role == 1)

/-- The code that refuses a SIGNER_KEY_ADD value, or 0. [DEDUCED, log entry 99] -/
def signerAddCheck (s : State) (value : Bytes) : Nat :=
  let role := leAt value 0 1
  let alg := leAt value 1 1
  let off := 8 + leAt value 4 4
  if value.length < 8 then 0x06
  else if leAt value 2 2 ≠ 0 then 0x08
  else if role < 1 ∨ role > 3 ∨ alg < 1 ∨ alg > 2 then 0x07
  else if leAt value 4 4 ≠ publicLength alg then 0x06
  else if authForm value off ≠ 0 then authForm value off
  else if !hasOwner s ∧ role = 1 ∧ leAt value (off + 4) 4 = 0 then 0
  else if !ownerAuth s value off then 0x11
  else if s.boot.signers.length ≥ 16 then 0x07
  else 0

/-- SIGNER_KEY_ADD. -/
def addSigner (s : State) (value : Bytes) : Nat × State :=
  let c := signerAddCheck s value
  let pub := (value.drop 8).take (leAt value 4 4)
  let x : Signer := ⟨leAt value 0 1, leAt value 1 1, Config.sha3 pub, time64 s⟩
  if c ≠ 0 then (c, s)
  else (0, domChanged { s with boot := { s.boot with signers := s.boot.signers ++ [x] } } K.signerKeys)

/-- SIGNER_KEY_REMOVE: KEY_HASH and the AUTH fields. A hash that names no key is out of range. [DEDUCED, log entry 99] -/
def removeSigner (s : State) (value : Bytes) : Nat × State :=
  let hash := leAt value 0 32
  let left := s.boot.signers.filter (fun x => x.hash != hash)
  if authForm value 32 ≠ 0 then (authForm value 32, s)
  else if !ownerAuth s value 32 then (0x11, s)
  else if left.length = s.boot.signers.length ∨ !left.any (fun x => x.role == 1) then (0x07, s)
  else (0, domChanged { s with boot := { s.boot with signers := left } } K.signerKeys)

/-- An effect that gives a code and a state, as an answer. -/
def coded (r : Nat × State) : Ans × State := (Ans.code r.1, r.2)

def execSignerKeyAdd (a : Access) (value : Bytes) (s : State) : Host.Outcome State Fault Refusal :=
  .next (accessBytes s a 0x8110 2 0 value (fun s _ => coded (addSigner s value)))
def execSignerKeyRemove (a : Access) (value : Bytes) (s : State) : Host.Outcome State Fault Refusal :=
  .next (accessBytes s a 0x8110 3 0 value (fun s _ => coded (removeSigner s value)))

-- ===== attestation (R394, R395) =====

/-- A new challenge: the report it replaces is gone, and reads wait for the new one. -/
def challenge (s : State) (nonce : Nat) : State :=
  domChanged { s with boot := { s.boot with nonce := some nonce, building := true, report := [] } } K.attestReport

def execAttestChallenge (a : Access) (nonce : Nat) (s : State) : Host.Outcome State Fault Refusal :=
  .next (accessWrite s a 0x8100 2 nonce (fun s _ => (.code 0, challenge s nonce)))

/-- The overlay in force. -/
def overlayImage (s : State) : Bytes := (s.store.overlays.get? (v s K.overlaySelect)).elim [] Overlay.image

/-- The bytes of the attestation report before ENDORSEMENT. -/
def reportHead (s : State) (nonce : Nat) : Bytes :=
  let pub := Config.attestPublic s.boot.attestAlg s.boot.attestPair
  let flags := (if s.boot.service then 1 else 0) + (if fwConfirmed s then 0 else 2) + (if vb s K.fwBootFallback then 4 else 0)
    + (if vb s K.writeThrough then 8 else 0) + (if s.boot.sanitizeFailed then 16 else 0)
  [0x53, 0x42, 0x41, 0x54] ++ leBytes 1 s.boot.attestAlg ++ leBytes 1 flags ++ leBytes 2 (v s K.nodeId) ++ leBytes 32 nonce
    ++ leBytes 8 (time64 s) ++ leBytes 4 (v s K.powerOns) ++ leBytes 2 s.boot.secVersion ++ leBytes 2 (v s K.fwRollbackFuse)
    ++ leBytes 8 (v s K.fwRunningVersion) ++ leBytes 48 s.boot.fwDigest ++ leBytes 32 (Config.sha3 (s.store.baseImage ++ overlayImage s))
    ++ leBytes 32 (Config.sha3 (signerBytes s)) ++ leBytes 4 (publicLength s.boot.attestAlg) ++ pub

/-- What the identity key endorsed at boot (R394). -/
def endorsement (s : State) : Bytes :=
  Config.identitySign ([0x53, 0x42, 0x41, 0x4B] ++ Config.attestPublic s.boot.attestAlg s.boot.attestPair ++ leBytes 48 s.boot.fwDigest
    ++ leBytes 4 (v s K.powerOns))

/-- ATTEST_REPORT_READY: the report is complete and signed by the attestation key. -/
def attestReady (s : State) : State :=
  match s.boot.building, s.boot.nonce with
  | true, some nonce =>
    let body := reportHead s nonce ++ endorsement s
    domChanged { s with boot := { s.boot with building := false, report := body ++ Config.attestSign s.boot.attestAlg body } } K.attestReport
  | _, _ => s

def execAttestReportReady (s : State) : Host.Outcome State Fault Refusal := .next (attestReady s)

-- ===== key delivery (R108, R109) =====

/-- KEY_AUTHORITY 0x01: only the tenant itself opens a session or delivers a key; through INSTANCE a manager may not. [DEDUCED, log entry 100] -/
def keyRefused (s : State) (p : Path) (n : Nat) : Bool :=
  vi s K.keyAuthority n == 1 && p != .fn n

/-- KEY_SESSION. -/
def keySessionOp (s : State) (p : Path) (n slice : Nat) : Nat × State :=
  if keyRefused s p n then (0x04, s) else (0, openSession s n slice)

/-- KEY_DELIVER. -/
def keyDeliverOp (s : State) (p : Path) (n : Nat) (value : Bytes) : Nat × State :=
  if keyRefused s p n then (0x04, s) else deliverKey s n value

def execKeySession (a : Access) (slice : Nat) (s : State) : Host.Outcome State Fault Refusal :=
  .next (accessWrite s a 0x2120 1 slice (fun s n => coded (keySessionOp s a.path n slice)))
def execKeyDeliver (a : Access) (value : Bytes) (s : State) : Host.Outcome State Fault Refusal :=
  .next (accessBytes s a 0x2120 3 1176 value (fun s n => coded (keyDeliverOp s a.path n value)))

-- ===== service mode (R399) =====

/-- A fresh challenge: a number the spec leaves open; it replaces any earlier one. -/
def freshChallenge (s : State) : Bytes × State :=
  let (n, s) := freeBelow s (2 ^ 256)
  (leBytes 32 n, { s with boot := { s.boot with challenge := some n, challengeNs := s.clk.nowNs } })

def execServiceChallenge (a : Access) (s : State) : Host.Outcome State Fault Refusal :=
  .next (accessRead s a 0x8120 1 (fun s _ => freshChallenge s))

/-- SERVICE_STATE. [DEDUCED, log entry 100] -/
def serviceState (s : State) : Nat := if s.boot.service then 1 else if s.boot.svcFails ≥ 5 then 2 else 0

/-- The code that refuses a SERVICE_UNLOCK value, or 0. [DEDUCED, log entry 100] -/
def unlockCheck (s : State) (value : Bytes) : Nat :=
  let len := leAt value 60 4
  let fresh := s.boot.challenge.any (fun c => c == leAt value 0 32) && decide (s.clk.nowNs ≤ s.boot.challengeNs + 60000000000)
  if value.length < 64 ∨ value.length ≠ 64 + len then 0x06
  else if leAt value 57 3 ≠ 0 then 0x08
  else if leAt value 52 4 < 1 ∨ leAt value 52 4 > 86400 then 0x07
  else if !fresh ∨ (value.drop 32).take 20 ≠ serialBytes s then 0x0F
  else if !signedBy s 3 (leAt value 56 1) (value.take 56) (value.drop 64) then 0x11
  else 0

/-- SERVICE_UNLOCK: while the entry is blocked, every unlock is refused with MP_SEQUENCE. A nonce unlocks once. [DEDUCED, log entry 100] -/
def serviceUnlock (s : State) (p : Path) (value : Bytes) : Nat × State :=
  let c := unlockCheck s value
  if s.boot.svcFails ≥ 5 then (0x0D, s)
  else if c = 0 then
    let s := { s with boot := { s.boot with service := true, servicePath := some p, serviceS := leAt value 52 4, challenge := none } }
    (0, event s Ev.serviceUnlock [leAt value 52 4])
  else
    (c, setV { s with boot := { s.boot with svcFails := s.boot.svcFails + 1 } } K.serviceFails (Nat.min 5 (v s K.serviceFails + 1)))

def execServiceUnlock (a : Access) (value : Bytes) (s : State) : Host.Outcome State Fault Refusal :=
  .next (accessBytes s a 0x8120 2 0 value (fun s _ => coded (serviceUnlock s a.path value)))

def execServiceLock (a : Access) (x : Nat) (s : State) : Host.Outcome State Fault Refusal :=
  .next (accessWrite s a 0x8120 3 x (fun s _ => (.code 0, serviceEnd s 2)))

def execServiceModeExpiry (s : State) : Host.Outcome State Fault Refusal := .next (serviceEnd s 1)

-- ===== Security Send and Security Receive =====

/-- Only security protocol 0x00 exists; it lists itself, and no certificate. [PRESUMED, log entry 101] -/
def securityProtocols (spsp len : Nat) : Bytes :=
  if spsp = 0 then segment ([0, 0, 0, 0, 0, 0, 0, 1, 0]) 0 len else List.replicate len 0

def execSecuritySend (c : Cmd) (secp _spsp _len : Nat) (s : State) : Host.Outcome State Fault Refusal :=
  .next (complete s c (if secp = 0 ∧ !c.resv then .success else .invalidField) 0)
def execSecurityReceive (c : Cmd) (secp spsp len : Nat) (s : State) : Host.Outcome State Fault Refusal :=
  .next (if secp = 0 ∧ !c.resv then complete (dmaOut s c.fn (securityProtocols spsp len)) c .success 0 else complete s c .invalidField 0)

-- ===== the service window (R79) =====

/-- A write of a register of a check-value unit; the service window acts as a control core. [DEDUCED, log entry 102] -/
def unitWrite (u : CrcUnit) (off x : Nat) : CrcUnit :=
  if off = 0x00 then
    let u := { u with alg := x % 4 }
    if bitAt x 4 then u.init else u
  else if off = 0x04 then (if bitAt x 1 then { u with dropped := false } else u)
  else if off = 0x10 then u.feed 1 1 x
  else if off = 0x14 then u.feed 1 2 x
  else if off = 0x18 then u.feed 1 4 x
  else if off = 0x20 then { u with lo := x }
  else if off = 0x24 then u.restore 1 u.lo x
  else u

/-- A read of a register of a check-value unit; BUSY reads 0, since every feed has been applied (R219). [DEDUCED, log entry 102] -/
def unitRead (u : CrcUnit) (off : Nat) : Nat :=
  if off = 0x00 then u.alg + u.holder * 2 ^ 8
  else if off = 0x04 then (if u.dropped then 2 else 0) + (if u.out then 4 else 0)
  else if off = 0x20 then u.running % 2 ^ 32
  else if off = 0x24 then u.running / 2 ^ 32
  else if off = 0x28 then u.result % 2 ^ 32
  else if off = 0x2C then u.result / 2 ^ 32
  else if off = 0x30 then u.bytes
  else 0

/-- A write of an ECC test register (R317): OP starts an operation on REGION. [DEDUCED, log entry 102] -/
def eccRegWrite (s : State) (off x : Nat) : State :=
  if off = 0x00 then
    let region := fld x 11 8
    let s := modTest s (fun t => { t with region := region })
    match x % 8 with
    | 1 => eccTestWrite s region
    | 2 => eccTestWriteData s region
    | 3 => eccTestWriteCheck s region
    | 4 => eccTestReadCorrected s region
    | 5 => eccTestReadRaw s region
    | _ => s
  else modTest s (fun t =>
    if off = 0x04 then { t with offset := x }
    else if off = 0x08 then { t with data := t.data / 2 ^ 32 * 2 ^ 32 + x }
    else if off = 0x0C then { t with data := t.data % 2 ^ 32 + x * 2 ^ 32 }
    else if off = 0x10 then { t with check := x % 2 ^ 16 }
    else t)

/-- A read of an ECC test register; an operation is over when its write has been taken. -/
def eccRegRead (t : EccTest) (off : Nat) : Nat :=
  if off = 0x00 then t.region * 2 ^ 8
  else if off = 0x04 then t.offset
  else if off = 0x08 then t.data % 2 ^ 32
  else if off = 0x0C then t.data / 2 ^ 32 % 2 ^ 32
  else if off = 0x10 then t.check
  else if off = 0x14 then t.syndrome + t.outcome * 2 ^ 16 + (if t.refused then 2 ^ 18 else 0)
  else 0

/-- The hub die is off or in retention: its units cannot be reached. [DEDUCED, log entry 102] -/
def hubOff (s : State) : Bool := decide (s.power.state ≥ 2) || decide (s.power.good < 7)

/-- SERVICE_WINDOW_ACCESS: offsets within the window. Check-value unit n stands at 0x10_0000 + 0x40 × n, the ECC test registers at
0x12_0000; every other offset is a reserved range. [DEDUCED, log entry 102] -/
def serviceWindow (s : State) (fn off width : Nat) (write : Bool) (value : Nat) : State :=
  let reply (s : State) (x : Nat) : State := if write then s else barReturn s fn x
  if !isPf s fn || !fnExists s fn then s
  else if width ≠ 4 ∨ off % 4 ≠ 0 then reply (bump32 s K.barBadAccess) 0
  else if !s.boot.service then reply (bump32 s K.windowRefused) 0
  else if 0x100000 ≤ off ∧ off < 0x100400 then
    if hubOff s then
      reply (event (bump32 s K.windowOffAccess) Ev.windowOffAccess [off, if write then 1 else 0]) (2 ^ 32 - 1)
    else
      let n := (off - 0x100000) / 0x40
      let r := (off - 0x100000) % 0x40
      if write then modUnit s n (fun u => unitWrite u r (value % 2 ^ 32))
      else barReturn s fn (unitRead (s.crc.units.getD n CrcUnit.atReset) r)
  else if 0x120000 ≤ off ∧ off < 0x120018 then
    if write then eccRegWrite s (off - 0x120000) (value % 2 ^ 32) else barReturn s fn (eccRegRead s.bufs.test (off - 0x120000))
  else reply s 0

def execServiceWindowAccess (fn off width : Nat) (write : Bool) (value : Nat) (s : State) : Host.Outcome State Fault Refusal :=
  .next (serviceWindow s fn off width write value)

end Sys2Proof.Machine
end

