-- ==== Sys2Proof/Machine/Tide.lean ====
section
/-! DEFINITION. Machine/Tide.lean: "Architecture and the Clockless Timing Model": the tide boundary, the time base, speed monitors,
die-to-die links, and Strand gating. -/
namespace Sys2Proof.Machine
open Sys2Proof

-- ===== domains that are off (R38, R52) =====

/-- The hub die is off. [DEDUCED, log entry 103] -/
def hubDown (s : State) : Bool := s.power.state == 3 || !diesOn s

/-- A Strand is off: gated, or the channel dies are. [DEDUCED, log entry 103] -/
def strandDown (s : State) (x : Nat) : Bool := decide (s.power.state ≥ 2) || !diesOn s || s.nand.gated.contains x

/-- A Bay is gated: both its Strands are off. [DEDUCED, log entry 103] -/
def bayDown (s : State) (b : Nat) : Bool := strandDown s (2 * b) && strandDown s (2 * b + 1)

/-- The domain an entry lives in is off. Entries of 0x2100 to 0x6FFF and of 0x9100 and above live on the hub die; SPEED_BAY in a Bay;
READ_OFFSETS and SLICE_POOL_FREE with a Strand; a SENSOR_C with its sensor. Every other entry lives in the anchor die. [DEDUCED, log entry 103] -/
def entryOff (s : State) (key : Nat) : Bool :=
  let idx := key / 2048 / 256
  let sub := key / 2048 % 256
  if sub = 0 then false
  else if idx = 0x7030 then (if sub ≤ 4 then bayDown s (sub - 1) else sub == 5 && hubDown s)
  else if idx = 0x7102 then fitted s (sub - 1) && !sampled s (sub - 1)
  else if idx = 0x4105 then strandDown s (sub - 1)
  else if idx = 0x5110 then strandDown s ((sub - 1) / 5)
  else if (0x2100 ≤ idx ∧ idx < 0x7000) ∨ (0x9100 ≤ idx ∧ idx < 0xA000) then hubDown s
  else false

-- ===== what a staged change does when it applies =====

/-- MAR and MOR of a namespace, 0-based (R146). -/
def zoneMaxima (s : State) (n : Ns) : Nat × Nat :=
  let q := sumNat (n.quota.map Prod.snd)
  (Nat.min (v s K.zoneActiveMax) q - 1, Nat.min (v s K.zoneOpenMax) q - 1)

/-- A controller's list of namespaces has changed. -/
def nsAttribute (s : State) (nsid fn : Nat) : State :=
  aen (modInst s fn (fun i => { i with changedNs := if i.changedNs.contains nsid then i.changedNs else i.changedNs ++ [nsid] })) fn
    .nsAttributeChanged

/-- An INSTANCE_CTRL applies: a STAGED instance becomes LIVE (R95), a RECLAIM stops fetching (R94). -/
def ctrlApplies (s : State) (n x : Nat) : State :=
  if x = 1 then (if (inst s n).state = 2 then instStateTo s n 3 else s)
  else modInst s n (fun i => { i with reclaiming := true })

/-- A Cove's descriptor applies: one that becomes bounded loads its map pages (R281). -/
def coveApplies (s : State) (c old : Nat) : State :=
  if Cd.bounded (coveDesc s c) && !Cd.bounded old then modBound s c (fun b => { b with mapLoading := true }) else s

/-- The Cove whose descriptor an entry is. -/
def coveOfKey (key : Nat) : Option Nat :=
  let sub := key / 2048 % 256
  if key / 2048 / 256 = 0x3020 ∧ 1 ≤ sub then some (sub - 1) else if key / 2048 / 256 = 0x3021 ∧ 1 ≤ sub then some (sub + 127) else none

/-- One staged change takes effect. -/
def applyStaged (s : State) (op : StagedOp) : State :=
  match op with
  | .entry key x =>
    let old := v s key
    let s := entryApplied (setV s key x) key
    if key / 2048 = K.instanceCtrl / 2048 ∧ key % 2048 ≠ 0 then ctrlApplies s (key % 2048 - 1) x
    else match coveOfKey key with
      | some c => coveApplies s c old
      | none => s
  | .attach nsid fn =>
    if s.nss.has nsid then
      nsAttribute { s with nss := s.nss.upd nsid (fun n => { n with attached := if n.attached.contains fn then n.attached else n.attached ++ [fn] }) } nsid fn
    else s
  | .detach nsid fn =>
    if s.nss.has nsid then
      nsAttribute { s with nss := s.nss.upd nsid (fun n => { n with attached := n.attached.filter (· != fn) }) } nsid fn
    else s
  | .complete _ => s
  | .arbitration fn ab lpw mpw hpw => modInst s fn (fun i => { i with ab := ab, lpw := lpw, mpw := mpw, hpw := hpw })
  | .budget ps => { s with power := { s.power with budget := ps } }
  | .live n => if (inst s n).state = 2 && fnExists s n then instStateTo s n 3 else s

/-- Namespace Attachment completes after its boundary (R137). -/
def attachDone (s : State) (op : StagedOp) : State :=
  match op with
  | .complete nsid =>
    (match (s.nss.get? nsid).bind Ns.running with
    | some (c, _) => nsFinish (answer s c .success 0) nsid
    | none => s)
  | _ => s

/-- Namespaces whose MAR or MOR a boundary has changed are reported to their controllers (R146). -/
def maximaChanged (old s : State) : State :=
  s.nss.foldl (fun s p =>
    if p.2.zoned && zoneMaxima old p.2 != zoneMaxima s p.2 then p.2.attached.foldl (fun s fn => nsAttribute s p.1 fn) s else s) s

-- ===== the boundary =====

/-- A new generation is in force; the old one is kept for the work that carries it (R36). [DEDUCED, log entry 104] -/
def openGen (s : State) (snap : Assoc Nat) : State := { s with gens := s.gens ++ [⟨s.genNow, snap⟩], genNow := s.genNow + 1 }

/-- A change waits although its boundary has come: its domain is off (R38). -/
def waits (s : State) (op : StagedOp) : Bool :=
  match op with
  | .entry key _ => entryOff s key
  | _ => false

/-- The staged changes that apply at the boundary of tide `t`, in the order they were accepted. -/
def dueAt (s : State) (t : Nat) : List Staged := s.staged.filter (fun x => x.tide ≤ t && !waits s x.op)

/-- The staged changes that stay: one whose domain is off moves to the next boundary. -/
def leftAt (s : State) (t : Nat) : List Staged :=
  (s.staged.filter (fun x => !(x.tide ≤ t) || waits s x.op)).map (fun x => if x.tide ≤ t then { x with tide := t + 1 } else x)

/-- The instances whose mailbox shows a staged change. -/
def stagedInsts (l : List Staged) : List Nat :=
  (l.filterMap (fun x => match x.op with
    | .entry k _ => if k % 2048 = 0 then none else some (k % 2048 - 1)
    | .live n => some n
    | _ => none)).eraseDups

/-- STAGED_SETTINGS_APPLY and SETTINGS_GENERATION_OPEN (R11, R33, R36): what was staged for tide `t` takes effect in one step. [DEDUCED, log entry 104] -/
def applyDue (s : State) (t : Nat) : State :=
  let due := dueAt s t
  let left := leftAt s t
  let s1 := { s with staged := left, reserved := (left.map Staged.tide).eraseDups }
  if due.isEmpty then s1
  else
    let s2 := due.foldl (fun s x => applyStaged s x.op) (openGen s1 s.dict)
    let s3 := (stagedInsts due).foldl mbRefresh (maximaChanged s s2)
    due.foldl (fun s x => attachDone s x.op) (capCheck s3)

/-- CALIBRATION_MOVE and CALIBRATION_EVALUATE (R255, R256): moves found at earlier boundaries apply first. `opened`: this boundary
has opened a generation; `free`: at least five were free just before it. [DEDUCED, log entry 104] -/
def calibrate (s : State) (opened free : Bool) : State :=
  let on := decide (s.power.state < 2) && diesOn s
  let g := if opened then s.genNow else s.genNow + 1
  let (did, s) := calMoves s g (on && (opened || free))
  let s := if did && !opened then openGen s s.dict else s
  if on then calEvaluate s else s

/-- Writes held for a domain that has woken take effect (R52). [DEDUCED, log entry 104] -/
def applyHeld (s : State) : State :=
  let l := s.miowa.heldWrites.filter (fun p => !entryOff s p.1)
  l.foldl (fun s p => applyRec s (jrec p.1 1 p.2 0))
    { s with miowa := { s.miowa with heldWrites := s.miowa.heldWrites.filter (fun p => entryOff s p.1) } }

/-- The time edge itself: a tide begins, at its time or, where an event has come later, now. [DEDUCED, log entry 104] -/
def tideEdge (s : State) : State :=
  let at' := Nat.max s.clk.nowNs (s.clk.tideStartNs + tideLenNs s)
  let s := advance s (at' - s.clk.nowNs)
  { s with clk := { s.clk with tide := s.clk.tide + 1, tideStartNs := at' }
           eng := { s.eng with grants := 0, urgentGrants := 0 } }

/-- TIDE_BOUNDARY (R33). [DESIGN CHOICE, log entry 5; DEDUCED, log entry 124] -/
def tideBoundary (s : State) (crcFails : Bool) : State :=
  let free := decide (gensHeld s + 5 ≤ 16)
  let s := tideEdge s
  let opened := !(dueAt s s.clk.tide).isEmpty
  let s := calibrate (applyDue s s.clk.tide) opened free
  let s := freeGens (applyHeld s)
  let s := setV (boundRecompute s) K.thermalTokenLimit s.thermal.limit
  let s := if hubOff s then s else crcTideTest s crcFails
  let s := handFinish (ebbBoundary s)
  settle (compactEraseEnd { s with power := { s.power with copyErasing := false } })

def execTideBoundary (crcTestFails : Bool) (s : State) : Host.Outcome State Fault Refusal := .next (tideBoundary s crcTestFails)

-- ===== the time base (R31, R32) =====

/-- TIME_BASE_SWITCH: the active source has stopped; the next available one takes over, with a Warning event. [DEDUCED, log entry 94] -/
def timeBaseSwitch (s : State) (crystal portA portB : Bool) : State :=
  let old := s.clk.source
  let s := timeBaseUpdate { s with clk := { s.clk with crystalOk := crystal, refAOk := portA, refBOk := portB } }
  if s.clk.source = old then s else event s Ev.timeBaseSwitch [old, s.clk.source]

def execTimeBaseSwitch (crystal portA portB : Bool) (s : State) : Host.Outcome State Fault Refusal := .next (timeBaseSwitch s crystal portA portB)

-- ===== speed monitors (R29, R30) =====

/-- The AVSBus rail of a domain: the hub is rail 0, Bay b rail b + 1. -/
def domainRail (dom : Nat) : Nat := if dom = 4 then 0 else dom + 1

/-- A domain is powered. -/
def domainOn (s : State) (dom : Nat) : Bool := dom ≤ 4 && (if dom = 4 then !hubDown s && decide (s.power.state < 2) else !bayDown s dom)

/-- The reading a domain is held at: EBB_SPEED in Ebb, else SPEED_GUARD. [DEDUCED, log entry 105] -/
def speedHeld (s : State) : Nat := if s.power.state = 1 then v s K.ebbSpeed else v s K.speedGuard

/-- SPEED_MONITOR_SAMPLE: a reading below the guard raises VDD_CORE by 5 mV, up to 850 mV. [DEDUCED, log entry 105] -/
def speedSample (s : State) (dom reading : Nat) : State :=
  if !domainOn s dom then s
  else
    let rail := domainRail dom
    let s := setV s (if dom = 4 then K.speedHub else unitKey K.speedBay dom) (Nat.min reading 4095)
    let s := if reading ≥ 1024 then { s with power := { s.power with slow := s.power.slow.filter (· != dom) } } else s
    let mv := Nat.min 850 (v s (unitKey K.coreMv rail) + 5)
    if reading < speedHeld s then
      setV { s with power := { s.power with request := setNth s.power.request rail mv } } (unitKey K.coreMv rail) mv
    else s

def execSpeedMonitorSample (dom reading : Nat) (s : State) : Host.Outcome State Fault Refusal := .next (speedSample s dom reading)

/-- SPEED_LOW: a domain at 0.85 V has stayed below 1,024 for 100 µs. [DEDUCED, log entry 105] -/
def speedLow (s : State) (dom reading : Nat) : State :=
  if domainOn s dom && decide (reading < 1024) && v s (unitKey K.coreMv (domainRail dom)) == 850 then
    let s := event s Ev.speedLow [dom, reading]
    throttleCross { s with power := { s.power with slow := dom :: s.power.slow.filter (· != dom) } } 0xFE reading
  else s

def execSpeedLow (dom reading : Nat) (s : State) : Host.Outcome State Fault Refusal := .next (settle (speedLow s dom reading))

-- ===== die-to-die links (R18) =====

/-- DIE_LINK_TRANSFER: up to three resends mend a transfer; after a fourth mismatch it is an uncorrectable error of what it carried. -/
def dieLink (s : State) (link mismatches : Nat) (held : Held) : State :=
  if mismatches ≤ 3 then s else settle (heldLost (event s Ev.dieLinkGiveup [link, mismatches]) 8 held)

def execDieLinkTransfer (link mismatches : Nat) (held : Held) (s : State) : Host.Outcome State Fault Refusal := .next (dieLink s link mismatches held)

-- ===== Strands (R19, R257, R282) =====

/-- No work of a Strand is queued or runs, and none of its slice buffers is in use. [DEDUCED, log entry 106] -/
def strandIdle (s : State) (x : Nat) : Bool :=
  s.nand.luns.all (fun p => p.1 / 256 != x || (p.2.queue.isEmpty && p.2.run.isNone && p.2.susp.isNone))
    && s.nand.arrived.all (fun a => a.1.die / 256 != x) && s.nand.ladders.all (fun l => l.die / 256 != x)
    && s.bufs.bufs.all (fun p => p.1 / 2 ^ 21 / 8 != x + 1 || !p.2.alloc)

/-- A die of a bounded Cove lies on a Strand. -/
def strandBounded (s : State) (x : Nat) : Bool := (boundedCoves s).any (fun c => (Cd.dies (coveDesc s c)).any (fun d => d / 256 == x))

/-- STRAND_GATE: only when idle, and in Flood only when not bounded; its offsets are kept, its counters are not. [DEDUCED, log entry 106] -/
def strandGate (s : State) (x : Nat) : State :=
  if x ≥ 8 || strandDown s x || !strandIdle s x || (s.power.state == 0 && strandBounded s x) then s
  else { s with nand := { s.nand with
      gated := s.nand.gated ++ [x]
      offs := s.nand.offs.mapVal (fun k e => if k / 128 / 256 = x then { e with s := 0, n1 := 0, e10 := 0, e01 := 0 } else e) } }

/-- The package drives a Strand's channels: not those of a half that its partner drives. [DEDUCED, log entry 106] -/
def strandOwned (s : State) (x : Nat) : Bool := !s.pair.enabled || drivesHalf s (x / 4)

/-- STRAND_WAKE. [DEDUCED, log entry 106] -/
def strandWake (s : State) (x : Nat) : State :=
  if s.nand.gated.contains x && strandOwned s x && decide (s.power.state < 2) then
    { s with nand := { s.nand with gated := s.nand.gated.filter (· != x) } }
  else s

def execStrandGate (strand : Nat) (s : State) : Host.Outcome State Fault Refusal := .next (strandGate s strand)
def execStrandWake (strand : Nat) (s : State) : Host.Outcome State Fault Refusal := .next (strandWake s strand)

end Sys2Proof.Machine
end

