-- ==== Sys2Proof/Machine/Values.lean ====
section
/-! DEFINITION. Machine/Values.lean: the values of the live entries of the dictionary: what a GET or a segmented read of an entry
that no register holds returns. -/
namespace Sys2Proof.Machine
open Sys2Proof

/-- What is still slewed, µs, as an I32 (R66). [DEDUCED, log entry 113] -/
def slewValue (s : State) : Nat := ofSigned 32 (Int.tdiv s.clk.slewNs 1000)

/-- SANITIZE_EST_S (R397): in seconds, rounded up. [DEDUCED, log entry 112] -/
def sanitizeEst (s : State) : Nat :=
  let times := (s.nand.dies.filter (fun p => p.2 == 1)).map (fun p => (slotOf s p.1).blocks * nandTime s (slotOfDie p.1) 20 2)
  let e := tokensInForce s / Nat.max 1 (v s K.tokenCostErase)
  let all := if e = 0 then Config.sanitizeNoTokens (sumNat times) else ceilDiv (sumNat times) e
  Nat.min (ceilDiv (Nat.max (maxNat times) all) 100000) (2 ^ 32 - 1)

/-- The open units. -/
def openUnits (s : State) : List OpenUnit := s.zones.filterMap (fun p => p.2.unit)

/-- The share of a scrub lap that is done, in 1/1,024. -/
def scrubProgress (s : State) (region : Nat) : Nat :=
  (s.bufs.laps.get? region).elim 0 (fun l => if l.total = 0 then 0 else Nat.min 1024 (l.read * 1024 / l.total))

/-- SLICE_QUEUES of slice 0: its count, the queue pairs no other slice has. -/
def sliceZero (s : State) (n : Nat) : Nat :=
  queuePairs s n - sumNat ((List.range 63).map (fun i => (sliceRange s n (i + 1)).2))

/-- The live entries of 0x1000 to 0x2FFF; `n` is the instance the key names. -/
def live12 (s : State) (idx sub n : Nat) : Option Nat :=
  if idx = 0x1100 then
    if sub = 1 then some s.store.baseIdInForce
    else if sub = 3 then some (sumNat (s.store.overlays.keys.map (2 ^ ·)))
    else if sub = 5 then some (journalUsed s)
    else if sub = 7 then some (nvmeSerial s)
    else if sub = 0x0B then some ((s.store.overlays.get? (v s K.overlaySelect)).elim 0 Overlay.imageId)
    else none
  else if idx = 0x1200 then (if sub = 3 then some (time64 s) else if sub = 4 then some (slewValue s) else none)
  else if idx = 0x1210 then
    if sub = 2 then some (s.clk.tide % 2 ^ 64) else if sub = 4 then some (1 + (heldGens s).length) else none
  else if idx = 0x1211 then (if sub = 2 then some (timeBaseActive s) else none)
  else if idx = 0x2002 then (if sub = 1 ∨ sub = 2 then some (port s (sub - 1)).link else none)
  else if idx = 0x2100 then (if sub = 2 then some (queuePoolFree s) else if sub = 3 then some (floorSum s) else none)
  else if idx = 0x2110 then (if sub = 1 then some (instState s n) else none)
  else if idx = 0x2120 then (if sub = 4 then some (keyLoadedBits s n) else if sub = 5 then some (keyCheckBits s n) else none)
  else if idx = 0x2130 ∨ idx = 0x2133 then (if sub = 1 then some 0 else none)
  else if idx = 0x2131 then (if sub = 1 then some (sliceZero s n) else none)
  else none

/-- The live entries of 0x3000 to 0x4FFF. -/
def live34 (s : State) (idx sub : Nat) : Option Nat :=
  if idx = 0x3000 then
    if sub = 1 then some (coves s).length
    else if sub = 2 then some ((coves s).filter (fun c => Cd.raw (coveDesc s c))).length
    else if sub = 3 then some (thinTotal s)
    else none
  else if idx = 0x3010 then (if sub = 3 then some (activeCount s) else if sub = 4 then some (openCount s) else none)
  else if idx = 0x3022 then (if 1 ≤ sub then some (leNat (coveStatusRec s (sub - 1) none)) else none)
  else if idx = 0x3023 then (if 1 ≤ sub then some (leNat (coveStatusRec s (sub + 127) none)) else none)
  else if idx = 0x3100 then
    if sub = 3 then some (mapPagesAll s * 8192)
    else if sub = 5 then some (if mapResident s then 1 else 0)
    else if sub = 8 then some s.xlat.relocMap.length
    else none
  else if idx = 0x3110 then
    if sub = 3 then some s.xlat.losses.length
    else if sub = 5 then some (s.xlat.losses.filter (fun e => e.flags &&& 1 != 0)).length
    else if sub = 7 then some s.xlat.poison.length
    else none
  else if idx = 0x3201 then
    if sub = 7 then some (openUnits s).length else if sub = 8 then some (sumNat ((openUnits s).map OpenUnit.staged)) else none
  else if idx = 0x4001 then
    if sub = 3 then some (atRisk s)
    else if sub = 5 then some (flushRate s)
    else if sub = 7 then some (sumNat (s.nand.wtLog.map Prod.snd))
    else none
  else if idx = 0x4003 then (if sub = 1 then some (ownedMask s) else none)
  else if idx = 0x4104 then (if 5 ≤ sub ∧ sub ≤ 8 then some (patrolShare s (sub - 5)) else none)
  else if idx = 0x4201 then
    if sub = 9 then some (tokensInForce s)
    else if sub = 0x0A then some (readReserveNow s)
    else if sub = 0x0B then some (tokensHeldNow s)
    else none
  else none

/-- The live entries of 0x5000 to 0x9FFF. -/
def live59 (s : State) (idx sub : Nat) : Option Nat :=
  if idx = 0x5101 then (if 1 ≤ sub ∧ sub ≤ 5 then some (freeBufs s 0 (sub - 1)) else none)
  else if idx = 0x5104 then (if 7 ≤ sub then some (v s (unitKey K.wmRecord (sub - 7))) else none)
  else if idx = 0x5110 then (if 1 ≤ sub then some (freeBufs s ((sub - 1) / 5 + 1) ((sub - 1) % 5)) else none)
  else if idx = 0x5202 then (if 6 ≤ sub ∧ sub ≤ 0x0A then some (scrubProgress s (sub - 6)) else none)
  else if idx = 0x6001 then
    if sub = 2 then some s.pair.state
    else if sub = 3 then some s.pair.seqSent
    else if sub = 4 then some s.pair.seqAcked
    else if sub = 5 then some (sumNat (s.pair.unacked.map SentRec.len))
    else none
  else if idx = 0x7010 then (if sub = 1 then some s.power.state else none)
  else if idx = 0x7101 then (if sub = 1 then some s.thermal.state else if sub = 2 then some s.thermal.cause else none)
  else if idx = 0x8010 then
    if sub = 3 then some (fwPending s)
    else if sub = 4 ∨ sub = 5 then some (slotVersion s (sub - 3))
    else if sub = 6 then some (if fwConfirmed s then 1 else 0)
    else none
  else if idx = 0x8120 then (if sub = 4 then some (serviceState s) else none)
  else if idx = 0x8130 then (if sub = 2 then some (sanitizeEst s) else none)
  else if idx = 0x9001 then
    if sub = 1 then some (s.recd.nextSeq - 1)
    else if sub = 2 then some s.recd.ext.length
    else if sub = 5 then some s.recd.compact.length
    else none
  else if idx = 0x9101 then (if sub = 1 then some s.trace.fifo.length else if sub = 3 then some s.trace.nextSeq else none)
  else none

/-- The value in force of an entry that is not a DOMAIN: that of a live entry, else what its register holds. [DEDUCED, log entry 27] -/
def valueNow (s : State) (key : Nat) : Nat :=
  let idx := key / 2048 / 256
  let sub := key / 2048 % 256
  match (if idx < 0x3000 then live12 s idx sub (key % 2048 - 1) else if idx < 0x5000 then live34 s idx sub else live59 s idx sub) with
  | some x => x
  | none => v s key

-- ===== DOMAIN entries =====

/-- Exactly `n` bytes: cut, or followed by zeros. -/
def fit (n : Nat) (b : Bytes) : Bytes := (b ++ List.replicate n 0).take n

/-- NAND_GEOMETRY: 8 bytes a slot. -/
def geometryBytes (s : State) : Bytes :=
  (List.range 256).flatMap (fun i =>
    let x := slotAt s i
    leBytes 1 x.lunMask ++ leBytes 1 x.planes ++ leBytes 2 x.blocks ++ leBytes 2 x.wordlines ++ leBytes 2 0)

/-- READ_OFFSETS of a Strand: CUR by die, band and page type. -/
def offsetBytes (s : State) (strand : Nat) : Bytes :=
  (List.range 256).flatMap (fun d => (List.range 16).flatMap (fun band => (List.range 5).flatMap (fun t =>
    leBytes 1 (ofSigned 8 (offAt s (offKey (strand * 256 + d) band t)).cur))))

/-- HARD_FAULT_TABLE: 32 bytes an entry. -/
def hardFaultBytes (s : State) : Bytes :=
  s.bufs.hard.flatMap (fun p =>
    leBytes 1 (p.1 / 2 ^ 64) ++ leBytes 1 (if p.2.bitB.isSome then 1 else 0) ++ leBytes 1 p.2.bitA ++ leBytes 1 (p.2.bitB.getD 0xFF)
      ++ leBytes 4 0 ++ leBytes 8 (p.1 % 2 ^ 64) ++ leBytes 8 p.2.firstSeen ++ leBytes 4 p.2.corrections ++ leBytes 4 0)

/-- The bytes of a DOMAIN entry that can be read; a write-only entry reads empty. `n` is the instance the key names. -/
def domainBytes (s : State) (key : Nat) : Bytes :=
  let idx := key / 2048 / 256
  let sub := key / 2048 % 256
  let n := key % 2048 - 1
  if idx = 0x2120 then domOf s key
  else if idx = 0x3102 then (List.range 2048).map (fun d => BitVec.ofNat 8 (dieState s d))
  else if idx = 0x3111 then lossPage s 0 s.xlat.losses
  else if idx = 0x4012 then fit 8192 (domOf s key)
  else if idx = 0x4013 then geometryBytes s
  else if idx = 0x4105 then offsetBytes s (sub - 1)
  else if idx = 0x4106 then fit 2048 (domOf s key)
  else if idx = 0x4203 then (List.range 256).flatMap (boundRecord s)
  else if idx = 0x5203 then hardFaultBytes s
  else if idx = 0x7103 then nandTempBytes s
  else if idx = 0x8100 then (if sub = 1 then Config.idCert else s.boot.report)
  else if idx = 0x8110 then (if sub = 1 then signerBytes s else [])
  else if idx = 0x9000 then eventCatalog
  else if idx = 0x9100 then Config.traceCatalog
  else if idx = 0x9110 then (s.tel.hist.getD (2 * n + (sub - 1)) (Hist.fresh 0)).bytes s.clk.tide
  else if idx = 0x9111 then (s.tel.histCove.getD (sub - 1) (Hist.fresh 0)).bytes s.clk.tide
  else if idx = 0x9112 then (s.tel.histCove.getD (sub + 127) (Hist.fresh 0)).bytes s.clk.tide
  else if idx = 0x9121 then (s.tel.sketchPrev.getD (sub - 1) ⟨[], [], 0, []⟩).bytes
  else if idx = 0x9122 then (s.tel.sketchPrev.getD (sub + 127) ⟨[], [], 0, []⟩).bytes
  else []

/-- What a change of a computed DOMAIN entry is seen by: of LOSS_MAP_ALL its entries, of BOUND_STATUS and READ_OFFSETS their bytes. The
other DOMAIN entries advance their versions where they change. [DESIGN CHOICE, log entry 107] -/
def seenBytes (s : State) (key : Nat) : Option Bytes :=
  let idx := key / 2048 / 256
  if idx = 0x3111 then some (s.xlat.losses.flatMap LossEnt.bytes)
  else if idx = 0x4203 ∨ idx = 0x4105 then some (domainBytes s key)
  else none

/-- The version of a computed DOMAIN entry advances when a read finds it changed (R57). [DESIGN CHOICE, log entry 107] -/
def refreshVersion (s : State) (key : Nat) : State :=
  match seenBytes s key with
  | some b => if b = domOf s key then s else setDom s key b
  | none => s

end Sys2Proof.Machine
end

