-- ==== Sys2Proof/Machine/Writes.lean ====
section
/-! DEFINITION. Machine/Writes.lean: writes of dictionary entries: the checks that refuse a value (R44, R45, R48 and the owners'
chapters), and what an accepted value does by its entry's access (R34, R46, R49, R50, R52, R323). -/
namespace Sys2Proof.Machine
open Sys2Proof

-- ===== values refused for their form =====

/-- Reserved bytes of a value: those at `lo` and after, `n` of them. -/
def bytesSet (x lo n : Nat) : Bool := x / 2 ^ (8 * lo) % 2 ^ (8 * n) != 0

/-- DRAM_GEOMETRY (R288): reserved bits, then each field's codes; 8 Gbit devices are x16. -/
def geometryCheck (x : Nat) : Nat :=
  let ranks := fld x 15 12
  let width := fld x 11 8
  let density := fld x 7 4
  if x / 2 ^ 16 ≠ 0 ∨ x % 16 ≠ 0 then 0x08
  else if ranks < 1 ∨ ranks > 2 ∨ width < 1 ∨ width > 3 ∨ density < 1 ∨ density > 3 then 0x07
  else if density = 1 ∧ width ≠ 3 then 0x07
  else 0

/-- Values reserved within a defined field of COVE_CFG (R141). -/
def coveCodes (x : Nat) : Bool := decide (Cd.policy x > 1) || Cd.comp x == 3 || decide (Cd.zoneSize x > 5)

/-- The sensors of one die, or of the board group (R364). -/
def sensorGroups : List (Nat × Nat) := [(0, 16), (16, 16), (32, 16), (48, 4), (52, 12)]

/-- SENSOR_MASK masks more than half of a group. -/
def maskTooWide (x : Nat) : Bool := sensorGroups.any (fun g => decide (popCount g.2 (x / 2 ^ g.1) * 2 > g.2))

/-- The code that refuses a value of an entry for its form alone, or 0: type, reserved bits, range, ordering code (R1, R44, R45). [DEDUCED, log entry 114] -/
def formCheck (s : State) (r : Row) (sub x : Nat) : Nat :=
  if r.check x ≠ 0 then r.check x
  else if r.ty = 12 then (if (leBytes r.size x).any (fun b => decide (b.toNat > 0x7F)) then 0x07 else 0)
  else if r.idx = 0x3020 ∨ r.idx = 0x3021 then (if x &&& Cd.reservedMask ≠ 0 then 0x08 else 0)
  else if r.idx = 0x5000 ∧ sub = 1 then geometryCheck x
  else if r.idx = 0x6000 ∧ sub = 1 then (if x = 1 ∧ v s K.orderingCode = 1 then 0x09 else 0)
  else if r.idx = 0x7010 ∧ sub = 2 then (if x % 16 = 0 then 0x07 else 0)
  else if r.idx = 0x7100 ∧ sub = 0x0A then (if maskTooWide x then 0x07 else 0)
  else if r.idx = 0x9120 ∧ sub = 4 then (if bytesSet x 2 2 then 0x08 else if x / 256 % 256 > 1 then 0x07 else 0)
  else if r.idx = 0x1200 ∧ sub = 3 then (if x ≥ 2 ^ 63 then 0x07 else 0)
  else 0

/-- The code that refuses the bytes of a DOMAIN entry, or 0: NAND_TIMES (R231), READ_LEVEL_MAP (R248). -/
def domCheck (key : Nat) (b : Bytes) : Nat :=
  if key = K.nandTimes then
    if (List.range 256).any (fun i => leAt b (32 * i + 28) 1 ≥ 16 || leAt b (32 * i + 29) 3 != 0) then 0x08 else 0
  else if key = K.readLevelMap then
    if (List.range 256).any (fun i => leAt b (8 * i + 2) 1 ≥ 32 || leAt b (8 * i + 3) 5 != 0) then 0x08 else 0
  else 0

-- ===== ranges that depend on other entries (R48) =====

/-- The four cell modes, the six watermarks. -/
def cellModes : List Nat := List.range 4

/-- The entries bound by one range, and the entry `key` is one of them; empty for every other entry. -/
def boundGroup (key : Nat) : List Nat :=
  let fixed : List (List Nat) :=
    [[K.zoneOpenMax, K.zoneActiveMax], [K.fzrAge, K.zfcAge], [K.gcStartGroups, K.gcStopGroups, K.gcUrgentGroups],
     [K.supplyWarnMv, K.supplyFlushMv, K.supplyResetMv, K.supplyHystMv], [K.huTargetMv, K.huVminMv], [K.throttleC, K.critC]]
  let cells := cellModes.map (fun m => [unitKey K.refreshAge m, unitKey K.patrolLap m])
  let marks := (List.range 6).map (fun i => [unitKey K.wmThreshold i, unitKey K.wmHysteresis i])
  ((fixed ++ cells ++ marks).find? (fun g => g.contains key)).getD []

/-- The capacity that watermark `i` watches (R310). -/
def wmCapacity (s : State) (i : Nat) : Nat := if i < 5 then v s (unitKey K.poolBuffers i) else v s K.capWriteBuffer

/-- The range of a group holds of the values `get` gives. [DEDUCED, log entry 114] -/
def groupHolds (s : State) (g : List Nat) (get : Nat → Nat) : Bool :=
  let first := g.headD 0
  let x (i : Nat) : Nat := get (g.getD i 0)
  let signed (i : Nat) : Int := asSigned 2 (x i)
  if first = K.zoneOpenMax then decide (1 ≤ x 0 ∧ x 0 ≤ x 1 ∧ x 1 ≤ 16384)
  else if first = K.fzrAge then decide ((x 0 = 0 ∨ (60 ≤ x 0 ∧ x 0 ≤ x 1)) ∧ 3600 ≤ x 1 ∧ x 1 ≤ 1209600)
  else if first = K.gcStartGroups then decide (8 ≤ x 0 ∧ x 0 ≤ 1024 ∧ x 0 < x 1 ∧ x 1 ≤ 2048 ∧ 2 ≤ x 2 ∧ x 2 < x 0)
  else if first = K.supplyWarnMv then decide (x 1 + x 3 < x 0 ∧ x 2 + 500 < x 1)
  else if first = K.huTargetMv then decide (12000 ≤ x 0 ∧ x 0 ≤ 60000 ∧ 5000 ≤ x 1 ∧ x 1 + 1000 ≤ x 0)
  else if first = K.throttleC then decide (80 ≤ signed 0 ∧ signed 0 ≤ signed 1 - 5 ∧ signed 1 ≤ 124)
  else if first / 2048 / 256 = 0x3101 then decide (86400 ≤ x 0 ∧ x 0 ≤ 63072000 ∧ 3600 ≤ x 1 ∧ x 1 ≤ x 0)
  else if first / 2048 / 256 = 0x5103 then
    let cap := wmCapacity s (first / 2048 % 256 - 1)
    decide (x 0 ≤ cap ∧ 1 ≤ x 1 ∧ x 1 ≤ cap)
  else true

/-- Tides after `t` at which a pending value of one of some entries applies. -/
def laterTides (s : State) (t : Nat) (g : List Nat) : List Nat :=
  s.staged.filterMap (fun x => match x.op with
    | .entry k _ => if t < x.tide ∧ g.contains k then some x.tide else none
    | _ => none)

/-- R48: a value that applies at tide `t` is in range beside the other entries' values then, and puts no later pending value out. -/
def boundOk (s : State) (key x t : Nat) : Bool :=
  let g := boundGroup key
  g.isEmpty || (t :: laterTides s t (g.filter (· != key))).all (fun t' => groupHolds s g (fun k => if k = key then x else valueAt s k t'))

-- ===== refusals that depend on the state =====

/-- The state as it will be at tide `t` for the entries whose pending values apply by then. -/
def atTide (s : State) (t : Nat) : State :=
  s.staged.foldl (fun s x => match x.op with
    | .entry k y => if x.tide ≤ t then setV s k y else s
    | _ => s) s

/-- A namespace holds a non-zero quota in a Cove. -/
def coveInUse (s : State) (c : Nat) : Bool := s.nss.any (fun p => p.2.inCove c)

/-- Fields of COVE_CFG that stay while a namespace uses the Cove: CELL_MODE, ZONE_SIZE, ZONE_WIDTH, COMPRESSION, PRIVILEGED_RAW. -/
def coveFixed (d : Nat) : Nat × Nat × Nat × Nat × Bool := (Cd.cell d, Cd.zoneSize d, Cd.zoneWidth d, Cd.comp d, Cd.raw d)

/-- A descriptor write that R140 refuses. -/
def coveBusy (s : State) (c old new : Nat) : Bool :=
  coveInUse s c && (coveFixed old != coveFixed new || !Cd.defined new || (Cd.dies old).any (fun d => !(Cd.dies new).contains d))

/-- Two descriptors share a die. -/
def coveShares (a b : Nat) : Bool := (Cd.channels a &&& Cd.channels b) != 0 && (Cd.targets a &&& Cd.targets b) != 0

/-- A descriptor with DEFINED = 1 that R141 refuses; `s` is the state with it in force. -/
def coveRange (s : State) (c : Nat) : Bool :=
  let d := coveDesc s c
  (coves s).any (fun c' => c' != c && coveShares d (coveDesc s c'))
    || (Cd.dies d).any (fun die => !dieFound s die (Cd.cell d))
    || (Cd.dies d).isEmpty || (Cd.dies d).length % Cd.width d != 0
    || !(decide (Cd.spareWarn d > Cd.refreshReserve d) && decide (Cd.refreshReserve d > Cd.gcReserve d) && decide (Cd.gcReserve d ≥ 4))
    || decide (Cd.spareWarn d > 256)
    || (Cd.thinRatio d != 0 && !Cd.thin d)
    || ((Cd.readBound d == 0) == (Cd.policy d == 1))
    || (Cd.raw d && (!Cd.compressed d || decide (((coves s).filter (fun c' => Cd.raw (coveDesc s c'))).length > 16)))

/-- The logical limit of a thin Cove is below what namespaces have been given (R141). -/
def thinShort (s : State) (c : Nat) : Bool :=
  let d := coveDesc s c
  Cd.thin d && decide (sumNat (s.nss.map (fun p => thinLogical s p.2 c)) * 8 > (8 + Cd.thinRatio d) * physOf s d)

/-- A bounded Cove that R281 refuses: its pinned map pages, or its bound. -/
def boundRefuses (s : State) (c : Nat) : Bool := Cd.bounded (coveDesc s c) && (pinnedOver s || (depthOf s c).isNone)

/-- In pair mode a Cove lies in one half (R319). -/
def halfSplit (s : State) (d : Nat) : Bool :=
  s.pair.enabled && Cd.defined d && Cd.channels d % 2 ^ 16 != 0 && Cd.channels d / 2 ^ 16 != 0

/-- The code that refuses descriptor `x` of Cove `c`, applying at tide `t`, after its reserved bits (R140, R141, R281, R319). -/
def coveCheck (s : State) (c x t : Nat) : Nat :=
  let s' := setV (atTide s t) (coveKey c) x
  if coveBusy s c (valueStaged s (coveKey c)) x then 0x0B
  else if coveCodes x || (Cd.defined x && coveRange s' c) || thinShort s' c || boundRefuses s' c || halfSplit s x then 0x07
  else 0

/-- FLOOR_SUM with another value of one entry, staged values included. -/
def floorWith (s : State) (key x : Nat) : Nat := floorSum s - valueStaged s key + x

/-- The code that refuses a value of QUEUE_PAIRS (R96). -/
def pairsCheck (s : State) (n x : Nat) : Nat :=
  let now := queuePairsStaged s n
  if x > now + queuePoolFree s then 0x07 else if x < now ∧ x < highestQueue s n then 0x0B else 0

/-- The code that refuses a value for the state it meets, or 0; it would apply at tide `t`. -/
def stateCheck (s : State) (r : Row) (key x t : Nat) : Nat :=
  let idx := key / 2048 / 256
  let sub := key / 2048 % 256
  let n := key % 2048 - 1
  if !boundOk s key x t then 0x07
  else if key = K.portMode ∨ key = K.vfSplit then (if s.insts.any (fun p => !isPf s p.1 && p.2.state != 0) then 0x0B else 0)
  else if key = K.urgentFloor ∨ key = K.bgReserve then (if floorWith s key x > 4096 then 0x07 else 0)
  else if idx = 0x2110 ∧ sub = 2 then instanceCtrlCheck s n x t
  else if idx = 0x2110 ∧ sub = 3 then pairsCheck s n x
  else if idx = 0x2110 ∧ sub = 5 then (if (committed s).contains n ∧ floorWith s key x > 4096 then 0x07 else 0)
  else if 0x2130 ≤ idx ∧ idx ≤ 0x2133 then sliceCheck s n (entryKey idx sub 0) (sub - 1) x
  else if key = K.metaBlocksPerDie then (if (coves s).isEmpty then 0 else 0x0B)
  else if idx = 0x3110 ∧ sub = 1 then (if x < v s key ∨ x > v s K.lossSeqLast then 0x07 else 0)
  else match coveOfKey key with
    | some c => if r.idx = 0x3020 ∨ r.idx = 0x3021 then coveCheck s c x t else 0
    | none => 0

/-- The tide at which a write of an entry would apply: a staged one's boundary, else now. -/
def writeTide (s : State) (acc : Nat) : Nat := if acc = 4 ∨ acc = 6 then applyTide s else s.clk.tide

/-- The access of an entry: slice 0 of 0x2130, 0x2131 and 0x2133 is read-only (R104). -/
def accOf (r : Row) (sub : Nat) : Nat := if (r.idx = 0x2130 ∨ r.idx = 0x2131 ∨ r.idx = 0x2133) ∧ sub = 1 then 1 else r.acc

/-- An entry takes no write: RO or RC. -/
def readOnly (r : Row) (sub : Nat) : Bool := accOf r sub == 1 || accOf r sub == 7

/-- The first check that refuses a value of an entry (R44, R45, R48). [DEDUCED, log entry 10] -/
def writeCheck (s : State) (r : Row) (key x : Nat) : Nat :=
  let c := formCheck s r (key / 2048 % 256) x
  if c ≠ 0 then c else stateCheck s r key x (writeTide s r.acc)

-- ===== what an accepted write does =====

/-- Answer a request. -/
def reply (s : State) (q : MiowaReq) (key : Nat) (a : Ans) (value : Bytes) : State :=
  respond s q.path q.op q.tag q.cid q.index q.sub a (versionOf s key) value

/-- Refuse a request before its entry is known. -/
def refuse (s : State) (q : MiowaReq) (code : Nat) : State := respond s q.path q.op q.tag q.cid q.index q.sub (.code code) 0 []

/-- The request of an access to an entry that has a row of its own. -/
def reqOf (a : Access) (op idx sub : Nat) : MiowaReq :=
  { MiowaReq.none with path := a.path, op := op, tag := a.tag, index := idx, sub := sub, inst := a.inst, cid := a.cid }

/-- The access of a request to an entry that has a row of its own. -/
def accessOf (q : MiowaReq) : Access := ⟨q.path, q.tag, q.inst, q.cid⟩

/-- A staged change cannot be accepted (R36). -/
def stageFull (s : State) (q : MiowaReq) (key : Nat) : State := reply (bump32 s K.stageRefused) q key (.code 0x0A) []

/-- A pair-shared entry's record is sent to the partner, while mirroring runs (R323); the SEQ to wait for, or 0. -/
def shareWrite (s : State) (key len : Nat) : Nat × State :=
  if pairShared (key / 2048 / 256) (key / 2048 % 256) && mirroring s then
    let s := mirrorSend s 9 len 0 false
    (s.pair.seqSent, s)
  else (0, s)

/-- What follows the acceptance of a staged value: the mailbox shows it (R102), an INSTANCE_CTRL moves the instance's state (R89). -/
def stagedAccepted (s : State) (key x : Nat) : State :=
  let n := key % 2048 - 1
  if key % 2048 = 0 then s
  else
    let s := mbRefresh s n
    if key / 2048 = K.instanceCtrl / 2048 then instanceCtrlAccept s n x else s

/-- An RW write: at once, or held for a domain that is off (R52). -/
def writeNow (s : State) (q : MiowaReq) (key x : Nat) (b : Bytes) : State :=
  if entryOff s key then
    reply { s with miowa := { s.miowa with heldWrites := s.miowa.heldWrites.put key b } } q key ⟨0, rsFlags false true false false, some heldTide⟩ []
  else reply (entryApplied (setV s key x) key) q key (.code 0) []

/-- An RWS write (R34, R46). -/
def writeStaged (s : State) (q : MiowaReq) (key x : Nat) : State :=
  let t := applyTide s
  if !canStage s t then stageFull s q key
  else reply (stagedAccepted (stageAt s t (.entry key x)) key x) q key ⟨0, 0, some t⟩ []

/-- An RWP write (R49): it takes effect, and is answered, once its journal record is programmed. -/
def writePersisted (s : State) (q : MiowaReq) (key : Nat) (b : Bytes) : State :=
  let (ack, s) := shareWrite s key b.length
  let recs := [jrec key 1 b 0]
  if entryOff s key then
    journalAsk { s with miowa := { s.miowa with heldWrites := s.miowa.heldWrites.put key b } } ⟨q, true, recs, 1, [], ack, .rwsp heldTide⟩
  else journalAsk s ⟨q, true, recs, 1, [], ack, .rwp⟩

/-- An RWSP write (R46, R50): staged when it is accepted, answered once its record is programmed. -/
def writeStagedPersisted (s : State) (q : MiowaReq) (key x : Nat) (b : Bytes) : State :=
  let t := applyTide s
  if !canStage s t then stageFull s q key
  else
    let old := v s key
    let s := stagedAccepted (stageAt s t (.entry key x)) key x
    let (ack, s) := shareWrite s key b.length
    journalAsk s ⟨q, true, [jrec key 2 b t], 1, [(key, old)], ack, .rwsp t⟩

/-- A value that has passed every check is written by its entry's access. -/
def commitWrite (s : State) (q : MiowaReq) (acc key x : Nat) (b : Bytes) : State :=
  if acc = 4 then writeStaged s q key x
  else if acc = 5 then writePersisted s q key b
  else if acc = 6 then writeStagedPersisted s q key x b
  else writeNow s q key x b

/-- A write of an entry that is not a DOMAIN: the first failing check refuses it, and a refused write changes nothing (R45). -/
def writeEntry (s : State) (q : MiowaReq) (r : Row) (key x : Nat) : State :=
  let c := writeCheck s r key x
  if c ≠ 0 then reply s q key (.code c) [] else commitWrite s q r.acc key x (leBytes r.size x)

/-- A write of an entry that has a row of its own and is written as any other. -/
def writeAccess (s : State) (a : Access) (idx sub x : Nat) : State :=
  let q := reqOf a 2 idx sub
  match lookup s a.path idx sub a.inst with
  | .error e => refuse s q e
  | .ok (r, key) => if readOnly r sub then reply s q key (.code 0x05) [] else writeEntry s q r key x

def execInstanceCommit (a : Access) (s : State) : Host.Outcome State Fault Refusal := .next (writeAccess s a 0x2110 2 1)
def execInstanceReclaim (a : Access) (s : State) : Host.Outcome State Fault Refusal := .next (writeAccess s a 0x2110 2 2)

/-- COVE_DESC_WRITE (R140). -/
def execCoveDescWrite (a : Access) (cove value : Nat) (s : State) : Host.Outcome State Fault Refusal :=
  .next (writeAccess s a (coveKey cove / 2048 / 256) (coveKey cove / 2048 % 256) value)

/-- LOSS_ACK (R190). -/
def execLossAck (a : Access) (x : Nat) (s : State) : Host.Outcome State Fault Refusal := .next (writeAccess s a 0x3110 1 x)

-- ===== entries whose write has an effect of its own =====

/-- COMPACT_CLEAR (R403). -/
def execCompactClear (a : Access) (x : Nat) (s : State) : Host.Outcome State Fault Refusal :=
  .next (accessWrite s a 0x9000 5 x (fun s _ => (.code 0, clearCompact s)))

/-- TRACE_CLEAR (R411). -/
def execTraceClear (a : Access) (x : Nat) (s : State) : Host.Outcome State Fault Refusal :=
  .next (accessWrite s a 0x9100 3 x (fun s _ => (.code 0, clearTrace s)))

/-- HIST_CLEAR (R413): a tenant clears its own instance's histograms. -/
def execHistClear (a : Access) (x : Nat) (s : State) : Host.Outcome State Fault Refusal :=
  .next (accessWrite s a 0x9110 3 x (fun s n => (.code 0, clearHist s n x)))

/-- HIST_COVE_CLEAR (R413). -/
def execHistCoveClear (a : Access) (x : Nat) (s : State) : Host.Outcome State Fault Refusal :=
  .next (accessWrite s a 0x9113 1 x (fun s _ => (.code 0, clearHistCoves s x)))

/-- The code that refuses a HEAT_QUERY value, or 0. -/
def heatCheck (x : Nat) : Nat := if bytesSet x 2 2 then 0x08 else if x / 256 % 256 > 1 then 0x07 else 0

/-- HEAT_QUERY (R415). -/
def execHeatQuery (a : Access) (x : Nat) (s : State) : Host.Outcome State Fault Refusal :=
  .next (accessWrite s a 0x9120 4 x (fun s _ => if heatCheck x ≠ 0 then (.code (heatCheck x), s) else (.code 0, heatQuery s x)))

/-- CALENDAR_TIME (R66): a step while no calendar time is set or for a difference above 1 s, else a slew. -/
def setCalendar (s : State) (x : Nat) : State :=
  let d : Int := (x * 1000 : Int) - s.clk.calNs
  if !s.clk.calSet || decide (d > 1000000000) || decide (d < -1000000000) then
    { s with clk := { s.clk with calSet := true, calNs := x * 1000, slewNs := 0 } }
  else { s with clk := { s.clk with slewNs := d } }

def execCalendarTime (a : Access) (x : Nat) (s : State) : Host.Outcome State Fault Refusal :=
  .next (accessWrite s a 0x1200 3 x (fun s _ => if x ≥ 2 ^ 63 then (.code 0x07, s) else (.code 0, setCalendar s x)))

/-- WM_RECORD_RC (R310): the record, as bytes. -/
def wmRecordTake (s : State) (w : Nat) : Bytes × State :=
  let (x, s) := wmRecordRead s w
  (leBytes ((rowOf 0x5104 (7 + w)).elim 0 Row.size) x, s)

def execWmRecordRc (a : Access) (w : Nat) (s : State) : Host.Outcome State Fault Refusal :=
  .next (accessRead s a 0x5104 (7 + w) (fun s _ => wmRecordTake s w))

end Sys2Proof.Machine
end

