-- ==== Sys2Proof/Machine/Images.lean ====
section
/-! DEFINITION. Machine/Images.lean: configuration images and overlays (R62 to R64), and the entries of 0x1100 that act on them. -/
namespace Sys2Proof.Machine
open Sys2Proof

-- ===== the form of an image (R64) =====

/-- One record of an image: index, subindex, value, and whether a reserved or padding byte is not zero. -/
structure ImgRec where
  idx : Nat
  sub : Nat
  value : Bytes
  dirty : Bool
deriving DecidableEq, Repr

/-- A length rounded up to a multiple of four. -/
def pad4 (n : Nat) : Nat := (n + 3) / 4 * 4

/-- The records of an image body; none when the last one is cut short. -/
def imgRecs : Nat → Bytes → Option (List ImgRec)
  | 0, b => if b.isEmpty then some [] else none
  | n + 1, b =>
    if b.isEmpty then some []
    else
      let len := leAt b 4 2
      if b.length < 8 + pad4 len then none
      else
        let r : ImgRec :=
          { idx := leAt b 0 2, sub := leAt b 2 1, value := (b.drop 8).take len
            dirty := leAt b 3 1 != 0 || leAt b 6 2 != 0 || leAt b (8 + len) (pad4 len - len) != 0 }
        (imgRecs n (b.drop (8 + pad4 len))).map (r :: ·)

/-- BODY_LENGTH and SIG_LENGTH of an image, and its kind. -/
def imgBodyLen (b : Bytes) : Nat := leAt b 20 4
def imgSigLen (b : Bytes) : Nat := leAt b (64 + imgBodyLen b + 4) 4
def imgKind (b : Bytes) : Nat := leAt b 6 1

/-- The lengths of an image fit its bytes, and its signature block is well formed. -/
def imgShape (b : Bytes) : Bool :=
  let sig := 64 + imgBodyLen b
  decide (b.length ≥ sig + 8) && b.length == sig + 8 + imgSigLen b && leAt b (sig + 1) 3 == 0
    && ((leAt b sig 1 == 1 && imgSigLen b == 2420) || (leAt b sig 1 == 2 && imgSigLen b == 3309))

/-- The signature verifies under an accepted CONFIG key, the one SIGNER_KEY_HASH names (R64, R393). -/
def cfgSigned (s : State) (b : Bytes) : Bool :=
  let sig := 64 + imgBodyLen b
  let alg := leAt b sig 1
  let hash := leAt b 32 32
  s.boot.signers.any (fun x => x.role == 2 && x.alg == alg && x.hash == hash) && Config.sigVerify alg hash (b.take sig) (b.drop (sig + 8))

/-- The header of an image of this package: magic, version, kind, overlay number, target. -/
def imgHeader (s : State) (b : Bytes) : Bool :=
  leAt b 0 4 == 0x4D49574D && leAt b 4 2 == 1 && leAt b 13 1 == 0 && targetOk s (leAt b 12 1) (leAt b 14 2)
    && ((imgKind b == 1 && leAt b 7 1 == 0) || (imgKind b == 2 && decide (1 ≤ leAt b 7 1 ∧ leAt b 7 1 ≤ 8)))

/-- An image of a kind may hold an entry of an access (R63). -/
def imgAccess (kind acc : Nat) : Bool := if kind = 1 then acc == 2 || acc == 4 || acc == 5 || acc == 6 else acc == 4 || acc == 6

/-- The code that refuses a record after the record at key `prev`, or 0 (R44, R45, R63, R64). -/
def recCheck (s : State) (kind : Nat) (prev : Option Nat) (r : ImgRec) : Nat :=
  let key := entryKey r.idx r.sub 0
  match rowOf r.idx r.sub with
  | none => 0x01
  | some w =>
    if prev.any (fun p => decide (key ≤ p)) || !imgAccess kind (accOf w r.sub) then 0x12
    else if r.dirty then 0x08
    else if r.value.length ≠ sizeOfKey key then 0x06
    else if w.ty = 14 then domCheck key r.value
    else if formCheck s w r.sub (leNat r.value) ≠ 0 then formCheck s w r.sub (leNat r.value)
    else if (w.idx = 0x3020 ∨ w.idx = 0x3021) ∧ coveCodes (leNat r.value) then 0x07
    else 0

/-- Code and position of the first record that is refused. [DEDUCED, log entry 111] -/
def recsCheck (s : State) (kind : Nat) : Nat → Option Nat → List ImgRec → Option (Nat × Nat)
  | _, _, [] => none
  | i, prev, r :: l =>
    if recCheck s kind prev r ≠ 0 then some (recCheck s kind prev r, i)
    else recsCheck s kind (i + 1) (some (entryKey r.idx r.sub 0)) l

/-- A refused image: IMAGE_REJECT_RECORD holds its code and the position of the first failing record. [DEDUCED, log entry 110] -/
def imgRefuse (s : State) (code status pos : Nat) : Nat × State := (code, setV s K.imageRejectRecord (status * 2 ^ 16 + pos % 2 ^ 16))

/-- The records of an image, as entries and values. [DEDUCED, log entry 109] -/
def imgValues (l : List ImgRec) : List (Nat × Nat) := l.map (fun r => (entryKey r.idx r.sub 0, leNat r.value))

/-- IMAGE_LOAD: the checks of R64, then a base image that takes effect at the next power-on and clears the journal (R63), or an overlay. [DEDUCED, log entry 110] -/
def imageLoadOp (s : State) (b : Bytes) : Nat × State :=
  if !imgShape b then imgRefuse s 0x12 0x12 0
  else if !cfgSigned s b then imgRefuse s 0x11 0x11 0
  else
    match (if imgHeader s b then imgRecs (imgBodyLen b + 1) ((b.drop 64).take (imgBodyLen b)) else none) with
    | none => imgRefuse s 0x12 0x12 0
    | some l =>
      if l.length ≠ leAt b 16 4 then imgRefuse s 0x12 0x12 0
      else match recsCheck s (imgKind b) 0 none l with
        | some (code, i) => imgRefuse s 0x12 code i
        | none =>
          if imgKind b = 1 then
            (0, { s with store := { s.store with baseImage := b, baseId := leAt b 8 4, journal := []
                                                 base := (imgValues l).foldl (fun m e => m.put e.1 e.2) [] } })
          else (0, { s with store := { s.store with overlays := s.store.overlays.put (leAt b 7 1) ⟨leAt b 8 4, b, imgValues l⟩ } })

def execImageLoad (a : Access) (image : Bytes) (s : State) : Host.Outcome State Fault Refusal :=
  .next (accessBytes s a 0x1100 4 0 image (fun s _ => coded (imageLoadOp s image)))

/-- CONFIG_REVERT: the journal is cleared; values take effect at the next power-on. -/
def execConfigRevert (a : Access) (x : Nat) (s : State) : Host.Outcome State Fault Refusal :=
  .next (accessWrite s a 0x1100 6 x (fun s _ => (.code 0, { s with store := { s.store with journal := [] } })))

/-- OVERLAY_DELETE: the overlay in force cannot be deleted. -/
def execOverlayDelete (a : Access) (x : Nat) (s : State) : Host.Outcome State Fault Refusal :=
  .next (accessWrite s a 0x1100 9 x (fun s _ =>
    if x = v s K.overlaySelect then (.code 0x0B, s)
    else (.code 0, { s with store := { s.store with overlays := s.store.overlays.del x } })))

-- ===== selecting an overlay (R62) =====

/-- The writes of one record of an overlay: the values of the package, or of every committed instance. [DEDUCED, log entry 109] -/
def recWrites (e : Nat × Nat) : List (Nat × Nat) := (imageKeys e.1).map (fun k => (k, e.2))

/-- A write of an overlay meets the checks of the state: those of an entry that exists once per instance, for committed instances. [DEDUCED, log entry 111] -/
def batchCheck (s : State) (k x t : Nat) : Nat :=
  if k % 2048 ≠ 0 ∧ !(committed s).contains (k % 2048 - 1) then 0
  else (rowOf (k / 2048 / 256) (k / 2048 % 256)).elim 0x01 (fun r => stateCheck s r k x t)

/-- The batch is staged entry by entry on a trial state, each against the values the earlier ones leave; the first code that refuses
one, or the state with all of them staged. Ranges that depend on another entry of the batch are checked once all are staged. [DEDUCED, log entry 111] -/
def stageBatch (t : Nat) : State → List (Nat × Nat) → Except Nat State
  | s, [] => .ok s
  | s, (k, x) :: l =>
    if boundGroup k = [] ∧ batchCheck s k x t ≠ 0 then .error (batchCheck s k x t)
    else stageBatch t (stageAt s t (.entry k x)) l

/-- OVERLAY_SELECT: the overlay's records and the new selection are staged as one batch for one tide; each record takes a journal record,
and the response waits for the last. A selection of none, or of an overlay that is not stored, stages itself alone. [DEDUCED, log entry 110] -/
def overlaySelectOp (s : State) (q : MiowaReq) (key x : Nat) : State :=
  let t := applyTide s
  let recs := (s.store.overlays.get? x).elim [] Overlay.recs
  let writes := recs.flatMap recWrites ++ [(key, x)]
  if !canStage s t then stageFull s q key
  else match stageBatch t s writes with
    | .error e => reply s q key (.code e) []
    | .ok s' =>
      if writes.any (fun w => !boundOk s' w.1 w.2 t) then reply s q key (.code 0x07) []
      else
        let s' := (writes.map (fun w => w.1 % 2048)).eraseDups.foldl (fun s i => if i = 0 then s else mbRefresh s (i - 1)) s'
        let jrecs := (recs ++ [(key, x)]).map (fun e => jrec e.1 2 (leBytes (sizeOfKey e.1) e.2) t)
        let (ack, s') := jrecs.foldl (fun a r =>
          let (q', s2) := shareWrite a.2 r.key r.len
          (Nat.max a.1 q', s2)) (0, s')
        journalAsk s' ⟨q, true, jrecs, jrecs.length, writes.map (fun w => (w.1, v s w.1)), ack, .rwsp t⟩

/-- A write of OVERLAY_SELECT. -/
def overlaySelectWrite (s : State) (q : MiowaReq) (x : Nat) : State :=
  match lookup s q.path q.index q.sub q.inst with
  | .error e => refuse s q e
  | .ok (r, key) => if r.check x ≠ 0 then reply s q key (.code (r.check x)) [] else overlaySelectOp s q key x

def execOverlaySelect (a : Access) (x : Nat) (s : State) : Host.Outcome State Fault Refusal :=
  .next (overlaySelectWrite s (reqOf a 2 0x1100 2) x)

end Sys2Proof.Machine
end

