-- ==== Sys2Proof/Machine/Dictionary.lean ====
section
/-! DEFINITION. Machine/Dictionary.lean: the dictionary engine (R42 to R60, R418, R432): the checks every Miowa request passes, GET,
SET, DESCRIBE and the segmented transfers of DOMAIN entries, out of band and in band. -/
namespace Sys2Proof.Machine
open Sys2Proof

-- ===== the checks of a request (R42 to R44, R53, R54, R432) =====

/-- The code that refuses the header of a request, or 0. [DEDUCED, log entry 10] -/
def headCheck (q : MiowaReq) : Nat :=
  if q.ver ≠ 1 then 0x03
  else if q.op < 1 ∨ q.op > 6 ∨ (!outOfBand q.path ∧ q.op = 4) then 0x02
  else if q.resv7 ≠ 0 ∨ q.resv10 ≠ 0 ∨ q.flags / 8 ≠ 0 ∨ (bitAt q.flags 0 ∧ q.op ≠ 1) ∨ ((bitAt q.flags 1 ∨ bitAt q.flags 2) ∧ q.op ≠ 5)
      ∨ (q.off ≠ 0 ∧ q.op ≠ 4 ∧ q.op ≠ 5) then 0x08
  else 0

/-- The opcode applies to the entry's type (R432). -/
def opFits (r : Row) (op : Nat) : Bool := if op = 1 ∨ op = 2 then r.ty != 14 else if op = 3 then true else r.ty == 14

/-- FW_RECOVERY_IMAGE exists only in recovery (R387). -/
def notNow (s : State) (q : MiowaReq) : Bool := !s.boot.recovery && q.index == 0x8010 && q.sub == 0x0A

/-- The state after a command's own meaning. -/
def after (s : State) (o : Host.Outcome State Fault Refusal) : State :=
  match o with
  | .next t => t
  | _ => s

-- ===== GET and DESCRIBE (R47, R51, R52, R418) =====

/-- The pending value of an entry with the latest tide, and that tide. [DESIGN CHOICE, log entry 107] -/
def pendingLast (s : State) (key : Nat) : Option (Nat × Nat) :=
  s.staged.foldl (fun acc x => match x.op with
    | .entry k y => if k = key ∧ acc.all (fun a => a.1 ≤ x.tide) then some (x.tide, y) else acc
    | _ => acc) none

/-- GET: the value in force, or with WANT_PENDING the pending one; an RC entry is cleared in the same step; a WO entry reads zeros. [DESIGN CHOICE, log entry 107] -/
def getEntry (s : State) (q : MiowaReq) (r : Row) (key : Nat) : State :=
  if r.idx = 0x5104 ∧ 7 ≤ q.sub then
    let (b, s) := wmRecordTake s (q.sub - 7)
    reply s q key (.code 0) b
  else if r.idx = 0x8120 ∧ q.sub = 1 then
    let (b, s) := freshChallenge s
    reply s q key (.code 0) b
  else
    let p := pendingLast s key
    let flags := rsFlags p.isSome (entryOff s key) false false
    let now := if r.acc = 3 then 0 else valueNow s key
    let s' := if r.acc = 7 then setV s key 0 else s
    match bitAt q.flags 0, p with
    | true, some (t, x) => reply s q key ⟨0, flags, some t⟩ (leBytes r.size x)
    | _, _ => reply s' q key ⟨0, flags, none⟩ (leBytes r.size now)

/-- Minimum and maximum of an entry, of a watermark its pool's capacity (R310, R418). -/
def boundsOf (s : State) (r : Row) (sub : Nat) : Nat × Nat :=
  if r.idx = 0x5103 then ((r.bounds).1, wmCapacity s ((sub - 1) % 6)) else r.bounds

/-- DESCRIBE: codes, size, bounds (R418). -/
def describeEntry (s : State) (q : MiowaReq) (r : Row) (key : Nat) : State :=
  let size := if r.ty = 14 then (domainBytes s key).length else r.size
  let b := boundsOf s r q.sub
  reply s q key (.code 0)
    (leBytes 1 r.ty ++ leBytes 1 (accOf r q.sub) ++ leBytes 1 r.priv ++ leBytes 1 r.cls ++ leBytes 4 size ++ leBytes 4 b.1 ++ leBytes 4 b.2)

-- ===== SET (R44, R45, R49, R50) =====

/-- The write of an entry that has a row of its own; none for every other entry. -/
def ownWrite (s : State) (q : MiowaReq) (x : Nat) : Option State :=
  let a := accessOf q
  let run (o : Host.Outcome State Fault Refusal) : Option State := some (after s o)
  match q.index, q.sub with
  | 0x1100, 2 => some (overlaySelectWrite s q x)
  | 0x1100, 6 => run (execConfigRevert a x s)
  | 0x1100, 9 => run (execOverlayDelete a x s)
  | 0x1200, 3 => run (execCalendarTime a x s)
  | 0x2120, 1 => run (execKeySession a x s)
  | 0x2120, 3 => run (execKeyDeliver a q.value s)
  | 0x6001, 8 => if x = 1 then run (execRejoin a s) else if x = 2 then run (execSurrender a s) else none
  | 0x7001, 0x0A => run (execHuTestNow a x s)
  | 0x7010, 9 => if x = 0 then run (execPowerRequestWake a s) else run (execPowerRequestSleep a x s)
  | 0x7200, 3 => if x = 1 then run (execManagementReset a s) else none
  | 0x8001, 5 => run (execCfUnlockRegion a x s)
  | 0x8001, 6 => run (execCfLockRegion a x s)
  | 0x8001, 7 => run (execCfPasswordChange a x s)
  | 0x8001, w => run (execCfPasswordW a (w - 1) x s)
  | 0x8010, 9 => run (execFwRollbackCommit a x s)
  | 0x8100, 2 => run (execAttestChallenge a x s)
  | 0x8120, 3 => run (execServiceLock a x s)
  | 0x9000, 5 => run (execCompactClear a x s)
  | 0x9100, 3 => run (execTraceClear a x s)
  | 0x9110, 3 => run (execHistClear a x s)
  | 0x9113, 1 => run (execHistCoveClear a x s)
  | 0x9120, 4 => run (execHeatQuery a x s)
  | _, _ => none

/-- A write of RESET_REQUEST with 0x02: the response is sent, then the NVM subsystem reset begins (R371). -/
def resetRequest (s : State) (q : MiowaReq) (key : Nat) : State := settle (nvmSubsystemReset (reply s q key (.code 0) []))

/-- SET. [DEDUCED, log entry 10] -/
def setEntry (s : State) (q : MiowaReq) (r : Row) (key : Nat) : State :=
  let x := leNat q.value
  if readOnly r q.sub then reply s q key (.code 0x05) []
  else if q.value.length ≠ r.size then reply s q key (.code 0x06) []
  else if formCheck s r q.sub x ≠ 0 then reply s q key (.code (formCheck s r q.sub x)) []
  else match ownWrite s q x with
    | some t => t
    | none => if key = K.resetRequest then resetRequest s q key else writeEntry s q r key x

-- ===== reading DOMAIN entries (R56, R57, R413) =====

/-- The key under which a path keeps what it has read of an entry. -/
def pathKey (p : Path) (key : Nat) : Nat := pathCode p * 2 ^ 64 + key

/-- A histogram: a read at offset 0 takes a copy (R413). -/
def isHist (key : Nat) : Bool := let idx := key / 2048 / 256; idx == 0x9110 || idx == 0x9111 || idx == 0x9112

/-- A read of `len` bytes at `off`: the bytes, and whether they reach the end; or the code that refuses it. The drain port of the trace
FIFO pops one entry for every 32 bytes asked (R408, R410). [DESIGN CHOICE, log entry 107] -/
def domainRead (s : State) (p : Path) (key off len : Nat) : Except Nat (Bytes × Bool) × State :=
  let s := refreshVersion s key
  let pk := pathKey p key
  let version := versionOf s key
  if key = K.traceDrain then
    let (ws, s) := popEntries (len / 32) s
    (.ok (wordBytes ws, true), s)
  else if key = K.attestReport ∧ s.boot.building then (.error 0x0B, s)
  else if off ≠ 0 ∧ (s.miowa.vers.get? pk).any (fun x => x != version) then (.error 0x0E, s)
  else
    let s := if off = 0 then { s with miowa := { s.miowa with vers := s.miowa.vers.put pk version } } else s
    let s := if off = 0 && isHist key then { s with miowa := { s.miowa with copies := s.miowa.copies.put pk (domainBytes s key) } } else s
    let b := if isHist key then (s.miowa.copies.get? pk).getD (domainBytes s key) else domainBytes s key
    (.ok ((b.drop off).take len, decide (off + len ≥ b.length)), s)

/-- SEG_READ: the value is the requested length; the segment is capped at the carrier's maximum (R57). -/
def segReadEntry (s : State) (q : MiowaReq) (key : Nat) : State :=
  if q.value.length ≠ 4 then reply s q key (.code 0x06) []
  else match domainRead s q.path key q.off (Nat.min (leNat q.value) (segMost q.path)) with
    | (.error e, s) => reply s q key (.code e) []
    | (.ok (b, last), s) => reply s q key ⟨0, rsFlags false (entryOff s key) false last, none⟩ b

/-- GET_LOG_PAGE_C1 (R56): the issuing function is the path; bytes past the end read as zeros. [DEDUCED, log entry 116] -/
def logPageC1 (s : State) (c : Cmd) (lsi offUpper offLower len : Nat) : State :=
  let sub := offUpper % 256
  if c.resv ∨ offUpper / 256 ≠ 0 then complete s c .invalidField 0
  else match lookup s (.fn c.fn) lsi sub 0 with
    | .error e => complete s c (mpNvme e) 0
    | .ok (r, key) =>
      if r.ty ≠ 14 then complete s c .invalidField 0
      else match domainRead s (.fn c.fn) key offLower len with
        | (.error e, s) => complete s c (mpNvme e) 0
        | (.ok (b, _), s) => complete (dmaOut s c.fn (segment b 0 len)) c .success 0

def execGetLogPageC1 (c : Cmd) (lsi offUpper offLower len : Nat) (s : State) : Host.Outcome State Fault Refusal :=
  .next (logPageC1 s c lsi offUpper offLower len)

-- ===== writing DOMAIN entries (R58 to R60) =====

/-- The fixed length of a DOMAIN entry whose range states one; 0 for every other. -/
def fixedTotal (key : Nat) : Nat := if key = K.nandTimes then 8192 else if key = K.readLevelMap then 2048 else 0

/-- The transfer on an entry takes another state, or ends. -/
def xferPut (s : State) (key : Nat) (x : Option Xfer) : State :=
  { s with miowa := { s.miowa with xfers := match x with
      | some x => s.miowa.xfers.put key x
      | none => s.miowa.xfers.del key } }

/-- A transfer has ended and its check has passed: the entry's own checks run, and its value is replaced. -/
def finishTransfer (s : State) (q : MiowaReq) (r : Row) (key : Nat) (b : Bytes) : State :=
  let a := accessOf q
  if key = K.imageLoad then after s (execImageLoad a b s)
  else if key = K.fwRecoveryImage then after s (execFwRecoveryImage a b s)
  else if key = K.signerKeyAdd then after s (execSignerKeyAdd a b s)
  else if key = K.signerKeyRemove then after s (execSignerKeyRemove a b s)
  else if key = K.serviceUnlock then after s (execServiceUnlock a b s)
  else if domCheck key b ≠ 0 then reply s q key (.code (domCheck key b)) []
  else commitWrite s q r.acc key 0 b

/-- A segment of transfer `x`. A segment refused for its length changes nothing. [DEDUCED, log entry 115] -/
def takeSegment (s : State) (q : MiowaReq) (r : Row) (key : Nat) (x : Xfer) : State :=
  let last := bitAt q.flags 2
  let body := if last then q.value.take (q.value.length - 4) else q.value
  let got := x.got ++ body
  if last ∧ q.value.length < 4 then reply s q key (.code 0x0D) []
  else if got.length > x.total then reply s q key (.code 0x07) []
  else if !last then reply (xferPut s key (some { x with got := got })) q key (.code 0) []
  else if got.length < x.total then reply s q key (.code 0x0D) []
  else if leNat (q.value.drop (q.value.length - 4)) ≠ crc32c got then reply (xferPut s key none) q key (.code 0x0F) []
  else finishTransfer (xferPut s key none) q r key got

/-- SEG_WRITE with FIRST: OFFSET_OR_TOTAL is the total. [DEDUCED, log entry 115] -/
def segWriteFirst (s : State) (q : MiowaReq) (r : Row) (key : Nat) : State :=
  if (s.miowa.xfers.get? key).any (fun x => x.path != q.path && !x.expired) then reply s q key (.code 0x0B) []
  else if fixedTotal key ≠ 0 ∧ q.off ≠ fixedTotal key then reply s q key (.code 0x06) []
  else if q.off = 0 then reply s q key (.code 0x07) []
  else takeSegment s q r key ⟨q.path, q.off, [], false⟩

/-- SEG_WRITE (R58, R59). -/
def segWriteEntry (s : State) (q : MiowaReq) (r : Row) (key : Nat) : State :=
  if readOnly r q.sub then reply s q key (.code 0x05) []
  else if bitAt q.flags 1 then segWriteFirst s q r key
  else match s.miowa.xfers.get? key with
    | none => reply s q key (.code 0x0D) []
    | some x =>
      if x.path ≠ q.path then reply s q key (.code (if x.expired then 0x0D else 0x0B)) []
      else if x.expired then reply (xferPut s key none) q key (.code 0x0C) []
      else if q.off ≠ x.got.length then reply s q key (.code 0x0D) []
      else takeSegment s q r key x

/-- SEG_ABORT (R59). [DEDUCED, log entry 115] -/
def segAbortEntry (s : State) (q : MiowaReq) (key : Nat) : State :=
  match s.miowa.xfers.get? key with
  | none => reply s q key (.code 0x0D) []
  | some x =>
    if x.expired then reply s q key (.code 0x0D) []
    else if x.path ≠ q.path then reply s q key (.code 0x0B) []
    else reply (xferPut s key none) q key (.code 0) []

/-- 2 s without a segment: the transfer is abandoned; its next segment is told so (R59). -/
def execSegWriteTimeout (index sub inst : Nat) (s : State) : Host.Outcome State Fault Refusal :=
  .next { s with miowa := { s.miowa with xfers := s.miowa.xfers.upd (entryKey index sub inst) (fun x => { x with expired := true }) } }

-- ===== the engine =====

/-- A request on an entry that exists, by its opcode. [DEDUCED, log entry 10] -/
def serveEntry (s : State) (q : MiowaReq) (r : Row) (key : Nat) : State :=
  if q.op = 1 then getEntry s q r key
  else if q.op = 2 then setEntry s q r key
  else if q.op = 3 then describeEntry s q r key
  else if q.op = 4 then segReadEntry s q key
  else if q.op = 5 then segWriteEntry s q r key
  else segAbortEntry s q key

/-- The checks before the entry: a message whose CRC-32C fails is dropped without a response (R53); in band a save or select value
other than 0 completes with Invalid Field (R54). -/
def serve (s : State) (q : MiowaReq) : State :=
  if outOfBand q.path && q.check != crc32c (MiowaReq.bytes q) then bump32 s K.mpCheckDrops
  else if !outOfBand q.path && q.saveSel != 0 then
    match q.path with
    | .fn n => complete s ⟨n, 0, q.cid, 0, false⟩ .invalidField 0
    | _ => s
  else if headCheck q ≠ 0 then refuse s q (headCheck q)
  else if notNow s q then refuse s q 0x01
  else match lookup s q.path q.index q.sub q.inst with
    | .error e => refuse s q e
    | .ok (r, key) => if !opFits r q.op then reply s q key (.code 0x02) [] else serveEntry s q r key

/-- A request of one opcode; a request whose opcode is none of the six keeps it, and is refused for it. [DEDUCED, log entry 130] -/
def asOp (k : Nat) (q : MiowaReq) : MiowaReq := if 1 ≤ q.op ∧ q.op ≤ 6 then { q with op := k } else q

def execGet (q : MiowaReq) (s : State) : Host.Outcome State Fault Refusal := .next (serve s (asOp 1 q))
def execSet (q : MiowaReq) (s : State) : Host.Outcome State Fault Refusal := .next (serve s (asOp 2 q))
def execDescribe (q : MiowaReq) (s : State) : Host.Outcome State Fault Refusal := .next (serve s (asOp 3 q))
def execSegRead (q : MiowaReq) (s : State) : Host.Outcome State Fault Refusal := .next (serve s (asOp 4 q))
def execSegWrite (q : MiowaReq) (s : State) : Host.Outcome State Fault Refusal := .next (serve s (asOp 5 q))
def execSegAbort (q : MiowaReq) (s : State) : Host.Outcome State Fault Refusal := .next (serve s (asOp 6 q))

/-- TRACE_DRAIN: a SEG_READ of 0x9101.04. -/
def execTraceDrain (q : MiowaReq) (s : State) : Host.Outcome State Fault Refusal :=
  .next (serve s (asOp 4 { q with index := 0x9101, sub := 4 }))

end Sys2Proof.Machine
end

