-- ==== Sys2Proof/Machine/Identify.lean ====
section
/-! DEFINITION. Machine/Identify.lean: Identify and the standard log pages (R121, R146, R163, R189, R337, R338, R348, R368). The manual
gives which fields the SB2300 reports and their values; their places are those of the NVMe specifications (log entry 61). A byte the
manual gives no value is a free value, drawn anew at each read. -/
namespace Sys2Proof.Machine
open Sys2Proof

-- ===== data structures with open bytes =====

/-- Lay bytes over a structure at an offset. -/
def patch (b : Bytes) (p : Nat × Bytes) : Bytes := b.take p.1 ++ p.2 ++ b.drop (p.1 + p.2.length)

/-- `len` bytes of which only the listed ones are known. -/
def openBytes (s : State) (len : Nat) : Bytes := (List.range len).map (Config.openByte s.freeCtr)

/-- A structure of `len` bytes: the fields listed (offset and bytes), every other byte free. -/
def openData (s : State) (len : Nat) (fields : List (Nat × Bytes)) : Bytes × State :=
  (fields.foldl patch (openBytes s len), { s with freeCtr := s.freeCtr + 1 })

/-- A field of `n` bytes at an offset. -/
def field (off n x : Nat) : Nat × Bytes := (off, leBytes n x)

/-- Exactly `n` bytes: a list of identifiers, zeros behind. -/
def idList (size n : Nat) (l : List Nat) : Bytes := fit n (l.flatMap (leBytes size))

/-- Return data and complete with success. -/
def returnData (s : State) (c : Cmd) (b : Bytes) : State := complete (dmaOut s c.fn b) c .success 0

-- ===== Identify Controller =====

/-- A lower-case hexadecimal digit in ASCII. -/
def hexDigit (x : Nat) : Byte := BitVec.ofNat 8 (if x < 10 then 0x30 + x else 0x57 + x)

/-- The Subsystem NQN of a pair (R338): "nqn.2023-05.com.ubhamos:sb2300:", the 16 hexadecimal digits of PAIR_ID, and zeros. -/
def pairNqn (id : Nat) : Bytes :=
  let text : List Nat := [0x6E, 0x71, 0x6E, 0x2E, 0x32, 0x30, 0x32, 0x33, 0x2D, 0x30, 0x35, 0x2E, 0x63, 0x6F, 0x6D, 0x2E, 0x75, 0x62, 0x68, 0x61, 0x6D,
    0x6F, 0x73, 0x3A, 0x73, 0x62, 0x32, 0x33, 0x30, 0x30, 0x3A]
  fit 256 (text.map (BitVec.ofNat 8) ++ (List.range 16).map (fun i => hexDigit (id / 16 ^ (15 - i) % 16)))

/-- t_flush at the AT_RISK_LIMIT of the last power-on, plus 2 ms, in whole milliseconds rounded up; in µs (R348). [DEDUCED, log entry 119] -/
def entryLatency (s : State) : Nat :=
  let limit := s.power.firstLimit.getD (v s K.atRiskLimit)
  let us := drainUs s + (if flushRate s = 0 then 0 else ceilDiv (limit * 1000000) (flushRate s)) + 2000 + 2000
  ceilDiv us 1000 * 1000

/-- A power state descriptor: maximum power in 0.01 W, non-operational, ENLAT and EXLAT in µs (R346). -/
def psFields (n mw : Nat) (nop : Bool) (enlat exlat : Nat) : List (Nat × Bytes) :=
  let at_ := 2048 + 32 * n
  [field at_ 2 (mw / 10), field (at_ + 3) 1 (if nop then 2 else 0), field (at_ + 4) 4 enlat, field (at_ + 8) 4 exlat]

/-- The five power states (R346). [PRESUMED, log entry 61] -/
def psTable (s : State) : List (Nat × Bytes) :=
  psFields 0 72000 false 0 0 ++ psFields 1 55000 false 10 10 ++ psFields 2 40000 false 10 10
    ++ psFields 3 3500 true (entryLatency s) 200 ++ psFields 4 400 true (entryLatency s) 20000

/-- CMIC (R337): in pair mode bits 1 and 3, and bit 0 in dual port mode; in single mode bit 3 is 0 and the rest is open. -/
def cmic (s : State) : Nat :=
  let raw := (Config.openByte s.freeCtr 76).toNat
  if s.pair.enabled then withBit (withBit (withBit raw 0 (s.portMode == 0)) 1 true) 3 true else withBit raw 3 false

/-- Identify Controller (R97, R121, R131, R133, R135, R136, R337, R338, R346, R348, R368, R388, R397). [PRESUMED, log entry 61] -/
def identifyController (s : State) (fn : Nat) : List (Nat × Bytes) :=
  let p := port s (portOf s fn)
  [field 0 2 0x1EB5, field 2 2 p.subsysVid, field 4 20 (inst s fn).serial, field 24 40 (inst s fn).model, field 64 8 (v s K.fwRunningVersion),
   field 76 1 (cmic s), field 77 1 9, field 78 2 (cntlid s fn), field 256 2 0x026F, field 258 1 255, field 259 1 15, field 260 1 4,
   field 263 1 4, field 265 1 1, field 266 2 (wctemp s), field 268 2 (cctemp s), field 319 1 1, field 328 4 0x80000002,
   field 516 4 1024, field 525 1 0, field 526 2 255, field 528 2 255, field 532 2 255, field 540 4 1024]
  ++ (if s.pair.enabled then
      [field 342 1 2, field 343 1 0x55, field 344 4 2, field 348 4 2, (768, pairNqn (v s K.pairId))] else [])
  ++ psTable s

-- ===== Identify Namespace =====

/-- The eight LBA formats (R135). -/
def lbaFormats (off : Nat) : List (Nat × Bytes) :=
  (List.range 8).map (fun i => field (off + 4 * i) 3 ([0, 8, 16, 64].getD (i % 4) 0 + (if i < 4 then 12 else 14) * 2 ^ 16))

/-- ANAGRPID of a namespace: the group of its half in pair mode (R319). -/
def anaGroup (s : State) (n : Ns) : List (Nat × Bytes) := if s.pair.enabled then [field 92 4 (n.half + 1)] else []

/-- Identify Namespace of the NVM command set. [PRESUMED, log entry 61] -/
def identifyNs (s : State) (n : Ns) : List (Nat × Bytes) :=
  let a := if n.blk = 4096 then 255 else 63
  [field 0 8 n.nsze, field 8 8 n.nsze, field 25 1 7, field 26 1 n.lbaf, field 29 1 n.piType, field 33 1 1, field 34 2 a, field 36 2 a,
   field 40 2 0, field 42 2 0, field 44 2 0, field 99 1 (if nsReadOnly s n then 1 else 0)] ++ anaGroup s n ++ lbaFormats 128

/-- Identify Namespace of the Zoned Namespace command set: MAR, MOR (R146), and the zone size of each format. [PRESUMED, log entry 61] -/
def identifyZns (s : State) (n : Ns) : List (Nat × Bytes) :=
  let m := zoneMaxima s n
  let z := Cd.zoneBytes (coveDesc s n.firstCove)
  [field 4 4 m.1, field 8 4 m.2] ++ (List.range 8).map (fun i => field (2816 + 16 * i) 8 (z / (if i < 4 then 4096 else 16384)))

/-- Namespaces that a test accepts, rising, after `from`. -/
def nsAfter (s : State) (nsid : Nat) (p : Ns → Bool) : List Nat := ((s.nss.filter (fun e => nsid < e.1 && p e.2)).map Prod.fst).take 1024

/-- A controller list: its length, then the identifiers from `lo` up. -/
def ctrlList (l : List Nat) (lo : Nat) : Bytes :=
  let m := (sortNat (l.filter (fun x => lo ≤ x))).take 2047
  fit 4096 (leBytes 2 m.length ++ m.flatMap (leBytes 2))

/-- Controller identifiers of the partner. -/
def remoteId (s : State) (n : Nat) : Nat := 1024 - cntlidBase s + n + 1

/-- The secondary controller list: the VFs of the issuing PF, with their PF and their VF numbers. -/
def secondaryList (s : State) (fn lo : Nat) : Bytes :=
  let l := ((functions s).filter (fun n => !isPf s n && portOf s n == portOf s fn && decide (lo ≤ cntlid s n))).take 127
  let pf := cntlid s (if s.portMode = 0 ∧ portOf s fn = 1 then 1 else 0)
  fit 4096 (leBytes 1 l.length ++ List.replicate 31 0
    ++ l.flatMap (fun n => leBytes 2 (cntlid s n) ++ leBytes 2 pf ++ leBytes 1 (if (inst s n).rdy then 1 else 0) ++ List.replicate 3 0
        ++ leBytes 2 (vfNumber s n) ++ List.replicate 22 0))

/-- The namespace an Identify names, attached to the function where `own` says so. -/
def idNs (s : State) (c : Cmd) (own : Bool) : Option Ns := (nsOf s c.nsid).filter (fun n => !own || n.attached.contains c.fn)

/-- The data of an Identify, or the status that refuses it. Of a namespace that is not attached the structure is all zeros. -/
def identifyData (s : State) (c : Cmd) (cns cntid csi : Nat) : Except NvStatus (Bytes × State) :=
  let nsData (own : Bool) (f : Ns → List (Nat × Bytes)) : Except NvStatus (Bytes × State) :=
    if c.nsid = 0xFFFFFFFF then .ok (openData s 4096 (lbaFormats 128))
    else if c.nsid = 0 ∨ c.nsid > 1024 then .error .invalidNsOrFormat
    else match idNs s c own with
      | some n => .ok (openData s 4096 (f n))
      | none => .ok (List.replicate 4096 0, s)
  let csiNs (f : Ns → List (Nat × Bytes)) : Except NvStatus (Bytes × State) :=
    if csi = 0 then nsData true (fun n => if n.zoned then [] else f n)
    else if csi = 2 then nsData true (fun n => if n.zoned then identifyZns s n else [])
    else .error .invalidField
  match cns with
  | 0x00 => nsData true (identifyNs s)
  | 0x01 => .ok (openData s 4096 (identifyController s c.fn))
  | 0x02 => .ok (idList 4 4096 (nsAfter s c.nsid (fun n => n.attached.contains c.fn)), s)
  | 0x03 => nsData true (fun n => [(0, [4, 1, 0, 0] ++ leBytes 1 (if n.zoned then 2 else 0))])
  | 0x05 => csiNs (fun _ => [])
  | 0x06 => if csi = 2 then .ok (openData s 4096 [field 0 1 9]) else if csi = 0 then .ok (openData s 4096 []) else .error .invalidField
  | 0x08 => nsData true (fun n => [field 8 1 (if nsReadOnly s n then 1 else 0)] ++ (if s.pair.enabled then [field 4 4 (n.half + 1)] else []))
  | 0x10 => .ok (idList 4 4096 (nsAfter s c.nsid (fun _ => true)), s)
  | 0x11 => nsData false (identifyNs s)
  | 0x12 =>
    match nsOf s c.nsid with
    | some n => .ok (ctrlList (n.attached.map (cntlid s) ++ n.remote.map (remoteId s)) cntid, s)
    | none => .error .invalidNsOrFormat
  | 0x13 => .ok (ctrlList ((functions s).map (cntlid s)) cntid, s)
  | 0x15 => .ok (secondaryList s c.fn cntid, s)
  | 0x1C => .ok (idList 8 4096 [5], s)
  | _ => .error .invalidField

/-- IDENTIFY. -/
def identify (s : State) (c : Cmd) (cns cntid csi : Nat) : State :=
  if c.resv then complete s c .invalidField 0
  else match identifyData s c cns cntid csi with
    | .ok (b, s) => returnData s c b
    | .error st => complete s c st 0

def execIdentify (c : Cmd) (cns cntid csi : Nat) (s : State) : Host.Outcome State Fault Refusal := .next (identify s c cns cntid csi)

-- ===== log pages =====

/-- A Cove's share of Available Spare (R163). -/
def spareOf (s : State) (c : Nat) : Nat :=
  let l := level s (coveDesc s c) (Cd.spareWarn (coveDesc s c))
  let f := freeOf s c
  if l = 0 then (if f ≥ 0 then 100 else 0) else Nat.min 100 (Int.toNat (50 * f) / l)

/-- Available Spare: the minimum over Coves with any quota. -/
def availableSpare (s : State) : Nat :=
  ((coves s).filter (fun c => s.nss.any (fun p => p.2.inCove c))).foldl (fun m c => Nat.min m (spareOf s c)) 100

/-- Critical Warning: spare below its threshold; temperature; metadata lost; read-only media (R162, R193, R209, R366). -/
def criticalWarning (s : State) : Nat :=
  let ro := s.xlat.readOnlyAll || s.xlat.readOnlyComp || (coves s).any (fun c => bitAt (capBits s c) 2)
  (if availableSpare s < 50 then 1 else 0) + (if s.thermal.critical then 2 else 0) + (if s.xlat.metaLost then 4 else 0) + (if ro then 8 else 0)

/-- SMART / Health Information. [PRESUMED, log entry 61] -/
def smartFields (s : State) : List (Nat × Bytes) :=
  [field 0 1 (criticalWarning s), field 1 2 (compositeK s), field 3 1 (availableSpare s), field 4 1 50]
    ++ (List.range 8).map (fun i => field (200 + 2 * i) 2 (sensorK s (i + 1)))

/-- Admin opcodes a function may issue, and I/O opcodes (R121, R122). -/
def adminOpcodes (pf : Bool) : List Nat :=
  [0x00, 0x01, 0x02, 0x04, 0x05, 0x06, 0x08, 0x09, 0x0A, 0x0C, 0x19, 0x1A, 0x86]
    ++ (if pf then [0x0D, 0x10, 0x11, 0x15, 0x1D, 0x1E, 0x80, 0x81, 0x82, 0x84] else [])
def ioOpcodes : List Nat := [0x00, 0x01, 0x02, 0x04, 0x05, 0x08, 0x09, 0x0C, 0x79, 0x7A, 0x7D]

/-- Commands Supported and Effects: bit 0 of a command's word says whether it is supported; the rest of the word is open. -/
def supportedPage (s : State) (pf : Bool) : List (Nat × Bytes) :=
  let mark (base : Nat) (l : List Nat) (i : Nat) : Nat × Bytes :=
    if l.contains i then field (base + 4 * i) 1 (withBit (Config.openByte s.freeCtr (base + 4 * i)).toNat 0 true) else field (base + 4 * i) 4 0
  (List.range 256).map (mark 0 (adminOpcodes pf)) ++ (List.range 256).map (mark 1024 ioOpcodes)

/-- The code NVMe gives an ANA state. -/
def anaCode (x : Nat) : Nat := if x = 0 then 1 else if x = 1 then 3 else 0x0F

/-- The Asymmetric Namespace Access log: groups 1 and 2 (R337). -/
def anaPage (s : State) : Bytes × State :=
  let members (h : Nat) : List Nat := (s.nss.filter (fun p => p.2.half == h)).map Prod.fst
  let group (h : Nat) (cnt : Nat) : Bytes :=
    leBytes 4 (h + 1) ++ leBytes 4 (members h).length ++ (List.range 8).map (fun i => Config.openByte s.freeCtr (cnt + i))
      ++ leBytes 1 (anaCode (if h = 0 then s.pair.ana1 else s.pair.ana2)) ++ List.replicate 15 0 ++ (members h).flatMap (leBytes 4)
  ((List.range 8).map (Config.openByte s.freeCtr) ++ leBytes 2 2 ++ List.replicate 6 0 ++ group 0 8 ++ group 1 16, { s with freeCtr := s.freeCtr + 1 })

/-- LBA Status Information: the namespaces of the controller with blocks in the poison index. -/
def lbaStatusPage (s : State) (fn : Nat) : Bytes :=
  let l := (s.nss.filter (fun p => p.2.attached.contains fn && s.xlat.poison.any (fun e => e.1 / 2 ^ 64 == p.1))).map Prod.fst
  leBytes 4 (16 + 16 * l.length) ++ leBytes 4 l.length ++ leBytes 8 0
    ++ l.flatMap (fun n => leBytes 4 n ++ leBytes 4 0xFFFFFFFF ++ leBytes 1 0x10 ++ List.replicate 7 0)

/-- Sanitize Status (R397, R398): SSTAT 0 never, 1 completed, 2 in progress, 3 failed; the estimate for Block Erase. -/
def sanitizeFields (s : State) : List (Nat × Bytes) :=
  let st := if s.boot.sanitizing then 2 else if s.boot.failureMode ∨ s.boot.sanitizeFailed then 3 else if v s K.sanitizes > 0 then 1 else 0
  [field 2 1 (st + (Config.openByte s.freeCtr 2).toNat / 8 * 8), field 12 4 (sanitizeEst s)]

/-- The Changed Zone List of a namespace: at most 511 zones. -/
def changedZonePage (s : State) (fn nsid : Nat) : Bytes :=
  let zs := ((inst s fn).changedZones.filter (fun k => k / 2 ^ 32 == nsid)).map (fun k => k % 2 ^ 32)
  let n := nsRec s nsid
  fit 4096 (leBytes 2 (if zs.length > 511 then 0xFFFF else zs.length) ++ List.replicate 6 0
    ++ (if zs.length > 511 then [] else zs.flatMap (fun z => leBytes 8 (z * zoneBlocks s n))))

/-- The standard log pages. [PRESUMED, log entry 120] -/
def logIds (s : State) : List Nat := [0x00, 0x01, 0x02, 0x03, 0x04, 0x05, 0x0E, 0x81, 0xBF] ++ (if s.pair.enabled then [0x0C] else [])

/-- A standard log page as a function sees it. [PRESUMED, log entry 61] -/
def logPage (s : State) (c : Cmd) (lid : Nat) : Bytes × State :=
  let i := inst s c.fn
  if lid = 0x00 then ((List.range 256).flatMap (fun l => leBytes 4 (if (logIds s ++ [0xC1, 0xC2, 0xC3]).contains l then 1 else 0)), s)
  else if lid = 0x01 then openData s 64 [field 0 8 i.errorCount]
  else if lid = 0x02 then openData s 512 (smartFields s)
  else if lid = 0x03 then
    openData s 512 [field 0 1 (s.boot.slot + fwPending s * 16), field 8 8 (slotVersion s 1), field 16 8 (slotVersion s 2)]
  else if lid = 0x04 then (idList 4 4096 (sortNat i.changedNs), s)
  else if lid = 0x05 then openData s 4096 (supportedPage s (isPf s c.fn))
  else if lid = 0x0C then anaPage s
  else if lid = 0x0E then (lbaStatusPage s c.fn, s)
  else if lid = 0x81 then openData s 512 (sanitizeFields s)
  else (changedZonePage s c.fn c.nsid, s)

/-- A read with Retain Asynchronous Event cleared unmasks the page's events, and takes what a change list showed. [PRESUMED, log entry 120] -/
def logTaken (s : State) (c : Cmd) (lid : Nat) : State :=
  let s := unmask s c.fn (fun e => e.code / 2 ^ 16 % 256 == lid)
  if lid = 0x04 then modInst s c.fn (fun i => { i with changedNs := [] })
  else if lid = 0xBF then modInst s c.fn (fun i => { i with changedZones := i.changedZones.filter (fun k => k / 2 ^ 32 != c.nsid) })
  else s

/-- GET_LOG_PAGE. [PRESUMED, log entry 120] -/
def getLogPage (s : State) (c : Cmd) (lid off len : Nat) (rae : Bool) : State :=
  if c.resv then complete s c .invalidField 0
  else if !(logIds s).contains lid then complete s c .invalidLogPage 0
  else
    let (b, s) := logPage s c lid
    if off > b.length then complete s c .invalidField 0
    else returnData (if rae then s else logTaken s c lid) c (segment b off len)

def execGetLogPage (c : Cmd) (lid _lsp off len : Nat) (rae : Bool) (s : State) : Host.Outcome State Fault Refusal :=
  .next (getLogPage s c lid off len rae)

/-- GET_LOG_PAGE_C2 (R189): the controller's view of the loss map; a read with Retain Asynchronous Event cleared ends the mask of its
event (R187). -/
def getLogPageC2 (s : State) (c : Cmd) (off len : Nat) (rae : Bool) : State :=
  if c.resv then complete s c .invalidField 0
  else
    let b := lossPage s (vi s K.lossAck c.fn) (lossView s c.fn)
    returnData (if rae then s else logTaken s c 0xC2) c (segment b off len)

def execGetLogPageC2 (c : Cmd) (off len : Nat) (rae : Bool) (s : State) : Host.Outcome State Fault Refusal := .next (getLogPageC2 s c off len rae)

end Sys2Proof.Machine
end

