-- ==== Sys2Proof/Machine/Admin.lean ====
section
/-! DEFINITION. Machine/Admin.lean: Abort, Get Features and the Set Features of the package (R121, R133, R134, R346, R348, R368), the
NVMe-MI tunnel, and host DMA errors (R87). -/
namespace Sys2Proof.Machine
open Sys2Proof

-- ===== Abort (R133, R134, R261) =====

/-- The command can be aborted: a write that has not begun its data fetch, a read until its data moves (R134). [DEDUCED, log entry 117] -/
def abortable (f : Flight) : Bool :=
  if f.sqid = 0 then false
  else if isWriteOp f.opcode then f.stage != .running && f.stage != .committed
  else isReadOp f.opcode && f.stage != .committed

/-- The ladder of a page stops: its block is read again by patrol (R261). -/
def stopLadder (s : State) (l : Ladder) : State :=
  bump64 (modBlock (dropLadder s l.unit) l.die l.block (fun b => { b with pending := some (l.wl, l.pt) })) K.pendingChecks

/-- The ladders that run for an aborted read alone stop. [DEDUCED, log entry 117] -/
def stopLadders (s : State) (f : Flight) : State :=
  let others := (s.flights.filter (fun g => g.seq != f.seq)).flatMap Flight.waits
  (s.nand.ladders.filter (fun l => l.left.any (fun a => f.waits.contains a) && !l.left.any (fun a => others.contains a))).foldl stopLadder s

/-- Abort one command in flight: it completes with Command Abort Requested; a write that has been checked in a zone undoes it (R127). -/
def abortFlight (s : State) (f : Flight) : State :=
  let s := stopLadders s f
  let s := if isWriteOp f.opcode && f.checked && (nsRec s f.nsid).zoned then zoneWriteFail s f else s
  completeFlight s f .abortRequested 0 0

/-- The other half of a fused pair: the Write behind a Compare, or the Compare ahead of a Write. -/
def otherFused (s : State) (f : Flight) : Option Flight :=
  if f.fuse = 1 then (nextInQueue s f).filter (fun g => g.fuse == 2) else if f.fuse = 2 then firstHalf s f else none

/-- Abort a command in flight where its stage allows it; either half of a fused pair aborts both, while the Compare is abortable. [DEDUCED, log entry 117] -/
def tryAbort (s : State) (f : Flight) : Option State :=
  if !abortable f then none
  else match otherFused s f with
    | none => some (abortFlight s f)
    | some g => if abortable g then some (abortFlight (abortFlight s f) g) else none

/-- A command that still stands in its submission queue completes without being fetched; its entry is dropped when its turn comes. [DEDUCED, log entries 117, 125] -/
def abortQueued (s : State) (fn sqid cid : Nat) : State :=
  let k := (qkey fn sqid, cid)
  let s := { s with eng := { s.eng with aborted := s.eng.aborted.filter (· != k) ++ [k] } }
  postCqe s fn (cqidOf s fn sqid) ⟨sqid, cid, .abortRequested, 0, 0, 0⟩

/-- ABORT: the aborted command's completion is posted before the Abort's; Dword 0 bit 0 says that nothing was aborted. -/
def abort (s : State) (c : Cmd) (sqid cid : Nat) (queued : Bool) : State :=
  if c.resv then complete s c .invalidField 0
  else match flight? s c.fn sqid cid with
    | some f =>
      match tryAbort s f with
      | some s => complete s c .success 0
      | none => complete s c .success 1
    | none =>
      if queued && (sqOf s c.fn sqid).any (fun q => q.head != q.tail) && !s.eng.aborted.contains (qkey c.fn sqid, cid) then
        complete (abortQueued s c.fn sqid cid) c .success 0
      else complete s c .success 1

def execAbort (c : Cmd) (sqid cid : Nat) (queued : Bool) (s : State) : Host.Outcome State Fault Refusal := .next (settle (abort s c sqid cid queued))

-- ===== host DMA errors (R87) =====

/-- The function logs one of the AER errors that R87 names: poisoned TLP, completion timeout, completer abort; which is not an operand. [DESIGN CHOICE, log entry 118] -/
def aerLog (s : State) (fn : Nat) : State :=
  let (k, s) := freeBelow s 3
  let b := if k = 0 then 12 else if k = 1 then 14 else 15
  modPort s (portOf s fn) (fun p => { p with aerSticky := withBit p.aerSticky b true })

/-- HOST_DMA_ERROR: a write whose data did not arrive writes no block; a read whose data could not be sent fails alike. [DESIGN CHOICE, log entry 118] -/
def hostDmaError (s : State) (fn sqid cid : Nat) : State :=
  match flight? s fn sqid cid with
  | none => s
  | some f =>
    if countsWrite f.opcode && f.sqid != 0 then
      if f.stage == .committed then s
      else
        let s := aerLog s fn
        let s := if f.checked && (nsRec s f.nsid).zoned then zoneWriteFail s f else s
        completeFlight s f .dataTransferError 0 0
    else
      let s := if f.fuse = 1 then markHalf s f 4 else s
      completeFlight (stopLadders s f) f .dataTransferError 0 0

def execHostDmaError (fn sqid cid : Nat) (s : State) : Host.Outcome State Fault Refusal := .next (settle (hostDmaError s fn sqid cid))

-- ===== Get Features =====

/-- Completion Dword 0 of a feature of a function, and the data it returns with it; none for a feature that does not exist. -/
def featureOf (s : State) (i : Inst) (fn fid cdw11 : Nat) : Option (Nat × Option Bytes) :=
  match fid with
  | 0x01 => some (i.ab + i.lpw * 2 ^ 8 + i.mpw * 2 ^ 16 + i.hpw * 2 ^ 24, none)
  | 0x02 => some (s.power.ps, none)
  | 0x04 =>
    let sel := fld cdw11 19 16
    if sel ≤ 8 then some (tempThreshold s i sel (fld cdw11 21 20 == 1), none) else none
  | 0x07 => some (numberOfQueues s fn, none)
  | 0x08 => some (i.icThr + i.icTime * 2 ^ 8, none)
  | 0x09 => some (cdw11 % 2 ^ 16 + (if i.ivDisabled.contains (cdw11 % 2 ^ 16) then 2 ^ 16 else 0), none)
  | 0x0B => some (i.aecBits, none)
  | 0x0C => some (if s.power.apst then 1 else 0,
      some (fit 256 (s.power.apstTable.flatMap (fun e => leBytes 8 (e.1 % 32 * 2 ^ 3 + e.2 % 2 ^ 24 * 2 ^ 8)))))
  | 0x16 => some (0, some (fit 512 (leBytes 1 (if i.acre then 1 else 0))))
  | _ => none

/-- The state whose features a select value shows: 0 the current values; 1 and 2 those of a controller that has set none. [PRESUMED, log entry 120] -/
def selState (s : State) (sel : Nat) : State :=
  if sel = 0 then s else { s with power := { s.power with ps := 0, apst := false, apstTable := [] } }

/-- GET_FEATURES: select 3 shows capabilities, here that the feature is changeable and not saveable. [PRESUMED, log entry 120] -/
def getFeatures (s : State) (c : Cmd) (fid sel cdw11 : Nat) : State :=
  let i := if sel = 0 then inst s c.fn else Inst.fresh
  if c.resv ∨ sel > 3 then complete s c .invalidField 0
  else match featureOf (selState s sel) i c.fn fid cdw11 with
    | none => complete s c .invalidField 0
    | some (x, d) =>
      if sel = 3 then complete s c .success 4
      else complete (match d with
        | some b => dmaOut s c.fn b
        | none => s) c .success x

def execGetFeatures (c : Cmd) (fid sel cdw11 : Nat) (s : State) : Host.Outcome State Fault Refusal := .next (getFeatures s c fid sel cdw11)

-- ===== Set Features of the package: PF instances only (R121, R346) =====

/-- What refuses a package feature's Set Features. [PRESUMED, log entry 120] -/
def packageFeature (s : State) (c : Cmd) : NvStatus :=
  if c.resv then .invalidField else if pfOnly s c then .featureNotChangeable else .success

/-- SET_POWER_MANAGEMENT: PS0 to PS2 are a budget that applies at a tide (R41); PS3 and PS4 a sleep request, after the completion (R348). [PRESUMED, log entry 121] -/
def setPowerManagement (s : State) (c : Cmd) (ps : Nat) : State :=
  let t := applyTide s
  match packageFeature s c with
  | .success =>
    if ps > 4 then complete s c .invalidField 0
    else if ps ≥ 3 then sleepRequest (complete s c .success 0) (ps - 1)
    else if !canStage s t then complete (bump32 s K.stageRefused) c .commandInterrupted 0
    else complete (stageAt { s with power := { s.power with ps := ps } } t (.budget ps)) c .success 0
  | st => complete s c st 0

def execSetPowerManagement (c : Cmd) (ps _wh : Nat) (s : State) : Host.Outcome State Fault Refusal := .next (settle (setPowerManagement s c ps))

/-- The temperature selectors a Set Features names: one, or with 1111b all. -/
def tempSelectors (tmpsel : Nat) : List Nat := if tmpsel = 15 then List.range 9 else [tmpsel]

/-- SET_TEMPERATURE_THRESHOLD: thresholds raise events and never throttle (R368). [PRESUMED, log entry 91] -/
def setTemperatureThreshold (s : State) (c : Cmd) (tmpsel : Nat) (under : Bool) (kelvin : Nat) : State :=
  match packageFeature s c with
  | .success =>
    if 8 < tmpsel ∧ tmpsel ≠ 15 then complete s c .invalidField 0
    else
      let old := inst s c.fn
      let put (m : Assoc Nat) (x : Nat) : Assoc Nat := m.put (2 * x + (if under then 1 else 0)) (kelvin % 2 ^ 16)
      let s := modInst s c.fn (fun i => { i with tempThr := (tempSelectors tmpsel).foldl put i.tempThr })
      let s := complete s c .success 0
      if (tempSelectors tmpsel).any (fun x => tempOf s x != 0 && beyond s (inst s c.fn) x under && !beyond s old x under) then
        aen s c.fn .temperature else s
  | st => complete s c st 0

def execSetTemperatureThreshold (c : Cmd) (tmpsel : Nat) (under : Bool) (kelvin : Nat) (s : State) : Host.Outcome State Fault Refusal :=
  .next (setTemperatureThreshold s c tmpsel under kelvin)

/-- SET_AUTONOMOUS_POWER_STATE_TRANSITION: 32 entries; an entry with an idle time names PS3 or PS4. [PRESUMED, log entry 121] -/
def setApst (s : State) (c : Cmd) (enable : Bool) (table : List (Nat × Nat)) : State :=
  match packageFeature s c with
  | .success =>
    if table.any (fun e => e.2 != 0 && e.1 != 3 && e.1 != 4) then complete s c .invalidField 0
    else complete { s with power := { s.power with apst := enable, apstTable := table.take 32 } } c .success 0
  | st => complete s c st 0

def execSetAutonomousPowerStateTransition (c : Cmd) (enable : Bool) (table : List (Nat × Nat)) (s : State) : Host.Outcome State Fault Refusal :=
  .next (setApst s c enable table)

/-- APST_TRANSITION: the idle time of the power state in force has passed; its entry names PS3 or PS4. [PRESUMED, log entry 121] -/
def apstTransition (s : State) : State :=
  let e := s.power.apstTable.getD s.power.ps (0, 0)
  if s.power.apst && e.2 != 0 && s.flights.isEmpty then sleepRequest s (e.1 - 1) else s

def execApstTransition (s : State) : Host.Outcome State Fault Refusal := .next (settle (apstTransition s))

-- ===== the NVMe-MI tunnel (R121) =====

/-- NVME_MI_SEND: the request is passed in; what it asks is NVMe-MI's. [DESIGN CHOICE, log entry 122] -/
def execNvmeMiSend (c : Cmd) (_request : Bytes) (s : State) : Host.Outcome State Fault Refusal :=
  .next (complete s c (if pfOnly s c then .invalidOpcode else if c.resv then .invalidField else .success) 0)

/-- NVME_MI_RECEIVE: the response, whose bytes are NVMe-MI's and open here. [DESIGN CHOICE, log entry 122] -/
def nvmeMiReceive (s : State) (c : Cmd) (len : Nat) : State :=
  if pfOnly s c then complete s c .invalidOpcode 0
  else if c.resv then complete s c .invalidField 0
  else
    let (b, s) := openData s len []
    returnData s c b

def execNvmeMiReceive (c : Cmd) (len : Nat) (s : State) : Host.Outcome State Fault Refusal := .next (nvmeMiReceive s c len)

end Sys2Proof.Machine
end

