-- ==== Sys2Proof/Machine/Dispatch.lean ====
section
/-! DEFINITION. Machine/Dispatch.lean: the meaning of each command of the table. -/
namespace Sys2Proof.Machine
open Sys2Proof

def exec (i : Instr) (s : State) : Host.Outcome State Fault Refusal :=
  match i with
  | .tideBoundary crcTestFails => Sys2Proof.Machine.execTideBoundary crcTestFails s
  | .timeBaseSwitch crystal portA portB => Sys2Proof.Machine.execTimeBaseSwitch crystal portA portB s
  | .speedMonitorSample dom reading => Sys2Proof.Machine.execSpeedMonitorSample dom reading s
  | .speedLow dom reading => Sys2Proof.Machine.execSpeedLow dom reading s
  | .dieLinkTransfer link mismatches held => Sys2Proof.Machine.execDieLinkTransfer link mismatches held s
  | .strandGate strand => Sys2Proof.Machine.execStrandGate strand s
  | .strandWake strand => Sys2Proof.Machine.execStrandWake strand s
  | .get r => Sys2Proof.Machine.execGet r s
  | .describe r => Sys2Proof.Machine.execDescribe r s
  | .set r => Sys2Proof.Machine.execSet r s
  | .segRead r => Sys2Proof.Machine.execSegRead r s
  | .segWrite r => Sys2Proof.Machine.execSegWrite r s
  | .segAbort r => Sys2Proof.Machine.execSegAbort r s
  | .segWriteTimeout index sub inst => Sys2Proof.Machine.execSegWriteTimeout index sub inst s
  | .journalRecordProgram ok => Sys2Proof.Machine.execJournalRecordProgram ok s
  | .getLogPageC1 c lsi offUpper offLower len => Sys2Proof.Machine.execGetLogPageC1 c lsi offUpper offLower len s
  | .overlaySelect a v => Sys2Proof.Machine.execOverlaySelect a v s
  | .imageLoad a image => Sys2Proof.Machine.execImageLoad a image s
  | .configRevert a v => Sys2Proof.Machine.execConfigRevert a v s
  | .overlayDelete a v => Sys2Proof.Machine.execOverlayDelete a v s
  | .calendarTime a v => Sys2Proof.Machine.execCalendarTime a v s
  | .perstAssert port => Sys2Proof.Machine.execPerstAssert port s
  | .perstDeassert port => Sys2Proof.Machine.execPerstDeassert port s
  | .pcieLinkUp port rate width flit => Sys2Proof.Machine.execPcieLinkUp port rate width flit s
  | .pcieTrainingTimeout port => Sys2Proof.Machine.execPcieTrainingTimeout port s
  | .hotReset port down => Sys2Proof.Machine.execHotReset port down s
  | .functionLevelReset fn => Sys2Proof.Machine.execFunctionLevelReset fn s
  | .registerWrite fn bar off width value => Sys2Proof.Machine.execRegisterWrite fn bar off width value s
  | .serviceWindowAccess fn off width write value => Sys2Proof.Machine.execServiceWindowAccess fn off width write value s
  | .traceFifoPop fn off width => Sys2Proof.Machine.execTraceFifoPop fn off width s
  | .l0pNarrow port => Sys2Proof.Machine.execL0pNarrow port s
  | .l0pWiden port => Sys2Proof.Machine.execL0pWiden port s
  | .linkL1Exit port => Sys2Proof.Machine.execLinkL1Exit port s
  | .hostDmaError fn sqid cid => Sys2Proof.Machine.execHostDmaError fn sqid cid s
  | .instanceCommit a => Sys2Proof.Machine.execInstanceCommit a s
  | .instanceReclaim a => Sys2Proof.Machine.execInstanceReclaim a s
  | .reclaimFinished n => Sys2Proof.Machine.execReclaimFinished n s
  | .vfEnable pf numVfs enable => Sys2Proof.Machine.execVfEnable pf numVfs enable s
  | .controllerEnable fn cc => Sys2Proof.Machine.execControllerEnable fn cc s
  | .controllerReady fn => Sys2Proof.Machine.execControllerReady fn s
  | .controllerReset fn => Sys2Proof.Machine.execControllerReset fn s
  | .ccShutdown fn shn => Sys2Proof.Machine.execCcShutdown fn shn s
  | .m2tBell n value => Sys2Proof.Machine.execM2tBell n value s
  | .t2mBell n value => Sys2Proof.Machine.execT2mBell n value s
  | .m2tAck n value => Sys2Proof.Machine.execM2tAck n value s
  | .t2mAck n value => Sys2Proof.Machine.execT2mAck n value s
  | .mbCauseClear n managerSide value => Sys2Proof.Machine.execMbCauseClear n managerSide value s
  | .pasidEnableChange fn enable => Sys2Proof.Machine.execPasidEnableChange fn enable s
  | .keySession a slice => Sys2Proof.Machine.execKeySession a slice s
  | .keyDeliver a value => Sys2Proof.Machine.execKeyDeliver a value s
  | .keySessionTimeout n => Sys2Proof.Machine.execKeySessionTimeout n s
  | .sqTailDoorbell fn qid value => Sys2Proof.Machine.execSqTailDoorbell fn qid value s
  | .cqHeadDoorbell fn qid value => Sys2Proof.Machine.execCqHeadDoorbell fn qid value s
  | .qctxFill fn sqid => Sys2Proof.Machine.execQctxFill fn sqid s
  | .fetchGrant e => Sys2Proof.Machine.execFetchGrant e s
  | .poolUnitFreed pool => Sys2Proof.Machine.execPoolUnitFreed pool s
  | .deleteIoSubmissionQueue c qid unfetched => Sys2Proof.Machine.execDeleteIoSubmissionQueue c qid unfetched s
  | .createIoSubmissionQueue c qid qsize cqid qprio pc => Sys2Proof.Machine.execCreateIoSubmissionQueue c qid qsize cqid qprio pc s
  | .deleteIoCompletionQueue c qid => Sys2Proof.Machine.execDeleteIoCompletionQueue c qid s
  | .createIoCompletionQueue c qid qsize vector pc ien => Sys2Proof.Machine.execCreateIoCompletionQueue c qid qsize vector pc ien s
  | .getLogPage c lid lsp off len rae => Sys2Proof.Machine.execGetLogPage c lid lsp off len rae s
  | .getLogPageC2 c off len rae => Sys2Proof.Machine.execGetLogPageC2 c off len rae s
  | .getLogPageC3 c off len rae => Sys2Proof.Machine.execGetLogPageC3 c off len rae s
  | .snapshotLapse fn => Sys2Proof.Machine.execSnapshotLapse fn s
  | .identify c cns cntid csi => Sys2Proof.Machine.execIdentify c cns cntid csi s
  | .abort c sqid cid queued => Sys2Proof.Machine.execAbort c sqid cid queued s
  | .getFeatures c fid sel cdw11 => Sys2Proof.Machine.execGetFeatures c fid sel cdw11 s
  | .setArbitration c ab lpw mpw hpw => Sys2Proof.Machine.execSetArbitration c ab lpw mpw hpw s
  | .setPowerManagement c ps wh => Sys2Proof.Machine.execSetPowerManagement c ps wh s
  | .setTemperatureThreshold c tmpsel under kelvin => Sys2Proof.Machine.execSetTemperatureThreshold c tmpsel under kelvin s
  | .setNumberOfQueues c ncqr nsqr => Sys2Proof.Machine.execSetNumberOfQueues c ncqr nsqr s
  | .setInterruptCoalescing c time thr => Sys2Proof.Machine.execSetInterruptCoalescing c time thr s
  | .setInterruptVectorConfiguration c vector cd => Sys2Proof.Machine.execSetInterruptVectorConfiguration c vector cd s
  | .setAsyncEventConfiguration c bits => Sys2Proof.Machine.execSetAsyncEventConfiguration c bits s
  | .setAutonomousPowerStateTransition c enable table => Sys2Proof.Machine.execSetAutonomousPowerStateTransition c enable table s
  | .setHostBehaviorSupport c acre => Sys2Proof.Machine.execSetHostBehaviorSupport c acre s
  | .apstTransition => Sys2Proof.Machine.execApstTransition s
  | .asynchronousEventRequest c => Sys2Proof.Machine.execAsynchronousEventRequest c s
  | .namespaceCreate c zoned nsze ncap lbaf piType piGuard => Sys2Proof.Machine.execNamespaceCreate c zoned nsze ncap lbaf piType piGuard s
  | .namespaceDelete c => Sys2Proof.Machine.execNamespaceDelete c s
  | .namespaceDeleteDone nsid => Sys2Proof.Machine.execNamespaceDeleteDone nsid s
  | .namespaceAttach c controllers => Sys2Proof.Machine.execNamespaceAttach c controllers s
  | .namespaceDetach c controllers => Sys2Proof.Machine.execNamespaceDetach c controllers s
  | .firmwareImageDownload c off data => Sys2Proof.Machine.execFirmwareImageDownload c off data s
  | .firmwareCommitVerify c slot => Sys2Proof.Machine.execFirmwareCommitVerify c slot s
  | .firmwareCommitReplaceActivate c slot => Sys2Proof.Machine.execFirmwareCommitReplaceActivate c slot s
  | .firmwareCommitActivate c slot => Sys2Proof.Machine.execFirmwareCommitActivate c slot s
  | .fwUpdateHoldTimeout => Sys2Proof.Machine.execFwUpdateHoldTimeout s
  | .assignCove c cove zslba => Sys2Proof.Machine.execAssignCove c cove zslba s
  | .enableDirective c dtype enable => Sys2Proof.Machine.execEnableDirective c dtype enable s
  | .coveStatus c first len => Sys2Proof.Machine.execCoveStatus c first len s
  | .zoneUsage c zslba len => Sys2Proof.Machine.execZoneUsage c zslba len s
  | .nvmeMiSend c request => Sys2Proof.Machine.execNvmeMiSend c request s
  | .nvmeMiReceive c len => Sys2Proof.Machine.execNvmeMiReceive c len s
  | .formatNvm c ses lbaf piType piGuard => Sys2Proof.Machine.execFormatNvm c ses lbaf piType piGuard s
  | .securitySend c secp spsp len => Sys2Proof.Machine.execSecuritySend c secp spsp len s
  | .securityReceive c secp spsp len => Sys2Proof.Machine.execSecurityReceive c secp spsp len s
  | .sanitizeBlockErase c action ause => Sys2Proof.Machine.execSanitizeBlockErase c action ause s
  | .exitFailureMode c => Sys2Proof.Machine.execExitFailureMode c s
  | .sanitizeDone unproved => Sys2Proof.Machine.execSanitizeDone unproved s
  | .getLbaStatus c slba rl len => Sys2Proof.Machine.execGetLbaStatus c slba rl len s
  | .flush c => Sys2Proof.Machine.execFlush c s
  | .write c slba data fua ordered dtype dspec pi => Sys2Proof.Machine.execWrite c slba data fua ordered dtype dspec pi s
  | .writeAcknowledge fn sqid cid => Sys2Proof.Machine.execWriteAcknowledge fn sqid cid s
  | .read c slba nlb fua ordered pi => Sys2Proof.Machine.execRead c slba nlb fua ordered pi s
  | .writeUncorrectable c slba nlb => Sys2Proof.Machine.execWriteUncorrectable c slba nlb s
  | .compare c slba data pi => Sys2Proof.Machine.execCompare c slba data pi s
  | .writeZeroes c slba nlb deac dtype dspec => Sys2Proof.Machine.execWriteZeroes c slba nlb deac dtype dspec s
  | .datasetManagement c deallocate ranges => Sys2Proof.Machine.execDatasetManagement c deallocate ranges s
  | .verify c slba nlb pi => Sys2Proof.Machine.execVerify c slba nlb pi s
  | .zoneOpen c slba all => Sys2Proof.Machine.execZoneOpen c slba all s
  | .zoneClose c slba all => Sys2Proof.Machine.execZoneClose c slba all s
  | .zoneFinish c slba all => Sys2Proof.Machine.execZoneFinish c slba all s
  | .zoneReset c slba all => Sys2Proof.Machine.execZoneReset c slba all s
  | .zoneOffline c slba all => Sys2Proof.Machine.execZoneOffline c slba all s
  | .zoneManagementReceive c slba option len partialReport => Sys2Proof.Machine.execZoneManagementReceive c slba option len partialReport s
  | .zoneAppend c zslba data fua pi => Sys2Proof.Machine.execZoneAppend c zslba data fua pi s
  | .coveDescWrite a cove value => Sys2Proof.Machine.execCoveDescWrite a cove value s
  | .finishZoneRecommended nsid zone => Sys2Proof.Machine.execFinishZoneRecommended nsid zone s
  | .zoneFinishedByController nsid zone => Sys2Proof.Machine.execZoneFinishedByController nsid zone s
  | .mapMiss nsid page copyA copyB => Sys2Proof.Machine.execMapMiss nsid page copyA copyB s
  | .mapPinLoad cove => Sys2Proof.Machine.execMapPinLoad cove s
  | .mapWriteback => Sys2Proof.Machine.execMapWriteback s
  | .relocationSwitch id => Sys2Proof.Machine.execRelocationSwitch id s
  | .gcStart cove => Sys2Proof.Machine.execGcStart cove s
  | .wearLevelling die => Sys2Proof.Machine.execWearLevelling die s
  | .refresh die => Sys2Proof.Machine.execRefresh die s
  | .dieRetire die => Sys2Proof.Machine.execDieRetire die s
  | .dieNoticeEnumeration die => Sys2Proof.Machine.execDieNoticeEnumeration die s
  | .lossPublish => Sys2Proof.Machine.execLossPublish s
  | .lossAck a v => Sys2Proof.Machine.execLossAck a v s
  | .compressPiece fn sqid cid storedLength verified compressor noBuffer => Sys2Proof.Machine.execCompressPiece fn sqid cid storedLength verified compressor noBuffer s
  | .unitIdleCut nsid zone => Sys2Proof.Machine.execUnitIdleCut nsid zone s
  | .decodeFrame nsid zone start upto decompressor dz confirmed => Sys2Proof.Machine.execDecodeFrame nsid zone start upto decompressor dz confirmed s
  | .nandNegotiation reports => Sys2Proof.Machine.execNandNegotiation reports s
  | .slotRetrain slot pair => Sys2Proof.Machine.execSlotRetrain slot pair s
  | .operationStart die => Sys2Proof.Machine.execOperationStart die s
  | .nandRead d => Sys2Proof.Machine.execNandRead d s
  | .nandReadSoft d => Sys2Proof.Machine.execNandReadSoft d s
  | .nandProgram d => Sys2Proof.Machine.execNandProgram d s
  | .nandErase d => Sys2Proof.Machine.execNandErase d s
  | .nandGetFeature d => Sys2Proof.Machine.execNandGetFeature d s
  | .nandSetFeature d => Sys2Proof.Machine.execNandSetFeature d s
  | .nandResetLun d => Sys2Proof.Machine.execNandResetLun d s
  | .nandReadStatus d => Sys2Proof.Machine.execNandReadStatus d s
  | .nandCompletion die status arrayTime nandSr featureOut => Sys2Proof.Machine.execNandCompletion die status arrayTime nandSr featureOut s
  | .descriptorWithdraw die tag => Sys2Proof.Machine.execDescriptorWithdraw die tag s
  | .arrayTimeout die answered => Sys2Proof.Machine.execArrayTimeout die answered s
  | .suspendRequest die => Sys2Proof.Machine.execSuspendRequest die s
  | .suspendMinRunElapsed die => Sys2Proof.Machine.execSuspendMinRunElapsed die s
  | .resumeRequest die => Sys2Proof.Machine.execResumeRequest die s
  | .suspendWindowExpiry die => Sys2Proof.Machine.execSuspendWindowExpiry die s
  | .flushEnd lost => Sys2Proof.Machine.execFlushEnd lost s
  | .holdupTest v1 => Sys2Proof.Machine.execHoldupTest v1 s
  | .holdupTestSample v2 => Sys2Proof.Machine.execHoldupTestSample v2 s
  | .wtLogDelayExpiry fn sqid cid pass => Sys2Proof.Machine.execWtLogDelayExpiry fn sqid cid pass s
  | .hardDecode a ok tailAddr ones e10 e01 unsat => Sys2Proof.Machine.execHardDecode a ok tailAddr ones e10 e01 unsat s
  | .ladderStep die block wl pt results => Sys2Proof.Machine.execLadderStep die block wl pt results s
  | .calPersist => Sys2Proof.Machine.execCalPersist s
  | .patrolPace => Sys2Proof.Machine.execPatrolPace s
  | .patrolRead die block wl pt => Sys2Proof.Machine.execPatrolRead die block wl pt s
  | .admissionDeadline fn sqid cid => Sys2Proof.Machine.execAdmissionDeadline fn sqid cid s
  | .dramNegotiation channels => Sys2Proof.Machine.execDramNegotiation channels s
  | .dramRequest addr write data opps => Sys2Proof.Machine.execDramRequest addr write data opps s
  | .sameBankRefresh channel sub rank ba => Sys2Proof.Machine.execSameBankRefresh channel sub rank ba s
  | .rowTableClear => Sys2Proof.Machine.execRowTableClear s
  | .retrainPause channel drift => Sys2Proof.Machine.execRetrainPause channel drift s
  | .bufferAllocate domain bytes requester inst => Sys2Proof.Machine.execBufferAllocate domain bytes requester inst s
  | .bufferAcquire handle requester => Sys2Proof.Machine.execBufferAcquire handle requester s
  | .bufferRelease handle requester => Sys2Proof.Machine.execBufferRelease handle requester s
  | .wmRecordRc a w => Sys2Proof.Machine.execWmRecordRc a w s
  | .scrubAccess region idle err => Sys2Proof.Machine.execScrubAccess region idle err s
  | .eccTestWrite region => Sys2Proof.Machine.execEccTestWrite region s
  | .eccTestWriteData region => Sys2Proof.Machine.execEccTestWriteData region s
  | .eccTestWriteCheck region => Sys2Proof.Machine.execEccTestWriteCheck region s
  | .eccTestReadCorrected region => Sys2Proof.Machine.execEccTestReadCorrected region s
  | .eccTestReadRaw region => Sys2Proof.Machine.execEccTestReadRaw region s
  | .rinorLinkUp rate width version => Sys2Proof.Machine.execRinorLinkUp rate width version s
  | .formation f => Sys2Proof.Machine.execFormation f s
  | .pairFormTimeout edge => Sys2Proof.Machine.execPairFormTimeout edge s
  | .mirrorWriteData h blocks => Sys2Proof.Machine.execMirrorWriteData h blocks s
  | .mirrorUnitStaging h blocks => Sys2Proof.Machine.execMirrorUnitStaging h blocks s
  | .metadataDelta h nsid zone wp st => Sys2Proof.Machine.execMetadataDelta h nsid zone wp st s
  | .mirrorRelease h => Sys2Proof.Machine.execMirrorRelease h s
  | .mirrorAck arg => Sys2Proof.Machine.execMirrorAck arg s
  | .resendRequest seq => Sys2Proof.Machine.execResendRequest seq s
  | .adminForward fn sqid cid cmd => Sys2Proof.Machine.execAdminForward fn sqid cid cmd s
  | .pairSharedEntry index sub value bytes => Sys2Proof.Machine.execPairSharedEntry index sub value bytes s
  | .powerCoordination target => Sys2Proof.Machine.execPowerCoordination target s
  | .pairDeadTime heartbeat => Sys2Proof.Machine.execPairDeadTime heartbeat s
  | .pairFenceDefer heartbeat => Sys2Proof.Machine.execPairFenceDefer heartbeat s
  | .takeoverComplete => Sys2Proof.Machine.execTakeoverComplete s
  | .fenced => Sys2Proof.Machine.execFenced s
  | .fenceRelease => Sys2Proof.Machine.execFenceRelease s
  | .rejoin a => Sys2Proof.Machine.execRejoin a s
  | .surrender a => Sys2Proof.Machine.execSurrender a s
  | .powerOn plPos orderingD => Sys2Proof.Machine.execPowerOn plPos orderingD s
  | .powerGood step => Sys2Proof.Machine.execPowerGood step s
  | .powerGoodTimeout step => Sys2Proof.Machine.execPowerGoodTimeout step s
  | .powerGoodFall step => Sys2Proof.Machine.execPowerGoodFall step s
  | .avsbusTimeout rail => Sys2Proof.Machine.execAvsbusTimeout rail s
  | .ebbIdle => Sys2Proof.Machine.execEbbIdle s
  | .powerRequestSleep a v => Sys2Proof.Machine.execPowerRequestSleep a v s
  | .powerRequestWake a => Sys2Proof.Machine.execPowerRequestWake a s
  | .sleepCommit => Sys2Proof.Machine.execSleepCommit s
  | .wake source => Sys2Proof.Machine.execWake source s
  | .supplyWarning mv => Sys2Proof.Machine.execSupplyWarning mv s
  | .supplyFlushLevel mv => Sys2Proof.Machine.execSupplyFlushLevel mv s
  | .tHoldExpiry => Sys2Proof.Machine.execTHoldExpiry s
  | .supplyRecovered => Sys2Proof.Machine.execSupplyRecovered s
  | .supplyResetLevel mv => Sys2Proof.Machine.execSupplyResetLevel mv s
  | .pfail => Sys2Proof.Machine.execPfail s
  | .holdupCharge mv => Sys2Proof.Machine.execHoldupCharge mv s
  | .holdupChargeTimeout => Sys2Proof.Machine.execHoldupChargeTimeout s
  | .atRiskRecompute mv => Sys2Proof.Machine.execAtRiskRecompute mv s
  | .huTestNow a v => Sys2Proof.Machine.execHuTestNow a v s
  | .sensorSample sensor reading => Sys2Proof.Machine.execSensorSample sensor reading s
  | .throttleGraceExpiry => Sys2Proof.Machine.execThrottleGraceExpiry s
  | .throttleStep => Sys2Proof.Machine.execThrottleStep s
  | .throttleRelease => Sys2Proof.Machine.execThrottleRelease s
  | .thermalHold => Sys2Proof.Machine.execThermalHold s
  | .nandTempRead slot reading => Sys2Proof.Machine.execNandTempRead slot reading s
  | .nvmSubsystemReset => Sys2Proof.Machine.execNvmSubsystemReset s
  | .managementReset a => Sys2Proof.Machine.execManagementReset a s
  | .watchdogKick kicker => Sys2Proof.Machine.execWatchdogKick kicker s
  | .watchdogExpiry missed => Sys2Proof.Machine.execWatchdogExpiry missed s
  | .cfProgram d words => Sys2Proof.Machine.execCfProgram d words s
  | .cfErase d => Sys2Proof.Machine.execCfErase d s
  | .cfBlankCheck d => Sys2Proof.Machine.execCfBlankCheck d s
  | .cfVerify d words => Sys2Proof.Machine.execCfVerify d words s
  | .cfHash d => Sys2Proof.Machine.execCfHash d s
  | .cfOperationComplete bank failedAt arrayUs => Sys2Proof.Machine.execCfOperationComplete bank failedAt arrayUs s
  | .cfSuspend bank => Sys2Proof.Machine.execCfSuspend bank s
  | .cfCopyToSram src dst len digest => Sys2Proof.Machine.execCfCopyToSram src dst len digest s
  | .fwConfirm => Sys2Proof.Machine.execFwConfirm s
  | .fwRecoveryImage a image => Sys2Proof.Machine.execFwRecoveryImage a image s
  | .fwRollbackCommit a v => Sys2Proof.Machine.execFwRollbackCommit a v s
  | .signerKeyAdd a value => Sys2Proof.Machine.execSignerKeyAdd a value s
  | .signerKeyRemove a value => Sys2Proof.Machine.execSignerKeyRemove a value s
  | .attestChallenge a nonce => Sys2Proof.Machine.execAttestChallenge a nonce s
  | .attestReportReady => Sys2Proof.Machine.execAttestReportReady s
  | .serviceChallenge a => Sys2Proof.Machine.execServiceChallenge a s
  | .serviceUnlock a value => Sys2Proof.Machine.execServiceUnlock a value s
  | .serviceLock a v => Sys2Proof.Machine.execServiceLock a v s
  | .serviceModeExpiry => Sys2Proof.Machine.execServiceModeExpiry s
  | .cfPasswordW a w v => Sys2Proof.Machine.execCfPasswordW a w v s
  | .cfUnlockRegion a v => Sys2Proof.Machine.execCfUnlockRegion a v s
  | .cfLockRegion a v => Sys2Proof.Machine.execCfLockRegion a v s
  | .cfPasswordChange a v => Sys2Proof.Machine.execCfPasswordChange a v s
  | .crcLease released holder alg urgentPi => Sys2Proof.Machine.execCrcLease released holder alg urgentPi s
  | .crcInit unit agent => Sys2Proof.Machine.execCrcInit unit agent s
  | .feedB unit agent value => Sys2Proof.Machine.execFeedB unit agent value s
  | .feedH unit agent value => Sys2Proof.Machine.execFeedH unit agent value s
  | .feedW unit agent value => Sys2Proof.Machine.execFeedW unit agent value s
  | .runningRestore unit agent lo hi => Sys2Proof.Machine.execRunningRestore unit agent lo hi s
  | .rinorTrainingTimeout => Sys2Proof.Machine.execRinorTrainingTimeout s
  | .rinorLinkDown => Sys2Proof.Machine.execRinorLinkDown s
  | .i3cNegotiation port mode khz => Sys2Proof.Machine.execI3cNegotiation port mode khz s
  | .aspmL1Entry port link refStopped => Sys2Proof.Machine.execAspmL1Entry port link refStopped s
  | .interruptAggregationTime fn cqid => Sys2Proof.Machine.execInterruptAggregationTime fn cqid s
  | .suspendLunReady die => Sys2Proof.Machine.execSuspendLunReady die s
  | .supplyHysteresisCrossing mv => Sys2Proof.Machine.execSupplyHysteresisCrossing mv s
  | .vddAoLoss => Sys2Proof.Machine.execVddAoLoss s
  | .stagingDrain => Sys2Proof.Machine.execStagingDrain s
  | .compactClear a v => Sys2Proof.Machine.execCompactClear a v s
  | .cursorWrite pf value => Sys2Proof.Machine.execCursorWrite pf value s
  | .winCtrlWrite pf value => Sys2Proof.Machine.execWinCtrlWrite pf value s
  | .advance pf => Sys2Proof.Machine.execAdvance pf s
  | .freeze pf => Sys2Proof.Machine.execFreeze pf s
  | .windowRefillDone pf unreadable => Sys2Proof.Machine.execWindowRefillDone pf unreadable s
  | .freezeEnd => Sys2Proof.Machine.execFreezeEnd s
  | .traceItemWrite source kind arg words => Sys2Proof.Machine.execTraceItemWrite source kind arg words s
  | .traceEntryClose => Sys2Proof.Machine.execTraceEntryClose s
  | .traceClear a v => Sys2Proof.Machine.execTraceClear a v s
  | .traceDrain r => Sys2Proof.Machine.execTraceDrain r s
  | .histClear a v => Sys2Proof.Machine.execHistClear a v s
  | .histCoveClear a v => Sys2Proof.Machine.execHistCoveClear a v s
  | .heatQuery a v => Sys2Proof.Machine.execHeatQuery a v s
  | .heatEpoch => Sys2Proof.Machine.execHeatEpoch s

end Sys2Proof.Machine
end

