-- ==== Sys2Proof/Machine/Step.lean ====
section
/-! DEFINITION. Machine/Step.lean: one step of the block: the command at the front of the queue, or idle time. -/
namespace Sys2Proof.Machine
open Sys2Proof

/-- The block with no command waiting: 1 µs of anchor time passes, and the calendar with it (R66). [DESIGN CHOICE, log entry 1] -/
def State.idle (s : State) : State := advance s 1000

/-- A step takes the command at the front of the queue and gives it its effect; with no command the block idles. [DESIGN CHOICE, log entries 1, 2] -/
def step (s : State) : Host.Outcome State Fault Refusal :=
  match s.pending with
  | [] => .next s.idle
  | c :: rest => exec c { s with pending := rest }

/-- The command table gives no bits to any row, so a word spells no command and nothing is put in front (log entry 2). -/
def State.withFetchWord (s : State) (_nbits _w : Nat) : State := s

end Sys2Proof.Machine
end

