-- ==== Sys2Proof/Decode.lean ====
section
/-! DEFINITION. Decode.lean: the rows of the command table give no bits, so no word spells a command. -/
namespace Sys2Proof

/-- Commands are not encoded as words: they reach the block as messages, doorbells, register writes and events. [DESIGN CHOICE, log entry 2] -/
def decodeTableWord (_nbits _w : Nat) : Option Instr := none

end Sys2Proof
end

