-- ==== Sys2Proof/WellFormed.lean ====
section
/-! DEFINITION. WellFormed.lean: the operands of each command fit the fields that carry them. A number stands in its
field's width or in the range of the unit it names; a command whose operand does not fit cannot reach the block. -/
namespace Sys2Proof

/-- `x` fits `n` bits. -/
def fits (n x : Nat) : Bool := decide (x < 2 ^ n)

/-- An instance, or the function of that number: 1,024 of them (chapter 00). -/
def isFn (n : Nat) : Bool := decide (n < 1024)

/-- A queue identifier: the admin queue and up to 4,096 (R77). -/
def isQid (n : Nat) : Bool := decide (n ≤ 4096)

/-- A NAND die: 2,048 of them (R226). -/
def isDie (n : Nat) : Bool := decide (n < 2048)

/-- A Cove: 256 of them. -/
def isCove (n : Nat) : Bool := decide (n < 256)

/-- A PCIe port: A (0) or B (1). -/
def isPort (n : Nat) : Bool := decide (n < 2)

/-- Anchor-die speed and voltage domains: four Bays and the hub (R29). -/
def isDomain (n : Nat) : Bool := decide (n < 5)

/-- A path to the dictionary. -/
def Path.wf : Path → Bool
  | .fn n => isFn n
  | _ => true

/-- The fields of a Miowa request (R44, R53). -/
def MiowaReq.wf (r : MiowaReq) : Bool :=
  r.path.wf && fits 4 r.ver && fits 4 r.op && fits 8 r.flags && fits 16 r.tag && fits 16 r.index && fits 8 r.sub && fits 8 r.resv7
    && fits 16 r.inst && fits 16 r.resv10 && fits 32 r.off && fits 32 r.check && fits 16 r.cid && decide (r.value.length ≤ 4096)

/-- The requester of an access to one entry. -/
def Access.wf (a : Access) : Bool := a.path.wf && fits 16 a.tag && fits 16 a.inst && fits 16 a.cid

/-- An NVMe command. -/
def Cmd.wf (c : Cmd) : Bool := isFn c.fn && isQid c.sqid && fits 16 c.cid && fits 32 c.nsid

/-- A command of the admin queue. -/
def Cmd.admin (c : Cmd) : Bool := c.wf && c.sqid == 0

/-- A command of an I/O queue. -/
def Cmd.io (c : Cmd) : Bool := c.wf && c.sqid != 0

/-- A submission-queue entry. -/
def SqEntry.wf (e : SqEntry) : Bool :=
  fits 16 e.cid && fits 8 e.opcode && fits 32 e.nsid && fits 64 e.slba && fits 17 e.nlb && fits 2 e.fuse

/-- A NAND descriptor (R234). -/
def Desc.wf (d : Desc) : Bool :=
  fits 8 d.opcode && decide (d.channel < 32) && fits 3 d.ce && fits 3 d.lun && fits 8 d.pass && fits 8 d.cell && fits 8 d.planeMask
    && fits 32 d.cwMask && fits 8 d.pageType && fits 8 d.level && fits 16 d.block && fits 16 d.wordline && fits 16 d.tag && fits 8 d.gen
    && fits 8 d.feature && fits 64 d.data

/-- A code-flash descriptor (R382). -/
def CfDesc.wf (d : CfDesc) : Bool :=
  decide (d.issuer ≤ 3) && d.execBank.all (fun b => b < 2) && fits 16 d.count && fits 32 d.address && fits 64 d.buffer && fits 32 d.tag

/-- A codeword's address (R246): page types and wordlines of a block in at most four planes. -/
def CwAddr.wf (a : CwAddr) : Bool :=
  isDie a.die && fits 15 a.block && fits 16 a.wl && decide (a.pt < 5) && decide (a.plane < 4) && decide (a.cw < 4)

/-- A mirror record's header (R324). -/
def MirHdr.wf (h : MirHdr) : Bool := fits 64 h.seq && fits 64 h.arg && fits 32 h.len && fits 32 h.group

/-- What a slot answers in negotiation (R229). -/
def SlotReport.wf (r : SlotReport) : Bool :=
  decide (r.slot < 256) && fits 8 r.lunMask && (r.planes == 1 || r.planes == 2 || r.planes == 4)

/-- A block a command carries fits its LBA size at most (16,384 bytes). -/
def Block.wf (b : Block) : Bool := fits 131072 b.data

/-- The data a stored word, a buffer or a transfer held. -/
def Held.wf : Held → Bool
  | .hostWrite n a k => fits 32 n && fits 64 a && fits 17 k
  | .readData n a k => fits 32 n && fits 64 a && fits 17 k
  | .mapJournal n a k => fits 32 n && fits 64 a && fits 32 k
  | .queueContext fn => isFn fn
  | .descriptor d b _ => isDie d && fits 15 b
  | .strandOffsets st => decide (st < 8)
  | .mirrorRegion q => fits 64 q
  | _ => true

/-- A stored word that a read finds wrong (R312). -/
def WordErr.wf (e : WordErr) : Bool :=
  e.bits.all (fun b => b < 80) && e.hard.all (fun b => e.bits.contains b) && e.held.wf

/-- The operands of a command fit. -/
def Instr.wf : Instr → Bool
  | .tideBoundary _ => true
  | .timeBaseSwitch _ _ _ => true
  | .speedMonitorSample dom r => isDomain dom && fits 16 r
  | .speedLow dom r => isDomain dom && decide (r < 1024)
  | .dieLinkTransfer l m h => decide (l < 3) && decide (m ≤ 4) && h.wf
  | .strandGate st => decide (st < 8)
  | .strandWake st => decide (st < 8)
  | .get r => r.wf
  | .describe r => r.wf
  | .set r => r.wf
  | .segRead r => r.wf
  | .segWrite r => r.wf
  | .segAbort r => r.wf
  | .segWriteTimeout i sub n => fits 16 i && fits 8 sub && isFn n
  | .journalRecordProgram _ => true
  | .getLogPageC1 c lsi u l _ => c.admin && fits 16 lsi && fits 32 u && fits 32 l
  | .overlaySelect a x => a.wf && fits 8 x
  | .imageLoad a _ => a.wf
  | .configRevert a x => a.wf && fits 8 x
  | .overlayDelete a x => a.wf && fits 8 x
  | .calendarTime a x => a.wf && fits 64 x
  | .perstAssert p => isPort p
  | .perstDeassert p => isPort p
  | .pcieLinkUp p r w _ => isPort p && decide (1 ≤ r ∧ r ≤ 6) && (w == 1 || w == 2 || w == 4 || w == 8 || w == 16)
  | .pcieTrainingTimeout p => isPort p
  | .hotReset p _ => isPort p
  | .functionLevelReset f => isFn f
  | .registerWrite f bar off w x => isFn f && (bar == 0 || bar == 2 || bar == 4) && fits 32 off && (w == 4 || w == 8) && fits 64 x
  | .serviceWindowAccess f off w _ x => isFn f && fits 32 off && (w == 4 || w == 8) && fits 64 x
  | .traceFifoPop f off w => isFn f && decide (off < 32) && (w == 4 || w == 8 || w == 32)
  | .l0pNarrow p => isPort p
  | .l0pWiden p => isPort p
  | .linkL1Exit p => isPort p
  | .hostDmaError f q c => isFn f && isQid q && fits 16 c
  | .instanceCommit a => a.wf
  | .instanceReclaim a => a.wf
  | .reclaimFinished n => isFn n
  | .vfEnable pf k _ => isPort pf && decide (k ≤ 1023)
  | .controllerEnable f cc => isFn f && fits 32 cc
  | .controllerReady f => isFn f
  | .controllerReset f => isFn f
  | .ccShutdown f sh => isFn f && decide (sh = 1 ∨ sh = 2)
  | .m2tBell n x => isFn n && fits 32 x
  | .t2mBell n x => isFn n && fits 32 x
  | .m2tAck n x => isFn n && fits 32 x
  | .t2mAck n x => isFn n && fits 32 x
  | .mbCauseClear n _ x => isFn n && fits 32 x
  | .pasidEnableChange f _ => isFn f
  | .keySession a sl => a.wf && fits 8 sl
  | .keyDeliver a b => a.wf && decide (b.length ≤ 4096)
  | .keySessionTimeout n => isFn n
  | .sqTailDoorbell f q x => isFn f && isQid q && fits 16 x
  | .cqHeadDoorbell f q x => isFn f && isQid q && fits 16 x
  | .qctxFill f q => isFn f && isQid q
  | .fetchGrant e => e.wf
  | .poolUnitFreed p => decide (1 ≤ p ∧ p ≤ 5)
  | .deleteIoSubmissionQueue c q l => c.admin && fits 16 q && l.all (fits 16)
  | .createIoSubmissionQueue c q k cq p _ => c.admin && fits 16 q && decide (1 ≤ k ∧ k ≤ 65536) && fits 16 cq && fits 2 p
  | .deleteIoCompletionQueue c q => c.admin && fits 16 q
  | .createIoCompletionQueue c q k w _ _ => c.admin && fits 16 q && decide (1 ≤ k ∧ k ≤ 65536) && fits 16 w
  | .getLogPage c lid lsp off _ _ => c.admin && fits 8 lid && fits 7 lsp && fits 64 off
  | .getLogPageC2 c off _ _ => c.admin && fits 64 off
  | .getLogPageC3 c off _ _ => c.admin && fits 64 off
  | .snapshotLapse f => isFn f
  | .identify c cns ct csi => c.admin && fits 8 cns && fits 16 ct && fits 8 csi
  | .abort c q i _ => c.admin && fits 16 q && fits 16 i
  | .getFeatures c f sel d => c.admin && fits 8 f && fits 3 sel && fits 32 d
  | .setArbitration c ab l m h => c.admin && fits 3 ab && fits 8 l && fits 8 m && fits 8 h
  | .setPowerManagement c ps wh => c.admin && fits 5 ps && fits 3 wh
  | .setTemperatureThreshold c t _ k => c.admin && fits 4 t && fits 16 k
  | .setNumberOfQueues c a b => c.admin && fits 16 a && fits 16 b
  | .setInterruptCoalescing c t k => c.admin && fits 8 t && fits 8 k
  | .setInterruptVectorConfiguration c w _ => c.admin && fits 16 w
  | .setAsyncEventConfiguration c b => c.admin && fits 32 b
  | .setAutonomousPowerStateTransition c _ t => c.admin && decide (t.length = 32) && t.all (fun e => fits 5 e.1 && fits 24 e.2)
  | .setHostBehaviorSupport c _ => c.admin
  | .apstTransition => true
  | .asynchronousEventRequest c => c.admin
  | .namespaceCreate c _ n k f p g => c.admin && fits 64 n && fits 64 k && fits 6 f && fits 3 p && fits 2 g
  | .namespaceDelete c => c.admin
  | .namespaceDeleteDone n => fits 32 n
  | .namespaceAttach c l => c.admin && decide (l.length ≤ 2047) && l.all (fits 16)
  | .namespaceDetach c l => c.admin && decide (l.length ≤ 2047) && l.all (fits 16)
  | .firmwareImageDownload c off _ => c.admin && fits 34 off
  | .firmwareCommitVerify c sl => c.admin && fits 3 sl
  | .firmwareCommitReplaceActivate c sl => c.admin && fits 3 sl
  | .firmwareCommitActivate c sl => c.admin && fits 3 sl
  | .fwUpdateHoldTimeout => true
  | .assignCove c k z => c.wf && fits 16 k && fits 64 z
  | .enableDirective c t _ => c.wf && fits 8 t
  | .coveStatus c f _ => c.wf && fits 16 f
  | .zoneUsage c z _ => c.wf && fits 64 z
  | .nvmeMiSend c _ => c.admin
  | .nvmeMiReceive c _ => c.admin
  | .formatNvm c ses f p g => c.admin && fits 3 ses && fits 6 f && fits 3 p && fits 2 g
  | .securitySend c p sp _ => c.admin && fits 8 p && fits 16 sp
  | .securityReceive c p sp _ => c.admin && fits 8 p && fits 16 sp
  | .sanitizeBlockErase c act _ => c.admin && fits 3 act
  | .exitFailureMode c => c.admin
  | .sanitizeDone l => l.all isDie
  | .getLbaStatus c sl rl _ => c.wf && fits 64 sl && fits 64 rl
  | .flush c => c.io
  | .write c sl b _ _ dt ds _ => c.io && fits 64 sl && decide (1 ≤ b.length ∧ b.length ≤ 65536) && b.all Block.wf && fits 4 dt && fits 16 ds
  | .writeAcknowledge f q i => isFn f && isQid q && fits 16 i
  | .read c sl n _ _ _ => c.io && fits 64 sl && decide (1 ≤ n ∧ n ≤ 65536)
  | .writeUncorrectable c sl n => c.io && fits 64 sl && decide (1 ≤ n ∧ n ≤ 65536)
  | .compare c sl b _ => c.io && fits 64 sl && decide (1 ≤ b.length ∧ b.length ≤ 65536) && b.all Block.wf
  | .writeZeroes c sl n _ dt ds => c.io && fits 64 sl && decide (1 ≤ n ∧ n ≤ 65536) && fits 4 dt && fits 16 ds
  | .datasetManagement c _ l => c.io && decide (1 ≤ l.length ∧ l.length ≤ 256) && l.all (fun r => fits 64 r.1 && fits 32 r.2)
  | .verify c sl n _ => c.io && fits 64 sl && decide (1 ≤ n ∧ n ≤ 65536)
  | .zoneOpen c sl _ => c.io && fits 64 sl
  | .zoneClose c sl _ => c.io && fits 64 sl
  | .zoneFinish c sl _ => c.io && fits 64 sl
  | .zoneReset c sl _ => c.io && fits 64 sl
  | .zoneOffline c sl _ => c.io && fits 64 sl
  | .zoneManagementReceive c sl o _ _ => c.io && fits 64 sl && fits 8 o
  | .zoneAppend c z b _ _ => c.io && fits 64 z && decide (1 ≤ b.length ∧ b.length ≤ 65536) && b.all Block.wf
  | .coveDescWrite a c x => a.wf && isCove c && fits 512 x
  | .finishZoneRecommended n z => fits 32 n && fits 32 z
  | .zoneFinishedByController n z => fits 32 n && fits 32 z
  | .mapMiss n p _ _ => fits 32 n && fits 41 p
  | .mapPinLoad c => isCove c
  | .mapWriteback => true
  | .relocationSwitch _ => true
  | .gcStart c => isCove c
  | .wearLevelling d => isDie d
  | .refresh d => isDie d
  | .dieRetire d => isDie d
  | .dieNoticeEnumeration d => isDie d
  | .lossPublish => true
  | .lossAck a x => a.wf && fits 64 x
  | .compressPiece f q i l _ c _ => isFn f && isQid q && fits 16 i && fits 32 l && decide (c < 16)
  | .unitIdleCut n z => fits 32 n && fits 32 z
  | .decodeFrame n z _ _ d dz _ => fits 32 n && fits 32 z && decide (d < 32) && fits 8 dz
  | .nandNegotiation l => l.all SlotReport.wf
  | .slotRetrain sl _ => decide (sl < 256)
  | .operationStart d => isDie d
  | .nandRead d => d.wf && d.opcode == 1
  | .nandReadSoft d => d.wf && d.opcode == 2
  | .nandProgram d => d.wf && d.opcode == 3
  | .nandErase d => d.wf && d.opcode == 4
  | .nandGetFeature d => d.wf && d.opcode == 5
  | .nandSetFeature d => d.wf && d.opcode == 6
  | .nandResetLun d => d.wf && d.opcode == 7
  | .nandReadStatus d => d.wf && d.opcode == 8
  | .nandCompletion d st t sr f => isDie d && fits 8 st && fits 32 t && fits 8 sr && fits 32 f
  | .descriptorWithdraw d t => isDie d && fits 16 t
  | .arrayTimeout d _ => isDie d
  | .suspendRequest d => isDie d
  | .suspendMinRunElapsed d => isDie d
  | .resumeRequest d => isDie d
  | .suspendWindowExpiry d => isDie d
  | .flushEnd l => l.all (fun r => fits 32 r.1 && fits 64 r.2.1 && fits 64 r.2.2)
  | .holdupTest x => fits 16 x
  | .holdupTestSample x => fits 16 x
  | .wtLogDelayExpiry f q i _ => isFn f && isQid q && fits 16 i
  | .hardDecode a _ t o e f u => a.wf && fits 64 t && decide (o ≤ 40960) && decide (e ≤ 40960) && decide (f ≤ 40960) && fits 16 u
  | .ladderStep d b w p l => isDie d && fits 15 b && fits 16 w && decide (p < 5) && l.all (fun r => decide (r.1 < 4) && decide (r.2.1 < 4))
  | .calPersist => true
  | .patrolPace => true
  | .patrolRead d b w p => isDie d && fits 15 b && fits 16 w && decide (p < 5)
  | .admissionDeadline f q i => isFn f && isQid q && fits 16 i
  | .dramNegotiation l => decide (l.length ≤ 6) && l.all (fun c => fits 12 c.1)
  | .dramRequest a _ x o => fits 38 a && fits 512 x && o.all (fun p => p.ready.all (fun b => b < 64) && p.errs.all WordErr.wf)
  | .sameBankRefresh c sb r ba => decide (c < 6) && decide (sb < 2) && decide (r < 2) && decide (ba < 4)
  | .rowTableClear => true
  | .retrainPause c _ => decide (c < 6)
  | .bufferAllocate d _ r n => decide (d ≤ 255) && fits 16 r && fits 16 n
  | .bufferAcquire h r => fits 32 h && fits 16 r
  | .bufferRelease h r => fits 32 h && fits 16 r
  | .wmRecordRc a w => a.wf && decide (w < 6)
  | .scrubAccess r _ e => decide (r < 256) && e.all WordErr.wf
  | .eccTestWrite r => fits 8 r
  | .eccTestWriteData r => fits 8 r
  | .eccTestWriteCheck r => fits 8 r
  | .eccTestReadCorrected r => fits 8 r
  | .eccTestReadRaw r => fits 8 r
  | .rinorLinkUp r w x => fits 8 r && fits 8 w && fits 8 x
  | .formation f => decide (f.position < 2) && fits 64 f.pairId && fits 16 f.stepping && fits 32 f.digest
  | .pairFormTimeout _ => true
  | .mirrorWriteData h l => h.wf && l.all (fun b => fits 32 b.1 && fits 64 b.2.1 && fits 131072 b.2.2)
  | .mirrorUnitStaging h l => h.wf && l.all (fun b => fits 32 b.1 && fits 64 b.2.1 && fits 131072 b.2.2)
  | .metadataDelta h n z w st => h.wf && fits 32 n && fits 32 z && fits 64 w && decide (st < 7)
  | .mirrorRelease h => h.wf
  | .mirrorAck x => fits 64 x
  | .resendRequest q => fits 64 q
  | .adminForward f q i _ => isFn f && isQid q && fits 16 i
  | .pairSharedEntry i sub _ b => fits 16 i && fits 8 sub && decide (b.length ≤ 4096)
  | .powerCoordination t => decide (t ≤ 3)
  | .pairDeadTime _ => true
  | .pairFenceDefer _ => true
  | .takeoverComplete => true
  | .fenced => true
  | .fenceRelease => true
  | .rejoin a => a.wf
  | .surrender a => a.wf
  | .powerOn p _ => decide (p < 2)
  | .powerGood n => decide (3 ≤ n ∧ n ≤ 7)
  | .powerGoodTimeout n => decide (3 ≤ n ∧ n ≤ 7)
  | .powerGoodFall n => decide (3 ≤ n ∧ n ≤ 7)
  | .avsbusTimeout r => isDomain r
  | .ebbIdle => true
  | .powerRequestSleep a x => a.wf && fits 8 x
  | .powerRequestWake a => a.wf
  | .sleepCommit => true
  | .wake src => fits 8 src
  | .supplyWarning x => fits 16 x
  | .supplyFlushLevel x => fits 16 x
  | .tHoldExpiry => true
  | .supplyRecovered => true
  | .supplyResetLevel x => fits 16 x
  | .pfail => true
  | .holdupCharge x => fits 16 x
  | .holdupChargeTimeout => true
  | .atRiskRecompute x => fits 16 x
  | .huTestNow a x => a.wf && fits 8 x
  | .sensorSample n r => decide (n < 64) && r.all (fun x => decide (-32768 ≤ x ∧ x < 32768))
  | .throttleGraceExpiry => true
  | .throttleStep => true
  | .throttleRelease => true
  | .thermalHold => true
  | .nandTempRead sl r => decide (sl < 256) && r.all (fun x => decide (-128 ≤ x ∧ x < 256))
  | .nvmSubsystemReset => true
  | .managementReset a => a.wf
  | .watchdogKick k => decide (k ≤ 16)
  | .watchdogExpiry m => fits 17 m
  | .cfProgram d l => d.wf && l.all (fits 256)
  | .cfErase d => d.wf
  | .cfBlankCheck d => d.wf
  | .cfVerify d l => d.wf && l.all (fits 256)
  | .cfHash d => d.wf
  | .cfOperationComplete b _ t => decide (b < 2) && fits 32 t
  | .cfSuspend b => decide (b < 2)
  | .cfCopyToSram src dst len dig => fits 32 src && fits 64 dst && fits 32 len && fits 256 dig
  | .fwConfirm => true
  | .fwRecoveryImage a _ => a.wf
  | .fwRollbackCommit a x => a.wf && fits 16 x
  | .signerKeyAdd a b => a.wf && decide (b.length ≤ 4096)
  | .signerKeyRemove a b => a.wf && decide (b.length ≤ 4096)
  | .attestChallenge a n => a.wf && fits 256 n
  | .attestReportReady => true
  | .serviceChallenge a => a.wf
  | .serviceUnlock a b => a.wf && decide (b.length ≤ 8192)
  | .serviceLock a x => a.wf && fits 8 x
  | .serviceModeExpiry => true
  | .cfPasswordW a w x => a.wf && decide (w < 4) && fits 32 x
  | .cfUnlockRegion a x => a.wf && fits 8 x
  | .cfLockRegion a x => a.wf && fits 8 x
  | .cfPasswordChange a x => a.wf && fits 8 x
  | .crcLease r h k _ => r.all (fun u => u < 16) && fits 16 h && fits 8 k
  | .crcInit u a => decide (u < 16) && fits 16 a
  | .feedB u a x => decide (u < 16) && fits 16 a && fits 8 x
  | .feedH u a x => decide (u < 16) && fits 16 a && fits 16 x
  | .feedW u a x => decide (u < 16) && fits 16 a && fits 32 x
  | .runningRestore u a l h => decide (u < 16) && fits 16 a && fits 32 l && fits 32 h
  | .rinorTrainingTimeout => true
  | .rinorLinkDown => true
  | .i3cNegotiation p m k => decide (p < 2) && fits 8 m && fits 32 k
  | .aspmL1Entry p l _ => isPort p && decide (3 ≤ l ∧ l ≤ 5)
  | .interruptAggregationTime f q => isFn f && isQid q
  | .suspendLunReady d => isDie d
  | .supplyHysteresisCrossing x => fits 16 x
  | .vddAoLoss => true
  | .stagingDrain => true
  | .compactClear a x => a.wf && fits 8 x
  | .cursorWrite pf x => isPort pf && fits 64 x
  | .winCtrlWrite pf x => isPort pf && fits 32 x
  | .advance pf => isPort pf
  | .freeze pf => isPort pf
  | .windowRefillDone pf l => isPort pf && l.all (fits 64)
  | .freezeEnd => true
  | .traceItemWrite sr k ar ws => fits 8 sr && fits 8 k && fits 12 ar && ws.all (fits 32) && decide (ws.length ≤ 15)
  | .traceEntryClose => true
  | .traceClear a x => a.wf && fits 8 x
  | .traceDrain r => r.wf
  | .histClear a x => a.wf && fits 32 x
  | .histCoveClear a x => a.wf && fits 256 x
  | .heatQuery a x => a.wf && fits 128 x
  | .heatEpoch => true

end Sys2Proof
end

