-- ==== Sys2Proof/Safety.lean ====
section
/-! DEFINITION. Safety.lean: what counts as a safe run, in the terms the statements use: a command that ran, and a state
whose stores keep their form and their capacities. -/
namespace Sys2Proof.Machine
open Sys2Proof

/-- The command ran: neither a fault nor a refusal. -/
def Ran (o : Host.Outcome State Fault Refusal) : Prop := ∃ t, o = .next t

/-- Every keyed store stands in its canonical form (keys strictly rising), and no store exceeds its capacity: 16
check-value units (R217), 1,024 records in the staging queue and in what a flush has programmed of it (R402), 32,768
compact records (R403), 8,192 trace entries (R411). -/
structure Sound (s : State) : Prop where
  dict : s.dict.wf = true
  insts : s.insts.wf = true
  sqs : s.sqs.wf = true
  cqs : s.cqs.wf = true
  nss : s.nss.wf = true
  zones : s.zones.wf = true
  blocks : s.blocks.wf = true
  pis : s.pis.wf = true
  lastCqe : s.lastCqe.wf = true
  hostOut : s.hostOut.wf = true
  barRead : s.barRead.wf = true
  keyChecks : s.keyChecks.wf = true
  msix : s.msix.wf = true
  msixTable : s.msixTable.wf = true
  units : s.crc.units.length = 16
  staging : s.recd.staging.length ≤ 1024
  flushed : s.recd.flushed.length ≤ 1024
  compact : s.recd.compact.length ≤ 32768
  fifo : s.trace.fifo.length ≤ 8192

/-- `t` differs from `s` at most in check-value unit `n`. -/
def OnlyUnit (s t : State) (n : Nat) : Prop :=
  t = { s with crc := { s.crc with units := t.crc.units } } ∧ t.crc.units.length = s.crc.units.length ∧
    ∀ m, m ≠ n → t.crc.units[m]? = s.crc.units[m]?

/-- Between `s` and `t` no entry changed its value but those of `ks`. -/
def OnlyEntries (s t : State) (ks : List Nat) : Prop := ∀ k, k ∉ ks → v t k = v s k

/-- The counters that recording an event may raise. -/
def recordKeys : List Nat := [K.compactDropped, K.stagingDropped, K.freezeOverflows]

/-- From `s` to `t` one event was recorded, where the recorder takes its severity, is not frozen and has room: the newest record
of the staging queue is the event's, with its severity, its arguments and the next SEQ. -/
def Recorded (s t : State) (ev : Nat) (args : List Nat) : Prop :=
  severityOf ev ≤ v s K.recordMinSeverity → s.recd.frozen = false → s.recd.staging.length < 1024 →
    ∃ r, t.recd.staging = s.recd.staging ++ [r] ∧ r.event = ev ∧ r.severity = severityOf ev ∧ r.detail = detailOf ev args ∧
      r.seq = s.recd.nextSeq ∧ t.recd.nextSeq = s.recd.nextSeq + 1

/-- The newest response to a path answers an opcode and a tag with a status and a value. -/
def Answered (t : State) (p : Path) (op tag st : Nat) (value : Bytes) : Prop :=
  ∃ r, t.miowa.resp.get? (pathCode p) = some r ∧ r.op = op ∧ r.tag = tag ∧ r.status = st ∧ r.value = value

/-- The entries that answering a request may change: its counters, and the trace's count of entries lost. -/
def answerKeys : List Nat := [K.mpRequests, K.mpRefused, K.mpLastRefusal, K.traceLost]

/-- `t` is `s` after an answer: the response, its counters and, in band, the completion; of the other entries at most `ks` changed. -/
def OnlyAnswered (s t : State) (ks : List Nat) : Prop :=
  t = { s with dict := t.dict, miowa := { s.miowa with resp := t.miowa.resp }, trace := t.trace, tel := t.tel, insts := t.insts, cqs := t.cqs,
               flights := t.flights, lastCqe := t.lastCqe, hostOut := t.hostOut, msix := t.msix } ∧ OnlyEntries s t (ks ++ answerKeys)

/-- A Miowa request passes every check before its entry, whose row and key it names. -/
def Accepted (s : State) (q : MiowaReq) (r : Row) (key : Nat) : Prop :=
  (outOfBand q.path = true → q.check = crc32c (MiowaReq.bytes q)) ∧ (outOfBand q.path = false → q.saveSel = 0) ∧ headCheck q = 0 ∧
    notNow s q = false ∧ lookup s q.path q.index q.sub q.inst = .ok (r, key) ∧ opFits r q.op = true

/-- A command that is a write of an entry with a row of its own may make it: the entry is there for its path, the value in range. -/
def Allowed (s : State) (a : Access) (idx sub x : Nat) : Prop :=
  ∃ r key, lookup s a.path idx sub a.inst = .ok (r, key) ∧ r.check x = 0

/-- A request is refused with a code: it is answered and counted, and nothing else changes. -/
def Refused (s : State) (c : Instr) (q : MiowaReq) (code : Nat) : Prop :=
  ∃ t, exec c s = .next t ∧ Answered t q.path q.op q.tag code [] ∧ OnlyAnswered s t []

/-- The newest completion of a function is that of a command, with a status. -/
def Completed (t : State) (c : Cmd) (st : NvStatus) : Prop :=
  ∃ e, t.lastCqe.get? c.fn = some e ∧ e.sqid = c.sqid ∧ e.cid = c.cid ∧ e.status = st

/-- From `s` to `t` cause bit `b` was set on the tenant side of instance `n`: every other cause bit is as it was, and one message goes
out on VECTOR exactly when ENABLE is 1 and none is outstanding. -/
def TenantCause (s t : State) (n b : Nat) : Prop :=
  bitAt (inst t n).mailbox.causeT b = true ∧ (∀ i, i ≠ b → bitAt (inst t n).mailbox.causeT i = bitAt (inst s n).mailbox.causeT i) ∧
    (if bitAt (inst s n).mailbox.vector 15 && !(inst s n).mailbox.irqT then
      t.msix = s.msix.updD (n * 2048 + fld (inst s n).mailbox.vector 10 0) 0 (· + 1) else t.msix = s.msix) ∧
    t = { s with insts := t.insts, msix := t.msix } ∧ ∀ m, m ≠ n → inst t m = inst s m

/-- From `s` to `t` cause bit `b` was set on the manager side of instance `n`, and bit n of MB_PENDING; nothing is signalled while an
interrupt is outstanding. -/
def ManagerCause (s t : State) (n b : Nat) : Prop :=
  bitAt (inst t n).mailbox.causeM b = true ∧ (∀ i, i ≠ b → bitAt (inst t n).mailbox.causeM i = bitAt (inst s n).mailbox.causeM i) ∧
    bitAt (v t K.mbPending) n = true ∧ (∀ i, i ≠ n → bitAt (v t K.mbPending) i = bitAt (v s K.mbPending) i) ∧
    ((inst s n).mailbox.irqM = true → t.msix = s.msix) ∧
    ((inst s n).mailbox.irqM = false → t.msix = (pfs s).foldl (fun m p =>
      if bitAt (v s (unitKey K.mbManagerVector p)) 15 then m.updD (p * 2048 + fld (v s (unitKey K.mbManagerVector p)) 10 0) 0 (· + 1) else m) s.msix) ∧
    t = { s with dict := t.dict, insts := t.insts, msix := t.msix } ∧ OnlyEntries s t [K.mbPending] ∧ ∀ m, m ≠ n → inst t m = inst s m

/-- As `Completed`, with Dword 0 of the completion. -/
def CompletedDw (t : State) (c : Cmd) (st : NvStatus) (dw0 : Nat) : Prop :=
  ∃ e, t.lastCqe.get? c.fn = some e ∧ e.sqid = c.sqid ∧ e.cid = c.cid ∧ e.status = st ∧ e.dw0 = dw0

/-- `t` is `s` after a command's completion and nothing else. -/
def OnlyCompleted (s t : State) : Prop :=
  t = { s with dict := t.dict, trace := t.trace, tel := t.tel, insts := t.insts, cqs := t.cqs, flights := t.flights, lastCqe := t.lastCqe,
               msix := t.msix } ∧ OnlyEntries s t [K.traceLost]

/-- A command is refused with a status: it completes with it, and nothing else changes. -/
def Rejected (s : State) (i : Instr) (c : Cmd) (st : NvStatus) : Prop :=
  ∃ t, exec i s = .next t ∧ Completed t c st ∧ OnlyCompleted s t

/-- From `s` to `t` one command was fetched from queue `q` of function `fn`: it is in flight with the next fetch sequence number and the
generation in force. -/
def Fetched (s t : State) (fn q : Nat) (e : SqEntry) : Prop :=
  ∃ f, t.flights = s.flights ++ [f] ∧ f.fn = fn ∧ f.sqid = q ∧ f.cid = e.cid ∧ f.opcode = e.opcode ∧ f.nsid = e.nsid ∧ f.seq = s.eng.nextSeq ∧
    f.gen = s.genNow ∧ f.fetchNs = s.clk.nowNs ∧ t.eng.nextSeq = s.eng.nextSeq + 1

/-- A Firmware Commit of slot `x` activates it where the slot verifies (with its marker's check, or without): the newest marker is an
activate marker with the next SEQUENCE. Where it does not verify, no marker is programmed. Either way the hold of the function ends. -/
def Activates (s : State) (c : Cmd) (i : Instr) (x : Nat) (marker : Bool) : Prop :=
  ∃ t, exec i s = .next t ∧ t.boot = s.boot ∧ t.cf.words = s.cf.words ∧ (s.cf.hold = some c.fn → t.cf.hold = none) ∧
    (imageFault s x marker = 0 → Completed t c .firmwareNeedsReset ∧ v t K.fwBootFallback = 0 ∧
      ∃ m, t.cf.markers = s.cf.markers ++ [m] ∧ m.slot = x ∧ m.kind = 1 ∧ m.confirmed = false ∧ m.seq = lastSeq s + 1) ∧
    (imageFault s x marker ≠ 0 → Completed t c .firmwareInvalidImage ∧ t.cf.markers = s.cf.markers)

/-- `i` is a Write, or with `append` a Zone Append, of the blocks `bs`. -/
def WriteOf (i : Instr) (c : Cmd) (append : Bool) (slba : Nat) (bs : List Block) (fua ordered : Bool) (dtype dspec : Nat) (pi : PiArgs) : Prop :=
  (append = false ∧ i = .write c slba bs fua ordered dtype dspec pi) ∨
    (append = true ∧ ordered = false ∧ dtype = 0 ∧ dspec = 0 ∧ i = .zoneAppend c slba bs fua pi)

/-- `s` with an ordered command in compatibility mode counted: what its checks see (R130). -/
def barrierCounted (s : State) (f : Flight) : State := if f.barrier s then bump32 s (instKey K.orderedBarriers f.fn) else s

/-- The block `b` of a die, which zone `zk` uses at position `p` of allocation `a`, can be relocated to block `q`: no relocation of it runs,
the block is free, and the relocation map has room where the move leaves its place. -/
def Relocatable (s : State) (k : RelocKind) (die b zk a p : Nat) (q : Nat × Nat) : Prop :=
  (blockAt s die b).use = .zone zk a p ∧ moving s die b = false ∧
    pickBlock s (coveDesc s (zoneAt s zk).cove) die = some q ∧
    (q.1 = groupDie (coveDesc s (zoneAt s zk).cove) (zoneAt s zk).group p ∨ relocRoom s k (rkey zk a p) = true)

/-- From `s` to `u` the relocation of that block to `q` was registered, last, under the next number. -/
def Relocates (s u : State) (k : RelocKind) (die b zk a p : Nat) (q : Nat × Nat) : Prop :=
  u.xlat.relocs = s.xlat.relocs ++ [⟨s.xlat.nextReloc, k, die, b, .alloc zk a p q.1 q.2, 0⟩] ∧ u.xlat.nextReloc = s.xlat.nextReloc + 1

/-- `i` writes descriptor `d` of opcode `op` into its LUN's queue. -/
def DescOf (i : Instr) (op : Nat) (d : Desc) : Prop :=
  (op = 1 ∧ i = .nandRead d) ∨ (op = 2 ∧ i = .nandReadSoft d) ∨ (op = 3 ∧ i = .nandProgram d) ∨ (op = 4 ∧ i = .nandErase d) ∨
    (op = 5 ∧ i = .nandGetFeature d) ∨ (op = 6 ∧ i = .nandSetFeature d) ∨ (op = 7 ∧ i = .nandResetLun d) ∨ (op = 8 ∧ i = .nandReadStatus d)

/-- The newest completion of a channel engine. -/
def ChannelDone (t : State) (ch tag st : Nat) : Prop := ∃ e, t.nand.completions.get? ch = some e ∧ e.tag = tag ∧ e.status = st

/-- `i` is the arrival of a record of the mirror of KIND `k`, with its header and what it carries. -/
def MirrorOf (i : Instr) (k : Nat) (h : MirHdr) (b : MirrorBody) : Prop :=
  (∃ l, k = 1 ∧ b = .blocks l ∧ i = .mirrorWriteData h l) ∨ (∃ l, k = 2 ∧ b = .blocks l ∧ i = .mirrorUnitStaging h l) ∨
    (∃ nsid zone wp st, k = 3 ∧ b = .zone nsid zone wp st ∧ i = .metadataDelta h nsid zone wp st)

/-- The package has gone down below its reset level: the rails are down, the other dies hold nothing that must be negotiated again. -/
def Down (t : State) : Prop :=
  t.power.down = true ∧ t.power.step = 2 ∧ t.power.good = 2 ∧ t.power.flushActive = false ∧ t.power.entry = none ∧ t.nand.negotiated = false ∧
    t.dram.negotiated = false ∧ v t K.supplyState = 1 ∧ ∀ k i, t.insts.get? k = some i → i.rdy = false

/-- A rail fault stops the sequence of `s` as a crossing of the reset level; in a state with no zone and no command it is one event. -/
def RailFault (s t : State) (rail : Nat) : Prop :=
  t.power.fault = true ∧ Down t ∧ t.clk = s.clk ∧ t.store = s.store ∧ t.cf = s.cf ∧
    (s.zones = [] → s.flights = [] → s.power.flushActive = false → Recorded s t Ev.railFault [rail, 3])

/-- A power-loss flush of `s` begins; a hold-up test that runs is aborted. -/
def FlushBegins (s t : State) : Prop :=
  t.power.flushActive = true ∧ t.power.flushEnded = false ∧ t.power.flushStartNs = s.clk.nowNs ∧ v t K.supplyState = 2 ∧ t.power.testing = false ∧
    t.power.state = s.power.state ∧ t.store = s.store ∧ t.clk = s.clk ∧ t.boot = s.boot

/-- `i` is a fall below the flush level: its crossing, T_HOLD_US below the warning level, or the power-fail input; `s1` is `s` with its sample. -/
def FlushFall (s : State) (i : Instr) (s1 : State) : Prop :=
  (∃ mv, i = .supplyFlushLevel mv ∧ s1 = supplySample s mv) ∨
    (i = .tHoldExpiry ∧ s1 = s ∧ s.power.armed = true ∧ belowWarning s = true ∧ s.power.state < 2) ∨ (i = .pfail ∧ s1 = s ∧ vb s K.pfailEnable = true)

/-- Every function of every port in use is reset: its queues are gone. -/
def FunctionsReset (s t : State) : Prop := ∀ p ∈ activePorts s, ∀ fn ∈ portFns s p, ∀ q < 8192, t.sqs.get? (qkey fn q) = none

/-- The hub die has restarted: queues, transfers, units, buffers and negotiations are gone, and the package is in Flood with no flush and no sleep entry. -/
def HubRestarted (t : State) : Prop :=
  t.sqs = [] ∧ t.cqs = [] ∧ t.gens = [] ∧ t.msixTable = [] ∧ t.miowa.xfers = [] ∧ t.crc.units = List.replicate 16 CrcUnit.atReset ∧ t.bufs.bufs = [] ∧
    t.nand.negotiated = false ∧ t.dram.negotiated = false ∧ t.power.state = 0 ∧ t.power.flushActive = false ∧ t.power.entry = none ∧ t.wdt.expired = false

/-- The throttle sequence enforces its limit, for a sensor (or 0xFE). -/
def Enforces (t : State) (cause limit : Nat) : Prop :=
  throttleAt t = 2 ∧ t.thermal.cause = cause ∧ t.thermal.limit = limit ∧ t.thermal.critical = true ∧ t.power.ebbThrottle = true

/-- `i` brings the code flash descriptor `d` of opcode `op`, with the words it carries. -/
def CfDescOf (i : Instr) (op : Nat) (d : CfDesc) (ws : List Nat) : Prop :=
  (op = 1 ∧ i = .cfProgram d ws) ∨ (op = 2 ∧ ws = [] ∧ i = .cfErase d) ∨ (op = 3 ∧ ws = [] ∧ i = .cfBlankCheck d) ∨ (op = 4 ∧ i = .cfVerify d ws) ∨
    (op = 5 ∧ ws = [] ∧ i = .cfHash d)

/-- An entry with a row of its own is there for the path of an access. -/
def Reached (s : State) (a : Access) (idx sub : Nat) : Prop := ∃ r key, lookup s a.path idx sub a.inst = .ok (r, key)

/-- The parts of the state, but for the queue of commands. -/
inductive Part
  | clk | dict | genNow | gens | reserved | staged | miowa | store | recd | trace | tel
  | crc | portA | portB | portMode | vfSplit | wakeLow | insts | sqs | cqs | flights | eng
  | nss | zones | blocks | pis | lastCqe | hostOut | barRead | keyChecks | msix | msixTable | power
  | thermal | wdt | nand | comp | dram | bufs | cf | boot | xlat | pair | freeCtr
deriving DecidableEq, Repr

/-- A part of the state is as it was. -/
def Part.same (p : Part) (s t : State) : Prop :=
  match p with
  | .clk => t.clk = s.clk
  | .dict => t.dict = s.dict
  | .genNow => t.genNow = s.genNow
  | .gens => t.gens = s.gens
  | .reserved => t.reserved = s.reserved
  | .staged => t.staged = s.staged
  | .miowa => t.miowa = s.miowa
  | .store => t.store = s.store
  | .recd => t.recd = s.recd
  | .trace => t.trace = s.trace
  | .tel => t.tel = s.tel
  | .crc => t.crc = s.crc
  | .portA => t.portA = s.portA
  | .portB => t.portB = s.portB
  | .portMode => t.portMode = s.portMode
  | .vfSplit => t.vfSplit = s.vfSplit
  | .wakeLow => t.wakeLow = s.wakeLow
  | .insts => t.insts = s.insts
  | .sqs => t.sqs = s.sqs
  | .cqs => t.cqs = s.cqs
  | .flights => t.flights = s.flights
  | .eng => t.eng = s.eng
  | .nss => t.nss = s.nss
  | .zones => t.zones = s.zones
  | .blocks => t.blocks = s.blocks
  | .pis => t.pis = s.pis
  | .lastCqe => t.lastCqe = s.lastCqe
  | .hostOut => t.hostOut = s.hostOut
  | .barRead => t.barRead = s.barRead
  | .keyChecks => t.keyChecks = s.keyChecks
  | .msix => t.msix = s.msix
  | .msixTable => t.msixTable = s.msixTable
  | .power => t.power = s.power
  | .thermal => t.thermal = s.thermal
  | .wdt => t.wdt = s.wdt
  | .nand => t.nand = s.nand
  | .comp => t.comp = s.comp
  | .dram => t.dram = s.dram
  | .bufs => t.bufs = s.bufs
  | .cf => t.cf = s.cf
  | .boot => t.boot = s.boot
  | .xlat => t.xlat = s.xlat
  | .pair => t.pair = s.pair
  | .freeCtr => t.freeCtr = s.freeCtr

/-- What recording an event may change. -/
def eventParts : List Part :=
  [.dict, .recd]

/-- What a completion may change. -/
def completionParts : List Part :=
  [.dict, .trace, .tel, .insts, .cqs, .flights, .lastCqe, .msix]

/-- What the answer to a request may change. -/
def answerParts : List Part :=
  [.dict, .miowa, .trace, .tel, .insts, .cqs, .flights, .lastCqe, .hostOut, .msix]

/-- What the work that goes on after a command may change. -/
def settleParts : List Part :=
  [.dict, .recd, .trace, .tel, .insts, .cqs, .flights, .eng, .nss, .zones, .blocks, .pis, .lastCqe, .hostOut, .keyChecks, .msix, .nand,
   .xlat, .pair, .freeCtr]

/-- What the reset of a function may change. -/
def functionParts : List Part :=
  [.dict, .staged, .miowa, .store, .recd, .trace, .tel, .insts, .sqs, .cqs, .flights, .eng, .nss, .zones, .blocks, .pis, .lastCqe, .msix,
   .msixTable, .nand, .cf, .boot, .xlat, .pair, .freeCtr]

/-- What a restart of the hub die may change. -/
def hubParts : List Part :=
  [.dict, .gens, .staged, .miowa, .recd, .trace, .tel, .crc, .portA, .portB, .wakeLow, .insts, .sqs, .cqs, .flights, .eng, .nss, .zones,
   .blocks, .pis, .lastCqe, .msix, .msixTable, .power, .wdt, .nand, .comp, .dram, .bufs, .cf, .boot, .xlat, .pair, .freeCtr]

/-- What an LTR message may change. -/
def ltrParts : List Part :=
  [.portA, .portB]

/-- The parts of the state that a command may change; every other part is as before. -/
def parts : Instr → List Part
  | .tideBoundary .. => settleParts ++ ltrParts ++ [.clk, .genNow, .gens, .reserved, .staged, .miowa, .crc, .power, .boot]
  | .timeBaseSwitch .. => eventParts ++ [.clk]
  | .speedMonitorSample .. | .holdupTest .. | .powerGood .. | .holdupCharge .. => [.dict, .power]
  | .speedLow .. => settleParts ++ [.power, .thermal]
  | .dieLinkTransfer .. | .relocationSwitch .. | .dieRetire .. | .nandNegotiation .. | .slotRetrain .. | .nandCompletion .. | .arrayTimeout .. |
    .wtLogDelayExpiry .. | .hardDecode .. | .rejoin .. | .surrender .. =>
      settleParts ++ [.miowa]
  | .strandGate .. | .strandWake .. | .descriptorWithdraw .. | .calPersist | .suspendLunReady .. => [.nand]
  | .get .. | .describe .. | .set .. | .segRead .. | .segWrite .. | .segAbort .. | .traceDrain .. => hubParts ++ settleParts ++ [.clk, .reserved, .store]
  | .segWriteTimeout .. => [.miowa]
  | .journalRecordProgram .. => settleParts ++ [.clk, .staged, .miowa, .store]
  | .getLogPageC1 .. | .keyDeliver .. | .wmRecordRc .. | .fwRollbackCommit .. | .traceClear .. | .histClear .. | .histCoveClear .. | .heatQuery .. =>
      answerParts
  | .overlaySelect .. => answerParts ++ [.reserved, .staged, .store, .pair]
  | .imageLoad .. | .configRevert .. | .overlayDelete .. => answerParts ++ [.store]
  | .calendarTime .. => answerParts ++ [.clk]
  | .perstAssert .. => functionParts ++ settleParts ++ ltrParts ++ [.wakeLow, .power, .wdt, .dram]
  | .perstDeassert .. | .l0pNarrow .. | .l0pWiden .. => ltrParts
  | .pcieLinkUp .. => ltrParts ++ eventParts ++ [.wakeLow]
  | .pcieTrainingTimeout .. | .rinorTrainingTimeout | .i3cNegotiation .. => [.dict]
  | .hotReset .. => functionParts ++ settleParts ++ ltrParts ++ [.wakeLow, .power]
  | .functionLevelReset .. => functionParts ++ settleParts ++ ltrParts ++ [.power]
  | .registerWrite .. => [.dict, .insts, .msixTable]
  | .serviceWindowAccess .. => eventParts ++ [.crc, .barRead, .bufs]
  | .traceFifoPop .. => [.dict, .trace, .barRead]
  | .linkL1Exit .. => settleParts ++ ltrParts ++ [.wakeLow, .power, .wdt, .dram]
  | .hostDmaError .. => settleParts ++ ltrParts
  | .instanceCommit .. | .instanceReclaim .. | .coveDescWrite .. | .lossAck .. => answerParts ++ [.clk, .reserved, .staged, .store, .xlat, .pair]
  | .reclaimFinished .. => settleParts ++ [.staged, .miowa, .store, .sqs, .cf, .boot]
  | .vfEnable .. => functionParts ++ settleParts ++ ltrParts ++ [.reserved]
  | .controllerEnable .. => [.insts, .sqs, .cqs]
  | .controllerReady .. => [.insts, .boot]
  | .controllerReset .. => settleParts ++ [.staged, .miowa, .store, .sqs, .power, .cf, .boot]
  | .ccShutdown .. | .poolUnitFreed .. | .abort .. | .flush .. | .write .. | .writeAcknowledge .. | .read .. | .writeUncorrectable .. | .compare .. |
    .writeZeroes .. | .datasetManagement .. | .verify .. | .zoneOpen .. | .zoneClose .. | .zoneFinish .. | .zoneReset .. | .zoneOffline .. | .zoneAppend
    .. | .zoneFinishedByController .. | .mapMiss .. | .mapPinLoad .. | .mapWriteback | .gcStart .. | .wearLevelling .. | .refresh .. |
    .dieNoticeEnumeration .. | .unitIdleCut .. | .admissionDeadline .. | .formation .. | .atRiskRecompute .. =>
      settleParts
  | .m2tBell .. | .t2mBell .. | .m2tAck .. => [.dict, .insts, .msix]
  | .t2mAck .. => [.insts, .msix]
  | .mbCauseClear .. | .pasidEnableChange .. => [.insts]
  | .keySession .. => answerParts ++ [.freeCtr]
  | .keySessionTimeout .. => [.miowa, .insts]
  | .sqTailDoorbell .. => completionParts ++ ltrParts ++ [.recd, .sqs, .power, .wdt, .dram, .pair]
  | .cqHeadDoorbell .. | .deleteIoCompletionQueue .. | .createIoCompletionQueue .. | .setTemperatureThreshold .. | .setNumberOfQueues .. |
    .setInterruptCoalescing .. | .setInterruptVectorConfiguration .. | .setAsyncEventConfiguration .. | .setHostBehaviorSupport .. |
    .asynchronousEventRequest .. | .firmwareCommitVerify .. | .nvmeMiSend .. | .securitySend .. =>
      completionParts
  | .qctxFill .. => [.dict, .trace, .sqs, .flights, .eng]
  | .fetchGrant .. => settleParts ++ ltrParts ++ [.sqs, .power]
  | .deleteIoSubmissionQueue .. => completionParts ++ [.sqs, .eng]
  | .createIoSubmissionQueue .. => completionParts ++ [.sqs]
  | .getLogPage .. | .identify .. | .nvmeMiReceive .. => completionParts ++ [.hostOut, .freeCtr]
  | .getLogPageC2 .. | .securityReceive .. | .getLbaStatus .. => completionParts ++ [.hostOut]
  | .getLogPageC3 .. => completionParts ++ [.recd, .hostOut]
  | .snapshotLapse .. | .cursorWrite .. | .advance .. => [.recd]
  | .getFeatures .. => completionParts ++ [.hostOut, .power]
  | .setArbitration .. => completionParts ++ [.reserved, .staged]
  | .setPowerManagement .. => settleParts ++ [.reserved, .staged, .power]
  | .setAutonomousPowerStateTransition .. => completionParts ++ [.power]
  | .apstTransition | .holdupTestSample .. | .holdupChargeTimeout => settleParts ++ [.power]
  | .namespaceCreate .. | .sanitizeBlockErase .. =>
      completionParts ++ [.reserved, .staged, .recd, .nss, .zones, .blocks, .pis, .keyChecks, .nand, .boot, .xlat, .pair]
  | .namespaceDelete .. | .namespaceAttach .. | .namespaceDetach .. | .formatNvm .. | .sanitizeDone .. | .adminForward .. | .takeoverComplete =>
      settleParts ++ [.reserved, .staged, .boot]
  | .namespaceDeleteDone .. => settleParts ++ [.boot]
  | .firmwareImageDownload .. | .firmwareCommitReplaceActivate .. | .firmwareCommitActivate .. => completionParts ++ [.cf]
  | .fwUpdateHoldTimeout | .cfCopyToSram .. => [.cf]
  | .assignCove .. => completionParts ++ [.eng, .zones]
  | .enableDirective .. => completionParts ++ [.eng, .nss]
  | .coveStatus .. | .zoneUsage .. | .zoneManagementReceive .. => completionParts ++ [.eng, .hostOut]
  | .exitFailureMode .. => completionParts ++ [.boot]
  | .finishZoneRecommended .. => completionParts ++ [.zones]
  | .lossPublish => completionParts ++ [.xlat]
  | .compressPiece .. => settleParts ++ [.comp]
  | .decodeFrame .. => settleParts ++ [.miowa, .crc]
  | .operationStart .. | .suspendRequest .. | .suspendMinRunElapsed .. | .resumeRequest .. | .suspendWindowExpiry .. => [.dict, .trace, .nand]
  | .nandRead .. | .nandReadSoft .. | .nandProgram .. | .nandErase .. | .nandGetFeature .. | .nandSetFeature .. | .nandResetLun .. | .nandReadStatus .. |
    .patrolPace | .patrolRead .. =>
      eventParts ++ [.nand]
  | .flushEnd .. | .supplyRecovered | .nvmSubsystemReset => hubParts ++ settleParts ++ [.store]
  | .ladderStep .. => settleParts ++ [.miowa, .comp]
  | .dramNegotiation .. => eventParts ++ [.insts, .dram, .pair]
  | .dramRequest .. => completionParts ++ [.miowa, .recd, .nss, .zones, .blocks, .pis, .keyChecks, .nand, .dram, .bufs, .xlat, .pair]
  | .sameBankRefresh .. | .rowTableClear => [.dram]
  | .retrainPause .. => [.dict, .dram]
  | .bufferAllocate .. | .bufferRelease .. => completionParts ++ [.recd, .bufs]
  | .bufferAcquire .. => eventParts ++ [.bufs]
  | .scrubAccess .. => completionParts ++ [.miowa, .recd, .nss, .zones, .blocks, .pis, .keyChecks, .nand, .bufs, .xlat, .pair]
  | .eccTestWrite .. | .eccTestWriteData .. | .eccTestWriteCheck .. => [.bufs]
  | .eccTestReadCorrected .. | .eccTestReadRaw .. => [.dict, .bufs]
  | .rinorLinkUp .. | .rinorLinkDown => [.dict, .trace, .pair]
  | .pairFormTimeout .. | .pairDeadTime .. | .pairFenceDefer .. => settleParts ++ [.miowa, .store]
  | .mirrorWriteData .. | .mirrorUnitStaging .. | .metadataDelta .. | .powerCoordination .. | .fenceRelease => [.pair]
  | .mirrorRelease .. => [.zones, .blocks, .pis, .pair]
  | .mirrorAck .. => settleParts ++ [.reserved, .staged, .miowa, .store, .power, .boot]
  | .resendRequest .. | .traceItemWrite .. | .traceEntryClose => [.dict, .trace]
  | .pairSharedEntry .. => settleParts ++ [.reserved, .staged, .store]
  | .fenced | .managementReset .. | .watchdogExpiry .. | .cfOperationComplete .. => hubParts ++ settleParts
  | .powerOn .. => hubParts ++ [.clk, .genNow, .reserved, .store, .portMode, .vfSplit, .hostOut, .barRead, .thermal]
  | .powerGoodTimeout .. | .powerGoodFall .. | .avsbusTimeout .. | .supplyResetLevel .. =>
      completionParts ++ [.recd, .nss, .zones, .blocks, .pis, .power, .nand, .dram, .boot, .xlat, .pair, .freeCtr]
  | .ebbIdle => [.power]
  | .powerRequestSleep .. => answerParts ++ [.power, .pair]
  | .powerRequestWake .. => settleParts ++ ltrParts ++ [.miowa, .power, .wdt, .dram]
  | .sleepCommit => ltrParts ++ [.dict, .miowa, .trace, .power, .wdt, .nand, .dram, .pair]
  | .wake .. => settleParts ++ ltrParts ++ [.power, .wdt, .dram]
  | .supplyWarning .. | .supplyHysteresisCrossing .. => [.dict, .trace, .power]
  | .supplyFlushLevel .. | .tHoldExpiry | .pfail => completionParts ++ [.recd, .zones, .power, .nand, .xlat]
  | .huTestNow .. => answerParts ++ [.power]
  | .sensorSample .. => settleParts ++ ltrParts ++ [.power, .thermal, .wdt, .dram]
  | .throttleGraceExpiry | .throttleRelease => [.dict, .trace, .power, .thermal]
  | .throttleStep => [.thermal]
  | .thermalHold => eventParts ++ [.trace, .thermal]
  | .nandTempRead .. => settleParts ++ [.miowa, .thermal]
  | .watchdogKick .. => [.wdt]
  | .cfProgram .. | .cfErase .. | .cfBlankCheck .. | .cfVerify .. | .cfHash .. | .cfSuspend .. | .fwConfirm => [.dict, .cf]
  | .fwRecoveryImage .. | .cfPasswordW .. | .cfUnlockRegion .. | .cfLockRegion .. | .cfPasswordChange .. => answerParts ++ [.cf]
  | .signerKeyAdd .. | .signerKeyRemove .. | .attestChallenge .. => answerParts ++ [.boot]
  | .attestReportReady => [.miowa, .boot]
  | .serviceChallenge .. => answerParts ++ [.boot, .freeCtr]
  | .serviceUnlock .. => answerParts ++ [.recd, .boot]
  | .serviceLock .. => answerParts ++ [.recd, .cf, .boot]
  | .serviceModeExpiry => eventParts ++ [.cf, .boot]
  | .crcLease .. => [.dict, .crc]
  | .crcInit .. | .feedB .. | .feedH .. | .feedW .. | .runningRestore .. => [.crc]
  | .aspmL1Entry .. => ltrParts ++ [.wakeLow]
  | .interruptAggregationTime .. => [.cqs, .msix]
  | .vddAoLoss => completionParts ++ [.store, .recd, .nss, .zones, .blocks, .pis, .power, .nand, .dram, .cf, .boot, .xlat, .pair, .freeCtr]
  | .stagingDrain | .winCtrlWrite .. | .freeze .. | .windowRefillDone .. | .freezeEnd => eventParts
  | .compactClear .. => answerParts ++ [.recd]
  | .heatEpoch => [.miowa, .tel, .freeCtr]

end Sys2Proof.Machine
end

