-- ==== Sys2Proof/Certificates/Slice0/Obligations.lean ====
section
/-! DEFINITION. Certificates/Slice0/Obligations.lean: the statements for the provers. -/
open Sys2Proof Sys2Proof.Machine

/-- TIDE_BOUNDARY (R11, R33, R36, R38): one boundary, the next number, nothing left for it. The start time where an event has
come later is the model's choice (log entry 5). -/
def Obligations.tide_boundary : Prop := ∀ (s : State) (b : Bool), ∃ t, exec (.tideBoundary b) s = .next t ∧
  t.clk.tide = s.clk.tide + 1 ∧ t.clk.tideStartNs = Nat.max s.clk.nowNs (s.clk.tideStartNs + v s K.tideLength * 1000) ∧
  t.clk.nowNs = t.clk.tideStartNs ∧ (∀ x ∈ t.staged, t.clk.tide < x.tide) ∧ s.genNow ≤ t.genNow ∧
  t.cf = s.cf ∧ t.dram = s.dram ∧ t.bufs = s.bufs ∧ t.comp = s.comp ∧ t.sqs = s.sqs ∧ t.thermal = s.thermal ∧
  t.wdt = s.wdt ∧ t.store = s.store ∧ t.portMode = s.portMode ∧ t.vfSplit = s.vfSplit

/-- R29 to R32: TIME_BASE_SWITCH, SPEED_MONITOR_SAMPLE, SPEED_LOW. Which reading a domain is held at in Ebb is the model's (log entry 105). -/
def Obligations.time_base_and_speed : Prop := ∀ s : State,
  (∀ c a b, ∃ t, exec (.timeBaseSwitch c a b) s = .next t ∧
    t.clk = { s.clk with crystalOk := c, refAOk := a, refBOk := b, source := t.clk.source } ∧
    (v s K.timeBaseSelect = 0 → t.clk.source = if c then 1 else if a then 2 else if b then 3 else 4) ∧
    (t.clk.source = s.clk.source → t.recd = s.recd ∧ t.dict = s.dict) ∧
    (t.clk.source ≠ s.clk.source → Recorded s t Ev.timeBaseSwitch [s.clk.source, t.clk.source]) ∧
    t = { s with clk := t.clk, dict := t.dict, recd := t.recd } ∧ OnlyEntries s t recordKeys) ∧
  (∀ dom r, domainOn s dom = true → ∃ t, exec (.speedMonitorSample dom r) s = .next t ∧
    v t (if dom = 4 then K.speedHub else unitKey K.speedBay dom) = Nat.min r 4095 ∧
    v t (unitKey K.coreMv (domainRail dom)) =
      (if r < speedHeld s then Nat.min 850 (v s (unitKey K.coreMv (domainRail dom)) + 5) else v s (unitKey K.coreMv (domainRail dom))) ∧
    OnlyEntries s t [if dom = 4 then K.speedHub else unitKey K.speedBay dom, unitKey K.coreMv (domainRail dom)] ∧
    t = { s with dict := t.dict, power := { s.power with slow := t.power.slow, request := t.power.request } }) ∧
  (∀ dom r, domainOn s dom = true → r < 1024 → v s (unitKey K.coreMv (domainRail dom)) = 850 →
    ∃ t, exec (.speedLow dom r) s = .next t ∧ t.power.slow = dom :: s.power.slow.filter (· != dom) ∧
      (throttleAt s = 0 → throttleAt t = 1 ∧ t.thermal.cause = 0xFE ∧ t.thermal.critical = true) ∧
      (throttleAt s = 1 → t.thermal = s.thermal) ∧ t.clk = s.clk ∧ t.staged = s.staged ∧ t.sqs = s.sqs ∧ t.cf = s.cf ∧ t.dram = s.dram)

/-- R18, R19, R257, R282: DIE_LINK_TRANSFER, STRAND_GATE, STRAND_WAKE. What counts as idle is the model's reading (log entry 106). -/
def Obligations.die_links_and_strands : Prop := ∀ s : State,
  (∀ l m h, m ≤ 3 → exec (.dieLinkTransfer l m h) s = .next s) ∧
  (∀ l m h, 3 < m → ∃ u, exec (.dieLinkTransfer l m h) s = .next (settle u) ∧
    (h = .free → Recorded s u Ev.dieLinkGiveup [l, m]) ∧
    (∀ fn, h = .queueContext fn → (inst u fn).cfs = true) ∧
    (∀ id d, h = .mapPage id d → id ∉ u.xlat.cached ∧ id ∈ u.xlat.cold ∧ id ∉ u.xlat.dirty ∧ (d = true → id ∈ u.xlat.journal)) ∧
    (∀ q, h = .mirrorRegion q → ∀ r ∈ u.pair.recv, r.seq = q → r.good = false) ∧
    u.clk = s.clk ∧ u.staged = s.staged ∧ u.sqs = s.sqs ∧ u.power = s.power ∧ u.cf = s.cf ∧ u.dram = s.dram) ∧
  (∀ x, x < 8 → strandDown s x = false → strandIdle s x = true → (s.power.state = 0 → strandBounded s x = false) →
    ∃ t, exec (.strandGate x) s = .next t ∧ t.nand.gated = s.nand.gated ++ [x] ∧ strandDown t x = true ∧
      (∀ k, k / 128 / 256 ≠ x → t.nand.offs.get? k = s.nand.offs.get? k) ∧
      (∀ k e, k / 128 / 256 = x → s.nand.offs.get? k = some e →
        t.nand.offs.get? k = some { e with s := 0, n1 := 0, e10 := 0, e01 := 0 }) ∧
      t = { s with nand := { s.nand with gated := t.nand.gated, offs := t.nand.offs } }) ∧
  (∀ x, strandIdle s x = false → exec (.strandGate x) s = .next s) ∧
  (∀ x, s.nand.gated.contains x = true → strandOwned s x = true → s.power.state < 2 →
    ∃ t, exec (.strandWake x) s = .next t ∧ t = { s with nand := { s.nand with gated := s.nand.gated.filter (· != x) } } ∧ x ∉ t.nand.gated)

/-- GET and DESCRIBE (R47, R51, R418). Which of several pending values is shown is the model's choice (log entry 107). -/
def Obligations.dict_read : Prop := ∀ (s : State) (q : MiowaReq) (r : Row) (key : Nat), Accepted s q r key →
  (q.op = 1 → ¬ (r.idx = 0x5104 ∧ 7 ≤ q.sub) → ¬ (r.idx = 0x8120 ∧ q.sub = 1) →
    ∃ t, exec (.get q) s = .next t ∧
      (bitAt q.flags 0 = false ∨ pendingLast s key = none →
        Answered t q.path 1 q.tag 0 (leBytes r.size (if r.acc = 3 then 0 else valueNow s key)) ∧
        (r.acc = 7 → key ∉ answerKeys → v t key = 0) ∧ OnlyAnswered s t (if r.acc = 7 then [key] else [])) ∧
      (∀ w x, bitAt q.flags 0 = true → pendingLast s key = some (w, x) →
        Answered t q.path 1 q.tag 0 (leBytes r.size x) ∧ OnlyAnswered s t [] ∧
        ∃ a, t.miowa.resp.get? (pathCode q.path) = some a ∧ a.applyTide = w)) ∧
  (q.op = 3 → ∃ t, exec (.describe q) s = .next t ∧
    Answered t q.path 3 q.tag 0
      (leBytes 1 r.ty ++ leBytes 1 (accOf r q.sub) ++ leBytes 1 r.priv ++ leBytes 1 r.cls
        ++ leBytes 4 (if r.ty = 14 then (domainBytes s key).length else r.size)
        ++ leBytes 4 (boundsOf s r q.sub).1 ++ leBytes 4 (boundsOf s r q.sub).2) ∧ OnlyAnswered s t [])

/-- R34, R36, R45, R46, R49, R50: SET and JOURNAL_RECORD_PROGRAM. -/
def Obligations.dict_write : Prop := ∀ s : State,
  (∀ (q : MiowaReq) (r : Row) (key : Nat), Accepted s q r key → q.op = 2 → readOnly r q.sub = false → q.value.length = r.size →
    writeCheck s r key (leNat q.value) = 0 → formCheck s r q.sub (leNat q.value) = 0 → ownWrite s q (leNat q.value) = none →
    key ≠ K.resetRequest →
    ∃ t, exec (.set q) s = .next t ∧
      (r.acc = 2 → entryOff s key = false → key ∉ K.nodeIdSet :: answerKeys → v t key = leNat q.value) ∧
      (r.acc = 4 → canStage s (applyTide s) = true →
        (⟨applyTide s, .entry key (leNat q.value)⟩ : Staged) ∈ t.staged ∧
        ∃ a, t.miowa.resp.get? (pathCode q.path) = some a ∧ a.status = 0 ∧ a.tag = q.tag ∧ a.applyTide = applyTide s) ∧
      (r.acc = 4 ∨ r.acc = 6 → canStage s (applyTide s) = false →
        t.staged = s.staged ∧ t.reserved = s.reserved ∧ t.store = s.store ∧ v t K.stageRefused = satAdd 32 (v s K.stageRefused) 1 ∧
        ∃ a, t.miowa.resp.get? (pathCode q.path) = some a ∧ a.status = 0x0A ∧ a.tag = q.tag) ∧
      (r.acc = 5 → entryOff s key = false → v t key = v s key ∧ t.miowa.resp = s.miowa.resp ∧
        ∃ p, t.store.queue = s.store.queue ++ [p] ∧ p.req = q ∧ p.recs = [jrec key 1 (leBytes r.size (leNat q.value)) 0] ∧ p.kind = .rwp) ∧
      (r.acc = 6 → canStage s (applyTide s) = true → t.miowa.resp = s.miowa.resp ∧
        (⟨applyTide s, .entry key (leNat q.value)⟩ : Staged) ∈ t.staged ∧
        ∃ p, t.store.queue = s.store.queue ++ [p] ∧ p.kind = .rwsp (applyTide s))) ∧
  (∀ (p : JPend) (rest : List JPend) (key : Nat) (b : Bytes), s.store.queue = p :: rest → p.left ≤ 1 → p.answer = true → p.kind = .rwp →
    p.recs = [jrec key 1 b 0] → mirroring s = false → Machine.isDomain key = false → imageKeys key = [key] →
    (∃ u, exec (.journalRecordProgram true) s = .next (settle u) ∧ u.store.queue = rest ∧ jrec key 1 b 0 ∈ u.store.journal ∧
      (key ∉ K.nodeIdSet :: answerKeys → v u key = leNat b) ∧
      ∃ a, u.miowa.resp.get? (pathCode p.req.path) = some a ∧ a.status = 0 ∧ a.tag = p.req.tag) ∧
    (∃ u, exec (.journalRecordProgram false) s = .next (settle u) ∧ u.store = { s.store with queue := rest } ∧ OnlyEntries s u answerKeys ∧
      ∃ a, u.miowa.resp.get? (pathCode p.req.path) = some a ∧ a.status = 0x10 ∧ a.tag = p.req.tag))

/-- R42 to R45, R53: the refusals of the dictionary's engine. -/
def Obligations.dict_refused : Prop := ∀ (s : State) (q : MiowaReq) (c : Instr),
  (c = .get q ∧ q.op = 1 ∨ c = .set q ∧ q.op = 2 ∨ c = .describe q ∧ q.op = 3 ∨ c = .segRead q ∧ q.op = 4 ∨
    c = .segWrite q ∧ q.op = 5 ∨ c = .segAbort q ∧ q.op = 6) →
  (outOfBand q.path = true → q.check ≠ crc32c (MiowaReq.bytes q) →
    ∃ t, exec c s = .next t ∧ t = { s with dict := t.dict } ∧ v t K.mpCheckDrops = satAdd 32 (v s K.mpCheckDrops) 1 ∧
      OnlyEntries s t [K.mpCheckDrops]) ∧
  ((outOfBand q.path = true → q.check = crc32c (MiowaReq.bytes q)) → (outOfBand q.path = false → q.saveSel = 0) →
    (headCheck q ≠ 0 → Refused s c q (headCheck q)) ∧
    (headCheck q = 0 → notNow s q = false → ∀ e, lookup s q.path q.index q.sub q.inst = .error e → Refused s c q e) ∧
    (∀ r key, Accepted s q r key → q.op = 2 →
      (readOnly r q.sub = true → Refused s c q 0x05) ∧
      (readOnly r q.sub = false → q.value.length ≠ r.size → Refused s c q 0x06) ∧
      (readOnly r q.sub = false → q.value.length = r.size → r.check (leNat q.value) ≠ 0 → Refused s c q (r.check (leNat q.value)))))

/-- R56 to R60, R408: SEG_READ, SEG_WRITE, SEG_ABORT, SEG_WRITE_TIMEOUT, TRACE_DRAIN, GET_LOG_PAGE_C1. -/
def Obligations.dict_segments : Prop := ∀ s : State, Sound s →
  (∀ q r key, Accepted s q r key → q.op = 4 → q.value.length = 4 → q.off = 0 → key ≠ K.traceDrain → isHist key = false →
    (key = K.attestReport → s.boot.building = false) →
    ∃ t, exec (.segRead q) s = .next t ∧
      Answered t q.path 4 q.tag 0 ((domainBytes s key).take (Nat.min (leNat q.value) (segMost q.path)))) ∧
  (∀ q r key, Accepted s q r key → q.op = 5 → readOnly r q.sub = false → bitAt q.flags 1 = true → bitAt q.flags 2 = false →
    (∀ x, s.miowa.xfers.get? key = some x → x.path = q.path) → q.off ≠ 0 → (fixedTotal key ≠ 0 → q.off = fixedTotal key) →
    q.value.length ≤ q.off →
    ∃ t, exec (.segWrite q) s = .next t ∧ t.miowa.xfers.get? key = some ⟨q.path, q.off, q.value, false⟩ ∧
      Answered t q.path 5 q.tag 0 [] ∧ OnlyEntries s t answerKeys) ∧
  (∀ q r key x, Accepted s q r key → q.op = 5 → readOnly r q.sub = false → bitAt q.flags 1 = false →
    s.miowa.xfers.get? key = some x → x.path = q.path → x.expired = false →
    (bitAt q.flags 2 = false → q.off = x.got.length → x.got.length + q.value.length ≤ x.total →
      ∃ t, exec (.segWrite q) s = .next t ∧ t.miowa.xfers.get? key = some { x with got := x.got ++ q.value } ∧
        Answered t q.path 5 q.tag 0 []) ∧
    (q.off ≠ x.got.length →
      ∃ t, exec (.segWrite q) s = .next t ∧ t.miowa.xfers = s.miowa.xfers ∧ Answered t q.path 5 q.tag 0x0D [])) ∧
  (∀ q r key x, Accepted s q r key → q.op = 6 → s.miowa.xfers.get? key = some x → x.path = q.path → x.expired = false →
    ∃ t, exec (.segAbort q) s = .next t ∧ t.miowa.xfers = s.miowa.xfers.del key ∧ Answered t q.path 6 q.tag 0 []) ∧
  (∀ idx sub inst x, s.miowa.xfers.get? (entryKey idx sub inst) = some x →
    ∃ t, exec (.segWriteTimeout idx sub inst) s = .next t ∧
      t.miowa.xfers.get? (entryKey idx sub inst) = some { x with expired := true } ∧ t = { s with miowa := { s.miowa with xfers := t.miowa.xfers } } ∧
      ∀ q r, Accepted t q r (entryKey idx sub inst) → q.op = 5 → readOnly r q.sub = false → bitAt q.flags 1 = false → x.path = q.path →
        ∃ t', exec (.segWrite q) t = .next t' ∧ t'.miowa.xfers = t.miowa.xfers.del (entryKey idx sub inst) ∧ Answered t' q.path 5 q.tag 0x0C []) ∧
  (∀ q r, Accepted s { q with index := 0x9101, sub := 4 } r K.traceDrain → q.op = 4 → q.value.length = 4 →
    ∃ t, exec (.traceDrain q) s = .next t ∧
      t.trace.fifo = s.trace.fifo.drop (Nat.min (leNat q.value) (segMost q.path) / 32)) ∧
  (∀ c lsi sub len r key, c.resv = false → sub < 256 → lookup s (.fn c.fn) lsi sub 0 = .ok (r, key) → r.ty = 14 → key ≠ K.traceDrain →
    isHist key = false → (key = K.attestReport → s.boot.building = false) →
    ∃ t, exec (.getLogPageC1 c lsi sub 0 len) s = .next t ∧ Completed t c .success ∧
      t.hostOut.get? c.fn = some (segment ((domainBytes s key).take len) 0 len))

/-- R62 to R64, R66: IMAGE_LOAD, OVERLAY_SELECT, OVERLAY_DELETE, CONFIG_REVERT, CALENDAR_TIME. -/
def Obligations.dict_images : Prop := ∀ (s : State) (a : Access), Sound s →
  (∀ b l, (∃ r key, lookup s a.path 0x1100 4 a.inst = .ok (r, key)) → imgShape b = true → cfgSigned s b = true → imgHeader s b = true →
    imgRecs (imgBodyLen b + 1) ((b.drop 64).take (imgBodyLen b)) = some l → l.length = leAt b 16 4 → recsCheck s (imgKind b) 0 none l = none →
    ∃ t, exec (.imageLoad a b) s = .next t ∧ Answered t a.path 5 a.tag 0 [] ∧ OnlyEntries s t answerKeys ∧
      (imgKind b = 1 → t.store.baseImage = b ∧ t.store.baseId = leAt b 8 4 ∧ t.store.journal = [] ∧ t.store.baseInForce = s.store.baseInForce) ∧
      (imgKind b ≠ 1 → t.store.overlays.get? (leAt b 7 1) = some ⟨leAt b 8 4, b, imgValues l⟩ ∧ t.store.journal = s.store.journal)) ∧
  (∀ b, (∃ r key, lookup s a.path 0x1100 4 a.inst = .ok (r, key)) → imgShape b = true → cfgSigned s b = false →
    ∃ t, exec (.imageLoad a b) s = .next t ∧ Answered t a.path 5 a.tag 0x11 [] ∧ t.store = s.store) ∧
  (∀ x, Allowed s a 0x1100 2 x → s.store.overlays.get? x = none → canStage s (applyTide s) = true →
    ∃ t p, exec (.overlaySelect a x) s = .next t ∧ (⟨applyTide s, .entry K.overlaySelect x⟩ : Staged) ∈ t.staged ∧
      t.store.queue = s.store.queue ++ [p] ∧ p.kind = .rwsp (applyTide s) ∧ v t K.overlaySelect = v s K.overlaySelect) ∧
  (∀ x, Allowed s a 0x1100 9 x →
    (x ≠ v s K.overlaySelect → ∃ t, exec (.overlayDelete a x) s = .next t ∧ t.store = { s.store with overlays := s.store.overlays.del x } ∧
      Answered t a.path 2 a.tag 0 []) ∧
    (x = v s K.overlaySelect → ∃ t, exec (.overlayDelete a x) s = .next t ∧ t.store = s.store ∧ Answered t a.path 2 a.tag 0x0B [])) ∧
  (∀ x, Allowed s a 0x1100 6 x → ∃ t, exec (.configRevert a x) s = .next t ∧ t.store = { s.store with journal := [] } ∧
    Answered t a.path 2 a.tag 0 [] ∧ OnlyEntries s t answerKeys) ∧
  (∀ x, Allowed s a 0x1200 3 x → x < 2 ^ 63 → ∃ t, exec (.calendarTime a x) s = .next t ∧ Answered t a.path 2 a.tag 0 [] ∧ t.clk.calSet = true ∧
    (s.clk.calSet = false ∨ 1000000000 < ((x * 1000 : Int) - s.clk.calNs).natAbs → time64 t = x ∧ t.clk.slewNs = 0) ∧
    (s.clk.calSet = true → ((x * 1000 : Int) - s.clk.calNs).natAbs ≤ 1000000000 →
      t.clk = { s.clk with slewNs := (x * 1000 : Int) - s.clk.calNs })) ∧
  (∀ x, Allowed s a 0x1200 3 x → 2 ^ 63 ≤ x → ∃ t, exec (.calendarTime a x) s = .next t ∧ Answered t a.path 2 a.tag 0x07 [] ∧ t.clk = s.clk)

/-- R71, R72, R75 and, for I3C, R65: PERST_DEASSERT, PCIE_LINK_UP, PCIE_TRAINING_TIMEOUT, I3C_NEGOTIATION. What an I3C port offers is the
model's reading (log entry 20). -/
def Obligations.port_training : Prop := ∀ (s : State) (p : Nat),
  (portActive s p = true → (port s p).perst = true → ∃ t, exec (.perstDeassert p) s = .next t ∧
    port t p = { port s p with perst := false, link := 6, subsysVid := v s K.subsysVendorId, subsysId := v s K.subsysId } ∧
    port t (1 - p) = port s (1 - p) ∧ t = { s with portA := t.portA, portB := t.portB }) ∧
  (∀ rate width flit, portActive s p = true → (port s p).perst = false → ∃ t, exec (.pcieLinkUp p rate width flit) s = .next t ∧
    (port t p).link = 1 ∧ (port t p).rate = rate ∧ (port t p).width = width ∧ (port t p).flit = flit ∧ (port t p).l0pWidth = width ∧
    negOutcome (v t (unitKey K.pcieNegotiation p)) = (if pcieMode rate width flit = pcieOffered s p then 1 else 2) ∧
    (pcieMode rate width flit = pcieOffered s p → t.recd = s.recd) ∧
    (pcieMode rate width flit ≠ pcieOffered s p → Recorded s t Ev.pcieNegLower [p, pcieMode rate width flit]) ∧
    port t (1 - p) = port s (1 - p) ∧ OnlyEntries s t (unitKey K.pcieNegotiation p :: recordKeys) ∧
    t = { s with dict := t.dict, recd := t.recd, portA := t.portA, portB := t.portB, wakeLow := t.wakeLow }) ∧
  ((port s p).link = 6 → ∃ t, exec (.pcieTrainingTimeout p) s = .next t ∧ negOutcome (v t (unitKey K.pcieNegotiation p)) = 3 ∧
    t = { s with dict := t.dict } ∧ OnlyEntries s t [unitKey K.pcieNegotiation p]) ∧
  (∀ mode khz, p ≤ 1 → mode ≤ 3 → (mode = 3 → p = 1) → ∃ t, exec (.i3cNegotiation p mode khz) s = .next t ∧
    negOutcome (v t (unitKey K.i3cNegotiation p)) =
      (if mode = 0 then 3 else if mode * 2 ^ 24 + khz % 2 ^ 24 = i3cOffered then 1 else 2) ∧
    t = { s with dict := t.dict } ∧ OnlyEntries s t [unitKey K.i3cNegotiation p])

/-- R81, R82, R84: L0P_NARROW, L0P_WIDEN, ASPM_L1_ENTRY, LINK_L1_EXIT. -/
def Obligations.link_states : Prop := ∀ (s : State) (p : Nat),
  (s.power.state = 1 → ((port s p).link = 1 ∨ (port s p).link = 2) → (port s p).flit = true → narrower (port s p) < (port s p).l0pWidth →
    ∃ t, exec (.l0pNarrow p) s = .next t ∧ (port t p).l0pWidth = narrower (port s p) ∧ (port t p).link = 2 ∧
      (port t p).ltrNs = 5000 ∧ t = { s with portA := t.portA, portB := t.portB }) ∧
  ((port s p).link = 2 → ∃ t, exec (.l0pWiden p) s = .next t ∧ (port t p).l0pWidth = (port s p).width ∧ (port t p).link = 1 ∧
    (port t p).ltrNs = ltrOf s.power.state ∧ t = { s with portA := t.portA, portB := t.portB }) ∧
  (∀ link stopped, 3 ≤ link → link ≤ 5 → 1 ≤ (port s p).link → (port s p).link ≤ 5 →
    ∃ t, exec (.aspmL1Entry p link stopped) s = .next t ∧ port t p = { port s p with link := link, refStopped := stopped && link == 5 } ∧
      t.wakeLow = (t.portA.wantsWake || (t.portMode == 0 && t.portB.wantsWake)) ∧
      t = { s with portA := t.portA, portB := t.portB, wakeLow := t.wakeLow }) ∧
  (3 ≤ (port s p).link → ∃ t, exec (.linkL1Exit p) s = .next t ∧ (port t p).link = 1 ∧ (port t p).pme = false ∧ (port t p).refStopped = false ∧
    (s.power.entry = none → 2 ≤ s.power.state → wakeEnabled s (p + 1) = true → t.power.state = 0 ∧ t.dram.selfRefresh = false) ∧
    (s.power.entry = none → s.power.state < 2 → t.power = s.power ∧ t.dram = s.dram) ∧
    t.clk = s.clk ∧ t.staged = s.staged ∧ t.sqs = s.sqs ∧ t.cf = s.cf ∧ t.thermal = s.thermal ∧ t.boot = s.boot)

/-- R85 to R87, R370, R372, R374: PERST_ASSERT, HOT_RESET, FUNCTION_LEVEL_RESET, HOST_DMA_ERROR. -/
def Obligations.function_resets : Prop := ∀ (s : State) (p : Nat),
  (portActive s p = true → (port s p).perst = false → ∃ t, exec (.perstAssert p) s = .next t ∧
    port t p = { Port.atReset with perst := true, attempts := (port s p).attempts, subsysVid := (port s p).subsysVid, subsysId := (port s p).subsysId } ∧
    (∀ fn ∈ portFns s p, ∀ q < 8192, t.sqs.get? (qkey fn q) = none) ∧ t.cf.words = s.cf.words ∧ t.store.journal = s.store.journal ∧ t.dram.mem = s.dram.mem ∧
    (port t (1 - p)).link = (port s (1 - p)).link) ∧
  (∀ down, portActive s p = true → s.power.flushActive = false → ∃ t, exec (.hotReset p down) s = .next t ∧
    port t p = { Port.atReset with perst := (port s p).perst, attempts := (port s p).attempts, subsysVid := (port s p).subsysVid,
                                   subsysId := (port s p).subsysId, aerSticky := (port s p).aerSticky } ∧
    (∀ fn ∈ portFns s p, ∀ q < 8192, t.sqs.get? (qkey fn q) = none) ∧ t.cf.words = s.cf.words ∧ t.store.journal = s.store.journal ∧ t.dram.mem = s.dram.mem ∧
    port t (1 - p) = port s (1 - p)) ∧
  (∀ down, portActive s p = true → s.power.flushActive = true → ∃ u, exec (.hotReset p down) s = .next (settle u) ∧
    u = { s with power := { s.power with heldResets := s.power.heldResets ++ [(if down then 3 else 2, p)] } }) ∧
  (∀ fn, fnExists s fn = true → s.power.flushActive = false → ∃ t, exec (.functionLevelReset fn) s = .next t ∧
    (∀ q < 8192, t.sqs.get? (qkey fn q) = none) ∧ t.cf.words = s.cf.words ∧ t.dram.mem = s.dram.mem ∧ t.clk = s.clk) ∧
  (∀ fn, fnExists s fn = true → s.power.flushActive = true → ∃ u, exec (.functionLevelReset fn) s = .next (settle u) ∧
    u = { s with power := { s.power with heldResets := s.power.heldResets ++ [(0, fn)] } }) ∧
  (∀ fn sqid cid, flight? s fn sqid cid = none → exec (.hostDmaError fn sqid cid) s = .next (settle s)) ∧
  (∀ fn sqid cid f, flight? s fn sqid cid = some f → countsWrite f.opcode = false → ∃ u, exec (.hostDmaError fn sqid cid) s = .next (settle u) ∧
    Completed u ⟨fn, sqid, cid, 0, false⟩ .dataTransferError ∧ u.zones = s.zones ∧ u.blocks = s.blocks)

/-- R76 to R80, R410: REGISTER_WRITE, SERVICE_WINDOW_ACCESS, TRACE_FIFO_POP. The offsets of NVMe's registers are NVMe's (log entry 11), those of
the units in the window the model's reading (log entry 102). -/
def Obligations.bar_accesses : Prop := ∀ (s : State) (fn : Nat), fnExists s fn = true →
  (∀ bar off w x, barGood off w = false → ∃ t, exec (.registerWrite fn bar off w x) s = .next t ∧
    v t K.barBadAccess = satAdd 32 (v s K.barBadAccess) 1 ∧ OnlyEntries s t [K.barBadAccess] ∧ t = { s with dict := t.dict }) ∧
  (∀ x, ∃ t, exec (.registerWrite fn 0 0x0C 4 x) s = .next t ∧ inst t fn = { inst s fn with intms := (inst s fn).intms ||| x % 2 ^ 32 } ∧
    t = { s with insts := t.insts }) ∧
  (∀ x, ∃ t, exec (.registerWrite fn 0 0x14 4 x) s = .next t ∧ bitAt (inst t fn).cc 0 = bitAt (inst s fn).cc 0 ∧ t = { s with insts := t.insts }) ∧
  (∀ off x, off < 0x8000 → off % 4 = 0 → ∃ t, exec (.registerWrite fn 4 off 4 x) s = .next t ∧
    t.msixTable.get? (fn * 8192 + off / 4) = some (x % 2 ^ 32) ∧ t = { s with msixTable := t.msixTable }) ∧
  (∀ n off x, isPf s fn = true → hasMailbox s n = true → 0x40 ≤ off → off < 0x840 → off % 4 = 0 → n < 1024 →
    ∃ t, exec (.registerWrite fn 2 (n * 4096 + off) 4 x) s = .next t ∧
      (inst t n).mailbox = { (inst s n).mailbox with m2tArea := areaWrite (inst s n).mailbox.m2tArea (off - 0x40) 4 x } ∧ t = { s with insts := t.insts }) ∧
  (isPf s fn = true →
    (∀ off wr x, off % 4 = 0 → s.boot.service = false → ∃ t, exec (.serviceWindowAccess fn off 4 wr x) s = .next t ∧
      v t K.windowRefused = satAdd 32 (v s K.windowRefused) 1 ∧ OnlyEntries s t [K.windowRefused] ∧
      t = { s with dict := t.dict, barRead := if wr then s.barRead else s.barRead.put fn 0 }) ∧
    (∀ n u, n < 16 → s.crc.units[n]? = some u → s.boot.service = true → hubOff s = false →
      ∃ t, exec (.serviceWindowAccess fn (0x100000 + 0x40 * n + 0x30) 4 false 0) s = .next t ∧ t = { s with barRead := s.barRead.put fn u.bytes }) ∧
    (∀ n, n < 16 → s.boot.service = true → hubOff s = true →
      ∃ t, exec (.serviceWindowAccess fn (0x100000 + 0x40 * n) 4 false 0) s = .next t ∧ t.barRead = s.barRead.put fn (2 ^ 32 - 1) ∧
        v t K.windowOffAccess = satAdd 32 (v s K.windowOffAccess) 1 ∧ Recorded s t Ev.windowOffAccess [0x100000 + 0x40 * n, 0] ∧ t.crc = s.crc) ∧
    (∀ e r, s.trace.fifo = e :: r → ∃ t, exec (.traceFifoPop fn 0 32) s = .next t ∧
      t = { s with trace := { s.trace with fifo := r }, barRead := s.barRead.put fn (wordsNat e.all) }) ∧
    (∀ e r, s.trace.fifo = e :: r → ∃ a b, exec (.traceFifoPop fn 0 4) s = .next a ∧ exec (.traceFifoPop fn 4 4) a = .next b ∧
      a.barRead.get? fn = some (wordsNat (e.all.take 1)) ∧ b.barRead.get? fn = some (wordsNat ((e.all.drop 1).take 1)) ∧
      b.trace.fifo = r ∧ a.trace.fifo = r) ∧
    (∃ t, exec (.traceFifoPop fn 0 5) s = .next t ∧ t.trace = s.trace ∧ t.barRead = s.barRead.put fn 0 ∧
      v t K.barBadAccess = satAdd 32 (v s K.barBadAccess) 1))

/-- R102, R103 and the mailbox registers: M2T_BELL, T2M_BELL, M2T_ACK, T2M_ACK, MB_CAUSE_CLEAR. -/
def Obligations.mailbox_bells : Prop := ∀ (s : State) (n x : Nat), hasMailbox s n = true →
  (fld x 11 0 ≤ 2048 → ∃ t, exec (.m2tBell n x) s = .next t ∧ TenantCause s t n 0 ∧
    (inst t n).mailbox.m2tBell = (x % 2 ^ 32 &&& 0xFFFF0FFF) ∧ (inst t n).mailbox.m2tArea = (inst s n).mailbox.m2tArea) ∧
  (∃ t, exec (.t2mAck n x) s = .next t ∧ TenantCause s t n 1 ∧ (inst t n).mailbox.t2mAck = (x % 2 ^ 32 &&& 0xFFFF0000)) ∧
  (fnExists s n = true →
    (fld x 11 0 ≤ 1984 → ∃ t, exec (.t2mBell n x) s = .next t ∧ ManagerCause s t n 0 ∧
      (inst t n).mailbox.t2mBell = (x % 2 ^ 32 &&& 0xFFFF0FFF)) ∧
    (∃ t, exec (.m2tAck n x) s = .next t ∧ ManagerCause s t n 1 ∧ (inst t n).mailbox.m2tAck = (x % 2 ^ 32 &&& 0xFFFF0000)) ∧
    (1984 < fld x 11 0 → ∃ t, exec (.t2mBell n x) s = .next t ∧ TenantCause s t n 4 ∧
      (inst t n).mailbox.t2mBell = (inst s n).mailbox.t2mBell) ∧
    (∃ t, exec (.mbCauseClear n false x) s = .next t ∧ t = { s with insts := t.insts } ∧
      (inst t n).mailbox = { (inst s n).mailbox with causeT := clearBits (inst s n).mailbox.causeT x, irqT := false })) ∧
  (2048 < fld x 11 0 → ∃ t, exec (.m2tBell n x) s = .next t ∧ ManagerCause s t n 4 ∧
    (inst t n).mailbox.m2tBell = (inst s n).mailbox.m2tBell) ∧
  (∃ t, exec (.mbCauseClear n true x) s = .next t ∧ t = { s with insts := t.insts } ∧
    (inst t n).mailbox = { (inst s n).mailbox with causeM := clearBits (inst s n).mailbox.causeM x, irqM := false })

/-- R89 to R94: INSTANCE_COMMIT, INSTANCE_RECLAIM, RECLAIM_FINISHED, VF_ENABLE. -/
def Obligations.instance_life : Prop := ∀ s : State,
  (∀ a r n, n < 1024 → lookup s a.path 0x2110 2 a.inst = .ok (r, entryKey 0x2110 2 (n + 1)) →
    (writeCheck s r (entryKey 0x2110 2 (n + 1)) 1 = 0 → canStage s (applyTide s) = true →
      ∃ t, exec (.instanceCommit a) s = .next t ∧ (inst t n).state = (if fnExists s n then 2 else 1) ∧
        (⟨applyTide s, .entry (entryKey 0x2110 2 (n + 1)) 1⟩ : Staged) ∈ t.staged ∧
        t.store.queue.length = s.store.queue.length + 1 ∧ t.miowa.resp = s.miowa.resp) ∧
    (writeCheck s r (entryKey 0x2110 2 (n + 1)) 2 = 0 → canStage s (applyTide s) = true →
      ∃ t, exec (.instanceReclaim a) s = .next t ∧ (inst t n).state = 4 ∧
        (⟨applyTide s, .entry (entryKey 0x2110 2 (n + 1)) 2⟩ : Staged) ∈ t.staged) ∧
    (isPf s n = true → ∃ t, exec (.instanceCommit a) s = .next t ∧ Answered t a.path 2 a.tag 0x09 [] ∧ OnlyAnswered s t []) ∧
    (isPf s n = false → (inst s n).state ≠ 0 →
      ∃ t, exec (.instanceCommit a) s = .next t ∧ Answered t a.path 2 a.tag 0x0D [] ∧ OnlyAnswered s t [])) ∧
  (∀ n, (inst s n).reclaiming = true → (∀ f ∈ s.flights, f.fn = n → f.sqid = 0 ∧ f.opcode = 0x0C) →
    ∃ u, exec (.reclaimFinished n) s = .next (settle u) ∧ (inst u n).state = 0 ∧ (inst u n).keys = [] ∧ (inst u n).session = none ∧
      (inst u n).reclaiming = false ∧ (∀ q < 8192, u.sqs.get? (qkey n q) = none) ∧ (∀ k ns, u.nss.get? k = some ns → n ∉ ns.attached)) ∧
  (∀ pf num, isPf s pf = true → (port s (portOf s pf)).vfEnable = false →
    ∃ u, exec (.vfEnable pf num true) s = .next (settle u) ∧ (port u (portOf s pf)).vfEnable = true ∧
      (port u (portOf s pf)).numVfs =
        Nat.min num (if s.portMode = 0 then (if portOf s pf = 0 then s.vfSplit else 1022 - s.vfSplit) else 1023) ∧
      ∀ n, isPf s n = false → portOf s n = portOf s pf → n < 1024 → fnExists u n = true → (inst s n).state = 1 →
        (inst u n).state = 2 ∧ (⟨applyTide s, .live n⟩ : Staged) ∈ u.staged)

/-- R93, R105, R198, R370, R372, R59: CONTROLLER_ENABLE, CONTROLLER_READY, CC_SHUTDOWN, CONTROLLER_RESET, PASID_ENABLE_CHANGE. -/
def Obligations.controller_life : Prop := ∀ (s : State) (fn : Nat), fnExists s fn = true →
  (∀ cc, bitAt (inst s fn).cc 0 = false → ∃ t, exec (.controllerEnable fn cc) s = .next t ∧ bitAt (inst t fn).cc 0 = true ∧
    t.sqs.get? (qkey fn 0) = some ⟨0, fld (inst s fn).aqa 11 0 + 1, 0, 0, 1⟩ ∧
    (∀ k, k ≠ qkey fn 0 → t.sqs.get? k = s.sqs.get? k ∧ t.cqs.get? k = s.cqs.get? k) ∧
    (∀ n, n ≠ fn → inst t n = inst s n) ∧ t = { s with insts := t.insts, sqs := t.sqs, cqs := t.cqs }) ∧
  (∃ t, exec (.controllerReady fn) s = .next t ∧ (readyOk s fn = true → inst t fn = { inst s fn with rdy := true } ∧ t.boot.rdySeen = true) ∧
    (readyOk s fn = false → t = s) ∧ t = { s with insts := t.insts, boot := { s.boot with rdySeen := t.boot.rdySeen } } ∧ ∀ n, n ≠ fn → inst t n = inst s n) ∧
  (∀ shn, shn = 1 ∨ shn = 2 → ∃ u, exec (.ccShutdown fn shn) s = .next (settle (cutUnits u 5 (fun k _ => (nsRec u (k / 2 ^ 32)).attached.contains fn))) ∧
    (inst u fn).shst = 2 ∧ fld (inst u fn).cc 15 14 = shn ∧ u = { s with insts := u.insts } ∧ ∀ n, n ≠ fn → inst u n = inst s n) ∧
  (bitAt (inst s fn).cc 0 = true → s.power.flushActive = false → ∃ u, exec (.controllerReset fn) s = .next (settle u) ∧ (inst u fn).cc = 0 ∧
    (inst u fn).rdy = false ∧ (∀ q < 8192, u.sqs.get? (qkey fn q) = none ∧ u.cqs.get? (qkey fn q) = none) ∧ u.miowa.xfers = []) ∧
  (bitAt (inst s fn).cc 0 = true → s.power.flushActive = true → ∃ u, exec (.controllerReset fn) s = .next (settle u) ∧
    u = { s with power := { s.power with heldResets := s.power.heldResets ++ [(1, fn)] } }) ∧
  (∀ b, ∃ t, exec (.pasidEnableChange fn b) s = .next t ∧ inst t fn = { inst s fn with pasidEnable := b } ∧ t = { s with insts := t.insts } ∧
    ∀ n, n ≠ fn → inst t n = inst s n)

/-- R108, R109: KEY_SESSION, KEY_DELIVER, KEY_SESSION_TIMEOUT. The pair of a session is a free value of the model (log entry 22). -/
def Obligations.key_delivery : Prop := ∀ (s : State) (a : Access) (n : Nat), n < 1024 →
  (∀ r slice, lookup s a.path 0x2120 1 a.inst = .ok (r, entryKey 0x2120 1 (n + 1)) → r.check slice = 0 →
    (keyRefused s a.path n = false → ∃ t, exec (.keySession a slice) s = .next t ∧
      (inst t n).session = some ⟨slice, (inst s n).nextSession, s.freeCtr⟩ ∧ (inst t n).nextSession = ((inst s n).nextSession + 1) % 2 ^ 32 ∧
      domOf t (instKey K.keyEncap n) ≠ [] ∧ (inst t n).keys = (inst s n).keys ∧ Answered t a.path 2 a.tag 0 [] ∧ OnlyEntries s t answerKeys) ∧
    (keyRefused s a.path n = true → ∃ t, exec (.keySession a slice) s = .next t ∧ Answered t a.path 2 a.tag 0x04 [] ∧ OnlyAnswered s t [])) ∧
  (∀ r b, lookup s a.path 0x2120 3 a.inst = .ok (r, entryKey 0x2120 3 (n + 1)) → b.length = 1176 → keyRefused s a.path n = false →
    ∃ t c, exec (.keyDeliver a b) s = .next t ∧ (inst t n).session = none ∧ Answered t a.path 2 a.tag c [] ∧
      (c ≠ 0 → (inst t n).keys = (inst s n).keys) ∧
      (c = 0 → ∃ key x, (inst s n).session = some x ∧ leAt b 0 4 = x.id ∧ leAt b 4 1 = x.slice ∧ key % 2 ^ 256 ≠ key / 2 ^ 256 ∧
        (inst t n).keys = (inst s n).keys.put x.slice key)) ∧
  (∃ t, exec (.keySessionTimeout n) s = .next t ∧ (inst t n).session = none ∧ (inst t n).keys = (inst s n).keys ∧
    t = { s with miowa := t.miowa, insts := t.insts } ∧ ∀ m, m ≠ n → inst t m = inst s m)

/-- R110, R121, R124: the queue commands. -/
def Obligations.queue_commands : Prop := ∀ (s : State) (c : Cmd), Sound s →
  (∀ qid size cqid prio pc, createSqStatus s c qid size cqid pc = .success →
    ∃ t, exec (.createIoSubmissionQueue c qid size cqid prio pc) s = .next t ∧ Completed t c .success ∧
      OnlyCompleted { s with sqs := s.sqs.put (qkey c.fn qid) ⟨cqid, size + 1, 0, 0, prio % 4⟩ } t) ∧
  (∀ qid size cqid prio pc st, createSqStatus s c qid size cqid pc = st → st ≠ .success →
    Rejected s (.createIoSubmissionQueue c qid size cqid prio pc) c st) ∧
  (∀ qid size vec pc ien, createCqStatus s c qid size vec pc = .success →
    ∃ t q, exec (.createIoCompletionQueue c qid size vec pc ien) s = .next t ∧ Completed t c .success ∧ OnlyCompleted s t ∧
      t.cqs.get? (qkey c.fn qid) = some q ∧ q.size = size + 1 ∧ q.vector = vec ∧ q.ien = ien) ∧
  (∀ qid size vec pc ien st, createCqStatus s c qid size vec pc = st → st ≠ .success →
    Rejected s (.createIoCompletionQueue c qid size vec pc ien) c st) ∧
  (∀ qid l q, qid ≠ 0 → c.resv = false → sqOf s c.fn qid = some q →
    ∃ t, exec (.deleteIoSubmissionQueue c qid l) s = .next t ∧ Completed t c .success ∧ t.sqs = s.sqs.del (qkey c.fn qid) ∧
      qkey c.fn qid ∉ t.eng.qctx ∧ (∀ x ∈ t.eng.filling, x.1 ≠ qkey c.fn qid) ∧ OnlyCompleted { s with sqs := t.sqs, eng := t.eng } t) ∧
  (∀ qid l, qid = 0 ∨ sqOf s c.fn qid = none → Rejected s (.deleteIoSubmissionQueue c qid l) c .invalidQueueId) ∧
  (∀ qid, c.resv = false → qid ≠ 0 → s.cqs.has (qkey c.fn qid) = true →
    (s.sqs.any (fun p => p.1 / 8192 == c.fn && p.2.cqid == qid) = true → Rejected s (.deleteIoCompletionQueue c qid) c .invalidQueueDeletion) ∧
    (s.sqs.any (fun p => p.1 / 8192 == c.fn && p.2.cqid == qid) = false → flight? s c.fn c.sqid c.cid = none → cqidOf s c.fn c.sqid ≠ qid →
      cqidOf s c.fn c.sqid < 8192 → qid < 8192 →
      ∃ t, exec (.deleteIoCompletionQueue c qid) s = .next t ∧ Completed t c .success ∧ t.cqs.get? (qkey c.fn qid) = none ∧ OnlyCompleted s t))

/-- R33, R35, R111 to R116, R119: the doorbells, FETCH_GRANT, QCTX_FILL, POOL_UNIT_FREED, INTERRUPT_AGGREGATION_TIME. The order of ties and the
units a command takes are the model's choices (log entries 16 to 18, 21). -/
def Obligations.doorbells_and_fetch : Prop := ∀ s : State,
  (∀ fn qid x q, sqOf s fn qid = some q → x < q.size → ∃ t, exec (.sqTailDoorbell fn qid x) s = .next t ∧
    sqOf t fn qid = some { q with tail := x } ∧ (∀ k, k ≠ qkey fn qid → t.sqs.get? k = s.sqs.get? k) ∧
    (s.power.entry = none → t = { s with sqs := t.sqs }) ∧ (s.power.entry ≠ none → fnExists s fn = true → t.power.entry = none)) ∧
  (∀ fn qid x, (∀ q, sqOf s fn qid = some q → q.size ≤ x) → ∃ t, exec (.sqTailDoorbell fn qid x) s = .next t ∧ t.sqs = s.sqs) ∧
  (∀ fn qid x q, s.cqs.get? (qkey fn qid) = some q → x < q.size → q.held = [] → ∃ t, exec (.cqHeadDoorbell fn qid x) s = .next t ∧
    t = { s with cqs := s.cqs.put (qkey fn qid) { q with posted := q.posted.drop ((x + q.size - (q.tail + q.size - q.posted.length) % q.size) % q.size) } }) ∧
  (∀ fn qid x q, s.cqs.get? (qkey fn qid) = some q → x < q.size → q.held ≠ [] →
    (q.posted.drop ((x + q.size - (q.tail + q.size - q.posted.length) % q.size) % q.size)).length + 1 < q.size →
    ∃ t q', exec (.cqHeadDoorbell fn qid x) s = .next t ∧ t.cqs.get? (qkey fn qid) = some q' ∧ q'.held.length < q.held.length) ∧
  (∀ e, (urgentRoom s = false ∨ pickUrgent s = none) → pickInstance s = none → exec (.fetchGrant e) s = .next (settle s)) ∧
  (∀ e fn q cls, (urgentRoom s = false ∨ pickUrgent s = none) → pickInstance s = some fn → pickQueue s fn = some (q, cls) →
    ∃ u, exec (.fetchGrant e) s = .next (settle u) ∧ v u K.fetchGrants = satAdd 64 (v s K.fetchGrants) 1 ∧
      (s.eng.qctx.contains (qkey fn q) = true → s.eng.aborted.contains (qkey fn q, e.cid) = false → Fetched s u fn q e) ∧
      (s.eng.qctx.contains (qkey fn q) = false → u.flights = s.flights ∧ u.eng.filling = s.eng.filling ++ [(qkey fn q, e, false)])) ∧
  (∀ e fn q, urgentRoom s = true → pickUrgent s = some (fn, q) →
    ∃ u, exec (.fetchGrant e) s = .next (settle u) ∧ u.eng.urgentGrants = s.eng.urgentGrants + 1 ∧
      (s.eng.qctx.contains (qkey fn q) = true → s.eng.aborted.contains (qkey fn q, e.cid) = false → Fetched s u fn q e)) ∧
  (∀ fn q e urgent, s.eng.filling.find? (fun x => x.1 == qkey fn q) = some (qkey fn q, e, urgent) →
    s.eng.aborted.contains (qkey fn q, e.cid) = false → ∃ t, exec (.qctxFill fn q) s = .next t ∧ Fetched s t fn q e) ∧
  (∀ p f, (p = 1 → ∀ z ∈ s.zones, z.2.unit.any OpenUnit.stalled = false) → nextWaiter s p = some f →
    (allFit s f.fn f.urgent (f.need s) = true → ∃ u, exec (.poolUnitFreed p) s = .next (settle u) ∧ u = { s with flights := u.flights } ∧
      (∀ g ∈ u.flights, g.seq = f.seq → g.stage = .fetched ∧ g.pools = f.need s)) ∧
    (allFit s f.fn f.urgent (f.need s) = false → exec (.poolUnitFreed p) s = .next (settle s))) ∧
  (∀ fn qid, 0 < (cqOf s fn qid).aggregated → (cqOf s fn qid).ien = true → ∃ t, exec (.interruptAggregationTime fn qid) s = .next t ∧
    (cqOf t fn qid) = { cqOf s fn qid with aggregated := 0 } ∧
    t = { s with cqs := t.cqs, msix := s.msix.updD (fn * 2048 + (cqOf s fn qid).vector % 2048) 0 (· + 1) })

/-- R96, R116, R121, R133: the Set Features of one function, GET_FEATURES, ASYNCHRONOUS_EVENT_REQUEST. The layout of the features' Dword 0 is
NVMe's (log entry 120). -/
def Obligations.function_features : Prop := ∀ (s : State) (c : Cmd),
  (c.resv = false →
    (∀ ab l m h, canStage s (applyTide s) = true → ∃ t, exec (.setArbitration c ab l m h) s = .next t ∧ CompletedDw t c .success 0 ∧
      (⟨applyTide s, .arbitration c.fn (ab % 8) (l % 256) (m % 256) (h % 256)⟩ : Staged) ∈ t.staged ∧
      OnlyCompleted { s with staged := t.staged, reserved := t.reserved } t) ∧
    (∀ ab l m h, canStage s (applyTide s) = false → Rejected s (.setArbitration c ab l m h) c .commandInterrupted) ∧
    (∀ a b, ∃ t, exec (.setNumberOfQueues c a b) s = .next t ∧
      CompletedDw t c .success ((vi s K.queuePairs c.fn - 1) + (vi s K.queuePairs c.fn - 1) * 65536) ∧ OnlyCompleted s t) ∧
    (∀ time thr, ∃ t, exec (.setInterruptCoalescing c time thr) s = .next t ∧ CompletedDw t c .success 0 ∧ OnlyCompleted s t ∧
      inst t c.fn = { inst s c.fn with icTime := time % 256, icThr := thr % 256 }) ∧
    (∀ vec cd, vec ≤ 2047 → ∃ t, exec (.setInterruptVectorConfiguration c vec cd) s = .next t ∧ CompletedDw t c .success 0 ∧ OnlyCompleted s t ∧
      (vec ∈ (inst t c.fn).ivDisabled ↔ cd = true) ∧ ∀ x, x ≠ vec → (x ∈ (inst t c.fn).ivDisabled ↔ x ∈ (inst s c.fn).ivDisabled)) ∧
    (∀ vec cd, 2047 < vec → Rejected s (.setInterruptVectorConfiguration c vec cd) c .invalidField) ∧
    (∀ b, ∃ t, exec (.setAsyncEventConfiguration c b) s = .next t ∧ CompletedDw t c .success 0 ∧ OnlyCompleted s t ∧
      inst t c.fn = { inst s c.fn with aecBits := b % 2 ^ 32 }) ∧
    (∀ b, ∃ t, exec (.setHostBehaviorSupport c b) s = .next t ∧ CompletedDw t c .success 0 ∧ OnlyCompleted s t ∧
      inst t c.fn = { inst s c.fn with acre := b }) ∧
    (∀ fid x d w, featureOf s (inst s c.fn) c.fn fid w = some (x, d) → ∃ t, exec (.getFeatures c fid 0 w) s = .next t ∧ CompletedDw t c .success x ∧
      OnlyCompleted { s with hostOut := t.hostOut } t ∧ ∀ b, d = some b → t.hostOut.get? c.fn = some b) ∧
    ((inst s c.fn).aers.length < 16 → (inst s c.fn).aens = [] → ∃ t, exec (.asynchronousEventRequest c) s = .next t ∧
      t = { s with insts := t.insts } ∧ inst t c.fn = { inst s c.fn with aers := (inst s c.fn).aers ++ [c.cid] }) ∧
    (∀ e l, (inst s c.fn).aers = [] → (inst s c.fn).aens = e :: l → c.sqid = 0 → ∃ t, exec (.asynchronousEventRequest c) s = .next t ∧
      CompletedDw t c .success e.code ∧ (inst t c.fn).aers = [] ∧ (inst t c.fn).aens = l) ∧
    (16 ≤ (inst s c.fn).aers.length → Rejected s (.asynchronousEventRequest c) c .aerLimit)) ∧
  (c.resv = true → ∀ i, (∃ a b l m, i = .setArbitration c a b l m) ∨ (∃ a b, i = .setNumberOfQueues c a b) ∨ (∃ a b, i = .setInterruptCoalescing c a b) ∨
    (∃ a b, a ≤ 2047 ∧ i = .setInterruptVectorConfiguration c a b) ∨ (∃ a, i = .setAsyncEventConfiguration c a) ∨ (∃ a, i = .setHostBehaviorSupport c a) ∨
    (∃ a b d, i = .getFeatures c a b d) ∨ i = .asynchronousEventRequest c → Rejected s i c .invalidField)

/-- R121, R346, R348, R368: the features of the package, the NVMe-MI tunnel, and the security protocols. Which statuses refuse a VF, the table's
layout and the tunnel's bytes are NVMe's or open (log entries 101, 120 to 122). -/
def Obligations.package_features : Prop := ∀ (s : State) (c : Cmd),
  (c.resv = false → isPf s c.fn = true →
    (∀ ps w, ps ≤ 2 → canStage s (applyTide s) = true → ∃ u, exec (.setPowerManagement c ps w) s = .next (settle u) ∧ CompletedDw u c .success 0 ∧
      (⟨applyTide s, .budget ps⟩ : Staged) ∈ u.staged ∧ u.power = { s.power with ps := ps }) ∧
    (∀ ps w, ps = 3 ∨ ps = 4 → s.power.state < 2 → s.power.entry = none → s.power.down = false → s.boot.recovery = false → s.power.flushActive = false →
      belowWarning s = false → ∃ u, exec (.setPowerManagement c ps w) s = .next (settle u) ∧ CompletedDw u c .success 0 ∧
        u.power.entry.map SleepEntry.target = some (ps - 1)) ∧
    (∀ sel under k, sel ≤ 8 → ∃ t, exec (.setTemperatureThreshold c sel under k) s = .next t ∧
      (inst t c.fn).tempThr.get? (2 * sel + (if under then 1 else 0)) = some (k % 2 ^ 16)) ∧
    (∀ on table, (∀ e ∈ table, e.2 ≠ 0 → e.1 = 3 ∨ e.1 = 4) → ∃ t, exec (.setAutonomousPowerStateTransition c on table) s = .next t ∧
      CompletedDw t c .success 0 ∧ OnlyCompleted { s with power := { s.power with apst := on, apstTable := table.take 32 } } t) ∧
    (∀ r, ∃ t, exec (.nvmeMiSend c r) s = .next t ∧ Completed t c .success ∧ OnlyCompleted s t) ∧
    (∀ len, ∃ t b, exec (.nvmeMiReceive c len) s = .next t ∧ Completed t c .success ∧ t.hostOut.get? c.fn = some b ∧ b.length = len)) ∧
  (c.resv = false → isPf s c.fn = false →
    (∀ ps w, ∃ u, exec (.setPowerManagement c ps w) s = .next (settle u) ∧ Completed u c .featureNotChangeable ∧ OnlyCompleted s u) ∧
    (∀ sel under k, Rejected s (.setTemperatureThreshold c sel under k) c .featureNotChangeable) ∧
    (∀ on table, Rejected s (.setAutonomousPowerStateTransition c on table) c .featureNotChangeable) ∧
    (∀ r, Rejected s (.nvmeMiSend c r) c .invalidOpcode) ∧ (∀ len, Rejected s (.nvmeMiReceive c len) c .invalidOpcode)) ∧
  (∀ spsp len, c.resv = false → (∃ t, exec (.securitySend c 0 spsp len) s = .next t ∧ Completed t c .success ∧ OnlyCompleted s t) ∧
    (∃ t, exec (.securityReceive c 0 spsp len) s = .next t ∧ Completed t c .success ∧ t.hostOut.get? c.fn = some (securityProtocols spsp len)) ∧
    ∀ secp, secp ≠ 0 → Rejected s (.securitySend c secp spsp len) c .invalidField ∧ Rejected s (.securityReceive c secp spsp len) c .invalidField) ∧
  (s.power.apst = true → (s.power.apstTable.getD s.power.ps (0, 0)).2 ≠ 0 → s.flights = [] → s.power.state < 2 → s.power.entry = none →
    s.power.down = false → s.boot.recovery = false → s.power.flushActive = false → belowWarning s = false →
    ∃ u, exec .apstTransition s = .next (settle u) ∧ u.power.entry.map SleepEntry.target = some ((s.power.apstTable.getD s.power.ps (0, 0)).1 - 1)) ∧
  (s.power.apst = false → exec .apstTransition s = .next (settle s))

/-- R56, R121, R133, R134, R146, R189, R407: IDENTIFY, GET_LOG_PAGE, GET_LOG_PAGE_C2, GET_LOG_PAGE_C3, SNAPSHOT_LAPSE, ABORT. The places of the standard
structures' fields are NVMe's (log entries 61, 120). -/
def Obligations.logs_and_identify : Prop := ∀ (s : State) (c : Cmd), c.resv = false →
  (∀ cns id csi b s', identifyData s c cns id csi = .ok (b, s') → ∃ t, exec (.identify c cns id csi) s = .next t ∧ Completed t c .success ∧
    t.hostOut.get? c.fn = some b ∧ OnlyCompleted { s with hostOut := t.hostOut, freeCtr := t.freeCtr } t) ∧
  (∀ cns id csi st, identifyData s c cns id csi = .error st → Rejected s (.identify c cns id csi) c st) ∧
  (∀ lid lsp off len rae, (logIds s).contains lid = true → off ≤ (logPage s c lid).1.length →
    ∃ t, exec (.getLogPage c lid lsp off len rae) s = .next t ∧ Completed t c .success ∧
      t.hostOut.get? c.fn = some (segment (logPage s c lid).1 off len) ∧ OnlyCompleted { s with hostOut := t.hostOut, freeCtr := t.freeCtr } t) ∧
  (∀ lid lsp off len rae, (logIds s).contains lid = false → Rejected s (.getLogPage c lid lsp off len rae) c .invalidLogPage) ∧
  (∀ off len rae, ∃ t, exec (.getLogPageC2 c off len rae) s = .next t ∧ Completed t c .success ∧
    t.hostOut.get? c.fn = some (segment (lossPage s (vi s K.lossAck c.fn) (lossView s c.fn)) off len)) ∧
  (∀ len rae, ∃ t x, exec (.getLogPageC3 c 0 len rae) s = .next t ∧ Completed t c .success ∧ t.recd.snaps.get? c.fn = some x ∧
    x.recs = snapshotRecs s c.fn (v s K.snapshotDepth) ∧ x.tide = s.clk.tide ∧ t.hostOut.get? c.fn = some (segment x.bytes 0 len)) ∧
  (∀ off len rae, off ≠ 0 → s.recd.snaps.get? c.fn = none →
    ∃ t, exec (.getLogPageC3 c off len rae) s = .next t ∧ Completed t c .commandSequenceError ∧ t.recd = s.recd) ∧
  (∀ fn, ∃ t, exec (.snapshotLapse fn) s = .next t ∧ t = { s with recd := { s.recd with snaps := s.recd.snaps.del fn } }) ∧
  (∀ q cid b f, flight? s c.fn q cid = some f → f.fuse = 0 → abortable f = true → ∃ u, exec (.abort c q cid b) s = .next (settle u) ∧
    CompletedDw u c .success 0 ∧ ∀ g ∈ u.flights, g.seq ≠ f.seq) ∧
  (∀ q cid, flight? s c.fn q cid = none → ∃ u, exec (.abort c q cid false) s = .next (settle u) ∧ CompletedDw u c .success 1 ∧ OnlyCompleted s u)

/-- R135 to R139, R338: the namespace commands. The fields of Format NVM are NVMe's (log entry 62). -/
def Obligations.namespace_admin : Prop := ∀ (s : State) (c : Cmd), Sound s → isPf s c.fn = true → c.resv = false → c.fn < 1024 →
  (∀ z size cap f t g, ownsHalf s (halfOf (Cd.channels (coveDesc s ((templateQuota (vi s K.nsTmplQuota c.fn)).keys.headD 0)))) = true → f ≤ 7 → piAllowed f t g = true →
    createFields s (newNs (templateQuota (vi s K.nsTmplQuota c.fn)) (halfOf (Cd.channels (coveDesc s ((templateQuota (vi s K.nsTmplQuota c.fn)).keys.headD 0)))) z size f t g) cap = .success →
    ∀ id n, freeNsid s = some id →
      n = newNs (templateQuota (vi s K.nsTmplQuota c.fn)) (halfOf (Cd.channels (coveDesc s ((templateQuota (vi s K.nsTmplQuota c.fn)).keys.headD 0)))) z size f t g →
      (noSpace s { s with nss := s.nss.put id n } n = false → ∃ u, exec (.namespaceCreate c z size cap f t g) s = .next u ∧
        u.nss = s.nss.put id n ∧ CompletedDw u c .success id ∧ (∀ k < id, 1 ≤ k → s.nss.has k = true)) ∧
      (noSpace s { s with nss := s.nss.put id n } n = true → Rejected s (.namespaceCreate c z size cap f t g) c .nsInsufficientCapacity)) ∧
  (∀ z size cap f t g, ownsHalf s (halfOf (Cd.channels (coveDesc s ((templateQuota (vi s K.nsTmplQuota c.fn)).keys.headD 0)))) = false →
    ∃ u, exec (.namespaceCreate c z size cap f t g) s = .next u ∧ u = { s with pair := u.pair } ∧
      u.pair.forwards = s.pair.forwards ++ [⟨s.pair.seqSent + 1, c, .create 0 z size cap f t g⟩]) ∧
  (∀ n, nsOf s c.nsid = some n → ownsHalf s n.half = true → n.waitq = [] → n.running = none → s.boot.sanitizing = false → s.boot.sanWait = [] →
    (∀ l, canStage s (applyTide s) = true → (∀ i ∈ l, ∃ k, ctrlOf s i = some (false, k)) →
      (attachStatus s n true l = .success → ∃ u, exec (.namespaceAttach c l) s = .next (settle u) ∧ u.nss.get? c.nsid = some { n with running := some (c, .attach c.nsid l) } ∧
        (∀ i ∈ l, ∀ k, ctrlOf s i = some (false, k) → (⟨applyTide s, .attach c.nsid k⟩ : Staged) ∈ u.staged) ∧ (⟨applyTide s, .complete c.nsid⟩ : Staged) ∈ u.staged) ∧
      (attachStatus s n false l = .success → ∃ u, exec (.namespaceDetach c l) s = .next (settle u) ∧ u.nss.get? c.nsid = some { n with running := some (c, .detach c.nsid l) } ∧
        (∀ i ∈ l, ∀ k, ctrlOf s i = some (false, k) → (⟨applyTide s, .detach c.nsid k⟩ : Staged) ∈ u.staged) ∧ (⟨applyTide s, .complete c.nsid⟩ : Staged) ∈ u.staged)) ∧
    (n.attached = [] → ∃ u, exec (.namespaceDelete c) s = .next (settle u) ∧
      u = { s with nss := u.nss } ∧ u.nss.get? c.nsid = some { n with deleting := true, remote := [], running := some (c, .delete c.nsid) }) ∧
    (∀ ses f t g, formatStatus ses f t g = .success → ∃ u m, exec (.formatNvm c ses f t g) s = .next (settle u) ∧ Completed u c .success ∧
      u.nss.get? c.nsid = some m ∧ m.lbaf = f ∧ m.piType = t ∧ m.piGuard = g ∧ m.running = none ∧ m.nsze = n.nsze * n.blk / lbafBlk f)) ∧
  (∀ nsid n, nsOf s nsid = some n → n.deleting = true → n.attached = [] → (∀ f ∈ s.flights, f.nsid = nsid → f.sqid = 0) →
    ∃ u, exec (.namespaceDeleteDone nsid) s = .next (settle u) ∧ u.nss.get? nsid = none ∧ (∀ k z, u.zones.get? k = some z → k / 2 ^ 32 ≠ nsid) ∧
      ∀ e ∈ u.xlat.losses, e.nsid ≠ nsid)

/-- R191, R397, R398: SANITIZE_BLOCK_ERASE, SANITIZE_DONE, EXIT_FAILURE_MODE, GET_LBA_STATUS. What a sanitize that ends does to commands is NVMe's
(log entries 63, 65). -/
def Obligations.sanitize_and_status : Prop := ∀ (s : State) (c : Cmd), c.resv = false → c.fn < 1024 →
  (isPf s c.fn = true → s.boot.sanitizing = false →
    (∀ ause, s.pair.enabled = false → s.boot.sanWait = [] → nsQuiet s = true → (s.boot.failureMode = true → s.boot.ause = true ∨ ause = false) →
      ∃ t, exec (.sanitizeBlockErase c 2 ause) s = .next t ∧ Completed t c .success ∧ t.boot.sanitizing = true ∧ t.boot.ause = ause ∧
        t.boot.failureMode = false ∧ v t K.sanitizes = v s K.sanitizes ∧ t.blocks = s.blocks) ∧
    (s.boot.failureMode = false ∨ s.boot.ause = true → ∃ t, exec (.exitFailureMode c) s = .next t ∧ Completed t c .success ∧
      OnlyCompleted { s with boot := { s.boot with failureMode := false } } t) ∧
    (s.boot.failureMode = true → s.boot.ause = false → Rejected s (.exitFailureMode c) c .sanitizeFailed)) ∧
  (isPf s c.fn = true → (∀ a ause, a ≠ 2 → Rejected s (.sanitizeBlockErase c a ause) c .invalidField) ∧
    (∀ ause, s.boot.sanitizing = true → Rejected s (.sanitizeBlockErase c 2 ause) c .sanitizeInProgress)) ∧
  (∀ l, s.boot.sanitizing = true → (∀ p ∈ s.nss, p.2.waitq = []) → ∃ u, exec (.sanitizeDone l) s = .next (settle u) ∧ u.zones = [] ∧ u.keyChecks = [] ∧
    u.xlat.poison = [] ∧ u.xlat.losses = [] ∧ u.xlat.wbuf = [] ∧ u.boot.sanitizing = false ∧ u.boot.failureMode = !l.isEmpty ∧
    u.boot.sanitizeFailed = !l.isEmpty ∧ v u K.sanitizes = (if l.isEmpty then satAdd 32 (v s K.sanitizes) 1 else v s K.sanitizes) ∧ u.cf = s.cf) ∧
  (∀ l, s.boot.sanitizing = false → exec (.sanitizeDone l) s = .next s) ∧
  (∀ n slba rl len, nsOf s c.nsid = some n → n.attached.contains c.fn = true → slba < n.nsze → ∃ t, exec (.getLbaStatus c slba rl len) s = .next t ∧
    Completed t c .success ∧ OnlyCompleted { s with hostOut := t.hostOut } t ∧
    t.hostOut.get? c.fn = some ((lbaStatus s c.nsid slba (if rl = 0 then n.nsze - slba else rl) len).take len)) ∧
  (∀ n slba rl len, nsOf s c.nsid = some n → n.attached.contains c.fn = true → n.nsze ≤ slba → Rejected s (.getLbaStatus c slba rl len) c .lbaOutOfRange)

/-- R386, R388 to R390: the firmware commands. -/
def Obligations.firmware_update : Prop := ∀ (s : State) (c : Cmd),
  (∀ off data, downloadStatus s c off data.length = .success → ∃ t, exec (.firmwareImageDownload c off data) s = .next t ∧ Completed t c .success ∧
    t.cf.hold = (if off = 0 then some c.fn else s.cf.hold) ∧ t.cf.written = (if off = 0 then [] else s.cf.written) ++ [(off, data.length)] ∧
    t.cf.markers = s.cf.markers ∧ t.boot = s.boot) ∧
  (∀ off data st, downloadStatus s c off data.length = st → st ≠ .success → Rejected s (.firmwareImageDownload c off data) c st) ∧
  (∀ slot, commitGate s c slot false false = .success → ∃ t, exec (.firmwareCommitVerify c slot) s = .next t ∧ OnlyCompleted s t ∧
    Completed t c (if imageFault s (commitSlot s slot) false = 0 then .success else .firmwareInvalidImage)) ∧
  (∀ slot, (commitGate s c slot false true = .success → Activates s c (.firmwareCommitReplaceActivate c slot) (commitSlot s slot) false) ∧
    (commitGate s c slot true true = .success → Activates s c (.firmwareCommitActivate c slot) (commitSlot s slot) true)) ∧
  (∃ t, exec .fwUpdateHoldTimeout s = .next t ∧ t = { s with cf := { s.cf with hold := none, written := [] } }) ∧
  (s.boot.recovery = false → s.boot.rdySeen = true →
    s.cf.markers.any (fun m => m.kind == 1 && m.seq == s.boot.markerSeq && !m.confirmed) = true →
    ∃ t, exec .fwConfirm s = .next t ∧ (∀ m ∈ t.cf.markers, m.kind = 1 → m.seq = s.boot.markerSeq → m.confirmed = true) ∧
      t.cf.markers.length = s.cf.markers.length ∧ v t K.cfPrograms = satAdd 64 (v s K.cfPrograms) 1 ∧ t.cf.words = s.cf.words)

/-- R119, R123, R124, R137: the arrival of the I/O commands. That a command nothing has fetched is fetched as it arrives is the model's choice
(log entry 21). -/
def Obligations.io_commands_wait : Prop := ∀ (s : State) (i : Instr) (c : Cmd), ioCmd i = some c →
  ((tryBegin s i).1 = true → ∃ u, exec i s = .next (settle u) ∧ u.eng.held = s.eng.held ++ [i] ∧
    u = { s with dict := u.dict, trace := u.trace, flights := u.flights, eng := u.eng }) ∧
  (flight? s c.fn c.sqid c.cid = none → ∃ op slba nlb, exec i s = exec i (ensure s c op slba nlb) ∧
    (flight? (ensure s c op slba nlb) c.fn c.sqid c.cid).isSome = true) ∧
  (∀ f, flight? s c.fn c.sqid c.cid = some f → f.fuse = 0 → f.nsOk = false → (tryBegin s i).1 = false →
    ∃ u, exec i s = .next (settle u) ∧ Completed u c .invalidNsOrFormat ∧ u.blocks = s.blocks ∧ u.zones = s.zones ∧ u.nss = s.nss)

/-- R122, R125, R127, R128, R135, R153: WRITE and ZONE_APPEND. The rules of protection information are the NVM Command Set's (log entry 40). -/
def Obligations.writes_begin : Prop := ∀ (s : State) (c : Cmd) (f0 : Flight) (i : Instr) append slba bs fua ordered dtype dspec pi,
  WriteOf i c append slba bs fua ordered dtype dspec pi → c.fn < 1024 → flight? s c.fn c.sqid c.cid = some f0 →
  ∀ s1 f n, s1 = setArgs s c slba bs.length fua ordered pi [] → f = flightOf s1 c → n = nsRec s f.nsid →
  (writeHolds s1 f slba (bs.length * n.blk)).1 = false →
  ∀ st, st = firstBad [fuseStatus f, writeStatus (barrierCounted s1 f) f c.resv (!append) true true slba bs.length,
    if append && slba % zoneBlocks s1 n != 0 then .invalidField else .success] →
  (st ≠ .success → ∃ u, exec i s = .next (settle u) ∧ Completed u c st ∧ OnlyCompleted (barrierCounted s1 f) u) ∧
  (st = .success → n.zoned = false →
    (∀ x, x = firstBad [convStatus (barrierCounted s1 f) f n slba bs.length dtype dspec, if pi.pract then .success else piChecks n pi 0 bs] →
      (x ≠ .success → ∃ u, exec i s = .next (settle u) ∧ Completed u c x ∧ OnlyCompleted (barrierCounted s1 f) u) ∧
      (x = .success → ∃ u g, exec i s = .next (settle u) ∧ g ∈ u.flights ∧ g.seq = f.seq ∧ g.slba = slba ∧ g.nlb = bs.length ∧
        g.blocks.map Prod.fst = rangeFrom slba bs.length ∧ g.blocks.map (fun x => x.2.data) = bs.map Block.data ∧ (pi.pract = false → n.piType ≠ 0 → g.blocks.map Prod.snd = bs) ∧
        (g.stage = .running ∨ g.stage = .ordered) ∧ u.blocks = s.blocks ∧ u.zones = s.zones))) ∧
  (st = .success → n.zoned = true → ∀ x lba s2,
    zoneCheck (barrierCounted s1 f) f (slba / zoneBlocks s1 n) append slba bs.length dtype dspec = (x, lba, s2) →
      (x ≠ .success → ∃ u, exec i s = .next (settle u) ∧ Completed u c x ∧ u.blocks = s.blocks) ∧
      (x = .success → pi.pract = false → ∀ y, y = piChecks n pi 0 bs → y ≠ .success →
        ∃ u, exec i s = .next (settle u) ∧ Completed u c y ∧ u.blocks = s.blocks) ∧
      (x = .success → (pi.pract = true ∨ piChecks n pi 0 bs = .success) →
        ∃ u, exec i s = .next (settle u) ∧ (∀ g ∈ u.flights, g.seq = f.seq → g.stage = .running ∧ g.slba = lba ∧
          g.blocks.map Prod.fst = rangeFrom lba bs.length ∧ g.blocks.map (fun x => x.2.data) = bs.map Block.data) ∧
          lba = slba / zoneBlocks s n * zoneBlocks s n + (zoneAt s (zkey f.nsid (slba / zoneBlocks s n))).wp ∧
          (append = false → lba = slba) ∧
          (zoneAt u (zkey f.nsid (slba / zoneBlocks s n))).wp = (zoneAt s (zkey f.nsid (slba / zoneBlocks s n))).wp + bs.length ∧
          u.blocks = s.blocks))

/-- R24 to R26, R125, R127: WRITE_ACKNOWLEDGE. -/
def Obligations.writes_apply : Prop := ∀ (s : State) fn sqid cid f, Sound s → flight? s fn sqid cid = some f → isWriteOp f.opcode = true →
  f.opcode ≠ 4 → f.stage = .running → f.clears = [] → f.blocks ≠ [] → compressedWrite s f = false → (f.blocks.map Prod.fst).Nodup →
  ∀ s1, s1 = modFlight s f.seq (fun x => { x with stage := .committed }) →
  (mayApply s1 f = true → ∃ u, exec (.writeAcknowledge fn sqid cid) s = .next (settle u) ∧
    (∀ x ∈ f.blocks, blockData u f.nsid x.1 = x.2.data ∧ u.pis.get? (lkey f.nsid x.1) = x.2.pi) ∧
    (∀ k, (∀ x ∈ f.blocks, k ≠ lkey f.nsid x.1) → u.blocks.get? k = s.blocks.get? k ∧ u.pis.get? k = s.pis.get? k) ∧
    (∀ g ∈ u.flights, g.seq = f.seq → g.stage = .committed ∧ g.blocks = [])) ∧
  (mayApply s1 f = false → ∃ u, exec (.writeAcknowledge fn sqid cid) s = .next (settle u) ∧ u.blocks = s.blocks ∧ u.pis = s.pis ∧
    ∀ g ∈ u.flights, g.seq = f.seq → g.stage = .committed)

/-- R122, R125: WRITE_ZEROES, WRITE_UNCORRECTABLE, DATASET_MANAGEMENT. -/
def Obligations.zeroes_and_clears : Prop := (∀ (s : State) (c : Cmd) (f0 : Flight), flight? s c.fn c.sqid c.cid = some f0 →
    (∀ slba nlb s1 f n, s1 = setArgs s c slba nlb false false noPi [] → f = flightOf s1 c → n = nsRec s f.nsid → n.zoned = false → f.fuse = 0 → f.ordered = false →
      (writeHolds s1 f slba (nlb * n.blk)).1 = false →
      (firstBad [writeStatus s1 f c.resv true true false slba nlb, convStatus s1 f n slba nlb 0 0,
          piChecks n f.pi 0 (List.replicate nlb ⟨0, some (escTuple n)⟩)] = .success →
        ∃ u g, exec (.writeZeroes c slba nlb false 0 0) s = .next (settle u) ∧ g ∈ u.flights ∧ g.seq = f.seq ∧
          g.blocks.map (fun x => (x.1, x.2.data)) = (rangeFrom slba nlb).map (fun x => (x, 0)) ∧ (g.stage = .running ∨ g.stage = .ordered) ∧ u.blocks = s.blocks) ∧
      (f.opcode = 8 → firstBad [writeStatus s1 f c.resv true true false slba nlb, if slba + nlb > n.nsze then .lbaOutOfRange else .success,
          if nsReadOnly s1 n then .nsWriteProtected else .success] = .success →
        ∃ u g, exec (.writeZeroes c slba nlb true 0 0) s = .next (settle u) ∧ g ∈ u.flights ∧ g.seq = f.seq ∧ g.clears = [(slba, nlb)] ∧
          (g.stage = .running ∨ g.stage = .ordered) ∧ u.blocks = s.blocks)) ∧
    (∀ slba nlb s1 f, s1 = modFlight (setArgs s c slba nlb false false noPi []) f0.seq (fun x => { x with clears := [] }) → f = flightOf s1 c →
      (writeHolds s1 f slba 0).1 = false → f.opcode = 4 → firstBad [writeStatus s1 f c.resv true false false slba nlb,
        if nsReadOnly s1 (nsRec s1 f.nsid) then .nsWriteProtected else .success] = .success →
      ∃ u g, exec (.writeUncorrectable c slba nlb) s = .next (settle u) ∧ g ∈ u.flights ∧ g.seq = f.seq ∧ g.slba = slba ∧ g.nlb = nlb ∧
        (g.stage = .running ∨ g.stage = .ordered) ∧ u.blocks = s.blocks) ∧
    (∀ a b r s1 f, s1 = modFlight (setArgs s c a b false false noPi []) f0.seq (fun x => { x with clears := (a, b) :: r }) → f = flightOf s1 c →
      (writeHolds s1 f a 0).1 = false → f.opcode = 9 → (nsRec s1 f.nsid).zoned = false →
      firstBad [writeStatus s1 f c.resv true true false a 1, if ((a, b) :: r).any (fun x => x.1 + x.2 > (nsRec s1 f.nsid).nsze) then .lbaOutOfRange else .success,
        if nsReadOnly s1 (nsRec s1 f.nsid) then .nsWriteProtected else .success] = .success →
      ∃ u g, exec (.datasetManagement c true ((a, b) :: r)) s = .next (settle u) ∧ g ∈ u.flights ∧ g.seq = f.seq ∧ g.clears = (a, b) :: r ∧
        (g.stage = .running ∨ g.stage = .ordered) ∧ u.blocks = s.blocks) ∧
    (∀ a b r s1 f, s1 = modFlight (setArgs s c a b false false noPi []) f0.seq (fun x => { x with clears := [] }) → f = flightOf s1 c →
      (writeHolds s1 f a 0).1 = false → ioStatus s1 f c.resv true true = .success →
      ∃ u, exec (.datasetManagement c false ((a, b) :: r)) s = .next (settle u) ∧ Completed u c .success ∧ u.blocks = s.blocks ∧ u.xlat = s.xlat)) ∧
  (∀ (s : State) (f : Flight), Sound s → (nsRec s f.nsid).zoned = false → f.blocks = [] → f.opcode ≠ 4 → (∀ r ∈ f.clears, r.1 + r.2 ≤ 2 ^ 64) →
    (∀ r ∈ f.clears, ∀ x, r.1 ≤ x → x < r.1 + r.2 → blockData (applyAll s f) f.nsid x = 0) ∧
    (∀ k, (∀ r ∈ f.clears, ∀ x, r.1 ≤ x → x < r.1 + r.2 → k ≠ lkey f.nsid x) → (applyAll s f).blocks.get? k = s.blocks.get? k)) ∧
  (∀ (s : State) (f : Flight), (nsRec s f.nsid).zoned = false → f.blocks = [] → f.clears = [] → f.opcode = 4 →
    ∀ x ∈ rangeFrom f.slba f.nlb, (applyAll s f).xlat.uncor.has (lkey f.nsid x) = true)

/-- R27, R121, R126, R199: READ, COMPARE, VERIFY, FLUSH. -/
def Obligations.reads_and_flush : Prop :=
  (∀ (s : State) (c : Cmd) (f0 : Flight) (i : Instr) op slba nlb fua ordered pi cmp, c.fn < 1024 → flight? s c.fn c.sqid c.cid = some f0 →
    (op = 2 ∧ cmp = [] ∧ i = .read c slba nlb fua ordered pi) ∨ (op = 5 ∧ fua = false ∧ ordered = false ∧ nlb = cmp.length ∧ i = .compare c slba cmp pi) ∨
      (op = 0x0C ∧ fua = false ∧ ordered = false ∧ cmp = [] ∧ i = .verify c slba nlb pi) →
    ∀ s1 f, s1 = setArgs s c slba nlb fua ordered pi cmp → f = flightOf s1 c → f.fuse = 0 → readHolds s1 f = false →
    ∀ st, st = readStatus (barrierCounted s1 f) f c.resv (op != 0x0C) slba nlb →
      (st ≠ .success → ∃ u, exec i s = .next (settle u) ∧ Completed u c st ∧ OnlyCompleted (barrierCounted s1 f) u) ∧
      (st = .success → ∃ u g, exec i s = .next (settle u) ∧ g ∈ u.flights ∧ g.seq = f.seq ∧ g.stage = .running ∧ g.slba = slba ∧ g.nlb = nlb ∧
        g.compareWith = cmp ∧ g.mapWaits = coldPages s f.nsid (nsRec s f.nsid) slba nlb ∧ g.cove = readCove s f (nsRec s f.nsid) slba ∧
        u.blocks = s.blocks ∧ u.zones = s.zones ∧ u.nss = s.nss ∧ u.xlat = s.xlat)) ∧
  (∀ (u : State) (g : Flight), g.fuse = 0 →
    ∀ bad st n, n = nsRec u g.nsid → bad = (fun l => poisoned u g.nsid l || u.xlat.uncor.has (lkey g.nsid l) || g.failed.contains l) →
      st = firstBad [if (rangeFrom g.slba g.nlb).any bad then .unrecoveredRead else .success,
        firstBad (((rangeFrom g.slba g.nlb).filter (fun l => !bad l)).map (fun l => piCheck n g.pi (l - g.slba) (storedBlock u n g.nsid l))),
        if ((rangeFrom g.slba g.nlb).zip g.compareWith).all (fun p => bad p.1 || p.2.data == blockData u g.nsid p.1) then .success else .compareFailure] →
      Completed (finishRead u g) ⟨g.fn, g.sqid, g.cid, g.nsid, false⟩ st ∧ (finishRead u g).blocks = u.blocks ∧
      (g.opcode = 2 → st = .success → (finishRead u g).hostOut.get? g.fn =
        some ((rangeFrom g.slba g.nlb).flatMap (fun l => leBytes n.blk (blockData u g.nsid l))))) ∧
  (∀ (s : State) (c : Cmd) (f : Flight), flight? s c.fn c.sqid c.cid = some f → beginHolds s f = false → uncheckedBefore s f = false →
    (ioStatus s f c.resv true true = .success → ∃ u g, exec (.flush c) s = .next (settle u) ∧ u = { s with flights := u.flights } ∧ g ∈ u.flights ∧ g.seq = f.seq ∧
      g.stage = .running ∧ ∀ k z, s.zones.get? k = some z → k / 2 ^ 32 = f.nsid → z.unit.isSome = true → k % 2 ^ 32 ∈ g.flushZones) ∧
    (∀ st, ioStatus s f c.resv true true = st → st ≠ .success → ∃ u, exec (.flush c) s = .next (settle u) ∧ Completed u c st ∧ OnlyCompleted s u))

/-- R153, R161, R434: ZONE_OPEN, ZONE_CLOSE, ZONE_OFFLINE, ZONE_FINISH, ZONE_RESET. Which states an action is allowed in is the Zoned Namespace
Command Set's (log entries 30, 39). -/
def Obligations.zone_actions : Prop := (∀ (s : State) (c : Cmd) (f0 : Flight) slba, Sound s → flight? s c.fn c.sqid c.cid = some f0 →
    ∀ s1 f n zk z, s1 = modFlight s f0.seq (fun x => { x with slba := slba }) → f = flightOf s1 c → actHolds s1 f slba false = false →
      n = nsRec s f.nsid → zk = zkey f.nsid (slba / zoneBlocks s n) → z = zoneAt s zk →
    (∀ st, st = actStatus s1 f c.resv slba false → st ≠ .success →
      ∀ i, i = .zoneOpen c slba false ∨ i = .zoneClose c slba false ∨ i = .zoneOffline c slba false ∨ i = .zoneFinish c slba false ∨ i = .zoneReset c slba false →
        ∃ u, exec i s = .next (settle u) ∧ Completed u c st ∧ OnlyCompleted s1 u) ∧
    (actStatus s1 f c.resv slba false = .success →
      (z.st.isActive = true → ∃ u, exec (.zoneClose c slba false) s = .next (settle u) ∧ Completed u c .success ∧ zoneAt u zk = { z with st := .closed } ∧
        ∀ k, k ≠ zk → u.zones.get? k = s.zones.get? k) ∧
      (z.st.isActive = false → ∃ u, exec (.zoneClose c slba false) s = .next (settle u) ∧ Completed u c .invalidZoneTransition ∧ OnlyCompleted s1 u) ∧
      (nsReadOnly s1 n = false → z.st ≠ .full → z.st ≠ .readOnly → z.st ≠ .offline → ∀ k x s2, openSteps s1 f n z 0 0 = (k, x, s2) →
        (x = .success → ∃ u, exec (.zoneOpen c slba false) s = .next (settle u) ∧ Completed u c .success ∧ (zoneAt u zk).st = .explicitOpen ∧
          (zoneAt u zk).wp = z.wp ∧ (z.st = .empty → (zoneAt u zk).cove = k ∧ (zoneAt u zk).coveValid = true)) ∧
        (x ≠ .success → ∃ u, exec (.zoneOpen c slba false) s = .next (settle u) ∧ Completed u c x ∧ u.zones = s.zones)) ∧
      (nsReadOnly s1 n = false → z.st = .full ∨ z.st = .readOnly ∨ z.st = .offline →
        ∃ u, exec (.zoneOpen c slba false) s = .next (settle u) ∧ Completed u c .invalidZoneTransition ∧ u.zones = s.zones) ∧
      (z.st = .readOnly → ∃ u, exec (.zoneOffline c slba false) s = .next (settle u) ∧ Completed u c .success ∧ (zoneAt u zk).st = .offline ∧
        (zoneAt u zk).tag = none ∧ (zoneAt u zk).alloc = 0) ∧
      (z.st ≠ .readOnly → z.st ≠ .offline → ∃ u, exec (.zoneOffline c slba false) s = .next (settle u) ∧ Completed u c .invalidZoneTransition ∧ OnlyCompleted s1 u) ∧
      (∃ u, exec (.zoneFinish c slba false) s = .next (settle u) ∧ u = { s with flights := u.flights, zones := u.zones } ∧
        zoneAt u zk = { z with actions := z.actions ++ [(f.seq, 2)] } ∧ ∀ k, k ≠ zk → u.zones.get? k = s.zones.get? k) ∧
      (∃ u, exec (.zoneReset c slba false) s = .next (settle u) ∧ u = { s with flights := u.flights, zones := u.zones } ∧
        zoneAt u zk = { z with actions := z.actions ++ [(f.seq, 4)] } ∧ ∀ k, k ≠ zk → u.zones.get? k = s.zones.get? k))) ∧
  (∀ (s : State) nsid zone seq r, zone < 2 ^ 32 → (zoneAt s (zkey nsid zone)).actions = (seq, 2) :: r → (zoneAt s (zkey nsid zone)).st.isActive = true →
    (zoneAt (actDone s (zkey nsid zone) seq 2) (zkey nsid zone)).st = .full ∧
    (zoneAt (actDone s (zkey nsid zone) seq 2) (zkey nsid zone)).wp = zoneBlocks s (nsRec s nsid)) ∧
  (∀ (s : State) nsid zone seq r, zone < 2 ^ 32 → (zoneAt s (zkey nsid zone)).actions = (seq, 4) :: r →
    (zoneAt s (zkey nsid zone)).st.isActive = true ∨ (zoneAt s (zkey nsid zone)).st = .full →
    (zoneAt (actDone s (zkey nsid zone) seq 4) (zkey nsid zone)).st = .empty ∧ (zoneAt (actDone s (zkey nsid zone) seq 4) (zkey nsid zone)).wp = 0 ∧
    ∀ x, zone * zoneBlocks s (nsRec s nsid) ≤ x → x < (zone + 1) * zoneBlocks s (nsRec s nsid) → x < 2 ^ 64 →
      blockData (actDone s (zkey nsid zone) seq 4) nsid x = 0)

/-- R140, R147 to R150, R154, R158: COVE_DESC_WRITE, ASSIGN_COVE, ENABLE_DIRECTIVE, COVE_STATUS, ZONE_USAGE, ZONE_MANAGEMENT_RECEIVE, FINISH_ZONE_RECOMMENDED,
ZONE_FINISHED_BY_CONTROLLER. -/
def Obligations.zone_reports_and_directives : Prop :=
  (∀ (s : State) (a : Access) cove x r key, cove < 256 → key = coveKey cove → lookup s a.path (key / 2048 / 256) (key / 2048 % 256) a.inst = .ok (r, key) →
    r.acc = 6 → readOnly r (key / 2048 % 256) = false →
    (writeCheck s r key x = 0 → canStage s (applyTide s) = true → ∃ t p, exec (.coveDescWrite a cove x) s = .next t ∧
      (⟨applyTide s, .entry key x⟩ : Staged) ∈ t.staged ∧ t.store.queue = s.store.queue ++ [p] ∧ p.kind = .rwsp (applyTide s) ∧ coveDesc t cove = coveDesc s cove) ∧
    (writeCheck s r key x ≠ 0 → ∃ t, exec (.coveDescWrite a cove x) s = .next t ∧
      (∃ e, t.miowa.resp.get? (pathCode a.path) = some e ∧ e.op = 2 ∧ e.tag = a.tag ∧ e.status = writeCheck s r key x) ∧ OnlyAnswered s t [])) ∧
  (∀ (s : State) (c : Cmd) (f : Flight) n, flight? s c.fn c.sqid c.cid = some f → n = nsRec s f.nsid →
    (∀ cove zslba, assignStatus s f c.resv cove zslba = .success → ∃ t, exec (.assignCove c cove zslba) s = .next t ∧ Completed t c .success ∧
      zoneAt t (zkey f.nsid (zslba / zoneBlocks s n)) = { zoneAt s (zkey f.nsid (zslba / zoneBlocks s n)) with assigned := some cove } ∧
      OnlyCompleted { s with zones := t.zones } t ∧ ∀ k, k ≠ zkey f.nsid (zslba / zoneBlocks s n) → t.zones.get? k = s.zones.get? k) ∧
    (∀ cove zslba st, assignStatus s f c.resv cove zslba = st → st ≠ .success → Rejected s (.assignCove c cove zslba) c st) ∧
    (ioStatus s f c.resv true true = .success →
      (∀ m on, nsOf s f.nsid = some m → ∃ t, exec (.enableDirective c 0x0F on) s = .next t ∧ Completed t c .success ∧ nsOf t f.nsid = some { m with directive := on } ∧
        OnlyCompleted { s with nss := t.nss } t) ∧
      (∀ ty on, ty ≠ 0x0F → Rejected s (.enableDirective c ty on) c .invalidField) ∧
      (∀ first len, ∃ t b, exec (.coveStatus c first len) s = .next t ∧ Completed t c .success ∧ OnlyCompleted { s with hostOut := t.hostOut } t ∧
        t.hostOut.get? c.fn = some b ∧ b.length ≤ len)) ∧
    (∀ st, ioStatus s f c.resv true true = st → st ≠ .success → (∀ ty on, Rejected s (.enableDirective c ty on) c st) ∧
      ∀ first len, Rejected s (.coveStatus c first len) c st) ∧
    (ioStatus s f c.resv false true = .success → ∀ slba len, slba < n.nsze →
      (slba % zoneBlocks s n = 0 → ∃ t b, exec (.zoneUsage c slba len) s = .next t ∧ Completed t c .success ∧ OnlyCompleted { s with hostOut := t.hostOut } t ∧
        t.hostOut.get? c.fn = some b ∧ b.length ≤ len) ∧
      (slba % zoneBlocks s n ≠ 0 → Rejected s (.zoneUsage c slba len) c .invalidField) ∧
      (∀ option part, option ≤ 7 → ∃ t b, exec (.zoneManagementReceive c slba option len part) s = .next t ∧ Completed t c .success ∧
        OnlyCompleted { s with hostOut := t.hostOut } t ∧ t.hostOut.get? c.fn = some b ∧ b.length ≤ len) ∧
      (∀ option part, 7 < option → Rejected s (.zoneManagementReceive c slba option len part) c .invalidField)) ∧
    (ioStatus s f c.resv false true = .success → ∀ slba len, n.nsze ≤ slba → Rejected s (.zoneUsage c slba len) c .lbaOutOfRange ∧
      ∀ option part, Rejected s (.zoneManagementReceive c slba option len part) c .lbaOutOfRange)) ∧
  (∀ (s : State) nsid zone z, z = zoneAt s (zkey nsid zone) → z.st.isActive = true →
    (v s K.fzrAge ≠ 0 → z.fzr = false → v s K.fzrAge * 1000000000 ≤ s.clk.nowNs - z.lastWriteNs → ∃ t, exec (.finishZoneRecommended nsid zone) s = .next t ∧
      zoneAt t (zkey nsid zone) = { z with fzr := true }) ∧
    (v s K.fzrAge = 0 ∨ s.clk.nowNs - z.lastWriteNs < v s K.fzrAge * 1000000000 → exec (.finishZoneRecommended nsid zone) s = .next s) ∧
    (v s K.zfcAge * 1000000000 ≤ s.clk.nowNs - z.lastWriteNs → ∃ u, exec (.zoneFinishedByController nsid zone) s = .next (settle u) ∧
      (zoneAt u (zkey nsid zone)).st = .full ∧ (zoneAt u (zkey nsid zone)).zfc = true) ∧
    (s.clk.nowNs - z.lastWriteNs < v s K.zfcAge * 1000000000 → exec (.zoneFinishedByController nsid zone) s = .next (settle s)))

/-- R167, R173, R174, R176, R178, R181, R182, R193, R281: MAP_MISS, MAP_PIN_LOAD, MAP_WRITEBACK, GC_START, WEAR_LEVELLING, REFRESH, RELOCATION_SWITCH.
How a block is picked is the model's choice (log entries 24, 52, 58). -/
def Obligations.map_and_reclaim : Prop := ∀ s : State,
  (∀ nsid page a b, nsid ≠ 0xFFFFFFFF → page < 2 ^ 40 → s.xlat.cold.contains (nsid * 2 ^ 32 + page) = true →
    ∃ u, exec (.mapMiss nsid page a b) s = .next (settle u) ∧ u.xlat.cold.contains (nsid * 2 ^ 32 + page) = false ∧
      (a = true ∨ b = true → v u K.mapMisses = satAdd 64 (v s K.mapMisses) 1 ∧
        v u K.metadataRepairs = (if a then v s K.metadataRepairs else satAdd 32 (v s K.metadataRepairs) 1) ∧ u.xlat.poison = s.xlat.poison) ∧
      (a = false → b = false → ∀ x ∈ pageLbas (bump64 s K.mapMisses) (nsid * 2 ^ 32 + page), poisoned u nsid x = true)) ∧
  (∀ page, page = 1 ∨ page = 2 → s.xlat.metaLost = false → ∃ u, exec (.mapMiss 0xFFFFFFFF page false false) s = .next (settle u) ∧
    u.xlat.metaLost = true ∧ u.xlat.readOnlyAll = true) ∧
  (∃ u, exec (.mapMiss 0xFFFFFFFF 3 false false) s = .next (settle u) ∧ u = { s with xlat := u.xlat } ∧ u.xlat.losses = [] ∧
    u.xlat.poison = s.xlat.poison ∧ u.xlat.metaLost = s.xlat.metaLost ∧ u.xlat.readOnlyAll = s.xlat.readOnlyAll ∧
    ∃ l, u.xlat.unpublished = s.xlat.unpublished ++ l ∧ ∀ p ∈ l, p.cause = 6) ∧
  (∀ c, Cd.bounded (coveDesc s c) = true → ∃ u, exec (.mapPinLoad c) s = .next (settle u) ∧ (boundOf u c).mapLoading = false) ∧
  (exec .mapWriteback s = .next (settle { s with xlat := { s.xlat with dirty := [], journal := [] } })) ∧
  (∀ c x, coveKind s c = 3 → backgroundHeld s = false → cleanStripes s c < v s K.gcStartGroups → gcVictim s c = some x →
    ∃ u r, exec (.gcStart c) s = .next (settle u) ∧ u.xlat.relocs = s.xlat.relocs ++ [r] ∧ r.kind = .gc ∧ (r.srcDie, r.srcBlock) = x.blocks.headD (0, 0) ∧
      r.id = s.xlat.nextReloc) ∧
  (∀ c, v s K.gcStartGroups ≤ cleanStripes s c → exec (.gcStart c) s = .next (settle s)) ∧
  (∀ die b zk a p q, dieUp s die = true → backgroundHeld s = false → refreshNext s die = some b → Relocatable s .refresh die b zk a p q →
    ∃ u, exec (.refresh die) s = .next (settle u) ∧ Relocates s u .refresh die b zk a p q ∧ v u K.refreshRewrites = satAdd 64 (v s K.refreshRewrites) 1) ∧
  (∀ die es lo b zk a p q, dieUp s die = true → backgroundHeld s = false →
    es = ((List.range (slotOf s die).blocks).filter (fun b => !(blockAt s die b).bad && !(reservedBlocks s die).contains b)).map (fun b => (blockAt s die b).erases) →
    lo = es.foldl Nat.min (maxNat es) → lo + v s K.wearSpread < maxNat es →
    firstBy ((userBlocks s die).filter (fun x => x.2.erases == lo)) (fun a b => a.progTime < b.progTime) = some b → Relocatable s .wear die b zk a p q →
    ∃ u, exec (.wearLevelling die) s = .next (settle u) ∧ Relocates s u .wear die b zk a p q ∧ v u K.relocations = satAdd 64 (v s K.relocations) 1) ∧
  (∀ id r zk k p d b, s.xlat.relocs.find? (fun r => r.id == id) = some r → r.kind ≠ .gc → r.target = .alloc zk k p d b →
    (blockAt s r.srcDie r.srcBlock).failed = false → b < 32768 → r.srcBlock < 32768 → (d, b) ≠ (r.srcDie, r.srcBlock) →
    ∃ u, exec (.relocationSwitch id) s = .next (settle u) ∧ (∀ x ∈ u.xlat.relocs, x.id ≠ id) ∧ (blockAt u d b).use = .zone zk k p ∧
      (blockAt u r.srcDie r.srcBlock).use = .free ∧ (blockAt u r.srcDie r.srcBlock).stale = true) ∧
  (∀ id, s.xlat.relocs.find? (fun r => r.id == id) = none → exec (.relocationSwitch id) s = .next (settle s))

/-- R185 to R188: LOSS_PUBLISH, DIE_RETIRE, DIE_NOTICE_ENUMERATION. -/
def Obligations.losses_and_dies : Prop := ∀ s : State,
  (∀ p r, s.xlat.unpublished = p :: r → s.xlat.losses.length < lossCapacity → ∃ t, exec .lossPublish s = .next t ∧ t.xlat.unpublished = r ∧
    t.xlat.losses = s.xlat.losses ++ [⟨v s K.lossSeqLast + 1, p.nsid, p.slba, p.nlb, p.cause, p.flags, p.loc, p.cove, p.time, s.clk.tide⟩] ∧
    v t K.lossSeqLast = v s K.lossSeqLast + 1) ∧
  (s.xlat.unpublished = [] → exec .lossPublish s = .next s) ∧
  (∀ die, dieState s die = 1 → ∃ u, exec (.dieRetire die) s = .next (settle u) ∧ dieState u die = 2 ∧ ∀ f ∈ u.flights, ∀ a ∈ f.waits, a.die ≠ die) ∧
  (∀ die, dieState s die ≠ 1 → exec (.dieRetire die) s = .next (settle s)) ∧
  (∀ die, s.xlat.enumerating.contains die = true → ∃ u, exec (.dieNoticeEnumeration die) s = .next (settle u) ∧ u = { s with xlat := u.xlat } ∧
    u.xlat.enumerating.contains die = false ∧ (∀ x ∈ u.xlat.poison, x.2 ≠ 3 + 256 * (die + 1)) ∧
    ∀ c ∈ coves s, (Cd.dies (coveDesc s c)).contains die = true → ∃ e ∈ u.xlat.unpublished, e.nsid = 0xFFFFFFFF ∧ e.flags = 24 ∧ e.loc = die ∧ e.cove = c) ∧
  (∀ die, s.xlat.enumerating.contains die = false → exec (.dieNoticeEnumeration die) s = .next (settle s))

/-- R198 to R201, R208, R210, R212, R214: COMPRESS_PIECE, UNIT_IDLE_CUT, DECODE_FRAME. The length of a compressed piece is its operand (log entry 23). -/
def Obligations.compression_and_frames : Prop := ∀ s : State, Sound s →
  (∀ fn sqid cid sc cmp f lba b p rest, flight? s fn sqid cid = some f → nextPiece s f = ((lba, b) :: p, rest) → f.stage = .running ∨ f.stage = .committed →
    compressedWrite s f = true → mayApply s f = true → bitAt (v s K.compressorsInService) cmp = true →
    (((lba, b) :: p).map Prod.fst).Nodup →
    (∃ u, exec (.compressPiece fn sqid cid sc true cmp false) s = .next (settle u) ∧
      (∀ x ∈ (lba, b) :: p, blockData u f.nsid x.1 = x.2.data) ∧ (∀ k, (∀ x ∈ (lba, b) :: p, k ≠ lkey f.nsid x.1) → u.blocks.get? k = s.blocks.get? k) ∧
      ∀ g ∈ u.flights, g.seq = f.seq → g.blocks = rest) ∧
    (∃ u, exec (.compressPiece fn sqid cid sc false cmp false) s = .next (settle u) ∧ u.blocks = s.blocks ∧
      u.comp.mismatches.getD cmp 0 = s.comp.mismatches.getD cmp 0 + 1) ∧
    (∀ ver, ∃ u, exec (.compressPiece fn sqid cid sc ver cmp true) s = .next (settle u) ∧ v u K.outbufStalls = satAdd 64 (v s K.outbufStalls) 1 ∧
      (zoneAt u (zkey f.nsid (lba / zoneBlocks s (nsRec s f.nsid)))).unit.any OpenUnit.stalled = true ∧ u = { s with dict := u.dict, zones := u.zones })) ∧
  (∀ nsid zone x n, zone < 2 ^ 32 → (zoneAt s (zkey nsid zone)).unit = some x → nsOf s nsid = some n → 0 < x.bytes →
    (x.lastPieceNs + v s K.unitIdleMs * 1000000 ≤ s.clk.nowNs → ∃ u f, exec (.unitIdleCut nsid zone) s = .next (settle u) ∧
      (zoneAt u (zkey nsid zone)).unit = none ∧ (zoneAt u (zkey nsid zone)).frames = (zoneAt s (zkey nsid zone)).frames ++ [f] ∧
      f.start = x.start ∧ f.len = x.bytes ∧ f.cause = 4) ∧
    (s.clk.nowNs < x.lastPieceNs + v s K.unitIdleMs * 1000000 → exec (.unitIdleCut nsid zone) s = .next (settle s))) ∧
  (∀ nsid zone start upto dec z f, frameOf s nsid (zone * (zoneBlocks s (nsRec s nsid) * (nsRec s nsid).blk) + start) = some (z, f) → f.kind ≠ 2 →
    (∃ u, exec (.decodeFrame nsid zone start upto dec 0 false) s = .next (settle u) ∧ u = { s with flights := u.flights } ∧
      ∀ g ∈ u.flights, g.nsid = nsid → g.waits = [] →
        ∀ w ∈ g.frameWaits, w.1 = zone * (zoneBlocks s (nsRec s nsid) * (nsRec s nsid).blk) + start → w.1 + upto ≤ w.2) ∧
    (∀ dz, 1 ≤ dz → dz ≤ 4 → ∀ ok, ∃ u, exec (.decodeFrame nsid zone start upto dec dz ok) s = .next (settle u) ∧ u.blocks = s.blocks ∧ u.flights = s.flights ∧
      v u (unitKey K.dzErrors (dz - 1)) = satAdd 32 (v s (unitKey K.dzErrors (dz - 1))) 1))

/-- R219 (with R218, R220, R222 for the values): what a feed, a restore and INIT do to one unit, and to nothing else. -/
def Obligations.crc_feeds : Prop := ∀ (s : State) (n agent x y : Nat) (u : CrcUnit), s.crc.units[n]? = some u →
  (u.holder = agent → agent ≠ 0 → u.alg ≠ 0 →
    (∃ t, exec (.feedB n agent x) s = .next t ∧ OnlyUnit s t n ∧
      t.crc.units[n]? = some { u with running := algFeed u.alg 1 u.running x, bytes := satAdd 32 u.bytes 1 }) ∧
    (∃ t, exec (.feedH n agent x) s = .next t ∧ OnlyUnit s t n ∧
      t.crc.units[n]? = some { u with running := algFeed u.alg 2 u.running x, bytes := satAdd 32 u.bytes 2 }) ∧
    (∃ t, exec (.feedW n agent x) s = .next t ∧ OnlyUnit s t n ∧
      t.crc.units[n]? = some { u with running := algFeed u.alg 4 u.running x, bytes := satAdd 32 u.bytes 4 }) ∧
    (∃ t, exec (.runningRestore n agent x y) s = .next t ∧ OnlyUnit s t n ∧
      t.crc.units[n]? = some { u with running := (x % 2 ^ 32 + y % 2 ^ 32 * 2 ^ 32) % 2 ^ algWidth u.alg, bytes := 0 })) ∧
  (u.holder ≠ agent ∨ agent = 0 ∨ u.alg = 0 →
    ∀ c, c = .feedB n agent x ∨ c = .feedH n agent x ∨ c = .feedW n agent x ∨ c = .runningRestore n agent x y →
      ∃ t, exec c s = .next t ∧ OnlyUnit s t n ∧ t.crc.units[n]? = some { u with dropped := true }) ∧
  (∃ t, exec (.crcInit n agent) s = .next t ∧ OnlyUnit s t n ∧
    t.crc.units[n]? = some { u with running := algInit u.alg, bytes := 0 })

/-- R220: a half-word is its two bytes, low byte first, and a word its two half-words, low half first: the unit's whole state is the same. -/
def Obligations.crc_split : Prop := ∀ (s : State) (n agent x : Nat),
  (∃ t a b, exec (.feedH n agent x) s = .next t ∧ exec (.feedB n agent (x % 256)) s = .next a ∧
    exec (.feedB n agent (x / 256 % 256)) a = .next b ∧ t = b) ∧
  (∃ t a b, exec (.feedW n agent x) s = .next t ∧ exec (.feedH n agent (x % 65536)) s = .next a ∧
    exec (.feedH n agent (x / 65536 % 65536)) a = .next b ∧ t = b)

/-- R221: the lease of a unit, the wait, and the release. -/
def Obligations.crc_lease : Prop := ∀ (s : State) (holder alg : Nat) (urgent : Bool), s.crc.waiting = [] →
  (holder ≠ 0 → ∀ n u, s.crc.units[n]? = some u → u.holder = 0 → u.out = false →
    (∀ m < n, ∀ w, s.crc.units[m]? = some w → w.holder ≠ 0 ∨ w.out = true) →
    ∃ t, exec (.crcLease none holder alg urgent) s = .next t ∧ OnlyUnit s t n ∧
      t.crc.units[n]? = some { u with holder := holder, alg := alg }) ∧
  (holder ≠ 0 → (∀ w ∈ s.crc.units, w.holder ≠ 0 ∨ w.out = true) →
    ∃ t, exec (.crcLease none holder alg urgent) s = .next t ∧
      t = { s with dict := t.dict, crc := { s.crc with waiting := [⟨holder, alg, urgent⟩] } } ∧
      v t K.crcLeaseWaits = satAdd 64 (v s K.crcLeaseWaits) 1 ∧ ∀ k, k ≠ K.crcLeaseWaits → v t k = v s k) ∧
  (∀ n u, s.crc.units[n]? = some u → ∃ t, exec (.crcLease (some n) 0 alg urgent) s = .next t ∧ OnlyUnit s t n ∧
    t.crc.units[n]? = some { u with holder := 0, alg := 0 })

/-- R233 to R235, R331: the descriptor commands and DESCRIPTOR_WITHDRAW. -/
def Obligations.nand_descriptors : Prop := ∀ s : State,
  (∀ i op d0 d, DescOf i op d0 → d = { d0 with opcode := op } →
    (descCheck s d = 0 → (lunAt s (descDie d)).queue.length < 16 → (op = 3 → programNext s d = true) →
      (op = 1 → d.work = .background → backgroundRead (lunAt s (descDie d)) = false) →
      ∃ t, exec i s = .next t ∧ (lunAt t (descDie d)) = { lunAt s (descDie d) with queue := (lunAt s (descDie d)).queue ++ [d] } ∧
        t = { s with nand := { s.nand with luns := t.nand.luns } } ∧ ∀ k, k ≠ descDie d → t.nand.luns.get? k = s.nand.luns.get? k) ∧
    (descCheck s d = 0 → 16 ≤ (lunAt s (descDie d)).queue.length ∨ (op = 3 ∧ programNext s d = false) → exec i s = .next s) ∧
    (∀ st, descCheck s d = st → st ≠ 0 → ∃ t, exec i s = .next t ∧ ChannelDone t d.channel d.tag st ∧ t.nand.luns = s.nand.luns ∧
      (st = 0x0B → Recorded s t Ev.ncBadDescriptor [d.channel, d.tag])) ∧
    (fencedNow s = true → descCheck s d = 0x07) ∧
    (fencedNow s = false → bitAt (ownedMask s) d.channel = false → descCheck s d = 0x08) ∧
    (fencedNow s = false → bitAt (ownedMask s) d.channel = true → (slotAt s (d.channel * 8 + d.ce)).present = false ∨ dieState s (descDie d) ≠ 1 →
      descCheck s d = 0x0C) ∧
    (fencedNow s = false → bitAt (ownedMask s) d.channel = true → (slotAt s (d.channel * 8 + d.ce)).present = true → dieState s (descDie d) = 1 →
      d0.resv = true → descCheck s d = 0x0B)) ∧
  (∀ die tag d, (lunAt s die).queue.find? (fun x => x.tag == tag) = some d → ∃ t, exec (.descriptorWithdraw die tag) s = .next t ∧
    ChannelDone t d.channel tag 0x0D ∧ (lunAt t die).queue = (lunAt s die).queue.erase d ∧ (lunAt t die).run = (lunAt s die).run ∧ t = { s with nand := t.nand }) ∧
  (∀ die tag, (lunAt s die).queue.find? (fun x => x.tag == tag) = none → exec (.descriptorWithdraw die tag) s = .next s)

/-- R233, R235 to R237, R243, R269, R409: OPERATION_START, NAND_COMPLETION, ARRAY_TIMEOUT, WT_LOG_DELAY_EXPIRY. -/
def Obligations.nand_operations : Prop := ∀ (s : State) (die : Nat),
  (∀ d r, (lunAt s die).run = none → (lunAt s die).susp = none → s.power.state < 2 → fencedNow s = false → dieUp s die = true →
    strandUp s die = true → candidates s (lunAt s die) = some d :: r → ¬(isPE d = true ∧ d.flush = false ∧ s.thermal.held.contains (slotOfDie die) = true) →
    (tokensGranted s d false = true → ∃ t, exec (.operationStart die) s = .next t ∧ (lunAt t die).run = some ⟨d, s.clk.nowNs, 0, 0, false, tokenCost s d⟩ ∧
      (lunAt t die).queue = (lunAt s die).queue.erase d ∧
      t = dieTrace { s with nand := t.nand } die 1 [d.level % 256 * 2 ^ 24 + d.opcode % 256 * 2 ^ 16 + die % 65536, d.tag]) ∧
    (tokensGranted s d false = false → ∃ t, exec (.operationStart die) s = .next t ∧ t.nand.luns = s.nand.luns ∧ (die, tokenKind d false) ∈ t.nand.tokenWait)) ∧
  ((lunAt s die).run.isSome = true ∨ 2 ≤ s.power.state ∨ fencedNow s = true ∨ candidates s (lunAt s die) = [] → exec (.operationStart die) s = .next s) ∧
  (∀ st tm sr fo, (lunAt s die).run = none → exec (.nandCompletion die st tm sr fo) s = .next (settle s) ∧ ∀ b, exec (.arrayTimeout die b) s = .next (settle s)) ∧
  (∀ o st tm sr fo, (lunAt s die).run = some o → 5 < st ∨ (st = 1 ∧ o.d.opcode ≠ 3) ∨ (st = 2 ∧ o.d.opcode ≠ 4) →
    exec (.nandCompletion die st tm sr fo) s = .next (settle s)) ∧
  (∀ o tm sr fo b, (lunAt s die).run = some o → b = blockAt s (descDie o.d) o.d.block →
    ∃ u, exec (.nandCompletion die 0 tm sr fo) s = .next (settle u) ∧ ChannelDone u o.d.channel o.d.tag 0 ∧ (lunAt u die).run = none ∧
      (o.d.opcode = 3 → (blockAt u (descDie o.d) o.d.block).firsts = (if o.d.pass = 1 then b.firsts + 1 else b.firsts) ∧
        (blockAt u (descDie o.d) o.d.block).finals = (if o.d.pass = 1 then b.finals else b.finals + 1)) ∧
      (o.d.opcode = 4 → (blockAt u (descDie o.d) o.d.block).erases = b.erases + 1 ∧ (blockAt u (descDie o.d) o.d.block).finals = 0 ∧
        (blockAt u (descDie o.d) o.d.block).stale = false) ∧
      (o.d.opcode = 1 → o.d.level = 0 → ∀ a ∈ descCws o.d, hasArrived u a = true) ∧ u.blocks = s.blocks) ∧
  (∀ o b, (lunAt s die).run = some o → ∃ u, exec (.arrayTimeout die b) s = .next (settle u) ∧ ChannelDone u o.d.channel o.d.tag (if b then 3 else 4) ∧
    (b = false → dieState s die = 1 → dieState u die = 2)) ∧
  (∀ fn sqid cid f l, flight? s fn sqid cid = some f → vb s K.writeThrough = true → f.stage = .committed →
    (∃ e ∈ s.xlat.wbuf, e.nsid = f.nsid ∧ e.lba < f.slba + f.nlb ∧ f.slba < e.lba + e.nlb ∧ e.logged = false) → logBlock s = some l →
    ∃ u, exec (.wtLogDelayExpiry fn sqid cid true) s = .next (settle u) ∧
      (∀ e ∈ u.xlat.wbuf, e.nsid = f.nsid → e.lba < f.slba + f.nlb → f.slba < e.lba + e.nlb → e.logged = true) ∧
      u = { s with xlat := { s.xlat with wbuf := u.xlat.wbuf }, nand := { s.nand with wtLog := u.nand.wtLog } })

/-- R229, R230, R237, R238, R270, R271, R409: the suspend commands, NAND_NEGOTIATION, SLOT_RETRAIN. The order of lower rates is the model's choice
(log entry 70). -/
def Obligations.suspend_and_negotiate : Prop := ∀ (s : State) (die : Nat),
  (∀ o, (lunAt s die).run = some o → suspendable o.d = true → (lunAt s die).susp = none → o.asked = false →
    (lunAt s die).queue.any (fun d => foreRead d && unitAdmitted s d) = true →
    (v s K.suspendMinRun * 1000 ≤ s.clk.nowNs - o.startNs → ∃ t o', exec (.suspendRequest die) s = .next t ∧ (lunAt t die).run = none ∧
      (lunAt t die).susp = some o' ∧ o'.d = o.d ∧ o'.suspends = o.suspends + 1 ∧ o'.tokens = 0 ∧ v t K.suspends = satAdd 64 (v s K.suspends) 1 ∧
      ∃ s1, t = dieTrace s1 die 2 [die, o.d.tag] ∧ s1 = { s with nand := t.nand, dict := s1.dict } ∧ OnlyEntries s s1 [K.suspends]) ∧
    (s.clk.nowNs - o.startNs < v s K.suspendMinRun * 1000 → ∃ t, exec (.suspendRequest die) s = .next t ∧ (lunAt t die).run = some { o with asked := true } ∧
      v t K.suspendDeferrals = satAdd 64 (v s K.suspendDeferrals) 1)) ∧
  (∀ o, (lunAt s die).run = some o →
    (o.asked = true → ∃ t o', exec (.suspendMinRunElapsed die) s = .next t ∧ (lunAt t die).run = none ∧ (lunAt t die).susp = some o' ∧ o'.d = o.d) ∧
    (o.asked = false → exec (.suspendMinRunElapsed die) s = .next s)) ∧
  ((lunAt s die).run = none → exec (.suspendRequest die) s = .next s) ∧
  ((lunAt s die).susp.isSome = true → (lunAt s die).ready = false → ∃ t, exec (.suspendLunReady die) s = .next t ∧ (lunAt t die).ready = true ∧
    (lunAt t die).readyNs = s.clk.nowNs ∧ t = { s with nand := { s.nand with luns := t.nand.luns } }) ∧
  (∀ o, (lunAt s die).susp = some o → (lunAt s die).ready = true → (lunAt s die).run = none →
    (lunAt s die).queue.any (fun d => foreRead d && unitAdmitted s d) = false → tokensGranted s o.d true = true →
    (∃ t, exec (.resumeRequest die) s = .next t ∧ (lunAt t die).susp = none ∧
      (lunAt t die).run = some { o with startNs := s.clk.nowNs, asked := false, tokens := tokenCost s o.d } ∧
      t = dieTrace { s with nand := t.nand } die 3 [die, o.d.tag, Nat.min ((s.clk.nowNs - o.startNs) / 100) (2 ^ 32 - 1)])) ∧
  ((lunAt s die).susp.isSome = true → (lunAt s die).ready = true → (lunAt s die).run.isSome = true →
    ∃ t, exec (.suspendWindowExpiry die) s = .next t ∧ (lunAt t die).resume = true ∧ (lunAt t die).susp = (lunAt s die).susp) ∧
  ((lunAt s die).susp = none → exec (.suspendLunReady die) s = .next s ∧ exec (.resumeRequest die) s = .next s ∧ exec (.suspendWindowExpiry die) s = .next s) ∧
  (∀ l, driveMask s ≠ 0 → s.power.state < 2 → s.power.down = false → ∃ u, exec (.nandNegotiation l) s = .next (settle u) ∧ u.nand.negotiated = true) ∧
  (∀ l, driveMask s = 0 ∨ 2 ≤ s.power.state ∨ s.power.down = true → exec (.nandNegotiation l) s = .next (settle s)) ∧
  (∀ r t, settleSlot s r = some t → r.signature = true ∧ t.iface ∈ r.ifaces ∧ t.rate ≤ v s K.nandTargetRate ∧ t.rate ≤ r.maxRate ∧ (t.rate, t.drive, t.odt) ∈ r.passes) ∧
  (∀ sl d o, (slotAt s sl).present = true →
    ((slotAt s sl).retrains < 3 → ∃ u, exec (.slotRetrain sl (some (d, o))) s = .next (settle u) ∧ (slotAt u sl).rate = (slotAt s sl).rate ∧
      (slotAt u sl).retrains = (slotAt s sl).retrains + 1 ∧ (slotAt u sl).drive = d ∧ (slotAt u sl).odt = o) ∧
    (3 ≤ (slotAt s sl).retrains → ∀ r, lowerRate (slotAt s sl).rate = some r → ∃ u, exec (.slotRetrain sl (some (d, o))) s = .next (settle u) ∧
      (slotAt u sl).rate = r ∧ r < (slotAt s sl).rate ∧ (slotAt u sl).retrains = 0)) ∧
  (∀ sl p, (slotAt s sl).present = false → exec (.slotRetrain sl p) s = .next (settle s))

/-- R247, R254, R257, R258, R265 to R267: HARD_DECODE, LADDER_STEP, CAL_PERSIST, PATROL_PACE, PATROL_READ. Which generation and page a decode belongs
to follows log entries 71, 72. -/
def Obligations.recovery_and_patrol : Prop := ∀ s : State,
  (∀ a ones e10 e01 unsat, ∃ u, exec (.hardDecode a true (tailAddrOf a) ones e10 e01 unsat) s = .next (settle u) ∧ (∀ f ∈ u.flights, a ∉ f.waits) ∧
    ((blockAt s a.die a.block).cell < 4 → e10 + e01 < vg s ((s.nand.arrived.find? (fun x => x.1 == a)).elim s.genNow (fun x => x.2.1)) (unitKey K.refreshBits (blockAt s a.die a.block).cell) → vb s K.calEnable = true → suspendedProgram s a.die = false →
      (offAt s (offKeyOf s a)).usesCur ((s.nand.arrived.find? (fun x => x.1 == a)).elim s.genNow (fun x => x.2.1)) = true →
      (offAt u (offKeyOf s a)).s = (offAt s (offKeyOf s a)).s + 1 ∧ (offAt u (offKeyOf s a)).n1 = (offAt s (offKeyOf s a)).n1 + ones ∧
      (offAt u (offKeyOf s a)).e10 = (offAt s (offKeyOf s a)).e10 + e10 ∧ (offAt u (offKeyOf s a)).e01 = (offAt s (offKeyOf s a)).e01 + e01)) ∧
  (∀ a ok tail ones e10 e01 unsat, ok = false ∨ tail ≠ tailAddrOf a →
    (∀ l, ladderOn s (CwAddr.unit a) = some l → ∃ u, exec (.hardDecode a ok tail ones e10 e01 unsat) s = .next (settle u) ∧ u.flights = s.flights ∧
      u.blocks = s.blocks ∧ ∃ x ∈ u.nand.ladders, x.unit = CwAddr.unit a ∧ (a.plane, a.cw) ∈ x.cws) ∧
    (∀ g n, ladderOn s (CwAddr.unit a) = none → levelFeature s a.die ≠ 0 → g = (s.nand.arrived.find? (fun x => x.1 == a)).elim s.genNow (fun x => x.2.1) →
      nextLevel s a.die g 0 0 = some n → ∃ u, exec (.hardDecode a ok tail ones e10 e01 unsat) s = .next (settle u) ∧
        ∃ x ∈ u.nand.ladders, x.unit = CwAddr.unit a ∧ x.cws = [(a.plane, a.cw)] ∧ x.next = n ∧ x.gen = g)) ∧
  (∀ die block wl pt l, ladderOn s (die, block, wl, pt) = some l →
    (∀ res, (∀ c ∈ l.cws, ∃ k, (c.1, c.2, true, k) ∈ res) → ∃ u, exec (.ladderStep die block wl pt res) s = .next (settle u) ∧
      (∀ x ∈ u.nand.ladders, x.unit ≠ (die, block, wl, pt)) ∧ ∀ f ∈ u.flights, ∀ a ∈ l.left, a ∉ f.waits) ∧
    (l.cws ≠ [] → ∀ b, b = (if l.next < 0x20 ∧ 0 < l.bestU then l.next else l.best) →
      (∀ n, nextLevel s l.die l.gen l.next b = some n → ∃ u, exec (.ladderStep die block wl pt []) s = .next (settle u) ∧
        u = { s with nand := { s.nand with ladders := u.nand.ladders } } ∧ ∃ x ∈ u.nand.ladders, x.unit = (die, block, wl, pt) ∧ x.next = n ∧ x.cws = l.cws) ∧
      (nextLevel s l.die l.gen l.next b = none → l.frame = none → blockYoung s (blockAt s die block) = false → (blockAt s die block).cell < 4 →
        (∀ zk k p, (blockAt s die block).use = .zone zk k p → (zoneAt s zk).cove < 256 ∧ (nsRec s (zk / 2 ^ 32)).firstCove < 256) →
        ∃ u, exec (.ladderStep die block wl pt []) s = .next (settle u) ∧ (∀ x ∈ u.nand.ladders, x.unit ≠ (die, block, wl, pt)) ∧
          ∀ a ∈ l.left, ∀ x ∈ lbasAt s die block (cwOffset s a) 4096, ∀ y ∈ x.2, poisoned u x.1 y = true))) ∧
  (∀ die block wl pt res, ladderOn s (die, block, wl, pt) = none → exec (.ladderStep die block wl pt res) s = .next (settle s)) ∧
  (∃ t, exec .calPersist s = .next t ∧ t = { s with nand := { s.nand with offsKept := t.nand.offsKept } } ∧
    (∀ p ∈ s.nand.offs, ∃ q ∈ s.nand.offs, q.1 = p.1 ∧ t.nand.offsKept.get? p.1 = some q.2.cur) ∧
    ∀ k, (∀ p ∈ s.nand.offs, p.1 ≠ k) → t.nand.offsKept.get? k = s.nand.offsKept.get? k) ∧
  (∃ t, exec .patrolPace s = .next t ∧ ∀ p ∈ s.nand.dies, dieUp s p.1 = true → ∃ r, t.nand.patrolRate.get? p.1 = some r ∧ (patrolOn s = false → r = 0)) ∧
  (∀ die block wl pt d, patrolOn s = true → patrolled s die (blockAt s die block) = true → wl < (blockAt s die block).passed →
    pt < cellPages (blockAt s die block).cell → backgroundRead (lunAt s die) = false →
    channelCoves s (die / 64) = [] ∨ channelUnits s (die / 64) < channelDepth s (die / 64) →
    (lapAt s (blockAt s die block).cell).done.contains (die, block, wl, pt) = false → (blockAt s die block).pending = none →
    d = { opcode := 1, flush := false, noSuspend := false, channel := die / 64, ce := die / 8 % 8, lun := die % 8, pass := 0, cell := (blockAt s die block).cell, planeMask := 2 ^ (slotOf s die).planes - 1, cwMask := 15, pageType := pt, level := 0, block := block, wordline := wl, tag := 0, gen := s.genNow % 16, feature := 0, data := 0, resv := false, work := .background } →
    descCheck s d = 0 → (lunAt s die).queue.length < 16 → ∃ t, exec (.patrolRead die block wl pt) s = .next t ∧
      (lunAt t die).queue = (lunAt s die).queue ++ [d] ∧ t = { s with nand := { s.nand with luns := t.nand.luns } }) ∧
  (∀ die block wl pt, patrolOn s = false → exec (.patrolRead die block wl pt) s = .next s)

/-- R278, R279, R287: ADMISSION_DEADLINE. -/
def Obligations.read_admission : Prop := ∀ (s : State) fn sqid cid f, flight? s fn sqid cid = some f →
  (f.bounded = true → held f = true → deadline s f ≤ s.clk.nowNs → unitsFit s f = false →
    (f.excused = false → excuseAll s = false → excuseCove s f.cove = false → ∃ u, exec (.admissionDeadline fn sqid cid) s = .next (settle u) ∧
      v u K.boundRefused = satAdd 64 (v s K.boundRefused) 1 ∧ Completed u ⟨fn, sqid, cid, f.nsid, false⟩ .commandInterrupted ∧
      (boundOf u f.cove).refused = satAdd 32 (boundOf s f.cove).refused 1) ∧
    (f.excused = true ∨ excuseAll s = true ∨ excuseCove s f.cove = true → ∃ u, exec (.admissionDeadline fn sqid cid) s = .next (settle u) ∧
      ∀ g ∈ u.flights, g.seq = f.seq → g.bounded = false)) ∧
  (f.bounded = false ∨ held f = false ∨ s.clk.nowNs < deadline s f ∨ unitsFit s f = true → exec (.admissionDeadline fn sqid cid) s = .next (settle s))

/-- R290 to R302: the DRAM commands. The contents of a burst and the order of a pick are the model's choices (log entries 45, 46). -/
def Obligations.dram_controller : Prop := ∀ s : State,
  (∀ l geo, geo = v s K.dramGeometry → 6 * channelBytes (fld geo 15 12) (fld geo 11 8) (fld geo 7 4) ≤ 192 * 2 ^ 30 →
    (∀ ch < 6, dramCause (fld geo 15 4) (v s K.dramTargetRate) (l.getD ch (0, [])) = 0) →
    ∃ t, exec (.dramNegotiation l) s = .next t ∧ t.dram.negotiated = true ∧ t.dram.failed = false ∧
      v t K.dramBytes = 6 * channelBytes (fld geo 15 12) (fld geo 11 8) (fld geo 7 4) ∧ v t K.dramUsable = 36 * v t K.dramRate ∧
      v t K.dramRate = ((List.range 6).map (fun ch => (dramReached (v s K.dramTargetRate) (l.getD ch (0, [])).2).getD 0)).foldl Nat.min 8000) ∧
  (∀ l ch, ch < 6 → dramCause (fld (v s K.dramGeometry) 15 4) (v s K.dramTargetRate) (l.getD ch (0, [])) ≠ 0 →
    ∃ t, exec (.dramNegotiation l) s = .next t ∧ t.dram.failed = true ∧ t.dram.negotiated = s.dram.negotiated ∧ t.dram.mem = s.dram.mem ∧
      ∀ n < 1024, fnExists s n = true → (inst t n).cfs = true) ∧
  (∀ addr k b, k = dramChannel addr * 2 + subOf (dramLocal addr) → b = subAt s k →
    (∀ x, ((b.queue ++ b.input).filter (fun x => x.write && x.burst == addr / 64)).getLast? = some x → ∀ d,
      ∃ t, exec (.dramRequest addr false d []) s = .next t ∧ t = { s with dram := { s.dram with lastRead := some (addr / 64, x.data) } }) ∧
    (((b.queue ++ b.input).filter (fun x => x.write && x.burst == addr / 64)).getLast? = none → ∀ d, ∃ t r, exec (.dramRequest addr false d []) s = .next t ∧
      (subAt t k).queue ++ (subAt t k).input = b.queue ++ b.input ++ [r] ∧ r.burst = addr / 64 ∧ r.write = false ∧ t.dram.mem = s.dram.mem) ∧
    (∀ d, ∃ t r, exec (.dramRequest addr true d []) s = .next t ∧ (subAt t k).queue ++ (subAt t k).input = b.queue ++ b.input ++ [r] ∧
      r.burst = addr / 64 ∧ r.write = true ∧ r.data = d % 2 ^ 512 ∧ t.dram.mem = s.dram.mem) ∧
    (∀ d o, b.queue = [] → b.input = [] → s.dram.mem.wf = true → dramBlocked s (k / 2) = false → bankOf s (dramLocal addr) ∈ o.ready → o.crcFails = 0 →
      ∃ t, exec (.dramRequest addr true d [o]) s = .next t ∧ burstData t (addr / 64) = d % 2 ^ 512 ∧
        ∀ x, x ≠ addr / 64 → burstData t x = burstData s x)) ∧
  (∀ ch sub rank ba, s.dram.selfRefresh = false → (chanAt s ch).ready = true →
    (dramBlocked s ch = false → ∃ t, exec (.sameBankRefresh ch sub rank ba) s = .next t ∧ (subAt t (ch * 2 + sub)).owed = [] ∧
      (subAt t (ch * 2 + sub)).refreshed = (subAt s (ch * 2 + sub)).refreshed + (subAt s (ch * 2 + sub)).owed.length + 1 ∧
      t = { s with dram := { s.dram with subs := t.dram.subs } }) ∧
    (dramBlocked s ch = true → ∃ t, exec (.sameBankRefresh ch sub rank ba) s = .next t ∧
      subAt t (ch * 2 + sub) = { subAt s (ch * 2 + sub) with owed := (subAt s (ch * 2 + sub)).owed ++ [rank * 4 + ba] })) ∧
  (∀ ch sub rank ba, s.dram.selfRefresh = true → exec (.sameBankRefresh ch sub rank ba) s = .next s) ∧
  (∃ t, exec .rowTableClear s = .next t ∧ (∀ k b, t.dram.subs.get? k = some b → b.rows = []) ∧ t = { s with dram := { s.dram with subs := t.dram.subs } }) ∧
  (∀ ch drift, s.power.state < 2 → s.dram.selfRefresh = false → (chanAt s ch).ready = true →
    (∀ x, (chanAt s ch).pauseNs = some x → x + 500000 ≤ s.clk.nowNs) → (∀ x, s.dram.lastPauseNs = some x → x + 83000 ≤ s.clk.nowNs) →
    ∃ t, exec (.retrainPause ch drift) s = .next t ∧ (chanAt t ch).pauseNs = some s.clk.nowNs ∧ t.dram.lastPauseNs = some s.clk.nowNs ∧
      v t K.retrainPauses = satAdd 64 (v s K.retrainPauses) 1) ∧
  (∀ ch drift x, (chanAt s ch).pauseNs = some x → s.clk.nowNs < x + 500000 → exec (.retrainPause ch drift) s = .next s)

/-- R304, R305, R307 to R310: the buffer commands and WM_RECORD_RC. That a request that cannot be granted waits is the model's choice and so is how it is charged (log entry 50). -/
def Obligations.buffer_pools : Prop := ∀ s : State,
  (∀ dom bytes q n p i tag, dom ≤ 8 → poolFor bytes = some p → lowestFree s dom p = some i → chargeFits s dom p n = true → tag = ((bufAt s (bufKey dom p i)).tag + 1) % 16 →
    ∃ t, exec (.bufferAllocate dom bytes q n) s = .next t ∧ bufAt t (bufKey dom p i) = ⟨true, 1, tag, false, n⟩ ∧
      t.bufs.granted = some (mkHandle dom p tag i) ∧ ∀ k, k ≠ bufKey dom p i → t.bufs.bufs.get? k = s.bufs.bufs.get? k) ∧
  (∀ dom bytes q n, dom ≤ 8 → 262144 < bytes → ∃ t, exec (.bufferAllocate dom bytes q n) s = .next t ∧ t.bufs = { s.bufs with code := 6 } ∧
    Recorded s t Ev.bpRefused [6, 0, q]) ∧
  (∀ dom bytes q n, dom ≤ 8 → poolFor bytes ≠ none → tryGrant s ⟨dom, bytes, q, n⟩ = none → ∃ t, exec (.bufferAllocate dom bytes q n) s = .next t ∧
    t = { s with bufs := { s.bufs with waiting := s.bufs.waiting ++ [⟨dom, bytes, q, n⟩], granted := none } }) ∧
  (∀ h q k b, k = bufKey (hDomain h) (hPool h) (hIndex h) → b = bufAt s k → handleOk s h = true →
    (b.alloc = true → b.tag = hTag h → b.refs < 255 → ∃ t, exec (.bufferAcquire h q) s = .next t ∧ bufAt t k = { b with refs := b.refs + 1 } ∧
      t = { s with bufs := { s.bufs with bufs := t.bufs.bufs, code := 0 } }) ∧
    (b.alloc = true → b.tag = hTag h → 255 ≤ b.refs → ∃ t, exec (.bufferAcquire h q) s = .next t ∧ t.bufs = { s.bufs with code := 3 }) ∧
    (b.alloc = false → (∃ t, exec (.bufferAcquire h q) s = .next t ∧ t.bufs = { s.bufs with code := 4 }) ∧
      ∃ t, exec (.bufferRelease h q) s = .next t ∧ t.bufs = { s.bufs with code := 1 }) ∧
    (b.alloc = true → b.tag ≠ hTag h → (∃ t, exec (.bufferAcquire h q) s = .next t ∧ t.bufs = { s.bufs with code := 2 }) ∧
      ∃ t, exec (.bufferRelease h q) s = .next t ∧ t.bufs = { s.bufs with code := 2 }) ∧
    (b.alloc = true → b.tag = hTag h → 1 < b.refs → ∃ t, exec (.bufferRelease h q) s = .next t ∧ bufAt t k = { b with refs := b.refs - 1 } ∧
      t = { s with bufs := { s.bufs with bufs := t.bufs.bufs, code := 0 } }) ∧
    (b.alloc = true → b.tag = hTag h → b.refs ≤ 1 → s.bufs.waiting = [] → ∃ t, exec (.bufferRelease h q) s = .next t ∧ (bufAt t k).alloc = false ∧
      (bufAt t k).tag = b.tag ∧ ∀ j, j ≠ k → t.bufs.bufs.get? j = s.bufs.bufs.get? j)) ∧
  (∀ h q, handleOk s h = false → (∃ t, exec (.bufferAcquire h q) s = .next t ∧ t.bufs = { s.bufs with code := 5 }) ∧
    ∃ t, exec (.bufferRelease h q) s = .next t ∧ t.bufs = { s.bufs with code := 5 }) ∧
  (∀ a w r key, w < 6 → lookup s a.path 0x5104 (7 + w) a.inst = .ok (r, key) → ∃ t, exec (.wmRecordRc a w) s = .next t ∧
    Answered t a.path 1 a.tag 0 (leBytes ((rowOf 0x5104 (7 + w)).elim 0 Row.size) (v s (unitKey K.wmRecord w))) ∧
    v t (unitKey K.wmRecord w) = wmPack (wmLevel (v s (unitKey K.wmRecord w))) false 0 (wmFree s w))

/-- R313 to R317: SCRUB_ACCESS and the five ECC test operations. The code itself is a free value of the model (log entry 48). -/
def Obligations.stored_data_protection : Prop := ∀ (s : State) (region : Nat),
  (∀ l, l = s.bufs.laps.getD region (newLap s region) → region ≤ 4 → l.total ≠ 0 → vb s K.scrubEnable = true → s.power.state < 2 → l.read + 1 < l.total →
    ∃ t, exec (.scrubAccess region true none) s = .next t ∧ t = { s with bufs := { s.bufs with laps := s.bufs.laps.put region { l with read := l.read + 1 } } }) ∧
  (∀ idle err, vb s K.scrubEnable = false → exec (.scrubAccess region idle err) s = .next s) ∧
  (s.boot.service = true → eccRefused s region = false →
    (∃ t, exec (.eccTestWrite region) s = .next t ∧ t.bufs.test.refused = false ∧ t.bufs.test.mem.get? (region * 65536 + s.bufs.test.offset) =
      some (s.bufs.test.data % 2 ^ 64 + Config.eccCheck s.bufs.test.data % 65536 * 2 ^ 64)) ∧
    (∃ t, exec (.eccTestWriteData region) s = .next t ∧ t.bufs.test.mem.get? (region * 65536 + s.bufs.test.offset) =
      some (s.bufs.test.data % 2 ^ 64 + (testWord s region).2 % 65536 * 2 ^ 64)) ∧
    (∃ t, exec (.eccTestWriteCheck region) s = .next t ∧ t.bufs.test.mem.get? (region * 65536 + s.bufs.test.offset) =
      some ((testWord s region).1 % 2 ^ 64 + s.bufs.test.check % 65536 * 2 ^ 64)) ∧
    (∃ t, exec (.eccTestReadRaw region) s = .next t ∧ t.bufs.test.data = (testWord s region).1 ∧ t.bufs.test.check = (testWord s region).2 ∧
      t.bufs.test.mem = s.bufs.test.mem ∧ t.bufs.test.outcome = (eccDecode (testWord s region).1 (testWord s region).2).1 ∧
      v t K.eccTestDetects = (if (eccDecode (testWord s region).1 (testWord s region).2).1 = 0 then v s K.eccTestDetects else satAdd 32 (v s K.eccTestDetects) 1)) ∧
    (∃ t, exec (.eccTestReadCorrected region) s = .next t ∧ t.bufs.test.data = (eccDecode (testWord s region).1 (testWord s region).2).2 ∧
      t.bufs.test.mem = s.bufs.test.mem)) ∧
  (∀ i, i = .eccTestWrite region ∨ i = .eccTestWriteData region ∨ i = .eccTestWriteCheck region ∨ i = .eccTestReadRaw region ∨ i = .eccTestReadCorrected region →
    (s.boot.service = true → eccRefused s region = true → ∃ t, exec i s = .next t ∧
      t = { s with bufs := { s.bufs with test := { s.bufs.test with region := region, refused := true } } }) ∧
    (s.boot.service = false → exec i s = .next s))

/-- R322 to R326, R338 to R340: the records of the Rinor link. Where a record lands once it is released is the model's reading (log entry 95). -/
def Obligations.pair_link : Prop := ∀ s : State, Sound s →
  (s.pair.enabled = true → ∀ rate width ver m, m = rinorMode rate width ver → ∃ t, exec (.rinorLinkUp rate width ver) s = .next t ∧
    t.pair = { s.pair with linkUp := true, linkMode := m } ∧ t = { s with dict := t.dict, pair := t.pair, trace := t.trace } ∧
    OnlyEntries s t [K.rinorNegotiation, K.traceLost] ∧ (bitAt (v s K.traceSources) 0x1A = false → t.trace = s.trace) ∧
    v t K.rinorNegotiation = negRecord 4 (if m = rinorOffered s then 1 else 2) (negAttempts (v s K.rinorNegotiation) + 1) m (rinorOffered s) (time64 s)) ∧
  (s.pair.enabled = true → s.pair.linkUp = false → ∃ t, exec .rinorTrainingTimeout s = .next t ∧ t = { s with dict := t.dict } ∧
    OnlyEntries s t [K.rinorNegotiation] ∧ v t K.rinorNegotiation = negRecord 4 3 (negAttempts (v s K.rinorNegotiation) + 1) 0 (rinorOffered s) (time64 s)) ∧
  (s.pair.enabled = false ∨ s.pair.linkUp = true → exec .rinorTrainingTimeout s = .next s) ∧
  (s.pair.linkUp = true → exec .rinorLinkDown s = .next (traceItem { s with pair := { s.pair with linkUp := false, linkMode := 0 } } 0x1A 2 0 [s.pair.linkMode])) ∧
  (s.pair.linkUp = false → exec .rinorLinkDown s = .next { s with pair := { s.pair with linkMode := 0 } }) ∧
  (∀ i k h b, MirrorOf i k h b →
    (peerUp s = true → s.pair.state = 2 ∨ s.pair.state = 6 → s.pair.recvSeq < h.seq → (∀ x ∈ s.pair.recv, x.seq = h.seq → x.good = false) →
      ∃ t, exec i s = .next t ∧ t = { s with pair := t.pair } ∧ (⟨h.seq, k, h.arg, h.len, h.group, h.groupEnd, b, h.good⟩ : MirRec) ∈ t.pair.recv ∧
        (h.good = true → h.seq = s.pair.recvSeq + 1 → h.seq ≤ t.pair.recvSeq ∧ (s.pair.recv = [] → t.pair.recvSeq = h.seq)) ∧
        ((h.good = true → h.seq ≠ s.pair.recvSeq + 1) → (∀ x ∈ s.pair.recv, x.seq = s.pair.recvSeq + 1 → x.good = false) → t.pair.recvSeq = s.pair.recvSeq)) ∧
    (peerUp s = false ∨ (s.pair.state ≠ 2 ∧ s.pair.state ≠ 6) ∨ h.seq ≤ s.pair.recvSeq → exec i s = .next s)) ∧
  (∀ h, peerUp s = true → s.pair.state = 2 ∨ s.pair.state = 6 → h.good = true → ∃ t, exec (.mirrorRelease h) s = .next t ∧
    (∀ r ∈ t.pair.recv, ¬ (r.kind ≤ 3 ∧ r.arg = h.arg ∧ r.seq < h.seq)) ∧
    ∀ r nsid lba data, s.pair.recv = [r] → r.kind ≤ 3 → r.arg = h.arg → r.seq < h.seq → r.body = .blocks [(nsid, lba, data)] → blockData t nsid lba = data) ∧
  (∀ h, peerUp s = false ∨ (s.pair.state ≠ 2 ∧ s.pair.state ≠ 6) → exec (.mirrorRelease h) s = .next s) ∧
  (∀ arg m, m = Nat.min arg s.pair.seqSent → s.pair.forwards = [] →
    (peerUp s = true → s.pair.seqAcked < m → ∃ u, exec (.mirrorAck arg) s = .next (settle u) ∧ u.pair.seqAcked = m ∧
      (∀ r ∈ u.pair.unacked, m < r.seq) ∧ ∀ r ∈ s.pair.unacked, m < r.seq → r ∈ u.pair.unacked) ∧
    (peerUp s = false ∨ m ≤ s.pair.seqAcked → exec (.mirrorAck arg) s = .next (settle s))) ∧
  (∀ seq, (peerUp s = true → (∃ r ∈ s.pair.unacked, r.seq = seq) → ∃ t, exec (.resendRequest seq) s = .next t ∧ t = { s with dict := t.dict, trace := t.trace } ∧
      v t K.mirrorResends = satAdd 32 (v s K.mirrorResends) 1 ∧ OnlyEntries s t [K.mirrorResends, K.traceLost] ∧ (bitAt (v s K.traceSources) 0x1A = false → t.trace = s.trace)) ∧
    (peerUp s = false ∨ (∀ r ∈ s.pair.unacked ++ s.pair.kept, r.seq ≠ seq) → exec (.resendRequest seq) s = .next s)) ∧
  (∀ fn q cid, (peerUp s = false → ∀ cmd, exec (.adminForward fn q cid cmd) s = .next (settle s)) ∧
    ∀ nsid n, peerUp s = true → nsOf s nsid = some n → n.waitq = [] → n.running = none → n.attached = [] → s.boot.sanitizing = false → s.boot.sanWait = [] →
      ∃ u m, exec (.adminForward fn q cid (.delete nsid)) s = .next (settle u) ∧ u.nss.get? nsid = some m ∧ m.deleting = true ∧ m.running ≠ none ∧
        m = { n with deleting := true, remote := [], running := m.running } ∧ u = { s with nss := u.nss, pair := u.pair }) ∧
  (∀ idx sub x b r key, rowOf idx sub = some r → pairShared idx sub = true → peerUp s = true → key = entryKey idx sub 0 →
    ∃ u p, exec (.pairSharedEntry idx sub x b) s = .next (settle u) ∧ u.store.queue = s.store.queue ++ [p] ∧ p.answer = false ∧
      (r.acc = 6 → (⟨applyTide s, .entry key x⟩ : Staged) ∈ u.staged ∧ p.recs = [jrec key 2 (if r.ty = 14 then b else leBytes r.size x) (applyTide s)]) ∧
      (r.acc ≠ 6 → u.staged = s.staged ∧ p.recs = [jrec key 1 (if r.ty = 14 then b else leBytes r.size x) 0])) ∧
  (∀ idx sub x b, peerUp s = false ∨ pairShared idx sub = false → exec (.pairSharedEntry idx sub x b) s = .next (settle s)) ∧
  (∀ target, (peerUp s = true → ∃ t, exec (.powerCoordination target) s = .next t ∧ t = { s with pair := t.pair } ∧
      t.pair.partnerAsleep = (target == 2 || target == 3) ∧ ∃ r ∈ t.pair.recv, r.kind = 0x0A) ∧
    (peerUp s = false → exec (.powerCoordination target) s = .next s))

/-- R320, R321, R331 to R337, R340: forming, fencing, taking over, handing over. What a package in each state answers is the model's reading (log
entries 75, 97, 98). -/
def Obligations.pair_state : Prop := ∀ (s : State) me other, me = s.pair.position → other = otherHalf me →
  (∀ f, peerUp s = false → exec (.formation f) s = .next (settle s)) ∧
  (∀ f, peerUp s = true → f.handover = false → s.pair.state = 1 →
    (formCause s f = 0 → s.pair.returning = false → anaOf s me ≠ 1 → ∃ u, exec (.formation f) s = .next (settle u) ∧ u.pair.state = 2 ∧ u.pair.recvSeq = 0 ∧
      u.pair.recv = [] ∧ anaOf u other = 1 ∧ anaOf u me = anaOf s me ∧ ∀ x ∈ halfStrands other, x ∈ u.nand.gated) ∧
    (formCause s f = 0 → s.pair.returning = true → ∃ u, exec (.formation f) s = .next (settle u) ∧ u.pair.state = 6 ∧ anaOf u me = 2 ∧ anaOf u other = 1) ∧
    (formCause s f ≠ 0 → ∃ u, exec (.formation f) s = .next (settle u) ∧ u.pair = { s.pair with state := 7, hbOut := false } ∧
      Recorded s u Ev.pairRefused [formCause s f] ∧ ∀ n < 1024, fnExists s n = true → (inst u n).cfs = true)) ∧
  (∀ f, peerUp s = true → f.handover = false → s.pair.state = 4 → s.pair.fenceOut = false → formCause s f = 0 →
    ∃ u, exec (.formation f) s = .next (settle u) ∧ u.pair.state = 6 ∧ u.pair.handing = some other ∧ anaOf u other = 2) ∧
  (∀ i, (i = .pairFormTimeout false ∧ s.pair.state = 1 ∧ me = 0) ∨ (∃ hb, i = .pairDeadTime hb ∧ mirroring s = true ∧ mirrorLost s = true ∧ s.pair.partnerAsleep = false ∧ me = 0) ∨
      (i = .pairFenceDefer false ∧ s.pair.deferring = true) → s.pair.fenceIn = false →
    (s.pair.recv = [] → ∃ u, exec i s = .next (settle u) ∧ u.pair.state = 3 ∧ u.pair.fenceOut = true ∧ u.pair.fenceNs = s.clk.nowNs ∧ anaOf u me = 0 ∧ anaOf u other = 2 ∧
      u.pair.unacked = [] ∧ u.nand.takingOver = halfMask other) ∧
    (∀ r nsid zone wp st n, s.pair.recv = [r] → r.groupEnd = true → r.seq ≤ s.pair.recvSeq → r.body = .zone nsid zone wp st → nsOf s nsid = some n →
      ∃ u, exec i s = .next (settle u) ∧ (zoneAt u (zkey nsid zone)).wp = wp ∧ (zoneAt u (zkey nsid zone)).st = zstateOf st)) ∧
  (me ≠ 0 → s.pair.state = 1 → exec (.pairFormTimeout false) s = .next (settle { s with pair := { s.pair with deferring := true } })) ∧
  (s.pair.state ≠ 1 → ∀ e, exec (.pairFormTimeout e) s = .next (settle s)) ∧
  (me ≠ 0 → mirroring s = true → mirrorLost s = true → s.pair.partnerAsleep = false →
    exec (.pairDeadTime false) s = .next (settle { s with pair := { s.pair with hbInStopped := true, deferring := true } }) ∧
    exec (.pairDeadTime true) s = .next (settle { s with pair := { s.pair with hbInStopped := false } })) ∧
  (∀ hb, mirroring s = false ∨ (mirrorLost s = false ∧ s.pair.partnerAsleep = false) →
    exec (.pairDeadTime hb) s = .next (settle { s with pair := { s.pair with hbInStopped := !hb } })) ∧
  (s.pair.deferring = true → exec (.pairFenceDefer true) s = .next (settle { s with pair := { s.pair with deferring := false, hbInStopped := false } })) ∧
  (s.pair.deferring = false → ∀ hb, exec (.pairFenceDefer hb) s = .next (settle s)) ∧
  (s.pair.state = 3 → s.pair.forwards = [] → ∃ u, exec .takeoverComplete s = .next (settle u) ∧ u.pair.state = 4 ∧ u.nand.takingOver = 0 ∧ anaOf u other = 0 ∧
    anaOf u me = anaOf s me ∧ v u K.lastTakeoverUs = Nat.min ((s.clk.nowNs - s.pair.fenceNs) / 1000) (2 ^ 32 - 1)) ∧
  (s.pair.state ≠ 3 → exec .takeoverComplete s = .next (settle s)) ∧
  (s.pair.enabled = true → s.pair.fenceIn = false → ∃ u, exec .fenced s = .next (settle u) ∧ u.pair.state = 5 ∧ u.pair.fenceIn = true ∧ u.pair.fenceOut = false ∧
    u.pair.hbOut = false ∧ u.xlat.wbuf = [] ∧ u.nand.wtLog = [] ∧ u.wdt.kicks = [] ∧ ∀ n < 1024, fnExists u n = true → (inst u n).cfs = true) ∧
  (s.pair.enabled = false ∨ s.pair.fenceIn = true → exec .fenced s = .next (settle s)) ∧
  (s.pair.state = 5 → exec .fenceRelease s = .next { s with pair := { s.pair with state := 1, fenceIn := false, returning := true, hbOut := true } }) ∧
  (s.pair.state ≠ 5 → exec .fenceRelease s = .next s) ∧
  (∀ a, Allowed s a 0x6001 8 1 → ∃ u, exec (.rejoin a) s = .next (settle u) ∧ Answered u a.path 2 a.tag (if s.pair.state = 4 ∨ s.pair.state = 8 then 0 else 0x0D) [] ∧
    (s.pair.state = 4 → u.pair = { s.pair with fenceOut := false }) ∧
    (s.pair.state = 8 → u.pair.state = 6 ∧ u.pair.returning = true ∧ anaOf u me = 2) ∧ (s.pair.state ≠ 4 → s.pair.state ≠ 8 → u.pair = s.pair)) ∧
  (∀ a, Allowed s a 0x6001 8 2 → ∃ u, exec (.surrender a) s = .next (settle u) ∧
    (s.pair.state = 2 → mirroring s = true → Answered u a.path 2 a.tag 0 [] ∧ u.pair.state = 6 ∧ u.pair.handing = some me ∧ anaOf u me = 2) ∧
    (s.pair.state ≠ 2 ∨ mirroring s = false → Answered u a.path 2 a.tag 0x0D [] ∧ u.pair = s.pair))

/-- R342 to R345, R347 to R351: supplies, sequence, Ebb, sleep and wake. Which rail a step is, and what a domain is held at, are the model's (log entries
87, 88, 105). -/
def Obligations.rails_and_sleep : Prop := ∀ s : State,
  (∀ pos d, ∃ t, exec (.powerOn pos d) s = .next t ∧ t.genNow = 0 ∧ t.staged = [] ∧ t.sqs = [] ∧ t.cqs = [] ∧ t.thermal = Thermal.atReset ∧ t.wdt = State.reset.wdt ∧
    t.clk = { State.reset.clk with crystalOk := s.clk.crystalOk, refAOk := s.clk.refAOk, refBOk := s.clk.refBOk, source := t.clk.source, keptNs := t.clk.keptNs } ∧
    t.clk.keptNs = (if s.clk.calSet then s.clk.calNs else s.clk.keptNs) ∧
    t.power = { Power.atReset with step := if t.boot.recovery then 2 else 3 } ∧ t.boot.powered = true ∧ t.pair.position = pos % 2 ∧
    (t.pair.enabled = true → d = true) ∧ t.pair.state = (if t.pair.enabled then 1 else 0) ∧ t.pair.fenceOut = false) ∧
  (∀ step, sequencing s = true → step = s.power.good + 1 → step ≤ 7 →
    (∃ t, exec (.powerGood step) s = .next t ∧ t.power.good = step ∧ t.power.step = Nat.min 7 (step + 1) ∧ t = { s with dict := t.dict, power := t.power } ∧
      (step = 4 → t.power.request = [750, 750, 750, 750, 750] ∧ ∀ i < 5, v t (unitKey K.coreMv i) = 750) ∧ (step ≠ 4 → t.dict = s.dict)) ∧
    ∃ t, exec (.powerGoodTimeout step) s = .next t ∧ RailFault s t (stepRail step)) ∧
  (∀ step, sequencing s = false ∨ step ≠ s.power.good + 1 ∨ 7 < step → exec (.powerGood step) s = .next s ∧ exec (.powerGoodTimeout step) s = .next s) ∧
  (∀ step, sequencing s = true → stepOn s step = true → ∃ t, exec (.powerGoodFall step) s = .next t ∧ RailFault s t (stepRail step)) ∧
  (∀ step, sequencing s = false ∨ stepOn s step = false → exec (.powerGoodFall step) s = .next s) ∧
  (∀ rail, rail < 5 → sequencing s = true → stepOn s 4 = true → ∃ t, exec (.avsbusTimeout rail) s = .next t ∧ RailFault s t rail) ∧
  (∀ rail, 5 ≤ rail ∨ sequencing s = false ∨ stepOn s 4 = false → exec (.avsbusTimeout rail) s = .next s) ∧
  (v s K.ebbIdleMs ≠ 0 → s.power.state = 0 → s.power.entry = none → exec .ebbIdle s = .next { s with power := { s.power with ebbIdle := true } }) ∧
  (v s K.ebbIdleMs = 0 ∨ s.power.state ≠ 0 ∨ s.power.entry ≠ none → exec .ebbIdle s = .next s) ∧
  (∀ a x, x = 2 ∨ x = 3 → Allowed s a 0x7010 9 x → s.power.state < 2 → s.power.entry = none → s.power.down = false → s.boot.recovery = false →
    s.power.flushActive = false → ∃ t, exec (.powerRequestSleep a x) s = .next t ∧ Answered t a.path 2 a.tag 0 [] ∧
      (belowWarning s = true → v t K.sleepResult = 2 ∧ t.power = s.power) ∧
      (belowWarning s = false → (sleepQuiet s = false → t.power = { s.power with entry := some ⟨x, false, false⟩ }) ∧
        (sleepQuiet s = true → s.pair.enabled = false → t.power = { s.power with entry := some ⟨x, true, true⟩ }) ∧
        (sleepQuiet s = true → s.pair.enabled = true → s.pair.linkUp = true → mirroring s = true → t.power = { s.power with entry := some ⟨x, true, false⟩ } ∧
          t.pair.coordSeq = s.pair.seqSent + 1))) ∧
  (∀ a, Allowed s a 0x7010 9 0 → ∃ t, exec (.powerRequestWake a) s = .next t ∧ Answered t a.path 2 a.tag 0 [] ∧
    (outOfBand a.path = true → wakeEnabled s 8 = true → s.power.entry = none → 2 ≤ s.power.state → t.power.state = 0) ∧
    (outOfBand a.path = false ∨ wakeEnabled s 8 = false → OnlyAnswered s t [])) ∧
  (∀ x, s.power.entry = some ⟨x, true, true⟩ → ∃ t, exec .sleepCommit s = .next t ∧ v t K.sleepResult = 0 ∧ t.dram = { (dramDrain s).dram with selfRefresh := true } ∧ (∀ p ∈ t.dram.subs, p.2.queue = [] ∧ p.2.input = []) ∧
    t.power = { s.power with state := x, before := s.power.ps, ps := x + 1, entry := none, sleepCopy := true } ∧
    v t (unitKey K.coreMv 0) = (if x = 3 then 0 else 650) ∧ (∀ i, 1 ≤ i → i < 5 → v t (unitKey K.coreMv i) = 0) ∧
    (x = 3 → t.miowa.xfers = [] ∧ t.trace.fifo = []) ∧ (x ≠ 3 → t.miowa = s.miowa ∧ (s.power.state ≠ x → t.trace = (traceItem s 0x18 1 x [s.clk.tide]).trace))) ∧
  (∀ x c, s.power.entry = some ⟨x, c, false⟩ → (c = true ∨ sleepQuiet s = false) → exec .sleepCommit s = .next s) ∧
  (s.power.entry = none → exec .sleepCommit s = .next s) ∧
  (∀ src, wakeEnabled s src = true →
    (s.power.entry = none → 2 ≤ s.power.state → ∃ u, exec (.wake src) s = .next (settle u) ∧
      u.power = { s.power with state := 0, ps := s.power.before, budget := s.power.before, sleepCopy := false, ebbIdle := false, copyErasing := s.power.copyErasing || s.power.sleepCopy } ∧
      u.dram = { s.dram with selfRefresh := false } ∧ v u K.lastWake = src ∧ v u K.lastWakeTime = time64 s ∧ Recorded s u Ev.wake [src, v s K.sleepResult] ∧
      ∀ i < 5, v u (unitKey K.coreMv i) = s.power.request.getD i 750) ∧
    (∀ e, s.power.entry = some e → ∃ u, exec (.wake src) s = .next (settle u) ∧ u.power = { s.power with entry := none, copyErasing := s.power.copyErasing || e.copied } ∧
      v u K.sleepResult = 1 ∧ v u K.sleepAborts = satAdd 32 (v s K.sleepAborts) 1 ∧ v u K.lastWake = src ∧ v u K.lastWakeTime = time64 s) ∧
    (s.power.entry = none → s.power.state < 2 → exec (.wake src) s = .next (settle s))) ∧
  (∀ src, wakeEnabled s src = false → exec (.wake src) s = .next s)

/-- R240, R351, R355 to R359, R371, R379: thresholds, flush and loss. What an incomplete flush leaves is the model's free choice (log entry 83). -/
def Obligations.supply_and_flush : Prop := ∀ s : State,
  (∀ mv, ∃ t, exec (.supplyWarning mv) s = .next t ∧ v t K.supplyNowMv = mv ∧ t = { s with dict := t.dict, power := t.power, trace := t.trace } ∧
    OnlyEntries s t [K.supplyNowMv, K.supplyState, K.traceLost] ∧ (bitAt (v s K.traceSources) 0x18 = false → t.trace = s.trace) ∧
    (s.power.flushActive = false → s.power.supplyGood = true → v t K.supplyState = 1 ∧ t.power.armed = true ∧ t.power.fallNs = s.clk.nowNs) ∧
    (s.power.flushActive = false → s.power.supplyGood = false → v t K.supplyState = v s K.supplyState ∧ t.power.armed = s.power.armed ∧ t.power.countNs = s.clk.nowNs) ∧
    (s.power.flushActive = true → v t K.supplyState = v s K.supplyState ∧ t.power = { s.power with lowest := t.power.lowest })) ∧
  (∀ i s1, FlushFall s i s1 →
    (s.power.down = false → s.power.state < 2 → s.power.supplyGood = true → s.power.flushActive = false → ∃ t, exec i s = .next t ∧ FlushBegins s t ∧ t.power.armed = true) ∧
    (s.power.down = false → 2 ≤ s.power.state → ∃ t, exec i s = .next t ∧ Recorded s t Ev.flushLevelInSleep [v s1 K.supplyNowMv] ∧ t.power = s1.power ∧
      t = { s1 with dict := t.dict, recd := t.recd }) ∧
    (s.power.down = true ∨ (s.power.state < 2 ∧ s.power.supplyGood = false) → exec i s = .next s1)) ∧
  (s.power.armed = false ∨ belowWarning s = false → exec .tHoldExpiry s = .next s) ∧
  (vb s K.pfailEnable = false → exec .pfail s = .next s) ∧
  (∀ mv, ∃ t, exec (.supplyHysteresisCrossing mv) s = .next t ∧ v t K.supplyNowMv = mv ∧ t.power.countNs = s.clk.nowNs ∧
    t = { s with dict := t.dict, power := t.power, trace := t.trace } ∧ (bitAt (v s K.traceSources) 0x18 = false → t.trace = s.trace) ∧
    (s.power.flushActive = false → s.power.armed = true ∨ s.power.flushEnded = true → v t K.supplyState = if recoverLevel s ≤ mv then 3 else 1) ∧
    (s.power.flushActive = true ∨ (s.power.armed = false ∧ s.power.flushEnded = false) → v t K.supplyState = v s K.supplyState)) ∧
  (v s K.supplyState = 3 → recoverLevel s ≤ v s K.supplyNowMv → s.power.flushActive = false → s.power.down = false →
    (s.power.flushEnded = false → s.power.armed = true → ∃ u, exec .supplyRecovered s = .next (settle u) ∧ v u K.supplyState = 0 ∧ v u K.supplyLastMinMv = s.power.lowest ∧
      v u K.supplyDips = satAdd 32 (v s K.supplyDips) 1 ∧ Recorded s u Ev.supplyDip [s.power.lowest] ∧
      u.power = { s.power with armed := false, flushEnded := false, supplyGood := true }) ∧
    (s.power.flushEnded = false → s.power.armed = false → ∃ t, exec .supplyRecovered s = .next t ∧ v t K.supplyState = 0 ∧ OnlyEntries s t [K.supplyState, K.traceLost] ∧
      t = traceItem { s with dict := s.dict.put K.supplyState 0, power := { s.power with armed := false, flushEnded := false, supplyGood := true } } 0x18 2 0 [v s K.supplyNowMv]) ∧
    (s.power.flushEnded = true → fwPending s = 0 → s.power.entry = none → ∃ t, exec .supplyRecovered s = .next t ∧ FunctionsReset s t ∧
      t.power = { s.power with armed := false, flushEnded := false, supplyGood := true })) ∧
  (v s K.supplyState ≠ 3 ∨ v s K.supplyNowMv < recoverLevel s ∨ s.power.flushActive = true ∨ s.power.down = true → exec .supplyRecovered s = .next s) ∧
  (∀ mv, s.power.down = false → ∃ t, exec (.supplyResetLevel mv) s = .next t ∧ Down t ∧ t.store = s.store ∧ t.cf = s.cf ∧
    ((2 ≤ s.power.state ∧ s.power.sleepCopy = true) ∨ s.power.flushEnded = true → t.power.flushLost = s.power.flushLost) ∧
    (s.power.state < 2 → s.power.flushEnded = false → s.power.flushActive = false → s.zones = [] → t.power.flushLost = s.power.flushLost ++ uncovered s)) ∧
  (∀ mv, s.power.down = true → exec (.supplyResetLevel mv) s = .next (supplySample s mv)) ∧
  (∀ lost, s.power.flushActive = true → ∃ u, exec (.flushEnd lost) s = .next (settle u) ∧ u.power.flushActive = false ∧
    (s.power.afterFlush ≠ 0 → u.power.afterFlush = 0) ∧
    (s.power.afterFlush = 0 → s.power.heldResets = [] → v u K.flushLast = Nat.min ((s.clk.nowNs - s.power.flushStartNs) / 1000) (2 ^ 32 - 1) ∧
      v u K.supplyLastMinMv = s.power.lowest ∧ v u K.supplyState = (if recoverLevel s ≤ v s K.supplyNowMv then 3 else 1) ∧ u.recd.flushed = s.recd.staging ∧
      u.nand.flushArea = true ∧ u.nand.wtLog = [] ∧ u.power = { s.power with flushActive := false, flushEnded := true, flushLost := lost, countNs := s.clk.nowNs })) ∧
  (∀ lost, s.power.flushActive = false → exec (.flushEnd lost) s = .next (settle s)) ∧
  (∃ t, exec .vddAoLoss s = .next t ∧ t.boot.powered = false ∧ t.store = { s.store with queue := [], waitAck := [] } ∧ t.cf.run0 = none ∧ t.cf.run1 = none ∧ t.cf.queue = [] ∧
    (s.power.down = false → Down t))

/-- R241, R242, R360 to R362: the hold-up bank. How the logarithm of R361 is computed is the model's choice (log entry 126). -/
def Obligations.holdup_bank : Prop := ∀ s : State,
  (∀ mv, ∃ t, exec (.holdupCharge mv) s = .next t ∧ v t K.huBankMv = mv ∧ OnlyEntries s t [K.huBankMv] ∧ t = { s with dict := t.dict, power := t.power } ∧
    (v s K.huTargetMv ≤ mv → t.power = { s.power with charging := false, charged := true, recharging := false }) ∧
    (mv * 100 < v s K.huTargetMv * 98 → s.power.testing = false → t.power = { s.power with charging := true }) ∧
    (mv < v s K.huTargetMv → v s K.huTargetMv * 98 ≤ mv * 100 ∨ s.power.testing = true → t.power = s.power)) ∧
  (s.power.charged = false → ∃ t, exec .holdupChargeTimeout s = .next t ∧ v t K.holdupEnergy = 0 ∧ v t K.atRiskLimit = 0 ∧ v t K.huTestResult = 4 ∧
    vb t K.writeThrough = true ∧ t.power.holdupFail = true ∧ t.xlat = s.xlat ∧ t.clk = s.clk) ∧
  (s.power.charged = true → exec .holdupChargeTimeout s = .next s) ∧
  (∀ v1, testable s = true → s.power.testLoad = false → ∃ t, exec (.holdupTest v1) s = .next t ∧ v t K.huBankMv = v1 ∧ OnlyEntries s t [K.huBankMv] ∧
    t = { s with dict := t.dict, power := { s.power with testing := true, charging := false, testLoad := true, v1 := v1 } }) ∧
  (∀ v1, testable s = false ∨ s.power.testLoad = true → exec (.holdupTest v1) s = .next s) ∧
  (∀ v2 c, s.power.testing = true → s.power.testLoad = true → c = capacitance s s.power.v1 v2 → ∃ s1 mJ lim, OnlyEntries s s1 [K.huBankMv, K.huCapacitanceUf] ∧
    s1 = { s with dict := s1.dict, power := { s.power with testing := false, testLoad := false, charging := true, recharging := true, cap := c } } ∧
    v s1 K.huBankMv = v2 ∧ v s1 K.huCapacitanceUf = Nat.min (c / fix64) (2 ^ 32 - 1) ∧
    mJ = Nat.min (if c = 0 then 0 else bankEnergy s1 c (v s K.huTargetMv)) (2 ^ 32 - 1) ∧ lim = limitOf s1 mJ ∧
    (268435456 ≤ lim → ∃ u, exec (.holdupTestSample v2) s = .next (settle u) ∧ v u K.holdupEnergy = mJ ∧ v u K.atRiskLimit = lim ∧ v u K.huTestResult = 1 ∧
      v u K.writeThrough = 0 ∧ u.power.holdupFail = false ∧ u.power.cap = c ∧ u.power.testing = false) ∧
    (lim < 268435456 → ∃ t, exec (.holdupTestSample v2) s = .next t ∧ v t K.holdupEnergy = mJ ∧ v t K.atRiskLimit = lim ∧ v t K.huTestResult = 2 ∧
      vb t K.writeThrough = true ∧ t.power.holdupFail = true ∧ t.power.cap = c ∧ t.power.testing = false)) ∧
  (∀ v2, s.power.testing = false ∨ s.power.testLoad = false → exec (.holdupTestSample v2) s = .next s) ∧
  (∀ mv, s.power.testing = true ∨ s.power.recharging = true → ∃ u, exec (.atRiskRecompute mv) s = .next (settle u) ∧ v u K.huBankMv = mv ∧
    OnlyEntries s u [K.huBankMv, K.atRiskLimit] ∧ u = { s with dict := u.dict } ∧
    ∃ s1, s1 = { s with dict := s1.dict } ∧ OnlyEntries s s1 [K.huBankMv] ∧ v s1 K.huBankMv = mv ∧ v u K.atRiskLimit = limitOf s1 (bankEnergy s1 s.power.cap mv)) ∧
  (∀ mv, s.power.testing = false → s.power.recharging = false → exec (.atRiskRecompute mv) s = .next s) ∧
  (∀ a x, Allowed s a 0x7001 0x0A x →
    (s.power.testing = true ∨ s.power.flushActive = true → ∃ t, exec (.huTestNow a x) s = .next t ∧ Answered t a.path 2 a.tag 0x0B [] ∧ OnlyAnswered s t []) ∧
    (s.power.testing = false → s.power.flushActive = false → ∃ t, exec (.huTestNow a x) s = .next t ∧ Answered t a.path 2 a.tag 0 [] ∧
      t.power = { s.power with testing := true, charging := false, testLoad := false, v1 := 0 }))

/-- R363 to R369: sensors, the throttle sequence, thermal hold and the media window. The order of the steps is the model's reading (log entries 89 to 91). -/
def Obligations.sensors_and_throttle : Prop := ∀ s : State,
  (∀ n r, sampled s n = false → exec (.sensorSample n r) s = .next (settle s)) ∧
  (∀ n r, sampled s n = true → sensorFailed s n = false → sensorCause s n r ≠ 0 → ∃ u, exec (.sensorSample n r) s = .next (settle u) ∧ sensorAt u n = 600 ∧
    bitAt u.thermal.failed n = true ∧ bitAt (v u K.sensorsFailed) n = true ∧ Enforces u n (v s K.throttleFloorMw)) ∧
  (∀ n x, sampled s n = true → sensorFailed s n = false → sensorCause s n (some x) = 0 → ∃ u, exec (.sensorSample n (some x)) s = .next (settle u) ∧ sensorAt u n = x ∧
    n ∈ u.thermal.seen ∧ u.thermal.failed = s.thermal.failed ∧
    (bitAt (v s K.sensorMask) n = false →
      (junction n = true → 4 * v16 s K.critC ≤ x → throttleAt s ≠ 2 → Enforces u n (v s K.throttleFloorMw)) ∧
      (throttleAt s = 0 → throttleLimit s n ≤ x → (junction n = true → x < 4 * v16 s K.critC) → throttleAt u = 1 ∧ u.thermal.cause = n ∧ u.thermal.critical = true) ∧
      (throttleAt s = 0 → x < throttleLimit s n → (junction n = true → x < 4 * v16 s K.critC) → throttleAt u = 0))) ∧
  (throttleAt s = 1 → hot s = true → ∃ t, exec .throttleGraceExpiry s = .next t ∧
    Enforces t s.thermal.cause (Nat.max (v s K.throttleFloorMw) (nandBudget s - v s K.throttleStepMw)) ∧
    v t K.throttleEnforcements = satAdd 32 (v s K.throttleEnforcements) 1 ∧ OnlyEntries s t [K.throttleEnforcements, K.traceLost]) ∧
  (throttleAt s ≠ 1 ∨ hot s = false → exec .throttleGraceExpiry s = .next s) ∧
  (throttleAt s = 2 → hot s = true → exec .throttleStep s =
    .next { s with thermal := { s.thermal with limit := Nat.max (v s K.throttleFloorMw) (s.thermal.limit - v s K.throttleStepMw) } }) ∧
  (throttleAt s ≠ 2 ∨ hot s = false → exec .throttleStep s = .next s) ∧
  ((throttleAt s = 2 ∧ cool s = true) ∨ throttleAt s = 3 → ∃ t, exec .throttleRelease s = .next t ∧ t = { s with thermal := t.thermal, power := t.power, dict := t.dict, trace := t.trace } ∧ OnlyEntries s t [K.traceLost] ∧
    (bitAt (v s K.traceSources) 0x19 = false → t.trace = s.trace) ∧
    (nandBudget s ≤ s.thermal.limit + v s K.throttleStepMw → throttleAt t = 0 ∧ t.thermal.cause = 0xFF ∧ t.thermal.critical = false ∧ t.power.ebbThrottle = false ∧
      t.thermal.limit = 2 ^ 32 - 1) ∧
    (s.thermal.limit + v s K.throttleStepMw < nandBudget s → throttleAt t = 3 ∧ t.thermal.limit = s.thermal.limit + v s K.throttleStepMw ∧ t.power = s.power)) ∧
  ((throttleAt s ≠ 2 ∨ cool s = false) → throttleAt s ≠ 3 → exec .throttleRelease s = .next s) ∧
  (∀ n, hottest s ((liveJunction s).filter (fun m => decide (sensorAt s m ≥ 500))) = some n → s.thermal.state ≠ 4 → ∃ t, exec .thermalHold s = .next t ∧
    t.thermal = { s.thermal with before := s.thermal.state, state := 4 } ∧ v t K.thermalHolds = satAdd 32 (v s K.thermalHolds) 1 ∧
    Recorded s t Ev.thermalHold [n, ofSigned 32 (sensorAt s n)]) ∧
  ((∀ n ∈ liveJunction s, sensorAt s n < 500) ∨ s.thermal.state = 4 → exec .thermalHold s = .next s) ∧
  (∀ slot r, (slotAt s slot).present = false ∨ 2 ≤ s.power.state ∨ (∀ l < 8, dieState s (slot * 8 + l) ≠ 1) → exec (.nandTempRead slot r) s = .next (settle s)) ∧
  (∀ slot r l c, (slotAt s slot).present = true → s.power.state < 2 → l < 8 → dieState s (slot * 8 + l) = 1 → c = r.getD (boardHighest s) → -128 ≤ c → c ≤ 127 →
    ∃ u, exec (.nandTempRead slot r) s = .next (settle u) ∧ u.thermal.nand.get? slot = some c ∧
      (c < v16 s K.nandTempMinC ∨ v16 s K.nandTempMaxC < c → slot ∈ u.thermal.held) ∧
      (v16 s K.nandTempMinC + 2 ≤ c → c ≤ v16 s K.nandTempMaxC - 2 → slot ∉ u.thermal.held))

/-- R370 to R372, R375, R376, R391: NVM_SUBSYSTEM_RESET, MANAGEMENT_RESET, WATCHDOG_KICK, WATCHDOG_EXPIRY. Which reset waits for which flush is the
model's reading (log entries 82, 85, 86). -/
def Obligations.package_resets : Prop := ∀ s : State,
  (fwPending s = 0 → s.power.flushActive = false → s.power.entry = none → ∃ u, exec .nvmSubsystemReset s = .next (settle u) ∧ FunctionsReset s u ∧
    u.power = s.power ∧ u.cf.hold = none ∧ u.miowa.xfers = [] ∧ u.dram = s.dram ∧ u.cf.words = s.cf.words) ∧
  (fwPending s = 0 → s.power.flushActive = true →
    exec .nvmSubsystemReset s = .next (settle { s with power := { s.power with afterFlush := Nat.max s.power.afterFlush 6 } })) ∧
  (∀ a, Allowed s a 0x7200 3 1 → ∃ u, exec (.managementReset a) s = .next (settle u) ∧ Answered u a.path 2 a.tag 0 [] ∧
    (s.power.entry = none → s.power.flushActive = true → u.power = { s.power with afterFlush := Nat.max s.power.afterFlush 8 }) ∧
    (s.power.flushActive = false → railsUp s = true → FlushBegins s u ∧ u.power.afterFlush = 8) ∧
    (s.power.flushActive = false → railsUp s = false → HubRestarted u ∧ u.power.good = 2 ∧ u.power.step = (if u.boot.recovery then 2 else 3) ∧
      u.power.fault = false ∧ u.power.down = false ∧ u.store.journal = s.store.journal)) ∧
  (∀ a e, lookup s a.path 0x7200 3 a.inst = .error e → ∃ u, exec (.managementReset a) s = .next (settle u) ∧ Answered u a.path 2 a.tag e [] ∧ OnlyAnswered s u []) ∧
  (∀ k, exec (.watchdogKick k) s = .next { s with wdt := { s.wdt with kicks := s.wdt.kicks.put k s.clk.nowNs } }) ∧
  (∀ m, vb s K.wdtEnable = false ∨ 2 ≤ s.power.state ∨ s.power.flushActive = true ∨ s.wdt.deferred = true → exec (.watchdogExpiry m) s = .next (settle s)) ∧
  (∀ m, vb s K.wdtEnable = true → s.power.state < 2 → s.power.flushActive = false → s.wdt.deferred = false → ∃ u, exec (.watchdogExpiry m) s = .next (settle u) ∧
    (cfSectorBusy s = true → u.wdt = { s.wdt with expired := true, deferred := true, deferredNs := s.clk.nowNs } ∧ v u K.wdtLastStalled = m % 2 ^ 17 ∧
      v u K.wdtDeferrals = satAdd 32 (v s K.wdtDeferrals) 1 ∧ u.pair = { s.pair with hbOut := s.pair.hbOut && !s.pair.enabled } ∧ u.cf = s.cf) ∧
    (cfSectorBusy s = false → railsUp s = true → FlushBegins s u ∧ u.power.afterFlush = 7 ∧ u.wdt = { s.wdt with expired := true, deferred := false }) ∧
    (cfSectorBusy s = false → railsUp s = false → HubRestarted u ∧ u.wdt = { s.wdt with expired := false, deferred := false, kicks := [] }))

/-- R377 to R383, R387, R392, R375: the code flash. What an operation that fails leaves of its unit is a free value (log entry 76), and the order of the
checks the model's reading (log entries 76, 77). -/
def Obligations.code_flash : Prop := ∀ s : State,
  (∀ i op d ws b o, CfDescOf i op d ws → b = cfBank d.address % 2 → o = (⟨op, d, ws, 0, false⟩ : CfOp) → s.cf.queue = [] → s.cf.waiting = [] →
    (cfRunning s b = none → cfCheck s o = 0 → ∃ t, exec i s = .next t ∧ cfRunning t b = some { o with startNs := s.clk.nowNs } ∧ t.cf.queue = [] ∧
      cfRunning t (1 - b) = cfRunning s (1 - b) ∧ t.cf.words = s.cf.words ∧ t.cf.completions = s.cf.completions ∧ t = { s with cf := t.cf }) ∧
    (cfRunning s b = none → cfCheck s o ≠ 0 → ∃ t, exec i s = .next t ∧ t.cf = { s.cf with completions := s.cf.completions ++ [⟨d.tag, cfCheck s o, 0, 0, 0xFFFFFFFF⟩] } ∧
      v t K.cfLastStatus = cfCheck s o * 2 ^ 24 + d.address / 4 % 2 ^ 24 ∧ (cfCheck s o = 1 → v t K.cfBankRejects = satAdd 32 (v s K.cfBankRejects) 1)) ∧
    (cfRunning s b ≠ none → exec i s = .next { s with cf := { s.cf with queue := [o] } })) ∧
  (∀ b o us, b < 2 → cfRunning s b = some o → s.cf.queue = [] → s.cf.waiting = [] → s.wdt.deferred = false → s.cf.words.wf = true →
    (∃ t, exec (.cfOperationComplete b none us) s = .next t ∧ cfRunning t b = none ∧
      (o.op = 1 → t.cf.completions = s.cf.completions ++ [⟨o.d.tag, 0, o.d.count, us, 0xFFFFFFFF⟩] ∧
        (∀ k, k < o.d.count → cfWord t (o.d.address / 32 + k) = cfWord s (o.d.address / 32 + k) &&& (o.words.getD k cfErased % 2 ^ 256)) ∧
        ∀ w, w < o.d.address / 32 ∨ o.d.address / 32 + o.d.count ≤ w → cfWord t w = cfWord s w) ∧
      (o.op = 2 → t.cf.completions = s.cf.completions ++ [⟨o.d.tag, 0, o.d.count, us, 0xFFFFFFFF⟩] ∧
        ∀ w, cfWord t w = if o.d.address / 4096 ≤ w / 128 ∧ w / 128 < o.d.address / 4096 + o.d.count then cfErased else cfWord s w) ∧
      (3 ≤ o.op → t.cf.words = s.cf.words ∧ ∃ e, t.cf.completions = s.cf.completions ++ [e] ∧ e.tag = o.d.tag ∧ e.arrayUs = us) ∧
      (o.op = 5 → t.cf.hashOut = Config.sha3 (cfBytes s (o.d.address / 32) 0 (32 * o.d.count)))) ∧
    (∀ k, o.op = 1 → k < o.d.count → ∃ t, exec (.cfOperationComplete b (some k) us) s = .next t ∧ cfRunning t b = none ∧
      t.cf.completions = s.cf.completions ++ [⟨o.d.tag, 5, k, us, o.d.address + 32 * k⟩] ∧
      (∀ j, j < k → cfWord t (o.d.address / 32 + j) = cfWord s (o.d.address / 32 + j) &&& (o.words.getD j cfErased % 2 ^ 256)) ∧
      ∀ w, w < o.d.address / 32 ∨ o.d.address / 32 + k < w → cfWord t w = cfWord s w)) ∧
  (∀ b o us, b < 2 → cfRunning s b = some o → cfRunning s (1 - b) = none → s.cf.queue = [] → s.cf.waiting = [] → s.wdt.deferred = true → railsUp s = true →
    s.power.flushActive = false → ∃ u, exec (.cfOperationComplete b none us) s = .next (settle u) ∧ u.power.flushActive = true ∧ u.power.afterFlush = 7 ∧ u.wdt.deferred = false) ∧
  (∀ b k us, cfRunning s b = none → s.wdt.deferred = false → exec (.cfOperationComplete b k us) s = .next s) ∧
  (∀ b o, b < 2 → cfRunning s b = some o →
    (o.op = 1 ∨ o.op = 2 → o.d.noSuspend = false → s.wdt.deferred = false → ∃ t, exec (.cfSuspend b) s = .next t ∧
      cfRunning t b = some { o with startNs := s.clk.nowNs } ∧ v t K.cfSuspends = satAdd 64 (v s K.cfSuspends) 1 ∧ t.cf.words = s.cf.words) ∧
    ((o.op ≠ 1 ∧ o.op ≠ 2) ∨ o.d.noSuspend = true ∨ s.wdt.deferred = true → exec (.cfSuspend b) s = .next s)) ∧
  (∀ b, cfRunning s b = none → exec (.cfSuspend b) s = .next s) ∧
  (∀ src dst len digest, ∃ t x, exec (.cfCopyToSram src dst len digest) s = .next t ∧ t = { s with cf := { s.cf with copied := some (dst, len, x) } } ∧
    (Config.sha3 (cfBytes s (src / 32) (src % 32) len) = digest → x = 0) ∧ (Config.sha3 (cfBytes s (src / 32) (src % 32) len) ≠ digest → x = 0x0C)) ∧
  (∀ a b, s.boot.recovery = false → ∃ t, exec (.fwRecoveryImage a b) s = .next t ∧ Answered t a.path 5 a.tag 1 [] ∧ OnlyAnswered s t []) ∧
  (∀ a b, s.boot.recovery = true → Reached s a 0x8010 0x0A →
    (slotBytes < b.length → ∃ t, exec (.fwRecoveryImage a b) s = .next t ∧ Answered t a.path 5 a.tag 0x12 [] ∧ t.cf = s.cf) ∧
    (b.length ≤ slotBytes → ∃ t code, exec (.fwRecoveryImage a b) s = .next t ∧ Answered t a.path 5 a.tag code [] ∧ t.boot = s.boot ∧
      (code = 0 → ∃ m, t.cf.markers = s.cf.markers ++ [m] ∧ m.kind = 1 ∧ m.confirmed = false ∧ m.seq = lastSeq s + 1 ∧ (m.slot = 1 ∨ m.slot = 2)) ∧
      (code ≠ 0 → (code = 0x11 ∨ code = 0x12) ∧ t.cf.markers = s.cf.markers))) ∧
  (∀ a x, Allowed s a 0x8010 9 x →
    (v s K.fwRollbackFuse ≤ x → x ≤ s.boot.secVersion → ∃ t, exec (.fwRollbackCommit a x) s = .next t ∧ v t K.fwRollbackFuse = x ∧ Answered t a.path 2 a.tag 0 [] ∧
      OnlyAnswered s t [K.fwRollbackFuse]) ∧
    (x < v s K.fwRollbackFuse ∨ s.boot.secVersion < x → ∃ t, exec (.fwRollbackCommit a x) s = .next t ∧ Answered t a.path 2 a.tag 7 [] ∧ OnlyAnswered s t [])) ∧
  (∀ a w x, w < 4 → Allowed s a 0x8001 (1 + w) x → ∃ t, exec (.cfPasswordW a w x) s = .next t ∧
    Answered t a.path 2 a.tag (if w = s.cf.pwWords.length then 0 else 0x0D) [] ∧
    t.cf = { s.cf with pwWords := if w = s.cf.pwWords.length then s.cf.pwWords ++ [x] else [] }) ∧
  (∀ a x, Allowed s a 0x8001 5 x →
    (3 ≤ s.cf.pwFails → ∃ t, exec (.cfUnlockRegion a x) s = .next t ∧ Answered t a.path 2 a.tag 0x0F [] ∧ t.cf = s.cf ∧
      v t K.cfLastStatus = 8 * 2 ^ 24 + x * 0x100000 / 4 % 2 ^ 24) ∧
    (s.cf.pwFails < 3 → s.cf.pwWords.length ≠ 4 → ∃ t, exec (.cfUnlockRegion a x) s = .next t ∧ Answered t a.path 2 a.tag 0x0D [] ∧ t.cf = s.cf) ∧
    (s.cf.pwFails < 3 → s.cf.pwWords.length = 4 → pwNumber s.cf.pwWords = s.cf.password → ∃ t, exec (.cfUnlockRegion a x) s = .next t ∧
      Answered t a.path 2 a.tag 0 [] ∧ t.cf = { s.cf with pwWords := [], unlocked := x :: s.cf.unlocked.filter (· != x) }) ∧
    (s.cf.pwFails < 3 → s.cf.pwWords.length = 4 → pwNumber s.cf.pwWords ≠ s.cf.password → ∃ t, exec (.cfUnlockRegion a x) s = .next t ∧
      Answered t a.path 2 a.tag 0x0F [] ∧ t.cf = { s.cf with pwWords := [], pwFails := s.cf.pwFails + 1 } ∧ v t K.cfPasswordFails = Nat.min 3 (v s K.cfPasswordFails + 1))) ∧
  (∀ a x, Allowed s a 0x8001 6 x → ∃ t, exec (.cfLockRegion a x) s = .next t ∧ Answered t a.path 2 a.tag 0 [] ∧
    t.cf = { s.cf with unlocked := s.cf.unlocked.filter (· != x) }) ∧
  (∀ a x, Allowed s a 0x8001 7 x →
    (62 ∈ s.cf.unlocked → s.cf.pwWords.length = 4 → ∃ t, exec (.cfPasswordChange a x) s = .next t ∧ Answered t a.path 2 a.tag 0 [] ∧
      t.cf = { s.cf with password := pwNumber s.cf.pwWords, pwWords := [] }) ∧
    (62 ∉ s.cf.unlocked ∨ s.cf.pwWords.length ≠ 4 → ∃ t, exec (.cfPasswordChange a x) s = .next t ∧ Answered t a.path 2 a.tag 0x0D [] ∧ t.cf = s.cf))

/-- R393 to R395, R399: signer keys, attestation and service mode. A challenge is a free value of the model; the order of the checks is its reading (log
entries 99, 100). -/
def Obligations.security_and_service : Prop := ∀ s : State,
  (∀ a b, Reached s a 0x8110 2 →
    (signerAddCheck s b = 0 → ∃ t, exec (.signerKeyAdd a b) s = .next t ∧ Answered t a.path 5 a.tag 0 [] ∧
      t.boot = { s.boot with signers := s.boot.signers ++ [⟨leAt b 0 1, leAt b 1 1, Config.sha3 ((b.drop 8).take (leAt b 4 4)), time64 s⟩] }) ∧
    (signerAddCheck s b ≠ 0 → ∃ t, exec (.signerKeyAdd a b) s = .next t ∧ Answered t a.path 5 a.tag (signerAddCheck s b) [] ∧ OnlyAnswered s t [])) ∧
  (∀ a b left, Reached s a 0x8110 3 → left = s.boot.signers.filter (fun x => x.hash != leAt b 0 32) →
    (authForm b 32 = 0 → ownerAuth s b 32 = true → left ≠ s.boot.signers → (∃ x ∈ left, x.role = 1) → ∃ t, exec (.signerKeyRemove a b) s = .next t ∧
      Answered t a.path 5 a.tag 0 [] ∧ t.boot = { s.boot with signers := left }) ∧
    (authForm b 32 = 0 → ownerAuth s b 32 = false → ∃ t, exec (.signerKeyRemove a b) s = .next t ∧ Answered t a.path 5 a.tag 0x11 [] ∧ OnlyAnswered s t []) ∧
    (authForm b 32 = 0 → ownerAuth s b 32 = true → left = s.boot.signers ∨ (∀ x ∈ left, x.role ≠ 1) → ∃ t, exec (.signerKeyRemove a b) s = .next t ∧
      Answered t a.path 5 a.tag 7 [] ∧ OnlyAnswered s t []) ∧
    (authForm b 32 ≠ 0 → ∃ t, exec (.signerKeyRemove a b) s = .next t ∧ Answered t a.path 5 a.tag (authForm b 32) [] ∧ OnlyAnswered s t [])) ∧
  (∀ a nonce, Allowed s a 0x8100 2 nonce → ∃ t, exec (.attestChallenge a nonce) s = .next t ∧ Answered t a.path 2 a.tag 0 [] ∧
    t.boot = { s.boot with nonce := some nonce, building := true, report := [] }) ∧
  (∀ nonce, s.boot.building = true → s.boot.nonce = some nonce → ∃ t body, exec .attestReportReady s = .next t ∧ body = reportHead s nonce ++ endorsement s ∧
    t.boot = { s.boot with building := false, report := body ++ Config.attestSign s.boot.attestAlg body } ∧ t = { s with boot := t.boot, miowa := t.miowa }) ∧
  (s.boot.building = false ∨ s.boot.nonce = none → exec .attestReportReady s = .next s) ∧
  (∀ a, Reached s a 0x8120 1 → ∃ t n, exec (.serviceChallenge a) s = .next t ∧ Answered t a.path 1 a.tag 0 (leBytes 32 n) ∧ n < 2 ^ 256 ∧
    t.boot = { s.boot with challenge := some n, challengeNs := s.clk.nowNs }) ∧
  (∀ a b, Reached s a 0x8120 2 →
    (s.boot.svcFails < 5 → unlockCheck s b = 0 → ∃ t, exec (.serviceUnlock a b) s = .next t ∧ Answered t a.path 5 a.tag 0 [] ∧
      t.boot = { s.boot with service := true, servicePath := some a.path, serviceS := leAt b 52 4, challenge := none } ∧ Recorded s t Ev.serviceUnlock [leAt b 52 4]) ∧
    (s.boot.svcFails < 5 → unlockCheck s b ≠ 0 → ∃ t, exec (.serviceUnlock a b) s = .next t ∧ Answered t a.path 5 a.tag (unlockCheck s b) [] ∧
      t.boot = { s.boot with svcFails := s.boot.svcFails + 1 } ∧ v t K.serviceFails = Nat.min 5 (v s K.serviceFails + 1)) ∧
    (5 ≤ s.boot.svcFails → ∃ t, exec (.serviceUnlock a b) s = .next t ∧ Answered t a.path 5 a.tag 0x0D [] ∧ OnlyAnswered s t [])) ∧
  (∀ a x, Allowed s a 0x8120 3 x → ∃ t, exec (.serviceLock a x) s = .next t ∧ Answered t a.path 2 a.tag 0 [] ∧ t.boot.service = false ∧
    (s.boot.service = true → t.cf = { s.cf with unlocked := [] } ∧ t.boot = { s.boot with service := false, servicePath := none } ∧ Recorded s t Ev.serviceEnd [2])) ∧
  (s.boot.service = true → ∃ t, exec .serviceModeExpiry s = .next t ∧ t.cf = { s.cf with unlocked := [] } ∧
    t.boot = { s.boot with service := false, servicePath := none } ∧ Recorded s t Ev.serviceEnd [1]) ∧
  (s.boot.service = false → exec .serviceModeExpiry s = .next s)

/-- R402 to R406: STAGING_DRAIN, COMPACT_CLEAR, CURSOR_WRITE, ADVANCE, WIN_CTRL_WRITE, WINDOW_REFILL_DONE, FREEZE, FREEZE_END. When the media is away is
the model's reading (log entries 14, 124). -/
def Obligations.recorders_and_windows : Prop := ∀ s : State,
  (mediaAvailable s = true → s.recd.frozen = false → s.recd.ext.length + s.recd.staging.length ≤ extCapacity →
    s.recd.compact.length + s.recd.compactWait.length ≤ 32768 → exec .stagingDrain s = .next { s with recd := { s.recd with
      staging := [], ext := s.recd.ext ++ s.recd.staging, compact := s.recd.compact ++ s.recd.compactWait, compactWait := [], compactErasing := false } }) ∧
  (mediaAvailable s = false ∨ s.recd.frozen = true → s.recd.compactWait = [] →
    exec .stagingDrain s = .next { s with recd := { s.recd with compactErasing := false } }) ∧
  (∀ a x, Allowed s a 0x9000 5 x → ∃ t, exec (.compactClear a x) s = .next t ∧ Answered t a.path 2 a.tag 0 [] ∧
    t.recd = { s.recd with compact := [], compactErasing := true }) ∧
  (∀ pf x, ∃ t, exec (.cursorWrite pf x) s = .next t ∧ t = { s with recd := t.recd } ∧
    window t pf = { window s pf with cursor := x % 2 ^ 64, loading := true, slots := [] } ∧ (pf < 2 → window t (1 - pf) = window s (1 - pf))) ∧
  (∀ pf, ∃ t, exec (.advance pf) s = .next t ∧ t = { s with recd := t.recd } ∧ window t pf = { window s pf with
      cursor := ((window s pf).slots.getLast?).elim (window s pf).cursor (fun r => r.seq + 1), loading := true, slots := [] } ∧
    (pf < 2 → window t (1 - pf) = window s (1 - pf))) ∧
  (∀ pf x, ∃ t, exec (.winCtrlWrite pf x) s = .next t ∧ (window t pf).minSev = fld x 10 8 ∧ (window t pf).compact = bitAt x 2 ∧ (window t pf).freeze = bitAt x 1 ∧
    (window t pf).loading = true ∧ (window t pf).slots = [] ∧ (pf < 2 → window t (1 - pf) = window s (1 - pf)) ∧
    (window t pf).cursor = (if bitAt x 0 then ((window s pf).slots.getLast?).elim (window s pf).cursor (fun r => r.seq + 1) else (window s pf).cursor) ∧
    (bitAt x 1 = true → t.recd.frozen = true ∧ t.recd.thawedFull = false) ∧
    (bitAt x 1 = false → (window s pf).freeze = false → t.recd.frozen = s.recd.frozen ∧ t.recd.staging = s.recd.staging)) ∧
  (∀ pf, ∃ t, exec (.freeze pf) s = .next t ∧ t.recd.frozen = true ∧ t.recd.thawedFull = false ∧ (window t pf).freeze = true ∧ (window t pf).loading = true ∧
    t.recd.freezeStartNs = (if s.recd.frozen then s.recd.freezeStartNs else s.clk.nowNs) ∧ t.recd.staging = s.recd.staging ∧ t = { s with recd := t.recd }) ∧
  (∀ pf bad, (window s pf).loading = true → ∃ t, exec (.windowRefillDone pf bad) s = .next t ∧
    window t pf = { window s pf with loading := false, slots := windowFill s (window s pf) bad } ∧ OnlyEntries s t [K.extUnreadable] ∧
    v t K.extUnreadable = satAdd 32 (v s K.extUnreadable) (if (window s pf).compact then 0 else
      ((windowSource s (window s pf)).filter (fun r => (window s pf).cursor ≤ r.seq && bad.contains r.seq)).length)) ∧
  (∀ pf bad, (window s pf).loading = false → exec (.windowRefillDone pf bad) s = .next s) ∧
  (s.recd.frozen = true → ∃ t, exec .freezeEnd s = .next t ∧ t.recd.frozen = false ∧ t.recd.hold = [] ∧ t.recd.ext = s.recd.ext ∧ t.recd.thawedFull = s.recd.thawedFull ∧
    (mediaAvailable s = true → s.recd.staging.length + s.recd.hold.length ≤ 1024 → t.recd.staging = s.recd.staging ++ s.recd.hold)) ∧
  (s.recd.frozen = false → exec .freezeEnd s = .next s)

/-- R408 to R415: TRACE_ITEM_WRITE, TRACE_ENTRY_CLOSE, TRACE_CLEAR, HIST_CLEAR, HIST_COVE_CLEAR, HEAT_QUERY, HEAT_EPOCH. The seeds of a sketch are free values
of the model. -/
def Obligations.trace_and_telemetry : Prop := ∀ s : State,
  (∀ src kind arg ws, kindAllowed src kind = false ∨ bitAt (v s K.traceSources) src = false → exec (.traceItemWrite src kind arg ws) s = .next s) ∧
  (∀ src kind arg ws h, kindAllowed src kind = true → bitAt (v s K.traceSources) src = true →
    h = (src % 256 * 2 ^ 24 + (ws.take 15).length * 2 ^ 20 + kind % 256 * 2 ^ 12 + arg % 4096) % 2 ^ 32 →
    (s.trace.cur.length + 1 + (ws.take 15).length < 7 → exec (.traceItemWrite src kind arg ws) s = .next { s with trace := { s.trace with
      cur := s.trace.cur ++ [h] ++ (ws.take 15).map (· % 2 ^ 32), curFirst := if s.trace.curFirst = 0xFF then 4 * s.trace.cur.length else s.trace.curFirst } }) ∧
    (s.trace.cur.length = 6 → ws = [] → s.trace.fifo.length < 8192 → exec (.traceItemWrite src kind arg ws) s = .next { s with trace := { s.trace with
      fifo := s.trace.fifo ++ [⟨s.trace.cur ++ [h], 28, if s.trace.curFirst = 0xFF then 24 else s.trace.curFirst, s.trace.nextSeq⟩], cur := [], curFirst := 0xFF,
      nextSeq := (s.trace.nextSeq + 1) % 65536 } })) ∧
  (s.trace.cur = [] → exec .traceEntryClose s = .next s) ∧
  (s.trace.cur ≠ [] → ∃ t e, exec .traceEntryClose s = .next t ∧ e.validBytes = 4 * s.trace.cur.length ∧ e.firstItem = s.trace.curFirst ∧ e.seq = s.trace.nextSeq ∧
    e.words = (s.trace.cur ++ List.replicate 7 0).take 7 ∧ t.trace.cur = [] ∧ t.trace.nextSeq = (s.trace.nextSeq + 1) % 65536 ∧
    (s.trace.fifo.length < 8192 → t.trace.fifo = s.trace.fifo ++ [e] ∧ t.dict = s.dict) ∧
    (8192 ≤ s.trace.fifo.length → t.trace.fifo = s.trace.fifo.drop 1 ++ [e] ∧ v t K.traceLost = satAdd 32 (v s K.traceLost) 1)) ∧
  (∀ a x, Allowed s a 0x9100 3 x → ∃ t, exec (.traceClear a x) s = .next t ∧ Answered t a.path 2 a.tag 0 [] ∧
    (outOfBand a.path = true → t.trace = { s.trace with fifo := [] } ∧ OnlyEntries s t answerKeys)) ∧
  (∀ a x r key n, lookup s a.path 0x9110 3 a.inst = .ok (r, key) → r.check x = 0 → n = key % 2048 - 1 → ∃ t, exec (.histClear a x) s = .next t ∧
    Answered t a.path 2 a.tag 0 [] ∧ (outOfBand a.path = true →
      (bitAt x 0 = true → t.tel.hist.get? (2 * n) = some (Hist.fresh (time64 s))) ∧ (bitAt x 1 = true → t.tel.hist.get? (2 * n + 1) = some (Hist.fresh (time64 s))) ∧
      (bitAt x 0 = false → t.tel.hist.get? (2 * n) = s.tel.hist.get? (2 * n)) ∧ (bitAt x 1 = false → t.tel.hist.get? (2 * n + 1) = s.tel.hist.get? (2 * n + 1)) ∧
      ∀ k, k / 2 ≠ n → t.tel.hist.get? k = s.tel.hist.get? k)) ∧
  (∀ a x, Allowed s a 0x9113 1 x → ∃ t, exec (.histCoveClear a x) s = .next t ∧ Answered t a.path 2 a.tag 0 [] ∧
    (outOfBand a.path = true → ∀ c < 256, t.tel.histCove.get? c = if bitAt x c then some (Hist.fresh (time64 s)) else s.tel.histCove.get? c)) ∧
  (∀ a x, Allowed s a 0x9120 4 x →
    (heatCheck x ≠ 0 → ∃ t, exec (.heatQuery a x) s = .next t ∧ Answered t a.path 2 a.tag (heatCheck x) [] ∧ OnlyAnswered s t []) ∧
    (heatCheck x = 0 → ∃ t, exec (.heatQuery a x) s = .next t ∧ Answered t a.path 2 a.tag 0 [] ∧ OnlyAnswered s t [K.heatResult] ∧
      ∀ m, m = (if x / 256 % 256 = 0 then s.tel.sketchCur else s.tel.sketchPrev) →
        (∀ k, m.get? (x % 256) = some k → v t K.heatResult = k.estimate (x / 2 ^ 32 % 2 ^ 32 * 2 ^ 40 + x / 2 ^ 64 % 2 ^ 64) + k.n % 2 ^ 64 * 2 ^ 64) ∧
        (m.get? (x % 256) = none → v t K.heatResult = 0))) ∧
  (∃ t, exec .heatEpoch s = .next t ∧ t.tel.sketchPrev = s.tel.sketchCur ∧ t.tel.hist = s.tel.hist ∧ t.tel.histCove = s.tel.histCove ∧
    (∀ c < 256, bitAt (v s K.heatEnable) c = true → ∃ k, t.tel.sketchCur.get? c = some k ∧ k.n = 0 ∧ k.counters = []) ∧
    ∀ c, c < 256 → bitAt (v s K.heatEnable) c = false → t.tel.sketchCur.get? c = none)

/-- The queue is first in, first out; what an idle step does is the model's choice (log entries 1, 2). -/
def Obligations.commands_in_order : Prop :=
  (∀ (c : Instr) (rest : List Instr) (s : State), step { s with pending := c :: rest } = exec c { s with pending := rest }) ∧
  (∀ s : State, s.pending = [] → ∃ t, step s = .next t ∧ t = { s with clk := t.clk } ∧ t.clk.nowNs = s.clk.nowNs + 1000 ∧ t.clk.tide = s.clk.tide ∧
    t.clk.tideStartNs = s.clk.tideStartNs ∧ (s.clk.slewNs = 0 → t.clk.calNs = s.clk.calNs + 1000 ∧ t.clk.slewNs = 0)) ∧
  (∀ nbits w, decodeTableWord nbits w = none) ∧ (∀ (s : State) nbits w, s.withFetchWord nbits w = s)

/-- The frame of every command, at the grain of the parts of the state. -/
def Obligations.commands_complete_and_frame : Prop := ∀ (c : Instr) (s : State),
  ∃ t, exec c s = .next t ∧ t.pending = s.pending ∧ ∀ p : Part, p ∉ parts c → p.same s t

/-- R217, R402, R403, R411: the capacities, and the canonical form of the stores (the form is the model's), kept by every command and by idle time. -/
def Obligations.step_keeps_sound : Prop := ∀ s t : State, Sound s → step s = .next t → Sound t

/-- What reset leaves. Which part the model starts as (an SB2300-D with the default write buffer) is its choice (log entry 6). -/
def Obligations.reset_state : Prop :=
  Sound State.reset ∧ State.reset.pending = [] ∧ State.reset.flights = [] ∧ State.reset.clk.tide = 0 ∧ State.reset.genNow = 0 ∧ State.reset.staged = [] ∧
  State.reset.reserved = [] ∧ State.reset.power.state = 0 ∧ State.reset.power.flushActive = false ∧ v State.reset K.supplyState = 3 ∧ v State.reset K.supplyNowMv = 0 ∧
  State.reset.thermal.state = 0 ∧ State.reset.thermal.cause = 0xFF ∧ State.reset.nss = [] ∧ State.reset.zones = [] ∧ State.reset.blocks = [] ∧ State.reset.sqs = [] ∧
  State.reset.cqs = [] ∧ State.reset.recd.staging = [] ∧ State.reset.recd.ext = [] ∧ State.reset.recd.compact = [] ∧ State.reset.trace.fifo = [] ∧
  State.reset.boot.service = false ∧ State.reset.cf.run0 = none ∧ State.reset.cf.run1 = none ∧
  ∀ k, k ≠ K.orderingCode → k ≠ K.capWriteBuffer → k ≠ instKey K.queuePairs 0 → k ≠ instKey K.queuePairs 1 → State.reset.dict.get? k = none
end

