-- ==== Sys2Proof/Laws/Frame.lean ====
section
/-! SUPPORT. Laws/Frame.lean: frames over the parts of State. A mask is a number whose bit i stands for the i-th field of
State (the queue of commands has none); `Keeps m s t` says that `t` differs from `s` at most in the fields of `m`. -/
namespace Sys2Proof.Machine
open Sys2Proof

/-- `s` with the fields of the mask taken from `t`. -/
def merge (m : Nat) (s t : State) : State :=
  { clk := bif m.testBit 0 then t.clk else s.clk
    dict := bif m.testBit 1 then t.dict else s.dict
    genNow := bif m.testBit 2 then t.genNow else s.genNow
    gens := bif m.testBit 3 then t.gens else s.gens
    reserved := bif m.testBit 4 then t.reserved else s.reserved
    staged := bif m.testBit 5 then t.staged else s.staged
    miowa := bif m.testBit 6 then t.miowa else s.miowa
    store := bif m.testBit 7 then t.store else s.store
    recd := bif m.testBit 8 then t.recd else s.recd
    trace := bif m.testBit 9 then t.trace else s.trace
    tel := bif m.testBit 10 then t.tel else s.tel
    crc := bif m.testBit 11 then t.crc else s.crc
    portA := bif m.testBit 12 then t.portA else s.portA
    portB := bif m.testBit 13 then t.portB else s.portB
    portMode := bif m.testBit 14 then t.portMode else s.portMode
    vfSplit := bif m.testBit 15 then t.vfSplit else s.vfSplit
    wakeLow := bif m.testBit 16 then t.wakeLow else s.wakeLow
    insts := bif m.testBit 17 then t.insts else s.insts
    sqs := bif m.testBit 18 then t.sqs else s.sqs
    cqs := bif m.testBit 19 then t.cqs else s.cqs
    flights := bif m.testBit 20 then t.flights else s.flights
    eng := bif m.testBit 21 then t.eng else s.eng
    nss := bif m.testBit 22 then t.nss else s.nss
    zones := bif m.testBit 23 then t.zones else s.zones
    blocks := bif m.testBit 24 then t.blocks else s.blocks
    pis := bif m.testBit 25 then t.pis else s.pis
    lastCqe := bif m.testBit 26 then t.lastCqe else s.lastCqe
    hostOut := bif m.testBit 27 then t.hostOut else s.hostOut
    barRead := bif m.testBit 28 then t.barRead else s.barRead
    keyChecks := bif m.testBit 29 then t.keyChecks else s.keyChecks
    msix := bif m.testBit 30 then t.msix else s.msix
    msixTable := bif m.testBit 31 then t.msixTable else s.msixTable
    power := bif m.testBit 32 then t.power else s.power
    thermal := bif m.testBit 33 then t.thermal else s.thermal
    wdt := bif m.testBit 34 then t.wdt else s.wdt
    nand := bif m.testBit 35 then t.nand else s.nand
    comp := bif m.testBit 36 then t.comp else s.comp
    dram := bif m.testBit 37 then t.dram else s.dram
    bufs := bif m.testBit 38 then t.bufs else s.bufs
    cf := bif m.testBit 39 then t.cf else s.cf
    boot := bif m.testBit 40 then t.boot else s.boot
    xlat := bif m.testBit 41 then t.xlat else s.xlat
    pair := bif m.testBit 42 then t.pair else s.pair
    freeCtr := bif m.testBit 43 then t.freeCtr else s.freeCtr
    pending := s.pending }

/-- `t` differs from `s` at most in the fields of the mask. -/
def Keeps (m : Nat) (s t : State) : Prop := t = merge m s t

theorem Keeps.clk {m : Nat} {s t : State} (h : Keeps m s t) (b : m.testBit 0 = false) : t.clk = s.clk := by
  have e : t.clk = (bif m.testBit 0 then t.clk else s.clk) := congrArg State.clk h
  rw [b] at e
  exact e

theorem Keeps.dict {m : Nat} {s t : State} (h : Keeps m s t) (b : m.testBit 1 = false) : t.dict = s.dict := by
  have e : t.dict = (bif m.testBit 1 then t.dict else s.dict) := congrArg State.dict h
  rw [b] at e
  exact e

theorem Keeps.genNow {m : Nat} {s t : State} (h : Keeps m s t) (b : m.testBit 2 = false) : t.genNow = s.genNow := by
  have e : t.genNow = (bif m.testBit 2 then t.genNow else s.genNow) := congrArg State.genNow h
  rw [b] at e
  exact e

theorem Keeps.gens {m : Nat} {s t : State} (h : Keeps m s t) (b : m.testBit 3 = false) : t.gens = s.gens := by
  have e : t.gens = (bif m.testBit 3 then t.gens else s.gens) := congrArg State.gens h
  rw [b] at e
  exact e

theorem Keeps.reserved {m : Nat} {s t : State} (h : Keeps m s t) (b : m.testBit 4 = false) : t.reserved = s.reserved := by
  have e : t.reserved = (bif m.testBit 4 then t.reserved else s.reserved) := congrArg State.reserved h
  rw [b] at e
  exact e

theorem Keeps.staged {m : Nat} {s t : State} (h : Keeps m s t) (b : m.testBit 5 = false) : t.staged = s.staged := by
  have e : t.staged = (bif m.testBit 5 then t.staged else s.staged) := congrArg State.staged h
  rw [b] at e
  exact e

theorem Keeps.miowa {m : Nat} {s t : State} (h : Keeps m s t) (b : m.testBit 6 = false) : t.miowa = s.miowa := by
  have e : t.miowa = (bif m.testBit 6 then t.miowa else s.miowa) := congrArg State.miowa h
  rw [b] at e
  exact e

theorem Keeps.store {m : Nat} {s t : State} (h : Keeps m s t) (b : m.testBit 7 = false) : t.store = s.store := by
  have e : t.store = (bif m.testBit 7 then t.store else s.store) := congrArg State.store h
  rw [b] at e
  exact e

theorem Keeps.recd {m : Nat} {s t : State} (h : Keeps m s t) (b : m.testBit 8 = false) : t.recd = s.recd := by
  have e : t.recd = (bif m.testBit 8 then t.recd else s.recd) := congrArg State.recd h
  rw [b] at e
  exact e

theorem Keeps.trace {m : Nat} {s t : State} (h : Keeps m s t) (b : m.testBit 9 = false) : t.trace = s.trace := by
  have e : t.trace = (bif m.testBit 9 then t.trace else s.trace) := congrArg State.trace h
  rw [b] at e
  exact e

theorem Keeps.tel {m : Nat} {s t : State} (h : Keeps m s t) (b : m.testBit 10 = false) : t.tel = s.tel := by
  have e : t.tel = (bif m.testBit 10 then t.tel else s.tel) := congrArg State.tel h
  rw [b] at e
  exact e

theorem Keeps.crc {m : Nat} {s t : State} (h : Keeps m s t) (b : m.testBit 11 = false) : t.crc = s.crc := by
  have e : t.crc = (bif m.testBit 11 then t.crc else s.crc) := congrArg State.crc h
  rw [b] at e
  exact e

theorem Keeps.portA {m : Nat} {s t : State} (h : Keeps m s t) (b : m.testBit 12 = false) : t.portA = s.portA := by
  have e : t.portA = (bif m.testBit 12 then t.portA else s.portA) := congrArg State.portA h
  rw [b] at e
  exact e

theorem Keeps.portB {m : Nat} {s t : State} (h : Keeps m s t) (b : m.testBit 13 = false) : t.portB = s.portB := by
  have e : t.portB = (bif m.testBit 13 then t.portB else s.portB) := congrArg State.portB h
  rw [b] at e
  exact e

theorem Keeps.portMode {m : Nat} {s t : State} (h : Keeps m s t) (b : m.testBit 14 = false) : t.portMode = s.portMode := by
  have e : t.portMode = (bif m.testBit 14 then t.portMode else s.portMode) := congrArg State.portMode h
  rw [b] at e
  exact e

theorem Keeps.vfSplit {m : Nat} {s t : State} (h : Keeps m s t) (b : m.testBit 15 = false) : t.vfSplit = s.vfSplit := by
  have e : t.vfSplit = (bif m.testBit 15 then t.vfSplit else s.vfSplit) := congrArg State.vfSplit h
  rw [b] at e
  exact e

theorem Keeps.wakeLow {m : Nat} {s t : State} (h : Keeps m s t) (b : m.testBit 16 = false) : t.wakeLow = s.wakeLow := by
  have e : t.wakeLow = (bif m.testBit 16 then t.wakeLow else s.wakeLow) := congrArg State.wakeLow h
  rw [b] at e
  exact e

theorem Keeps.insts {m : Nat} {s t : State} (h : Keeps m s t) (b : m.testBit 17 = false) : t.insts = s.insts := by
  have e : t.insts = (bif m.testBit 17 then t.insts else s.insts) := congrArg State.insts h
  rw [b] at e
  exact e

theorem Keeps.sqs {m : Nat} {s t : State} (h : Keeps m s t) (b : m.testBit 18 = false) : t.sqs = s.sqs := by
  have e : t.sqs = (bif m.testBit 18 then t.sqs else s.sqs) := congrArg State.sqs h
  rw [b] at e
  exact e

theorem Keeps.cqs {m : Nat} {s t : State} (h : Keeps m s t) (b : m.testBit 19 = false) : t.cqs = s.cqs := by
  have e : t.cqs = (bif m.testBit 19 then t.cqs else s.cqs) := congrArg State.cqs h
  rw [b] at e
  exact e

theorem Keeps.flights {m : Nat} {s t : State} (h : Keeps m s t) (b : m.testBit 20 = false) : t.flights = s.flights := by
  have e : t.flights = (bif m.testBit 20 then t.flights else s.flights) := congrArg State.flights h
  rw [b] at e
  exact e

theorem Keeps.eng {m : Nat} {s t : State} (h : Keeps m s t) (b : m.testBit 21 = false) : t.eng = s.eng := by
  have e : t.eng = (bif m.testBit 21 then t.eng else s.eng) := congrArg State.eng h
  rw [b] at e
  exact e

theorem Keeps.nss {m : Nat} {s t : State} (h : Keeps m s t) (b : m.testBit 22 = false) : t.nss = s.nss := by
  have e : t.nss = (bif m.testBit 22 then t.nss else s.nss) := congrArg State.nss h
  rw [b] at e
  exact e

theorem Keeps.zones {m : Nat} {s t : State} (h : Keeps m s t) (b : m.testBit 23 = false) : t.zones = s.zones := by
  have e : t.zones = (bif m.testBit 23 then t.zones else s.zones) := congrArg State.zones h
  rw [b] at e
  exact e

theorem Keeps.blocks {m : Nat} {s t : State} (h : Keeps m s t) (b : m.testBit 24 = false) : t.blocks = s.blocks := by
  have e : t.blocks = (bif m.testBit 24 then t.blocks else s.blocks) := congrArg State.blocks h
  rw [b] at e
  exact e

theorem Keeps.pis {m : Nat} {s t : State} (h : Keeps m s t) (b : m.testBit 25 = false) : t.pis = s.pis := by
  have e : t.pis = (bif m.testBit 25 then t.pis else s.pis) := congrArg State.pis h
  rw [b] at e
  exact e

theorem Keeps.lastCqe {m : Nat} {s t : State} (h : Keeps m s t) (b : m.testBit 26 = false) : t.lastCqe = s.lastCqe := by
  have e : t.lastCqe = (bif m.testBit 26 then t.lastCqe else s.lastCqe) := congrArg State.lastCqe h
  rw [b] at e
  exact e

theorem Keeps.hostOut {m : Nat} {s t : State} (h : Keeps m s t) (b : m.testBit 27 = false) : t.hostOut = s.hostOut := by
  have e : t.hostOut = (bif m.testBit 27 then t.hostOut else s.hostOut) := congrArg State.hostOut h
  rw [b] at e
  exact e

theorem Keeps.barRead {m : Nat} {s t : State} (h : Keeps m s t) (b : m.testBit 28 = false) : t.barRead = s.barRead := by
  have e : t.barRead = (bif m.testBit 28 then t.barRead else s.barRead) := congrArg State.barRead h
  rw [b] at e
  exact e

theorem Keeps.keyChecks {m : Nat} {s t : State} (h : Keeps m s t) (b : m.testBit 29 = false) : t.keyChecks = s.keyChecks := by
  have e : t.keyChecks = (bif m.testBit 29 then t.keyChecks else s.keyChecks) := congrArg State.keyChecks h
  rw [b] at e
  exact e

theorem Keeps.msix {m : Nat} {s t : State} (h : Keeps m s t) (b : m.testBit 30 = false) : t.msix = s.msix := by
  have e : t.msix = (bif m.testBit 30 then t.msix else s.msix) := congrArg State.msix h
  rw [b] at e
  exact e

theorem Keeps.msixTable {m : Nat} {s t : State} (h : Keeps m s t) (b : m.testBit 31 = false) : t.msixTable = s.msixTable := by
  have e : t.msixTable = (bif m.testBit 31 then t.msixTable else s.msixTable) := congrArg State.msixTable h
  rw [b] at e
  exact e

theorem Keeps.power {m : Nat} {s t : State} (h : Keeps m s t) (b : m.testBit 32 = false) : t.power = s.power := by
  have e : t.power = (bif m.testBit 32 then t.power else s.power) := congrArg State.power h
  rw [b] at e
  exact e

theorem Keeps.thermal {m : Nat} {s t : State} (h : Keeps m s t) (b : m.testBit 33 = false) : t.thermal = s.thermal := by
  have e : t.thermal = (bif m.testBit 33 then t.thermal else s.thermal) := congrArg State.thermal h
  rw [b] at e
  exact e

theorem Keeps.wdt {m : Nat} {s t : State} (h : Keeps m s t) (b : m.testBit 34 = false) : t.wdt = s.wdt := by
  have e : t.wdt = (bif m.testBit 34 then t.wdt else s.wdt) := congrArg State.wdt h
  rw [b] at e
  exact e

theorem Keeps.nand {m : Nat} {s t : State} (h : Keeps m s t) (b : m.testBit 35 = false) : t.nand = s.nand := by
  have e : t.nand = (bif m.testBit 35 then t.nand else s.nand) := congrArg State.nand h
  rw [b] at e
  exact e

theorem Keeps.comp {m : Nat} {s t : State} (h : Keeps m s t) (b : m.testBit 36 = false) : t.comp = s.comp := by
  have e : t.comp = (bif m.testBit 36 then t.comp else s.comp) := congrArg State.comp h
  rw [b] at e
  exact e

theorem Keeps.dram {m : Nat} {s t : State} (h : Keeps m s t) (b : m.testBit 37 = false) : t.dram = s.dram := by
  have e : t.dram = (bif m.testBit 37 then t.dram else s.dram) := congrArg State.dram h
  rw [b] at e
  exact e

theorem Keeps.bufs {m : Nat} {s t : State} (h : Keeps m s t) (b : m.testBit 38 = false) : t.bufs = s.bufs := by
  have e : t.bufs = (bif m.testBit 38 then t.bufs else s.bufs) := congrArg State.bufs h
  rw [b] at e
  exact e

theorem Keeps.cf {m : Nat} {s t : State} (h : Keeps m s t) (b : m.testBit 39 = false) : t.cf = s.cf := by
  have e : t.cf = (bif m.testBit 39 then t.cf else s.cf) := congrArg State.cf h
  rw [b] at e
  exact e

theorem Keeps.boot {m : Nat} {s t : State} (h : Keeps m s t) (b : m.testBit 40 = false) : t.boot = s.boot := by
  have e : t.boot = (bif m.testBit 40 then t.boot else s.boot) := congrArg State.boot h
  rw [b] at e
  exact e

theorem Keeps.xlat {m : Nat} {s t : State} (h : Keeps m s t) (b : m.testBit 41 = false) : t.xlat = s.xlat := by
  have e : t.xlat = (bif m.testBit 41 then t.xlat else s.xlat) := congrArg State.xlat h
  rw [b] at e
  exact e

theorem Keeps.pair {m : Nat} {s t : State} (h : Keeps m s t) (b : m.testBit 42 = false) : t.pair = s.pair := by
  have e : t.pair = (bif m.testBit 42 then t.pair else s.pair) := congrArg State.pair h
  rw [b] at e
  exact e

theorem Keeps.freeCtr {m : Nat} {s t : State} (h : Keeps m s t) (b : m.testBit 43 = false) : t.freeCtr = s.freeCtr := by
  have e : t.freeCtr = (bif m.testBit 43 then t.freeCtr else s.freeCtr) := congrArg State.freeCtr h
  rw [b] at e
  exact e

theorem Keeps.pending {m : Nat} {s t : State} (h : Keeps m s t) : t.pending = s.pending := by
  have e : t.pending = (merge m s t).pending := congrArg State.pending h
  exact e

theorem Keeps.refl (m : Nat) (s : State) : Keeps m s s := by
  simp only [Keeps, merge, Bool.cond_self]

theorem cond_of {α : Type} {b : Bool} {x y : α} (h : b = false → x = y) : x = (bif b then x else y) := by
  cases b
  · exact h rfl
  · rfl

theorem Keeps.of {m : Nat} {s t : State}
    (h0 : m.testBit 0 = false → t.clk = s.clk)
    (h1 : m.testBit 1 = false → t.dict = s.dict)
    (h2 : m.testBit 2 = false → t.genNow = s.genNow)
    (h3 : m.testBit 3 = false → t.gens = s.gens)
    (h4 : m.testBit 4 = false → t.reserved = s.reserved)
    (h5 : m.testBit 5 = false → t.staged = s.staged)
    (h6 : m.testBit 6 = false → t.miowa = s.miowa)
    (h7 : m.testBit 7 = false → t.store = s.store)
    (h8 : m.testBit 8 = false → t.recd = s.recd)
    (h9 : m.testBit 9 = false → t.trace = s.trace)
    (h10 : m.testBit 10 = false → t.tel = s.tel)
    (h11 : m.testBit 11 = false → t.crc = s.crc)
    (h12 : m.testBit 12 = false → t.portA = s.portA)
    (h13 : m.testBit 13 = false → t.portB = s.portB)
    (h14 : m.testBit 14 = false → t.portMode = s.portMode)
    (h15 : m.testBit 15 = false → t.vfSplit = s.vfSplit)
    (h16 : m.testBit 16 = false → t.wakeLow = s.wakeLow)
    (h17 : m.testBit 17 = false → t.insts = s.insts)
    (h18 : m.testBit 18 = false → t.sqs = s.sqs)
    (h19 : m.testBit 19 = false → t.cqs = s.cqs)
    (h20 : m.testBit 20 = false → t.flights = s.flights)
    (h21 : m.testBit 21 = false → t.eng = s.eng)
    (h22 : m.testBit 22 = false → t.nss = s.nss)
    (h23 : m.testBit 23 = false → t.zones = s.zones)
    (h24 : m.testBit 24 = false → t.blocks = s.blocks)
    (h25 : m.testBit 25 = false → t.pis = s.pis)
    (h26 : m.testBit 26 = false → t.lastCqe = s.lastCqe)
    (h27 : m.testBit 27 = false → t.hostOut = s.hostOut)
    (h28 : m.testBit 28 = false → t.barRead = s.barRead)
    (h29 : m.testBit 29 = false → t.keyChecks = s.keyChecks)
    (h30 : m.testBit 30 = false → t.msix = s.msix)
    (h31 : m.testBit 31 = false → t.msixTable = s.msixTable)
    (h32 : m.testBit 32 = false → t.power = s.power)
    (h33 : m.testBit 33 = false → t.thermal = s.thermal)
    (h34 : m.testBit 34 = false → t.wdt = s.wdt)
    (h35 : m.testBit 35 = false → t.nand = s.nand)
    (h36 : m.testBit 36 = false → t.comp = s.comp)
    (h37 : m.testBit 37 = false → t.dram = s.dram)
    (h38 : m.testBit 38 = false → t.bufs = s.bufs)
    (h39 : m.testBit 39 = false → t.cf = s.cf)
    (h40 : m.testBit 40 = false → t.boot = s.boot)
    (h41 : m.testBit 41 = false → t.xlat = s.xlat)
    (h42 : m.testBit 42 = false → t.pair = s.pair)
    (h43 : m.testBit 43 = false → t.freeCtr = s.freeCtr)
    (hp : t.pending = s.pending) : Keeps m s t := by
  cases t
  simp only [Keeps, merge, State.mk.injEq]
  exact ⟨cond_of h0, cond_of h1, cond_of h2, cond_of h3, cond_of h4, cond_of h5, cond_of h6, cond_of h7, cond_of h8, cond_of h9, cond_of h10, cond_of h11, cond_of h12, cond_of h13, cond_of h14, cond_of h15, cond_of h16, cond_of h17, cond_of h18, cond_of h19, cond_of h20, cond_of h21, cond_of h22, cond_of h23, cond_of h24, cond_of h25, cond_of h26, cond_of h27, cond_of h28, cond_of h29, cond_of h30, cond_of h31, cond_of h32, cond_of h33, cond_of h34, cond_of h35, cond_of h36, cond_of h37, cond_of h38, cond_of h39, cond_of h40, cond_of h41, cond_of h42, cond_of h43, hp⟩

theorem Keeps.trans {m : Nat} {s t u : State} (h : Keeps m s t) (k : Keeps m t u) : Keeps m s u :=
  Keeps.of (fun b => (k.clk b).trans (h.clk b))
    (fun b => (k.dict b).trans (h.dict b))
    (fun b => (k.genNow b).trans (h.genNow b))
    (fun b => (k.gens b).trans (h.gens b))
    (fun b => (k.reserved b).trans (h.reserved b))
    (fun b => (k.staged b).trans (h.staged b))
    (fun b => (k.miowa b).trans (h.miowa b))
    (fun b => (k.store b).trans (h.store b))
    (fun b => (k.recd b).trans (h.recd b))
    (fun b => (k.trace b).trans (h.trace b))
    (fun b => (k.tel b).trans (h.tel b))
    (fun b => (k.crc b).trans (h.crc b))
    (fun b => (k.portA b).trans (h.portA b))
    (fun b => (k.portB b).trans (h.portB b))
    (fun b => (k.portMode b).trans (h.portMode b))
    (fun b => (k.vfSplit b).trans (h.vfSplit b))
    (fun b => (k.wakeLow b).trans (h.wakeLow b))
    (fun b => (k.insts b).trans (h.insts b))
    (fun b => (k.sqs b).trans (h.sqs b))
    (fun b => (k.cqs b).trans (h.cqs b))
    (fun b => (k.flights b).trans (h.flights b))
    (fun b => (k.eng b).trans (h.eng b))
    (fun b => (k.nss b).trans (h.nss b))
    (fun b => (k.zones b).trans (h.zones b))
    (fun b => (k.blocks b).trans (h.blocks b))
    (fun b => (k.pis b).trans (h.pis b))
    (fun b => (k.lastCqe b).trans (h.lastCqe b))
    (fun b => (k.hostOut b).trans (h.hostOut b))
    (fun b => (k.barRead b).trans (h.barRead b))
    (fun b => (k.keyChecks b).trans (h.keyChecks b))
    (fun b => (k.msix b).trans (h.msix b))
    (fun b => (k.msixTable b).trans (h.msixTable b))
    (fun b => (k.power b).trans (h.power b))
    (fun b => (k.thermal b).trans (h.thermal b))
    (fun b => (k.wdt b).trans (h.wdt b))
    (fun b => (k.nand b).trans (h.nand b))
    (fun b => (k.comp b).trans (h.comp b))
    (fun b => (k.dram b).trans (h.dram b))
    (fun b => (k.bufs b).trans (h.bufs b))
    (fun b => (k.cf b).trans (h.cf b))
    (fun b => (k.boot b).trans (h.boot b))
    (fun b => (k.xlat b).trans (h.xlat b))
    (fun b => (k.pair b).trans (h.pair b))
    (fun b => (k.freeCtr b).trans (h.freeCtr b))
    (k.pending.trans h.pending)

theorem not_in {n m i : Nat} (h : n ||| m = m) (b : m.testBit i = false) : n.testBit i = false := by
  have e : (n ||| m).testBit i = false := by
    rw [h]
    exact b
  rw [Nat.testBit_or] at e
  exact (Bool.or_eq_false_iff.1 e).1

/-- A wider mask keeps no more. -/
theorem Keeps.weaken {n m : Nat} {s t : State} (h : Keeps n s t) (e : n ||| m = m) : Keeps m s t :=
  Keeps.of (fun b => h.clk (not_in e b))
    (fun b => h.dict (not_in e b))
    (fun b => h.genNow (not_in e b))
    (fun b => h.gens (not_in e b))
    (fun b => h.reserved (not_in e b))
    (fun b => h.staged (not_in e b))
    (fun b => h.miowa (not_in e b))
    (fun b => h.store (not_in e b))
    (fun b => h.recd (not_in e b))
    (fun b => h.trace (not_in e b))
    (fun b => h.tel (not_in e b))
    (fun b => h.crc (not_in e b))
    (fun b => h.portA (not_in e b))
    (fun b => h.portB (not_in e b))
    (fun b => h.portMode (not_in e b))
    (fun b => h.vfSplit (not_in e b))
    (fun b => h.wakeLow (not_in e b))
    (fun b => h.insts (not_in e b))
    (fun b => h.sqs (not_in e b))
    (fun b => h.cqs (not_in e b))
    (fun b => h.flights (not_in e b))
    (fun b => h.eng (not_in e b))
    (fun b => h.nss (not_in e b))
    (fun b => h.zones (not_in e b))
    (fun b => h.blocks (not_in e b))
    (fun b => h.pis (not_in e b))
    (fun b => h.lastCqe (not_in e b))
    (fun b => h.hostOut (not_in e b))
    (fun b => h.barRead (not_in e b))
    (fun b => h.keyChecks (not_in e b))
    (fun b => h.msix (not_in e b))
    (fun b => h.msixTable (not_in e b))
    (fun b => h.power (not_in e b))
    (fun b => h.thermal (not_in e b))
    (fun b => h.wdt (not_in e b))
    (fun b => h.nand (not_in e b))
    (fun b => h.comp (not_in e b))
    (fun b => h.dram (not_in e b))
    (fun b => h.bufs (not_in e b))
    (fun b => h.cf (not_in e b))
    (fun b => h.boot (not_in e b))
    (fun b => h.xlat (not_in e b))
    (fun b => h.pair (not_in e b))
    (fun b => h.freeCtr (not_in e b))
    h.pending

/-- An update of the fields of a mask. -/
theorem Keeps.leaf {c m : Nat} {t u : State} (h : merge c u t = t) (e : c ||| m = m) : Keeps m t u :=
  Keeps.weaken (Keeps.of (fun b => (by have k := congrArg State.clk h; simp only [merge, b, cond_false] at k; exact k))
    (fun b => (by have k := congrArg State.dict h; simp only [merge, b, cond_false] at k; exact k))
    (fun b => (by have k := congrArg State.genNow h; simp only [merge, b, cond_false] at k; exact k))
    (fun b => (by have k := congrArg State.gens h; simp only [merge, b, cond_false] at k; exact k))
    (fun b => (by have k := congrArg State.reserved h; simp only [merge, b, cond_false] at k; exact k))
    (fun b => (by have k := congrArg State.staged h; simp only [merge, b, cond_false] at k; exact k))
    (fun b => (by have k := congrArg State.miowa h; simp only [merge, b, cond_false] at k; exact k))
    (fun b => (by have k := congrArg State.store h; simp only [merge, b, cond_false] at k; exact k))
    (fun b => (by have k := congrArg State.recd h; simp only [merge, b, cond_false] at k; exact k))
    (fun b => (by have k := congrArg State.trace h; simp only [merge, b, cond_false] at k; exact k))
    (fun b => (by have k := congrArg State.tel h; simp only [merge, b, cond_false] at k; exact k))
    (fun b => (by have k := congrArg State.crc h; simp only [merge, b, cond_false] at k; exact k))
    (fun b => (by have k := congrArg State.portA h; simp only [merge, b, cond_false] at k; exact k))
    (fun b => (by have k := congrArg State.portB h; simp only [merge, b, cond_false] at k; exact k))
    (fun b => (by have k := congrArg State.portMode h; simp only [merge, b, cond_false] at k; exact k))
    (fun b => (by have k := congrArg State.vfSplit h; simp only [merge, b, cond_false] at k; exact k))
    (fun b => (by have k := congrArg State.wakeLow h; simp only [merge, b, cond_false] at k; exact k))
    (fun b => (by have k := congrArg State.insts h; simp only [merge, b, cond_false] at k; exact k))
    (fun b => (by have k := congrArg State.sqs h; simp only [merge, b, cond_false] at k; exact k))
    (fun b => (by have k := congrArg State.cqs h; simp only [merge, b, cond_false] at k; exact k))
    (fun b => (by have k := congrArg State.flights h; simp only [merge, b, cond_false] at k; exact k))
    (fun b => (by have k := congrArg State.eng h; simp only [merge, b, cond_false] at k; exact k))
    (fun b => (by have k := congrArg State.nss h; simp only [merge, b, cond_false] at k; exact k))
    (fun b => (by have k := congrArg State.zones h; simp only [merge, b, cond_false] at k; exact k))
    (fun b => (by have k := congrArg State.blocks h; simp only [merge, b, cond_false] at k; exact k))
    (fun b => (by have k := congrArg State.pis h; simp only [merge, b, cond_false] at k; exact k))
    (fun b => (by have k := congrArg State.lastCqe h; simp only [merge, b, cond_false] at k; exact k))
    (fun b => (by have k := congrArg State.hostOut h; simp only [merge, b, cond_false] at k; exact k))
    (fun b => (by have k := congrArg State.barRead h; simp only [merge, b, cond_false] at k; exact k))
    (fun b => (by have k := congrArg State.keyChecks h; simp only [merge, b, cond_false] at k; exact k))
    (fun b => (by have k := congrArg State.msix h; simp only [merge, b, cond_false] at k; exact k))
    (fun b => (by have k := congrArg State.msixTable h; simp only [merge, b, cond_false] at k; exact k))
    (fun b => (by have k := congrArg State.power h; simp only [merge, b, cond_false] at k; exact k))
    (fun b => (by have k := congrArg State.thermal h; simp only [merge, b, cond_false] at k; exact k))
    (fun b => (by have k := congrArg State.wdt h; simp only [merge, b, cond_false] at k; exact k))
    (fun b => (by have k := congrArg State.nand h; simp only [merge, b, cond_false] at k; exact k))
    (fun b => (by have k := congrArg State.comp h; simp only [merge, b, cond_false] at k; exact k))
    (fun b => (by have k := congrArg State.dram h; simp only [merge, b, cond_false] at k; exact k))
    (fun b => (by have k := congrArg State.bufs h; simp only [merge, b, cond_false] at k; exact k))
    (fun b => (by have k := congrArg State.cf h; simp only [merge, b, cond_false] at k; exact k))
    (fun b => (by have k := congrArg State.boot h; simp only [merge, b, cond_false] at k; exact k))
    (fun b => (by have k := congrArg State.xlat h; simp only [merge, b, cond_false] at k; exact k))
    (fun b => (by have k := congrArg State.pair h; simp only [merge, b, cond_false] at k; exact k))
    (fun b => (by have k := congrArg State.freeCtr h; simp only [merge, b, cond_false] at k; exact k))
    (by have k : (merge c u t).pending = t.pending := congrArg State.pending h; exact k)) e

end Sys2Proof.Machine
end

