-- ==== Sys2Proof/Laws/Keyed.lean ====
section
/-! SUPPORT. Laws/Keyed.lean: keyed stores keep their canonical form under every operation, and read back what was put. -/
namespace Sys2Proof.Assoc
variable {α : Type}

theorem sortedFrom_le {m : Assoc α} {a b : Nat} (h : b ≤ a) (w : sortedFrom a m = true) : sortedFrom b m = true := by
  cases m with
  | nil => rfl
  | cons p r =>
    simp only [sortedFrom, Bool.and_eq_true, decide_eq_true_eq] at w ⊢
    exact ⟨Nat.le_trans h w.1, w.2⟩

theorem sortedFrom_put (m : Assoc α) (lo k : Nat) (a : α) (hk : lo ≤ k) (w : sortedFrom lo m = true) :
    sortedFrom lo (put m k a) = true := by
  induction m generalizing lo with
  | nil => simp [put, sortedFrom, hk]
  | cons p r ih =>
    obtain ⟨k', a'⟩ := p
    simp only [sortedFrom, Bool.and_eq_true, decide_eq_true_eq] at w
    simp only [put]
    split
    · rename_i c
      simp only [sortedFrom, Bool.and_eq_true, decide_eq_true_eq]
      exact ⟨hk, c, w.2⟩
    · split
      · rename_i c
        subst c
        simp only [sortedFrom, Bool.and_eq_true, decide_eq_true_eq]
        exact ⟨hk, w.2⟩
      · simp only [sortedFrom, Bool.and_eq_true, decide_eq_true_eq]
        exact ⟨w.1, ih (k' + 1) (by omega) w.2⟩

theorem wf_put {m : Assoc α} {k : Nat} {a : α} (w : m.wf = true) : (m.put k a).wf = true :=
  sortedFrom_put m 0 k a (Nat.zero_le k) w

theorem sortedFrom_del (m : Assoc α) (lo k : Nat) (w : sortedFrom lo m = true) : sortedFrom lo (del m k) = true := by
  induction m generalizing lo with
  | nil => rfl
  | cons p r ih =>
    obtain ⟨k', a'⟩ := p
    simp only [sortedFrom, Bool.and_eq_true, decide_eq_true_eq] at w
    simp only [del]
    split
    · exact sortedFrom_le (by omega) w.2
    · simp only [sortedFrom, Bool.and_eq_true, decide_eq_true_eq]
      exact ⟨w.1, ih (k' + 1) w.2⟩

theorem wf_del {m : Assoc α} {k : Nat} (w : m.wf = true) : (m.del k).wf = true := sortedFrom_del m 0 k w

theorem wf_nil : wf ([] : Assoc α) = true := rfl

theorem wf_upd {m : Assoc α} {k : Nat} {f : α → α} (w : m.wf = true) : (m.upd k f).wf = true := by
  unfold upd
  split
  · exact wf_put w
  · exact w

theorem wf_updD {m : Assoc α} {k : Nat} {d : α} {f : α → α} (w : m.wf = true) : (m.updD k d f).wf = true := wf_put w

theorem sortedFrom_keep (m : Assoc α) (p : Nat → α → Bool) (lo : Nat) (w : sortedFrom lo m = true) :
    sortedFrom lo (keep m p) = true := by
  induction m generalizing lo with
  | nil => rfl
  | cons e r ih =>
    obtain ⟨k, a⟩ := e
    simp only [sortedFrom, Bool.and_eq_true, decide_eq_true_eq] at w
    have i := ih (k + 1) w.2
    simp only [keep, List.filter_cons]
    split
    · simp only [sortedFrom, Bool.and_eq_true, decide_eq_true_eq]
      exact ⟨w.1, i⟩
    · exact sortedFrom_le (by omega) i

theorem wf_keep {m : Assoc α} {p : Nat → α → Bool} (w : m.wf = true) : (m.keep p).wf = true := sortedFrom_keep m p 0 w

theorem sortedFrom_mapVal (m : Assoc α) (f : Nat → α → α) (lo : Nat) (w : sortedFrom lo m = true) :
    sortedFrom lo (mapVal m f) = true := by
  induction m generalizing lo with
  | nil => rfl
  | cons e r ih =>
    obtain ⟨k, a⟩ := e
    simp only [sortedFrom, Bool.and_eq_true, decide_eq_true_eq] at w
    simp only [mapVal, List.map_cons, sortedFrom, Bool.and_eq_true, decide_eq_true_eq]
    exact ⟨w.1, ih (k + 1) w.2⟩

theorem wf_mapVal {m : Assoc α} {f : Nat → α → α} (w : m.wf = true) : (m.mapVal f).wf = true := sortedFrom_mapVal m f 0 w

/-- A fold that keeps the form at each element keeps it. -/
theorem wf_foldl {β : Type} {f : Assoc α → β → Assoc α} (hf : ∀ m b, m.wf = true → (f m b).wf = true) (l : List β) {m : Assoc α}
    (w : m.wf = true) : (l.foldl f m).wf = true := by
  induction l generalizing m with
  | nil => exact w
  | cons b r ih => exact ih (hf m b w)

@[simp] theorem get?_put_self (m : Assoc α) (k : Nat) (a : α) : (m.put k a).get? k = some a := by
  induction m with
  | nil => simp [put, get?]
  | cons p r ih =>
    obtain ⟨k', a'⟩ := p
    simp only [put]
    split
    · simp [get?]
    · split
      · simp [get?]
      · rename_i h1 h2
        simp only [get?]
        rw [if_neg (by omega)]
        exact ih

theorem get?_put_ne (m : Assoc α) {k j : Nat} (a : α) (h : j ≠ k) : (m.put k a).get? j = m.get? j := by
  induction m with
  | nil => simp [put, get?, Ne.symm h]
  | cons p r ih =>
    obtain ⟨k', a'⟩ := p
    simp only [put]
    split
    · simp [get?, Ne.symm h]
    · split
      · rename_i c
        subst c
        simp [get?, Ne.symm h]
      · simp only [get?]
        split
        · rfl
        · exact ih

@[simp] theorem getD_put_self (m : Assoc α) (k : Nat) (a d : α) : (m.put k a).getD k d = a := by simp [getD]

theorem getD_put_ne (m : Assoc α) {k j : Nat} (a d : α) (h : j ≠ k) : (m.put k a).getD j d = m.getD j d := by
  simp [getD, get?_put_ne m a h]

end Sys2Proof.Assoc
end

