-- ==== Sys2Proof/Laws/From.lean ====
section
/-! SUPPORT. Laws/From.lean: what every operation of the model does to the queue of commands (nothing) and to the forms and
capacities of the stores (it keeps them), and how that carries over record updates and folds. -/
namespace Sys2Proof.Machine
open Sys2Proof

/-- `t` comes from `s` by an operation that changes no part outside the mask, leaves the queue of commands as it is, and keeps
`Sound`. -/
structure From (m : Nat) (s t : State) : Prop where
  keeps : Keeps m s t
  sound : Sound s → Sound t

theorem From.pending {m : Nat} {s t : State} (h : From m s t) : t.pending = s.pending := h.keeps.pending

theorem From.refl (m : Nat) (s : State) : From m s s := ⟨Keeps.refl m s, id⟩

theorem From.trans {m : Nat} {a b c : State} (h : From m a b) (k : From m b c) : From m a c :=
  ⟨h.keeps.trans k.keeps, fun w => k.sound (h.sound w)⟩

/-- One more operation, with a mask of its own. -/
theorem From.step {n m : Nat} {s t u : State} (k : From n t u) (h : From m s t) (e : n ||| m = m) : From m s u :=
  h.trans ⟨k.keeps.weaken e, k.sound⟩

/-- What `Sound` looks at. -/
abbrev seen (s : State) :=
  ((s.dict, s.insts, s.sqs, s.cqs, s.nss, s.zones, s.blocks, s.pis, s.lastCqe, s.hostOut),
   (s.barRead, s.keyChecks, s.msix, s.msixTable, s.crc.units.length, s.recd.staging, s.recd.flushed, s.recd.compact, s.trace.fifo))

/-- An update of fields nobody looks at. -/
theorem From.same (c : Nat) {m : Nat} {s t u : State} (h : From m s t) (e : seen u = seen t) (k : merge c u t = t)
    (b : c ||| m = m) : From m s u := by
  simp only [seen, Prod.mk.injEq] at e
  obtain ⟨⟨e1, e2, e3, e4, e5, e6, e7, e8, e9, e10⟩, f1, f2, f3, f4, f5, f6, f7, f8, f9⟩ := e
  refine ⟨h.keeps.trans (Keeps.leaf k b), fun w => ?_⟩
  have k := h.sound w
  constructor
  · exact e1 ▸ k.dict
  · exact e2 ▸ k.insts
  · exact e3 ▸ k.sqs
  · exact e4 ▸ k.cqs
  · exact e5 ▸ k.nss
  · exact e6 ▸ k.zones
  · exact e7 ▸ k.blocks
  · exact e8 ▸ k.pis
  · exact e9 ▸ k.lastCqe
  · exact e10 ▸ k.hostOut
  · exact f1 ▸ k.barRead
  · exact f2 ▸ k.keyChecks
  · exact f3 ▸ k.msix
  · exact f4 ▸ k.msixTable
  · exact f5.trans k.units
  · exact f6 ▸ k.staging
  · exact f7 ▸ k.flushed
  · exact f8 ▸ k.compact
  · exact f9 ▸ k.fifo

/-! An update of one part that `Sound` does not look at. -/

theorem From.set_clk {m : Nat} {s t : State} (h : From m s t) (x) (e : 1 ||| m = m) : From m s { t with clk := x } :=
  From.same 1 h rfl rfl e

theorem From.set_genNow {m : Nat} {s t : State} (h : From m s t) (x) (e : 4 ||| m = m) : From m s { t with genNow := x } :=
  From.same 4 h rfl rfl e

theorem From.set_gens {m : Nat} {s t : State} (h : From m s t) (x) (e : 8 ||| m = m) : From m s { t with gens := x } :=
  From.same 8 h rfl rfl e

theorem From.set_reserved {m : Nat} {s t : State} (h : From m s t) (x) (e : 16 ||| m = m) : From m s { t with reserved := x } :=
  From.same 16 h rfl rfl e

theorem From.set_staged {m : Nat} {s t : State} (h : From m s t) (x) (e : 32 ||| m = m) : From m s { t with staged := x } :=
  From.same 32 h rfl rfl e

theorem From.set_miowa {m : Nat} {s t : State} (h : From m s t) (x) (e : 64 ||| m = m) : From m s { t with miowa := x } :=
  From.same 64 h rfl rfl e

theorem From.set_store {m : Nat} {s t : State} (h : From m s t) (x) (e : 128 ||| m = m) : From m s { t with store := x } :=
  From.same 128 h rfl rfl e

theorem From.set_tel {m : Nat} {s t : State} (h : From m s t) (x) (e : 1024 ||| m = m) : From m s { t with tel := x } :=
  From.same 1024 h rfl rfl e

theorem From.set_portA {m : Nat} {s t : State} (h : From m s t) (x) (e : 4096 ||| m = m) : From m s { t with portA := x } :=
  From.same 4096 h rfl rfl e

theorem From.set_portB {m : Nat} {s t : State} (h : From m s t) (x) (e : 8192 ||| m = m) : From m s { t with portB := x } :=
  From.same 8192 h rfl rfl e

theorem From.set_portMode {m : Nat} {s t : State} (h : From m s t) (x) (e : 16384 ||| m = m) : From m s { t with portMode := x } :=
  From.same 16384 h rfl rfl e

theorem From.set_vfSplit {m : Nat} {s t : State} (h : From m s t) (x) (e : 32768 ||| m = m) : From m s { t with vfSplit := x } :=
  From.same 32768 h rfl rfl e

theorem From.set_wakeLow {m : Nat} {s t : State} (h : From m s t) (x) (e : 65536 ||| m = m) : From m s { t with wakeLow := x } :=
  From.same 65536 h rfl rfl e

theorem From.set_flights {m : Nat} {s t : State} (h : From m s t) (x) (e : 1048576 ||| m = m) : From m s { t with flights := x } :=
  From.same 1048576 h rfl rfl e

theorem From.set_eng {m : Nat} {s t : State} (h : From m s t) (x) (e : 2097152 ||| m = m) : From m s { t with eng := x } :=
  From.same 2097152 h rfl rfl e

theorem From.set_power {m : Nat} {s t : State} (h : From m s t) (x) (e : 4294967296 ||| m = m) : From m s { t with power := x } :=
  From.same 4294967296 h rfl rfl e

theorem From.set_thermal {m : Nat} {s t : State} (h : From m s t) (x) (e : 8589934592 ||| m = m) : From m s { t with thermal := x } :=
  From.same 8589934592 h rfl rfl e

theorem From.set_wdt {m : Nat} {s t : State} (h : From m s t) (x) (e : 17179869184 ||| m = m) : From m s { t with wdt := x } :=
  From.same 17179869184 h rfl rfl e

theorem From.set_nand {m : Nat} {s t : State} (h : From m s t) (x) (e : 34359738368 ||| m = m) : From m s { t with nand := x } :=
  From.same 34359738368 h rfl rfl e

theorem From.set_comp {m : Nat} {s t : State} (h : From m s t) (x) (e : 68719476736 ||| m = m) : From m s { t with comp := x } :=
  From.same 68719476736 h rfl rfl e

theorem From.set_dram {m : Nat} {s t : State} (h : From m s t) (x) (e : 137438953472 ||| m = m) : From m s { t with dram := x } :=
  From.same 137438953472 h rfl rfl e

theorem From.set_bufs {m : Nat} {s t : State} (h : From m s t) (x) (e : 274877906944 ||| m = m) : From m s { t with bufs := x } :=
  From.same 274877906944 h rfl rfl e

theorem From.set_cf {m : Nat} {s t : State} (h : From m s t) (x) (e : 549755813888 ||| m = m) : From m s { t with cf := x } :=
  From.same 549755813888 h rfl rfl e

theorem From.set_boot {m : Nat} {s t : State} (h : From m s t) (x) (e : 1099511627776 ||| m = m) : From m s { t with boot := x } :=
  From.same 1099511627776 h rfl rfl e

theorem From.set_xlat {m : Nat} {s t : State} (h : From m s t) (x) (e : 2199023255552 ||| m = m) : From m s { t with xlat := x } :=
  From.same 2199023255552 h rfl rfl e

theorem From.set_pair {m : Nat} {s t : State} (h : From m s t) (x) (e : 4398046511104 ||| m = m) : From m s { t with pair := x } :=
  From.same 4398046511104 h rfl rfl e

theorem From.set_freeCtr {m : Nat} {s t : State} (h : From m s t) (x) (e : 8796093022208 ||| m = m) : From m s { t with freeCtr := x } :=
  From.same 8796093022208 h rfl rfl e

/-- An update that keeps each form and capacity. -/
theorem From.upd (c : Nat) {m : Nat} {s t u : State} (h : From m s t) (kk : merge c u t = t) (b : c ||| m = m)
    (dict : t.dict.wf = true → u.dict.wf = true) (insts : t.insts.wf = true → u.insts.wf = true)
    (sqs : t.sqs.wf = true → u.sqs.wf = true) (cqs : t.cqs.wf = true → u.cqs.wf = true)
    (nss : t.nss.wf = true → u.nss.wf = true) (zones : t.zones.wf = true → u.zones.wf = true)
    (blocks : t.blocks.wf = true → u.blocks.wf = true) (pis : t.pis.wf = true → u.pis.wf = true)
    (lastCqe : t.lastCqe.wf = true → u.lastCqe.wf = true) (hostOut : t.hostOut.wf = true → u.hostOut.wf = true)
    (barRead : t.barRead.wf = true → u.barRead.wf = true) (keyChecks : t.keyChecks.wf = true → u.keyChecks.wf = true)
    (msix : t.msix.wf = true → u.msix.wf = true) (msixTable : t.msixTable.wf = true → u.msixTable.wf = true)
    (units : t.crc.units.length = 16 → u.crc.units.length = 16)
    (staging : t.recd.staging.length ≤ 1024 → u.recd.staging.length ≤ 1024)
    (flushed : t.recd.flushed.length ≤ 1024 → u.recd.flushed.length ≤ 1024)
    (compact : t.recd.compact.length ≤ 32768 → u.recd.compact.length ≤ 32768)
    (fifo : t.trace.fifo.length ≤ 8192 → u.trace.fifo.length ≤ 8192) : From m s u :=
  ⟨h.keeps.trans (Keeps.leaf kk b), fun w =>
    have k := h.sound w
    { dict := dict k.dict, insts := insts k.insts, sqs := sqs k.sqs, cqs := cqs k.cqs, nss := nss k.nss, zones := zones k.zones
      blocks := blocks k.blocks, pis := pis k.pis, lastCqe := lastCqe k.lastCqe, hostOut := hostOut k.hostOut
      barRead := barRead k.barRead, keyChecks := keyChecks k.keyChecks, msix := msix k.msix, msixTable := msixTable k.msixTable
      units := units k.units, staging := staging k.staging, flushed := flushed k.flushed, compact := compact k.compact
      fifo := fifo k.fifo }⟩

/-- A fold of operations. -/
theorem From.foldl {m : Nat} {s t : State} {β : Type} {f : State → β → State} (h : From m s t) (hf : ∀ u b, From m s u → From m s (f u b))
    (l : List β) : From m s (l.foldl f t) := by
  induction l generalizing t with
  | nil => exact h
  | cons b r ih => exact ih (hf t b h)

/-- A fold over a pair whose second part is the state. -/
theorem From.foldl_snd {m : Nat} {s : State} {α β : Type} {f : α × State → β → α × State} (hf : ∀ p b, From m s p.2 → From m s (f p b).2)
    (l : List β) {p : α × State} (h : From m s p.2) : From m s (l.foldl f p).2 := by
  induction l generalizing p with
  | nil => exact h
  | cons b r ih => exact ih (hf p b h)

/-- The state of a pair. -/
theorem From.pair {m : Nat} {s t : State} {α : Type} {a : α} (h : From m s t) : From m s (a, t).2 := h

/-- The state of a pair that a match has taken apart. -/
theorem From.snd {m : Nat} {s t : State} {α : Type} {p : α × State} {a : α} (e : p = (a, t)) (h : From m s p.2) : From m s t := by
  subst e
  exact h

theorem From.snd2 {m : Nat} {s t : State} {α β : Type} {p : α × β × State} {a : α} {b : β} (e : p = (a, b, t)) (h : From m s p.2.2) : From m s t := by
  subst e
  exact h

theorem From.elim {m : Nat} {s t : State} {α : Type} {f : α → State} (h : From m s t) (hf : ∀ a, From m s (f a)) (o : Option α) :
    From m s (o.elim t f) := by
  cases o with
  | none => exact h
  | some a => exact hf a

theorem From.nil_le {α : Type} {n : Nat} : ([] : List α).length ≤ n := Nat.zero_le n

theorem From.sixteen {α : Type} {a : α} : (List.replicate 16 a).length = 16 := rfl

/-- The recorder is replaced by one that keeps its capacities. -/
theorem From.recd {m : Nat} {s t : State} (h : From m s t) (x : Recorder) (a : t.recd.staging.length ≤ 1024 → x.staging.length ≤ 1024)
    (b : t.recd.flushed.length ≤ 1024 → x.flushed.length ≤ 1024) (c : t.recd.compact.length ≤ 32768 → x.compact.length ≤ 32768)
    (e : 256 ||| m = m) :
    From m s { t with recd := x } :=
  From.upd 256 h rfl e id id id id id id id id id id id id id id id a b c id

/-- The flush writes the recorder's staged records: the flushed ones are then as many as the staged ones. -/
theorem From.flushEnded {m : Nat} {s t : State} (h : From m s t) (b : 256 ||| m = m) :
    From m s { t with recd := { t.recd with flushed := t.recd.staging } } :=
  ⟨h.keeps.trans (Keeps.leaf (c := 256) rfl b), fun w =>
    have k := h.sound w
    { k with flushed := k.staging }⟩

/-- A start takes the records of the last flush back into the staging. -/
theorem From.flushLoaded {m : Nat} {s t : State} (h : From m s t) (b : 256 ||| m = m) :
    From m s { t with recd := { t.recd with staging := t.recd.flushed, flushed := [] } } :=
  ⟨h.keeps.trans (Keeps.leaf (c := 256) rfl b), fun w =>
    have k := h.sound w
    { k with staging := k.flushed, flushed := From.nil_le }⟩

/-- The trace FIFO is replaced by one that keeps its capacity. -/
theorem From.trace {m : Nat} {s t : State} (h : From m s t) (x : Trace) (a : t.trace.fifo.length ≤ 8192 → x.fifo.length ≤ 8192)
    (e : 512 ||| m = m) :
    From m s { t with trace := x } :=
  From.upd 512 h rfl e id id id id id id id id id id id id id id id id id id a

/-- The check-value units are replaced by as many. -/
theorem From.crc {m : Nat} {s t : State} (h : From m s t) (x : CrcUnits) (a : t.crc.units.length = 16 → x.units.length = 16)
    (e : 2048 ||| m = m) :
    From m s { t with crc := x } :=
  From.upd 2048 h rfl e id id id id id id id id id id id id id id a id id id id

theorem length_modNth {α : Type} (l : List α) (n : Nat) (f : α → α) : (modNth l n f).length = l.length := by
  induction l generalizing n with
  | nil => rfl
  | cons a r ih => cases n with
    | zero => rfl
    | succ n => simp [modNth, ih]

theorem length_grantLeases (n : Nat) (c : CrcUnits) : (grantLeases n c).units.length = c.units.length := by
  induction n generalizing c with
  | zero => rfl
  | succ n ih =>
    simp only [grantLeases]
    split
    · split
      · rw [ih]
        exact length_modNth _ _ _
      · rfl
    · rfl

/-- The record that a new one replaces stands in the recorder. -/
theorem victim_mem {l : List Rec} {sev q : Nat} (h : victim l sev = some q) : ∃ r ∈ l, r.seq = q := by
  simp only [victim, Option.map_eq_some_iff] at h
  obtain ⟨r, hr, e⟩ := h
  exact ⟨r, (List.mem_filter.1 (List.mem_of_find?_eq_some hr)).1, e⟩

/-- Replacing a record by another makes no recorder longer. -/
theorem length_replace {l : List Rec} {sev q n : Nat} (r : Rec) (h : victim l sev = some q) (w : l.length ≤ n) :
    (l.filter (fun x => x.seq != q) ++ [r]).length ≤ n := by
  obtain ⟨v, hv, e⟩ := victim_mem h
  have k : (l.filter (fun x => x.seq != q)).length < l.length :=
    List.length_filter_lt_length_iff_exists.2 ⟨v, hv, by simp [e]⟩
  simp only [List.length_append, List.length_singleton]
  omega

/-- The next state of an outcome, where it has one, comes from `s`. -/
def FromO (m : Nat) (s : State) (o : Host.Outcome State Fault Refusal) : Prop := ∀ t, o = .next t → From m s t

theorem FromO.weaken {n m : Nat} {s : State} {o : Host.Outcome State Fault Refusal} (h : FromO n s o) (e : n ||| m = m) :
    FromO m s o := fun t k => From.step (h t k) (From.refl _ _) e

theorem FromO.next {m : Nat} {s t : State} (h : From m s t) : FromO m s (.next t) := by
  intro u e
  cases e
  exact h

end Sys2Proof.Machine
end

