-- ==== Sys2Proof/Laws/KeepQueues.lean ====
section
/-! SUPPORT. Laws/KeepQueues.lean: each operation of the shared operations, the function instances, the coves, the queues and the host frames changes no part of the state outside its mask, leaves the queue
of commands as it is and keeps the forms and capacities of the stores (one lemma per operation). -/
namespace Sys2Proof.Machine
open Sys2Proof

theorem setV_from {s : State} (key x : Nat) : From 2 s (setV s key x) := by
  unfold setV
  have hF : From 2 s s := From.refl _ _
  refine From.upd 2 (hF) rfl rfl ?_ ?_ ?_ ?_ ?_ ?_ ?_ ?_ ?_ ?_ ?_ ?_ ?_ ?_ ?_ ?_ ?_ ?_ ?_
  all_goals with_reducible first | exact id | exact fun _ => Assoc.wf_nil | exact fun _ => From.nil_le | exact fun _ => From.sixteen | (intro w; repeat' first | exact w | exact From.nil_le | exact Assoc.wf_nil | split | apply Assoc.wf_foldl (fun m b w => Assoc.wf_put w) | apply Assoc.wf_put | apply Assoc.wf_upd | apply Assoc.wf_updD | apply Assoc.wf_del | apply Assoc.wf_keep | apply Assoc.wf_mapVal)

theorem setVi_from {s : State} (key n x : Nat) : From 2 s (setVi s key n x) := by
  unfold setVi
  have hF : From 2 s s := From.refl _ _
  refine From.step (setV_from ..) ?_ rfl
  exact hF

theorem bump_from {s : State} (key w n : Nat) : From 2 s (bump s key w n) := by
  unfold bump
  have hF : From 2 s s := From.refl _ _
  refine From.step (setV_from ..) ?_ rfl
  exact hF

theorem bump32_from {s : State} (key : Nat) : From 2 s (bump32 s key) := by
  unfold bump32
  have hF : From 2 s s := From.refl _ _
  refine From.step (bump_from ..) ?_ rfl
  exact hF

theorem bump64_from {s : State} (key : Nat) : From 2 s (bump64 s key) := by
  unfold bump64
  have hF : From 2 s s := From.refl _ _
  refine From.step (bump_from ..) ?_ rfl
  exact hF

theorem domChanged_from {s : State} (key : Nat) : From 64 s (domChanged s key) := by
  unfold domChanged
  have hF : From 64 s s := From.refl _ _
  with_reducible exact From.set_miowa hF _ rfl

theorem setDom_from {s : State} (key : Nat) (b : Bytes) : From 64 s (setDom s key b) := by
  unfold setDom
  have hF : From 64 s s := From.refl _ _
  with_reducible exact From.set_miowa hF _ rfl

theorem freeBelow_from {s : State} (m : Nat) : From 8796093022208 s (freeBelow s m).2 := by
  unfold freeBelow
  have hF : From 8796093022208 s s := From.refl _ _
  refine From.pair ?_
  with_reducible exact From.set_freeCtr hF _ rfl

theorem advance_from {s : State} (dNs : Nat) : From 1 s (advance s dNs) := by
  unfold advance
  have hF : From 1 s s := From.refl _ _
  extract_lets +onlyGivenNames x0
  clear_value x0
  extract_lets +onlyGivenNames x1
  clear_value x1
  extract_lets +onlyGivenNames x2
  clear_value x2
  with_reducible exact From.set_clk hF _ rfl

theorem stageRec_from {s : State} (r : Rec) : From 258 s (stageRec s r) := by
  have hF : From 258 s s := From.refl _ _
  unfold stageRec
  extract_lets x
  clear_value x
  split
  · rename_i c
    refine From.recd hF _ (fun _ => ?_) id id rfl
    simp only [List.length_append, List.length_singleton]
    omega
  · split
    · rename_i e
      exact From.recd hF _ (fun w => length_replace x e w) id id rfl
    · exact From.step (bump32_from _) hF rfl

theorem extRec_from {s : State} (r : Rec) : From 258 s (extRec s r) := by
  unfold extRec
  have hF : From 258 s s := From.refl _ _
  split
  · rename_i e0
    exact From.same 256 hF (by with_reducible rfl) rfl rfl
  · rename_i e1
    split
    · rename_i y2 y3 e4
      refine From.step (bump64_from ..) ?_ rfl
      exact From.same 256 hF (by with_reducible rfl) rfl rfl
    · rename_i y5 e6
      refine From.step (bump32_from ..) ?_ rfl
      exact hF

theorem compactRec_from {s : State} (r : Rec) : From 258 s (compactRec s r) := by
  have hF : From 258 s s := From.refl _ _
  unfold compactRec
  split
  · exact From.recd hF _ id id id rfl
  · split
    · rename_i c
      refine From.recd hF _ id id (fun _ => ?_) rfl
      simp only [List.length_append, List.length_singleton]
      omega
    · exact From.step (bump32_from _) hF rfl

theorem thaw_from {s : State} (full : Bool) : From 258 s (thaw s full) := by
  unfold thaw
  have hF : From 258 s s := From.refl _ _
  extract_lets +onlyGivenNames x0
  clear_value x0
  extract_lets +onlyGivenNames x1
  extract_lets +onlyGivenNames x2
  have hx2 : From 258 s x2 := by
    subst x2
    exact From.same 256 hF (by with_reducible rfl) rfl rfl
  clear_value x2
  extract_lets +onlyGivenNames x3
  have hx3 : From 258 s x3 := by
    subst x3
    split
    · rename_i e4
      refine From.step (bump32_from ..) ?_ rfl
      exact hx2
    · rename_i e5
      exact hx2
  clear_value x3
  refine From.foldl ?_ ?_ _
  · exact hx3
  · intro a6 a7 a8
    refine From.step (stageRec_from ..) ?_ rfl
    exact a8

theorem record_from {s : State} (ev unit inst : Nat) (args : List Nat) : From 258 s (record s ev unit inst args) := by
  unfold record
  have hF : From 258 s s := From.refl _ _
  extract_lets +onlyGivenNames x0
  extract_lets +onlyGivenNames x1
  extract_lets +onlyGivenNames x2
  split
  · rename_i e3
    exact hF
  · rename_i e4
    extract_lets +onlyGivenNames x5
    extract_lets +onlyGivenNames x6
    extract_lets +onlyGivenNames x7
    have hx7 : From 258 s x7 := by
      subst x7
      exact From.same 256 hF (by with_reducible rfl) rfl rfl
    extract_lets +onlyGivenNames x8
    have hx8 : From 258 s x8 := by
      subst x8
      split
      · rename_i e9
        refine From.step (compactRec_from ..) ?_ rfl
        exact hx7
      · rename_i e10
        exact hx7
    split
    · rename_i e11
      exact hx8
    · rename_i e12
      split
      · rename_i e13
        extract_lets +onlyGivenNames x14
        extract_lets +onlyGivenNames x15
        have hx15 : From 258 s x15 := by
          subst x15
          exact From.same 256 hx8 (by with_reducible rfl) rfl rfl
        split
        · rename_i e16
          refine From.step (thaw_from ..) ?_ rfl
          exact hx15
        · rename_i e17
          exact hx15
      · rename_i e18
        refine From.step (stageRec_from ..) ?_ rfl
        exact hx8

theorem event_from {s : State} (ev : Nat) (args : List Nat) : From 258 s (event s ev args) := by
  unfold event
  have hF : From 258 s s := From.refl _ _
  refine From.step (record_from ..) ?_ rfl
  exact hF

theorem eventU_from {s : State} (ev unit : Nat) (args : List Nat) : From 258 s (eventU s ev unit args) := by
  unfold eventU
  have hF : From 258 s s := From.refl _ _
  refine From.step (record_from ..) ?_ rfl
  exact hF

theorem pushEntry_from {s : State} : From 514 s (pushEntry s) := by
  have hF : From 514 s s := From.refl _ _
  unfold pushEntry
  dsimp only
  by_cases c : s.trace.fifo.length ≥ 8192
  · simp only [c, decide_true, if_true]
    refine From.step (bump32_from _) (From.trace hF _ (fun w => ?_) rfl) rfl
    simp only [List.length_append, List.length_drop, List.length_singleton]
    omega
  · simp only [c, decide_false]
    refine From.trace hF _ (fun w => ?_) rfl
    simp only [Bool.false_eq_true, if_false, List.length_append, List.length_singleton]
    omega

theorem traceWord_from {s : State} (header : Bool) (w : Nat) : From 514 s (traceWord s header w) := by
  unfold traceWord
  have hF : From 514 s s := From.refl _ _
  extract_lets +onlyGivenNames x0
  extract_lets +onlyGivenNames x1
  have hx1 : From 514 s x1 := by
    subst x1
    exact From.same 512 hF (by with_reducible rfl) rfl rfl
  split
  · rename_i e2
    refine From.step (pushEntry_from ..) ?_ rfl
    exact hx1
  · rename_i e3
    exact hx1

theorem traceItem_from {s : State} (source kind arg : Nat) (words : List Nat) : From 514 s (traceItem s source kind arg words) := by
  unfold traceItem
  have hF : From 514 s s := From.refl _ _
  split
  · rename_i e0
    extract_lets +onlyGivenNames x1
    clear_value x1
    refine From.foldl ?_ ?_ _
    · refine From.step (traceWord_from ..) ?_ rfl
      exact hF
    · intro a2 a3 a4
      refine From.step (traceWord_from ..) ?_ rfl
      exact a4
  · rename_i e5
    exact hF

theorem supplyTo_from {s : State} (x : Nat) : From 514 s (supplyTo s x) := by
  unfold supplyTo
  have hF : From 514 s s := From.refl _ _
  extract_lets +onlyGivenNames x0
  have hx0 : From 514 s x0 := by
    subst x0
    refine From.step (setV_from ..) ?_ rfl
    exact hF
  clear_value x0
  split
  · rename_i e1
    exact hx0
  · rename_i e2
    refine From.step (traceItem_from ..) ?_ rfl
    exact hx0

theorem powerTrace_from {s : State} (was : Nat) : From 514 s (powerTrace s was) := by
  unfold powerTrace
  have hF : From 514 s s := From.refl _ _
  split
  · rename_i e0
    exact hF
  · rename_i e1
    refine From.step (traceItem_from ..) ?_ rfl
    exact hF

theorem dieTrace_from {s : State} (die kind : Nat) (words : List Nat) : From 514 s (dieTrace s die kind words) := by
  unfold dieTrace
  have hF : From 514 s s := From.refl _ _
  refine From.step (traceItem_from ..) ?_ rfl
  exact hF

theorem freeGens_from {s : State} : From 8 s (freeGens s) := by
  unfold freeGens
  have hF : From 8 s s := From.refl _ _
  with_reducible exact From.set_gens hF _ rfl

theorem stageAt_from {s : State} (t : Nat) (op : StagedOp) : From 48 s (stageAt s t op) := by
  unfold stageAt
  have hF : From 48 s s := From.refl _ _
  extract_lets +onlyGivenNames x0
  clear_value x0
  exact From.same 48 hF (by with_reducible rfl) rfl rfl

theorem modInst_from {s : State} (n : Nat) (f : Inst → Inst) : From 131072 s (modInst s n f) := by
  unfold modInst
  have hF : From 131072 s s := From.refl _ _
  refine From.upd 131072 (hF) rfl rfl ?_ ?_ ?_ ?_ ?_ ?_ ?_ ?_ ?_ ?_ ?_ ?_ ?_ ?_ ?_ ?_ ?_ ?_ ?_
  all_goals with_reducible first | exact id | exact fun _ => Assoc.wf_nil | exact fun _ => From.nil_le | exact fun _ => From.sixteen | (intro w; repeat' first | exact w | exact From.nil_le | exact Assoc.wf_nil | split | apply Assoc.wf_foldl (fun m b w => Assoc.wf_put w) | apply Assoc.wf_put | apply Assoc.wf_upd | apply Assoc.wf_updD | apply Assoc.wf_del | apply Assoc.wf_keep | apply Assoc.wf_mapVal)

theorem modPort_from {s : State} (p : Nat) (f : Port → Port) : From 12288 s (modPort s p f) := by
  unfold modPort
  have hF : From 12288 s s := From.refl _ _
  split
  · rename_i e0
    with_reducible exact From.set_portB hF _ rfl
  · rename_i e1
    with_reducible exact From.set_portA hF _ rfl

theorem msixSend_from {s : State} (fn vec : Nat) : From 1073741824 s (msixSend s fn vec) := by
  unfold msixSend
  have hF : From 1073741824 s s := From.refl _ _
  refine From.upd 1073741824 (hF) rfl rfl ?_ ?_ ?_ ?_ ?_ ?_ ?_ ?_ ?_ ?_ ?_ ?_ ?_ ?_ ?_ ?_ ?_ ?_ ?_
  all_goals with_reducible first | exact id | exact fun _ => Assoc.wf_nil | exact fun _ => From.nil_le | exact fun _ => From.sixteen | (intro w; repeat' first | exact w | exact From.nil_le | exact Assoc.wf_nil | split | apply Assoc.wf_foldl (fun m b w => Assoc.wf_put w) | apply Assoc.wf_put | apply Assoc.wf_upd | apply Assoc.wf_updD | apply Assoc.wf_del | apply Assoc.wf_keep | apply Assoc.wf_mapVal)

theorem cqInterrupt_from {s : State} (fn qid : Nat) : From 1074266112 s (cqInterrupt s fn qid) := by
  unfold cqInterrupt
  have hF : From 1074266112 s s := From.refl _ _
  extract_lets +onlyGivenNames x0
  clear_value x0
  extract_lets +onlyGivenNames x1
  clear_value x1
  split
  · rename_i e2
    exact hF
  · rename_i e3
    split
    · rename_i e4
      refine From.step (msixSend_from ..) ?_ rfl
      refine From.upd 524288 (hF) rfl rfl ?_ ?_ ?_ ?_ ?_ ?_ ?_ ?_ ?_ ?_ ?_ ?_ ?_ ?_ ?_ ?_ ?_ ?_ ?_
      all_goals with_reducible first | exact id | exact fun _ => Assoc.wf_nil | exact fun _ => From.nil_le | exact fun _ => From.sixteen | (intro w; repeat' first | exact w | exact From.nil_le | exact Assoc.wf_nil | split | apply Assoc.wf_foldl (fun m b w => Assoc.wf_put w) | apply Assoc.wf_put | apply Assoc.wf_upd | apply Assoc.wf_updD | apply Assoc.wf_del | apply Assoc.wf_keep | apply Assoc.wf_mapVal)
    · rename_i e5
      exact hF

theorem postCqe_from {s : State} (fn qid : Nat) (e : Cqe) : From 1141374976 s (postCqe s fn qid e) := by
  unfold postCqe
  have hF : From 1141374976 s s := From.refl _ _
  extract_lets +onlyGivenNames x0
  clear_value x0
  split
  · rename_i e1
    refine From.upd 67633152 (hF) rfl rfl ?_ ?_ ?_ ?_ ?_ ?_ ?_ ?_ ?_ ?_ ?_ ?_ ?_ ?_ ?_ ?_ ?_ ?_ ?_
    all_goals with_reducible first | exact id | exact fun _ => Assoc.wf_nil | exact fun _ => From.nil_le | exact fun _ => From.sixteen | (intro w; repeat' first | exact w | exact From.nil_le | exact Assoc.wf_nil | split | apply Assoc.wf_foldl (fun m b w => Assoc.wf_put w) | apply Assoc.wf_put | apply Assoc.wf_upd | apply Assoc.wf_updD | apply Assoc.wf_del | apply Assoc.wf_keep | apply Assoc.wf_mapVal)
  · rename_i e2
    extract_lets +onlyGivenNames x3
    clear_value x3
    refine From.step (cqInterrupt_from ..) ?_ rfl
    refine From.upd 67633152 (hF) rfl rfl ?_ ?_ ?_ ?_ ?_ ?_ ?_ ?_ ?_ ?_ ?_ ?_ ?_ ?_ ?_ ?_ ?_ ?_ ?_
    all_goals with_reducible first | exact id | exact fun _ => Assoc.wf_nil | exact fun _ => From.nil_le | exact fun _ => From.sixteen | (intro w; repeat' first | exact w | exact From.nil_le | exact Assoc.wf_nil | split | apply Assoc.wf_foldl (fun m b w => Assoc.wf_put w) | apply Assoc.wf_put | apply Assoc.wf_upd | apply Assoc.wf_updD | apply Assoc.wf_del | apply Assoc.wf_keep | apply Assoc.wf_mapVal)

theorem histCommand_from {s : State} (f : Flight) : From 1024 s (histCommand s f) := by
  unfold histCommand
  have hF : From 1024 s s := From.refl _ _
  split
  · rename_i e0
    exact hF
  · rename_i e1
    extract_lets +onlyGivenNames x2
    clear_value x2
    extract_lets +onlyGivenNames x3
    subst x3
    dsimp -zeta only
    split
    · rename_i e4
      with_reducible exact From.set_tel hF _ rfl
    · rename_i e5
      split
      · rename_i e6
        with_reducible exact From.set_tel hF _ rfl
      · rename_i e7
        exact hF

theorem modFlight_from {s : State} (seq : Nat) (f : Flight → Flight) : From 1048576 s (modFlight s seq f) := by
  unfold modFlight
  have hF : From 1048576 s s := From.refl _ _
  with_reducible exact From.set_flights hF _ rfl

theorem dropFlight_from {s : State} (seq : Nat) : From 1048576 s (dropFlight s seq) := by
  unfold dropFlight
  have hF : From 1048576 s s := From.refl _ _
  with_reducible exact From.set_flights hF _ rfl

theorem completeRetry_from {s : State} (f : Flight) (st : NvStatus) (dw0 dw1 crd : Nat) : From 1142556162 s (completeRetry s f st dw0 dw1 crd) := by
  unfold completeRetry
  have hF : From 1142556162 s s := From.refl _ _
  extract_lets +onlyGivenNames x0
  have hx0 : From 1142556162 s x0 := by
    subst x0
    refine From.step (histCommand_from ..) ?_ rfl
    exact hF
  clear_value x0
  extract_lets +onlyGivenNames x1
  have hx1 : From 1142556162 s x1 := by
    subst x1
    refine From.step (traceItem_from ..) ?_ rfl
    exact hx0
  clear_value x1
  extract_lets +onlyGivenNames x2
  have hx2 : From 1142556162 s x2 := by
    subst x2
    refine From.step (dropFlight_from ..) ?_ rfl
    exact hx1
  clear_value x2
  extract_lets +onlyGivenNames x3
  have hx3 : From 1142556162 s x3 := by
    subst x3
    split
    · rename_i e4
      exact hx2
    · rename_i e5
      refine From.step (modInst_from ..) ?_ rfl
      exact hx2
  clear_value x3
  refine From.step (postCqe_from ..) ?_ rfl
  exact hx3

theorem completeFlight_from {s : State} (f : Flight) (st : NvStatus) (dw0 dw1 : Nat) : From 1142556162 s (completeFlight s f st dw0 dw1) := by
  unfold completeFlight
  have hF : From 1142556162 s s := From.refl _ _
  refine From.step (completeRetry_from ..) ?_ rfl
  exact hF

theorem complete_from {s : State} (c : Cmd) (st : NvStatus) (dw0 : Nat) : From 1142556162 s (complete s c st dw0) := by
  unfold complete
  have hF : From 1142556162 s s := From.refl _ _
  split
  · rename_i y0 y1 e2
    refine From.step (completeFlight_from ..) ?_ rfl
    exact hF
  · rename_i y3 e4
    refine From.step (postCqe_from ..) ?_ rfl
    exact hF

theorem dmaOut_from {s : State} (fn : Nat) (b : Bytes) : From 134217728 s (dmaOut s fn b) := by
  unfold dmaOut
  have hF : From 134217728 s s := From.refl _ _
  refine From.upd 134217728 (hF) rfl rfl ?_ ?_ ?_ ?_ ?_ ?_ ?_ ?_ ?_ ?_ ?_ ?_ ?_ ?_ ?_ ?_ ?_ ?_ ?_
  all_goals with_reducible first | exact id | exact fun _ => Assoc.wf_nil | exact fun _ => From.nil_le | exact fun _ => From.sixteen | (intro w; repeat' first | exact w | exact From.nil_le | exact Assoc.wf_nil | split | apply Assoc.wf_foldl (fun m b w => Assoc.wf_put w) | apply Assoc.wf_put | apply Assoc.wf_upd | apply Assoc.wf_updD | apply Assoc.wf_del | apply Assoc.wf_keep | apply Assoc.wf_mapVal)

theorem carryAens_from {s : State} (n fn : Nat) : From 1142556162 s (carryAens n s fn) := by
  induction n generalizing s with
  | zero => exact From.refl _ _
  | succ n ih =>
    simp only [carryAens]
    split
    · exact From.step ih (From.step (complete_from _ _ _) (From.step (modInst_from _ _) (From.refl _ _) rfl) rfl) rfl
    · exact From.refl _ _

theorem aen_from {s : State} (fn : Nat) (e : Aen) : From 1142556162 s (aen s fn e) := by
  unfold aen
  have hF : From 1142556162 s s := From.refl _ _
  extract_lets +onlyGivenNames x0
  clear_value x0
  split
  · rename_i e1
    exact hF
  · rename_i e2
    refine From.step (carryAens_from ..) ?_ rfl
    refine From.step (modInst_from ..) ?_ rfl
    exact hF

theorem aenPfs_from {s : State} (e : Aen) : From 1142556162 s (aenPfs s e) := by
  unfold aenPfs
  have hF : From 1142556162 s s := From.refl _ _
  extract_lets +onlyGivenNames x0
  have hx0 : From 1142556162 s x0 := by
    subst x0
    refine From.step (aen_from ..) ?_ rfl
    exact hF
  clear_value x0
  split
  · rename_i e1
    refine From.step (aen_from ..) ?_ rfl
    exact hx0
  · rename_i e2
    exact hx0

theorem unmask_from {s : State} (fn : Nat) (p : Aen → Bool) : From 131072 s (unmask s fn p) := by
  unfold unmask
  have hF : From 131072 s s := From.refl _ _
  refine From.step (modInst_from ..) ?_ rfl
  exact hF

theorem allReadOnly_from {s : State} : From 2200165811714 s (allReadOnly s) := by
  unfold allReadOnly
  have hF : From 2200165811714 s s := From.refl _ _
  refine From.step (aenPfs_from ..) ?_ rfl
  with_reducible exact From.set_xlat hF _ rfl

theorem negSettle_from {s : State} (key partner mode offered : Nat) : From 2 s (negSettle s key partner mode offered) := by
  unfold negSettle
  have hF : From 2 s s := From.refl _ _
  refine From.step (setV_from ..) ?_ rfl
  exact hF

theorem negFail_from {s : State} (key partner offered : Nat) : From 2 s (negFail s key partner offered) := by
  unfold negFail
  have hF : From 2 s s := From.refl _ _
  refine From.step (setV_from ..) ?_ rfl
  exact hF

theorem ltrSend_from {s : State} (p : Nat) : From 12288 s (ltrSend s p) := by
  unfold ltrSend
  have hF : From 12288 s s := From.refl _ _
  refine From.step (modPort_from ..) ?_ rfl
  exact hF

theorem ltrAll_from {s : State} : From 12288 s (ltrAll s) := by
  unfold ltrAll
  have hF : From 12288 s s := From.refl _ _
  refine From.step (ltrSend_from ..) ?_ rfl
  refine From.step (ltrSend_from ..) ?_ rfl
  exact hF

theorem driveWake_from {s : State} : From 65536 s (driveWake s) := by
  unfold driveWake
  have hF : From 65536 s s := From.refl _ _
  with_reducible exact From.set_wakeLow hF _ rfl

theorem modUnit_from {s : State} (n : Nat) (f : CrcUnit → CrcUnit) : From 2048 s (modUnit s n f) :=
  From.crc (From.refl _ _) _ (fun w => (length_modNth _ _ _).trans w) rfl

theorem execCrcInit_from (unit _agent : Nat) {s : State} : FromO 2048 s (execCrcInit unit _agent s) := by
  unfold execCrcInit
  have hF : From 2048 s s := From.refl _ _
  refine FromO.next ?_
  refine From.step (modUnit_from ..) ?_ rfl
  exact hF

theorem execFeedB_from (unit agent value : Nat) {s : State} : FromO 2048 s (execFeedB unit agent value s) := by
  unfold execFeedB
  have hF : From 2048 s s := From.refl _ _
  refine FromO.next ?_
  refine From.step (modUnit_from ..) ?_ rfl
  exact hF

theorem execFeedH_from (unit agent value : Nat) {s : State} : FromO 2048 s (execFeedH unit agent value s) := by
  unfold execFeedH
  have hF : From 2048 s s := From.refl _ _
  refine FromO.next ?_
  refine From.step (modUnit_from ..) ?_ rfl
  exact hF

theorem execFeedW_from (unit agent value : Nat) {s : State} : FromO 2048 s (execFeedW unit agent value s) := by
  unfold execFeedW
  have hF : From 2048 s s := From.refl _ _
  refine FromO.next ?_
  refine From.step (modUnit_from ..) ?_ rfl
  exact hF

theorem execRunningRestore_from (unit agent lo hi : Nat) {s : State} : FromO 2048 s (execRunningRestore unit agent lo hi s) := by
  unfold execRunningRestore
  have hF : From 2048 s s := From.refl _ _
  refine FromO.next ?_
  refine From.step (modUnit_from ..) ?_ rfl
  exact hF

theorem crcLease_from {s : State} (released : Option Nat) (holder alg : Nat) (urgentPi : Bool) :
    From 2050 s (crcLease s released holder alg urgentPi) := by
  have hF : From 2050 s s := From.refl _ _
  unfold crcLease
  extract_lets +onlyGivenNames src c c1
  have hc : s.crc.units.length = 16 → c1.units.length = 16 := by
    intro w
    subst c1
    rw [length_grantLeases]
    subst c
    split
    · exact (length_modNth _ _ _).trans w
    · exact w
  clear_value c1
  split
  · exact From.crc hF _ hc rfl
  · extract_lets +onlyGivenNames c2 s2
    have h2 : From 2050 s s2 := From.crc hF _ (fun w => (length_grantLeases _ _).trans (hc w)) rfl
    split
    · exact From.step (bump64_from _) h2 rfl
    · exact h2

theorem execCrcLease_from (released : Option Nat) (holder alg : Nat) (urgentPi : Bool) {s : State} : FromO 2050 s (execCrcLease released holder alg urgentPi s) := by
  unfold execCrcLease
  have hF : From 2050 s s := From.refl _ _
  refine FromO.next ?_
  refine From.step (crcLease_from ..) ?_ rfl
  exact hF

theorem crcUnitFails_from {s : State} (n : Nat) : From 2200165814018 s (crcUnitFails s n) := by
  unfold crcUnitFails
  have hF : From 2200165814018 s s := From.refl _ _
  extract_lets +onlyGivenNames x0
  have hx0 : From 2200165814018 s x0 := by
    subst x0
    refine From.step (modUnit_from ..) ?_ rfl
    exact hF
  clear_value x0
  extract_lets +onlyGivenNames x1
  have hx1 : From 2200165814018 s x1 := by
    subst x1
    refine From.step (bump32_from ..) ?_ rfl
    refine From.step (setV_from ..) ?_ rfl
    exact hx0
  clear_value x1
  extract_lets +onlyGivenNames x2
  have hx2 : From 2200165814018 s x2 := by
    subst x2
    refine From.step (eventU_from ..) ?_ rfl
    exact hx1
  clear_value x2
  split
  · rename_i e3
    refine From.step (event_from ..) ?_ rfl
    refine From.step (allReadOnly_from ..) ?_ rfl
    exact hx2
  · rename_i e4
    exact hx2

theorem crcTideTest_from {s : State} (fails : Bool) : From 2200165814018 s (crcTideTest s fails) := by
  unfold crcTideTest
  have hF : From 2200165814018 s s := From.refl _ _
  extract_lets +onlyGivenNames x0
  clear_value x0
  extract_lets +onlyGivenNames x1
  clear_value x1
  extract_lets +onlyGivenNames x2
  extract_lets +onlyGivenNames x3
  have hx3 : From 2200165814018 s x3 := by
    subst x3
    exact From.same 2048 hF (by with_reducible rfl) rfl rfl
  clear_value x3
  split
  · rename_i e4
    refine From.step (crcUnitFails_from ..) ?_ rfl
    exact hx3
  · rename_i e5
    exact hx3

theorem crcRecheck_from {s : State} (confirmed : Bool) : From 2200165814018 s (crcRecheck s confirmed) := by
  unfold crcRecheck
  have hF : From 2200165814018 s s := From.refl _ _
  split
  · rename_i e0
    exact hF
  · rename_i e1
    extract_lets +onlyGivenNames x2
    clear_value x2
    extract_lets +onlyGivenNames x3
    have hx3 : From 2200165814018 s x3 := by
      subst x3
      refine From.step (bump32_from ..) ?_ rfl
      exact hF
    clear_value x3
    split
    · rename_i e4
      refine From.step (crcUnitFails_from ..) ?_ rfl
      exact hx3
    · rename_i e5
      exact hx3

theorem causeTenant_from {s : State} (n bit : Nat) : From 1073872896 s (causeTenant s n bit) := by
  unfold causeTenant
  have hF : From 1073872896 s s := From.refl _ _
  extract_lets +onlyGivenNames x0
  clear_value x0
  extract_lets +onlyGivenNames x1
  clear_value x1
  extract_lets +onlyGivenNames x2
  have hx2 : From 1073872896 s x2 := by
    subst x2
    refine From.step (modInst_from ..) ?_ rfl
    exact hF
  clear_value x2
  split
  · rename_i e3
    refine From.step (msixSend_from ..) ?_ rfl
    exact hx2
  · rename_i e4
    exact hx2

theorem causeManager_from {s : State} (n bit : Nat) : From 1073872898 s (causeManager s n bit) := by
  unfold causeManager
  have hF : From 1073872898 s s := From.refl _ _
  extract_lets +onlyGivenNames x0
  clear_value x0
  extract_lets +onlyGivenNames x1
  have hx1 : From 1073872898 s x1 := by
    subst x1
    refine From.step (modInst_from ..) ?_ rfl
    exact hF
  clear_value x1
  extract_lets +onlyGivenNames x2
  have hx2 : From 1073872898 s x2 := by
    subst x2
    refine From.step (setV_from ..) ?_ rfl
    exact hx1
  clear_value x2
  split
  · rename_i e3
    exact hx2
  · rename_i e4
    refine From.foldl ?_ ?_ _
    · exact hx2
    · intro a5 a6 a7
      extract_lets +onlyGivenNames x8
      clear_value x8
      split
      · rename_i e9
        refine From.step (msixSend_from ..) ?_ rfl
        exact a7
      · rename_i e10
        exact a7

theorem causeState_from {s : State} (n : Nat) : From 1073872898 s (causeState s n) := by
  unfold causeState
  have hF : From 1073872898 s s := From.refl _ _
  refine From.step (causeTenant_from ..) ?_ rfl
  refine From.step (causeManager_from ..) ?_ rfl
  exact hF

theorem mbRefresh_from {s : State} (n : Nat) : From 1073872898 s (mbRefresh s n) := by
  unfold mbRefresh
  have hF : From 1073872898 s s := From.refl _ _
  split
  · rename_i e0
    exact hF
  · rename_i e1
    refine From.step (causeState_from ..) ?_ rfl
    refine From.step (modInst_from ..) ?_ rfl
    exact hF

theorem instStateTo_from {s : State} (n st : Nat) : From 1073872898 s (instStateTo s n st) := by
  unfold instStateTo
  have hF : From 1073872898 s s := From.refl _ _
  split
  · rename_i e0
    exact hF
  · rename_i e1
    refine From.step (causeState_from ..) ?_ rfl
    refine From.step (modInst_from ..) ?_ rfl
    exact hF

theorem modMb_from {s : State} (n : Nat) (f : Mailbox → Mailbox) : From 131072 s (modMb s n f) := by
  unfold modMb
  have hF : From 131072 s s := From.refl _ _
  refine From.step (modInst_from ..) ?_ rfl
  exact hF

theorem m2tBell_from {s : State} (n value : Nat) : From 1073872898 s (m2tBell s n value) := by
  unfold m2tBell
  have hF : From 1073872898 s s := From.refl _ _
  split
  · rename_i e0
    exact hF
  · rename_i e1
    split
    · rename_i e2
      refine From.step (causeManager_from ..) ?_ rfl
      exact hF
    · rename_i e3
      refine From.step (causeTenant_from ..) ?_ rfl
      refine From.step (modMb_from ..) ?_ rfl
      exact hF

theorem t2mBell_from {s : State} (n value : Nat) : From 1073872898 s (t2mBell s n value) := by
  unfold t2mBell
  have hF : From 1073872898 s s := From.refl _ _
  split
  · rename_i e0
    exact hF
  · rename_i e1
    split
    · rename_i e2
      refine From.step (causeTenant_from ..) ?_ rfl
      exact hF
    · rename_i e3
      refine From.step (causeManager_from ..) ?_ rfl
      refine From.step (modMb_from ..) ?_ rfl
      exact hF

theorem m2tAck_from {s : State} (n value : Nat) : From 1073872898 s (m2tAck s n value) := by
  unfold m2tAck
  have hF : From 1073872898 s s := From.refl _ _
  split
  · rename_i e0
    exact hF
  · rename_i e1
    refine From.step (causeManager_from ..) ?_ rfl
    refine From.step (modMb_from ..) ?_ rfl
    exact hF

theorem t2mAck_from {s : State} (n value : Nat) : From 1073872896 s (t2mAck s n value) := by
  unfold t2mAck
  have hF : From 1073872896 s s := From.refl _ _
  split
  · rename_i e0
    exact hF
  · rename_i e1
    refine From.step (causeTenant_from ..) ?_ rfl
    refine From.step (modMb_from ..) ?_ rfl
    exact hF

theorem mbCauseClear_from {s : State} (n : Nat) (managerSide : Bool) (value : Nat) : From 131072 s (mbCauseClear s n managerSide value) := by
  unfold mbCauseClear
  have hF : From 131072 s s := From.refl _ _
  split
  · rename_i e0
    exact hF
  · rename_i e1
    split
    · rename_i e2
      refine From.step (modMb_from ..) ?_ rfl
      exact hF
    · rename_i e3
      split
      · rename_i e4
        refine From.step (modMb_from ..) ?_ rfl
        exact hF
      · rename_i e5
        exact hF

theorem execM2tBell_from (n value : Nat) {s : State} : FromO 1073872898 s (execM2tBell n value s) := by
  unfold execM2tBell
  have hF : From 1073872898 s s := From.refl _ _
  refine FromO.next ?_
  refine From.step (m2tBell_from ..) ?_ rfl
  exact hF

theorem execT2mBell_from (n value : Nat) {s : State} : FromO 1073872898 s (execT2mBell n value s) := by
  unfold execT2mBell
  have hF : From 1073872898 s s := From.refl _ _
  refine FromO.next ?_
  refine From.step (t2mBell_from ..) ?_ rfl
  exact hF

theorem execM2tAck_from (n value : Nat) {s : State} : FromO 1073872898 s (execM2tAck n value s) := by
  unfold execM2tAck
  have hF : From 1073872898 s s := From.refl _ _
  refine FromO.next ?_
  refine From.step (m2tAck_from ..) ?_ rfl
  exact hF

theorem execT2mAck_from (n value : Nat) {s : State} : FromO 1073872896 s (execT2mAck n value s) := by
  unfold execT2mAck
  have hF : From 1073872896 s s := From.refl _ _
  refine FromO.next ?_
  refine From.step (t2mAck_from ..) ?_ rfl
  exact hF

theorem execMbCauseClear_from (n : Nat) (managerSide : Bool) (value : Nat) {s : State} : FromO 131072 s (execMbCauseClear n managerSide value s) := by
  unfold execMbCauseClear
  have hF : From 131072 s s := From.refl _ _
  refine FromO.next ?_
  refine From.step (mbCauseClear_from ..) ?_ rfl
  exact hF

theorem clearTenantSide_from {s : State} (n : Nat) : From 1073872898 s (clearTenantSide s n) := by
  unfold clearTenantSide
  have hF : From 1073872898 s s := From.refl _ _
  split
  · rename_i e0
    exact hF
  · rename_i e1
    refine From.step (causeManager_from ..) ?_ rfl
    refine From.step (modMb_from ..) ?_ rfl
    exact hF

theorem mailboxWrite_from {s : State} (n : Nat) (managerSide : Bool) (off width value : Nat) : From 131072 s (mailboxWrite s n managerSide off width value) := by
  unfold mailboxWrite
  have hF : From 131072 s s := From.refl _ _
  split
  · rename_i e0
    exact hF
  · rename_i e1
    split
    · rename_i e2
      split
      · rename_i e3
        refine From.step (modMb_from ..) ?_ rfl
        exact hF
      · rename_i e4
        exact hF
    · rename_i e5
      split
      · rename_i e6
        refine From.step (modMb_from ..) ?_ rfl
        exact hF
      · rename_i e7
        split
        · rename_i e8
          refine From.step (modMb_from ..) ?_ rfl
          exact hF
        · rename_i e9
          exact hF

theorem execPasidEnableChange_from (fn : Nat) (enable : Bool) {s : State} : FromO 131072 s (execPasidEnableChange fn enable s) := by
  unfold execPasidEnableChange
  have hF : From 131072 s s := From.refl _ _
  refine FromO.next ?_
  split
  · rename_i e0
    refine From.step (modInst_from ..) ?_ rfl
    exact hF
  · rename_i e1
    exact hF

theorem closeSession_from {s : State} (n : Nat) : From 131136 s (closeSession s n) := by
  unfold closeSession
  have hF : From 131136 s s := From.refl _ _
  split
  · rename_i e0
    refine From.step (setDom_from ..) ?_ rfl
    refine From.step (modInst_from ..) ?_ rfl
    exact hF
  · rename_i e1
    exact hF

theorem openSession_from {s : State} (n slice : Nat) : From 8796093153344 s (openSession s n slice) := by
  unfold openSession
  have hF : From 8796093153344 s s := From.refl _ _
  extract_lets +onlyGivenNames x0
  clear_value x0
  extract_lets +onlyGivenNames x1
  clear_value x1
  extract_lets +onlyGivenNames x2
  clear_value x2
  extract_lets +onlyGivenNames x3
  clear_value x3
  extract_lets +onlyGivenNames x4
  have hx4 : From 8796093153344 s x4 := by
    subst x4
    refine From.step (modInst_from ..) ?_ rfl
    with_reducible exact From.set_freeCtr hF _ rfl
  clear_value x4
  refine From.step (setDom_from ..) ?_ rfl
  exact hx4

theorem ite_snd_from {m : Nat} {orig : State} {α : Type} {c : Prop} [Decidable c] {a b : α × State} (ha : From m orig a.2)
    (hb : From m orig b.2) : From m orig (if c then a else b).2 := by
  split
  · exact ha
  · exact hb

theorem deliverKey_from {s : State} (n : Nat) (value : Bytes) : From 131136 s (deliverKey s n value).2 := by
  unfold deliverKey
  have hc : From 131136 s (closeSession s n) := From.step (closeSession_from n) (From.refl _ _) rfl
  generalize closeSession s n = t at hc
  cases (inst s n).session with
  | none => exact hc
  | some x => exact ite_snd_from hc (ite_snd_from hc (ite_snd_from hc (ite_snd_from hc (From.pair (From.step (modInst_from _ _) hc rfl)))))

theorem execKeySessionTimeout_from (n : Nat) {s : State} : FromO 131136 s (execKeySessionTimeout n s) := by
  unfold execKeySessionTimeout
  have hF : From 131136 s s := From.refl _ _
  refine FromO.next ?_
  refine From.step (closeSession_from ..) ?_ rfl
  exact hF

theorem instanceCtrlAccept_from {s : State} (n value : Nat) : From 1073872898 s (instanceCtrlAccept s n value) := by
  unfold instanceCtrlAccept
  have hF : From 1073872898 s s := From.refl _ _
  split
  · rename_i e0
    refine From.step (instStateTo_from ..) ?_ rfl
    exact hF
  · rename_i e1
    refine From.step (instStateTo_from ..) ?_ rfl
    exact hF

theorem controllerEnable_from {s : State} (fn cc : Nat) : From 917504 s (controllerEnable s fn cc) := by
  unfold controllerEnable
  have hF : From 917504 s s := From.refl _ _
  split
  · rename_i e0
    extract_lets +onlyGivenNames x1
    clear_value x1
    extract_lets +onlyGivenNames x2
    clear_value x2
    extract_lets +onlyGivenNames x3
    clear_value x3
    refine From.step (modInst_from ..) ?_ rfl
    refine From.upd 786432 (hF) rfl rfl ?_ ?_ ?_ ?_ ?_ ?_ ?_ ?_ ?_ ?_ ?_ ?_ ?_ ?_ ?_ ?_ ?_ ?_ ?_
    all_goals with_reducible first | exact id | exact fun _ => Assoc.wf_nil | exact fun _ => From.nil_le | exact fun _ => From.sixteen | (intro w; repeat' first | exact w | exact From.nil_le | exact Assoc.wf_nil | split | apply Assoc.wf_foldl (fun m b w => Assoc.wf_put w) | apply Assoc.wf_put | apply Assoc.wf_upd | apply Assoc.wf_updD | apply Assoc.wf_del | apply Assoc.wf_keep | apply Assoc.wf_mapVal)
  · rename_i e4
    exact hF

theorem execControllerEnable_from (fn cc : Nat) {s : State} : FromO 917504 s (execControllerEnable fn cc s) := by
  unfold execControllerEnable
  have hF : From 917504 s s := From.refl _ _
  refine FromO.next ?_
  refine From.step (controllerEnable_from ..) ?_ rfl
  exact hF

theorem modBlock_from {s : State} (die block : Nat) (f : PBlock → PBlock) : From 34359738368 s (modBlock s die block f) := by
  unfold modBlock
  have hF : From 34359738368 s s := From.refl _ _
  with_reducible exact From.set_nand hF _ rfl

theorem capBit_from {s : State} (c bit : Nat) (now : Bool) : From 2200165811970 s (capBit s c bit now) := by
  unfold capBit
  have hF : From 2200165811970 s s := From.refl _ _
  split
  · rename_i e0
    exact hF
  · rename_i e1
    extract_lets +onlyGivenNames x2
    clear_value x2
    extract_lets +onlyGivenNames x3
    have hx3 : From 2200165811970 s x3 := by
      subst x3
      refine From.step (bump32_from ..) ?_ rfl
      with_reducible exact From.set_xlat hF _ rfl
    clear_value x3
    split
    · rename_i e4
      extract_lets +onlyGivenNames x5
      clear_value x5
      extract_lets +onlyGivenNames x6
      have hx6 : From 2200165811970 s x6 := by
        subst x6
        refine From.step (event_from ..) ?_ rfl
        exact hx3
      clear_value x6
      extract_lets +onlyGivenNames x7
      clear_value x7
      refine From.foldl ?_ ?_ _
      · exact hx6
      · intro a8 a9 a10
        refine From.step (aen_from ..) ?_ rfl
        exact a10
    · rename_i e11
      exact hx3

theorem capCheck1_from {s : State} (c : Nat) : From 2200165811970 s (capCheck1 s c) := by
  unfold capCheck1
  have hF : From 2200165811970 s s := From.refl _ _
  extract_lets +onlyGivenNames x0
  clear_value x0
  split
  · rename_i e1
    extract_lets +onlyGivenNames x2
    clear_value x2
    extract_lets +onlyGivenNames x3
    have hx3 : From 2200165811970 s x3 := by
      subst x3
      refine From.step (capBit_from ..) ?_ rfl
      exact hF
    clear_value x3
    extract_lets +onlyGivenNames x4
    have hx4 : From 2200165811970 s x4 := by
      subst x4
      refine From.step (capBit_from ..) ?_ rfl
      exact hx3
    clear_value x4
    split
    · rename_i e5
      refine From.step (capBit_from ..) ?_ rfl
      exact hx4
    · rename_i e6
      split
      · rename_i e7
        refine From.step (capBit_from ..) ?_ rfl
        exact hx4
      · rename_i e8
        exact hx4
  · rename_i e9
    exact hF

theorem capCheck_from {s : State} : From 2200165811970 s (capCheck s) := by
  unfold capCheck
  have hF : From 2200165811970 s s := From.refl _ _
  refine From.foldl ?_ ?_ _
  · exact hF
  · intro a0 a1 a2
    refine From.step (capCheck1_from ..) ?_ rfl
    exact a2

theorem modZone_from {s : State} (k : Nat) (f : Zone → Zone) : From 8388608 s (modZone s k f) := by
  unfold modZone
  have hF : From 8388608 s s := From.refl _ _
  refine From.upd 8388608 (hF) rfl rfl ?_ ?_ ?_ ?_ ?_ ?_ ?_ ?_ ?_ ?_ ?_ ?_ ?_ ?_ ?_ ?_ ?_ ?_ ?_
  all_goals with_reducible first | exact id | exact fun _ => Assoc.wf_nil | exact fun _ => From.nil_le | exact fun _ => From.sixteen | (intro w; repeat' first | exact w | exact From.nil_le | exact Assoc.wf_nil | split | apply Assoc.wf_foldl (fun m b w => Assoc.wf_put w) | apply Assoc.wf_put | apply Assoc.wf_upd | apply Assoc.wf_updD | apply Assoc.wf_del | apply Assoc.wf_keep | apply Assoc.wf_mapVal)

theorem zoneChanged_from {s : State} (nsid zone : Nat) : From 1142556162 s (zoneChanged s nsid zone) := by
  unfold zoneChanged
  have hF : From 1142556162 s s := From.refl _ _
  extract_lets +onlyGivenNames x0
  have hx0 : From 1142556162 s x0 := by
    subst x0
    refine From.step (bump32_from ..) ?_ rfl
    exact hF
  clear_value x0
  refine From.foldl ?_ ?_ _
  · exact hx0
  · intro a1 a2 a3
    refine From.step (aen_from ..) ?_ rfl
    refine From.step (modInst_from ..) ?_ rfl
    exact a3

theorem takeBlock_from {s : State} (die b : Nat) (u : BlockUse) (cell : Nat) : From 34359738368 s (takeBlock s die b u cell) := by
  unfold takeBlock
  have hF : From 34359738368 s s := From.refl _ _
  refine From.step (modBlock_from ..) ?_ rfl
  exact hF

theorem releaseBlock_from {s : State} (die b : Nat) : From 34359738368 s (releaseBlock s die b) := by
  unfold releaseBlock
  have hF : From 34359738368 s s := From.refl _ _
  refine From.step (modBlock_from ..) ?_ rfl
  exact hF

theorem From.foldl_fst {m : Nat} {s : State} {α β : Type} {f : State × α → β → State × α} (hf : ∀ p b, From m s p.1 → From m s (f p b).1)
    (l : List β) {p : State × α} (h : From m s p.1) : From m s (l.foldl f p).1 := by
  induction l generalizing p with
  | nil => exact h
  | cons b r ih => exact ih (hf p b h)

theorem From.fst {m : Nat} {s t : State} {α : Type} {p : State × α} {a : α} (e : p = (t, a)) (h : From m s p.1) : From m s t := by
  subst e
  exact h

theorem allocGroup_from {s : State} (zk k : Nat) : From 2233391382528 s (allocGroup s zk k) := by
  have hF : From 2233391382528 s s := From.refl _ _
  unfold allocGroup
  extract_lets x0 x1
  split
  rename_i e
  refine From.step (modZone_from _ _) (From.fst e (From.foldl_fst (fun p b h => ?_) _ hF)) rfl
  dsimp only
  split
  · split
    · exact From.step (takeBlock_from _ _ _ _) h rfl
    · rename_i d b' _ _
      exact From.set_xlat (From.step (takeBlock_from d b' (.zone zk k b) (Cd.cell x1)) h rfl) _ rfl
  · exact h

theorem allocTo_from {s : State} (n zk x : Nat) : From 2233391382528 s (allocTo n s zk x) := by
  induction n generalizing s with
  | zero => exact From.refl _ _
  | succ n ih =>
    simp only [allocTo]
    split
    · exact From.step ih (From.step (allocGroup_from _ _) (From.refl _ _) rfl) rfl
    · exact From.refl _ _

theorem freeCopies_from {s : State} (id : Nat) : From 34359738368 s (freeCopies s id) := by
  unfold freeCopies
  have hF : From 34359738368 s s := From.refl _ _
  refine From.foldl ?_ ?_ _
  · exact hF
  · intro a0 a1 a2
    refine From.step (releaseBlock_from ..) ?_ rfl
    exact a2

theorem releaseZone_from {s : State} (zk : Nat) : From 2233382993920 s (releaseZone s zk) := by
  unfold releaseZone
  have hF : From 2233382993920 s s := From.refl _ _
  extract_lets +onlyGivenNames x0
  clear_value x0
  extract_lets +onlyGivenNames x1
  have hx1 : From 2233382993920 s x1 := by
    subst x1
    refine From.foldl ?_ ?_ _
    · exact hF
    · intro a2 a3 a4
      refine From.step (releaseBlock_from ..) ?_ rfl
      exact a4
  clear_value x1
  extract_lets +onlyGivenNames x5
  have hx5 : From 2233382993920 s x5 := by
    subst x5
    refine From.foldl ?_ ?_ _
    · exact hx1
    · intro a6 a7 a8
      refine From.step (freeCopies_from ..) ?_ rfl
      exact a8
  clear_value x5
  with_reducible exact From.set_xlat hx5 _ rfl

theorem wbAdd_from {s : State} (e : WbEnt) : From 2199023255552 s (wbAdd s e) := by
  unfold wbAdd
  have hF : From 2199023255552 s s := From.refl _ _
  with_reducible exact From.set_xlat hF _ rfl

theorem wbDrop_from {s : State} (nsid lba nlb : Nat) : From 2199023255552 s (wbDrop s nsid lba nlb) := by
  unfold wbDrop
  have hF : From 2199023255552 s s := From.refl _ _
  with_reducible exact From.set_xlat hF _ rfl

theorem atRiskClear_from (before : Nat) {s : State} : From 258 s (atRiskClear before s) := by
  unfold atRiskClear
  have hF : From 258 s s := From.refl _ _
  split
  · rename_i e0
    refine From.step (event_from ..) ?_ rfl
    exact hF
  · rename_i e1
    exact hF

theorem mirrorSend_from {s : State} (kind len group : Nat) (groupEnd : Bool) : From 4398046511104 s (mirrorSend s kind len group groupEnd) := by
  unfold mirrorSend
  have hF : From 4398046511104 s s := From.refl _ _
  extract_lets +onlyGivenNames x0
  clear_value x0
  with_reducible exact From.set_pair hF _ rfl

theorem mirrorReleases_from {s : State} (gone : List WbEnt) : From 4398046511104 s (mirrorReleases s gone) := by
  unfold mirrorReleases
  have hF : From 4398046511104 s s := From.refl _ _
  split
  · rename_i e0
    refine From.foldl ?_ ?_ _
    · exact hF
    · intro a1 a2 a3
      refine From.step (mirrorSend_from ..) ?_ rfl
      exact a3
  · rename_i e4
    exact hF

theorem releasePassed_from {s : State} : From 6631429505024 s (releasePassed s) := by
  unfold releasePassed
  have hF : From 6631429505024 s s := From.refl _ _
  extract_lets +onlyGivenNames x0
  clear_value x0
  extract_lets +onlyGivenNames x1
  clear_value x1
  extract_lets +onlyGivenNames x2
  clear_value x2
  extract_lets +onlyGivenNames x3
  have hx3 : From 6631429505024 s x3 := by
    subst x3
    refine From.step (mirrorReleases_from ..) ?_ rfl
    with_reducible exact From.set_xlat hF _ rfl
  clear_value x3
  extract_lets +onlyGivenNames x4
  clear_value x4
  extract_lets +onlyGivenNames x5
  have hx5 : From 6631429505024 s x5 := by
    subst x5
    with_reducible exact From.set_nand hx3 _ rfl
  clear_value x5
  split
  · rename_i e6
    with_reducible exact From.set_nand hx5 _ rfl
  · rename_i e7
    exact hx5

theorem lossFlag_from {s : State} (nsid zone : Nat) : From 8388608 s (lossFlag s nsid zone) := by
  unfold lossFlag
  have hF : From 8388608 s s := From.refl _ _
  split
  · rename_i y0 y1 e2
    split
    · rename_i e3
      extract_lets +onlyGivenNames x4
      clear_value x4
      extract_lets +onlyGivenNames x5
      clear_value x5
      split
      · rename_i e6
        exact hF
      · rename_i e7
        refine From.step (modZone_from ..) ?_ rfl
        exact hF
    · rename_i e8
      exact hF
  · rename_i y9 e10
    exact hF

theorem unpoison_from {s : State} (nsid lba nlb : Nat) : From 2199031644160 s (unpoison s nsid lba nlb) := by
  unfold unpoison
  have hF : From 2199031644160 s s := From.refl _ _
  extract_lets +onlyGivenNames x0
  subst x0
  dsimp -zeta only
  split
  · rename_i e1
    extract_lets +onlyGivenNames x2
    clear_value x2
    extract_lets +onlyGivenNames x3
    have hx3 : From 2199031644160 s x3 := by
      subst x3
      with_reducible exact From.set_xlat hF _ rfl
    clear_value x3
    split
    · rename_i y4 y5 e6
      split
      · rename_i e7
        refine From.step (lossFlag_from ..) ?_ rfl
        exact hx3
      · rename_i e8
        exact hx3
    · rename_i y9 e10
      exact hx3
  · rename_i e11
    split
    · rename_i e12
      with_reducible exact From.set_xlat hF _ rfl
    · rename_i e13
      exact hF

theorem lossPend_from {s : State} (nsid slba nlb cause flags loc cove : Nat) : From 2199023255552 s (lossPend s nsid slba nlb cause flags loc cove) := by
  unfold lossPend
  have hF : From 2199023255552 s s := From.refl _ _
  with_reducible exact From.set_xlat hF _ rfl

theorem discover_from {s : State} (nsid cause flags loc : Nat) (lbas : List Nat) : From 2199031644160 s (discover s nsid cause flags loc lbas) := by
  unfold discover
  have hF : From 2199031644160 s s := From.refl _ _
  extract_lets +onlyGivenNames x0
  clear_value x0
  split
  · rename_i e1
    exact hF
  · rename_i e2
    extract_lets +onlyGivenNames x3
    clear_value x3
    extract_lets +onlyGivenNames x4
    have hx4 : From 2199031644160 s x4 := by
      subst x4
      with_reducible exact From.set_xlat hF _ rfl
    clear_value x4
    extract_lets +onlyGivenNames x5
    have hx5 : From 2199031644160 s x5 := by
      subst x5
      split
      · rename_i y6 y7 e8
        split
        · rename_i e9
          refine From.foldl ?_ ?_ _
          · exact hx4
          · intro a10 a11 a12
            refine From.step (lossFlag_from ..) ?_ rfl
            exact a12
        · rename_i e13
          exact hx4
      · rename_i y14 e15
        exact hx4
    clear_value x5
    refine From.foldl ?_ ?_ _
    · exact hx5
    · intro a16 a17 a18
      refine From.foldl ?_ ?_ _
      · exact a18
      · intro a19 a20 a21
        refine From.step (lossPend_from ..) ?_ rfl
        exact a21

theorem lossInsert_from {s : State} (e : LossEnt) : From 2199023255554 s (lossInsert s e) := by
  unfold lossInsert
  have hF : From 2199023255554 s s := From.refl _ _
  extract_lets +onlyGivenNames x0
  clear_value x0
  extract_lets +onlyGivenNames x1
  clear_value x1
  extract_lets +onlyGivenNames x2
  subst x2
  dsimp -zeta only
  split
  · rename_i e3
    refine From.step (setV_from ..) ?_ rfl
    with_reducible exact From.set_xlat hF _ rfl
  · rename_i e4
    split
    · rename_i y5 y6 e7
      refine From.step (setV_from ..) ?_ rfl
      with_reducible exact From.set_xlat hF _ rfl
    · rename_i y8 e9
      extract_lets +onlyGivenNames x10
      clear_value x10
      split
      · rename_i y11 y12 y13
        refine From.step (setV_from ..) ?_ rfl
        with_reducible exact From.set_xlat hF _ rfl
      · rename_i y14
        refine From.step (setV_from ..) ?_ rfl
        with_reducible exact From.set_xlat hF _ rfl

theorem lossPublish_from {s : State} : From 2200165811714 s (lossPublish s) := by
  unfold lossPublish
  have hF : From 2200165811714 s s := From.refl _ _
  split
  · rename_i y0 e1
    exact hF
  · rename_i y2 y3 y4 e5
    extract_lets +onlyGivenNames x6
    clear_value x6
    extract_lets +onlyGivenNames x7
    have hx7 : From 2200165811714 s x7 := by
      subst x7
      with_reducible exact From.set_xlat hF _ rfl
    clear_value x7
    extract_lets +onlyGivenNames x8
    clear_value x8
    extract_lets +onlyGivenNames x9
    have hx9 : From 2200165811714 s x9 := by
      subst x9
      refine From.step (lossInsert_from ..) ?_ rfl
      exact hx7
    clear_value x9
    extract_lets +onlyGivenNames x10
    clear_value x10
    extract_lets +onlyGivenNames x11
    have hx11 : From 2200165811714 s x11 := by
      subst x11
      refine From.step (setV_from ..) ?_ rfl
      exact hx9
    clear_value x11
    refine From.foldl ?_ ?_ _
    · exact hx11
    · intro a12 a13 a14
      refine From.step (aen_from ..) ?_ rfl
      exact a14

theorem execLossPublish_from {s : State} : FromO 2200165811714 s (execLossPublish s) := by
  unfold execLossPublish
  have hF : From 2200165811714 s s := From.refl _ _
  refine FromO.next ?_
  refine From.step (lossPublish_from ..) ?_ rfl
  exact hF

theorem lossPrune_from {s : State} : From 2199023255552 s (lossPrune s) := by
  unfold lossPrune
  have hF : From 2199023255552 s s := From.refl _ _
  with_reducible exact From.set_xlat hF _ rfl

theorem releaseStripe_from {s : State} (id : Nat) : From 2233382993920 s (releaseStripe s id) := by
  unfold releaseStripe
  have hF : From 2233382993920 s s := From.refl _ _
  split
  · rename_i y0 y1 e2
    extract_lets +onlyGivenNames x3
    have hx3 : From 2233382993920 s x3 := by
      subst x3
      refine From.foldl ?_ ?_ _
      · exact hF
      · intro a4 a5 a6
        refine From.step (releaseBlock_from ..) ?_ rfl
        exact a6
    clear_value x3
    with_reducible exact From.set_xlat hx3 _ rfl
  · rename_i y7 e8
    exact hF

theorem releaseEmpty_from {s : State} (c : Nat) : From 2233382993920 s (releaseEmpty s c) := by
  unfold releaseEmpty
  have hF : From 2233382993920 s s := From.refl _ _
  refine From.foldl ?_ ?_ _
  · exact hF
  · intro a0 a1 a2
    refine From.step (releaseStripe_from ..) ?_ rfl
    exact a2

theorem openStripe_from {s : State} {c id : Nat} {t : State} (e : openStripe s c = some (id, t)) : From 2233382993920 s t := by
  have hF : From 2233382993920 s s := From.refl _ _
  unfold openStripe at e
  extract_lets d g at e
  clear_value g
  split at e
  · split at e
    · exact absurd e (by simp)
    · split at e
      rename_i e2
      simp only [Option.some.injEq, Prod.mk.injEq] at e
      obtain ⟨-, rfl⟩ := e
      refine From.same 2199023255552 (From.fst e2 (From.foldl_fst (fun p b h => ?_) _ hF)) rfl rfl rfl
      dsimp only
      split
      · exact From.step (takeBlock_from _ _ _ _) h rfl
      · exact h
  · exact absurd e (by simp)

theorem placePage_from {s : State} {c bytes : Nat} {l : PLoc} {t : State} (e : placePage s c bytes = some (l, t)) :
    From 2233382993920 s t := by
  have hF : From 2233382993920 s s := From.refl _ _
  unfold placePage at e
  extract_lets found at e
  have key : ∀ id x u, found = some (id, x, u) → From 2233382993920 s u := by
    intro id x u hu
    subst found
    split at hu
    · simp only [Option.some.injEq, Prod.mk.injEq] at hu
      exact hu.2.2 ▸ hF
    · simp only [Option.bind_eq_some_iff, Option.map_eq_some_iff] at hu
      obtain ⟨r, hr, y, -, h3⟩ := hu
      simp only [Prod.mk.injEq] at h3
      exact h3.2.2 ▸ From.step (openStripe_from hr) (From.step (releaseEmpty_from _) hF rfl) rfl
  clear_value found
  split at e
  · have hu := key _ _ _ rfl
    dsimp only at e
    split at e
    all_goals
      simp only [Option.some.injEq, Prod.mk.injEq] at e
      obtain ⟨-, rfl⟩ := e
    · refine From.foldl ?_ ?_ _
      · exact From.same 2199023255552 hu (by with_reducible rfl) rfl rfl
      · intro u b h
        exact From.step (modBlock_from _ _ _) h rfl
    · exact From.same 2199023255552 hu (by with_reducible rfl) rfl rfl
  · exact absurd e (by simp)

theorem mapTouch_from {s : State} (page : Nat) : From 2199023255552 s (mapTouch s page) := by
  unfold mapTouch
  have hF : From 2199023255552 s s := From.refl _ _
  extract_lets +onlyGivenNames x0
  clear_value x0
  extract_lets +onlyGivenNames x1
  clear_value x1
  extract_lets +onlyGivenNames x2
  clear_value x2
  split
  · rename_i y3 y4 e5
    with_reducible exact From.set_xlat hF _ rfl
  · rename_i y6 e7
    with_reducible exact From.set_xlat hF _ rfl

theorem mapChanged_from {s : State} (page : Nat) : From 2199023255552 s (mapChanged s page) := by
  unfold mapChanged
  have hF : From 2199023255552 s s := From.refl _ _
  split
  · rename_i e0
    split
    · rename_i e1
      exact hF
    · rename_i e2
      with_reducible exact From.set_xlat hF _ rfl
  · rename_i e3
    extract_lets +onlyGivenNames x4
    have hx4 : From 2199023255552 s x4 := by
      subst x4
      refine From.step (mapTouch_from ..) ?_ rfl
      exact hF
    clear_value x4
    split
    · rename_i e5
      exact hx4
    · rename_i e6
      with_reducible exact From.set_xlat hx4 _ rfl

theorem storeBlock_from {s : State} (nsid lba : Nat) (b : Block) : From 50331648 s (storeBlock s nsid lba b) := by
  unfold storeBlock
  have hF : From 50331648 s s := From.refl _ _
  extract_lets +onlyGivenNames x0
  clear_value x0
  refine From.upd 50331648 (hF) rfl rfl ?_ ?_ ?_ ?_ ?_ ?_ ?_ ?_ ?_ ?_ ?_ ?_ ?_ ?_ ?_ ?_ ?_ ?_ ?_
  all_goals with_reducible first | exact id | exact fun _ => Assoc.wf_nil | exact fun _ => From.nil_le | exact fun _ => From.sixteen | (intro w; repeat' first | exact w | exact From.nil_le | exact Assoc.wf_nil | split | apply Assoc.wf_foldl (fun m b w => Assoc.wf_put w) | apply Assoc.wf_put | apply Assoc.wf_upd | apply Assoc.wf_updD | apply Assoc.wf_del | apply Assoc.wf_keep | apply Assoc.wf_mapVal)

theorem clearBlocks_from {s : State} (nsid lba nlb : Nat) : From 50331648 s (clearBlocks s nsid lba nlb) := by
  unfold clearBlocks
  have hF : From 50331648 s s := From.refl _ _
  extract_lets +onlyGivenNames x0
  subst x0
  dsimp -zeta only
  refine From.upd 50331648 (hF) rfl rfl ?_ ?_ ?_ ?_ ?_ ?_ ?_ ?_ ?_ ?_ ?_ ?_ ?_ ?_ ?_ ?_ ?_ ?_ ?_
  all_goals with_reducible first | exact id | exact fun _ => Assoc.wf_nil | exact fun _ => From.nil_le | exact fun _ => From.sixteen | (intro w; repeat' first | exact w | exact From.nil_le | exact Assoc.wf_nil | split | apply Assoc.wf_foldl (fun m b w => Assoc.wf_put w) | apply Assoc.wf_put | apply Assoc.wf_upd | apply Assoc.wf_updD | apply Assoc.wf_del | apply Assoc.wf_keep | apply Assoc.wf_mapVal)

theorem compressorCharge_from {s : State} (n : Nat) : From 2268885288706 s (compressorCharge s n) := by
  unfold compressorCharge
  have hF : From 2268885288706 s s := From.refl _ _
  extract_lets +onlyGivenNames x0
  clear_value x0
  extract_lets +onlyGivenNames x1
  clear_value x1
  extract_lets +onlyGivenNames x2
  have hx2 : From 2268885288706 s x2 := by
    subst x2
    with_reducible exact From.set_comp hF _ rfl
  clear_value x2
  split
  · rename_i e3
    extract_lets +onlyGivenNames x4
    have hx4 : From 2268885288706 s x4 := by
      subst x4
      refine From.step (setV_from ..) ?_ rfl
      exact hx2
    clear_value x4
    extract_lets +onlyGivenNames x5
    have hx5 : From 2268885288706 s x5 := by
      subst x5
      refine From.step (setV_from ..) ?_ rfl
      exact hx4
    clear_value x5
    extract_lets +onlyGivenNames x6
    have hx6 : From 2268885288706 s x6 := by
      subst x6
      refine From.step (eventU_from ..) ?_ rfl
      exact hx5
    clear_value x6
    split
    · rename_i e7
      refine From.step (event_from ..) ?_ rfl
      refine From.step (aenPfs_from ..) ?_ rfl
      with_reducible exact From.set_xlat hx6 _ rfl
    · rename_i e8
      exact hx6
  · rename_i e9
    exact hx2

theorem countFrame_from {s : State} (kind len stored cause : Nat) : From 2 s (countFrame s kind len stored cause) := by
  unfold countFrame
  have hF : From 2 s s := From.refl _ _
  extract_lets +onlyGivenNames x0
  have hx0 : From 2 s x0 := by
    subst x0
    refine From.step (bump64_from ..) ?_ rfl
    exact hF
  clear_value x0
  extract_lets +onlyGivenNames x1
  have hx1 : From 2 s x1 := by
    subst x1
    split
    · rename_i e2
      refine From.step (bump64_from ..) ?_ rfl
      exact hx0
    · rename_i e3
      split
      · rename_i e4
        refine From.step (bump64_from ..) ?_ rfl
        exact hx0
      · rename_i e5
        exact hx0
  clear_value x1
  extract_lets +onlyGivenNames x6
  have hx6 : From 2 s x6 := by
    subst x6
    refine From.step (bump_from ..) ?_ rfl
    refine From.step (bump_from ..) ?_ rfl
    exact hx1
  clear_value x6
  split
  · rename_i e7
    exact hx6
  · rename_i e8
    refine From.step (bump64_from ..) ?_ rfl
    exact hx6

theorem closeUnit_from {s : State} (zk cause : Nat) : From 2234533938946 s (closeUnit s zk cause) := by
  unfold closeUnit
  have hF : From 2234533938946 s s := From.refl _ _
  extract_lets +onlyGivenNames x0
  clear_value x0
  split
  · rename_i y1 y2 y3 y4 e5 e6
    split
    · rename_i e7
      refine From.step (modZone_from ..) ?_ rfl
      exact hF
    · rename_i e8
      extract_lets +onlyGivenNames x9
      clear_value x9
      split
      · rename_i y10 y11 y12 e13
        extract_lets +onlyGivenNames x14
        clear_value x14
        extract_lets +onlyGivenNames x15
        have hx15 : From 2234533938946 s x15 := by
          subst x15
          refine From.step (allocTo_from ..) ?_ rfl
          exact hF
        clear_value x15
        extract_lets +onlyGivenNames x16
        clear_value x16
        extract_lets +onlyGivenNames x17
        have hx17 : From 2234533938946 s x17 := by
          subst x17
          refine From.step (modZone_from ..) ?_ rfl
          exact hx15
        clear_value x17
        extract_lets +onlyGivenNames x18
        clear_value x18
        extract_lets +onlyGivenNames x19
        have hx19 : From 2234533938946 s x19 := by
          subst x19
          refine From.step (wbAdd_from ..) ?_ rfl
          exact hx17
        clear_value x19
        extract_lets +onlyGivenNames x20
        have hx20 : From 2234533938946 s x20 := by
          subst x20
          refine From.step (mapChanged_from ..) ?_ rfl
          refine From.step (countFrame_from ..) ?_ rfl
          exact hx19
        clear_value x20
        refine From.step (capCheck_from ..) ?_ rfl
        exact hx20
  · rename_i y21 y22 e23
    exact hF

theorem addPiece_from {s : State} (zk start : Nat) (bs : Bytes) (sc compressor gen : Nat) : From 8388608 s (addPiece s zk start bs sc compressor gen) := by
  unfold addPiece
  have hF : From 8388608 s s := From.refl _ _
  refine From.step (modZone_from ..) ?_ rfl
  exact hF

theorem cutUnits_from {s : State} (cause : Nat) (sel : Nat → Zone → Bool) : From 2234533938946 s (cutUnits s cause sel) := by
  unfold cutUnits
  have hF : From 2234533938946 s s := From.refl _ _
  refine From.foldl ?_ ?_ _
  · exact hF
  · intro a0 a1 a2
    refine From.step (closeUnit_from ..) ?_ rfl
    exact a2

theorem dropUnit_from {s : State} (zk : Nat) : From 8388608 s (dropUnit s zk) := by
  unfold dropUnit
  have hF : From 8388608 s s := From.refl _ _
  refine From.step (modZone_from ..) ?_ rfl
  exact hF

theorem sqTail_from {s : State} (fn qid value : Nat) : From 1142818306 s (sqTail s fn qid value) := by
  unfold sqTail
  have hF : From 1142818306 s s := From.refl _ _
  split
  · rename_i y0 e1
    refine From.step (aen_from ..) ?_ rfl
    exact hF
  · rename_i y2 y3 e4
    split
    · rename_i e5
      refine From.step (aen_from ..) ?_ rfl
      exact hF
    · rename_i e6
      refine From.upd 262144 (hF) rfl rfl ?_ ?_ ?_ ?_ ?_ ?_ ?_ ?_ ?_ ?_ ?_ ?_ ?_ ?_ ?_ ?_ ?_ ?_ ?_
      all_goals with_reducible first | exact id | exact fun _ => Assoc.wf_nil | exact fun _ => From.nil_le | exact fun _ => From.sixteen | (intro w; repeat' first | exact w | exact From.nil_le | exact Assoc.wf_nil | split | apply Assoc.wf_foldl (fun m b w => Assoc.wf_put w) | apply Assoc.wf_put | apply Assoc.wf_upd | apply Assoc.wf_updD | apply Assoc.wf_del | apply Assoc.wf_keep | apply Assoc.wf_mapVal)

theorem postHeld_from {s : State} (n fn qid : Nat) : From 1141374976 s (postHeld n s fn qid) := by
  induction n generalizing s with
  | zero => exact From.refl _ _
  | succ n ih =>
    have hF : From 1141374976 s s := From.refl _ _
    simp only [postHeld]
    split
    · split
      · exact hF
      · refine From.step ih ?_ rfl
        have h0 : From 1141374976 s { s with cqs := s.cqs.put (qkey fn qid) { cqOf s fn qid with held := [] } } :=
          From.upd 524288 hF rfl rfl id id id Assoc.wf_put id id id id id id id id id id id id id id id
        have h1 := From.step (postCqe_from fn qid ‹Cqe›) h0 (m := 1141374976) rfl
        exact From.upd 524288 h1 rfl rfl id id id Assoc.wf_upd id id id id id id id id id id id id id id id
    · exact hF

theorem cqHead_from {s : State} (fn qid value : Nat) : From 1142556162 s (cqHead s fn qid value) := by
  unfold cqHead
  have hF : From 1142556162 s s := From.refl _ _
  split
  · rename_i y0 e1
    refine From.step (aen_from ..) ?_ rfl
    exact hF
  · rename_i y2 y3 e4
    split
    · rename_i e5
      refine From.step (aen_from ..) ?_ rfl
      exact hF
    · rename_i e6
      extract_lets +onlyGivenNames x7
      clear_value x7
      extract_lets +onlyGivenNames x8
      clear_value x8
      refine From.step (postHeld_from ..) ?_ rfl
      refine From.upd 524288 (hF) rfl rfl ?_ ?_ ?_ ?_ ?_ ?_ ?_ ?_ ?_ ?_ ?_ ?_ ?_ ?_ ?_ ?_ ?_ ?_ ?_
      all_goals with_reducible first | exact id | exact fun _ => Assoc.wf_nil | exact fun _ => From.nil_le | exact fun _ => From.sixteen | (intro w; repeat' first | exact w | exact From.nil_le | exact Assoc.wf_nil | split | apply Assoc.wf_foldl (fun m b w => Assoc.wf_put w) | apply Assoc.wf_put | apply Assoc.wf_upd | apply Assoc.wf_updD | apply Assoc.wf_del | apply Assoc.wf_keep | apply Assoc.wf_mapVal)

theorem execCqHeadDoorbell_from (fn qid value : Nat) {s : State} : FromO 1142556162 s (execCqHeadDoorbell fn qid value s) := by
  unfold execCqHeadDoorbell
  have hF : From 1142556162 s s := From.refl _ _
  refine FromO.next ?_
  refine From.step (cqHead_from ..) ?_ rfl
  exact hF

theorem execInterruptAggregationTime_from (fn cqid : Nat) {s : State} : FromO 1074266112 s (execInterruptAggregationTime fn cqid s) := by
  unfold execInterruptAggregationTime
  have hF : From 1074266112 s s := From.refl _ _
  extract_lets +onlyGivenNames x0
  clear_value x0
  refine FromO.next ?_
  split
  · rename_i e1
    refine From.step (msixSend_from ..) ?_ rfl
    refine From.upd 524288 (hF) rfl rfl ?_ ?_ ?_ ?_ ?_ ?_ ?_ ?_ ?_ ?_ ?_ ?_ ?_ ?_ ?_ ?_ ?_ ?_ ?_
    all_goals with_reducible first | exact id | exact fun _ => Assoc.wf_nil | exact fun _ => From.nil_le | exact fun _ => From.sixteen | (intro w; repeat' first | exact w | exact From.nil_le | exact Assoc.wf_nil | split | apply Assoc.wf_foldl (fun m b w => Assoc.wf_put w) | apply Assoc.wf_put | apply Assoc.wf_upd | apply Assoc.wf_updD | apply Assoc.wf_del | apply Assoc.wf_keep | apply Assoc.wf_mapVal)
  · rename_i e2
    exact hF

theorem poolUnitFreed_from {s : State} (p : Nat) : From 9437184 s (poolUnitFreed s p) := by
  unfold poolUnitFreed
  have hF : From 9437184 s s := From.refl _ _
  extract_lets +onlyGivenNames x0
  clear_value x0
  split
  · rename_i y1 y2
    refine From.upd 8388608 (hF) rfl rfl ?_ ?_ ?_ ?_ ?_ ?_ ?_ ?_ ?_ ?_ ?_ ?_ ?_ ?_ ?_ ?_ ?_ ?_ ?_
    all_goals with_reducible first | exact id | exact fun _ => Assoc.wf_nil | exact fun _ => From.nil_le | exact fun _ => From.sixteen | (intro w; repeat' first | exact w | exact From.nil_le | exact Assoc.wf_nil | split | apply Assoc.wf_foldl (fun m b w => Assoc.wf_put w) | apply Assoc.wf_put | apply Assoc.wf_upd | apply Assoc.wf_updD | apply Assoc.wf_del | apply Assoc.wf_keep | apply Assoc.wf_mapVal)
  · rename_i y3
    split
    · rename_i y4 y5 e6
      split
      · rename_i e7
        refine From.step (modFlight_from ..) ?_ rfl
        exact hF
      · rename_i e8
        exact hF
    · rename_i y9 e10
      exact hF

theorem fetchNow_from {s : State} (fn qid : Nat) (urgent : Bool) (e : SqEntry) : From 3146242 s (fetchNow s fn qid urgent e) := by
  unfold fetchNow
  have hF : From 3146242 s s := From.refl _ _
  extract_lets +onlyGivenNames x0
  clear_value x0
  extract_lets +onlyGivenNames x1
  clear_value x1
  extract_lets +onlyGivenNames x2
  clear_value x2
  extract_lets +onlyGivenNames x3
  clear_value x3
  extract_lets +onlyGivenNames x4
  have hx4 : From 3146242 s x4 := by
    subst x4
    refine From.foldl ?_ ?_ _
    · exact hF
    · intro a5 a6 a7
      refine From.step (bump32_from ..) ?_ rfl
      exact a7
  clear_value x4
  extract_lets +onlyGivenNames x8
  have hx8 : From 3146242 s x8 := by
    subst x8
    refine From.step (traceItem_from ..) ?_ rfl
    exact hx4
  clear_value x8
  exact From.same 3145728 hx8 (by with_reducible rfl) rfl rfl

theorem sqAdvance_from {s : State} (fn qid : Nat) : From 262144 s (sqAdvance s fn qid) := by
  unfold sqAdvance
  have hF : From 262144 s s := From.refl _ _
  refine From.upd 262144 (hF) rfl rfl ?_ ?_ ?_ ?_ ?_ ?_ ?_ ?_ ?_ ?_ ?_ ?_ ?_ ?_ ?_ ?_ ?_ ?_ ?_
  all_goals with_reducible first | exact id | exact fun _ => Assoc.wf_nil | exact fun _ => From.nil_le | exact fun _ => From.sixteen | (intro w; repeat' first | exact w | exact From.nil_le | exact Assoc.wf_nil | split | apply Assoc.wf_foldl (fun m b w => Assoc.wf_put w) | apply Assoc.wf_put | apply Assoc.wf_upd | apply Assoc.wf_updD | apply Assoc.wf_del | apply Assoc.wf_keep | apply Assoc.wf_mapVal)

theorem touchCtx_from {s : State} (k : Nat) : From 2097152 s (touchCtx s k) := by
  unfold touchCtx
  have hF : From 2097152 s s := From.refl _ _
  with_reducible exact From.set_eng hF _ rfl

theorem takeEntry_from {s : State} (fn qid : Nat) (urgent : Bool) (e : SqEntry) : From 3408386 s (takeEntry s fn qid urgent e) := by
  unfold takeEntry
  have hF : From 3408386 s s := From.refl _ _
  extract_lets +onlyGivenNames x0
  have hx0 : From 3408386 s x0 := by
    subst x0
    refine From.step (sqAdvance_from ..) ?_ rfl
    refine From.step (touchCtx_from ..) ?_ rfl
    exact hF
  clear_value x0
  split
  · rename_i e1
    with_reducible exact From.set_eng hx0 _ rfl
  · rename_i e2
    refine From.step (fetchNow_from ..) ?_ rfl
    exact hx0

theorem qctxFill_from {s : State} (fn sqid : Nat) : From 3408386 s (qctxFill s fn sqid) := by
  unfold qctxFill
  have hF : From 3408386 s s := From.refl _ _
  split
  · rename_i y0 e1
    exact hF
  · rename_i y2 y3 y4 y5 e6
    extract_lets +onlyGivenNames x7
    clear_value x7
    extract_lets +onlyGivenNames x8
    have hx8 : From 3408386 s x8 := by
      subst x8
      with_reducible exact From.set_eng hF _ rfl
    clear_value x8
    extract_lets +onlyGivenNames x9
    clear_value x9
    extract_lets +onlyGivenNames x10
    have hx10 : From 3408386 s x10 := by
      subst x10
      split
      · rename_i e11
        split
        · rename_i y12 y13 e14
          with_reducible exact From.set_eng hx8 _ rfl
        · rename_i y15 e16
          exact hx8
      · rename_i e17
        exact hx8
    clear_value x10
    refine From.step (takeEntry_from ..) ?_ rfl
    exact hx10

theorem execQctxFill_from (fn sqid : Nat) {s : State} : FromO 3408386 s (execQctxFill fn sqid s) := by
  unfold execQctxFill
  have hF : From 3408386 s s := From.refl _ _
  refine FromO.next ?_
  refine From.step (qctxFill_from ..) ?_ rfl
  exact hF

theorem grant_from {s : State} (fn qid : Nat) (urgent : Bool) (e : SqEntry) : From 3408386 s (grant s fn qid urgent e) := by
  unfold grant
  have hF : From 3408386 s s := From.refl _ _
  extract_lets +onlyGivenNames x0
  clear_value x0
  extract_lets +onlyGivenNames x1
  have hx1 : From 3408386 s x1 := by
    subst x1
    refine From.step (bump64_from ..) ?_ rfl
    with_reducible exact From.set_eng hF _ rfl
  clear_value x1
  extract_lets +onlyGivenNames x2
  clear_value x2
  split
  · rename_i e3
    refine From.step (takeEntry_from ..) ?_ rfl
    exact hx1
  · rename_i e4
    refine From.step (bump64_from ..) ?_ rfl
    with_reducible exact From.set_eng hx1 _ rfl

theorem arbitrate_from {s : State} (e : SqEntry) : From 3539458 s (arbitrate s e) := by
  unfold arbitrate
  have hF : From 3539458 s s := From.refl _ _
  extract_lets +onlyGivenNames x0
  clear_value x0
  split
  · rename_i y1 y2 y3 e4
    extract_lets +onlyGivenNames x5
    extract_lets +onlyGivenNames x6
    clear_value x6
    extract_lets +onlyGivenNames x7
    have hx7 : From 3539458 s x7 := by
      subst x7
      with_reducible exact From.set_eng hF _ rfl
    clear_value x7
    extract_lets +onlyGivenNames x8
    have hx8 : From 3539458 s x8 := by
      subst x8
      refine From.step (modInst_from ..) ?_ rfl
      exact hx7
    clear_value x8
    refine From.step (grant_from ..) ?_ rfl
    exact hx8
  · rename_i y9 e10
    split
    · rename_i y11 e12
      exact hF
    · rename_i y13 y14 e15
      split
      · rename_i y16 e17
        exact hF
      · rename_i y18 y19 y20 e21
        extract_lets +onlyGivenNames x22
        extract_lets +onlyGivenNames x23
        extract_lets +onlyGivenNames x24
        have hx24 : From 3539458 s x24 := by
          subst x24
          split
          · rename_i e25
            refine From.step (bump32_from ..) ?_ rfl
            exact hF
          · rename_i e26
            exact hF
        clear_value x24
        extract_lets +onlyGivenNames x27
        have hx27 : From 3539458 s x27 := by
          subst x27
          refine From.step (modInst_from ..) ?_ rfl
          exact hx24
        clear_value x27
        refine From.step (grant_from ..) ?_ rfl
        exact hx27

theorem deleteSq_from {s : State} (c : Cmd) (qid : Nat) (unfetched : List Nat) : From 1144915458 s (deleteSq s c qid unfetched) := by
  unfold deleteSq
  have hF : From 1144915458 s s := From.refl _ _
  split
  · rename_i y0 e1
    refine From.step (complete_from ..) ?_ rfl
    exact hF
  · rename_i y2 y3 e4
    split
    · rename_i e5
      refine From.step (complete_from ..) ?_ rfl
      exact hF
    · rename_i e6
      extract_lets +onlyGivenNames x7
      clear_value x7
      extract_lets +onlyGivenNames x8
      have hx8 : From 1144915458 s x8 := by
        subst x8
        refine From.foldl ?_ ?_ _
        · exact hF
        · intro a9 a10 a11
          refine From.step (postCqe_from ..) ?_ rfl
          exact a11
      clear_value x8
      extract_lets +onlyGivenNames x12
      clear_value x12
      extract_lets +onlyGivenNames x13
      have hx13 : From 1144915458 s x13 := by
        subst x13
        refine From.upd 2359296 (hx8) rfl rfl ?_ ?_ ?_ ?_ ?_ ?_ ?_ ?_ ?_ ?_ ?_ ?_ ?_ ?_ ?_ ?_ ?_ ?_ ?_
        all_goals with_reducible first | exact id | exact fun _ => Assoc.wf_nil | exact fun _ => From.nil_le | exact fun _ => From.sixteen | (intro w; repeat' first | exact w | exact From.nil_le | exact Assoc.wf_nil | split | apply Assoc.wf_foldl (fun m b w => Assoc.wf_put w) | apply Assoc.wf_put | apply Assoc.wf_upd | apply Assoc.wf_updD | apply Assoc.wf_del | apply Assoc.wf_keep | apply Assoc.wf_mapVal)
      clear_value x13
      refine From.step (complete_from ..) ?_ rfl
      exact hx13

theorem execDeleteIoSubmissionQueue_from (c : Cmd) (qid : Nat) (unfetched : List Nat) {s : State} : FromO 1144915458 s (execDeleteIoSubmissionQueue c qid unfetched s) := by
  unfold execDeleteIoSubmissionQueue
  have hF : From 1144915458 s s := From.refl _ _
  refine FromO.next ?_
  refine From.step (deleteSq_from ..) ?_ rfl
  exact hF

theorem createSq_from {s : State} (c : Cmd) (qid qsize cqid qprio : Nat) (pc : Bool) : From 1142818306 s (createSq s c qid qsize cqid qprio pc) := by
  unfold createSq
  have hF : From 1142818306 s s := From.refl _ _
  extract_lets +onlyGivenNames x0
  clear_value x0
  extract_lets +onlyGivenNames x1
  have hx1 : From 1142818306 s x1 := by
    subst x1
    split
    · rename_i e2
      refine From.upd 262144 (hF) rfl rfl ?_ ?_ ?_ ?_ ?_ ?_ ?_ ?_ ?_ ?_ ?_ ?_ ?_ ?_ ?_ ?_ ?_ ?_ ?_
      all_goals with_reducible first | exact id | exact fun _ => Assoc.wf_nil | exact fun _ => From.nil_le | exact fun _ => From.sixteen | (intro w; repeat' first | exact w | exact From.nil_le | exact Assoc.wf_nil | split | apply Assoc.wf_foldl (fun m b w => Assoc.wf_put w) | apply Assoc.wf_put | apply Assoc.wf_upd | apply Assoc.wf_updD | apply Assoc.wf_del | apply Assoc.wf_keep | apply Assoc.wf_mapVal)
    · rename_i e3
      exact hF
  clear_value x1
  refine From.step (complete_from ..) ?_ rfl
  exact hx1

theorem execCreateIoSubmissionQueue_from (c : Cmd) (qid qsize cqid qprio : Nat) (pc : Bool) {s : State} : FromO 1142818306 s (execCreateIoSubmissionQueue c qid qsize cqid qprio pc s) := by
  unfold execCreateIoSubmissionQueue
  have hF : From 1142818306 s s := From.refl _ _
  refine FromO.next ?_
  refine From.step (createSq_from ..) ?_ rfl
  exact hF

theorem deleteCq_from {s : State} (c : Cmd) (qid : Nat) : From 1142556162 s (deleteCq s c qid) := by
  unfold deleteCq
  have hF : From 1142556162 s s := From.refl _ _
  split
  · rename_i e0
    refine From.step (complete_from ..) ?_ rfl
    exact hF
  · rename_i e1
    split
    · rename_i e2
      refine From.step (complete_from ..) ?_ rfl
      exact hF
    · rename_i e3
      split
      · rename_i e4
        refine From.step (complete_from ..) ?_ rfl
        exact hF
      · rename_i e5
        refine From.step (complete_from ..) ?_ rfl
        refine From.upd 524288 (hF) rfl rfl ?_ ?_ ?_ ?_ ?_ ?_ ?_ ?_ ?_ ?_ ?_ ?_ ?_ ?_ ?_ ?_ ?_ ?_ ?_
        all_goals with_reducible first | exact id | exact fun _ => Assoc.wf_nil | exact fun _ => From.nil_le | exact fun _ => From.sixteen | (intro w; repeat' first | exact w | exact From.nil_le | exact Assoc.wf_nil | split | apply Assoc.wf_foldl (fun m b w => Assoc.wf_put w) | apply Assoc.wf_put | apply Assoc.wf_upd | apply Assoc.wf_updD | apply Assoc.wf_del | apply Assoc.wf_keep | apply Assoc.wf_mapVal)

theorem execDeleteIoCompletionQueue_from (c : Cmd) (qid : Nat) {s : State} : FromO 1142556162 s (execDeleteIoCompletionQueue c qid s) := by
  unfold execDeleteIoCompletionQueue
  have hF : From 1142556162 s s := From.refl _ _
  refine FromO.next ?_
  refine From.step (deleteCq_from ..) ?_ rfl
  exact hF

theorem createCq_from {s : State} (c : Cmd) (qid qsize vector : Nat) (pc ien : Bool) : From 1142556162 s (createCq s c qid qsize vector pc ien) := by
  unfold createCq
  have hF : From 1142556162 s s := From.refl _ _
  extract_lets +onlyGivenNames x0
  clear_value x0
  extract_lets +onlyGivenNames x1
  clear_value x1
  extract_lets +onlyGivenNames x2
  clear_value x2
  extract_lets +onlyGivenNames x3
  have hx3 : From 1142556162 s x3 := by
    subst x3
    split
    · rename_i e4
      refine From.upd 524288 (hF) rfl rfl ?_ ?_ ?_ ?_ ?_ ?_ ?_ ?_ ?_ ?_ ?_ ?_ ?_ ?_ ?_ ?_ ?_ ?_ ?_
      all_goals with_reducible first | exact id | exact fun _ => Assoc.wf_nil | exact fun _ => From.nil_le | exact fun _ => From.sixteen | (intro w; repeat' first | exact w | exact From.nil_le | exact Assoc.wf_nil | split | apply Assoc.wf_foldl (fun m b w => Assoc.wf_put w) | apply Assoc.wf_put | apply Assoc.wf_upd | apply Assoc.wf_updD | apply Assoc.wf_del | apply Assoc.wf_keep | apply Assoc.wf_mapVal)
    · rename_i e5
      exact hF
  clear_value x3
  refine From.step (complete_from ..) ?_ rfl
  exact hx3

theorem execCreateIoCompletionQueue_from (c : Cmd) (qid qsize vector : Nat) (pc ien : Bool) {s : State} : FromO 1142556162 s (execCreateIoCompletionQueue c qid qsize vector pc ien s) := by
  unfold execCreateIoCompletionQueue
  have hF : From 1142556162 s s := From.refl _ _
  refine FromO.next ?_
  refine From.step (createCq_from ..) ?_ rfl
  exact hF

theorem setFeature_from {s : State} (c : Cmd) (f : Inst → Inst) : From 1142556162 s (setFeature s c f) := by
  unfold setFeature
  have hF : From 1142556162 s s := From.refl _ _
  split
  · rename_i e0
    refine From.step (complete_from ..) ?_ rfl
    exact hF
  · rename_i e1
    refine From.step (complete_from ..) ?_ rfl
    refine From.step (modInst_from ..) ?_ rfl
    exact hF

theorem setArbitration_from {s : State} (c : Cmd) (ab lpw mpw hpw : Nat) : From 1142556210 s (setArbitration s c ab lpw mpw hpw) := by
  unfold setArbitration
  have hF : From 1142556210 s s := From.refl _ _
  extract_lets +onlyGivenNames x0
  clear_value x0
  split
  · rename_i e1
    refine From.step (complete_from ..) ?_ rfl
    exact hF
  · rename_i e2
    split
    · rename_i e3
      refine From.step (complete_from ..) ?_ rfl
      exact hF
    · rename_i e4
      refine From.step (complete_from ..) ?_ rfl
      refine From.step (stageAt_from ..) ?_ rfl
      exact hF

theorem execSetArbitration_from (c : Cmd) (ab lpw mpw hpw : Nat) {s : State} : FromO 1142556210 s (execSetArbitration c ab lpw mpw hpw s) := by
  unfold execSetArbitration
  have hF : From 1142556210 s s := From.refl _ _
  refine FromO.next ?_
  refine From.step (setArbitration_from ..) ?_ rfl
  exact hF

theorem execSetNumberOfQueues_from (c : Cmd) (_ncqr _nsqr : Nat) {s : State} : FromO 1142556162 s (execSetNumberOfQueues c _ncqr _nsqr s) := by
  unfold execSetNumberOfQueues
  have hF : From 1142556162 s s := From.refl _ _
  refine FromO.next ?_
  split
  · rename_i e0
    refine From.step (complete_from ..) ?_ rfl
    exact hF
  · rename_i e1
    refine From.step (complete_from ..) ?_ rfl
    exact hF

theorem execSetInterruptCoalescing_from (c : Cmd) (time thr : Nat) {s : State} : FromO 1142556162 s (execSetInterruptCoalescing c time thr s) := by
  unfold execSetInterruptCoalescing
  have hF : From 1142556162 s s := From.refl _ _
  refine FromO.next ?_
  refine From.step (setFeature_from ..) ?_ rfl
  exact hF

theorem setVectorConfig_from {s : State} (c : Cmd) (vector : Nat) (cd : Bool) : From 1142556162 s (setVectorConfig s c vector cd) := by
  unfold setVectorConfig
  have hF : From 1142556162 s s := From.refl _ _
  split
  · rename_i e0
    refine From.step (complete_from ..) ?_ rfl
    exact hF
  · rename_i e1
    refine From.step (setFeature_from ..) ?_ rfl
    exact hF

theorem execSetInterruptVectorConfiguration_from (c : Cmd) (vector : Nat) (cd : Bool) {s : State} : FromO 1142556162 s (execSetInterruptVectorConfiguration c vector cd s) := by
  unfold execSetInterruptVectorConfiguration
  have hF : From 1142556162 s s := From.refl _ _
  refine FromO.next ?_
  refine From.step (setVectorConfig_from ..) ?_ rfl
  exact hF

theorem execSetAsyncEventConfiguration_from (c : Cmd) (bits : Nat) {s : State} : FromO 1142556162 s (execSetAsyncEventConfiguration c bits s) := by
  unfold execSetAsyncEventConfiguration
  have hF : From 1142556162 s s := From.refl _ _
  refine FromO.next ?_
  refine From.step (setFeature_from ..) ?_ rfl
  exact hF

theorem execSetHostBehaviorSupport_from (c : Cmd) (acre : Bool) {s : State} : FromO 1142556162 s (execSetHostBehaviorSupport c acre s) := by
  unfold execSetHostBehaviorSupport
  have hF : From 1142556162 s s := From.refl _ _
  refine FromO.next ?_
  refine From.step (setFeature_from ..) ?_ rfl
  exact hF

theorem asyncEventRequest_from {s : State} (c : Cmd) : From 1142556162 s (asyncEventRequest s c) := by
  unfold asyncEventRequest
  have hF : From 1142556162 s s := From.refl _ _
  split
  · rename_i e0
    refine From.step (complete_from ..) ?_ rfl
    exact hF
  · rename_i e1
    split
    · rename_i e2
      refine From.step (complete_from ..) ?_ rfl
      exact hF
    · rename_i e3
      refine From.step (carryAens_from ..) ?_ rfl
      refine From.step (modInst_from ..) ?_ rfl
      exact hF

theorem execAsynchronousEventRequest_from (c : Cmd) {s : State} : FromO 1142556162 s (execAsynchronousEventRequest c s) := by
  unfold execAsynchronousEventRequest
  have hF : From 1142556162 s s := From.refl _ _
  refine FromO.next ?_
  refine From.step (asyncEventRequest_from ..) ?_ rfl
  exact hF

end Sys2Proof.Machine
end

