-- ==== Sys2Proof/Laws/KeepMedia.lean ====
section
/-! SUPPORT. Laws/KeepMedia.lean: each operation of the zones, the data path, the scheduler, relocation, losses, the error correction and the buffers changes no part of the state outside its mask, leaves the queue
of commands as it is and keeps the forms and capacities of the stores (one lemma per operation). -/
namespace Sys2Proof.Machine
open Sys2Proof

theorem ensure_from {s : State} (c : Cmd) (opcode slba nlb : Nat) : From 3146242 s (ensure s c opcode slba nlb) := by
  unfold ensure
  have hF : From 3146242 s s := From.refl _ _
  split
  · rename_i y0 y1 e2
    exact hF
  · rename_i y3 e4
    extract_lets +onlyGivenNames x5
    have hx5 : From 3146242 s x5 := by
      subst x5
      refine From.step (fetchNow_from ..) ?_ rfl
      exact hF
    clear_value x5
    refine From.step (modFlight_from ..) ?_ rfl
    exact hx5

theorem keyFix_from {s : State} (tag : Nat) : From 536870912 s (keyFix s tag) := by
  unfold keyFix
  have hF : From 536870912 s s := From.refl _ _
  split
  · rename_i e0
    exact hF
  · rename_i e1
    split
    · rename_i y2 y3 e4
      refine From.upd 536870912 (hF) rfl rfl ?_ ?_ ?_ ?_ ?_ ?_ ?_ ?_ ?_ ?_ ?_ ?_ ?_ ?_ ?_ ?_ ?_ ?_ ?_
      all_goals with_reducible first | exact id | exact fun _ => Assoc.wf_nil | exact fun _ => From.nil_le | exact fun _ => From.sixteen | (intro w; repeat' first | exact w | exact From.nil_le | exact Assoc.wf_nil | split | apply Assoc.wf_foldl (fun m b w => Assoc.wf_put w) | apply Assoc.wf_put | apply Assoc.wf_upd | apply Assoc.wf_updD | apply Assoc.wf_del | apply Assoc.wf_keep | apply Assoc.wf_mapVal)
    · rename_i y5 e6
      exact hF

theorem keyUnfix_from {s : State} (tag : Option Nat) : From 536870912 s (keyUnfix s tag) := by
  unfold keyUnfix
  have hF : From 536870912 s s := From.refl _ _
  split
  · rename_i y0 y1
    split
    · rename_i e2
      exact hF
    · rename_i e3
      refine From.upd 536870912 (hF) rfl rfl ?_ ?_ ?_ ?_ ?_ ?_ ?_ ?_ ?_ ?_ ?_ ?_ ?_ ?_ ?_ ?_ ?_ ?_ ?_
      all_goals with_reducible first | exact id | exact fun _ => Assoc.wf_nil | exact fun _ => From.nil_le | exact fun _ => From.sixteen | (intro w; repeat' first | exact w | exact From.nil_le | exact Assoc.wf_nil | split | apply Assoc.wf_foldl (fun m b w => Assoc.wf_put w) | apply Assoc.wf_put | apply Assoc.wf_upd | apply Assoc.wf_updD | apply Assoc.wf_del | apply Assoc.wf_keep | apply Assoc.wf_mapVal)
  · rename_i y4
    exact hF

theorem openLimit_from {s : State} (z : Zone) : From 8388610 s (openLimit s z).2 := by
  unfold openLimit
  have hF : From 8388610 s s := From.refl _ _
  split
  · rename_i e0
    refine From.pair ?_
    exact hF
  · rename_i e1
    split
    · rename_i e2
      refine From.pair ?_
      exact hF
    · rename_i e3
      split
      · rename_i e4
        refine From.pair ?_
        exact hF
      · rename_i e5
        split
        · rename_i y6 y7 e8
          refine From.pair ?_
          refine From.step (bump32_from ..) ?_ rfl
          refine From.step (modZone_from ..) ?_ rfl
          exact hF
        · rename_i y9 e10
          refine From.pair ?_
          exact hF

theorem openSteps_from {s : State} (f : Flight) (n : Ns) (z : Zone) (dtype dspec : Nat) : From 8388610 s (openSteps s f n z dtype dspec).2.2 := by
  unfold openSteps
  have hF : From 8388610 s s := From.refl _ _
  extract_lets +onlyGivenNames x0
  clear_value x0
  extract_lets +onlyGivenNames x1
  clear_value x1
  split
  · rename_i y2 y3 y4 e5
    extract_lets +onlyGivenNames x6
    clear_value x6
    extract_lets +onlyGivenNames x7
    clear_value x7
    split
    · rename_i y8 e9
      split
      · rename_i y10 y11 y12 e13
        have h14 : From 8388610 s y12 := by
          refine From.snd e13 ?_
          refine From.step (openLimit_from ..) ?_ rfl
          exact hF
        refine From.pair ?_
        exact h14
    · rename_i y15 e16
      refine From.pair ?_
      exact hF

theorem openZone_from {s : State} (zk c : Nat) (st : ZState) : From 8388608 s (openZone s zk c st) := by
  unfold openZone
  have hF : From 8388608 s s := From.refl _ _
  extract_lets +onlyGivenNames x0
  clear_value x0
  split
  · rename_i e1
    extract_lets +onlyGivenNames x2
    clear_value x2
    refine From.step (modZone_from ..) ?_ rfl
    exact hF
  · rename_i e3
    refine From.step (modZone_from ..) ?_ rfl
    exact hF

theorem zoneCheck_from {s : State} (f : Flight) (zone : Nat) (append : Bool) (lba nlb dtype dspec : Nat) : From 2200711071490 s (zoneCheck s f zone append lba nlb dtype dspec).2.2 := by
  unfold zoneCheck
  have hF : From 2200711071490 s s := From.refl _ _
  extract_lets +onlyGivenNames x0
  clear_value x0
  extract_lets +onlyGivenNames x1
  clear_value x1
  extract_lets +onlyGivenNames x2
  clear_value x2
  extract_lets +onlyGivenNames x3
  clear_value x3
  extract_lets +onlyGivenNames x4
  clear_value x4
  split
  · rename_i y5 e6
    split
    · rename_i y7 y8 y9 e10
      have h11 : From 2200711071490 s y9 := by
        refine From.snd2 e10 ?_
        refine From.step (openSteps_from ..) ?_ rfl
        exact hF
      extract_lets +onlyGivenNames x12
      clear_value x12
      split
      · rename_i y13 y14 e15
        extract_lets +onlyGivenNames x16
        have hx16 : From 2200711071490 s x16 := by
          subst x16
          split
          · rename_i e17
            exact h11
          · rename_i e18
            refine From.step (openZone_from ..) ?_ rfl
            exact h11
        clear_value x16
        extract_lets +onlyGivenNames x19
        clear_value x19
        extract_lets +onlyGivenNames x20
        have hx20 : From 2200711071490 s x20 := by
          subst x20
          refine From.step (modZone_from ..) ?_ rfl
          exact hx16
        clear_value x20
        extract_lets +onlyGivenNames x21
        have hx21 : From 2200711071490 s x21 := by
          subst x21
          split
          · rename_i e22
            refine From.step (zoneChanged_from ..) ?_ rfl
            exact hx20
          · rename_i e23
            exact hx20
        clear_value x21
        refine From.pair ?_
        refine From.step (capCheck_from ..) ?_ rfl
        refine From.step (keyFix_from ..) ?_ rfl
        exact hx21
      · rename_i y24 e25
        refine From.pair ?_
        exact h11
    · rename_i y26 y27 y28 y29 e30 e31
      have h32 : From 2200711071490 s y29 := by
        refine From.snd2 e31 ?_
        refine From.step (openSteps_from ..) ?_ rfl
        exact hF
      refine From.pair ?_
      exact h32
  · rename_i y33 e34
    refine From.pair ?_
    exact hF

theorem zoneWriteFail_from {s : State} (f : Flight) : From 2200174200578 s (zoneWriteFail s f) := by
  unfold zoneWriteFail
  have hF : From 2200174200578 s s := From.refl _ _
  extract_lets +onlyGivenNames x0
  clear_value x0
  extract_lets +onlyGivenNames x1
  clear_value x1
  extract_lets +onlyGivenNames x2
  clear_value x2
  split
  · rename_i y3 e4
    exact hF
  · rename_i y5 y6 y7 y8 e9
    extract_lets +onlyGivenNames x10
    clear_value x10
    extract_lets +onlyGivenNames x11
    clear_value x11
    extract_lets +onlyGivenNames x12
    clear_value x12
    extract_lets +onlyGivenNames x13
    have hx13 : From 2200174200578 s x13 := by
      subst x13
      refine From.step (modZone_from ..) ?_ rfl
      exact hF
    clear_value x13
    refine From.step (capCheck_from ..) ?_ rfl
    refine From.foldl ?_ ?_ _
    · exact hx13
    · intro a14 a15 a16
      refine From.step (completeFlight_from ..) ?_ rfl
      exact a16

theorem closeBlocks_from {s : State} (zk : Nat) : From 34359738368 s (closeBlocks s zk) := by
  unfold closeBlocks
  have hF : From 34359738368 s s := From.refl _ _
  extract_lets +onlyGivenNames x0
  clear_value x0
  extract_lets +onlyGivenNames x1
  clear_value x1
  extract_lets +onlyGivenNames x2
  clear_value x2
  with_reducible exact From.set_nand hF _ rfl

theorem closeIfFull_from {s : State} (zk : Nat) : From 6631429505024 s (closeIfFull s zk) := by
  unfold closeIfFull
  have hF : From 6631429505024 s s := From.refl _ _
  extract_lets +onlyGivenNames x0
  clear_value x0
  split
  · rename_i e1
    refine From.step (releasePassed_from ..) ?_ rfl
    refine From.step (closeBlocks_from ..) ?_ rfl
    exact hF
  · rename_i e2
    exact hF

theorem finishZone_from {s : State} (zk : Nat) : From 6632580450050 s (finishZone s zk) := by
  unfold finishZone
  have hF : From 6632580450050 s s := From.refl _ _
  extract_lets +onlyGivenNames x0
  clear_value x0
  extract_lets +onlyGivenNames x1
  have hx1 : From 6632580450050 s x1 := by
    subst x1
    refine From.step (closeUnit_from ..) ?_ rfl
    exact hF
  clear_value x1
  extract_lets +onlyGivenNames x2
  have hx2 : From 6632580450050 s x2 := by
    subst x2
    refine From.step (modZone_from ..) ?_ rfl
    exact hx1
  clear_value x2
  refine From.step (capCheck_from ..) ?_ rfl
  refine From.step (releasePassed_from ..) ?_ rfl
  refine From.step (closeBlocks_from ..) ?_ rfl
  exact hx2

theorem resetZone_from {s : State} (zk : Nat) : From 2235121141506 s (resetZone s zk) := by
  unfold resetZone
  have hF : From 2235121141506 s s := From.refl _ _
  extract_lets +onlyGivenNames x0
  clear_value x0
  extract_lets +onlyGivenNames x1
  clear_value x1
  extract_lets +onlyGivenNames x2
  clear_value x2
  extract_lets +onlyGivenNames x3
  clear_value x3
  extract_lets +onlyGivenNames x4
  clear_value x4
  extract_lets +onlyGivenNames x5
  clear_value x5
  extract_lets +onlyGivenNames x6
  have hx6 : From 2235121141506 s x6 := by
    subst x6
    refine From.step (releaseZone_from ..) ?_ rfl
    exact hF
  clear_value x6
  extract_lets +onlyGivenNames x7
  have hx7 : From 2235121141506 s x7 := by
    subst x7
    refine From.step (unpoison_from ..) ?_ rfl
    refine From.step (wbDrop_from ..) ?_ rfl
    refine From.step (clearBlocks_from ..) ?_ rfl
    exact hx6
  clear_value x7
  extract_lets +onlyGivenNames x8
  have hx8 : From 2235121141506 s x8 := by
    subst x8
    refine From.step (modZone_from ..) ?_ rfl
    exact hx7
  clear_value x8
  extract_lets +onlyGivenNames x9
  have hx9 : From 2235121141506 s x9 := by
    subst x9
    split
    · rename_i e10
      refine From.step (mapChanged_from ..) ?_ rfl
      exact hx8
    · rename_i e11
      exact hx8
  clear_value x9
  refine From.step (capCheck_from ..) ?_ rfl
  refine From.step (atRiskClear_from ..) ?_ rfl
  refine From.step (keyUnfix_from ..) ?_ rfl
  exact hx9

theorem offlineZone_from {s : State} (zk c : Nat) : From 2235125335810 s (offlineZone s zk c) := by
  unfold offlineZone
  have hF : From 2235125335810 s s := From.refl _ _
  extract_lets +onlyGivenNames x0
  clear_value x0
  extract_lets +onlyGivenNames x1
  clear_value x1
  extract_lets +onlyGivenNames x2
  clear_value x2
  extract_lets +onlyGivenNames x3
  clear_value x3
  extract_lets +onlyGivenNames x4
  clear_value x4
  extract_lets +onlyGivenNames x5
  have hx5 : From 2235125335810 s x5 := by
    subst x5
    refine From.step (releaseZone_from ..) ?_ rfl
    exact hF
  clear_value x5
  extract_lets +onlyGivenNames x6
  have hx6 : From 2235125335810 s x6 := by
    subst x6
    refine From.step (wbDrop_from ..) ?_ rfl
    refine From.step (clearBlocks_from ..) ?_ rfl
    exact hx5
  clear_value x6
  extract_lets +onlyGivenNames x7
  have hx7 : From 2235125335810 s x7 := by
    subst x7
    refine From.step (modZone_from ..) ?_ rfl
    exact hx6
  clear_value x7
  extract_lets +onlyGivenNames x8
  have hx8 : From 2235125335810 s x8 := by
    subst x8
    refine From.upd 4194304 (hx7) rfl rfl ?_ ?_ ?_ ?_ ?_ ?_ ?_ ?_ ?_ ?_ ?_ ?_ ?_ ?_ ?_ ?_ ?_ ?_ ?_
    all_goals with_reducible first | exact id | exact fun _ => Assoc.wf_nil | exact fun _ => From.nil_le | exact fun _ => From.sixteen | (intro w; repeat' first | exact w | exact From.nil_le | exact Assoc.wf_nil | split | apply Assoc.wf_foldl (fun m b w => Assoc.wf_put w) | apply Assoc.wf_put | apply Assoc.wf_upd | apply Assoc.wf_updD | apply Assoc.wf_del | apply Assoc.wf_keep | apply Assoc.wf_mapVal)
  clear_value x8
  refine From.step (capCheck_from ..) ?_ rfl
  refine From.step (atRiskClear_from ..) ?_ rfl
  refine From.step (keyUnfix_from ..) ?_ rfl
  exact hx8

theorem openAction_from {s : State} (f : Flight) (zone : Nat) : From 8388610 s (openAction s f zone).2 := by
  unfold openAction
  have hF : From 8388610 s s := From.refl _ _
  extract_lets +onlyGivenNames x0
  clear_value x0
  extract_lets +onlyGivenNames x1
  clear_value x1
  extract_lets +onlyGivenNames x2
  clear_value x2
  split
  · rename_i e3
    refine From.pair ?_
    exact hF
  · rename_i e4
    split
    · rename_i y5 e6
      split
      · rename_i y7 y8 y9 e10
        have h11 : From 8388610 s y9 := by
          refine From.snd2 e10 ?_
          refine From.step (openSteps_from ..) ?_ rfl
          exact hF
        refine From.pair ?_
        refine From.step (openZone_from ..) ?_ rfl
        exact h11
      · rename_i y12 y13 y14 y15 e16 e17
        have h18 : From 8388610 s y15 := by
          refine From.snd2 e17 ?_
          refine From.step (openSteps_from ..) ?_ rfl
          exact hF
        refine From.pair ?_
        exact h18
    · rename_i y19 e20
      refine From.pair ?_
      exact hF

theorem actNow_from {s : State} (f : Flight) (a : ZAction) (zone : Nat) : From 2235125335810 s (actNow s f a zone).2 := by
  unfold actNow
  have hF : From 2235125335810 s s := From.refl _ _
  extract_lets +onlyGivenNames x0
  clear_value x0
  extract_lets +onlyGivenNames x1
  clear_value x1
  split
  · rename_i y2
    refine From.step (openAction_from ..) ?_ rfl
    exact hF
  · rename_i y3
    extract_lets +onlyGivenNames x4
    clear_value x4
    refine From.pair ?_
    split
    · rename_i e5
      refine From.step (modZone_from ..) ?_ rfl
      exact hF
    · rename_i e6
      exact hF
  · rename_i y7
    extract_lets +onlyGivenNames x8
    clear_value x8
    refine From.pair ?_
    split
    · rename_i e9
      refine From.step (offlineZone_from ..) ?_ rfl
      exact hF
    · rename_i e10
      exact hF
  · rename_i y11 e12 e13 e14
    refine From.pair ?_
    exact hF

theorem actDone_from {s : State} (zk seq act : Nat) : From 6633167652610 s (actDone s zk seq act) := by
  unfold actDone
  have hF : From 6633167652610 s s := From.refl _ _
  extract_lets +onlyGivenNames x0
  clear_value x0
  extract_lets +onlyGivenNames x1
  have hx1 : From 6633167652610 s x1 := by
    subst x1
    refine From.step (modZone_from ..) ?_ rfl
    exact hF
  clear_value x1
  extract_lets +onlyGivenNames x2
  clear_value x2
  extract_lets +onlyGivenNames x3
  clear_value x3
  split
  · rename_i y4 e5
    split
    · rename_i e6
      split
      · rename_i e7
        exact hx1
      · rename_i e8
        refine From.step (finishZone_from ..) ?_ rfl
        exact hx1
    · rename_i e9
      split
      · rename_i e10
        exact hx1
      · rename_i e11
        refine From.step (modZone_from ..) ?_ rfl
        refine From.step (resetZone_from ..) ?_ rfl
        exact hx1
  · rename_i y12 e13
    refine From.step (modFlight_from ..) ?_ rfl
    exact hx1

theorem zoneActNow_from {s : State} (c : Cmd) (a : ZAction) (slba : Nat) (all : Bool) : From 2235127432962 s (zoneActNow s c a slba all) := by
  unfold zoneActNow
  have hF : From 2235127432962 s s := From.refl _ _
  extract_lets +onlyGivenNames x0
  have hx0 : From 2235127432962 s x0 := by
    subst x0
    refine From.step (ensure_from ..) ?_ rfl
    exact hF
  clear_value x0
  extract_lets +onlyGivenNames x1
  clear_value x1
  split
  · rename_i y2 e3
    split
    · rename_i y4 y5 y6 e7
      have h8 : From 2235127432962 s y6 := by
        refine From.snd e7 ?_
        refine From.foldl_snd ?_ _ ?_
        · intro a9 a10 a11
          split
          · rename_i e12
            refine From.step (actNow_from ..) ?_ rfl
            exact a11
          · rename_i e13
            exact a11
        · refine From.pair ?_
          exact hx0
      refine From.step (completeFlight_from ..) ?_ rfl
      exact h8
  · rename_i y14 e15
    refine From.step (completeFlight_from ..) ?_ rfl
    exact hx0

theorem zoneActLater_from {s : State} (c : Cmd) (a : ZAction) (slba : Nat) (all : Bool) : From 1153041922 s (zoneActLater s c a slba all) := by
  unfold zoneActLater
  have hF : From 1153041922 s s := From.refl _ _
  extract_lets +onlyGivenNames x0
  have hx0 : From 1153041922 s x0 := by
    subst x0
    refine From.step (ensure_from ..) ?_ rfl
    exact hF
  clear_value x0
  extract_lets +onlyGivenNames x1
  clear_value x1
  split
  · rename_i y2 e3
    extract_lets +onlyGivenNames x4
    have hx4 : From 1153041922 s x4 := by
      subst x4
      refine From.step (modFlight_from ..) ?_ rfl
      exact hx0
    clear_value x4
    refine From.foldl ?_ ?_ _
    · exact hx4
    · intro a5 a6 a7
      refine From.step (modZone_from ..) ?_ rfl
      exact a7
  · rename_i y8 e9
    refine From.step (completeFlight_from ..) ?_ rfl
    exact hx0

theorem finishRecommended_from {s : State} (nsid zone : Nat) : From 1150944770 s (finishRecommended s nsid zone) := by
  unfold finishRecommended
  have hF : From 1150944770 s s := From.refl _ _
  extract_lets +onlyGivenNames x0
  clear_value x0
  extract_lets +onlyGivenNames x1
  clear_value x1
  extract_lets +onlyGivenNames x2
  clear_value x2
  split
  · rename_i e3
    refine From.step (zoneChanged_from ..) ?_ rfl
    refine From.step (modZone_from ..) ?_ rfl
    exact hF
  · rename_i e4
    exact hF

theorem execFinishZoneRecommended_from (nsid zone : Nat) {s : State} : FromO 1150944770 s (execFinishZoneRecommended nsid zone s) := by
  unfold execFinishZoneRecommended
  have hF : From 1150944770 s s := From.refl _ _
  refine FromO.next ?_
  refine From.step (finishRecommended_from ..) ?_ rfl
  exact hF

theorem finishedByController_from {s : State} (nsid zone : Nat) : From 6632580450050 s (finishedByController s nsid zone) := by
  unfold finishedByController
  have hF : From 6632580450050 s s := From.refl _ _
  extract_lets +onlyGivenNames x0
  clear_value x0
  extract_lets +onlyGivenNames x1
  clear_value x1
  split
  · rename_i e2
    extract_lets +onlyGivenNames x3
    have hx3 : From 6632580450050 s x3 := by
      subst x3
      refine From.step (finishZone_from ..) ?_ rfl
      exact hF
    clear_value x3
    refine From.step (zoneChanged_from ..) ?_ rfl
    refine From.step (zoneChanged_from ..) ?_ rfl
    refine From.step (modZone_from ..) ?_ rfl
    exact hx3
  · rename_i e4
    exact hF

theorem assignCove_from {s : State} (c : Cmd) (cove zslba : Nat) : From 1153041922 s (assignCove s c cove zslba) := by
  unfold assignCove
  have hF : From 1153041922 s s := From.refl _ _
  extract_lets +onlyGivenNames x0
  have hx0 : From 1153041922 s x0 := by
    subst x0
    refine From.step (ensure_from ..) ?_ rfl
    exact hF
  clear_value x0
  extract_lets +onlyGivenNames x1
  clear_value x1
  extract_lets +onlyGivenNames x2
  clear_value x2
  extract_lets +onlyGivenNames x3
  have hx3 : From 1153041922 s x3 := by
    subst x3
    split
    · rename_i e4
      refine From.step (modZone_from ..) ?_ rfl
      exact hx0
    · rename_i e5
      exact hx0
  clear_value x3
  refine From.step (completeFlight_from ..) ?_ rfl
  exact hx3

theorem execAssignCove_from (c : Cmd) (cove zslba : Nat) {s : State} : FromO 1153041922 s (execAssignCove c cove zslba s) := by
  unfold execAssignCove
  have hF : From 1153041922 s s := From.refl _ _
  refine FromO.next ?_
  refine From.step (assignCove_from ..) ?_ rfl
  exact hF

theorem enableDirective_from {s : State} (c : Cmd) (dtype : Nat) (enable : Bool) : From 1148847618 s (enableDirective s c dtype enable) := by
  unfold enableDirective
  have hF : From 1148847618 s s := From.refl _ _
  extract_lets +onlyGivenNames x0
  have hx0 : From 1148847618 s x0 := by
    subst x0
    refine From.step (ensure_from ..) ?_ rfl
    exact hF
  clear_value x0
  extract_lets +onlyGivenNames x1
  clear_value x1
  split
  · rename_i y2 e3
    split
    · rename_i e4
      refine From.step (completeFlight_from ..) ?_ rfl
      refine From.upd 4194304 (hx0) rfl rfl ?_ ?_ ?_ ?_ ?_ ?_ ?_ ?_ ?_ ?_ ?_ ?_ ?_ ?_ ?_ ?_ ?_ ?_ ?_
      all_goals with_reducible first | exact id | exact fun _ => Assoc.wf_nil | exact fun _ => From.nil_le | exact fun _ => From.sixteen | (intro w; repeat' first | exact w | exact From.nil_le | exact Assoc.wf_nil | split | apply Assoc.wf_foldl (fun m b w => Assoc.wf_put w) | apply Assoc.wf_put | apply Assoc.wf_upd | apply Assoc.wf_updD | apply Assoc.wf_del | apply Assoc.wf_keep | apply Assoc.wf_mapVal)
    · rename_i e5
      refine From.step (completeFlight_from ..) ?_ rfl
      exact hx0
  · rename_i y6 e7
    refine From.step (completeFlight_from ..) ?_ rfl
    exact hx0

theorem execEnableDirective_from (c : Cmd) (dtype : Nat) (enable : Bool) {s : State} : FromO 1148847618 s (execEnableDirective c dtype enable s) := by
  unfold execEnableDirective
  have hF : From 1148847618 s s := From.refl _ _
  refine FromO.next ?_
  refine From.step (enableDirective_from ..) ?_ rfl
  exact hF

theorem answerData_from {s : State} (f : Flight) (b : Bytes) (len : Nat) : From 1276773890 s (answerData s f b len) := by
  unfold answerData
  have hF : From 1276773890 s s := From.refl _ _
  refine From.step (completeFlight_from ..) ?_ rfl
  refine From.step (dmaOut_from ..) ?_ rfl
  exact hF

theorem coveStatus_from {s : State} (c : Cmd) (first len : Nat) : From 1278871042 s (coveStatus s c first len) := by
  unfold coveStatus
  have hF : From 1278871042 s s := From.refl _ _
  extract_lets +onlyGivenNames x0
  have hx0 : From 1278871042 s x0 := by
    subst x0
    refine From.step (ensure_from ..) ?_ rfl
    exact hF
  clear_value x0
  extract_lets +onlyGivenNames x1
  clear_value x1
  extract_lets +onlyGivenNames x2
  clear_value x2
  split
  · rename_i y3 e4
    extract_lets +onlyGivenNames x5
    clear_value x5
    refine From.step (answerData_from ..) ?_ rfl
    exact hx0
  · rename_i y6 e7
    refine From.step (completeFlight_from ..) ?_ rfl
    exact hx0

theorem execCoveStatus_from (c : Cmd) (first len : Nat) {s : State} : FromO 1278871042 s (execCoveStatus c first len s) := by
  unfold execCoveStatus
  have hF : From 1278871042 s s := From.refl _ _
  refine FromO.next ?_
  refine From.step (coveStatus_from ..) ?_ rfl
  exact hF

theorem zoneUsage_from {s : State} (c : Cmd) (zslba len : Nat) : From 1278871042 s (zoneUsage s c zslba len) := by
  unfold zoneUsage
  have hF : From 1278871042 s s := From.refl _ _
  extract_lets +onlyGivenNames x0
  have hx0 : From 1278871042 s x0 := by
    subst x0
    refine From.step (ensure_from ..) ?_ rfl
    exact hF
  clear_value x0
  extract_lets +onlyGivenNames x1
  clear_value x1
  extract_lets +onlyGivenNames x2
  clear_value x2
  split
  · rename_i y3 e4
    split
    · rename_i e5
      refine From.step (completeFlight_from ..) ?_ rfl
      exact hx0
    · rename_i e6
      split
      · rename_i e7
        refine From.step (completeFlight_from ..) ?_ rfl
        exact hx0
      · rename_i e8
        extract_lets +onlyGivenNames x9
        clear_value x9
        extract_lets +onlyGivenNames x10
        clear_value x10
        refine From.step (answerData_from ..) ?_ rfl
        exact hx0
  · rename_i y11 e12
    refine From.step (completeFlight_from ..) ?_ rfl
    exact hx0

theorem execZoneUsage_from (c : Cmd) (zslba len : Nat) {s : State} : FromO 1278871042 s (execZoneUsage c zslba len s) := by
  unfold execZoneUsage
  have hF : From 1278871042 s s := From.refl _ _
  refine FromO.next ?_
  refine From.step (zoneUsage_from ..) ?_ rfl
  exact hF

theorem zoneReport_from {s : State} (c : Cmd) (slba option len : Nat) (part : Bool) : From 1278871042 s (zoneReport s c slba option len part) := by
  unfold zoneReport
  have hF : From 1278871042 s s := From.refl _ _
  extract_lets +onlyGivenNames x0
  have hx0 : From 1278871042 s x0 := by
    subst x0
    refine From.step (ensure_from ..) ?_ rfl
    exact hF
  clear_value x0
  extract_lets +onlyGivenNames x1
  clear_value x1
  extract_lets +onlyGivenNames x2
  clear_value x2
  split
  · rename_i y3 e4
    split
    · rename_i e5
      refine From.step (completeFlight_from ..) ?_ rfl
      exact hx0
    · rename_i e6
      split
      · rename_i e7
        refine From.step (completeFlight_from ..) ?_ rfl
        exact hx0
      · rename_i e8
        extract_lets +onlyGivenNames x9
        clear_value x9
        extract_lets +onlyGivenNames x10
        clear_value x10
        extract_lets +onlyGivenNames x11
        clear_value x11
        extract_lets +onlyGivenNames x12
        clear_value x12
        refine From.step (answerData_from ..) ?_ rfl
        exact hx0
  · rename_i y13 e14
    refine From.step (completeFlight_from ..) ?_ rfl
    exact hx0

theorem execZoneManagementReceive_from (c : Cmd) (slba option len : Nat) (partialReport : Bool) {s : State} : FromO 1278871042 s (execZoneManagementReceive c slba option len partialReport s) := by
  unfold execZoneManagementReceive
  have hF : From 1278871042 s s := From.refl _ _
  refine FromO.next ?_
  refine From.step (zoneReport_from ..) ?_ rfl
  exact hF

theorem countWait_from {s : State} (f : Flight) (kind key : Nat) : From 1048578 s (countWait s f kind key) := by
  unfold countWait
  have hF : From 1048578 s s := From.refl _ _
  split
  · rename_i e0
    exact hF
  · rename_i e1
    refine From.step (bump64_from ..) ?_ rfl
    refine From.step (modFlight_from ..) ?_ rfl
    exact hF

theorem writeHolds_from {s : State} (f : Flight) (lba bytes : Nat) : From 1048578 s (writeHolds s f lba bytes).2 := by
  unfold writeHolds
  have hF : From 1048578 s s := From.refl _ _
  extract_lets +onlyGivenNames x0
  clear_value x0
  split
  · rename_i e1
    refine From.pair ?_
    exact hF
  · rename_i e2
    split
    · rename_i e3
      refine From.pair ?_
      refine From.step (countWait_from ..) ?_ rfl
      exact hF
    · rename_i e4
      split
      · rename_i e5
        refine From.pair ?_
        refine From.step (countWait_from ..) ?_ rfl
        exact hF
      · rename_i e6
        refine From.pair ?_
        exact hF

theorem applyConv_from {s : State} (f : Flight) (lba : Nat) (b : Block) : From 2233441714176 s (applyConv s f lba b) := by
  unfold applyConv
  have hF : From 2233441714176 s s := From.refl _ _
  extract_lets +onlyGivenNames x0
  clear_value x0
  extract_lets +onlyGivenNames x1
  have hx1 : From 2233441714176 s x1 := by
    subst x1
    refine From.step (unpoison_from ..) ?_ rfl
    refine From.step (wbDrop_from ..) ?_ rfl
    refine From.step (storeBlock_from ..) ?_ rfl
    exact hF
  clear_value x1
  split
  · rename_i y2 y3 y4 e5
    have h6 : From 2233441714176 s y4 := by
      refine From.step (placePage_from e5) ?_ rfl
      exact hx1
    extract_lets +onlyGivenNames x7
    clear_value x7
    extract_lets +onlyGivenNames x8
    have hx8 : From 2233441714176 s x8 := by
      subst x8
      refine From.step (wbAdd_from ..) ?_ rfl
      exact h6
    clear_value x8
    refine From.step (mapChanged_from ..) ?_ rfl
    with_reducible exact From.set_xlat hx8 _ rfl
  · rename_i y9 e10
    exact hx1

theorem applyDirect_from {s : State} (f : Flight) (bs : List (Nat × Block)) : From 6631488225280 s (applyDirect s f bs) := by
  unfold applyDirect
  have hF : From 6631488225280 s s := From.refl _ _
  split
  · rename_i y0
    exact hF
  · rename_i y1 y2 y3 y4
    extract_lets +onlyGivenNames x5
    clear_value x5
    extract_lets +onlyGivenNames x6
    clear_value x6
    extract_lets +onlyGivenNames x7
    clear_value x7
    extract_lets +onlyGivenNames x8
    clear_value x8
    extract_lets +onlyGivenNames x9
    clear_value x9
    extract_lets +onlyGivenNames x10
    have hx10 : From 6631488225280 s x10 := by
      subst x10
      refine From.foldl ?_ ?_ _
      · exact hF
      · intro a11 a12 a13
        refine From.step (storeBlock_from ..) ?_ rfl
        exact a13
    clear_value x10
    extract_lets +onlyGivenNames x14
    have hx14 : From 6631488225280 s x14 := by
      subst x14
      refine From.step (allocTo_from ..) ?_ rfl
      exact hx10
    clear_value x14
    extract_lets +onlyGivenNames x15
    have hx15 : From 6631488225280 s x15 := by
      subst x15
      refine From.step (modZone_from ..) ?_ rfl
      exact hx14
    clear_value x15
    extract_lets +onlyGivenNames x16
    have hx16 : From 6631488225280 s x16 := by
      subst x16
      refine From.step (wbAdd_from ..) ?_ rfl
      exact hx15
    clear_value x16
    refine From.step (closeIfFull_from ..) ?_ rfl
    exact hx16

theorem deallocate_from {s : State} (nsid lba nlb : Nat) : From 2199081975808 s (deallocate s nsid lba nlb) := by
  unfold deallocate
  have hF : From 2199081975808 s s := From.refl _ _
  extract_lets +onlyGivenNames x0
  clear_value x0
  extract_lets +onlyGivenNames x1
  have hx1 : From 2199081975808 s x1 := by
    subst x1
    refine From.step (unpoison_from ..) ?_ rfl
    refine From.step (wbDrop_from ..) ?_ rfl
    refine From.step (clearBlocks_from ..) ?_ rfl
    exact hF
  clear_value x1
  extract_lets +onlyGivenNames x2
  subst x2
  dsimp -zeta only
  extract_lets +onlyGivenNames x3
  clear_value x3
  refine From.foldl ?_ ?_ _
  · with_reducible exact From.set_xlat hx1 _ rfl
  · intro a4 a5 a6
    refine From.step (mapChanged_from ..) ?_ rfl
    exact a6

theorem markUncor_from {s : State} (nsid lba nlb : Nat) : From 2199073587200 s (markUncor s nsid lba nlb) := by
  unfold markUncor
  have hF : From 2199073587200 s s := From.refl _ _
  extract_lets +onlyGivenNames x0
  clear_value x0
  extract_lets +onlyGivenNames x1
  have hx1 : From 2199073587200 s x1 := by
    subst x1
    refine From.step (wbDrop_from ..) ?_ rfl
    refine From.step (clearBlocks_from ..) ?_ rfl
    exact hF
  clear_value x1
  extract_lets +onlyGivenNames x2
  clear_value x2
  extract_lets +onlyGivenNames x3
  clear_value x3
  extract_lets +onlyGivenNames x4
  have hx4 : From 2199073587200 s x4 := by
    subst x4
    with_reducible exact From.set_xlat hx1 _ rfl
  clear_value x4
  refine From.foldl ?_ ?_ _
  · exact hx4
  · intro a5 a6 a7
    refine From.step (mapChanged_from ..) ?_ rfl
    exact a7

theorem mirrorWrite_from {s : State} (f : Flight) (kind bytes : Nat) : From 4398047559680 s (mirrorWrite s f kind bytes) := by
  unfold mirrorWrite
  have hF : From 4398047559680 s s := From.refl _ _
  split
  · rename_i e0
    extract_lets +onlyGivenNames x1
    clear_value x1
    extract_lets +onlyGivenNames x2
    have hx2 : From 4398047559680 s x2 := by
      subst x2
      refine From.foldl ?_ ?_ _
      · exact hF
      · intro a3 a4 a5
        refine From.step (mirrorSend_from ..) ?_ rfl
        exact a5
    clear_value x2
    extract_lets +onlyGivenNames x6
    have hx6 : From 4398047559680 s x6 := by
      subst x6
      split
      · rename_i e7
        exact hx2
      · rename_i e8
        refine From.step (mirrorSend_from ..) ?_ rfl
        exact hx2
    clear_value x6
    extract_lets +onlyGivenNames x9
    have hx9 : From 4398047559680 s x9 := by
      subst x9
      refine From.step (mirrorSend_from ..) ?_ rfl
      exact hx6
    clear_value x9
    refine From.step (modFlight_from ..) ?_ rfl
    exact hx9
  · rename_i e10
    exact hF

theorem applyAll_from {s : State} (f : Flight) : From 6631489273856 s (applyAll s f) := by
  unfold applyAll
  have hF : From 6631489273856 s s := From.refl _ _
  extract_lets +onlyGivenNames x0
  clear_value x0
  extract_lets +onlyGivenNames x1
  have hx1 : From 6631489273856 s x1 := by
    subst x1
    split
    · rename_i e2
      refine From.step (applyDirect_from ..) ?_ rfl
      exact hF
    · rename_i e3
      refine From.foldl ?_ ?_ _
      · exact hF
      · intro a4 a5 a6
        refine From.step (applyConv_from ..) ?_ rfl
        exact a6
  clear_value x1
  extract_lets +onlyGivenNames x7
  have hx7 : From 6631489273856 s x7 := by
    subst x7
    refine From.foldl ?_ ?_ _
    · exact hx1
    · intro a8 a9 a10
      refine From.step (deallocate_from ..) ?_ rfl
      exact a10
  clear_value x7
  extract_lets +onlyGivenNames x11
  have hx11 : From 6631489273856 s x11 := by
    subst x11
    split
    · rename_i e12
      refine From.step (markUncor_from ..) ?_ rfl
      exact hx7
    · rename_i e13
      exact hx7
  clear_value x11
  extract_lets +onlyGivenNames x14
  have hx14 : From 6631489273856 s x14 := by
    subst x14
    refine From.step (modFlight_from ..) ?_ rfl
    exact hx11
  clear_value x14
  refine From.step (mirrorWrite_from ..) ?_ rfl
  exact hx14

theorem markAcked_from {s : State} : From 2199023255552 s (markAcked s) := by
  unfold markAcked
  have hF : From 2199023255552 s s := From.refl _ _
  with_reducible exact From.set_xlat hF _ rfl

theorem completeWrite_from {s : State} (f : Flight) : From 2200165811714 s (completeWrite s f) := by
  unfold completeWrite
  have hF : From 2200165811714 s s := From.refl _ _
  refine From.step (markAcked_from ..) ?_ rfl
  split
  · rename_i e0
    refine From.step (completeFlight_from ..) ?_ rfl
    exact hF
  · rename_i e1
    refine From.step (completeFlight_from ..) ?_ rfl
    exact hF

theorem writeAcknowledge_from {s : State} (fn sqid cid : Nat) : From 6631489273858 s (writeAcknowledge s fn sqid cid) := by
  unfold writeAcknowledge
  have hF : From 6631489273858 s s := From.refl _ _
  split
  · rename_i y0 y1 e2
    split
    · rename_i e3
      extract_lets +onlyGivenNames x4
      have hx4 : From 6631489273858 s x4 := by
        subst x4
        refine From.step (modFlight_from ..) ?_ rfl
        exact hF
      clear_value x4
      extract_lets +onlyGivenNames x5
      have hx5 : From 6631489273858 s x5 := by
        subst x5
        split
        · rename_i e6
          refine From.step (applyAll_from ..) ?_ rfl
          exact hx4
        · rename_i e7
          exact hx4
      clear_value x5
      split
      · rename_i e8
        refine From.step (countWait_from ..) ?_ rfl
        exact hx5
      · rename_i e9
        exact hx5
    · rename_i e10
      exact hF
  · rename_i y11 e12
    exact hF

theorem fixConvTag_from {s : State} (f : Flight) : From 541065216 s (fixConvTag s f) := by
  unfold fixConvTag
  have hF : From 541065216 s s := From.refl _ _
  extract_lets +onlyGivenNames x0
  clear_value x0
  split
  · rename_i e1
    refine From.step (keyFix_from ..) ?_ rfl
    refine From.upd 4194304 (hF) rfl rfl ?_ ?_ ?_ ?_ ?_ ?_ ?_ ?_ ?_ ?_ ?_ ?_ ?_ ?_ ?_ ?_ ?_ ?_ ?_
    all_goals with_reducible first | exact id | exact fun _ => Assoc.wf_nil | exact fun _ => From.nil_le | exact fun _ => From.sixteen | (intro w; repeat' first | exact w | exact From.nil_le | exact Assoc.wf_nil | split | apply Assoc.wf_foldl (fun m b w => Assoc.wf_put w) | apply Assoc.wf_put | apply Assoc.wf_upd | apply Assoc.wf_updD | apply Assoc.wf_del | apply Assoc.wf_keep | apply Assoc.wf_mapVal)
  · rename_i e2
    exact hF

theorem beginWrite_from {s : State} (f : Flight) (resv append limit : Bool) (slba : Nat) (bs : List Block) (dtype dspec : Nat) : From 2200715265794 s (beginWrite s f resv append limit slba bs dtype dspec) := by
  unfold beginWrite
  have hF : From 2200715265794 s s := From.refl _ _
  extract_lets +onlyGivenNames x0
  clear_value x0
  extract_lets +onlyGivenNames x1
  clear_value x1
  extract_lets +onlyGivenNames x2
  clear_value x2
  extract_lets +onlyGivenNames x3
  have hx3 : From 2200715265794 s x3 := by
    subst x3
    split
    · rename_i e4
      refine From.step (bump32_from ..) ?_ rfl
      exact hF
    · rename_i e5
      exact hF
  clear_value x3
  split
  · rename_i y6 e7
    split
    · rename_i e8
      split
      · rename_i y9 y10 y11 e12
        have h13 : From 2200715265794 s y11 := by
          refine From.snd2 e12 ?_
          refine From.step (zoneCheck_from ..) ?_ rfl
          exact hx3
        extract_lets +onlyGivenNames x14
        clear_value x14
        extract_lets +onlyGivenNames x15
        clear_value x15
        extract_lets +onlyGivenNames x16
        have hx16 : From 2200715265794 s x16 := by
          subst x16
          refine From.step (modFlight_from ..) ?_ rfl
          exact h13
        clear_value x16
        split
        · rename_i y17 e18
          exact hx16
        · rename_i y19 e20
          refine From.step (completeFlight_from ..) ?_ rfl
          refine From.step (zoneWriteFail_from ..) ?_ rfl
          exact hx16
      · rename_i y21 y22 y23 y24 e25 e26
        have h27 : From 2200715265794 s y24 := by
          refine From.snd2 e26 ?_
          refine From.step (zoneCheck_from ..) ?_ rfl
          exact hx3
        refine From.step (completeFlight_from ..) ?_ rfl
        exact h27
    · rename_i e28
      split
      · rename_i y29 e30
        extract_lets +onlyGivenNames x31
        have hx31 : From 2200715265794 s x31 := by
          subst x31
          refine From.step (fixConvTag_from ..) ?_ rfl
          exact hx3
        clear_value x31
        extract_lets +onlyGivenNames x32
        clear_value x32
        extract_lets +onlyGivenNames x33
        clear_value x33
        extract_lets +onlyGivenNames x34
        have hx34 : From 2200715265794 s x34 := by
          subst x34
          split
          · rename_i e35
            refine From.step (countWait_from ..) ?_ rfl
            exact hx31
          · rename_i e36
            exact hx31
        clear_value x34
        refine From.step (modFlight_from ..) ?_ rfl
        exact hx34
      · rename_i y37 e38
        refine From.step (completeFlight_from ..) ?_ rfl
        exact hx3
  · rename_i y39 e40
    refine From.step (completeFlight_from ..) ?_ rfl
    exact hx3

theorem beginClear_from {s : State} (f : Flight) (resv : Bool) (clears : List (Nat × Nat)) (dtype dspec : Nat) : From 1142556162 s (beginClear s f resv clears dtype dspec) := by
  unfold beginClear
  have hF : From 1142556162 s s := From.refl _ _
  extract_lets +onlyGivenNames x0
  clear_value x0
  split
  · rename_i y1 e2
    extract_lets +onlyGivenNames x3
    clear_value x3
    extract_lets +onlyGivenNames x4
    have hx4 : From 1142556162 s x4 := by
      subst x4
      split
      · rename_i e5
        refine From.step (countWait_from ..) ?_ rfl
        exact hF
      · rename_i e6
        exact hF
    clear_value x4
    refine From.step (modFlight_from ..) ?_ rfl
    exact hx4
  · rename_i y7 e8
    refine From.step (completeFlight_from ..) ?_ rfl
    exact hF

theorem settleActions_from {s : State} : From 6633167652610 s (settleActions s) := by
  unfold settleActions
  have hF : From 6633167652610 s s := From.refl _ _
  refine From.foldl ?_ ?_ _
  · exact hF
  · intro a0 a1 a2
    split
    · rename_i y3 y4 y5 y6 e7
      split
      · rename_i e8
        exact a2
      · rename_i e9
        refine From.step (actDone_from ..) ?_ rfl
        exact a2
    · rename_i y10 e11
      exact a2

theorem settleSends_from {s : State} : From 1142556162 s (settleSends s) := by
  unfold settleSends
  have hF : From 1142556162 s s := From.refl _ _
  refine From.foldl ?_ ?_ _
  · exact hF
  · intro a0 a1 a2
    split
    · rename_i e3
      exact a2
    · rename_i e4
      refine From.step (completeFlight_from ..) ?_ rfl
      exact a2

theorem settleFlushes_from {s : State} : From 2234533938946 s (settleFlushes s) := by
  unfold settleFlushes
  have hF : From 2234533938946 s s := From.refl _ _
  refine From.foldl ?_ ?_ _
  · exact hF
  · intro a0 a1 a2
    extract_lets +onlyGivenNames x3
    subst x3
    dsimp -zeta only
    extract_lets +onlyGivenNames x4
    have hx4 : From 2234533938946 s x4 := by
      subst x4
      refine From.foldl ?_ ?_ _
      · exact a2
      · intro a5 a6 a7
        refine From.step (closeUnit_from ..) ?_ rfl
        exact a7
    clear_value x4
    split
    · rename_i e8
      refine From.step (completeFlight_from ..) ?_ rfl
      exact hx4
    · rename_i e9
      refine From.step (modFlight_from ..) ?_ rfl
      exact hx4

theorem settleWrites_from {s : State} : From 6632630781442 s (settleWrites s) := by
  unfold settleWrites
  have hF : From 6632630781442 s s := From.refl _ _
  refine From.foldl ?_ ?_ _
  · exact hF
  · intro a0 a1 a2
    split
    · rename_i y3 y4 e5
      extract_lets +onlyGivenNames x6
      clear_value x6
      extract_lets +onlyGivenNames x7
      have hx7 : From 6632630781442 s x7 := by
        subst x7
        split
        · rename_i e8
          refine From.step (applyAll_from ..) ?_ rfl
          exact a2
        · rename_i e9
          exact a2
      clear_value x7
      split
      · rename_i y10 y11 e12
        split
        · rename_i e13
          refine From.step (completeWrite_from ..) ?_ rfl
          exact hx7
        · rename_i e14
          exact hx7
      · rename_i y15 e16
        exact hx7
    · rename_i y17 e18
      exact a2

theorem modBound_from {s : State} (c : Nat) (f : BoundSt → BoundSt) : From 34359738368 s (modBound s c f) := by
  unfold modBound
  have hF : From 34359738368 s s := From.refl _ _
  with_reducible exact From.set_nand hF _ rfl

theorem boundRecompute_from {s : State} : From 34359738626 s (boundRecompute s) := by
  unfold boundRecompute
  have hF : From 34359738626 s s := From.refl _ _
  refine From.foldl ?_ ?_ _
  · exact hF
  · intro a0 a1 a2
    split
    · rename_i y3 y4 e5
      refine From.step (modBound_from ..) ?_ rfl
      exact a2
    · rename_i y6 e7
      extract_lets +onlyGivenNames x8
      clear_value x8
      extract_lets +onlyGivenNames x9
      have hx9 : From 34359738626 s x9 := by
        subst x9
        refine From.step (modBound_from ..) ?_ rfl
        exact a2
      clear_value x9
      split
      · rename_i e10
        exact hx9
      · rename_i e11
        refine From.step (event_from ..) ?_ rfl
        exact hx9

theorem excuse_from {s : State} (f : Flight) : From 34360786946 s (excuse s f) := by
  unfold excuse
  have hF : From 34360786946 s s := From.refl _ _
  split
  · rename_i e0
    exact hF
  · rename_i e1
    extract_lets +onlyGivenNames x2
    have hx2 : From 34360786946 s x2 := by
      subst x2
      refine From.step (modFlight_from ..) ?_ rfl
      exact hF
    clear_value x2
    split
    · rename_i e3
      exact hx2
    · rename_i e4
      refine From.step (modBound_from ..) ?_ rfl
      refine From.step (bump64_from ..) ?_ rfl
      exact hx2

theorem excuseReads_from {s : State} (p : CwAddr → Bool) : From 34360786946 s (excuseReads s p) := by
  unfold excuseReads
  have hF : From 34360786946 s s := From.refl _ _
  refine From.foldl ?_ ?_ _
  · exact hF
  · intro a0 a1 a2
    refine From.step (excuse_from ..) ?_ rfl
    exact a2

theorem wbMove_from {s : State} (die block die' block' : Nat) : From 2199023255552 s (wbMove s die block die' block') := by
  unfold wbMove
  have hF : From 2199023255552 s s := From.refl _ _
  with_reducible exact From.set_xlat hF _ rfl

theorem addReloc_from {s : State} (k : RelocKind) (die block : Nat) (t : RelocTarget) : From 2199023255552 s (addReloc s k die block t) := by
  unfold addReloc
  have hF : From 2199023255552 s s := From.refl _ _
  with_reducible exact From.set_xlat hF _ rfl

theorem placeAll_from {s : State} (c : Nat) (l : List (Nat × PLoc)) : From 2233382993920 s (placeAll s c l).2 := by
  unfold placeAll
  refine From.foldl_snd (fun p b h => ?_) _ (From.refl _ _)
  split
  · rename_i e
    exact From.step (placePage_from e) h rfl
  · exact h

theorem wbMovePage_from {s : State} (key : Nat) (q : PLoc) : From 2199023255552 s (wbMovePage s key q) := by
  unfold wbMovePage
  have hF : From 2199023255552 s s := From.refl _ _
  with_reducible exact From.set_xlat hF _ rfl

theorem copyInto_from {s : State} (id : Nat) (src dst : Nat × Nat) (cell : Nat) : From 2233382993920 s (copyInto s id src dst cell) := by
  unfold copyInto
  have hF : From 2233382993920 s s := From.refl _ _
  refine From.step (wbMove_from ..) ?_ rfl
  refine From.step (modBlock_from ..) ?_ rfl
  refine From.step (takeBlock_from ..) ?_ rfl
  exact hF

theorem startWhole_from {s : State} (kind : RelocKind) (die block zk k : Nat) : From 2233382993920 s (startWhole s kind die block zk k) := by
  have hF : From 2233382993920 s s := From.refl _ _
  unfold startWhole
  extract_lets x0 x1 x2 x3
  split
  · exact hF
  · split
    rename_i e
    split
    · refine From.step (addReloc_from ..) (From.fst e (From.foldl_fst (fun p b h => ?_) _ hF)) rfl
      split
      · exact From.step (copyInto_from ..) h rfl
      · exact h
    · exact hF

theorem startReloc_from {s : State} (k : RelocKind) (die block : Nat) : From 2233382993920 s (startReloc s k die block) := by
  unfold startReloc
  have hF : From 2233382993920 s s := From.refl _ _
  split
  · rename_i e0
    exact hF
  · rename_i e1
    extract_lets +onlyGivenNames x2
    clear_value x2
    split
    · rename_i y3 y4 y5 y6 e7
      split
      · rename_i y8 y9 y10 e11
        split
        · rename_i e12
          refine From.step (startWhole_from ..) ?_ rfl
          exact hF
        · rename_i e13
          extract_lets +onlyGivenNames x14
          clear_value x14
          refine From.step (copyInto_from ..) ?_ rfl
          refine From.step (addReloc_from ..) ?_ rfl
          exact hF
      · rename_i y15 e16
        exact hF
    · rename_i y17 y18 y19 e20
      split
      · rename_i y21 y22 e23
        extract_lets +onlyGivenNames x24
        clear_value x24
        split
        · rename_i y25 y26 y27 e28
          have h29 : From 2233382993920 s y27 := by
            refine From.snd e28 ?_
            refine From.step (placeAll_from ..) ?_ rfl
            exact hF
          extract_lets +onlyGivenNames x30
          have hx30 : From 2233382993920 s x30 := by
            subst x30
            refine From.foldl ?_ ?_ _
            · exact h29
            · intro a31 a32 a33
              refine From.step (wbMovePage_from ..) ?_ rfl
              exact a33
          clear_value x30
          refine From.step (addReloc_from ..) ?_ rfl
          exact hx30
      · rename_i y34 e35
        exact hF
    · rename_i y36 e37 e38
      exact hF

theorem dropReloc_from {s : State} (r : Reloc) : From 2233382993920 s (dropReloc s r) := by
  unfold dropReloc
  have hF : From 2233382993920 s s := From.refl _ _
  extract_lets +onlyGivenNames x0
  have hx0 : From 2233382993920 s x0 := by
    subst x0
    split
    · rename_i y1 y2 y3 y4 y5 y6 e7
      refine From.step (wbMove_from ..) ?_ rfl
      exact hF
    · rename_i y8 y9 y10 y11 e12
      refine From.foldl ?_ ?_ _
      · exact hF
      · intro a13 a14 a15
        extract_lets +onlyGivenNames x16
        clear_value x16
        refine From.step (wbMove_from ..) ?_ rfl
        exact a15
    · rename_i y17 y18 e19
      refine From.foldl ?_ ?_ _
      · exact hF
      · intro a20 a21 a22
        split
        · rename_i e23
          refine From.step (wbMovePage_from ..) ?_ rfl
          exact a22
        · rename_i e24
          exact a22
  clear_value x0
  extract_lets +onlyGivenNames x25
  have hx25 : From 2233382993920 s x25 := by
    subst x25
    refine From.step (freeCopies_from ..) ?_ rfl
    exact hx0
  clear_value x25
  with_reducible exact From.set_xlat hx25 _ rfl

theorem redirect_from {s : State} (r : Reloc) (zk : Nat) (q : Nat × Nat) (fails : Nat) : From 2233382993920 s (redirect s r zk q fails) := by
  unfold redirect
  have hF : From 2233382993920 s s := From.refl _ _
  split
  · rename_i y0 y1 e2
    extract_lets +onlyGivenNames x3
    have hx3 : From 2233382993920 s x3 := by
      subst x3
      refine From.step (copyInto_from ..) ?_ rfl
      exact hF
    clear_value x3
    with_reducible exact From.set_xlat hx3 _ rfl
  · rename_i y4 e5
    refine From.step (dropReloc_from ..) ?_ rfl
    exact hF

theorem poisonDie_from {s : State} (nsid die : Nat) (lbas : List Nat) : From 2199031644160 s (poisonDie s nsid die lbas) := by
  unfold poisonDie
  have hF : From 2199031644160 s s := From.refl _ _
  extract_lets +onlyGivenNames x0
  clear_value x0
  extract_lets +onlyGivenNames x1
  clear_value x1
  extract_lets +onlyGivenNames x2
  have hx2 : From 2199031644160 s x2 := by
    subst x2
    with_reducible exact From.set_xlat hF _ rfl
  clear_value x2
  split
  · rename_i y3 y4 e5
    split
    · rename_i e6
      refine From.foldl ?_ ?_ _
      · exact hx2
      · intro a7 a8 a9
        refine From.step (lossFlag_from ..) ?_ rfl
        exact a9
    · rename_i e10
      exact hx2
  · rename_i y11 e12
    exact hx2

theorem endZoneWrites_from {s : State} (zk : Nat) (st : NvStatus) : From 1142556162 s (endZoneWrites s zk st) := by
  unfold endZoneWrites
  have hF : From 1142556162 s s := From.refl _ _
  refine From.foldl ?_ ?_ _
  · exact hF
  · intro a0 a1 a2
    refine From.step (completeFlight_from ..) ?_ rfl
    exact a2

theorem zoneLosesDie_from {s : State} (zk die : Nat) : From 2235125335810 s (zoneLosesDie s zk die) := by
  unfold zoneLosesDie
  have hF : From 2235125335810 s s := From.refl _ _
  extract_lets +onlyGivenNames x0
  clear_value x0
  extract_lets +onlyGivenNames x1
  clear_value x1
  extract_lets +onlyGivenNames x2
  clear_value x2
  extract_lets +onlyGivenNames x3
  have hx3 : From 2235125335810 s x3 := by
    subst x3
    refine From.step (closeUnit_from ..) ?_ rfl
    exact hF
  clear_value x3
  extract_lets +onlyGivenNames x4
  have hx4 : From 2235125335810 s x4 := by
    subst x4
    refine From.foldl ?_ ?_ _
    · exact hx3
    · intro a5 a6 a7
      split
      · rename_i e8
        refine From.step (startReloc_from ..) ?_ rfl
        exact a7
      · rename_i e9
        exact a7
  clear_value x4
  extract_lets +onlyGivenNames x10
  have hx10 : From 2235125335810 s x10 := by
    subst x10
    refine From.step (poisonDie_from ..) ?_ rfl
    exact hx4
  clear_value x10
  extract_lets +onlyGivenNames x11
  clear_value x11
  extract_lets +onlyGivenNames x12
  clear_value x12
  extract_lets +onlyGivenNames x13
  clear_value x13
  split
  · rename_i e14
    split
    · rename_i e15
      exact hx10
    · rename_i e16
      refine From.step (zoneChanged_from ..) ?_ rfl
      refine From.step (modZone_from ..) ?_ rfl
      refine From.step (endZoneWrites_from ..) ?_ rfl
      exact hx10
  · rename_i e17
    refine From.step (zoneChanged_from ..) ?_ rfl
    refine From.step (offlineZone_from ..) ?_ rfl
    refine From.step (endZoneWrites_from ..) ?_ rfl
    exact hx10

theorem pagesLoseDie_from {s : State} (die : Nat) : From 2233391382528 s (pagesLoseDie s die) := by
  unfold pagesLoseDie
  have hF : From 2233391382528 s s := From.refl _ _
  extract_lets +onlyGivenNames x0
  clear_value x0
  refine From.foldl ?_ ?_ _
  · exact hF
  · intro a1 a2 a3
    extract_lets +onlyGivenNames x4
    clear_value x4
    extract_lets +onlyGivenNames x5
    clear_value x5
    extract_lets +onlyGivenNames x6
    clear_value x6
    split
    · rename_i e7
      split
      · rename_i y8 y9 y10 e11
        have h12 : From 2233391382528 s y10 := by
          refine From.step (placePage_from e11) ?_ rfl
          exact a3
        refine From.step (wbMovePage_from ..) ?_ rfl
        with_reducible exact From.set_xlat h12 _ rfl
      · rename_i y13 e14
        exact a3
    · rename_i e15
      refine From.step (poisonDie_from ..) ?_ rfl
      exact a3

theorem relocsLoseDie_from {s : State} (die : Nat) : From 2233382993920 s (relocsLoseDie s die) := by
  unfold relocsLoseDie
  have hF : From 2233382993920 s s := From.refl _ _
  extract_lets +onlyGivenNames x0
  have hx0 : From 2233382993920 s x0 := by
    subst x0
    refine From.foldl ?_ ?_ _
    · exact hF
    · intro a1 a2 a3
      split
      · rename_i y4 y5 y6 y7 y8 y9 e10
        split
        · rename_i e11
          refine From.step (dropReloc_from ..) ?_ rfl
          exact a3
        · rename_i e12
          exact a3
      · rename_i y13 y14 e15
        split
        · rename_i e16
          refine From.step (dropReloc_from ..) ?_ rfl
          exact a3
        · rename_i e17
          exact a3
      · rename_i y18 y19 y20 y21 e22
        exact a3
  clear_value x0
  refine From.foldl ?_ ?_ _
  · exact hx0
  · intro a23 a24 a25
    split
    · rename_i y26 y27 e28
      with_reducible exact From.set_xlat a25 _ rfl
    · rename_i y29 e30
      refine From.foldl ?_ ?_ _
      · exact a25
      · intro a31 a32 a33
        split
        · rename_i e34
          refine From.step (redirect_from ..) ?_ rfl
          exact a33
        · rename_i e35
          exact a33

theorem recoverStep_from {s : State} {c : Nat} {t : State} (e : recoverStep s c = some t) : From 2235125335810 s t := by
  have hF : From 2235125335810 s s := From.refl _ _
  unfold recoverStep at e
  extract_lets d best at e
  clear_value best
  split at e
  · exact absurd e (by simp)
  · split at e
    · extract_lets n at e
      split at e
      · simp only [Option.some.injEq] at e
        subst e
        exact From.step (zoneChanged_from _ _) (From.step (offlineZone_from _ _) hF rfl) rfl
      · exact absurd e (by simp)
    · exact absurd e (by simp)

theorem recoverCove_from {s : State} (n c : Nat) : From 2235125335810 s (recoverCove n s c) := by
  induction n generalizing s with
  | zero => exact From.refl _ _
  | succ n ih =>
    simp only [recoverCove]
    split
    · rename_i e
      exact From.step ih (From.step (recoverStep_from e) (From.refl _ _) rfl) rfl
    · exact From.refl _ _

theorem dieRetire_from {s : State} (die : Nat) : From 2235125335874 s (dieRetire s die) := by
  unfold dieRetire
  have hF : From 2235125335874 s s := From.refl _ _
  split
  · rename_i e0
    exact hF
  · rename_i e1
    extract_lets +onlyGivenNames x2
    have hx2 : From 2235125335874 s x2 := by
      subst x2
      refine From.step (excuseReads_from ..) ?_ rfl
      exact hF
    clear_value x2
    extract_lets +onlyGivenNames x3
    clear_value x3
    extract_lets +onlyGivenNames x4
    have hx4 : From 2235125335874 s x4 := by
      subst x4
      with_reducible exact From.set_nand hx2 _ rfl
    clear_value x4
    extract_lets +onlyGivenNames x5
    have hx5 : From 2235125335874 s x5 := by
      subst x5
      refine From.step (bump_from ..) ?_ rfl
      refine From.step (domChanged_from ..) ?_ rfl
      exact hx4
    clear_value x5
    extract_lets +onlyGivenNames x6
    clear_value x6
    extract_lets +onlyGivenNames x7
    have hx7 : From 2235125335874 s x7 := by
      subst x7
      refine From.foldl ?_ ?_ _
      · exact hx5
      · intro a8 a9 a10
        refine From.step (lossPend_from ..) ?_ rfl
        exact a10
    clear_value x7
    extract_lets +onlyGivenNames x11
    clear_value x11
    extract_lets +onlyGivenNames x12
    have hx12 : From 2235125335874 s x12 := by
      subst x12
      with_reducible exact From.set_xlat hx7 _ rfl
    clear_value x12
    extract_lets +onlyGivenNames x13
    clear_value x13
    extract_lets +onlyGivenNames x14
    have hx14 : From 2235125335874 s x14 := by
      subst x14
      refine From.foldl ?_ ?_ _
      · exact hx12
      · intro a15 a16 a17
        refine From.step (zoneLosesDie_from ..) ?_ rfl
        exact a17
    clear_value x14
    extract_lets +onlyGivenNames x18
    have hx18 : From 2235125335874 s x18 := by
      subst x18
      refine From.step (relocsLoseDie_from ..) ?_ rfl
      refine From.step (pagesLoseDie_from ..) ?_ rfl
      exact hx14
    clear_value x18
    extract_lets +onlyGivenNames x19
    clear_value x19
    extract_lets +onlyGivenNames x20
    have hx20 : From 2235125335874 s x20 := by
      subst x20
      exact From.same 34360786944 hx18 (by with_reducible rfl) rfl rfl
    clear_value x20
    extract_lets +onlyGivenNames x21
    have hx21 : From 2235125335874 s x21 := by
      subst x21
      refine From.foldl ?_ ?_ _
      · exact hx20
      · intro a22 a23 a24
        split
        · rename_i e25
          exact a24
        · rename_i e26
          refine From.step (recoverCove_from ..) ?_ rfl
          exact a24
    clear_value x21
    refine From.step (capCheck_from ..) ?_ rfl
    exact hx21

theorem blockRetire_from {s : State} (die block : Nat) : From 2235125335874 s (blockRetire s die block) := by
  unfold blockRetire
  have hF : From 2235125335874 s s := From.refl _ _
  extract_lets +onlyGivenNames x0
  have hx0 : From 2235125335874 s x0 := by
    subst x0
    refine From.step (bump32_from ..) ?_ rfl
    refine From.step (modBlock_from ..) ?_ rfl
    exact hF
  clear_value x0
  split
  · rename_i e1
    refine From.step (dieRetire_from ..) ?_ rfl
    exact hx0
  · rename_i e2
    refine From.step (capCheck_from ..) ?_ rfl
    exact hx0

theorem blockFails_from {s : State} (die block : Nat) : From 2235125335874 s (blockFails s die block) := by
  unfold blockFails
  have hF : From 2235125335874 s s := From.refl _ _
  extract_lets +onlyGivenNames x0
  have hx0 : From 2235125335874 s x0 := by
    subst x0
    refine From.step (modBlock_from ..) ?_ rfl
    exact hF
  clear_value x0
  split
  · rename_i y1 y2 y3 y4 e5
    refine From.step (startReloc_from ..) ?_ rfl
    exact hx0
  · rename_i y6 y7 y8 e9
    refine From.step (startReloc_from ..) ?_ rfl
    exact hx0
  · rename_i y10 y11 e12
    exact hx0
  · rename_i y13 e14 e15 e16
    split
    · rename_i e17
      exact hx0
    · rename_i e18
      refine From.step (blockRetire_from ..) ?_ rfl
      exact hx0

theorem sourceDone_from {s : State} (die block : Nat) : From 2235125335874 s (sourceDone s die block) := by
  unfold sourceDone
  have hF : From 2235125335874 s s := From.refl _ _
  split
  · rename_i e0
    refine From.step (blockRetire_from ..) ?_ rfl
    exact hF
  · rename_i e1
    refine From.step (releaseBlock_from ..) ?_ rfl
    exact hF

theorem takesPlace_from {s : State} (src dst : Nat × Nat) (zk k p : Nat) : From 34359738368 s (takesPlace s src dst zk k p) := by
  unfold takesPlace
  have hF : From 34359738368 s s := From.refl _ _
  extract_lets +onlyGivenNames x0
  clear_value x0
  refine From.step (modBlock_from ..) ?_ rfl
  exact hF

theorem switchWhole_from {s : State} (zk k : Nat) (bs : List (Nat × Nat)) : From 6633171846978 s (switchWhole s zk k bs) := by
  unfold switchWhole
  have hF : From 6633171846978 s s := From.refl _ _
  extract_lets +onlyGivenNames x0
  clear_value x0
  extract_lets +onlyGivenNames x1
  clear_value x1
  extract_lets +onlyGivenNames x2
  clear_value x2
  extract_lets +onlyGivenNames x3
  have hx3 : From 6633171846978 s x3 := by
    subst x3
    refine From.foldl ?_ ?_ _
    · exact hF
    · intro a4 a5 a6
      refine From.step (takesPlace_from ..) ?_ rfl
      exact a6
  clear_value x3
  extract_lets +onlyGivenNames x7
  clear_value x7
  extract_lets +onlyGivenNames x8
  have hx8 : From 6633171846978 s x8 := by
    subst x8
    refine From.step (modZone_from ..) ?_ rfl
    with_reducible exact From.set_xlat hx3 _ rfl
  clear_value x8
  refine From.step (releasePassed_from ..) ?_ rfl
  refine From.foldl ?_ ?_ _
  · exact hx8
  · intro a9 a10 a11
    split
    · rename_i y12 y13 y14 y15 e16
      split
      · rename_i e17
        refine From.step (sourceDone_from ..) ?_ rfl
        exact a11
      · rename_i e18
        exact a11
    · rename_i y19 e20
      exact a11

theorem relocationSwitch_from {s : State} (id : Nat) : From 6633171846978 s (relocationSwitch s id) := by
  unfold relocationSwitch
  have hF : From 6633171846978 s s := From.refl _ _
  split
  · rename_i y0 e1
    exact hF
  · rename_i y2 y3 e4
    extract_lets +onlyGivenNames x5
    clear_value x5
    extract_lets +onlyGivenNames x6
    have hx6 : From 6633171846978 s x6 := by
      subst x6
      with_reducible exact From.set_xlat hF _ rfl
    clear_value x6
    split
    · rename_i y7 y8 y9 y10 y11 y12 e13
      extract_lets +onlyGivenNames x14
      clear_value x14
      extract_lets +onlyGivenNames x15
      clear_value x15
      extract_lets +onlyGivenNames x16
      have hx16 : From 6633171846978 s x16 := by
        subst x16
        refine From.step (takesPlace_from ..) ?_ rfl
        exact hx6
      clear_value x16
      extract_lets +onlyGivenNames x17
      clear_value x17
      extract_lets +onlyGivenNames x18
      have hx18 : From 6633171846978 s x18 := by
        subst x18
        split
        · rename_i e19
          refine From.step (modZone_from ..) ?_ rfl
          with_reducible exact From.set_xlat hx16 _ rfl
        · rename_i e20
          with_reducible exact From.set_xlat hx16 _ rfl
      clear_value x18
      refine From.step (releasePassed_from ..) ?_ rfl
      refine From.step (sourceDone_from ..) ?_ rfl
      exact hx18
    · rename_i y21 y22 y23 y24 e25
      refine From.step (switchWhole_from ..) ?_ rfl
      exact hx6
    · rename_i y26 y27 e28
      extract_lets +onlyGivenNames x29
      have hx29 : From 6633171846978 s x29 := by
        subst x29
        refine From.foldl ?_ ?_ _
        · exact hx6
        · intro a30 a31 a32
          split
          · rename_i e33
            extract_lets +onlyGivenNames x34
            clear_value x34
            refine From.step (mapChanged_from ..) ?_ rfl
            with_reducible exact From.set_xlat a32 _ rfl
          · rename_i e35
            exact a32
      clear_value x29
      split
      · rename_i y36 y37 y38 y39 e40 e41
        split
        · rename_i y42 y43 e44
          split
          · rename_i e45
            refine From.step (releaseStripe_from ..) ?_ rfl
            exact hx29
          · rename_i e46
            exact hx29
        · rename_i y47 e48
          exact hx29
      · rename_i y49 y50 e51 e52
        exact hx29
      · rename_i y53 y54 e55 e56
        refine From.step (sourceDone_from ..) ?_ rfl
        exact hx29

theorem writeDataLost_from {s : State} (cause nsid slba nlb : Nat) : From 2199031644160 s (writeDataLost s cause nsid slba nlb) := by
  unfold writeDataLost
  have hF : From 2199031644160 s s := From.refl _ _
  split
  · rename_i e0
    exact hF
  · rename_i e1
    refine From.step (discover_from ..) ?_ rfl
    exact hF

theorem setCfs_from {s : State} (fn : Nat) : From 131072 s (setCfs s fn) := by
  unfold setCfs
  have hF : From 131072 s s := From.refl _ _
  refine From.step (modInst_from ..) ?_ rfl
  exact hF

theorem cfsAll_from {s : State} : From 4398046642176 s (cfsAll s) := by
  unfold cfsAll
  have hF : From 4398046642176 s s := From.refl _ _
  refine From.foldl ?_ ?_ _
  · with_reducible exact From.set_pair hF _ rfl
  · intro a0 a1 a2
    refine From.step (setCfs_from ..) ?_ rfl
    exact a2

theorem copyDestFail_from {s : State} (r : Reloc) (die block : Nat) : From 2235125335874 s (copyDestFail s r die block) := by
  unfold copyDestFail
  have hF : From 2235125335874 s s := From.refl _ _
  extract_lets +onlyGivenNames x0
  have hx0 : From 2235125335874 s x0 := by
    subst x0
    refine From.step (event_from ..) ?_ rfl
    exact hF
  clear_value x0
  split
  · rename_i y1 y2 e3
    extract_lets +onlyGivenNames x4
    clear_value x4
    extract_lets +onlyGivenNames x5
    clear_value x5
    split
    · rename_i y6 y7 y8 e9
      have h10 : From 2235125335874 s y8 := by
        refine From.snd e9 ?_
        refine From.step (placeAll_from ..) ?_ rfl
        exact hx0
      extract_lets +onlyGivenNames x11
      clear_value x11
      extract_lets +onlyGivenNames x12
      clear_value x12
      extract_lets +onlyGivenNames x13
      have hx13 : From 2235125335874 s x13 := by
        subst x13
        with_reducible exact From.set_xlat h10 _ rfl
      clear_value x13
      refine From.step (blockFails_from ..) ?_ rfl
      exact hx13
  · rename_i y14 e15
    refine From.step (blockRetire_from ..) ?_ rfl
    refine From.step (redirect_from ..) ?_ rfl
    exact hx0

theorem programFail_from {s : State} (die block : Nat) : From 2235125335874 s (programFail s die block) := by
  unfold programFail
  have hF : From 2235125335874 s s := From.refl _ _
  extract_lets +onlyGivenNames x0
  clear_value x0
  split
  · rename_i y1 y2
    refine From.step (copyDestFail_from ..) ?_ rfl
    exact hF
  · rename_i y3
    refine From.step (blockFails_from ..) ?_ rfl
    exact hF

theorem heldLost_from {s : State} (cause : Nat) (h : Held) : From 6633171846978 s (heldLost s cause h) := by
  unfold heldLost
  have hF : From 6633171846978 s s := From.refl _ _
  split
  · rename_i y0 y1 y2 y3
    refine From.step (writeDataLost_from ..) ?_ rfl
    exact hF
  · rename_i y4 y5 y6 y7
    exact hF
  · rename_i y8 y9 y10
    extract_lets +onlyGivenNames x11
    clear_value x11
    with_reducible exact From.set_xlat hF _ rfl
  · rename_i y12 y13 y14 y15
    refine From.step (discover_from ..) ?_ rfl
    exact hF
  · rename_i y16 y17
    refine From.step (setCfs_from ..) ?_ rfl
    exact hF
  · rename_i y18 y19 y20 y21
    split
    · rename_i e22
      refine From.step (programFail_from ..) ?_ rfl
      exact hF
    · rename_i e23
      exact hF
  · rename_i y24 y25
    with_reducible exact From.set_nand hF _ rfl
  · rename_i y26 y27
    with_reducible exact From.set_pair hF _ rfl
  · rename_i y28
    refine From.step (allReadOnly_from ..) ?_ rfl
    exact hF
  · rename_i y29
    exact hF

theorem countHard_from {s : State} (region : Nat) : From 2 s (countHard s region) := by
  unfold countHard
  have hF : From 2 s s := From.refl _ _
  refine From.step (setV_from ..) ?_ rfl
  exact hF

theorem hardBit_from {s : State} (region address bit : Nat) : From 274877907266 s (hardBit s region address bit) := by
  unfold hardBit
  have hF : From 274877907266 s s := From.refl _ _
  extract_lets +onlyGivenNames x0
  clear_value x0
  split
  · rename_i y1 y2 e3
    split
    · rename_i e4
      exact hF
    · rename_i e5
      extract_lets +onlyGivenNames x6
      clear_value x6
      extract_lets +onlyGivenNames x7
      have hx7 : From 274877907266 s x7 := by
        subst x7
        with_reducible exact From.set_bufs hF _ rfl
      clear_value x7
      refine From.step (event_from ..) ?_ rfl
      refine From.step (domChanged_from ..) ?_ rfl
      exact hx7
  · rename_i y8 e9
    split
    · rename_i e10
      extract_lets +onlyGivenNames x11
      clear_value x11
      extract_lets +onlyGivenNames x12
      have hx12 : From 274877907266 s x12 := by
        subst x12
        with_reducible exact From.set_bufs hF _ rfl
      clear_value x12
      refine From.step (event_from ..) ?_ rfl
      refine From.step (countHard_from ..) ?_ rfl
      refine From.step (domChanged_from ..) ?_ rfl
      exact hx12
    · rename_i e13
      refine From.step (bump32_from ..) ?_ rfl
      exact hF

theorem eccCorrected_from {s : State} (e : WordErr) : From 274877907266 s (eccCorrected s e) := by
  unfold eccCorrected
  have hF : From 274877907266 s s := From.refl _ _
  extract_lets +onlyGivenNames x0
  have hx0 : From 274877907266 s x0 := by
    subst x0
    refine From.step (bump64_from ..) ?_ rfl
    exact hF
  clear_value x0
  extract_lets +onlyGivenNames x1
  have hx1 : From 274877907266 s x1 := by
    subst x1
    refine From.foldl ?_ ?_ _
    · exact hx0
    · intro a2 a3 a4
      refine From.step (hardBit_from ..) ?_ rfl
      exact a4
  clear_value x1
  split
  · rename_i y5 y6 e7
    refine From.step (domChanged_from ..) ?_ rfl
    with_reducible exact From.set_bufs hx1 _ rfl
  · rename_i y8 e9
    exact hx1

theorem poisonBuf_from {s : State} (handle : Option Nat) : From 274877906944 s (poisonBuf s handle) := by
  unfold poisonBuf
  have hF : From 274877906944 s s := From.refl _ _
  split
  · rename_i y0 y1
    with_reducible exact From.set_bufs hF _ rfl
  · rename_i y2
    exact hF

theorem eccUncorrectable_from {s : State} (e : WordErr) : From 6908049753922 s (eccUncorrectable s e) := by
  unfold eccUncorrectable
  have hF : From 6908049753922 s s := From.refl _ _
  extract_lets +onlyGivenNames x0
  have hx0 : From 6908049753922 s x0 := by
    subst x0
    refine From.step (bump32_from ..) ?_ rfl
    exact hF
  clear_value x0
  split
  · rename_i e1
    exact hx0
  · rename_i e2
    extract_lets +onlyGivenNames x3
    have hx3 : From 6908049753922 s x3 := by
      subst x3
      refine From.step (event_from ..) ?_ rfl
      exact hx0
    clear_value x3
    extract_lets +onlyGivenNames x4
    have hx4 : From 6908049753922 s x4 := by
      subst x4
      refine From.step (setV_from ..) ?_ rfl
      exact hx3
    clear_value x4
    refine From.step (heldLost_from ..) ?_ rfl
    refine From.step (poisonBuf_from ..) ?_ rfl
    exact hx4

theorem eccRead_from {s : State} (e : WordErr) : From 6908049753922 s (eccRead s e) := by
  unfold eccRead
  have hF : From 6908049753922 s s := From.refl _ _
  split
  · rename_i e0
    refine From.step (eccUncorrectable_from ..) ?_ rfl
    exact hF
  · rename_i e1
    split
    · rename_i e2
      exact hF
    · rename_i e3
      refine From.step (eccCorrected_from ..) ?_ rfl
      exact hF

theorem scrubLapEnd_from {s : State} (region : Nat) (l : ScrubLap) : From 274877907202 s (scrubLapEnd s region l) := by
  unfold scrubLapEnd
  have hF : From 274877907202 s s := From.refl _ _
  extract_lets +onlyGivenNames x0
  clear_value x0
  extract_lets +onlyGivenNames x1
  have hx1 : From 274877907202 s x1 := by
    subst x1
    refine From.step (setV_from ..) ?_ rfl
    exact hF
  clear_value x1
  extract_lets +onlyGivenNames x2
  clear_value x2
  extract_lets +onlyGivenNames x3
  have hx3 : From 274877907202 s x3 := by
    subst x3
    with_reducible exact From.set_bufs hx1 _ rfl
  clear_value x3
  split
  · rename_i e4
    refine From.step (event_from ..) ?_ rfl
    exact hx3
  · rename_i e5
    exact hx3

theorem scrubAccess_from {s : State} (region : Nat) (idle : Bool) (err : Option WordErr) : From 6908049753922 s (scrubAccess s region idle err) := by
  unfold scrubAccess
  have hF : From 6908049753922 s s := From.refl _ _
  extract_lets +onlyGivenNames x0
  split
  · rename_i e1
    exact hF
  · rename_i e2
    extract_lets +onlyGivenNames x3
    have hx3 : From 6908049753922 s x3 := by
      subst x3
      split
      · rename_i e4
        exact hF
      · rename_i e5
        refine From.step (bump64_from ..) ?_ rfl
        exact hF
    clear_value x3
    extract_lets +onlyGivenNames x6
    have hx6 : From 6908049753922 s x6 := by
      subst x6
      split
      · rename_i y7 y8
        refine From.step (eccRead_from ..) ?_ rfl
        exact hx3
      · rename_i y9
        exact hx3
    clear_value x6
    extract_lets +onlyGivenNames x10
    split
    · rename_i e11
      refine From.step (scrubLapEnd_from ..) ?_ rfl
      exact hx6
    · rename_i e12
      with_reducible exact From.set_bufs hx6 _ rfl

theorem execScrubAccess_from (region : Nat) (idle : Bool) (err : Option WordErr) {s : State} : FromO 6908049753922 s (execScrubAccess region idle err s) := by
  unfold execScrubAccess
  have hF : From 6908049753922 s s := From.refl _ _
  refine FromO.next ?_
  refine From.step (scrubAccess_from ..) ?_ rfl
  exact hF

theorem modTest_from {s : State} (f : EccTest → EccTest) : From 274877906944 s (modTest s f) := by
  unfold modTest
  have hF : From 274877906944 s s := From.refl _ _
  with_reducible exact From.set_bufs hF _ rfl

theorem eccTestOp_from {s : State} (region : Nat) (f : EccTest → EccTest) : From 274877906944 s (eccTestOp s region f) := by
  unfold eccTestOp
  have hF : From 274877906944 s s := From.refl _ _
  split
  · rename_i e0
    exact hF
  · rename_i e1
    extract_lets +onlyGivenNames x2
    have hx2 : From 274877906944 s x2 := by
      subst x2
      refine From.step (modTest_from ..) ?_ rfl
      exact hF
    clear_value x2
    split
    · rename_i e3
      refine From.step (modTest_from ..) ?_ rfl
      exact hx2
    · rename_i e4
      refine From.step (modTest_from ..) ?_ rfl
      exact hx2

theorem eccTestWrite_from {s : State} (region : Nat) : From 274877906944 s (eccTestWrite s region) := by
  unfold eccTestWrite
  have hF : From 274877906944 s s := From.refl _ _
  refine From.step (eccTestOp_from ..) ?_ rfl
  exact hF

theorem eccTestWriteData_from {s : State} (region : Nat) : From 274877906944 s (eccTestWriteData s region) := by
  unfold eccTestWriteData
  have hF : From 274877906944 s s := From.refl _ _
  extract_lets +onlyGivenNames x0
  clear_value x0
  refine From.step (eccTestOp_from ..) ?_ rfl
  exact hF

theorem eccTestWriteCheck_from {s : State} (region : Nat) : From 274877906944 s (eccTestWriteCheck s region) := by
  unfold eccTestWriteCheck
  have hF : From 274877906944 s s := From.refl _ _
  extract_lets +onlyGivenNames x0
  clear_value x0
  refine From.step (eccTestOp_from ..) ?_ rfl
  exact hF

theorem eccTestReport_from {s : State} (region : Nat) : From 274877906946 s (eccTestReport s region) := by
  unfold eccTestReport
  have hF : From 274877906946 s s := From.refl _ _
  split
  · rename_i e0
    split
    · rename_i y1 y2 y3 e4
      split
      · rename_i y5 y6 y7 e8
        extract_lets +onlyGivenNames x9
        have hx9 : From 274877906946 s x9 := by
          subst x9
          refine From.step (modTest_from ..) ?_ rfl
          exact hF
        clear_value x9
        split
        · rename_i e10
          exact hx9
        · rename_i e11
          refine From.step (bump32_from ..) ?_ rfl
          exact hx9
  · rename_i e12
    exact hF

theorem eccTestReadCorrected_from {s : State} (region : Nat) : From 274877906946 s (eccTestReadCorrected s region) := by
  unfold eccTestReadCorrected
  have hF : From 274877906946 s s := From.refl _ _
  extract_lets +onlyGivenNames x0
  have hx0 : From 274877906946 s x0 := by
    subst x0
    refine From.step (eccTestReport_from ..) ?_ rfl
    exact hF
  clear_value x0
  extract_lets +onlyGivenNames x1
  clear_value x1
  refine From.step (eccTestOp_from ..) ?_ rfl
  exact hx0

theorem eccTestReadRaw_from {s : State} (region : Nat) : From 274877906946 s (eccTestReadRaw s region) := by
  unfold eccTestReadRaw
  have hF : From 274877906946 s s := From.refl _ _
  extract_lets +onlyGivenNames x0
  have hx0 : From 274877906946 s x0 := by
    subst x0
    refine From.step (eccTestReport_from ..) ?_ rfl
    exact hF
  clear_value x0
  extract_lets +onlyGivenNames x1
  clear_value x1
  refine From.step (eccTestOp_from ..) ?_ rfl
  exact hx0

theorem execEccTestWrite_from (region : Nat) {s : State} : FromO 274877906944 s (execEccTestWrite region s) := by
  unfold execEccTestWrite
  have hF : From 274877906944 s s := From.refl _ _
  refine FromO.next ?_
  refine From.step (eccTestWrite_from ..) ?_ rfl
  exact hF

theorem execEccTestWriteData_from (region : Nat) {s : State} : FromO 274877906944 s (execEccTestWriteData region s) := by
  unfold execEccTestWriteData
  have hF : From 274877906944 s s := From.refl _ _
  refine FromO.next ?_
  refine From.step (eccTestWriteData_from ..) ?_ rfl
  exact hF

theorem execEccTestWriteCheck_from (region : Nat) {s : State} : FromO 274877906944 s (execEccTestWriteCheck region s) := by
  unfold execEccTestWriteCheck
  have hF : From 274877906944 s s := From.refl _ _
  refine FromO.next ?_
  refine From.step (eccTestWriteCheck_from ..) ?_ rfl
  exact hF

theorem execEccTestReadCorrected_from (region : Nat) {s : State} : FromO 274877906946 s (execEccTestReadCorrected region s) := by
  unfold execEccTestReadCorrected
  have hF : From 274877906946 s s := From.refl _ _
  refine FromO.next ?_
  refine From.step (eccTestReadCorrected_from ..) ?_ rfl
  exact hF

theorem execEccTestReadRaw_from (region : Nat) {s : State} : FromO 274877906946 s (execEccTestReadRaw region s) := by
  unfold execEccTestReadRaw
  have hF : From 274877906946 s s := From.refl _ _
  refine FromO.next ?_
  refine From.step (eccTestReadRaw_from ..) ?_ rfl
  exact hF

theorem poolSetup_from {s : State} : From 274877907202 s (poolSetup s) := by
  unfold poolSetup
  have hF : From 274877907202 s s := From.refl _ _
  extract_lets +onlyGivenNames x0
  clear_value x0
  extract_lets +onlyGivenNames x1
  clear_value x1
  extract_lets +onlyGivenNames x2
  clear_value x2
  extract_lets +onlyGivenNames x3
  have hx3 : From 274877907202 s x3 := by
    subst x3
    with_reducible exact From.set_bufs hF _ rfl
  clear_value x3
  extract_lets +onlyGivenNames x4
  have hx4 : From 274877907202 s x4 := by
    subst x4
    split
    · rename_i e5
      exact hx3
    · rename_i e6
      refine From.step (event_from ..) ?_ rfl
      exact hx3
  clear_value x4
  refine From.foldl ?_ ?_ _
  · exact hx4
  · intro a7 a8 a9
    extract_lets +onlyGivenNames x10
    clear_value x10
    refine From.step (setV_from ..) ?_ rfl
    refine From.step (setV_from ..) ?_ rfl
    exact a9

theorem watermark_from {s : State} (w : Nat) : From 1142556418 s (watermark s w) := by
  unfold watermark
  have hF : From 1142556418 s s := From.refl _ _
  extract_lets +onlyGivenNames x0
  clear_value x0
  extract_lets +onlyGivenNames x1
  clear_value x1
  extract_lets +onlyGivenNames x2
  clear_value x2
  extract_lets +onlyGivenNames x3
  clear_value x3
  extract_lets +onlyGivenNames x4
  clear_value x4
  extract_lets +onlyGivenNames x5
  clear_value x5
  extract_lets +onlyGivenNames x6
  have hx6 : From 1142556418 s x6 := by
    subst x6
    refine From.step (setV_from ..) ?_ rfl
    exact hF
  clear_value x6
  split
  · rename_i e7
    refine From.step (aenPfs_from ..) ?_ rfl
    refine From.step (event_from ..) ?_ rfl
    exact hx6
  · rename_i e8
    exact hx6

theorem watermarks_from {s : State} : From 1142556418 s (watermarks s) := by
  unfold watermarks
  have hF : From 1142556418 s s := From.refl _ _
  refine From.foldl ?_ ?_ _
  · exact hF
  · intro a0 a1 a2
    refine From.step (watermark_from ..) ?_ rfl
    exact a2

theorem wmRecordRead_from {s : State} (w : Nat) : From 2 s (wmRecordRead s w).2 := by
  unfold wmRecordRead
  have hF : From 2 s s := From.refl _ _
  extract_lets +onlyGivenNames x0
  clear_value x0
  refine From.pair ?_
  refine From.step (setV_from ..) ?_ rfl
  exact hF

theorem bpRefuse_from {s : State} (code h requester : Nat) : From 274877907202 s (bpRefuse s code h requester) := by
  unfold bpRefuse
  have hF : From 274877907202 s s := From.refl _ _
  extract_lets +onlyGivenNames x0
  clear_value x0
  extract_lets +onlyGivenNames x1
  have hx1 : From 274877907202 s x1 := by
    subst x1
    with_reducible exact From.set_bufs hF _ rfl
  clear_value x1
  extract_lets +onlyGivenNames x2
  have hx2 : From 274877907202 s x2 := by
    subst x2
    split
    · rename_i e3
      refine From.step (bump32_from ..) ?_ rfl
      exact hx1
    · rename_i e4
      split
      · rename_i e5
        refine From.step (bump32_from ..) ?_ rfl
        exact hx1
      · rename_i e6
        split
        · rename_i e7
          refine From.step (bump32_from ..) ?_ rfl
          exact hx1
        · rename_i e8
          exact hx1
  clear_value x2
  refine From.step (event_from ..) ?_ rfl
  refine From.step (setV_from ..) ?_ rfl
  exact hx2

theorem grantBuf_from {s : State} (domain p i inst : Nat) : From 274877906944 s (grantBuf s domain p i inst) := by
  unfold grantBuf
  have hF : From 274877906944 s s := From.refl _ _
  extract_lets +onlyGivenNames x0
  clear_value x0
  extract_lets +onlyGivenNames x1
  clear_value x1
  with_reducible exact From.set_bufs hF _ rfl

theorem tryGrant_from {s : State} {q : BufReq} {t : State} (e : tryGrant s q = some t) : From 276020463362 s t := by
  have hF : From 276020463362 s s := From.refl _ _
  unfold tryGrant at e
  split at e
  · exact absurd e (by simp)
  · split at e
    · split at e
      · simp only [Option.some.injEq] at e
        subst e
        exact From.step watermarks_from (From.step (grantBuf_from _ _ _ _) hF rfl) rfl
      · exact absurd e (by simp)
    · split at e
      · simp only [Option.map_eq_some_iff] at e
        obtain ⟨i, -, rfl⟩ := e
        exact From.step watermarks_from (From.step (bump64_from _) (From.step (grantBuf_from _ _ _ _) hF rfl) rfl) rfl
      · exact absurd e (by simp)

theorem bufferAllocate_from {s : State} (domain bytes requester inst : Nat) : From 276020463362 s (bufferAllocate s domain bytes requester inst) := by
  unfold bufferAllocate
  have hF : From 276020463362 s s := From.refl _ _
  split
  · rename_i e0
    refine From.step (bpRefuse_from ..) ?_ rfl
    exact hF
  · rename_i e1
    split
    · rename_i e2
      refine From.step (bpRefuse_from ..) ?_ rfl
      exact hF
    · rename_i e3
      split
      · rename_i y4 y5 e6
        have h7 : From 276020463362 s y5 := by
          refine From.step (tryGrant_from e6) ?_ rfl
          exact hF
        exact h7
      · rename_i y8 e9
        with_reducible exact From.set_bufs hF _ rfl

theorem execBufferAllocate_from (domain bytes requester inst : Nat) {s : State} : FromO 276020463362 s (execBufferAllocate domain bytes requester inst s) := by
  unfold execBufferAllocate
  have hF : From 276020463362 s s := From.refl _ _
  refine FromO.next ?_
  refine From.step (bufferAllocate_from ..) ?_ rfl
  exact hF

theorem bufferAcquire_from {s : State} (h requester : Nat) : From 274877907202 s (bufferAcquire s h requester) := by
  unfold bufferAcquire
  have hF : From 274877907202 s s := From.refl _ _
  extract_lets +onlyGivenNames x0
  clear_value x0
  extract_lets +onlyGivenNames x1
  clear_value x1
  split
  · rename_i e2
    refine From.step (bpRefuse_from ..) ?_ rfl
    exact hF
  · rename_i e3
    split
    · rename_i e4
      refine From.step (bpRefuse_from ..) ?_ rfl
      exact hF
    · rename_i e5
      split
      · rename_i e6
        refine From.step (bpRefuse_from ..) ?_ rfl
        exact hF
      · rename_i e7
        split
        · rename_i e8
          refine From.step (bpRefuse_from ..) ?_ rfl
          exact hF
        · rename_i e9
          with_reducible exact From.set_bufs hF _ rfl

theorem execBufferAcquire_from (handle requester : Nat) {s : State} : FromO 274877907202 s (execBufferAcquire handle requester s) := by
  unfold execBufferAcquire
  have hF : From 274877907202 s s := From.refl _ _
  refine FromO.next ?_
  refine From.step (bufferAcquire_from ..) ?_ rfl
  exact hF

theorem grantWaiting_from {s : State} (n : Nat) : From 276020463362 s (grantWaiting n s) := by
  induction n generalizing s with
  | zero => exact From.refl _ _
  | succ n ih =>
    have hF : From 276020463362 s s := From.refl _ _
    simp only [grantWaiting]
    split
    · split
      · rename_i e
        exact From.step ih (From.same 274877906944 (From.step (tryGrant_from e) hF (m := 276020463362) rfl) (by with_reducible rfl) rfl rfl) rfl
      · exact hF
    · exact hF

theorem bufferRelease_from {s : State} (h requester : Nat) : From 276020463362 s (bufferRelease s h requester) := by
  unfold bufferRelease
  have hF : From 276020463362 s s := From.refl _ _
  extract_lets +onlyGivenNames x0
  clear_value x0
  extract_lets +onlyGivenNames x1
  clear_value x1
  split
  · rename_i e2
    refine From.step (bpRefuse_from ..) ?_ rfl
    exact hF
  · rename_i e3
    split
    · rename_i e4
      refine From.step (bpRefuse_from ..) ?_ rfl
      exact hF
    · rename_i e5
      split
      · rename_i e6
        refine From.step (bpRefuse_from ..) ?_ rfl
        exact hF
      · rename_i e7
        extract_lets +onlyGivenNames x8
        clear_value x8
        extract_lets +onlyGivenNames x9
        clear_value x9
        extract_lets +onlyGivenNames x10
        have hx10 : From 276020463362 s x10 := by
          subst x10
          with_reducible exact From.set_bufs hF _ rfl
        clear_value x10
        split
        · rename_i e11
          exact hx10
        · rename_i e12
          refine From.step (grantWaiting_from ..) ?_ rfl
          refine From.step (watermarks_from ..) ?_ rfl
          exact hx10

theorem execBufferRelease_from (handle requester : Nat) {s : State} : FromO 276020463362 s (execBufferRelease handle requester s) := by
  unfold execBufferRelease
  have hF : From 276020463362 s s := From.refl _ _
  refine FromO.next ?_
  refine From.step (bufferRelease_from ..) ?_ rfl
  exact hF

theorem dramFatal_from {s : State} (ch cause offered : Nat) : From 258 s (dramFatal s ch cause offered) := by
  unfold dramFatal
  have hF : From 258 s s := From.refl _ _
  refine From.step (event_from ..) ?_ rfl
  refine From.step (negFail_from ..) ?_ rfl
  exact hF

theorem dramLayout_from {s : State} (bytes : Nat) : From 258 s (dramLayout s bytes) := by
  unfold dramLayout
  have hF : From 258 s s := From.refl _ _
  extract_lets +onlyGivenNames x0
  clear_value x0
  extract_lets +onlyGivenNames x1
  clear_value x1
  extract_lets +onlyGivenNames x2
  have hx2 : From 258 s x2 := by
    subst x2
    split
    · rename_i e3
      refine From.step (event_from ..) ?_ rfl
      exact hF
    · rename_i e4
      exact hF
  clear_value x2
  extract_lets +onlyGivenNames x5
  have hx5 : From 258 s x5 := by
    subst x5
    refine From.step (setV_from ..) ?_ rfl
    exact hx2
  clear_value x5
  extract_lets +onlyGivenNames x6
  have hx6 : From 258 s x6 := by
    subst x6
    refine From.step (setV_from ..) ?_ rfl
    refine From.step (setV_from ..) ?_ rfl
    exact hx5
  clear_value x6
  refine From.step (setV_from ..) ?_ rfl
  exact hx6

theorem dramMasks_from {s : State} (ranks width density : Nat) : From 137438953730 s (dramMasks s ranks width density) := by
  unfold dramMasks
  have hF : From 137438953730 s s := From.refl _ _
  extract_lets +onlyGivenNames x0
  clear_value x0
  split
  · rename_i y1 e2
    with_reducible exact From.set_dram hF _ rfl
  · rename_i y3 y4 e5
    refine From.step (event_from ..) ?_ rfl
    with_reducible exact From.set_dram hF _ rfl

theorem dramNegotiate_from {s : State} (channels : List (Nat × List Nat)) : From 4535485595906 s (dramNegotiate s channels) := by
  unfold dramNegotiate
  have hF : From 4535485595906 s s := From.refl _ _
  extract_lets +onlyGivenNames x0
  clear_value x0
  extract_lets +onlyGivenNames x1
  clear_value x1
  extract_lets +onlyGivenNames x2
  clear_value x2
  extract_lets +onlyGivenNames x3
  clear_value x3
  extract_lets +onlyGivenNames x4
  clear_value x4
  extract_lets +onlyGivenNames x5
  clear_value x5
  extract_lets +onlyGivenNames x6
  clear_value x6
  extract_lets +onlyGivenNames x7
  clear_value x7
  extract_lets +onlyGivenNames x8
  subst x8
  dsimp -zeta only
  extract_lets +onlyGivenNames x9
  clear_value x9
  split
  · rename_i e10
    refine From.step (cfsAll_from ..) ?_ rfl
    extract_lets +onlyGivenNames x11
    have hx11 : From 4535485595906 s x11 := by
      subst x11
      refine From.foldl ?_ ?_ _
      · exact hF
      · intro a12 a13 a14
        refine From.step (dramFatal_from ..) ?_ rfl
        exact a14
    clear_value x11
    with_reducible exact From.set_dram hx11 _ rfl
  · rename_i e15
    split
    · rename_i e16
      refine From.step (cfsAll_from ..) ?_ rfl
      extract_lets +onlyGivenNames x17
      have hx17 : From 4535485595906 s x17 := by
        subst x17
        refine From.foldl ?_ ?_ _
        · exact hF
        · intro a18 a19 a20
          refine From.step (dramFatal_from ..) ?_ rfl
          exact a20
      clear_value x17
      with_reducible exact From.set_dram hx17 _ rfl
    · rename_i e21
      extract_lets +onlyGivenNames x22
      clear_value x22
      extract_lets +onlyGivenNames x23
      clear_value x23
      extract_lets +onlyGivenNames x24
      have hx24 : From 4535485595906 s x24 := by
        subst x24
        refine From.foldl ?_ ?_ _
        · exact hF
        · intro a25 a26 a27
          extract_lets +onlyGivenNames x28
          have hx28 : From 4535485595906 s x28 := by
            subst x28
            refine From.step (negSettle_from ..) ?_ rfl
            exact a27
          clear_value x28
          split
          · rename_i e29
            exact hx28
          · rename_i e30
            refine From.step (event_from ..) ?_ rfl
            exact hx28
      clear_value x24
      extract_lets +onlyGivenNames x31
      have hx31 : From 4535485595906 s x31 := by
        subst x31
        refine From.step (setV_from ..) ?_ rfl
        refine From.step (setV_from ..) ?_ rfl
        refine From.step (setV_from ..) ?_ rfl
        exact hx24
      clear_value x31
      extract_lets +onlyGivenNames x32
      clear_value x32
      extract_lets +onlyGivenNames x33
      have hx33 : From 4535485595906 s x33 := by
        subst x33
        with_reducible exact From.set_dram hx31 _ rfl
      clear_value x33
      refine From.step (dramLayout_from ..) ?_ rfl
      refine From.step (dramMasks_from ..) ?_ rfl
      exact hx33

theorem execDramNegotiation_from (channels : List (Nat × List Nat)) {s : State} : FromO 4535485595906 s (execDramNegotiation channels s) := by
  unfold execDramNegotiation
  have hF : From 4535485595906 s s := From.refl _ _
  refine FromO.next ?_
  refine From.step (dramNegotiate_from ..) ?_ rfl
  exact hF

theorem modSub_from {s : State} (k : Nat) (f : SubCh → SubCh) : From 137438953472 s (modSub s k f) := by
  unfold modSub
  have hF : From 137438953472 s s := From.refl _ _
  with_reducible exact From.set_dram hF _ rfl

theorem modChan_from {s : State} (ch : Nat) (f : DramCh → DramCh) : From 137438953472 s (modChan s ch f) := by
  unfold modChan
  have hF : From 137438953472 s s := From.refl _ _
  with_reducible exact From.set_dram hF _ rfl

theorem activate_from {s : State} (k bank row : Nat) : From 137438953474 s (activate s k bank row) := by
  unfold activate
  have hF : From 137438953474 s s := From.refl _ _
  extract_lets +onlyGivenNames x0
  clear_value x0
  split
  · rename_i y1 y2 y3 y4 e5
    extract_lets +onlyGivenNames x6
    have hx6 : From 137438953474 s x6 := by
      subst x6
      split
      · rename_i e7
        refine From.step (bump64_from ..) ?_ rfl
        exact hF
      · rename_i e8
        exact hF
    clear_value x6
    extract_lets +onlyGivenNames x9
    clear_value x9
    extract_lets +onlyGivenNames x10
    clear_value x10
    extract_lets +onlyGivenNames x11
    have hx11 : From 137438953474 s x11 := by
      subst x11
      split
      · rename_i e12
        refine From.step (bump64_from ..) ?_ rfl
        exact hx6
      · rename_i e13
        exact hx6
    clear_value x11
    refine From.step (modSub_from ..) ?_ rfl
    exact hx11

theorem putBurst_from {s : State} (burst data : Nat) : From 137438953472 s (putBurst s burst data) := by
  unfold putBurst
  have hF : From 137438953472 s s := From.refl _ _
  with_reducible exact From.set_dram hF _ rfl

theorem serveWrite_from {s : State} (r : DramReq) (o : DramOpp) : From 7045488707394 s (serveWrite s r o) := by
  unfold serveWrite
  have hF : From 7045488707394 s s := From.refl _ _
  extract_lets +onlyGivenNames x0
  clear_value x0
  extract_lets +onlyGivenNames x1
  have hx1 : From 7045488707394 s x1 := by
    subst x1
    refine From.step (bump_from ..) ?_ rfl
    exact hF
  clear_value x1
  split
  · rename_i e2
    refine From.step (putBurst_from ..) ?_ rfl
    exact hx1
  · rename_i e3
    extract_lets +onlyGivenNames x4
    clear_value x4
    extract_lets +onlyGivenNames x5
    have hx5 : From 7045488707394 s x5 := by
      subst x5
      with_reducible exact From.set_dram hx1 _ rfl
    clear_value x5
    extract_lets +onlyGivenNames x6
    clear_value x6
    refine From.step (eccUncorrectable_from ..) ?_ rfl
    exact hx5

theorem serveRead_from {s : State} (r : DramReq) (o : DramOpp) : From 7045488707394 s (serveRead s r o) := by
  unfold serveRead
  have hF : From 7045488707394 s s := From.refl _ _
  extract_lets +onlyGivenNames x0
  clear_value x0
  extract_lets +onlyGivenNames x1
  have hx1 : From 7045488707394 s x1 := by
    subst x1
    with_reducible exact From.set_dram hF _ rfl
  clear_value x1
  refine From.foldl ?_ ?_ _
  · exact hx1
  · intro a2 a3 a4
    refine From.step (eccRead_from ..) ?_ rfl
    exact a4

theorem dramServe_from {s : State} (k : Nat) (o : DramOpp) : From 7045488707394 s (dramServe s k o) := by
  unfold dramServe
  have hF : From 7045488707394 s s := From.refl _ _
  split
  · rename_i e0
    exact hF
  · rename_i e1
    extract_lets +onlyGivenNames x2
    clear_value x2
    split
    · rename_i y3 e4
      exact hF
    · rename_i y5 y6 e7
      extract_lets +onlyGivenNames x8
      clear_value x8
      extract_lets +onlyGivenNames x9
      have hx9 : From 7045488707394 s x9 := by
        subst x9
        split
        · rename_i e10
          refine From.step (modSub_from ..) ?_ rfl
          exact hF
        · rename_i e11
          refine From.step (activate_from ..) ?_ rfl
          exact hF
      clear_value x9
      extract_lets +onlyGivenNames x12
      have hx12 : From 7045488707394 s x12 := by
        subst x12
        refine From.step (modSub_from ..) ?_ rfl
        exact hx9
      clear_value x12
      split
      · rename_i e13
        refine From.step (serveWrite_from ..) ?_ rfl
        exact hx12
      · rename_i e14
        refine From.step (serveRead_from ..) ?_ rfl
        exact hx12

theorem dramRequest_from {s : State} (addr : Nat) (write : Bool) (data : Nat) (opps : List DramOpp) : From 7045488707394 s (dramRequest s addr write data opps) := by
  unfold dramRequest
  have hF : From 7045488707394 s s := From.refl _ _
  extract_lets +onlyGivenNames x0
  clear_value x0
  extract_lets +onlyGivenNames x1
  clear_value x1
  extract_lets +onlyGivenNames x2
  clear_value x2
  extract_lets +onlyGivenNames x3
  clear_value x3
  extract_lets +onlyGivenNames x4
  clear_value x4
  extract_lets +onlyGivenNames x5
  have hx5 : From 7045488707394 s x5 := by
    subst x5
    split
    · rename_i y6 y7 e8
      with_reducible exact From.set_dram hF _ rfl
    · rename_i y9 e10
      refine From.step (modSub_from ..) ?_ rfl
      exact hF
  clear_value x5
  refine From.foldl ?_ ?_ _
  · exact hx5
  · intro a11 a12 a13
    refine From.step (dramServe_from ..) ?_ rfl
    exact a13

theorem execDramRequest_from (addr : Nat) (write : Bool) (data : Nat) (opps : List DramOpp) {s : State} : FromO 7045488707394 s (execDramRequest addr write data opps s) := by
  unfold execDramRequest
  have hF : From 7045488707394 s s := From.refl _ _
  refine FromO.next ?_
  refine From.step (dramRequest_from ..) ?_ rfl
  exact hF

theorem dramDrain_from {s : State} : From 137438953472 s (dramDrain s) := by
  unfold dramDrain
  have hF : From 137438953472 s s := From.refl _ _
  extract_lets +onlyGivenNames x0
  have hx0 : From 137438953472 s x0 := by
    subst x0
    refine From.foldl ?_ ?_ _
    · exact hF
    · intro a1 a2 a3
      refine From.foldl ?_ ?_ _
      · exact a3
      · intro a4 a5 a6
        split
        · rename_i e7
          refine From.step (putBurst_from ..) ?_ rfl
          exact a6
        · rename_i e8
          with_reducible exact From.set_dram a6 _ rfl
  clear_value x0
  with_reducible exact From.set_dram hx0 _ rfl

theorem sameBankRefresh_from {s : State} (ch sub rank ba : Nat) : From 137438953472 s (sameBankRefresh s ch sub rank ba) := by
  unfold sameBankRefresh
  have hF : From 137438953472 s s := From.refl _ _
  extract_lets +onlyGivenNames x0
  clear_value x0
  split
  · rename_i e1
    exact hF
  · rename_i e2
    split
    · rename_i e3
      refine From.step (modSub_from ..) ?_ rfl
      exact hF
    · rename_i e4
      refine From.step (modSub_from ..) ?_ rfl
      exact hF

theorem execSameBankRefresh_from (channel sub rank ba : Nat) {s : State} : FromO 137438953472 s (execSameBankRefresh channel sub rank ba s) := by
  unfold execSameBankRefresh
  have hF : From 137438953472 s s := From.refl _ _
  refine FromO.next ?_
  refine From.step (sameBankRefresh_from ..) ?_ rfl
  exact hF

theorem rowTableClear_from {s : State} : From 137438953472 s (rowTableClear s) := by
  unfold rowTableClear
  have hF : From 137438953472 s s := From.refl _ _
  with_reducible exact From.set_dram hF _ rfl

theorem execRowTableClear_from {s : State} : FromO 137438953472 s (execRowTableClear s) := by
  unfold execRowTableClear
  have hF : From 137438953472 s s := From.refl _ _
  refine FromO.next ?_
  refine From.step (rowTableClear_from ..) ?_ rfl
  exact hF

theorem retrainPause_from {s : State} (ch drift : Nat) : From 137438953474 s (retrainPause s ch drift) := by
  unfold retrainPause
  have hF : From 137438953474 s s := From.refl _ _
  extract_lets +onlyGivenNames x0
  clear_value x0
  extract_lets +onlyGivenNames x1
  subst x1
  dsimp -zeta only
  split
  · rename_i e2
    exact hF
  · rename_i e3
    extract_lets +onlyGivenNames x4
    have hx4 : From 137438953474 s x4 := by
      subst x4
      refine From.step (modChan_from ..) ?_ rfl
      exact hF
    clear_value x4
    extract_lets +onlyGivenNames x5
    clear_value x5
    extract_lets +onlyGivenNames x6
    have hx6 : From 137438953474 s x6 := by
      subst x6
      refine From.step (bump64_from ..) ?_ rfl
      with_reducible exact From.set_dram hx4 _ rfl
    clear_value x6
    split
    · rename_i y7 y8 y9 e10
      split
      · rename_i e11
        split
        · rename_i e12
          refine From.step (bump32_from ..) ?_ rfl
          exact hx6
        · rename_i e13
          exact hx6
      · rename_i e14
        split
        · rename_i e15
          refine From.step (bump32_from ..) ?_ rfl
          exact hx6
        · rename_i e16
          exact hx6
    · rename_i y17 e18
      split
      · rename_i e19
        refine From.step (bump32_from ..) ?_ rfl
        exact hx6
      · rename_i e20
        exact hx6

theorem execRetrainPause_from (channel drift : Nat) {s : State} : FromO 137438953474 s (execRetrainPause channel drift s) := by
  unfold execRetrainPause
  have hF : From 137438953474 s s := From.refl _ _
  refine FromO.next ?_
  refine From.step (retrainPause_from ..) ?_ rfl
  exact hF

theorem respond_from {s : State} (path : Path) (op tag cid idx sub : Nat) (a : Ans) (version : Nat) (value : Bytes) : From 1276773954 s (respond s path op tag cid idx sub a version value) := by
  unfold respond
  have hF : From 1276773954 s s := From.refl _ _
  extract_lets +onlyGivenNames x0
  clear_value x0
  extract_lets +onlyGivenNames x1
  clear_value x1
  extract_lets +onlyGivenNames x2
  clear_value x2
  extract_lets +onlyGivenNames x3
  have hx3 : From 1276773954 s x3 := by
    subst x3
    refine From.step (bump32_from ..) ?_ rfl
    with_reducible exact From.set_miowa hF _ rfl
  clear_value x3
  extract_lets +onlyGivenNames x4
  have hx4 : From 1276773954 s x4 := by
    subst x4
    split
    · rename_i e5
      exact hx3
    · rename_i e6
      refine From.step (setV_from ..) ?_ rfl
      refine From.step (bump32_from ..) ?_ rfl
      exact hx3
  clear_value x4
  split
  · rename_i y7 y8
    split
    · rename_i e9
      refine From.step (complete_from ..) ?_ rfl
      refine From.step (dmaOut_from ..) ?_ rfl
      exact hx4
    · rename_i e10
      refine From.step (complete_from ..) ?_ rfl
      exact hx4
  · rename_i y11 e12
    exact hx4

theorem accessWrite_from {m : Nat} {s t : State} (a : Access) (idx sub value : Nat) {f : State → Nat → Ans × State} (h : From m s t)
    (hf : ∀ u n, From m u (f u n).2) (hm : 1276773954 ||| m = m) : From m s (accessWrite t a idx sub value f) := by
  unfold accessWrite
  split
  · exact From.step (respond_from _ _ _ _ _ _ _ _ _) h hm
  · split
    · exact From.step (respond_from _ _ _ _ _ _ _ _ _) h hm
    · exact From.step (respond_from _ _ _ _ _ _ _ _ _) (h.trans (hf _ _)) hm

theorem accessBytes_from {m : Nat} {s t : State} (a : Access) (idx sub len : Nat) (value : Bytes) {f : State → Nat → Ans × State}
    (h : From m s t) (hf : ∀ u n, From m u (f u n).2) (hm : 1276773954 ||| m = m) :
    From m s (accessBytes t a idx sub len value f) := by
  unfold accessBytes
  extract_lets op
  split
  · exact From.step (respond_from _ _ _ _ _ _ _ _ _) h hm
  · split
    · exact From.step (respond_from _ _ _ _ _ _ _ _ _) h hm
    · exact From.step (respond_from _ _ _ _ _ _ _ _ _) (h.trans (hf _ _)) hm

theorem accessRead_from {m : Nat} {s t : State} (a : Access) (idx sub : Nat) {f : State → Nat → Bytes × State} (h : From m s t)
    (hf : ∀ u n, From m u (f u n).2) (hm : 1276773954 ||| m = m) : From m s (accessRead t a idx sub f) := by
  unfold accessRead
  split
  · exact From.step (respond_from _ _ _ _ _ _ _ _ _) h hm
  · exact From.step (respond_from _ _ _ _ _ _ _ _ _) (h.trans (hf _ _)) hm

theorem cfPut_from {s : State} (w x : Nat) : From 549755813888 s (cfPut s w x) := by
  unfold cfPut
  have hF : From 549755813888 s s := From.refl _ _
  with_reducible exact From.set_cf hF _ rfl

theorem cfProgramWord_from {s : State} (w x : Nat) : From 549755813890 s (cfProgramWord s w x) := by
  unfold cfProgramWord
  have hF : From 549755813890 s s := From.refl _ _
  extract_lets +onlyGivenNames x0
  have hx0 : From 549755813890 s x0 := by
    subst x0
    refine From.step (cfPut_from ..) ?_ rfl
    exact hF
  clear_value x0
  refine From.step (bump64_from ..) ?_ rfl
  with_reducible exact From.set_cf hx0 _ rfl

theorem cfEraseSector_from {s : State} (sec : Nat) : From 549755813890 s (cfEraseSector s sec) := by
  unfold cfEraseSector
  have hF : From 549755813890 s s := From.refl _ _
  extract_lets +onlyGivenNames x0
  subst x0
  dsimp -zeta only
  extract_lets +onlyGivenNames x1
  clear_value x1
  extract_lets +onlyGivenNames x2
  clear_value x2
  extract_lets +onlyGivenNames x3
  have hx3 : From 549755813890 s x3 := by
    subst x3
    with_reducible exact From.set_cf hF _ rfl
  clear_value x3
  refine From.step (bump64_from ..) ?_ rfl
  refine From.step (setV_from ..) ?_ rfl
  exact hx3

theorem cfLast_from {s : State} (code address : Nat) : From 2 s (cfLast s code address) := by
  unfold cfLast
  have hF : From 2 s s := From.refl _ _
  refine From.step (setV_from ..) ?_ rfl
  exact hF

theorem cfDone_from {s : State} (d : CfDesc) (e : CfDone) : From 549755813890 s (cfDone s d e) := by
  unfold cfDone
  have hF : From 549755813890 s s := From.refl _ _
  refine From.step (cfLast_from ..) ?_ rfl
  with_reducible exact From.set_cf hF _ rfl

theorem cfSetRun_from {s : State} (bank : Nat) (o : Option CfOp) : From 549755813888 s (cfSetRun s bank o) := by
  unfold cfSetRun
  have hF : From 549755813888 s s := From.refl _ _
  split
  · rename_i e0
    with_reducible exact From.set_cf hF _ rfl
  · rename_i e1
    with_reducible exact From.set_cf hF _ rfl

theorem cfServe_from {s : State} (n : Nat) : From 549755813890 s (cfServe n s) := by
  induction n generalizing s with
  | zero => exact From.refl _ _
  | succ n ih =>
    have hF : From 549755813890 s s := From.refl _ _
    unfold cfServe
    extract_lets +onlyGivenNames src s1
    have h1 : From 549755813890 s s1 := by
      subst s1
      split
      · split
        · exact From.same 549755813888 hF (by with_reducible rfl) rfl rfl
        · exact hF
      · exact hF
    clear_value s1
    split
    · exact h1
    · split
      · exact h1
      · extract_lets +onlyGivenNames src2 s2 code
        have h2 : From 549755813890 s s2 := From.same 549755813888 h1 (by with_reducible rfl) rfl rfl
        clear_value s2
        split
        · exact From.step ih (From.step (cfSetRun_from _ _) h2 rfl) rfl
        · refine From.step ih (From.step (cfDone_from _ _) ?_ rfl) rfl
          split
          · exact From.step (bump32_from _) h2 rfl
          · exact h2

theorem cfArrive_from {s : State} (op : Nat) (d : CfDesc) (words : List Nat) : From 549755813890 s (cfArrive s op d words) := by
  unfold cfArrive
  have hF : From 549755813890 s s := From.refl _ _
  extract_lets +onlyGivenNames x0
  clear_value x0
  extract_lets +onlyGivenNames x1
  have hx1 : From 549755813890 s x1 := by
    subst x1
    with_reducible exact From.set_cf hF _ rfl
  clear_value x1
  refine From.step (cfServe_from ..) ?_ rfl
  exact hx1

theorem execCfProgram_from (d : CfDesc) (words : List Nat) {s : State} : FromO 549755813890 s (execCfProgram d words s) := by
  unfold execCfProgram
  have hF : From 549755813890 s s := From.refl _ _
  refine FromO.next ?_
  refine From.step (cfArrive_from ..) ?_ rfl
  exact hF

theorem execCfErase_from (d : CfDesc) {s : State} : FromO 549755813890 s (execCfErase d s) := by
  unfold execCfErase
  have hF : From 549755813890 s s := From.refl _ _
  refine FromO.next ?_
  refine From.step (cfArrive_from ..) ?_ rfl
  exact hF

theorem execCfBlankCheck_from (d : CfDesc) {s : State} : FromO 549755813890 s (execCfBlankCheck d s) := by
  unfold execCfBlankCheck
  have hF : From 549755813890 s s := From.refl _ _
  refine FromO.next ?_
  refine From.step (cfArrive_from ..) ?_ rfl
  exact hF

theorem execCfVerify_from (d : CfDesc) (words : List Nat) {s : State} : FromO 549755813890 s (execCfVerify d words s) := by
  unfold execCfVerify
  have hF : From 549755813890 s s := From.refl _ _
  refine FromO.next ?_
  refine From.step (cfArrive_from ..) ?_ rfl
  exact hF

theorem execCfHash_from (d : CfDesc) {s : State} : FromO 549755813890 s (execCfHash d s) := by
  unfold execCfHash
  have hF : From 549755813890 s s := From.refl _ _
  refine FromO.next ?_
  refine From.step (cfArrive_from ..) ?_ rfl
  exact hF

theorem cfSpoilWord_from {s : State} (w x : Nat) : From 9345848836096 s (cfSpoilWord s w x) := by
  unfold cfSpoilWord
  have hF : From 9345848836096 s s := From.refl _ _
  split
  · rename_i y0 y1 y2 e3
    have h4 : From 9345848836096 s y2 := by
      refine From.snd e3 ?_
      refine From.step (freeBelow_from ..) ?_ rfl
      exact hF
    refine From.step (cfPut_from ..) ?_ rfl
    exact h4

theorem cfSpoilSector_from {s : State} (sec : Nat) : From 9345848836096 s (cfSpoilSector s sec) := by
  unfold cfSpoilSector
  have hF : From 9345848836096 s s := From.refl _ _
  refine From.foldl ?_ ?_ _
  · exact hF
  · intro a0 a1 a2
    split
    · rename_i y3 y4 y5 e6
      have h7 : From 9345848836096 s y5 := by
        refine From.snd e6 ?_
        refine From.step (freeBelow_from ..) ?_ rfl
        exact a2
      refine From.step (cfPut_from ..) ?_ rfl
      exact h7

theorem cfEnd_from {s : State} (o : CfOp) (failedAt : Option Nat) (us : Nat) : From 9345848836098 s (cfEnd s o failedAt us) := by
  unfold cfEnd
  have hF : From 9345848836098 s s := From.refl _ _
  extract_lets +onlyGivenNames x0
  clear_value x0
  extract_lets +onlyGivenNames x1
  clear_value x1
  extract_lets +onlyGivenNames x2
  clear_value x2
  extract_lets +onlyGivenNames x3
  clear_value x3
  extract_lets +onlyGivenNames x4
  subst x4
  dsimp -zeta only
  split
  · rename_i e5
    extract_lets +onlyGivenNames x6
    have hx6 : From 9345848836098 s x6 := by
      subst x6
      refine From.foldl ?_ ?_ _
      · exact hF
      · intro a7 a8 a9
        refine From.step (cfProgramWord_from ..) ?_ rfl
        exact a9
    clear_value x6
    extract_lets +onlyGivenNames x10
    have hx10 : From 9345848836098 s x10 := by
      subst x10
      refine From.elim ?_ ?_ _
      · exact hx6
      · intro a11
        refine From.step (cfSpoilWord_from ..) ?_ rfl
        exact hx6
    clear_value x10
    refine From.step (cfDone_from ..) ?_ rfl
    exact hx10
  · rename_i e12
    split
    · rename_i e13
      extract_lets +onlyGivenNames x14
      have hx14 : From 9345848836098 s x14 := by
        subst x14
        refine From.foldl ?_ ?_ _
        · exact hF
        · intro a15 a16 a17
          refine From.step (cfEraseSector_from ..) ?_ rfl
          exact a17
      clear_value x14
      extract_lets +onlyGivenNames x18
      have hx18 : From 9345848836098 s x18 := by
        subst x18
        refine From.elim ?_ ?_ _
        · exact hx14
        · intro a19
          refine From.step (cfSpoilSector_from ..) ?_ rfl
          exact hx14
      clear_value x18
      refine From.step (cfDone_from ..) ?_ rfl
      exact hx18
    · rename_i e20
      split
      · rename_i e21
        refine From.step (cfDone_from ..) ?_ rfl
        exact hF
      · rename_i e22
        split
        · rename_i e23
          refine From.step (cfDone_from ..) ?_ rfl
          exact hF
        · rename_i e24
          refine From.step (cfDone_from ..) ?_ rfl
          with_reducible exact From.set_cf hF _ rfl

theorem cfOperationComplete_from {s : State} (bank : Nat) (failedAt : Option Nat) (us : Nat) : From 9345848836098 s (cfOperationComplete s bank failedAt us) := by
  unfold cfOperationComplete
  have hF : From 9345848836098 s s := From.refl _ _
  split
  · rename_i y0 e1
    exact hF
  · rename_i y2 y3 e4
    extract_lets +onlyGivenNames x5
    have hx5 : From 9345848836098 s x5 := by
      subst x5
      refine From.step (cfEnd_from ..) ?_ rfl
      refine From.step (cfSetRun_from ..) ?_ rfl
      exact hF
    clear_value x5
    refine From.step (cfServe_from ..) ?_ rfl
    exact hx5

theorem cfSuspend_from {s : State} (bank : Nat) : From 549755813890 s (cfSuspend s bank) := by
  unfold cfSuspend
  have hF : From 549755813890 s s := From.refl _ _
  split
  · rename_i y0 y1 e2
    split
    · rename_i e3
      refine From.step (bump64_from ..) ?_ rfl
      refine From.step (cfSetRun_from ..) ?_ rfl
      exact hF
    · rename_i e4
      exact hF
  · rename_i y5 e6
    exact hF

theorem execCfSuspend_from (bank : Nat) {s : State} : FromO 549755813890 s (execCfSuspend bank s) := by
  unfold execCfSuspend
  have hF : From 549755813890 s s := From.refl _ _
  refine FromO.next ?_
  refine From.step (cfSuspend_from ..) ?_ rfl
  exact hF

theorem execCfCopyToSram_from (src dst len digest : Nat) {s : State} : FromO 549755813888 s (execCfCopyToSram src dst len digest s) := by
  unfold execCfCopyToSram
  have hF : From 549755813888 s s := From.refl _ _
  refine FromO.next ?_
  with_reducible exact From.set_cf hF _ rfl

theorem cfCutShort_from {s : State} : From 9345848836096 s (cfCutShort s) := by
  unfold cfCutShort
  have hF : From 9345848836096 s s := From.refl _ _
  extract_lets +onlyGivenNames x0
  have hx0 : From 9345848836096 s x0 := by
    subst x0
    refine From.foldl ?_ ?_ _
    · exact hF
    · intro a1 a2 a3
      split
      · rename_i e4
        refine From.foldl ?_ ?_ _
        · exact a3
        · intro a5 a6 a7
          refine From.step (cfSpoilWord_from ..) ?_ rfl
          exact a7
      · rename_i e8
        split
        · rename_i e9
          refine From.foldl ?_ ?_ _
          · exact a3
          · intro a10 a11 a12
            refine From.step (cfSpoilSector_from ..) ?_ rfl
            exact a12
        · rename_i e13
          exact a3
  clear_value x0
  with_reducible exact From.set_cf hx0 _ rfl

theorem cfPasswordW_from {s : State} (a : Access) (w x : Nat) : From 551032587842 s (cfPasswordW s a w x) := by
  unfold cfPasswordW
  have hF : From 551032587842 s s := From.refl _ _
  apply accessWrite_from
  · exact hF
  · intro a0 a1
    split
    · rename_i e2
      refine From.pair ?_
      exact From.same 549755813888 (From.refl _ _) (by with_reducible rfl) rfl rfl
    · rename_i e3
      refine From.pair ?_
      exact From.same 549755813888 (From.refl _ _) (by with_reducible rfl) rfl rfl
  · rfl

theorem execCfPasswordW_from (a : Access) (w x : Nat) {s : State} : FromO 551032587842 s (execCfPasswordW a w x s) := by
  unfold execCfPasswordW
  have hF : From 551032587842 s s := From.refl _ _
  refine FromO.next ?_
  refine From.step (cfPasswordW_from ..) ?_ rfl
  exact hF

theorem cfUnlockRegion_from {s : State} (a : Access) (x : Nat) : From 551032587842 s (cfUnlockRegion s a x) := by
  unfold cfUnlockRegion
  have hF : From 551032587842 s s := From.refl _ _
  apply accessWrite_from
  · exact hF
  · intro a0 a1
    extract_lets +onlyGivenNames x2
    clear_value x2
    split
    · rename_i e3
      refine From.pair ?_
      refine From.step (cfLast_from ..) ?_ rfl
      exact From.refl _ _
    · rename_i e4
      split
      · rename_i e5
        refine From.pair ?_
        exact From.refl _ _
      · rename_i e6
        extract_lets +onlyGivenNames x7
        clear_value x7
        extract_lets +onlyGivenNames x8
        clear_value x8
        extract_lets +onlyGivenNames x9
        have hx9 : From 551032587842 a0 x9 := by
          subst x9
          exact From.same 549755813888 (From.refl _ _) (by with_reducible rfl) rfl rfl
        clear_value x9
        split
        · rename_i e10
          refine From.pair ?_
          with_reducible exact From.set_cf hx9 _ rfl
        · rename_i e11
          extract_lets +onlyGivenNames x12
          clear_value x12
          extract_lets +onlyGivenNames x13
          have hx13 : From 551032587842 a0 x13 := by
            subst x13
            with_reducible exact From.set_cf hx9 _ rfl
          clear_value x13
          refine From.pair ?_
          refine From.step (cfLast_from ..) ?_ rfl
          refine From.step (setV_from ..) ?_ rfl
          exact hx13
  · rfl

theorem execCfUnlockRegion_from (a : Access) (x : Nat) {s : State} : FromO 551032587842 s (execCfUnlockRegion a x s) := by
  unfold execCfUnlockRegion
  have hF : From 551032587842 s s := From.refl _ _
  refine FromO.next ?_
  refine From.step (cfUnlockRegion_from ..) ?_ rfl
  exact hF

theorem execCfLockRegion_from (a : Access) (x : Nat) {s : State} : FromO 551032587842 s (execCfLockRegion a x s) := by
  unfold execCfLockRegion
  have hF : From 551032587842 s s := From.refl _ _
  refine FromO.next ?_
  apply accessWrite_from
  · exact hF
  · intro a0 a1
    refine From.pair ?_
    exact From.same 549755813888 (From.refl _ _) (by with_reducible rfl) rfl rfl
  · rfl

theorem execCfPasswordChange_from (a : Access) (x : Nat) {s : State} : FromO 551032587842 s (execCfPasswordChange a x s) := by
  unfold execCfPasswordChange
  have hF : From 551032587842 s s := From.refl _ _
  refine FromO.next ?_
  apply accessWrite_from
  · exact hF
  · intro a0 a1
    split
    · rename_i e2
      refine From.pair ?_
      exact From.same 549755813888 (From.refl _ _) (by with_reducible rfl) rfl rfl
    · rename_i e3
      refine From.pair ?_
      exact From.refl _ _
  · rfl

theorem putMarker_from {s : State} (m : Marker) : From 549755813890 s (putMarker s m) := by
  unfold putMarker
  have hF : From 549755813890 s s := From.refl _ _
  refine From.step (bump64_from ..) ?_ rfl
  with_reducible exact From.set_cf hF _ rfl

theorem activateSlot_from {s : State} (slot : Nat) : From 549755813890 s (activateSlot s slot) := by
  unfold activateSlot
  have hF : From 549755813890 s s := From.refl _ _
  extract_lets +onlyGivenNames x0
  clear_value x0
  extract_lets +onlyGivenNames x1
  clear_value x1
  extract_lets +onlyGivenNames x2
  have hx2 : From 549755813890 s x2 := by
    subst x2
    refine From.step (putMarker_from ..) ?_ rfl
    with_reducible exact From.set_cf hF _ rfl
  clear_value x2
  refine From.step (setV_from ..) ?_ rfl
  exact hx2

theorem runSlot_from {s : State} (slot : Nat) : From 1649267441666 s (runSlot s slot) := by
  unfold runSlot
  have hF : From 1649267441666 s s := From.refl _ _
  extract_lets +onlyGivenNames x0
  clear_value x0
  extract_lets +onlyGivenNames x1
  have hx1 : From 1649267441666 s x1 := by
    subst x1
    split
    · rename_i y2 y3
      split
      · rename_i e4
        exact hF
      · rename_i e5
        refine From.step (putMarker_from ..) ?_ rfl
        exact hF
    · rename_i y6
      exact hF
  clear_value x1
  extract_lets +onlyGivenNames x7
  clear_value x7
  extract_lets +onlyGivenNames x8
  have hx8 : From 1649267441666 s x8 := by
    subst x8
    with_reducible exact From.set_boot hx1 _ rfl
  clear_value x8
  refine From.step (setV_from ..) ?_ rfl
  refine From.step (setV_from ..) ?_ rfl
  refine From.step (setV_from ..) ?_ rfl
  refine From.step (setV_from ..) ?_ rfl
  exact hx8

theorem bootTry_from {s : State} (abandoned : Option Nat) (l : List Nat) : From 1649267441922 s (bootTry s abandoned l) := by
  induction l generalizing s with
  | nil => exact From.set_boot (From.refl _ _) _ rfl
  | cons slot r ih =>
    have hF : From 1649267441922 s s := From.refl _ _
    unfold bootTry
    extract_lets c
    split
    · split
      · refine From.step (event_from _ _) (From.step (runSlot_from _) ?_ rfl) rfl
        exact From.set_cf hF _ rfl
      · exact From.step (runSlot_from _) hF rfl
    · exact From.step ih (From.step (event_from _ _) hF rfl) rfl

theorem bootSelect_from {s : State} : From 10445360464130 s (bootSelect s) := by
  unfold bootSelect
  have hF : From 10445360464130 s s := From.refl _ _
  split
  · rename_i y0 y1 y2 e3
    extract_lets +onlyGivenNames x4
    clear_value x4
    extract_lets +onlyGivenNames x5
    have hx5 : From 10445360464130 s x5 := by
      subst x5
      refine From.step (bootTry_from ..) ?_ rfl
      exact hF
    clear_value x5
    exact From.same 9895604649984 hx5 (by with_reducible rfl) rfl rfl

theorem fwConfirm_from {s : State} : From 549755813890 s (fwConfirm s) := by
  unfold fwConfirm
  have hF : From 549755813890 s s := From.refl _ _
  split
  · rename_i e0
    refine From.step (bump64_from ..) ?_ rfl
    with_reducible exact From.set_cf hF _ rfl
  · rename_i e1
    exact hF

theorem execFwConfirm_from {s : State} : FromO 549755813890 s (execFwConfirm s) := by
  unfold execFwConfirm
  have hF : From 549755813890 s s := From.refl _ _
  refine FromO.next ?_
  refine From.step (fwConfirm_from ..) ?_ rfl
  exact hF

theorem eraseSlot_from {s : State} (slot : Nat) : From 549755813890 s (eraseSlot s slot) := by
  unfold eraseSlot
  have hF : From 549755813890 s s := From.refl _ _
  refine From.foldl ?_ ?_ _
  · exact hF
  · intro a0 a1 a2
    refine From.step (cfEraseSector_from ..) ?_ rfl
    exact a2

theorem programSlot_from {s : State} (slot off : Nat) (data : Bytes) : From 549755813890 s (programSlot s slot off data) := by
  unfold programSlot
  have hF : From 549755813890 s s := From.refl _ _
  extract_lets +onlyGivenNames x0
  clear_value x0
  refine From.foldl ?_ ?_ _
  · exact hF
  · intro a1 a2 a3
    refine From.step (cfProgramWord_from ..) ?_ rfl
    exact a3

theorem fwRecoveryImage_from {s : State} (a : Access) (image : Bytes) : From 551032587842 s (fwRecoveryImage s a image) := by
  unfold fwRecoveryImage
  have hF : From 551032587842 s s := From.refl _ _
  split
  · rename_i e0
    refine From.step (respond_from ..) ?_ rfl
    exact hF
  · rename_i e1
    apply accessBytes_from
    · exact hF
    · intro a2 a3
      extract_lets +onlyGivenNames x4
      subst x4
      dsimp -zeta only
      extract_lets +onlyGivenNames x5
      clear_value x5
      split
      · rename_i e6
        refine From.pair ?_
        exact From.refl _ _
      · rename_i e7
        extract_lets +onlyGivenNames x8
        have hx8 : From 551032587842 a2 x8 := by
          subst x8
          refine From.step (programSlot_from ..) ?_ rfl
          refine From.step (eraseSlot_from ..) ?_ rfl
          exact From.refl _ _
        clear_value x8
        extract_lets +onlyGivenNames x9
        clear_value x9
        split
        · rename_i e10
          refine From.pair ?_
          refine From.step (activateSlot_from ..) ?_ rfl
          exact hx8
        · rename_i e11
          refine From.pair ?_
          exact hx8
    · rfl

theorem execFwRecoveryImage_from (a : Access) (image : Bytes) {s : State} : FromO 551032587842 s (execFwRecoveryImage a image s) := by
  unfold execFwRecoveryImage
  have hF : From 551032587842 s s := From.refl _ _
  refine FromO.next ?_
  refine From.step (fwRecoveryImage_from ..) ?_ rfl
  exact hF

theorem execFwRollbackCommit_from (a : Access) (x : Nat) {s : State} : FromO 1276773954 s (execFwRollbackCommit a x s) := by
  unfold execFwRollbackCommit
  have hF : From 1276773954 s s := From.refl _ _
  refine FromO.next ?_
  apply accessWrite_from
  · exact hF
  · intro a0 a1
    split
    · rename_i e2
      refine From.pair ?_
      exact From.refl _ _
    · rename_i e3
      refine From.pair ?_
      refine From.step (setV_from ..) ?_ rfl
      exact From.refl _ _
  · rfl

theorem endHold_from {s : State} : From 549755813888 s (endHold s) := by
  unfold endHold
  have hF : From 549755813888 s s := From.refl _ _
  with_reducible exact From.set_cf hF _ rfl

theorem execFwUpdateHoldTimeout_from {s : State} : FromO 549755813888 s (execFwUpdateHoldTimeout s) := by
  unfold execFwUpdateHoldTimeout
  have hF : From 549755813888 s s := From.refl _ _
  refine FromO.next ?_
  refine From.step (endHold_from ..) ?_ rfl
  exact hF

theorem firmwareDownload_from {s : State} (c : Cmd) (off : Nat) (data : Bytes) : From 550898370050 s (firmwareDownload s c off data) := by
  unfold firmwareDownload
  have hF : From 550898370050 s s := From.refl _ _
  extract_lets +onlyGivenNames x0
  clear_value x0
  split
  · rename_i e1
    refine From.step (complete_from ..) ?_ rfl
    exact hF
  · rename_i e2
    extract_lets +onlyGivenNames x3
    clear_value x3
    extract_lets +onlyGivenNames x4
    have hx4 : From 550898370050 s x4 := by
      subst x4
      refine From.step (eraseSlot_from ..) ?_ rfl
      exact hF
    clear_value x4
    extract_lets +onlyGivenNames x5
    clear_value x5
    extract_lets +onlyGivenNames x6
    have hx6 : From 550898370050 s x6 := by
      subst x6
      split
      · rename_i e7
        with_reducible exact From.set_cf hx4 _ rfl
      · rename_i e8
        exact hF
    clear_value x6
    extract_lets +onlyGivenNames x9
    have hx9 : From 550898370050 s x9 := by
      subst x9
      refine From.step (programSlot_from ..) ?_ rfl
      exact hx6
    clear_value x9
    refine From.step (complete_from ..) ?_ rfl
    with_reducible exact From.set_cf hx9 _ rfl

theorem execFirmwareImageDownload_from (c : Cmd) (off : Nat) (data : Bytes) {s : State} : FromO 550898370050 s (execFirmwareImageDownload c off data s) := by
  unfold execFirmwareImageDownload
  have hF : From 550898370050 s s := From.refl _ _
  refine FromO.next ?_
  refine From.step (firmwareDownload_from ..) ?_ rfl
  exact hF

theorem endHoldOf_from {s : State} (fn : Nat) : From 549755813888 s (endHoldOf s fn) := by
  unfold endHoldOf
  have hF : From 549755813888 s s := From.refl _ _
  split
  · rename_i e0
    refine From.step (endHold_from ..) ?_ rfl
    exact hF
  · rename_i e1
    exact hF

theorem execFirmwareCommitVerify_from (c : Cmd) (slot : Nat) {s : State} : FromO 1142556162 s (execFirmwareCommitVerify c slot s) := by
  unfold execFirmwareCommitVerify
  have hF : From 1142556162 s s := From.refl _ _
  extract_lets +onlyGivenNames x0
  clear_value x0
  refine FromO.next ?_
  refine From.step (complete_from ..) ?_ rfl
  exact hF

theorem commitActivate_from {s : State} (c : Cmd) (slot : Nat) (same marker : Bool) : From 550898370050 s (commitActivate s c slot same marker) := by
  unfold commitActivate
  have hF : From 550898370050 s s := From.refl _ _
  extract_lets +onlyGivenNames x0
  clear_value x0
  extract_lets +onlyGivenNames x1
  clear_value x1
  extract_lets +onlyGivenNames x2
  have hx2 : From 550898370050 s x2 := by
    subst x2
    refine From.step (endHoldOf_from ..) ?_ rfl
    exact hF
  clear_value x2
  split
  · rename_i e3
    refine From.step (complete_from ..) ?_ rfl
    exact hx2
  · rename_i e4
    split
    · rename_i e5
      refine From.step (complete_from ..) ?_ rfl
      refine From.step (activateSlot_from ..) ?_ rfl
      exact hx2
    · rename_i e6
      refine From.step (complete_from ..) ?_ rfl
      exact hx2

theorem execFirmwareCommitReplaceActivate_from (c : Cmd) (slot : Nat) {s : State} : FromO 550898370050 s (execFirmwareCommitReplaceActivate c slot s) := by
  unfold execFirmwareCommitReplaceActivate
  have hF : From 550898370050 s s := From.refl _ _
  refine FromO.next ?_
  refine From.step (commitActivate_from ..) ?_ rfl
  exact hF

theorem execFirmwareCommitActivate_from (c : Cmd) (slot : Nat) {s : State} : FromO 550898370050 s (execFirmwareCommitActivate c slot s) := by
  unfold execFirmwareCommitActivate
  have hF : From 550898370050 s s := From.refl _ _
  refine FromO.next ?_
  refine From.step (commitActivate_from ..) ?_ rfl
  exact hF

end Sys2Proof.Machine
end

