-- ==== Sys2Proof/Laws/KeepRecords.lean ====
section
/-! SUPPORT. Laws/KeepRecords.lean: each operation of the link, the recorder, the settling of transfers, compression, translation, the namespaces and recovery changes no part of the state outside its mask, leaves the queue
of commands as it is and keeps the forms and capacities of the stores (one lemma per operation). -/
namespace Sys2Proof.Machine
open Sys2Proof

theorem perstDeassert_from {s : State} (p : Nat) : From 12288 s (perstDeassert s p) := by
  unfold perstDeassert
  have hF : From 12288 s s := From.refl _ _
  split
  · rename_i e0
    refine From.step (modPort_from ..) ?_ rfl
    exact hF
  · rename_i e1
    exact hF

theorem execPerstDeassert_from (port : Nat) {s : State} : FromO 12288 s (execPerstDeassert port s) := by
  unfold execPerstDeassert
  have hF : From 12288 s s := From.refl _ _
  refine FromO.next ?_
  refine From.step (perstDeassert_from ..) ?_ rfl
  exact hF

theorem pcieLinkUp_from {s : State} (p rate width : Nat) (flit : Bool) : From 78082 s (pcieLinkUp s p rate width flit) := by
  unfold pcieLinkUp
  have hF : From 78082 s s := From.refl _ _
  split
  · rename_i e0
    extract_lets +onlyGivenNames x1
    clear_value x1
    extract_lets +onlyGivenNames x2
    clear_value x2
    extract_lets +onlyGivenNames x3
    have hx3 : From 78082 s x3 := by
      subst x3
      refine From.step (negSettle_from ..) ?_ rfl
      exact hF
    clear_value x3
    extract_lets +onlyGivenNames x4
    have hx4 : From 78082 s x4 := by
      subst x4
      split
      · rename_i e5
        exact hx3
      · rename_i e6
        refine From.step (eventU_from ..) ?_ rfl
        exact hx3
    clear_value x4
    extract_lets +onlyGivenNames x7
    have hx7 : From 78082 s x7 := by
      subst x7
      refine From.step (modPort_from ..) ?_ rfl
      exact hx4
    clear_value x7
    extract_lets +onlyGivenNames x8
    have hx8 : From 78082 s x8 := by
      subst x8
      split
      · rename_i e9
        refine From.step (ltrSend_from ..) ?_ rfl
        exact hx7
      · rename_i e10
        exact hx7
    clear_value x8
    refine From.step (driveWake_from ..) ?_ rfl
    exact hx8
  · rename_i e11
    exact hF

theorem execPcieLinkUp_from (port rate width : Nat) (flit : Bool) {s : State} : FromO 78082 s (execPcieLinkUp port rate width flit s) := by
  unfold execPcieLinkUp
  have hF : From 78082 s s := From.refl _ _
  refine FromO.next ?_
  refine From.step (pcieLinkUp_from ..) ?_ rfl
  exact hF

theorem pcieTrainingTimeout_from {s : State} (p : Nat) : From 2 s (pcieTrainingTimeout s p) := by
  unfold pcieTrainingTimeout
  have hF : From 2 s s := From.refl _ _
  split
  · rename_i e0
    refine From.step (negFail_from ..) ?_ rfl
    exact hF
  · rename_i e1
    exact hF

theorem execPcieTrainingTimeout_from (port : Nat) {s : State} : FromO 2 s (execPcieTrainingTimeout port s) := by
  unfold execPcieTrainingTimeout
  have hF : From 2 s s := From.refl _ _
  refine FromO.next ?_
  refine From.step (pcieTrainingTimeout_from ..) ?_ rfl
  exact hF

theorem l0pNarrow_from {s : State} (p : Nat) : From 12288 s (l0pNarrow s p) := by
  unfold l0pNarrow
  have hF : From 12288 s s := From.refl _ _
  extract_lets +onlyGivenNames x0
  clear_value x0
  split
  · rename_i e1
    refine From.step (ltrSend_from ..) ?_ rfl
    refine From.step (modPort_from ..) ?_ rfl
    exact hF
  · rename_i e2
    exact hF

theorem execL0pNarrow_from (port : Nat) {s : State} : FromO 12288 s (execL0pNarrow port s) := by
  unfold execL0pNarrow
  have hF : From 12288 s s := From.refl _ _
  refine FromO.next ?_
  refine From.step (l0pNarrow_from ..) ?_ rfl
  exact hF

theorem l0pWiden_from {s : State} (p : Nat) : From 12288 s (l0pWiden s p) := by
  unfold l0pWiden
  have hF : From 12288 s s := From.refl _ _
  split
  · rename_i e0
    refine From.step (ltrSend_from ..) ?_ rfl
    refine From.step (modPort_from ..) ?_ rfl
    exact hF
  · rename_i e1
    exact hF

theorem execL0pWiden_from (port : Nat) {s : State} : FromO 12288 s (execL0pWiden port s) := by
  unfold execL0pWiden
  have hF : From 12288 s s := From.refl _ _
  refine FromO.next ?_
  refine From.step (l0pWiden_from ..) ?_ rfl
  exact hF

theorem aspmL1Entry_from {s : State} (p link : Nat) (refStopped : Bool) : From 77824 s (aspmL1Entry s p link refStopped) := by
  unfold aspmL1Entry
  have hF : From 77824 s s := From.refl _ _
  extract_lets +onlyGivenNames x0
  clear_value x0
  split
  · rename_i e1
    refine From.step (driveWake_from ..) ?_ rfl
    refine From.step (modPort_from ..) ?_ rfl
    exact hF
  · rename_i e2
    exact hF

theorem execAspmL1Entry_from (port link : Nat) (refStopped : Bool) {s : State} : FromO 77824 s (execAspmL1Entry port link refStopped s) := by
  unfold execAspmL1Entry
  have hF : From 77824 s s := From.refl _ _
  refine FromO.next ?_
  refine From.step (aspmL1Entry_from ..) ?_ rfl
  exact hF

theorem i3cNegotiation_from {s : State} (p mode khz : Nat) : From 2 s (i3cNegotiation s p mode khz) := by
  unfold i3cNegotiation
  have hF : From 2 s s := From.refl _ _
  split
  · rename_i e0
    exact hF
  · rename_i e1
    split
    · rename_i e2
      refine From.step (negFail_from ..) ?_ rfl
      exact hF
    · rename_i e3
      refine From.step (negSettle_from ..) ?_ rfl
      exact hF

theorem execI3cNegotiation_from (port mode khz : Nat) {s : State} : FromO 2 s (execI3cNegotiation port mode khz s) := by
  unfold execI3cNegotiation
  have hF : From 2 s s := From.refl _ _
  refine FromO.next ?_
  refine From.step (i3cNegotiation_from ..) ?_ rfl
  exact hF

theorem nvmeRegWrite_from {s : State} (fn off value : Nat) : From 131072 s (nvmeRegWrite s fn off value) := by
  unfold nvmeRegWrite
  have hF : From 131072 s s := From.refl _ _
  extract_lets +onlyGivenNames x0
  clear_value x0
  split
  · rename_i e1
    refine From.step (modInst_from ..) ?_ rfl
    exact hF
  · rename_i e2
    split
    · rename_i e3
      refine From.step (modInst_from ..) ?_ rfl
      exact hF
    · rename_i e4
      split
      · rename_i e5
        refine From.step (modInst_from ..) ?_ rfl
        exact hF
      · rename_i e6
        split
        · rename_i e7
          exact hF
        · rename_i e8
          split
          · rename_i e9
            refine From.step (modInst_from ..) ?_ rfl
            exact hF
          · rename_i e10
            split
            · rename_i e11
              refine From.step (modInst_from ..) ?_ rfl
              exact hF
            · rename_i e12
              split
              · rename_i e13
                refine From.step (modInst_from ..) ?_ rfl
                exact hF
              · rename_i e14
                exact hF

theorem registerWrite_from {s : State} (fn bar off width value : Nat) : From 2147614722 s (registerWrite s fn bar off width value) := by
  unfold registerWrite
  have hF : From 2147614722 s s := From.refl _ _
  split
  · rename_i e0
    exact hF
  · rename_i e1
    split
    · rename_i e2
      refine From.step (bump32_from ..) ?_ rfl
      exact hF
    · rename_i e3
      split
      · rename_i e4
        refine From.step (nvmeRegWrite_from ..) ?_ rfl
        exact hF
      · rename_i e5
        split
        · rename_i e6
          split
          · rename_i e7
            refine From.upd 2147483648 (hF) rfl rfl ?_ ?_ ?_ ?_ ?_ ?_ ?_ ?_ ?_ ?_ ?_ ?_ ?_ ?_ ?_ ?_ ?_ ?_ ?_
            all_goals with_reducible first | exact id | exact fun _ => Assoc.wf_nil | exact fun _ => From.nil_le | exact fun _ => From.sixteen | (intro w; repeat' first | exact w | exact From.nil_le | exact Assoc.wf_nil | split | apply Assoc.wf_foldl (fun m b w => Assoc.wf_put w) | apply Assoc.wf_put | apply Assoc.wf_upd | apply Assoc.wf_updD | apply Assoc.wf_del | apply Assoc.wf_keep | apply Assoc.wf_mapVal)
          · rename_i e8
            exact hF
        · rename_i e9
          split
          · rename_i e10
            split
            · rename_i e11
              split
              · rename_i e12
                refine From.step (mailboxWrite_from ..) ?_ rfl
                exact hF
              · rename_i e13
                exact hF
            · rename_i e14
              split
              · rename_i e15
                refine From.step (mailboxWrite_from ..) ?_ rfl
                exact hF
              · rename_i e16
                exact hF
          · rename_i e17
            exact hF

theorem execRegisterWrite_from (fn bar off width value : Nat) {s : State} : FromO 2147614722 s (execRegisterWrite fn bar off width value s) := by
  unfold execRegisterWrite
  have hF : From 2147614722 s s := From.refl _ _
  refine FromO.next ?_
  refine From.step (registerWrite_from ..) ?_ rfl
  exact hF

theorem compactEraseEnd_from {s : State} : From 258 s (compactEraseEnd s) := by
  unfold compactEraseEnd
  have hF : From 258 s s := From.refl _ _
  refine From.foldl ?_ ?_ _
  · exact From.same 256 hF (by with_reducible rfl) rfl rfl
  · intro a0 a1 a2
    refine From.step (compactRec_from ..) ?_ rfl
    exact a2

theorem drainStaging_from {s : State} : From 258 s (drainStaging s) := by
  unfold drainStaging
  have hF : From 258 s s := From.refl _ _
  extract_lets +onlyGivenNames x0
  have hx0 : From 258 s x0 := by
    subst x0
    refine From.step (compactEraseEnd_from ..) ?_ rfl
    exact hF
  clear_value x0
  split
  · rename_i e1
    extract_lets +onlyGivenNames x2
    clear_value x2
    refine From.foldl ?_ ?_ _
    · refine From.upd 256 (hx0) rfl rfl ?_ ?_ ?_ ?_ ?_ ?_ ?_ ?_ ?_ ?_ ?_ ?_ ?_ ?_ ?_ ?_ ?_ ?_ ?_
      all_goals with_reducible first | exact id | exact fun _ => Assoc.wf_nil | exact fun _ => From.nil_le | exact fun _ => From.sixteen | (intro w; repeat' first | exact w | exact From.nil_le | exact Assoc.wf_nil | split | apply Assoc.wf_foldl (fun m b w => Assoc.wf_put w) | apply Assoc.wf_put | apply Assoc.wf_upd | apply Assoc.wf_updD | apply Assoc.wf_del | apply Assoc.wf_keep | apply Assoc.wf_mapVal)
    · intro a3 a4 a5
      refine From.step (extRec_from ..) ?_ rfl
      exact a5
  · rename_i e6
    exact hx0

theorem execStagingDrain_from {s : State} : FromO 258 s (execStagingDrain s) := by
  unfold execStagingDrain
  have hF : From 258 s s := From.refl _ _
  refine FromO.next ?_
  refine From.step (drainStaging_from ..) ?_ rfl
  exact hF

theorem modWindow_from {s : State} (pf : Nat) (f : Window → Window) : From 256 s (modWindow s pf f) := by
  unfold modWindow
  have hF : From 256 s s := From.refl _ _
  split
  · rename_i e0
    exact From.same 256 hF (by with_reducible rfl) rfl rfl
  · rename_i e1
    exact From.same 256 hF (by with_reducible rfl) rfl rfl

theorem execCursorWrite_from (pf value : Nat) {s : State} : FromO 256 s (execCursorWrite pf value s) := by
  unfold execCursorWrite
  have hF : From 256 s s := From.refl _ _
  refine FromO.next ?_
  refine From.step (modWindow_from ..) ?_ rfl
  exact hF

theorem freezeBit_from {s : State} (pf : Nat) (b : Bool) : From 258 s (freezeBit s pf b) := by
  unfold freezeBit
  have hF : From 258 s s := From.refl _ _
  extract_lets +onlyGivenNames x0
  have hx0 : From 258 s x0 := by
    subst x0
    refine From.step (modWindow_from ..) ?_ rfl
    exact hF
  clear_value x0
  split
  · rename_i e1
    exact From.same 256 hx0 (by with_reducible rfl) rfl rfl
  · rename_i e2
    split
    · rename_i e3
      refine From.step (thaw_from ..) ?_ rfl
      exact hx0
    · rename_i e4
      exact hx0

theorem execWinCtrlWrite_from (pf value : Nat) {s : State} : FromO 258 s (execWinCtrlWrite pf value s) := by
  unfold execWinCtrlWrite
  have hF : From 258 s s := From.refl _ _
  extract_lets +onlyGivenNames x0
  have hx0 : From 258 s x0 := by
    subst x0
    refine From.step (modWindow_from ..) ?_ rfl
    exact hF
  clear_value x0
  extract_lets +onlyGivenNames x1
  have hx1 : From 258 s x1 := by
    subst x1
    refine From.step (modWindow_from ..) ?_ rfl
    exact hx0
  clear_value x1
  refine FromO.next ?_
  split
  · rename_i e2
    refine From.step (freezeBit_from ..) ?_ rfl
    exact hx1
  · rename_i e3
    exact hx1

theorem execAdvance_from (pf : Nat) {s : State} : FromO 256 s (execAdvance pf s) := by
  unfold execAdvance
  have hF : From 256 s s := From.refl _ _
  refine FromO.next ?_
  refine From.step (modWindow_from ..) ?_ rfl
  exact hF

theorem execFreeze_from (pf : Nat) {s : State} : FromO 258 s (execFreeze pf s) := by
  unfold execFreeze
  have hF : From 258 s s := From.refl _ _
  refine FromO.next ?_
  refine From.step (modWindow_from ..) ?_ rfl
  refine From.step (freezeBit_from ..) ?_ rfl
  exact hF

theorem execWindowRefillDone_from (pf : Nat) (unreadable : List Nat) {s : State} : FromO 258 s (execWindowRefillDone pf unreadable s) := by
  unfold execWindowRefillDone
  have hF : From 258 s s := From.refl _ _
  extract_lets +onlyGivenNames x0
  clear_value x0
  split
  · rename_i e1
    extract_lets +onlyGivenNames x2
    clear_value x2
    refine FromO.next ?_
    refine From.step (bump_from ..) ?_ rfl
    refine From.step (modWindow_from ..) ?_ rfl
    exact hF
  · rename_i e3
    refine FromO.next ?_
    exact hF

theorem execFreezeEnd_from {s : State} : FromO 258 s (execFreezeEnd s) := by
  unfold execFreezeEnd
  have hF : From 258 s s := From.refl _ _
  refine FromO.next ?_
  split
  · rename_i e0
    refine From.step (thaw_from ..) ?_ rfl
    exact hF
  · rename_i e1
    exact hF

theorem logPageC3_from (c : Cmd) (off len : Nat) (rae : Bool) {s : State} : From 1276774146 s (logPageC3 c off len rae s) := by
  unfold logPageC3
  have hF : From 1276774146 s s := From.refl _ _
  split
  · rename_i e0
    refine From.step (complete_from ..) ?_ rfl
    exact hF
  · rename_i e1
    extract_lets +onlyGivenNames x2
    have hx2 : From 1276774146 s x2 := by
      subst x2
      split
      · rename_i e3
        exact hF
      · rename_i e4
        refine From.step (unmask_from ..) ?_ rfl
        exact hF
    clear_value x2
    extract_lets +onlyGivenNames x5
    clear_value x5
    extract_lets +onlyGivenNames x6
    extract_lets +onlyGivenNames x7
    have hx7 : From 1276774146 s x7 := by
      subst x7
      split
      · rename_i e8
        exact From.same 256 hx2 (by with_reducible rfl) rfl rfl
      · rename_i e9
        exact hx2
    clear_value x7
    split
    · rename_i y10 y11 e12
      refine From.step (complete_from ..) ?_ rfl
      refine From.step (dmaOut_from ..) ?_ rfl
      exact hx7
    · rename_i y13 e14
      refine From.step (complete_from ..) ?_ rfl
      exact hx7

theorem execGetLogPageC3_from (c : Cmd) (off len : Nat) (rae : Bool) {s : State} : FromO 1276774146 s (execGetLogPageC3 c off len rae s) := by
  unfold execGetLogPageC3
  have hF : From 1276774146 s s := From.refl _ _
  refine FromO.next ?_
  refine From.step (logPageC3_from ..) ?_ rfl
  exact hF

theorem execSnapshotLapse_from (fn : Nat) {s : State} : FromO 256 s (execSnapshotLapse fn s) := by
  unfold execSnapshotLapse
  have hF : From 256 s s := From.refl _ _
  refine FromO.next ?_
  exact From.same 256 hF (by with_reducible rfl) rfl rfl

theorem execTraceItemWrite_from (source kind arg : Nat) (words : List Nat) {s : State} : FromO 514 s (execTraceItemWrite source kind arg words s) := by
  unfold execTraceItemWrite
  have hF : From 514 s s := From.refl _ _
  refine FromO.next ?_
  split
  · rename_i e0
    refine From.step (traceItem_from ..) ?_ rfl
    exact hF
  · rename_i e1
    exact hF

theorem execTraceEntryClose_from {s : State} : FromO 514 s (execTraceEntryClose s) := by
  unfold execTraceEntryClose
  have hF : From 514 s s := From.refl _ _
  refine FromO.next ?_
  split
  · rename_i e0
    exact hF
  · rename_i e1
    refine From.step (pushEntry_from ..) ?_ rfl
    exact hF

theorem popEntry_from {s : State} : From 514 s (popEntry s).2 := by
  have hF : From 514 s s := From.refl _ _
  unfold popEntry
  extract_lets s1
  have h1 : From 514 s s1 := by
    subst s1
    split
    · exact From.step pushEntry_from hF rfl
    · exact hF
  clear_value s1
  split
  · rename_i e r he
    refine From.trace h1 _ (fun w => ?_) rfl
    rw [he] at w
    simp only [List.length_cons] at w
    exact Nat.le_of_succ_le w
  · exact h1

theorem popEntries_from {s : State} (n : Nat) : From 514 s (popEntries n s).2 := by
  induction n generalizing s with
  | zero => exact From.refl _ _
  | succ n ih => exact From.step (s := s) (t := (popEntry s).2) ih (From.step popEntry_from (From.refl _ _) rfl) rfl

theorem barReturn_from {s : State} (fn x : Nat) : From 268435456 s (barReturn s fn x) := by
  unfold barReturn
  have hF : From 268435456 s s := From.refl _ _
  refine From.upd 268435456 (hF) rfl rfl ?_ ?_ ?_ ?_ ?_ ?_ ?_ ?_ ?_ ?_ ?_ ?_ ?_ ?_ ?_ ?_ ?_ ?_ ?_
  all_goals with_reducible first | exact id | exact fun _ => Assoc.wf_nil | exact fun _ => From.nil_le | exact fun _ => From.sixteen | (intro w; repeat' first | exact w | exact From.nil_le | exact Assoc.wf_nil | split | apply Assoc.wf_foldl (fun m b w => Assoc.wf_put w) | apply Assoc.wf_put | apply Assoc.wf_upd | apply Assoc.wf_updD | apply Assoc.wf_del | apply Assoc.wf_keep | apply Assoc.wf_mapVal)

theorem traceFifoPop_from (fn off width : Nat) {s : State} : From 268435970 s (traceFifoPop fn off width s) := by
  unfold traceFifoPop
  have hF : From 268435970 s s := From.refl _ _
  extract_lets +onlyGivenNames x0
  clear_value x0
  extract_lets +onlyGivenNames x1
  subst x1
  dsimp -zeta only
  split
  · rename_i e2
    split
    · rename_i e3
      refine From.step (barReturn_from ..) ?_ rfl
      refine From.step (popEntry_from ..) ?_ rfl
      exact hF
    · rename_i e4
      refine From.step (barReturn_from ..) ?_ rfl
      refine From.step (bump32_from ..) ?_ rfl
      exact hF
  · rename_i e5
    split
    · rename_i e6
      split
      · rename_i e7
        refine From.step (barReturn_from ..) ?_ rfl
        have hb8 : From 268435970 s ((popEntry s).snd) := by
          refine From.step (popEntry_from ..) ?_ rfl
          exact hF
        refine From.upd 512 (hb8) rfl rfl ?_ ?_ ?_ ?_ ?_ ?_ ?_ ?_ ?_ ?_ ?_ ?_ ?_ ?_ ?_ ?_ ?_ ?_ ?_
        all_goals with_reducible first | exact id | exact fun _ => Assoc.wf_nil | exact fun _ => From.nil_le | exact fun _ => From.sixteen | (intro w; repeat' first | exact w | exact From.nil_le | exact Assoc.wf_nil | split | apply Assoc.wf_foldl (fun m b w => Assoc.wf_put w) | apply Assoc.wf_put | apply Assoc.wf_upd | apply Assoc.wf_updD | apply Assoc.wf_del | apply Assoc.wf_keep | apply Assoc.wf_mapVal)
      · rename_i e9
        refine From.step (barReturn_from ..) ?_ rfl
        exact hF
    · rename_i e10
      refine From.step (barReturn_from ..) ?_ rfl
      refine From.step (bump32_from ..) ?_ rfl
      exact hF

theorem execTraceFifoPop_from (fn off width : Nat) {s : State} : FromO 268435970 s (execTraceFifoPop fn off width s) := by
  unfold execTraceFifoPop
  have hF : From 268435970 s s := From.refl _ _
  refine FromO.next ?_
  split
  · rename_i e0
    refine From.step (traceFifoPop_from ..) ?_ rfl
    exact hF
  · rename_i e1
    exact hF

theorem clearCompact_from {s : State} : From 256 s (clearCompact s) := by
  unfold clearCompact
  have hF : From 256 s s := From.refl _ _
  refine From.upd 256 (hF) rfl rfl ?_ ?_ ?_ ?_ ?_ ?_ ?_ ?_ ?_ ?_ ?_ ?_ ?_ ?_ ?_ ?_ ?_ ?_ ?_
  all_goals with_reducible first | exact id | exact fun _ => Assoc.wf_nil | exact fun _ => From.nil_le | exact fun _ => From.sixteen | (intro w; repeat' first | exact w | exact From.nil_le | exact Assoc.wf_nil | split | apply Assoc.wf_foldl (fun m b w => Assoc.wf_put w) | apply Assoc.wf_put | apply Assoc.wf_upd | apply Assoc.wf_updD | apply Assoc.wf_del | apply Assoc.wf_keep | apply Assoc.wf_mapVal)

theorem clearTrace_from {s : State} : From 512 s (clearTrace s) := by
  unfold clearTrace
  have hF : From 512 s s := From.refl _ _
  refine From.upd 512 (hF) rfl rfl ?_ ?_ ?_ ?_ ?_ ?_ ?_ ?_ ?_ ?_ ?_ ?_ ?_ ?_ ?_ ?_ ?_ ?_ ?_
  all_goals with_reducible first | exact id | exact fun _ => Assoc.wf_nil | exact fun _ => From.nil_le | exact fun _ => From.sixteen | (intro w; repeat' first | exact w | exact From.nil_le | exact Assoc.wf_nil | split | apply Assoc.wf_foldl (fun m b w => Assoc.wf_put w) | apply Assoc.wf_put | apply Assoc.wf_upd | apply Assoc.wf_updD | apply Assoc.wf_del | apply Assoc.wf_keep | apply Assoc.wf_mapVal)

theorem clearHist_from {s : State} (n bits : Nat) : From 1088 s (clearHist s n bits) := by
  unfold clearHist
  have hF : From 1088 s s := From.refl _ _
  extract_lets +onlyGivenNames x0
  clear_value x0
  extract_lets +onlyGivenNames x1
  clear_value x1
  extract_lets +onlyGivenNames x2
  have hx2 : From 1088 s x2 := by
    subst x2
    split
    · rename_i e3
      refine From.step (domChanged_from ..) ?_ rfl
      with_reducible exact From.set_tel hF _ rfl
    · rename_i e4
      exact hF
  clear_value x2
  split
  · rename_i e5
    refine From.step (domChanged_from ..) ?_ rfl
    with_reducible exact From.set_tel hx2 _ rfl
  · rename_i e6
    exact hx2

theorem clearHistCoves_from {s : State} (bits : Nat) : From 1088 s (clearHistCoves s bits) := by
  unfold clearHistCoves
  have hF : From 1088 s s := From.refl _ _
  refine From.foldl ?_ ?_ _
  · exact hF
  · intro a0 a1 a2
    split
    · rename_i e3
      refine From.step (domChanged_from ..) ?_ rfl
      with_reducible exact From.set_tel a2 _ rfl
    · rename_i e4
      exact a2

theorem histCove_from {s : State} (c t : Nat) : From 1024 s (histCove s c t) := by
  unfold histCove
  have hF : From 1024 s s := From.refl _ _
  with_reducible exact From.set_tel hF _ rfl

theorem heatRead_from {s : State} (cove nsid lba nlb blk : Nat) : From 8796093023232 s (heatRead s cove nsid lba nlb blk) := by
  unfold heatRead
  have hF : From 8796093023232 s s := From.refl _ _
  split
  · rename_i e0
    extract_lets +onlyGivenNames x1
    clear_value x1
    extract_lets +onlyGivenNames x2
    clear_value x2
    extract_lets +onlyGivenNames x3
    clear_value x3
    split
    · rename_i y4 y5 y6 e7
      have h8 : From 8796093023232 s y6 := by
        refine From.snd e7 ?_
        split
        · rename_i y9 y10 e11
          refine From.pair ?_
          exact hF
        · rename_i y12 e13
          refine From.pair ?_
          with_reducible exact From.set_freeCtr hF _ rfl
      extract_lets +onlyGivenNames x14
      clear_value x14
      with_reducible exact From.set_tel h8 _ rfl
  · rename_i e15
    exact hF

theorem heatEpoch_from {s : State} : From 8796093023296 s (heatEpoch s) := by
  unfold heatEpoch
  have hF : From 8796093023296 s s := From.refl _ _
  extract_lets +onlyGivenNames x0
  clear_value x0
  extract_lets +onlyGivenNames x1
  clear_value x1
  extract_lets +onlyGivenNames x2
  have hx2 : From 8796093023296 s x2 := by
    subst x2
    with_reducible exact From.set_tel hF _ rfl
  clear_value x2
  extract_lets +onlyGivenNames x3
  have hx3 : From 8796093023296 s x3 := by
    subst x3
    refine From.foldl ?_ ?_ _
    · exact hx2
    · intro a4 a5 a6
      exact From.same 8796093023232 a6 (by with_reducible rfl) rfl rfl
  clear_value x3
  refine From.foldl ?_ ?_ _
  · exact hx3
  · intro a7 a8 a9
    refine From.step (domChanged_from ..) ?_ rfl
    refine From.step (domChanged_from ..) ?_ rfl
    exact a9

theorem execHeatEpoch_from {s : State} : FromO 8796093023296 s (execHeatEpoch s) := by
  unfold execHeatEpoch
  have hF : From 8796093023296 s s := From.refl _ _
  refine FromO.next ?_
  refine From.step (heatEpoch_from ..) ?_ rfl
  exact hF

theorem heatQuery_from {s : State} (q : Nat) : From 2 s (heatQuery s q) := by
  unfold heatQuery
  have hF : From 2 s s := From.refl _ _
  extract_lets +onlyGivenNames x0
  clear_value x0
  extract_lets +onlyGivenNames x1
  extract_lets +onlyGivenNames x2
  clear_value x2
  split
  · rename_i y3 y4 e5
    refine From.step (setV_from ..) ?_ rfl
    exact hF
  · rename_i y6 e7
    refine From.step (setV_from ..) ?_ rfl
    exact hF

theorem planRead_from {s : State} (f : Flight) : From 1048576 s (planRead s f) := by
  unfold planRead
  have hF : From 1048576 s s := From.refl _ _
  extract_lets +onlyGivenNames x0
  clear_value x0
  extract_lets +onlyGivenNames x1
  clear_value x1
  extract_lets +onlyGivenNames x2
  clear_value x2
  extract_lets +onlyGivenNames x3
  clear_value x3
  refine From.step (modFlight_from ..) ?_ rfl
  exact hF

theorem admitRead_from {s : State} (f : Flight) : From 1048576 s (admitRead s f) := by
  unfold admitRead
  have hF : From 1048576 s s := From.refl _ _
  refine From.step (modFlight_from ..) ?_ rfl
  exact hF

theorem admitReads_from {s : State} : From 1048578 s (admitReads s) := by
  unfold admitReads
  have hF : From 1048578 s s := From.refl _ _
  refine From.foldl ?_ ?_ _
  · exact hF
  · intro a0 a1 a2
    split
    · rename_i e3
      refine From.step (admitRead_from ..) ?_ rfl
      exact a2
    · rename_i e4
      refine From.step (countWait_from ..) ?_ rfl
      exact a2

theorem boundMissed_from {s : State} (f : Flight) : From 34359738626 s (boundMissed s f) := by
  unfold boundMissed
  have hF : From 34359738626 s s := From.refl _ _
  extract_lets +onlyGivenNames x0
  clear_value x0
  extract_lets +onlyGivenNames x1
  clear_value x1
  split
  · rename_i e2
    refine From.step (event_from ..) ?_ rfl
    refine From.step (modBound_from ..) ?_ rfl
    refine From.step (bump32_from ..) ?_ rfl
    exact hF
  · rename_i e3
    exact hF

theorem finishRead_from {s : State} (f : Flight) : From 35636512514 s (finishRead s f) := by
  unfold finishRead
  have hF : From 35636512514 s s := From.refl _ _
  extract_lets +onlyGivenNames x0
  clear_value x0
  extract_lets +onlyGivenNames x1
  clear_value x1
  extract_lets +onlyGivenNames x2
  subst x2
  dsimp -zeta only
  extract_lets +onlyGivenNames x3
  clear_value x3
  extract_lets +onlyGivenNames x4
  clear_value x4
  extract_lets +onlyGivenNames x5
  clear_value x5
  extract_lets +onlyGivenNames x6
  clear_value x6
  extract_lets +onlyGivenNames x7
  have hx7 : From 35636512514 s x7 := by
    subst x7
    refine From.step (boundMissed_from ..) ?_ rfl
    exact hF
  clear_value x7
  extract_lets +onlyGivenNames x8
  have hx8 : From 35636512514 s x8 := by
    subst x8
    refine From.step (histCove_from ..) ?_ rfl
    exact hx7
  clear_value x8
  extract_lets +onlyGivenNames x9
  have hx9 : From 35636512514 s x9 := by
    subst x9
    split
    · rename_i e10
      refine From.step (dmaOut_from ..) ?_ rfl
      exact hx8
    · rename_i e11
      exact hx8
  clear_value x9
  extract_lets +onlyGivenNames x12
  have hx12 : From 35636512514 s x12 := by
    subst x12
    split
    · rename_i e13
      with_reducible exact From.set_flights hx9 _ rfl
    · rename_i e14
      exact hx9
  clear_value x12
  refine From.step (completeFlight_from ..) ?_ rfl
  exact hx12

theorem finishReads_from {s : State} : From 35636512514 s (finishReads s) := by
  unfold finishReads
  have hF : From 35636512514 s s := From.refl _ _
  refine From.foldl ?_ ?_ _
  · exact hF
  · intro a0 a1 a2
    refine From.step (finishRead_from ..) ?_ rfl
    exact a2

theorem beginRead_from {s : State} (f : Flight) (resv limit : Bool) (slba nlb : Nat) : From 8831595316738 s (beginRead s f resv limit slba nlb) := by
  unfold beginRead
  have hF : From 8831595316738 s s := From.refl _ _
  extract_lets +onlyGivenNames x0
  clear_value x0
  extract_lets +onlyGivenNames x1
  have hx1 : From 8831595316738 s x1 := by
    subst x1
    split
    · rename_i e2
      refine From.step (bump32_from ..) ?_ rfl
      exact hF
    · rename_i e3
      exact hF
  clear_value x1
  split
  · rename_i y4 e5
    extract_lets +onlyGivenNames x6
    clear_value x6
    extract_lets +onlyGivenNames x7
    clear_value x7
    extract_lets +onlyGivenNames x8
    clear_value x8
    extract_lets +onlyGivenNames x9
    have hx9 : From 8831595316738 s x9 := by
      subst x9
      refine From.step (heatRead_from ..) ?_ rfl
      refine From.step (modFlight_from ..) ?_ rfl
      exact hx1
    clear_value x9
    extract_lets +onlyGivenNames x10
    have hx10 : From 8831595316738 s x10 := by
      subst x10
      split
      · rename_i e11
        refine From.step (planRead_from ..) ?_ rfl
        exact hx9
      · rename_i e12
        exact hx9
    clear_value x10
    extract_lets +onlyGivenNames x13
    clear_value x13
    extract_lets +onlyGivenNames x14
    have hx14 : From 8831595316738 s x14 := by
      subst x14
      split
      · rename_i e15
        refine From.step (excuse_from ..) ?_ rfl
        exact hx10
      · rename_i e16
        exact hx10
    clear_value x14
    extract_lets +onlyGivenNames x17
    clear_value x17
    split
    · rename_i e18
      extract_lets +onlyGivenNames x19
      have hx19 : From 8831595316738 s x19 := by
        subst x19
        refine From.step (bump64_from ..) ?_ rfl
        refine From.step (excuse_from ..) ?_ rfl
        exact hx14
      clear_value x19
      refine From.step (modFlight_from ..) ?_ rfl
      exact hx19
    · rename_i e20
      exact hx14
  · rename_i y21 e22
    refine From.step (completeFlight_from ..) ?_ rfl
    exact hx1

theorem mapArrived_from {s : State} (page : Nat) : From 1048576 s (mapArrived s page) := by
  unfold mapArrived
  have hF : From 1048576 s s := From.refl _ _
  refine From.foldl ?_ ?_ _
  · exact hF
  · intro a0 a1 a2
    extract_lets +onlyGivenNames x3
    clear_value x3
    extract_lets +onlyGivenNames x4
    have hx4 : From 1048576 s x4 := by
      subst x4
      refine From.step (modFlight_from ..) ?_ rfl
      exact a2
    clear_value x4
    split
    · rename_i e5
      refine From.step (planRead_from ..) ?_ rfl
      exact hx4
    · rename_i e6
      exact hx4

theorem interruptRead_from {s : State} (f : Flight) (us : Nat) : From 1142556162 s (interruptRead s f us) := by
  unfold interruptRead
  have hF : From 1142556162 s s := From.refl _ _
  refine From.step (completeRetry_from ..) ?_ rfl
  refine From.step (histCove_from ..) ?_ rfl
  exact hF

theorem admissionDeadline_from {s : State} (fn sqid cid : Nat) : From 35502294530 s (admissionDeadline s fn sqid cid) := by
  unfold admissionDeadline
  have hF : From 35502294530 s s := From.refl _ _
  split
  · rename_i y0 y1 e2
    split
    · rename_i e3
      split
      · rename_i e4
        refine From.step (modFlight_from ..) ?_ rfl
        refine From.step (excuse_from ..) ?_ rfl
        exact hF
      · rename_i e5
        extract_lets +onlyGivenNames x6
        have hx6 : From 35502294530 s x6 := by
          subst x6
          refine From.step (traceItem_from ..) ?_ rfl
          refine From.step (bump64_from ..) ?_ rfl
          exact hF
        clear_value x6
        refine From.step (interruptRead_from ..) ?_ rfl
        refine From.step (modBound_from ..) ?_ rfl
        exact hx6
    · rename_i e7
      exact hF
  · rename_i y8 e9
    exact hF

theorem markHalf_from {s : State} (f : Flight) (x : Nat) : From 1048576 s (markHalf s f x) := by
  unfold markHalf
  have hF : From 1048576 s s := From.refl _ _
  split
  · rename_i y0 y1 e2
    split
    · rename_i e3
      refine From.step (modFlight_from ..) ?_ rfl
      exact hF
    · rename_i e4
      exact hF
  · rename_i y5 e6
    exact hF

theorem beginFused_from {s : State} (f g : Flight) (resv : Bool) (slba nlb : Nat) : From 8831595316738 s (beginFused s f g resv slba nlb) := by
  unfold beginFused
  have hF : From 8831595316738 s s := From.refl _ _
  extract_lets +onlyGivenNames x0
  clear_value x0
  split
  · rename_i e1
    refine From.step (completeFlight_from ..) ?_ rfl
    refine From.step (markHalf_from ..) ?_ rfl
    exact hF
  · rename_i e2
    split
    · rename_i e3
      refine From.step (completeFlight_from ..) ?_ rfl
      refine From.step (markHalf_from ..) ?_ rfl
      exact hF
    · rename_i e4
      extract_lets +onlyGivenNames x5
      have hx5 : From 8831595316738 s x5 := by
        subst x5
        refine From.step (beginRead_from ..) ?_ rfl
        exact hF
      clear_value x5
      split
      · rename_i e6
        exact hx5
      · rename_i e7
        refine From.step (markHalf_from ..) ?_ rfl
        exact hx5

theorem setArgs_from {s : State} (c : Cmd) (slba nlb : Nat) (fua ordered : Bool) (pi : PiArgs) (cmp : List Block) : From 1048576 s (setArgs s c slba nlb fua ordered pi cmp) := by
  unfold setArgs
  have hF : From 1048576 s s := From.refl _ _
  refine From.step (modFlight_from ..) ?_ rfl
  exact hF

theorem tryWrite_from {s : State} (c : Cmd) (append : Bool) (slba : Nat) (bs : List Block) (fua ordered : Bool) (dtype dspec : Nat) (pi : PiArgs) : From 2200717362946 s (tryWrite s c append slba bs fua ordered dtype dspec pi).2 := by
  unfold tryWrite
  have hF : From 2200717362946 s s := From.refl _ _
  extract_lets +onlyGivenNames x0
  have hx0 : From 2200717362946 s x0 := by
    subst x0
    refine From.step (setArgs_from ..) ?_ rfl
    refine From.step (ensure_from ..) ?_ rfl
    exact hF
  clear_value x0
  extract_lets +onlyGivenNames x1
  clear_value x1
  split
  · rename_i y2 y3 y4 e5
    have h6 : From 2200717362946 s y4 := by
      refine From.snd e5 ?_
      refine From.step (writeHolds_from ..) ?_ rfl
      exact hx0
    split
    · rename_i e7
      refine From.pair ?_
      exact h6
    · rename_i e8
      refine From.pair ?_
      refine From.step (beginWrite_from ..) ?_ rfl
      exact h6

theorem tryZeroes_from {s : State} (c : Cmd) (slba nlb : Nat) (deac : Bool) (dtype dspec : Nat) : From 2200717362946 s (tryZeroes s c slba nlb deac dtype dspec).2 := by
  unfold tryZeroes
  have hF : From 2200717362946 s s := From.refl _ _
  extract_lets +onlyGivenNames x0
  have hx0 : From 2200717362946 s x0 := by
    subst x0
    refine From.step (setArgs_from ..) ?_ rfl
    refine From.step (ensure_from ..) ?_ rfl
    exact hF
  clear_value x0
  extract_lets +onlyGivenNames x1
  clear_value x1
  extract_lets +onlyGivenNames x2
  clear_value x2
  split
  · rename_i y3 y4 y5 e6
    have h7 : From 2200717362946 s y5 := by
      refine From.snd e6 ?_
      refine From.step (writeHolds_from ..) ?_ rfl
      exact hx0
    extract_lets +onlyGivenNames x8
    clear_value x8
    split
    · rename_i e9
      refine From.pair ?_
      exact h7
    · rename_i e10
      split
      · rename_i e11
        refine From.pair ?_
        refine From.step (beginClear_from ..) ?_ rfl
        exact h7
      · rename_i e12
        refine From.pair ?_
        refine From.step (beginWrite_from ..) ?_ rfl
        exact h7

theorem tryClear_from {s : State} (c : Cmd) (opcode slba nlb : Nat) (clears : List (Nat × Nat)) (ad : Bool) : From 1144653314 s (tryClear s c opcode slba nlb clears ad).2 := by
  unfold tryClear
  have hF : From 1144653314 s s := From.refl _ _
  extract_lets +onlyGivenNames x0
  have hx0 : From 1144653314 s x0 := by
    subst x0
    refine From.step (setArgs_from ..) ?_ rfl
    refine From.step (ensure_from ..) ?_ rfl
    exact hF
  clear_value x0
  extract_lets +onlyGivenNames x1
  have hx1 : From 1144653314 s x1 := by
    subst x1
    refine From.step (modFlight_from ..) ?_ rfl
    exact hx0
  clear_value x1
  extract_lets +onlyGivenNames x2
  clear_value x2
  split
  · rename_i y3 y4 y5 e6
    have h7 : From 1144653314 s y5 := by
      refine From.snd e6 ?_
      refine From.step (writeHolds_from ..) ?_ rfl
      exact hx1
    extract_lets +onlyGivenNames x8
    clear_value x8
    split
    · rename_i e9
      refine From.pair ?_
      exact h7
    · rename_i e10
      split
      · rename_i e11
        split
        · rename_i y12 e13
          refine From.pair ?_
          refine From.step (completeFlight_from ..) ?_ rfl
          exact h7
        · rename_i y14 e15
          refine From.pair ?_
          refine From.step (completeFlight_from ..) ?_ rfl
          exact h7
      · rename_i e16
        refine From.pair ?_
        refine From.step (beginClear_from ..) ?_ rfl
        exact h7

theorem tryRead_from {s : State} (c : Cmd) (opcode slba nlb : Nat) (fua ordered : Bool) (pi : PiArgs) (cmp : List Block) : From 8831597413890 s (tryRead s c opcode slba nlb fua ordered pi cmp).2 := by
  unfold tryRead
  have hF : From 8831597413890 s s := From.refl _ _
  extract_lets +onlyGivenNames x0
  have hx0 : From 8831597413890 s x0 := by
    subst x0
    refine From.step (setArgs_from ..) ?_ rfl
    refine From.step (ensure_from ..) ?_ rfl
    exact hF
  clear_value x0
  extract_lets +onlyGivenNames x1
  clear_value x1
  split
  · rename_i e2
    refine From.pair ?_
    exact hx0
  · rename_i e3
    split
    · rename_i e4
      split
      · rename_i y5 y6 e7
        refine From.pair ?_
        refine From.step (beginFused_from ..) ?_ rfl
        exact hx0
      · rename_i y8 e9
        refine From.pair ?_
        exact hx0
    · rename_i e10
      split
      · rename_i e11
        refine From.pair ?_
        refine From.step (completeFlight_from ..) ?_ rfl
        exact hx0
      · rename_i e12
        refine From.pair ?_
        refine From.step (beginRead_from ..) ?_ rfl
        exact hx0

theorem tryFlush_from {s : State} (c : Cmd) : From 1144653314 s (tryFlush s c).2 := by
  unfold tryFlush
  have hF : From 1144653314 s s := From.refl _ _
  extract_lets +onlyGivenNames x0
  have hx0 : From 1144653314 s x0 := by
    subst x0
    refine From.step (ensure_from ..) ?_ rfl
    exact hF
  clear_value x0
  extract_lets +onlyGivenNames x1
  clear_value x1
  split
  · rename_i e2
    refine From.pair ?_
    exact hx0
  · rename_i e3
    split
    · rename_i y4 e5
      extract_lets +onlyGivenNames x6
      clear_value x6
      extract_lets +onlyGivenNames x7
      clear_value x7
      refine From.pair ?_
      refine From.step (modFlight_from ..) ?_ rfl
      exact hx0
    · rename_i y8 e9
      refine From.pair ?_
      refine From.step (completeFlight_from ..) ?_ rfl
      exact hx0

theorem tryAct_from {s : State} (c : Cmd) (a : ZAction) (slba : Nat) (all : Bool) : From 2235127432962 s (tryAct s c a slba all).2 := by
  unfold tryAct
  have hF : From 2235127432962 s s := From.refl _ _
  extract_lets +onlyGivenNames x0
  have hx0 : From 2235127432962 s x0 := by
    subst x0
    refine From.step (modFlight_from ..) ?_ rfl
    refine From.step (ensure_from ..) ?_ rfl
    exact hF
  clear_value x0
  split
  · rename_i e1
    refine From.pair ?_
    exact hx0
  · rename_i e2
    split
    · rename_i y3
      refine From.pair ?_
      refine From.step (zoneActLater_from ..) ?_ rfl
      exact hx0
    · rename_i y4
      refine From.pair ?_
      refine From.step (zoneActLater_from ..) ?_ rfl
      exact hx0
    · rename_i y5 e6 e7
      refine From.pair ?_
      refine From.step (zoneActNow_from ..) ?_ rfl
      exact hx0

theorem tryBegin_from {s : State} (i : Instr) : From 11031220455170 s (tryBegin s i).2 := by
  unfold tryBegin
  have hF : From 11031220455170 s s := From.refl _ _
  split
  · rename_i y0 y1 y2 y3 y4 y5 y6 y7 y8
    refine From.step (tryWrite_from ..) ?_ rfl
    exact hF
  · rename_i y9 y10 y11 y12 y13 y14
    refine From.step (tryWrite_from ..) ?_ rfl
    exact hF
  · rename_i y15 y16 y17 y18 y19 y20 y21
    refine From.step (tryZeroes_from ..) ?_ rfl
    exact hF
  · rename_i y22 y23 y24 y25
    refine From.step (tryClear_from ..) ?_ rfl
    exact hF
  · rename_i y26 y27 y28 y29
    refine From.step (tryClear_from ..) ?_ rfl
    exact hF
  · rename_i y30 y31 y32 y33 y34 y35 y36
    refine From.step (tryRead_from ..) ?_ rfl
    exact hF
  · rename_i y37 y38 y39 y40 y41
    refine From.step (tryRead_from ..) ?_ rfl
    exact hF
  · rename_i y42 y43 y44 y45 y46
    refine From.step (tryRead_from ..) ?_ rfl
    exact hF
  · rename_i y47 y48
    refine From.step (tryFlush_from ..) ?_ rfl
    exact hF
  · rename_i y49 y50 y51 y52
    refine From.step (tryAct_from ..) ?_ rfl
    exact hF
  · rename_i y53 y54 y55 y56
    refine From.step (tryAct_from ..) ?_ rfl
    exact hF
  · rename_i y57 y58 y59 y60
    refine From.step (tryAct_from ..) ?_ rfl
    exact hF
  · rename_i y61 y62 y63 y64
    refine From.step (tryAct_from ..) ?_ rfl
    exact hF
  · rename_i y65 y66 y67 y68
    refine From.step (tryAct_from ..) ?_ rfl
    exact hF
  · rename_i y69 e70 e71 e72 e73 e74 e75 e76 e77 e78 e79 e80 e81 e82 e83
    refine From.pair ?_
    exact hF

theorem retryHeld_from {s : State} : From 11031220455170 s (retryHeld s) := by
  unfold retryHeld
  have hF : From 11031220455170 s s := From.refl _ _
  extract_lets +onlyGivenNames x0
  clear_value x0
  refine From.foldl ?_ ?_ _
  · with_reducible exact From.set_eng hF _ rfl
  · intro a1 a2 a3
    split
    · rename_i y4 y5 e6
      split
      · rename_i e7
        split
        · rename_i y8 y9 e10
          have h11 : From 11031220455170 s y9 := by
            refine From.snd e10 ?_
            refine From.step (tryBegin_from ..) ?_ rfl
            exact a3
          with_reducible exact From.set_eng h11 _ rfl
        · rename_i y12 y13 e14
          have h15 : From 11031220455170 s y13 := by
            refine From.snd e14 ?_
            refine From.step (tryBegin_from ..) ?_ rfl
            exact a3
          exact h15
      · rename_i e16
        exact a3
    · rename_i y17 e18
      exact a3

theorem settlePass_from {s : State} : From 15429401184002 s (settlePass s) := by
  unfold settlePass
  have hF : From 15429401184002 s s := From.refl _ _
  refine From.step (finishReads_from ..) ?_ rfl
  refine From.step (admitReads_from ..) ?_ rfl
  refine From.step (settleWrites_from ..) ?_ rfl
  refine From.step (retryHeld_from ..) ?_ rfl
  refine From.step (settleFlushes_from ..) ?_ rfl
  refine From.step (settleSends_from ..) ?_ rfl
  refine From.step (settleActions_from ..) ?_ rfl
  exact hF

theorem settleLoop_from {s : State} (n : Nat) : From 15429401184002 s (settleLoop n s) := by
  induction n generalizing s with
  | zero => exact From.refl _ _
  | succ n ih =>
    have h := From.step settlePass_from (From.refl 15429401184002 s) rfl
    simp only [settleLoop]
    split
    · exact h
    · exact From.step ih h rfl

theorem settle_from {s : State} : From 15429401184002 s (settle s) := by
  unfold settle
  have hF : From 15429401184002 s s := From.refl _ _
  refine From.step (watermark_from ..) ?_ rfl
  refine From.step (settleLoop_from ..) ?_ rfl
  exact hF

theorem ioArrive_from {s : State} (i : Instr) : From 15429401184002 s (ioArrive s i) := by
  unfold ioArrive
  have hF : From 15429401184002 s s := From.refl _ _
  split
  · rename_i y0 y1 e2
    have h3 : From 15429401184002 s y1 := by
      refine From.snd e2 ?_
      refine From.step (tryBegin_from ..) ?_ rfl
      exact hF
    refine From.step (settle_from ..) ?_ rfl
    with_reducible exact From.set_eng h3 _ rfl
  · rename_i y4 y5 e6
    have h7 : From 15429401184002 s y5 := by
      refine From.snd e6 ?_
      refine From.step (tryBegin_from ..) ?_ rfl
      exact hF
    refine From.step (settle_from ..) ?_ rfl
    exact h7

theorem execFlush_from (c : Cmd) {s : State} : FromO 15429401184002 s (execFlush c s) := by
  unfold execFlush
  have hF : From 15429401184002 s s := From.refl _ _
  refine FromO.next ?_
  refine From.step (ioArrive_from ..) ?_ rfl
  exact hF

theorem execWrite_from (c : Cmd) (slba : Nat) (data : List Block) (fua ordered : Bool) (dtype dspec : Nat) (pi : PiArgs) {s : State} : FromO 15429401184002 s (execWrite c slba data fua ordered dtype dspec pi s) := by
  unfold execWrite
  have hF : From 15429401184002 s s := From.refl _ _
  refine FromO.next ?_
  refine From.step (ioArrive_from ..) ?_ rfl
  exact hF

theorem execRead_from (c : Cmd) (slba nlb : Nat) (fua ordered : Bool) (pi : PiArgs) {s : State} : FromO 15429401184002 s (execRead c slba nlb fua ordered pi s) := by
  unfold execRead
  have hF : From 15429401184002 s s := From.refl _ _
  refine FromO.next ?_
  refine From.step (ioArrive_from ..) ?_ rfl
  exact hF

theorem execCompare_from (c : Cmd) (slba : Nat) (data : List Block) (pi : PiArgs) {s : State} : FromO 15429401184002 s (execCompare c slba data pi s) := by
  unfold execCompare
  have hF : From 15429401184002 s s := From.refl _ _
  refine FromO.next ?_
  refine From.step (ioArrive_from ..) ?_ rfl
  exact hF

theorem execVerify_from (c : Cmd) (slba nlb : Nat) (pi : PiArgs) {s : State} : FromO 15429401184002 s (execVerify c slba nlb pi s) := by
  unfold execVerify
  have hF : From 15429401184002 s s := From.refl _ _
  refine FromO.next ?_
  refine From.step (ioArrive_from ..) ?_ rfl
  exact hF

theorem execWriteZeroes_from (c : Cmd) (slba nlb : Nat) (deac : Bool) (dtype dspec : Nat) {s : State} : FromO 15429401184002 s (execWriteZeroes c slba nlb deac dtype dspec s) := by
  unfold execWriteZeroes
  have hF : From 15429401184002 s s := From.refl _ _
  refine FromO.next ?_
  refine From.step (ioArrive_from ..) ?_ rfl
  exact hF

theorem execWriteUncorrectable_from (c : Cmd) (slba nlb : Nat) {s : State} : FromO 15429401184002 s (execWriteUncorrectable c slba nlb s) := by
  unfold execWriteUncorrectable
  have hF : From 15429401184002 s s := From.refl _ _
  refine FromO.next ?_
  refine From.step (ioArrive_from ..) ?_ rfl
  exact hF

theorem execDatasetManagement_from (c : Cmd) (deallocate : Bool) (ranges : List (Nat × Nat)) {s : State} : FromO 15429401184002 s (execDatasetManagement c deallocate ranges s) := by
  unfold execDatasetManagement
  have hF : From 15429401184002 s s := From.refl _ _
  refine FromO.next ?_
  refine From.step (ioArrive_from ..) ?_ rfl
  exact hF

theorem execZoneAppend_from (c : Cmd) (zslba : Nat) (data : List Block) (fua : Bool) (pi : PiArgs) {s : State} : FromO 15429401184002 s (execZoneAppend c zslba data fua pi s) := by
  unfold execZoneAppend
  have hF : From 15429401184002 s s := From.refl _ _
  refine FromO.next ?_
  refine From.step (ioArrive_from ..) ?_ rfl
  exact hF

theorem execZoneOpen_from (c : Cmd) (slba : Nat) (all : Bool) {s : State} : FromO 15429401184002 s (execZoneOpen c slba all s) := by
  unfold execZoneOpen
  have hF : From 15429401184002 s s := From.refl _ _
  refine FromO.next ?_
  refine From.step (ioArrive_from ..) ?_ rfl
  exact hF

theorem execZoneClose_from (c : Cmd) (slba : Nat) (all : Bool) {s : State} : FromO 15429401184002 s (execZoneClose c slba all s) := by
  unfold execZoneClose
  have hF : From 15429401184002 s s := From.refl _ _
  refine FromO.next ?_
  refine From.step (ioArrive_from ..) ?_ rfl
  exact hF

theorem execZoneFinish_from (c : Cmd) (slba : Nat) (all : Bool) {s : State} : FromO 15429401184002 s (execZoneFinish c slba all s) := by
  unfold execZoneFinish
  have hF : From 15429401184002 s s := From.refl _ _
  refine FromO.next ?_
  refine From.step (ioArrive_from ..) ?_ rfl
  exact hF

theorem execZoneReset_from (c : Cmd) (slba : Nat) (all : Bool) {s : State} : FromO 15429401184002 s (execZoneReset c slba all s) := by
  unfold execZoneReset
  have hF : From 15429401184002 s s := From.refl _ _
  refine FromO.next ?_
  refine From.step (ioArrive_from ..) ?_ rfl
  exact hF

theorem execZoneOffline_from (c : Cmd) (slba : Nat) (all : Bool) {s : State} : FromO 15429401184002 s (execZoneOffline c slba all s) := by
  unfold execZoneOffline
  have hF : From 15429401184002 s s := From.refl _ _
  refine FromO.next ?_
  refine From.step (ioArrive_from ..) ?_ rfl
  exact hF

theorem execWriteAcknowledge_from (fn sqid cid : Nat) {s : State} : FromO 15429401184002 s (execWriteAcknowledge fn sqid cid s) := by
  unfold execWriteAcknowledge
  have hF : From 15429401184002 s s := From.refl _ _
  refine FromO.next ?_
  refine From.step (settle_from ..) ?_ rfl
  refine From.step (writeAcknowledge_from ..) ?_ rfl
  exact hF

theorem execPoolUnitFreed_from (pool : Nat) {s : State} : FromO 15429401184002 s (execPoolUnitFreed pool s) := by
  unfold execPoolUnitFreed
  have hF : From 15429401184002 s s := From.refl _ _
  refine FromO.next ?_
  refine From.step (settle_from ..) ?_ rfl
  refine From.step (poolUnitFreed_from ..) ?_ rfl
  exact hF

theorem execZoneFinishedByController_from (nsid zone : Nat) {s : State} : FromO 15429401184002 s (execZoneFinishedByController nsid zone s) := by
  unfold execZoneFinishedByController
  have hF : From 15429401184002 s s := From.refl _ _
  refine FromO.next ?_
  refine From.step (settle_from ..) ?_ rfl
  refine From.step (finishedByController_from ..) ?_ rfl
  exact hF

theorem execAdmissionDeadline_from (fn sqid cid : Nat) {s : State} : FromO 15429401184002 s (execAdmissionDeadline fn sqid cid s) := by
  unfold execAdmissionDeadline
  have hF : From 15429401184002 s s := From.refl _ _
  refine FromO.next ?_
  refine From.step (settle_from ..) ?_ rfl
  refine From.step (admissionDeadline_from ..) ?_ rfl
  exact hF

theorem pieceStalls_from {s : State} (zk off compressor gen : Nat) : From 8388610 s (pieceStalls s zk off compressor gen) := by
  unfold pieceStalls
  have hF : From 8388610 s s := From.refl _ _
  refine From.step (modZone_from ..) ?_ rfl
  refine From.step (bump64_from ..) ?_ rfl
  exact hF

theorem pieceMismatch_from {s : State} (zk nsid lba compressor : Nat) : From 2303253415682 s (pieceMismatch s zk nsid lba compressor) := by
  unfold pieceMismatch
  have hF : From 2303253415682 s s := From.refl _ _
  extract_lets +onlyGivenNames x0
  clear_value x0
  extract_lets +onlyGivenNames x1
  have hx1 : From 2303253415682 s x1 := by
    subst x1
    refine From.step (event_from ..) ?_ rfl
    refine From.step (bump32_from ..) ?_ rfl
    exact hF
  clear_value x1
  extract_lets +onlyGivenNames x2
  have hx2 : From 2303253415682 s x2 := by
    subst x2
    split
    · rename_i e3
      refine From.step (closeUnit_from ..) ?_ rfl
      exact hx1
    · rename_i e4
      exact hx1
  clear_value x2
  refine From.step (compressorCharge_from ..) ?_ rfl
  exact hx2

theorem pieceDone_from {s : State} (f : Flight) (zk : Nat) (piece rest : List (Nat × Block)) (sc compressor : Nat) : From 6632630781698 s (pieceDone s f zk piece rest sc compressor) := by
  unfold pieceDone
  have hF : From 6632630781698 s s := From.refl _ _
  extract_lets +onlyGivenNames x0
  clear_value x0
  extract_lets +onlyGivenNames x1
  clear_value x1
  split
  · rename_i y2
    exact hF
  · rename_i y3 y4 y5 y6
    extract_lets +onlyGivenNames x7
    clear_value x7
    extract_lets +onlyGivenNames x8
    have hx8 : From 6632630781698 s x8 := by
      subst x8
      refine From.foldl ?_ ?_ _
      · exact hF
      · intro a9 a10 a11
        refine From.step (storeBlock_from ..) ?_ rfl
        exact a11
    clear_value x8
    extract_lets +onlyGivenNames x12
    have hx12 : From 6632630781698 s x12 := by
      subst x12
      refine From.step (addPiece_from ..) ?_ rfl
      exact hx8
    clear_value x12
    extract_lets +onlyGivenNames x13
    have hx13 : From 6632630781698 s x13 := by
      subst x13
      refine From.step (modZone_from ..) ?_ rfl
      exact hx12
    clear_value x13
    extract_lets +onlyGivenNames x14
    have hx14 : From 6632630781698 s x14 := by
      subst x14
      refine From.step (modFlight_from ..) ?_ rfl
      exact hx13
    clear_value x14
    extract_lets +onlyGivenNames x15
    have hx15 : From 6632630781698 s x15 := by
      subst x15
      split
      · rename_i e16
        refine From.step (closeUnit_from ..) ?_ rfl
        exact hx14
      · rename_i e17
        split
        · rename_i e18
          refine From.step (closeUnit_from ..) ?_ rfl
          exact hx14
        · rename_i e19
          exact hx14
    clear_value x15
    extract_lets +onlyGivenNames x20
    have hx20 : From 6632630781698 s x20 := by
      subst x20
      split
      · rename_i e21
        refine From.step (mirrorWrite_from ..) ?_ rfl
        exact hx15
      · rename_i e22
        exact hx15
    clear_value x20
    refine From.step (closeIfFull_from ..) ?_ rfl
    exact hx20

theorem compressPiece_from {s : State} (fn sqid cid sc : Nat) (verified : Bool) (compressor : Nat) (noBuffer : Bool) : From 6701350258434 s (compressPiece s fn sqid cid sc verified compressor noBuffer) := by
  unfold compressPiece
  have hF : From 6701350258434 s s := From.refl _ _
  split
  · rename_i y0 y1 e2
    split
    · rename_i y3 y4 y5 e6
      split
      · rename_i y7
        exact hF
      · rename_i y8 y9 y10 y11
        extract_lets +onlyGivenNames x12
        clear_value x12
        extract_lets +onlyGivenNames x13
        clear_value x13
        split
        · rename_i e14
          exact hF
        · rename_i e15
          split
          · rename_i e16
            refine From.step (pieceStalls_from ..) ?_ rfl
            exact hF
          · rename_i e17
            split
            · rename_i e18
              refine From.step (pieceMismatch_from ..) ?_ rfl
              exact hF
            · rename_i e19
              refine From.step (pieceDone_from ..) ?_ rfl
              exact hF
  · rename_i y20 e21
    exact hF

theorem execCompressPiece_from (fn sqid cid storedLength : Nat) (verified : Bool) (compressor : Nat) (noBuffer : Bool) {s : State} : FromO 15498120660738 s (execCompressPiece fn sqid cid storedLength verified compressor noBuffer s) := by
  unfold execCompressPiece
  have hF : From 15498120660738 s s := From.refl _ _
  refine FromO.next ?_
  refine From.step (settle_from ..) ?_ rfl
  refine From.step (compressPiece_from ..) ?_ rfl
  exact hF

theorem unitIdleCut_from {s : State} (nsid zone : Nat) : From 2234533938946 s (unitIdleCut s nsid zone) := by
  unfold unitIdleCut
  have hF : From 2234533938946 s s := From.refl _ _
  split
  · rename_i y0 y1 e2
    split
    · rename_i e3
      refine From.step (closeUnit_from ..) ?_ rfl
      exact hF
    · rename_i e4
      exact hF
  · rename_i y5 e6
    exact hF

theorem execUnitIdleCut_from (nsid zone : Nat) {s : State} : FromO 15429401184002 s (execUnitIdleCut nsid zone s) := by
  unfold execUnitIdleCut
  have hF : From 15429401184002 s s := From.refl _ _
  refine FromO.next ?_
  refine From.step (settle_from ..) ?_ rfl
  refine From.step (unitIdleCut_from ..) ?_ rfl
  exact hF

theorem failFrames_from {s : State} : From 1048576 s (failFrames s) := by
  unfold failFrames
  have hF : From 1048576 s s := From.refl _ _
  split
  · rename_i e0
    with_reducible exact From.set_flights hF _ rfl
  · rename_i e1
    exact hF

theorem decompressorCharge_from {s : State} (n : Nat) : From 68720525570 s (decompressorCharge s n) := by
  unfold decompressorCharge
  have hF : From 68720525570 s s := From.refl _ _
  extract_lets +onlyGivenNames x0
  clear_value x0
  extract_lets +onlyGivenNames x1
  clear_value x1
  extract_lets +onlyGivenNames x2
  have hx2 : From 68720525570 s x2 := by
    subst x2
    refine From.step (bump32_from ..) ?_ rfl
    with_reducible exact From.set_comp hF _ rfl
  clear_value x2
  split
  · rename_i e3
    extract_lets +onlyGivenNames x4
    have hx4 : From 68720525570 s x4 := by
      subst x4
      refine From.step (event_from ..) ?_ rfl
      refine From.step (setV_from ..) ?_ rfl
      exact hx2
    clear_value x4
    split
    · rename_i e5
      refine From.step (failFrames_from ..) ?_ rfl
      refine From.step (event_from ..) ?_ rfl
      exact hx4
    · rename_i e6
      exact hx4
  · rename_i e7
    exact hx2

theorem pageLoaded_from {s : State} (id : Nat) : From 2199024304128 s (pageLoaded s id) := by
  unfold pageLoaded
  have hF : From 2199024304128 s s := From.refl _ _
  extract_lets +onlyGivenNames x0
  clear_value x0
  extract_lets +onlyGivenNames x1
  have hx1 : From 2199024304128 s x1 := by
    subst x1
    refine From.step (mapTouch_from ..) ?_ rfl
    exact hF
  clear_value x1
  extract_lets +onlyGivenNames x2
  clear_value x2
  extract_lets +onlyGivenNames x3
  have hx3 : From 2199024304128 s x3 := by
    subst x3
    with_reducible exact From.set_xlat hx1 _ rfl
  clear_value x3
  refine From.step (mapArrived_from ..) ?_ rfl
  exact hx3

theorem metadataLost_from {s : State} (structure' : Nat) : From 2200165811970 s (metadataLost s structure') := by
  unfold metadataLost
  have hF : From 2200165811970 s s := From.refl _ _
  split
  · rename_i e0
    exact hF
  · rename_i e1
    refine From.step (event_from ..) ?_ rfl
    refine From.step (allReadOnly_from ..) ?_ rfl
    refine From.step (aenPfs_from ..) ?_ rfl
    with_reducible exact From.set_xlat hF _ rfl

theorem zoneRecordLost_from {s : State} (nsid zone : Nat) : From 2235125335810 s (zoneRecordLost s nsid zone) := by
  unfold zoneRecordLost
  have hF : From 2235125335810 s s := From.refl _ _
  extract_lets +onlyGivenNames x0
  clear_value x0
  extract_lets +onlyGivenNames x1
  clear_value x1
  split
  · rename_i e2
    exact hF
  · rename_i e3
    extract_lets +onlyGivenNames x4
    clear_value x4
    extract_lets +onlyGivenNames x5
    have hx5 : From 2235125335810 s x5 := by
      subst x5
      refine From.step (offlineZone_from ..) ?_ rfl
      refine From.step (endZoneWrites_from ..) ?_ rfl
      exact hF
    clear_value x5
    refine From.step (discover_from ..) ?_ rfl
    refine From.step (zoneChanged_from ..) ?_ rfl
    exact hx5

theorem lossMapLost_from {s : State} : From 2199023255552 s (lossMapLost s) := by
  unfold lossMapLost
  have hF : From 2199023255552 s s := From.refl _ _
  extract_lets +onlyGivenNames x0
  subst x0
  dsimp -zeta only
  extract_lets +onlyGivenNames x1
  clear_value x1
  extract_lets +onlyGivenNames x2
  clear_value x2
  extract_lets +onlyGivenNames x3
  have hx3 : From 2199023255552 s x3 := by
    subst x3
    with_reducible exact From.set_xlat hF _ rfl
  clear_value x3
  refine From.foldl ?_ ?_ _
  · exact hx3
  · intro a4 a5 a6
    refine From.foldl ?_ ?_ _
    · exact a6
    · intro a7 a8 a9
      refine From.foldl ?_ ?_ _
      · exact a9
      · intro a10 a11 a12
        refine From.step (lossPend_from ..) ?_ rfl
        exact a12

theorem metadataRead_from {s : State} (nsid page : Nat) (any : Bool) : From 2235125335810 s (metadataRead s nsid page any) := by
  unfold metadataRead
  have hF : From 2235125335810 s s := From.refl _ _
  split
  · rename_i e0
    exact hF
  · rename_i e1
    split
    · rename_i e2
      split
      · rename_i e3
        refine From.step (metadataLost_from ..) ?_ rfl
        exact hF
      · rename_i e4
        split
        · rename_i e5
          refine From.step (lossMapLost_from ..) ?_ rfl
          exact hF
        · rename_i e6
          exact hF
    · rename_i e7
      refine From.step (zoneRecordLost_from ..) ?_ rfl
      exact hF

theorem mapMiss_from {s : State} (nsid page : Nat) (copyA copyB : Bool) : From 2235125335810 s (mapMiss s nsid page copyA copyB) := by
  unfold mapMiss
  have hF : From 2235125335810 s s := From.refl _ _
  extract_lets +onlyGivenNames x0
  subst x0
  dsimp -zeta only
  split
  · rename_i e1
    refine From.step (metadataRead_from ..) ?_ rfl
    split
    · rename_i e2
      refine From.step (bump32_from ..) ?_ rfl
      exact hF
    · rename_i e3
      exact hF
  · rename_i e4
    extract_lets +onlyGivenNames x5
    clear_value x5
    split
    · rename_i e6
      exact hF
    · rename_i e7
      extract_lets +onlyGivenNames x8
      have hx8 : From 2235125335810 s x8 := by
        subst x8
        split
        · rename_i e9
          refine From.step (bump32_from ..) ?_ rfl
          refine From.step (bump64_from ..) ?_ rfl
          exact hF
        · rename_i e10
          refine From.step (bump64_from ..) ?_ rfl
          exact hF
      clear_value x8
      split
      · rename_i e11
        refine From.step (pageLoaded_from ..) ?_ rfl
        exact hx8
      · rename_i e12
        extract_lets +onlyGivenNames x13
        clear_value x13
        refine From.step (pageLoaded_from ..) ?_ rfl
        refine From.step (discover_from ..) ?_ rfl
        exact hx8

theorem execMapMiss_from (nsid page : Nat) (copyA copyB : Bool) {s : State} : FromO 15429401184002 s (execMapMiss nsid page copyA copyB s) := by
  unfold execMapMiss
  have hF : From 15429401184002 s s := From.refl _ _
  refine FromO.next ?_
  refine From.step (settle_from ..) ?_ rfl
  refine From.step (mapMiss_from ..) ?_ rfl
  exact hF

theorem mapPinLoad_from {s : State} (c : Nat) : From 2233384042496 s (mapPinLoad s c) := by
  unfold mapPinLoad
  have hF : From 2233384042496 s s := From.refl _ _
  split
  · rename_i e0
    extract_lets +onlyGivenNames x1
    clear_value x1
    refine From.step (modBound_from ..) ?_ rfl
    refine From.foldl ?_ ?_ _
    · exact hF
    · intro a2 a3 a4
      refine From.step (pageLoaded_from ..) ?_ rfl
      exact a4
  · rename_i e5
    exact hF

theorem execMapPinLoad_from (cove : Nat) {s : State} : FromO 15429401184002 s (execMapPinLoad cove s) := by
  unfold execMapPinLoad
  have hF : From 15429401184002 s s := From.refl _ _
  refine FromO.next ?_
  refine From.step (settle_from ..) ?_ rfl
  refine From.step (mapPinLoad_from ..) ?_ rfl
  exact hF

theorem mapWriteback_from {s : State} : From 2199023255552 s (mapWriteback s) := by
  unfold mapWriteback
  have hF : From 2199023255552 s s := From.refl _ _
  with_reducible exact From.set_xlat hF _ rfl

theorem execMapWriteback_from {s : State} : FromO 15429401184002 s (execMapWriteback s) := by
  unfold execMapWriteback
  have hF : From 15429401184002 s s := From.refl _ _
  refine FromO.next ?_
  refine From.step (settle_from ..) ?_ rfl
  refine From.step (mapWriteback_from ..) ?_ rfl
  exact hF

theorem gcCopy_from {s : State} (c : Nat) : From 2233384042498 s (gcCopy s c) := by
  unfold gcCopy
  have hF : From 2233384042498 s s := From.refl _ _
  split
  · rename_i y0 y1 e2
    split
    · rename_i y3 y4 y5 e6
      extract_lets +onlyGivenNames x7
      clear_value x7
      extract_lets +onlyGivenNames x8
      clear_value x8
      extract_lets +onlyGivenNames x9
      have hx9 : From 2233384042498 s x9 := by
        subst x9
        refine From.foldl ?_ ?_ _
        · exact hF
        · intro a10 a11 a12
          split
          · rename_i e13
            refine From.step (pageLoaded_from ..) ?_ rfl
            exact a12
          · rename_i e14
            exact a12
      clear_value x9
      split
      · rename_i y15 y16 y17 e18
        have h19 : From 2233384042498 s y17 := by
          refine From.snd e18 ?_
          refine From.step (placeAll_from ..) ?_ rfl
          exact hx9
        extract_lets +onlyGivenNames x20
        have hx20 : From 2233384042498 s x20 := by
          subst x20
          refine From.foldl ?_ ?_ _
          · exact h19
          · intro a21 a22 a23
            split
            · rename_i e24
              refine From.step (wbMovePage_from ..) ?_ rfl
              exact a23
            · rename_i e25
              exact a23
        clear_value x20
        extract_lets +onlyGivenNames x26
        clear_value x26
        refine From.step (addReloc_from ..) ?_ rfl
        refine From.step (bump_from ..) ?_ rfl
        exact hx20
  · rename_i y27 e28
    exact hF

theorem gcStart_from {s : State} (c : Nat) : From 2233384042498 s (gcStart s c) := by
  unfold gcStart
  have hF : From 2233384042498 s s := From.refl _ _
  split
  · rename_i e0
    refine From.step (gcCopy_from ..) ?_ rfl
    exact hF
  · rename_i e1
    exact hF

theorem execGcStart_from (cove : Nat) {s : State} : FromO 15429401184002 s (execGcStart cove s) := by
  unfold execGcStart
  have hF : From 15429401184002 s s := From.refl _ _
  refine FromO.next ?_
  refine From.step (settle_from ..) ?_ rfl
  refine From.step (gcStart_from ..) ?_ rfl
  exact hF

theorem switchAndGo_from {s : State} (id : Nat) : From 6633171846978 s (switchAndGo s id) := by
  unfold switchAndGo
  have hF : From 6633171846978 s s := From.refl _ _
  split
  · rename_i y0 y1 e2
    extract_lets +onlyGivenNames x3
    clear_value x3
    extract_lets +onlyGivenNames x4
    have hx4 : From 6633171846978 s x4 := by
      subst x4
      refine From.step (relocationSwitch_from ..) ?_ rfl
      exact hF
    clear_value x4
    split
    · rename_i e5
      refine From.step (gcCopy_from ..) ?_ rfl
      exact hx4
    · rename_i e6
      exact hx4
  · rename_i y7 e8
    exact hF

theorem execRelocationSwitch_from (id : Nat) {s : State} : FromO 15429401184066 s (execRelocationSwitch id s) := by
  unfold execRelocationSwitch
  have hF : From 15429401184066 s s := From.refl _ _
  refine FromO.next ?_
  refine From.step (settle_from ..) ?_ rfl
  refine From.step (switchAndGo_from ..) ?_ rfl
  exact hF

theorem wearLevelling_from {s : State} (die : Nat) : From 2233382993922 s (wearLevelling s die) := by
  unfold wearLevelling
  have hF : From 2233382993922 s s := From.refl _ _
  extract_lets +onlyGivenNames x0
  clear_value x0
  extract_lets +onlyGivenNames x1
  clear_value x1
  extract_lets +onlyGivenNames x2
  clear_value x2
  split
  · rename_i e3
    exact hF
  · rename_i e4
    split
    · rename_i y5 y6 e7
      extract_lets +onlyGivenNames x8
      have hx8 : From 2233382993922 s x8 := by
        subst x8
        refine From.step (startReloc_from ..) ?_ rfl
        exact hF
      clear_value x8
      split
      · rename_i e9
        exact hx8
      · rename_i e10
        refine From.step (bump64_from ..) ?_ rfl
        exact hx8
    · rename_i y11 e12
      exact hF

theorem execWearLevelling_from (die : Nat) {s : State} : FromO 15429401184002 s (execWearLevelling die s) := by
  unfold execWearLevelling
  have hF : From 15429401184002 s s := From.refl _ _
  refine FromO.next ?_
  refine From.step (settle_from ..) ?_ rfl
  refine From.step (wearLevelling_from ..) ?_ rfl
  exact hF

theorem refresh_from {s : State} (die : Nat) : From 2233382993922 s (refresh s die) := by
  unfold refresh
  have hF : From 2233382993922 s s := From.refl _ _
  split
  · rename_i e0
    exact hF
  · rename_i e1
    split
    · rename_i y2 y3 e4
      extract_lets +onlyGivenNames x5
      have hx5 : From 2233382993922 s x5 := by
        subst x5
        refine From.step (startReloc_from ..) ?_ rfl
        exact hF
      clear_value x5
      split
      · rename_i e6
        exact hx5
      · rename_i e7
        refine From.step (bump64_from ..) ?_ rfl
        exact hx5
    · rename_i y8 e9
      exact hF

theorem execRefresh_from (die : Nat) {s : State} : FromO 15429401184002 s (execRefresh die s) := by
  unfold execRefresh
  have hF : From 15429401184002 s s := From.refl _ _
  refine FromO.next ?_
  refine From.step (settle_from ..) ?_ rfl
  refine From.step (refresh_from ..) ?_ rfl
  exact hF

theorem execDieRetire_from (die : Nat) {s : State} : FromO 15429401184066 s (execDieRetire die s) := by
  unfold execDieRetire
  have hF : From 15429401184066 s s := From.refl _ _
  refine FromO.next ?_
  refine From.step (settle_from ..) ?_ rfl
  refine From.step (dieRetire_from ..) ?_ rfl
  exact hF

theorem dieEnumerate_from {s : State} (die : Nat) : From 2199023255552 s (dieEnumerate s die) := by
  unfold dieEnumerate
  have hF : From 2199023255552 s s := From.refl _ _
  split
  · rename_i e0
    exact hF
  · rename_i e1
    extract_lets +onlyGivenNames x2
    clear_value x2
    extract_lets +onlyGivenNames x3
    clear_value x3
    extract_lets +onlyGivenNames x4
    clear_value x4
    extract_lets +onlyGivenNames x5
    have hx5 : From 2199023255552 s x5 := by
      subst x5
      with_reducible exact From.set_xlat hF _ rfl
    clear_value x5
    extract_lets +onlyGivenNames x6
    clear_value x6
    extract_lets +onlyGivenNames x7
    have hx7 : From 2199023255552 s x7 := by
      subst x7
      refine From.foldl ?_ ?_ _
      · exact hx5
      · intro a8 a9 a10
        extract_lets +onlyGivenNames x11
        clear_value x11
        refine From.foldl ?_ ?_ _
        · exact a10
        · intro a12 a13 a14
          extract_lets +onlyGivenNames x15
          clear_value x15
          refine From.foldl ?_ ?_ _
          · exact a14
          · intro a16 a17 a18
            refine From.step (lossPend_from ..) ?_ rfl
            exact a18
    clear_value x7
    refine From.foldl ?_ ?_ _
    · exact hx7
    · intro a19 a20 a21
      refine From.step (lossPend_from ..) ?_ rfl
      exact a21

theorem execDieNoticeEnumeration_from (die : Nat) {s : State} : FromO 15429401184002 s (execDieNoticeEnumeration die s) := by
  unfold execDieNoticeEnumeration
  have hF : From 15429401184002 s s := From.refl _ _
  refine FromO.next ?_
  refine From.step (settle_from ..) ?_ rfl
  refine From.step (dieEnumerate_from ..) ?_ rfl
  exact hF

theorem answer_from {s : State} (c : Cmd) (st : NvStatus) (dw0 : Nat) : From 1142556162 s (answer s c st dw0) := by
  unfold answer
  have hF : From 1142556162 s s := From.refl _ _
  split
  · rename_i e0
    refine From.step (complete_from ..) ?_ rfl
    exact hF
  · rename_i e1
    exact hF

theorem createNs_from {s : State} (c : Cmd) (quota : Assoc Nat) (want : Nat) (zoned : Bool) (nsze ncap lbaf piType piGuard : Nat) : From 2200170006274 s (createNs s c quota want zoned nsze ncap lbaf piType piGuard) := by
  unfold createNs
  have hF : From 2200170006274 s s := From.refl _ _
  extract_lets +onlyGivenNames x0
  clear_value x0
  extract_lets +onlyGivenNames x1
  clear_value x1
  split
  · rename_i e2
    refine From.step (answer_from ..) ?_ rfl
    exact hF
  · rename_i e3
    split
    · rename_i y4 e5
      split
      · rename_i y6 e7
        refine From.step (answer_from ..) ?_ rfl
        exact hF
      · rename_i y8 y9 e10
        extract_lets +onlyGivenNames x11
        have hx11 : From 2200170006274 s x11 := by
          subst x11
          refine From.upd 4194304 (hF) rfl rfl ?_ ?_ ?_ ?_ ?_ ?_ ?_ ?_ ?_ ?_ ?_ ?_ ?_ ?_ ?_ ?_ ?_ ?_ ?_
          all_goals with_reducible first | exact id | exact fun _ => Assoc.wf_nil | exact fun _ => From.nil_le | exact fun _ => From.sixteen | (intro w; repeat' first | exact w | exact From.nil_le | exact Assoc.wf_nil | split | apply Assoc.wf_foldl (fun m b w => Assoc.wf_put w) | apply Assoc.wf_put | apply Assoc.wf_upd | apply Assoc.wf_updD | apply Assoc.wf_del | apply Assoc.wf_keep | apply Assoc.wf_mapVal)
        clear_value x11
        split
        · rename_i e12
          refine From.step (answer_from ..) ?_ rfl
          exact hF
        · rename_i e13
          refine From.step (answer_from ..) ?_ rfl
          refine From.step (capCheck_from ..) ?_ rfl
          exact hx11
    · rename_i y14 e15
      refine From.step (answer_from ..) ?_ rfl
      exact hF

theorem wipeNs_from {s : State} (nsid : Nat) : From 2235125335810 s (wipeNs s nsid) := by
  unfold wipeNs
  have hF : From 2235125335810 s s := From.refl _ _
  extract_lets +onlyGivenNames x0
  clear_value x0
  extract_lets +onlyGivenNames x1
  clear_value x1
  extract_lets +onlyGivenNames x2
  clear_value x2
  extract_lets +onlyGivenNames x3
  have hx3 : From 2235125335810 s x3 := by
    subst x3
    refine From.foldl ?_ ?_ _
    · exact hF
    · intro a4 a5 a6
      split
      · rename_i e7
        exact a6
      · rename_i e8
        refine From.step (resetZone_from ..) ?_ rfl
        exact a6
  clear_value x3
  extract_lets +onlyGivenNames x9
  have hx9 : From 2235125335810 s x9 := by
    subst x9
    refine From.step (unpoison_from ..) ?_ rfl
    refine From.step (wbDrop_from ..) ?_ rfl
    refine From.step (clearBlocks_from ..) ?_ rfl
    exact hx3
  clear_value x9
  extract_lets +onlyGivenNames x10
  have hx10 : From 2235125335810 s x10 := by
    subst x10
    refine From.foldl ?_ ?_ _
    · exact hx9
    · intro a11 a12 a13
      refine From.step (lossFlag_from ..) ?_ rfl
      exact a13
  clear_value x10
  extract_lets +onlyGivenNames x14
  subst x14
  extract_lets +onlyGivenNames x15
  clear_value x15
  extract_lets +onlyGivenNames x16
  have hx16 : From 2235125335810 s x16 := by
    subst x16
    with_reducible exact From.set_xlat hx10 _ rfl
  clear_value x16
  extract_lets +onlyGivenNames x17
  have hx17 : From 2235125335810 s x17 := by
    subst x17
    refine From.step (keyUnfix_from ..) ?_ rfl
    refine From.upd 4194304 (hx16) rfl rfl ?_ ?_ ?_ ?_ ?_ ?_ ?_ ?_ ?_ ?_ ?_ ?_ ?_ ?_ ?_ ?_ ?_ ?_ ?_
    all_goals with_reducible first | exact id | exact fun _ => Assoc.wf_nil | exact fun _ => From.nil_le | exact fun _ => From.sixteen | (intro w; repeat' first | exact w | exact From.nil_le | exact Assoc.wf_nil | split | apply Assoc.wf_foldl (fun m b w => Assoc.wf_put w) | apply Assoc.wf_put | apply Assoc.wf_upd | apply Assoc.wf_updD | apply Assoc.wf_del | apply Assoc.wf_keep | apply Assoc.wf_mapVal)
  clear_value x17
  refine From.step (capCheck_from ..) ?_ rfl
  refine From.step (atRiskClear_from ..) ?_ rfl
  exact hx17

theorem endCommands_from {s : State} (p : Flight → Bool) (st : NvStatus) : From 1142556162 s (endCommands s p st) := by
  unfold endCommands
  have hF : From 1142556162 s s := From.refl _ _
  refine From.foldl ?_ ?_ _
  · exact hF
  · intro a0 a1 a2
    split
    · rename_i e3
      refine From.step (completeFlight_from ..) ?_ rfl
      exact a2
    · rename_i e4
      exact a2

theorem stageAttach_from {s : State} (nsid : Nat) (on : Bool) (ids : List Nat) : From 4194352 s (stageAttach s nsid on ids) := by
  unfold stageAttach
  have hF : From 4194352 s s := From.refl _ _
  extract_lets +onlyGivenNames x0
  clear_value x0
  refine From.foldl ?_ ?_ _
  · exact hF
  · intro a1 a2 a3
    split
    · rename_i y4 y5 e6
      refine From.step (stageAt_from ..) ?_ rfl
      exact a3
    · rename_i y7 y8 e9
      refine From.upd 4194304 (a3) rfl rfl ?_ ?_ ?_ ?_ ?_ ?_ ?_ ?_ ?_ ?_ ?_ ?_ ?_ ?_ ?_ ?_ ?_ ?_ ?_
      all_goals with_reducible first | exact id | exact fun _ => Assoc.wf_nil | exact fun _ => From.nil_le | exact fun _ => From.sixteen | (intro w; repeat' first | exact w | exact From.nil_le | exact Assoc.wf_nil | split | apply Assoc.wf_foldl (fun m b w => Assoc.wf_put w) | apply Assoc.wf_put | apply Assoc.wf_upd | apply Assoc.wf_updD | apply Assoc.wf_del | apply Assoc.wf_keep | apply Assoc.wf_mapVal)
    · rename_i y10 e11
      exact a3

theorem formatNs_from {s : State} (nsid lbaf piType piGuard : Nat) : From 2235125335810 s (formatNs s nsid lbaf piType piGuard) := by
  unfold formatNs
  have hF : From 2235125335810 s s := From.refl _ _
  extract_lets +onlyGivenNames x0
  have hx0 : From 2235125335810 s x0 := by
    subst x0
    refine From.step (wipeNs_from ..) ?_ rfl
    refine From.step (endCommands_from ..) ?_ rfl
    exact hF
  clear_value x0
  refine From.step (capCheck_from ..) ?_ rfl
  refine From.upd 4194304 (hx0) rfl rfl ?_ ?_ ?_ ?_ ?_ ?_ ?_ ?_ ?_ ?_ ?_ ?_ ?_ ?_ ?_ ?_ ?_ ?_ ?_
  all_goals with_reducible first | exact id | exact fun _ => Assoc.wf_nil | exact fun _ => From.nil_le | exact fun _ => From.sixteen | (intro w; repeat' first | exact w | exact From.nil_le | exact Assoc.wf_nil | split | apply Assoc.wf_foldl (fun m b w => Assoc.wf_put w) | apply Assoc.wf_put | apply Assoc.wf_upd | apply Assoc.wf_updD | apply Assoc.wf_del | apply Assoc.wf_keep | apply Assoc.wf_mapVal)

theorem nsRun_from {s : State} (c : Cmd) (op : FwdCmd) : From 2235125335858 s (nsRun s c op).2 := by
  unfold nsRun
  have hF : From 2235125335858 s s := From.refl _ _
  extract_lets +onlyGivenNames x0
  subst x0
  dsimp -zeta only
  split
  · rename_i y1 y2 y3 y4 y5 y6 y7 y8
    refine From.pair ?_
    exact hF
  · rename_i y9 y10 y11
    refine From.pair ?_
    exact hF
  · rename_i y12 y13 y14
    split
    · rename_i y15 e16
      split
      · rename_i e17
        refine From.pair ?_
        refine From.step (stageAt_from ..) ?_ rfl
        refine From.step (stageAttach_from ..) ?_ rfl
        exact hF
      · rename_i e18
        refine From.pair ?_
        refine From.step (answer_from ..) ?_ rfl
        exact hF
    · rename_i y19 e20
      refine From.pair ?_
      refine From.step (answer_from ..) ?_ rfl
      exact hF
  · rename_i y21 y22 y23
    split
    · rename_i y24 e25
      split
      · rename_i e26
        refine From.pair ?_
        refine From.step (stageAt_from ..) ?_ rfl
        refine From.step (stageAttach_from ..) ?_ rfl
        exact hF
      · rename_i e27
        refine From.pair ?_
        refine From.step (answer_from ..) ?_ rfl
        exact hF
    · rename_i y28 e29
      refine From.pair ?_
      refine From.step (answer_from ..) ?_ rfl
      exact hF
  · rename_i y30 y31 y32 y33 y34 y35
    split
    · rename_i y36 e37
      refine From.pair ?_
      refine From.step (answer_from ..) ?_ rfl
      refine From.step (formatNs_from ..) ?_ rfl
      exact hF
    · rename_i y38 e39
      refine From.pair ?_
      refine From.step (answer_from ..) ?_ rfl
      exact hF
  · rename_i y40 y41
    extract_lets +onlyGivenNames x42
    clear_value x42
    split
    · rename_i e43
      extract_lets +onlyGivenNames x44
      have hx44 : From 2235125335858 s x44 := by
        subst x44
        refine From.upd 4194304 (hF) rfl rfl ?_ ?_ ?_ ?_ ?_ ?_ ?_ ?_ ?_ ?_ ?_ ?_ ?_ ?_ ?_ ?_ ?_ ?_ ?_
        all_goals with_reducible first | exact id | exact fun _ => Assoc.wf_nil | exact fun _ => From.nil_le | exact fun _ => From.sixteen | (intro w; repeat' first | exact w | exact From.nil_le | exact Assoc.wf_nil | split | apply Assoc.wf_foldl (fun m b w => Assoc.wf_put w) | apply Assoc.wf_put | apply Assoc.wf_upd | apply Assoc.wf_updD | apply Assoc.wf_del | apply Assoc.wf_keep | apply Assoc.wf_mapVal)
      clear_value x44
      refine From.pair ?_
      refine From.foldl ?_ ?_ _
      · exact hx44
      · intro a45 a46 a47
        refine From.step (stageAt_from ..) ?_ rfl
        exact a47
    · rename_i e48
      refine From.pair ?_
      refine From.step (answer_from ..) ?_ rfl
      exact hF

theorem sanitizeStart_from {s : State} (c : Cmd) (ause : Bool) : From 1100654183938 s (sanitizeStart s c ause) := by
  unfold sanitizeStart
  have hF : From 1100654183938 s s := From.refl _ _
  extract_lets +onlyGivenNames x0
  have hx0 : From 1100654183938 s x0 := by
    subst x0
    refine From.step (endCommands_from ..) ?_ rfl
    exact hF
  clear_value x0
  refine From.step (answer_from ..) ?_ rfl
  with_reducible exact From.set_boot hx0 _ rfl

theorem sanitizeNext_from {s : State} : From 1100654183938 s (sanitizeNext s) := by
  unfold sanitizeNext
  have hF : From 1100654183938 s s := From.refl _ _
  split
  · rename_i y0 y1 y2 y3 y4 e5
    split
    · rename_i e6
      refine From.step (sanitizeStart_from ..) ?_ rfl
      with_reducible exact From.set_boot hF _ rfl
    · rename_i e7
      exact hF
  · rename_i y8 e9
    exact hF

theorem nsServe_from {s : State} (k nsid : Nat) : From 2235125335858 s (nsServe k s nsid) := by
  induction k generalizing s with
  | zero => exact From.refl _ _
  | succ k ih =>
    have hF : From 2235125335858 s s := From.refl _ _
    unfold nsServe
    extract_lets n
    split
    · split
      · exact hF
      · split
        rename_i e
        have h2 := From.snd e (From.step (nsRun_from _ _)
          (From.upd 4194304 hF rfl rfl id id id id Assoc.wf_upd id id id id id id id id id id id id id id) (m := 2235125335858) rfl)
        split
        · exact From.step ih (From.upd 4194304 h2 rfl rfl id id id id Assoc.wf_upd id id id id id id id id id id id id id id) rfl
        · exact h2
    · exact hF

theorem nsFinish_from {s : State} (nsid : Nat) : From 3334636963634 s (nsFinish s nsid) := by
  unfold nsFinish
  have hF : From 3334636963634 s s := From.refl _ _
  extract_lets +onlyGivenNames x0
  have hx0 : From 3334636963634 s x0 := by
    subst x0
    refine From.upd 4194304 (hF) rfl rfl ?_ ?_ ?_ ?_ ?_ ?_ ?_ ?_ ?_ ?_ ?_ ?_ ?_ ?_ ?_ ?_ ?_ ?_ ?_
    all_goals with_reducible first | exact id | exact fun _ => Assoc.wf_nil | exact fun _ => From.nil_le | exact fun _ => From.sixteen | (intro w; repeat' first | exact w | exact From.nil_le | exact Assoc.wf_nil | split | apply Assoc.wf_foldl (fun m b w => Assoc.wf_put w) | apply Assoc.wf_put | apply Assoc.wf_upd | apply Assoc.wf_updD | apply Assoc.wf_del | apply Assoc.wf_keep | apply Assoc.wf_mapVal)
  clear_value x0
  extract_lets +onlyGivenNames x1
  have hx1 : From 3334636963634 s x1 := by
    subst x1
    refine From.step (sanitizeNext_from ..) ?_ rfl
    exact hx0
  clear_value x1
  refine From.step (nsServe_from ..) ?_ rfl
  exact hx1

theorem nsArrive_from {s : State} (c : Cmd) (op : FwdCmd) (nsid : Nat) : From 2235125335858 s (nsArrive s c op nsid) := by
  unfold nsArrive
  have hF : From 2235125335858 s s := From.refl _ _
  split
  · rename_i y0 y1 e2
    refine From.step (nsServe_from ..) ?_ rfl
    refine From.upd 4194304 (hF) rfl rfl ?_ ?_ ?_ ?_ ?_ ?_ ?_ ?_ ?_ ?_ ?_ ?_ ?_ ?_ ?_ ?_ ?_ ?_ ?_
    all_goals with_reducible first | exact id | exact fun _ => Assoc.wf_nil | exact fun _ => From.nil_le | exact fun _ => From.sixteen | (intro w; repeat' first | exact w | exact From.nil_le | exact Assoc.wf_nil | split | apply Assoc.wf_foldl (fun m b w => Assoc.wf_put w) | apply Assoc.wf_put | apply Assoc.wf_upd | apply Assoc.wf_updD | apply Assoc.wf_del | apply Assoc.wf_keep | apply Assoc.wf_mapVal)
  · rename_i y3 e4
    refine From.step (answer_from ..) ?_ rfl
    exact hF

theorem fwdRun_from {s : State} (c : Cmd) (op : FwdCmd) : From 3334636963634 s (fwdRun s c op) := by
  unfold fwdRun
  have hF : From 3334636963634 s s := From.refl _ _
  split
  · rename_i y0 y1 y2 y3 y4 y5 y6 y7
    refine From.step (createNs_from ..) ?_ rfl
    exact hF
  · rename_i y8 y9
    refine From.step (nsArrive_from ..) ?_ rfl
    exact hF
  · rename_i y10 y11 y12
    refine From.step (nsArrive_from ..) ?_ rfl
    exact hF
  · rename_i y13 y14 y15
    refine From.step (nsArrive_from ..) ?_ rfl
    exact hF
  · rename_i y16 y17 y18 y19 y20 y21
    refine From.step (nsArrive_from ..) ?_ rfl
    exact hF
  · rename_i y22 y23 y24
    split
    · rename_i e25
      refine From.step (answer_from ..) ?_ rfl
      exact hF
    · rename_i e26
      refine From.step (sanitizeNext_from ..) ?_ rfl
      with_reducible exact From.set_boot hF _ rfl

theorem fwdOrRun_from {s : State} (c : Cmd) (half : Nat) (op : FwdCmd) : From 7732683474738 s (fwdOrRun s c half op) := by
  unfold fwdOrRun
  have hF : From 7732683474738 s s := From.refl _ _
  split
  · rename_i e0
    refine From.step (fwdRun_from ..) ?_ rfl
    exact hF
  · rename_i e1
    extract_lets +onlyGivenNames x2
    have hx2 : From 7732683474738 s x2 := by
      subst x2
      refine From.step (mirrorSend_from ..) ?_ rfl
      exact hF
    clear_value x2
    with_reducible exact From.set_pair hx2 _ rfl

theorem namespaceCreate_from {s : State} (c : Cmd) (zoned : Bool) (nsze ncap lbaf piType piGuard : Nat) : From 7732683474738 s (namespaceCreate s c zoned nsze ncap lbaf piType piGuard) := by
  unfold namespaceCreate
  have hF : From 7732683474738 s s := From.refl _ _
  split
  · rename_i y0 e1
    extract_lets +onlyGivenNames x2
    extract_lets +onlyGivenNames x3
    clear_value x3
    refine From.step (fwdOrRun_from ..) ?_ rfl
    exact hF
  · rename_i y4 e5
    refine From.step (complete_from ..) ?_ rfl
    exact hF

theorem execNamespaceCreate_from (c : Cmd) (zoned : Bool) (nsze ncap lbaf piType piGuard : Nat) {s : State} : FromO 7732683474738 s (execNamespaceCreate c zoned nsze ncap lbaf piType piGuard s) := by
  unfold execNamespaceCreate
  have hF : From 7732683474738 s s := From.refl _ _
  refine FromO.next ?_
  refine From.step (namespaceCreate_from ..) ?_ rfl
  exact hF

theorem nsCommand_from {s : State} (c : Cmd) (op : FwdCmd) : From 16528912811826 s (nsCommand s c op) := by
  unfold nsCommand
  have hF : From 16528912811826 s s := From.refl _ _
  split
  · rename_i y0 e1
    split
    · rename_i y2 y3 e4
      refine From.step (settle_from ..) ?_ rfl
      refine From.step (fwdOrRun_from ..) ?_ rfl
      exact hF
    · rename_i y5 e6
      refine From.step (complete_from ..) ?_ rfl
      exact hF
  · rename_i y7 e8
    refine From.step (complete_from ..) ?_ rfl
    exact hF

theorem execNamespaceDelete_from (c : Cmd) {s : State} : FromO 16528912811826 s (execNamespaceDelete c s) := by
  unfold execNamespaceDelete
  have hF : From 16528912811826 s s := From.refl _ _
  refine FromO.next ?_
  refine From.step (nsCommand_from ..) ?_ rfl
  exact hF

theorem execNamespaceAttach_from (c : Cmd) (controllers : List Nat) {s : State} : FromO 16528912811826 s (execNamespaceAttach c controllers s) := by
  unfold execNamespaceAttach
  have hF : From 16528912811826 s s := From.refl _ _
  refine FromO.next ?_
  refine From.step (nsCommand_from ..) ?_ rfl
  exact hF

theorem execNamespaceDetach_from (c : Cmd) (controllers : List Nat) {s : State} : FromO 16528912811826 s (execNamespaceDetach c controllers s) := by
  unfold execNamespaceDetach
  have hF : From 16528912811826 s s := From.refl _ _
  refine FromO.next ?_
  refine From.step (nsCommand_from ..) ?_ rfl
  exact hF

theorem execFormatNvm_from (c : Cmd) (ses lbaf piType piGuard : Nat) {s : State} : FromO 16528912811826 s (execFormatNvm c ses lbaf piType piGuard s) := by
  unfold execFormatNvm
  have hF : From 16528912811826 s s := From.refl _ _
  refine FromO.next ?_
  refine From.step (nsCommand_from ..) ?_ rfl
  exact hF

theorem namespaceDeleteDone_from {s : State} (nsid : Nat) : From 16528912811778 s (namespaceDeleteDone s nsid) := by
  unfold namespaceDeleteDone
  have hF : From 16528912811778 s s := From.refl _ _
  split
  · rename_i y0 y1 e2
    split
    · rename_i e3
      extract_lets +onlyGivenNames x4
      have hx4 : From 16528912811778 s x4 := by
        subst x4
        refine From.step (wipeNs_from ..) ?_ rfl
        exact hF
      clear_value x4
      extract_lets +onlyGivenNames x5
      clear_value x5
      extract_lets +onlyGivenNames x6
      have hx6 : From 16528912811778 s x6 := by
        subst x6
        refine From.upd 2199035838464 (hx4) rfl rfl ?_ ?_ ?_ ?_ ?_ ?_ ?_ ?_ ?_ ?_ ?_ ?_ ?_ ?_ ?_ ?_ ?_ ?_ ?_
        all_goals with_reducible first | exact id | exact fun _ => Assoc.wf_nil | exact fun _ => From.nil_le | exact fun _ => From.sixteen | (intro w; repeat' first | exact w | exact From.nil_le | exact Assoc.wf_nil | split | apply Assoc.wf_foldl (fun m b w => Assoc.wf_put w) | apply Assoc.wf_put | apply Assoc.wf_upd | apply Assoc.wf_updD | apply Assoc.wf_del | apply Assoc.wf_keep | apply Assoc.wf_mapVal)
      clear_value x6
      extract_lets +onlyGivenNames x7
      have hx7 : From 16528912811778 s x7 := by
        subst x7
        refine From.elim ?_ ?_ _
        · exact hx6
        · intro a8
          refine From.step (answer_from ..) ?_ rfl
          exact hx6
      clear_value x7
      extract_lets +onlyGivenNames x9
      have hx9 : From 16528912811778 s x9 := by
        subst x9
        refine From.foldl ?_ ?_ _
        · exact hx7
        · intro a10 a11 a12
          refine From.step (answer_from ..) ?_ rfl
          exact a12
      clear_value x9
      refine From.step (settle_from ..) ?_ rfl
      refine From.step (sanitizeNext_from ..) ?_ rfl
      refine From.step (capCheck_from ..) ?_ rfl
      exact hx9
    · rename_i e13
      exact hF
  · rename_i y14 e15
    exact hF

theorem execNamespaceDeleteDone_from (nsid : Nat) {s : State} : FromO 16528912811778 s (execNamespaceDeleteDone nsid s) := by
  unfold execNamespaceDeleteDone
  have hF : From 16528912811778 s s := From.refl _ _
  refine FromO.next ?_
  refine From.step (namespaceDeleteDone_from ..) ?_ rfl
  exact hF

theorem sanitizeBlockErase_from {s : State} (c : Cmd) (action : Nat) (ause : Bool) : From 7732683474738 s (sanitizeBlockErase s c action ause) := by
  unfold sanitizeBlockErase
  have hF : From 7732683474738 s s := From.refl _ _
  split
  · rename_i y0 e1
    split
    · rename_i e2
      refine From.step (complete_from ..) ?_ rfl
      exact hF
    · rename_i e3
      split
      · rename_i e4
        refine From.step (complete_from ..) ?_ rfl
        exact hF
      · rename_i e5
        split
        · rename_i e6
          refine From.step (complete_from ..) ?_ rfl
          exact hF
        · rename_i e7
          extract_lets +onlyGivenNames x8
          have hx8 : From 7732683474738 s x8 := by
            subst x8
            split
            · rename_i e9
              refine From.step (mirrorSend_from ..) ?_ rfl
              exact hF
            · rename_i e10
              exact hF
          clear_value x8
          refine From.step (fwdRun_from ..) ?_ rfl
          exact hx8
  · rename_i y11 e12
    refine From.step (complete_from ..) ?_ rfl
    exact hF

theorem execSanitizeBlockErase_from (c : Cmd) (action : Nat) (ause : Bool) {s : State} : FromO 7732683474738 s (execSanitizeBlockErase c action ause s) := by
  unfold execSanitizeBlockErase
  have hF : From 7732683474738 s s := From.refl _ _
  refine FromO.next ?_
  refine From.step (sanitizeBlockErase_from ..) ?_ rfl
  exact hF

theorem exitFailureMode_from {s : State} (c : Cmd) : From 1100654183938 s (exitFailureMode s c) := by
  unfold exitFailureMode
  have hF : From 1100654183938 s s := From.refl _ _
  split
  · rename_i y0 e1
    split
    · rename_i e2
      refine From.step (complete_from ..) ?_ rfl
      exact hF
    · rename_i e3
      split
      · rename_i e4
        refine From.step (complete_from ..) ?_ rfl
        exact hF
      · rename_i e5
        refine From.step (complete_from ..) ?_ rfl
        with_reducible exact From.set_boot hF _ rfl
  · rename_i y6 e7
    refine From.step (complete_from ..) ?_ rfl
    exact hF

theorem execExitFailureMode_from (c : Cmd) {s : State} : FromO 1100654183938 s (execExitFailureMode c s) := by
  unfold execExitFailureMode
  have hF : From 1100654183938 s s := From.refl _ _
  refine FromO.next ?_
  refine From.step (exitFailureMode_from ..) ?_ rfl
  exact hF

theorem eraseAll_from {s : State} : From 34359738368 s (eraseAll s) := by
  unfold eraseAll
  have hF : From 34359738368 s s := From.refl _ _
  with_reducible exact From.set_nand hF _ rfl

theorem sanitizeDone_from {s : State} (unproved : List Nat) : From 16528912811826 s (sanitizeDone s unproved) := by
  unfold sanitizeDone
  have hF : From 16528912811826 s s := From.refl _ _
  split
  · rename_i e0
    exact hF
  · rename_i e1
    extract_lets +onlyGivenNames x2
    clear_value x2
    extract_lets +onlyGivenNames x3
    have hx3 : From 16528912811826 s x3 := by
      subst x3
      refine From.foldl ?_ ?_ _
      · exact hF
      · intro a4 a5 a6
        refine From.step (wipeNs_from ..) ?_ rfl
        exact a6
    clear_value x3
    extract_lets +onlyGivenNames x7
    clear_value x7
    extract_lets +onlyGivenNames x8
    have hx8 : From 16528912811826 s x8 := by
      subst x8
      refine From.upd 2199568515072 (hx3) rfl rfl ?_ ?_ ?_ ?_ ?_ ?_ ?_ ?_ ?_ ?_ ?_ ?_ ?_ ?_ ?_ ?_ ?_ ?_ ?_
      all_goals with_reducible first | exact id | exact fun _ => Assoc.wf_nil | exact fun _ => From.nil_le | exact fun _ => From.sixteen | (intro w; repeat' first | exact w | exact From.nil_le | exact Assoc.wf_nil | split | apply Assoc.wf_foldl (fun m b w => Assoc.wf_put w) | apply Assoc.wf_put | apply Assoc.wf_upd | apply Assoc.wf_updD | apply Assoc.wf_del | apply Assoc.wf_keep | apply Assoc.wf_mapVal)
    clear_value x8
    extract_lets +onlyGivenNames x9
    have hx9 : From 16528912811826 s x9 := by
      subst x9
      refine From.step (eraseAll_from ..) ?_ rfl
      exact hx8
    clear_value x9
    extract_lets +onlyGivenNames x10
    clear_value x10
    extract_lets +onlyGivenNames x11
    have hx11 : From 16528912811826 s x11 := by
      subst x11
      with_reducible exact From.set_boot hx9 _ rfl
    clear_value x11
    extract_lets +onlyGivenNames x12
    have hx12 : From 16528912811826 s x12 := by
      subst x12
      split
      · rename_i e13
        refine From.step (bump32_from ..) ?_ rfl
        exact hx11
      · rename_i e14
        exact hx11
    clear_value x12
    extract_lets +onlyGivenNames x15
    have hx15 : From 16528912811826 s x15 := by
      subst x15
      refine From.foldl ?_ ?_ _
      · exact hx12
      · intro a16 a17 a18
        refine From.step (aen_from ..) ?_ rfl
        exact a18
    clear_value x15
    extract_lets +onlyGivenNames x19
    have hx19 : From 16528912811826 s x19 := by
      subst x19
      refine From.foldl ?_ ?_ _
      · exact hx15
      · intro a20 a21 a22
        refine From.step (nsServe_from ..) ?_ rfl
        exact a22
    clear_value x19
    refine From.step (settle_from ..) ?_ rfl
    refine From.step (capCheck_from ..) ?_ rfl
    exact hx19

theorem execSanitizeDone_from (unproved : List Nat) {s : State} : FromO 16528912811826 s (execSanitizeDone unproved s) := by
  unfold execSanitizeDone
  have hF : From 16528912811826 s s := From.refl _ _
  refine FromO.next ?_
  refine From.step (sanitizeDone_from ..) ?_ rfl
  exact hF

theorem getLbaStatus_from {s : State} (c : Cmd) (slba rl len : Nat) : From 1276773890 s (getLbaStatus s c slba rl len) := by
  unfold getLbaStatus
  have hF : From 1276773890 s s := From.refl _ _
  split
  · rename_i y0 y1 e2
    split
    · rename_i e3
      refine From.step (complete_from ..) ?_ rfl
      exact hF
    · rename_i e4
      split
      · rename_i e5
        refine From.step (complete_from ..) ?_ rfl
        exact hF
      · rename_i e6
        split
        · rename_i e7
          refine From.step (complete_from ..) ?_ rfl
          exact hF
        · rename_i e8
          refine From.step (complete_from ..) ?_ rfl
          refine From.step (dmaOut_from ..) ?_ rfl
          exact hF
  · rename_i y9 e10
    refine From.step (complete_from ..) ?_ rfl
    exact hF

theorem execGetLbaStatus_from (c : Cmd) (slba rl len : Nat) {s : State} : FromO 1276773890 s (execGetLbaStatus c slba rl len s) := by
  unfold execGetLbaStatus
  have hF : From 1276773890 s s := From.refl _ _
  refine FromO.next ?_
  refine From.step (getLbaStatus_from ..) ?_ rfl
  exact hF

theorem modOff_from {s : State} (k : Nat) (f : OffEnt → OffEnt) : From 34359738368 s (modOff s k f) := by
  unfold modOff
  have hF : From 34359738368 s s := From.refl _ _
  with_reducible exact From.set_nand hF _ rfl

theorem sample_from {s : State} (a : CwAddr) (gen ones e10 e01 : Nat) : From 34359738370 s (sample s a gen ones e10 e01) := by
  unfold sample
  have hF : From 34359738370 s s := From.refl _ _
  extract_lets +onlyGivenNames x0
  clear_value x0
  split
  · rename_i e1
    exact hF
  · rename_i e2
    split
    · rename_i e3
      refine From.step (bump64_from ..) ?_ rfl
      exact hF
    · rename_i e4
      split
      · rename_i e5
        refine From.step (modOff_from ..) ?_ rfl
        exact hF
      · rename_i e6
        exact hF

theorem retireVerdict_from {s : State} (die block : Nat) : From 2235125335874 s (retireVerdict s die block) := by
  unfold retireVerdict
  have hF : From 2235125335874 s s := From.refl _ _
  refine From.step (blockFails_from ..) ?_ rfl
  refine From.step (bump32_from ..) ?_ rfl
  exact hF

theorem markDue_from {s : State} (die block : Nat) (case1 : Bool) : From 2235125335874 s (markDue s die block case1) := by
  unfold markDue
  have hF : From 2235125335874 s s := From.refl _ _
  extract_lets +onlyGivenNames x0
  clear_value x0
  extract_lets +onlyGivenNames x1
  clear_value x1
  extract_lets +onlyGivenNames x2
  have hx2 : From 2235125335874 s x2 := by
    subst x2
    split
    · rename_i e3
      exact hF
    · rename_i e4
      refine From.step (bump64_from ..) ?_ rfl
      exact hF
  clear_value x2
  extract_lets +onlyGivenNames x5
  have hx5 : From 2235125335874 s x5 := by
    subst x5
    refine From.step (modBlock_from ..) ?_ rfl
    exact hx2
  clear_value x5
  split
  · rename_i e6
    refine From.step (retireVerdict_from ..) ?_ rfl
    exact hx5
  · rename_i e7
    exact hx5

theorem markOrCheck_from {s : State} (a : CwAddr) (settled case1 : Bool) : From 2235125335874 s (markOrCheck s a settled case1) := by
  unfold markOrCheck
  have hF : From 2235125335874 s s := From.refl _ _
  split
  · rename_i e0
    refine From.step (markDue_from ..) ?_ rfl
    exact hF
  · rename_i e1
    refine From.step (bump64_from ..) ?_ rfl
    refine From.step (modBlock_from ..) ?_ rfl
    exact hF

theorem modLap_from {s : State} (cell : Nat) (f : Lap → Lap) : From 34359738368 s (modLap s cell f) := by
  unfold modLap
  have hF : From 34359738368 s s := From.refl _ _
  with_reducible exact From.set_nand hF _ rfl

theorem lapEnd_from {s : State} (cell : Nat) : From 34359738626 s (lapEnd s cell) := by
  unfold lapEnd
  have hF : From 34359738626 s s := From.refl _ _
  split
  · rename_i e0
    exact hF
  · rename_i e1
    extract_lets +onlyGivenNames x2
    clear_value x2
    extract_lets +onlyGivenNames x3
    have hx3 : From 34359738626 s x3 := by
      subst x3
      refine From.step (setV_from ..) ?_ rfl
      exact hF
    clear_value x3
    extract_lets +onlyGivenNames x4
    have hx4 : From 34359738626 s x4 := by
      subst x4
      split
      · rename_i e5
        refine From.step (event_from ..) ?_ rfl
        refine From.step (bump32_from ..) ?_ rfl
        exact hx3
      · rename_i e6
        exact hx3
    clear_value x4
    refine From.step (modLap_from ..) ?_ rfl
    exact hx4

theorem cover_from {s : State} (a : CwAddr) (settled : Bool) : From 34359738626 s (cover s a settled) := by
  unfold cover
  have hF : From 34359738626 s s := From.refl _ _
  extract_lets +onlyGivenNames x0
  clear_value x0
  extract_lets +onlyGivenNames x1
  clear_value x1
  split
  · rename_i e2
    exact hF
  · rename_i e3
    extract_lets +onlyGivenNames x4
    clear_value x4
    extract_lets +onlyGivenNames x5
    clear_value x5
    split
    · rename_i e6
      extract_lets +onlyGivenNames x7
      have hx7 : From 34359738626 s x7 := by
        subst x7
        refine From.step (modLap_from ..) ?_ rfl
        exact hF
      clear_value x7
      extract_lets +onlyGivenNames x8
      have hx8 : From 34359738626 s x8 := by
        subst x8
        split
        · rename_i e9
          refine From.step (modBlock_from ..) ?_ rfl
          exact hx7
        · rename_i e10
          exact hx7
      clear_value x8
      refine From.step (lapEnd_from ..) ?_ rfl
      exact hx8
    · rename_i e11
      refine From.step (modLap_from ..) ?_ rfl
      exact hF

theorem modLadder_from {s : State} (u : Nat × Nat × Nat × Nat) (f : Ladder → Ladder) : From 34359738368 s (modLadder s u f) := by
  unfold modLadder
  have hF : From 34359738368 s s := From.refl _ _
  with_reducible exact From.set_nand hF _ rfl

theorem dropLadder_from {s : State} (u : Nat × Nat × Nat × Nat) : From 34359738368 s (dropLadder s u) := by
  unfold dropLadder
  have hF : From 34359738368 s s := From.refl _ _
  with_reducible exact From.set_nand hF _ rfl

theorem deliver_from {s : State} (a : CwAddr) : From 1048576 s (deliver s a) := by
  unfold deliver
  have hF : From 1048576 s s := From.refl _ _
  with_reducible exact From.set_flights hF _ rfl

theorem codewordsLost_from {s : State} (die block : Nat) (as : List CwAddr) (host : Bool) : From 2235125335874 s (codewordsLost s die block as host) := by
  unfold codewordsLost
  have hF : From 2235125335874 s s := From.refl _ _
  extract_lets +onlyGivenNames x0
  have hx0 : From 2235125335874 s x0 := by
    subst x0
    refine From.foldl ?_ ?_ _
    · exact hF
    · intro a1 a2 a3
      extract_lets +onlyGivenNames x4
      have hx4 : From 2235125335874 s x4 := by
        subst x4
        refine From.step (bump64_from ..) ?_ rfl
        exact a3
      clear_value x4
      extract_lets +onlyGivenNames x5
      have hx5 : From 2235125335874 s x5 := by
        subst x5
        refine From.foldl ?_ ?_ _
        · exact hx4
        · intro a6 a7 a8
          refine From.step (discover_from ..) ?_ rfl
          exact a8
      clear_value x5
      refine From.step (deliver_from ..) ?_ rfl
      exact hx5
  clear_value x0
  split
  · rename_i e9
    refine From.step (retireVerdict_from ..) ?_ rfl
    exact hx0
  · rename_i e10
    refine From.step (markDue_from ..) ?_ rfl
    exact hx0

theorem frameArrived_from {s : State} (nsid key : Nat) : From 1048576 s (frameArrived s nsid key) := by
  unfold frameArrived
  have hF : From 1048576 s s := From.refl _ _
  with_reducible exact From.set_flights hF _ rfl

theorem frameUnverified_from {s : State} (nsid key die : Nat) (host : Bool) : From 2233391382528 s (frameUnverified s nsid key die host) := by
  unfold frameUnverified
  have hF : From 2233391382528 s s := From.refl _ _
  extract_lets +onlyGivenNames x0
  clear_value x0
  extract_lets +onlyGivenNames x1
  have hx1 : From 2233391382528 s x1 := by
    subst x1
    with_reducible exact From.set_nand hF _ rfl
  clear_value x1
  split
  · rename_i y2 y3 y4 e5
    refine From.step (discover_from ..) ?_ rfl
    exact hx1
  · rename_i y6 e7
    exact hx1

theorem ladderFail_from {s : State} (l : Ladder) : From 2235125335874 s (ladderFail s l) := by
  unfold ladderFail
  have hF : From 2235125335874 s s := From.refl _ _
  split
  · rename_i y0 y1 y2 y3 e4
    refine From.step (frameUnverified_from ..) ?_ rfl
    refine From.step (dropLadder_from ..) ?_ rfl
    exact hF
  · rename_i y5 e6
    refine From.step (codewordsLost_from ..) ?_ rfl
    refine From.step (dropLadder_from ..) ?_ rfl
    exact hF

theorem ladderStart_from {s : State} (u : Nat × Nat × Nat × Nat) (gen produced unsat : Nat) (cws : List (Nat × Nat)) (host : Bool) (frame : Option (Nat × Nat × Nat)) : From 2235125335874 s (ladderStart s u gen produced unsat cws host frame) := by
  unfold ladderStart
  have hF : From 2235125335874 s s := From.refl _ _
  extract_lets +onlyGivenNames x0
  clear_value x0
  extract_lets +onlyGivenNames x1
  clear_value x1
  split
  · rename_i e2
    refine From.step (ladderFail_from ..) ?_ rfl
    exact hF
  · rename_i e3
    with_reducible exact From.set_nand hF _ rfl

theorem boundedFail_from {s : State} (a : CwAddr) : From 35502294530 s (boundedFail s a) := by
  unfold boundedFail
  have hF : From 35502294530 s s := From.refl _ _
  refine From.foldl ?_ ?_ _
  · exact hF
  · intro a0 a1 a2
    split
    · rename_i e3
      extract_lets +onlyGivenNames x4
      have hx4 : From 35502294530 s x4 := by
        subst x4
        refine From.step (modBound_from ..) ?_ rfl
        refine From.step (bump64_from ..) ?_ rfl
        exact a2
      clear_value x4
      refine From.step (interruptRead_from ..) ?_ rfl
      exact hx4
    · rename_i e5
      split
      · rename_i e6
        exact a2
      · rename_i e7
        extract_lets +onlyGivenNames x8
        have hx8 : From 35502294530 s x8 := by
          subst x8
          refine From.step (modFlight_from ..) ?_ rfl
          exact a2
        clear_value x8
        split
        · rename_i e9
          exact hx8
        · rename_i e10
          refine From.step (modBound_from ..) ?_ rfl
          refine From.step (bump64_from ..) ?_ rfl
          exact hx8

theorem decodeFail_from {s : State} (a : CwAddr) (gen unsat : Nat) : From 2235125335874 s (decodeFail s a gen unsat) := by
  unfold decodeFail
  have hF : From 2235125335874 s s := From.refl _ _
  split
  · rename_i y0 y1 e2
    refine From.step (modLadder_from ..) ?_ rfl
    exact hF
  · rename_i y3 e4
    extract_lets +onlyGivenNames x5
    clear_value x5
    refine From.step (boundedFail_from ..) ?_ rfl
    refine From.step (ladderStart_from ..) ?_ rfl
    refine From.step (bump64_from ..) ?_ rfl
    exact hF

theorem hardDecode_from {s : State} (a : CwAddr) (ok : Bool) (tailAddr ones e10 e01 unsat : Nat) : From 2235125335874 s (hardDecode s a ok tailAddr ones e10 e01 unsat) := by
  unfold hardDecode
  have hF : From 2235125335874 s s := From.refl _ _
  extract_lets +onlyGivenNames x0
  clear_value x0
  extract_lets +onlyGivenNames x1
  clear_value x1
  extract_lets +onlyGivenNames x2
  have hx2 : From 2235125335874 s x2 := by
    subst x2
    refine From.step (bump64_from ..) ?_ rfl
    with_reducible exact From.set_nand hF _ rfl
  clear_value x2
  extract_lets +onlyGivenNames x3
  have hx3 : From 2235125335874 s x3 := by
    subst x3
    split
    · rename_i e4
      refine From.step (event_from ..) ?_ rfl
      refine From.step (bump32_from ..) ?_ rfl
      exact hx2
    · rename_i e5
      exact hx2
  clear_value x3
  split
  · rename_i e6
    extract_lets +onlyGivenNames x7
    clear_value x7
    extract_lets +onlyGivenNames x8
    have hx8 : From 2235125335874 s x8 := by
      subst x8
      refine From.step (sample_from ..) ?_ rfl
      exact hx3
    clear_value x8
    extract_lets +onlyGivenNames x9
    have hx9 : From 2235125335874 s x9 := by
      subst x9
      split
      · rename_i e10
        refine From.step (markOrCheck_from ..) ?_ rfl
        exact hx8
      · rename_i e11
        exact hx8
    clear_value x9
    refine From.step (deliver_from ..) ?_ rfl
    refine From.step (cover_from ..) ?_ rfl
    exact hx9
  · rename_i e12
    refine From.step (decodeFail_from ..) ?_ rfl
    exact hx3

theorem execHardDecode_from (a : CwAddr) (ok : Bool) (tailAddr ones e10 e01 unsat : Nat) {s : State} : FromO 15429401184066 s (execHardDecode a ok tailAddr ones e10 e01 unsat s) := by
  unfold execHardDecode
  have hF : From 15429401184066 s s := From.refl _ _
  refine FromO.next ?_
  refine From.step (settle_from ..) ?_ rfl
  refine From.step (hardDecode_from ..) ?_ rfl
  exact hF

theorem ladderOk_from {s : State} (a : CwAddr) (gen level : Nat) : From 2235125335874 s (ladderOk s a gen level) := by
  unfold ladderOk
  have hF : From 2235125335874 s s := From.refl _ _
  extract_lets +onlyGivenNames x0
  have hx0 : From 2235125335874 s x0 := by
    subst x0
    refine From.step (bump64_from ..) ?_ rfl
    exact hF
  clear_value x0
  extract_lets +onlyGivenNames x1
  clear_value x1
  extract_lets +onlyGivenNames x2
  have hx2 : From 2235125335874 s x2 := by
    subst x2
    split
    · rename_i e3
      refine From.step (markDue_from ..) ?_ rfl
      exact hx0
    · rename_i e4
      split
      · rename_i e5
        refine From.step (markOrCheck_from ..) ?_ rfl
        exact hx0
      · rename_i e6
        split
        · rename_i e7
          refine From.step (modBlock_from ..) ?_ rfl
          exact hx0
        · rename_i e8
          exact hx0
  clear_value x2
  refine From.step (deliver_from ..) ?_ rfl
  exact hx2

theorem ladderSuccess_from {s : State} (l : Ladder) (level : Nat) : From 103080263938 s (ladderSuccess s l level) := by
  unfold ladderSuccess
  have hF : From 103080263938 s s := From.refl _ _
  extract_lets +onlyGivenNames x0
  have hx0 : From 103080263938 s x0 := by
    subst x0
    refine From.step (dropLadder_from ..) ?_ rfl
    exact hF
  clear_value x0
  split
  · rename_i y1 y2 y3 y4 e5
    split
    · rename_i e6
      exact hx0
    · rename_i e7
      refine From.step (frameArrived_from ..) ?_ rfl
      split
      · rename_i e8
        refine From.step (decompressorCharge_from ..) ?_ rfl
        exact hx0
      · rename_i e9
        exact hx0
  · rename_i y10 e11
    exact hx0

theorem ladderStep_from {s : State} (u : Nat × Nat × Nat × Nat) (results : List (Nat × Nat × Bool × Nat)) : From 2303844812610 s (ladderStep s u results) := by
  unfold ladderStep
  have hF : From 2303844812610 s s := From.refl _ _
  split
  · rename_i y0 e1
    exact hF
  · rename_i y2 y3 e4
    extract_lets +onlyGivenNames x5
    clear_value x5
    extract_lets +onlyGivenNames x6
    clear_value x6
    extract_lets +onlyGivenNames x7
    clear_value x7
    extract_lets +onlyGivenNames x8
    clear_value x8
    extract_lets +onlyGivenNames x9
    have hx9 : From 2303844812610 s x9 := by
      subst x9
      refine From.foldl ?_ ?_ _
      · exact hF
      · intro a10 a11 a12
        refine From.step (ladderOk_from ..) ?_ rfl
        exact a12
    clear_value x9
    split
    · rename_i e13
      refine From.step (ladderSuccess_from ..) ?_ rfl
      exact hx9
    · rename_i e14
      extract_lets +onlyGivenNames x15
      clear_value x15
      extract_lets +onlyGivenNames x16
      clear_value x16
      split
      · rename_i y17 y18 e19
        refine From.step (modLadder_from ..) ?_ rfl
        exact hx9
      · rename_i y20 e21
        refine From.step (ladderFail_from ..) ?_ rfl
        exact hx9

theorem execLadderStep_from (die block wl pt : Nat) (results : List (Nat × Nat × Bool × Nat)) {s : State} : FromO 15498120660802 s (execLadderStep die block wl pt results s) := by
  unfold execLadderStep
  have hF : From 15498120660802 s s := From.refl _ _
  refine FromO.next ?_
  refine From.step (settle_from ..) ?_ rfl
  refine From.step (ladderStep_from ..) ?_ rfl
  exact hF

theorem frameError_from {s : State} (nsid zone : Nat) (f : Frame) (decompressor dz : Nat) : From 2235125335874 s (frameError s nsid zone f decompressor dz) := by
  unfold frameError
  have hF : From 2235125335874 s s := From.refl _ _
  extract_lets +onlyGivenNames x0
  clear_value x0
  extract_lets +onlyGivenNames x1
  clear_value x1
  extract_lets +onlyGivenNames x2
  have hx2 : From 2235125335874 s x2 := by
    subst x2
    refine From.step (bump32_from ..) ?_ rfl
    exact hF
  clear_value x2
  extract_lets +onlyGivenNames x3
  have hx3 : From 2235125335874 s x3 := by
    subst x3
    refine From.step (event_from ..) ?_ rfl
    exact hx2
  clear_value x3
  extract_lets +onlyGivenNames x4
  clear_value x4
  extract_lets +onlyGivenNames x5
  clear_value x5
  extract_lets +onlyGivenNames x6
  clear_value x6
  refine From.foldl ?_ ?_ _
  · exact hx3
  · intro a7 a8 a9
    split
    · rename_i e10
      exact a9
    · rename_i e11
      refine From.step (ladderStart_from ..) ?_ rfl
      exact a9

theorem decodeFrame_from {s : State} (nsid zone start upto decompressor dz : Nat) (confirmed : Bool) : From 2235125337922 s (decodeFrame s nsid zone start upto decompressor dz confirmed) := by
  unfold decodeFrame
  have hF : From 2235125337922 s s := From.refl _ _
  extract_lets +onlyGivenNames x0
  clear_value x0
  extract_lets +onlyGivenNames x1
  clear_value x1
  split
  · rename_i y2 e3
    exact hF
  · rename_i y4 y5 y6 e7
    split
    · rename_i e8
      exact hF
    · rename_i e9
      extract_lets +onlyGivenNames x10
      have hx10 : From 2235125337922 s x10 := by
        subst x10
        split
        · rename_i e11
          refine From.step (crcRecheck_from ..) ?_ rfl
          exact hF
        · rename_i e12
          exact hF
      clear_value x10
      split
      · rename_i e13
        with_reducible exact From.set_flights hx10 _ rfl
      · rename_i e14
        refine From.step (frameError_from ..) ?_ rfl
        exact hx10

theorem execDecodeFrame_from (nsid zone start upto decompressor dz : Nat) (confirmed : Bool) {s : State} : FromO 15429401186114 s (execDecodeFrame nsid zone start upto decompressor dz confirmed s) := by
  unfold execDecodeFrame
  have hF : From 15429401186114 s s := From.refl _ _
  refine FromO.next ?_
  refine From.step (settle_from ..) ?_ rfl
  refine From.step (decodeFrame_from ..) ?_ rfl
  exact hF

theorem patrolPace_from {s : State} : From 34359738626 s (patrolPace s) := by
  unfold patrolPace
  have hF : From 34359738626 s s := From.refl _ _
  extract_lets +onlyGivenNames x0
  have hx0 : From 34359738626 s x0 := by
    subst x0
    refine From.foldl ?_ ?_ _
    · exact hF
    · intro a1 a2 a3
      refine From.step (lapEnd_from ..) ?_ rfl
      exact a3
  clear_value x0
  extract_lets +onlyGivenNames x4
  clear_value x4
  with_reducible exact From.set_nand hx0 _ rfl

theorem execPatrolPace_from {s : State} : FromO 34359738626 s (execPatrolPace s) := by
  unfold execPatrolPace
  have hF : From 34359738626 s s := From.refl _ _
  refine FromO.next ?_
  refine From.step (patrolPace_from ..) ?_ rfl
  exact hF

theorem calPersist_from {s : State} : From 34359738368 s (calPersist s) := by
  unfold calPersist
  have hF : From 34359738368 s s := From.refl _ _
  with_reducible exact From.set_nand hF _ rfl

theorem execCalPersist_from {s : State} : FromO 34359738368 s (execCalPersist s) := by
  unfold execCalPersist
  have hF : From 34359738368 s s := From.refl _ _
  refine FromO.next ?_
  refine From.step (calPersist_from ..) ?_ rfl
  exact hF

theorem evaluate_from {s : State} (k : Nat) (e : OffEnt) : From 34359738370 s (evaluate s k e) := by
  unfold evaluate
  have hF : From 34359738370 s s := From.refl _ _
  extract_lets +onlyGivenNames x0
  clear_value x0
  extract_lets +onlyGivenNames x1
  clear_value x1
  extract_lets +onlyGivenNames x2
  clear_value x2
  extract_lets +onlyGivenNames x3
  clear_value x3
  extract_lets +onlyGivenNames x4
  clear_value x4
  extract_lets +onlyGivenNames x5
  subst x5
  dsimp -zeta only
  split
  · rename_i e6
    refine From.step (modOff_from ..) ?_ rfl
    exact hF
  · rename_i e7
    split
    · rename_i e8
      refine From.step (bump32_from ..) ?_ rfl
      refine From.step (modOff_from ..) ?_ rfl
      exact hF
    · rename_i e9
      refine From.step (modOff_from ..) ?_ rfl
      exact hF

theorem calEvaluate_from {s : State} : From 34359738370 s (calEvaluate s) := by
  unfold calEvaluate
  have hF : From 34359738370 s s := From.refl _ _
  split
  · rename_i e0
    refine From.foldl ?_ ?_ _
    · exact hF
    · intro a1 a2 a3
      refine From.step (evaluate_from ..) ?_ rfl
      exact a3
  · rename_i e4
    exact hF

theorem calMoves_from {s : State} (g : Nat) (free : Bool) : From 34359738370 s (calMoves s g free).2 := by
  unfold calMoves
  refine From.foldl_snd (fun p b h => ?_) _ (From.refl _ _)
  dsimp only
  split
  · exact From.step (bump64_from _) (From.step (modOff_from _ _) h rfl) rfl
  · exact From.step (bump64_from _) h rfl

end Sys2Proof.Machine
end

