-- ==== Sys2Proof/Laws/KeepPower.lean ====
section
/-! SUPPORT. Laws/KeepPower.lean: each operation of the NAND calibration, the restart, power, the resets, the thermal control and the journal changes no part of the state outside its mask, leaves the queue
of commands as it is and keeps the forms and capacities of the stores (one lemma per operation). -/
namespace Sys2Proof.Machine
open Sys2Proof

theorem slotRecord_from {s : State} (sl : Nat) (x : Option Slot) : From 258 s (slotRecord s sl x) := by
  unfold slotRecord
  have hF : From 258 s s := From.refl _ _
  extract_lets +onlyGivenNames x0
  clear_value x0
  extract_lets +onlyGivenNames x1
  clear_value x1
  split
  · rename_i y2 y3
    extract_lets +onlyGivenNames x4
    clear_value x4
    extract_lets +onlyGivenNames x5
    clear_value x5
    extract_lets +onlyGivenNames x6
    have hx6 : From 258 s x6 := by
      subst x6
      refine From.step (setV_from ..) ?_ rfl
      exact hF
    clear_value x6
    split
    · rename_i e7
      refine From.step (event_from ..) ?_ rfl
      exact hx6
    · rename_i e8
      exact hx6
  · rename_i y9
    refine From.step (event_from ..) ?_ rfl
    refine From.step (negFail_from ..) ?_ rfl
    exact hF

theorem slotDies_from {s : State} (sl mask : Nat) : From 2235125335874 s (slotDies s sl mask) := by
  unfold slotDies
  have hF : From 2235125335874 s s := From.refl _ _
  refine From.foldl ?_ ?_ _
  · exact hF
  · intro a0 a1 a2
    extract_lets +onlyGivenNames x3
    clear_value x3
    split
    · rename_i e4
      split
      · rename_i e5
        refine From.step (domChanged_from ..) ?_ rfl
        with_reducible exact From.set_nand a2 _ rfl
      · rename_i e6
        exact a2
    · rename_i e7
      split
      · rename_i e8
        refine From.step (dieRetire_from ..) ?_ rfl
        exact a2
      · rename_i e9
        exact a2

theorem factoryBad_from {s : State} (sl : Nat) (bad : List Nat) : From 34359738368 s (factoryBad s sl bad) := by
  unfold factoryBad
  have hF : From 34359738368 s s := From.refl _ _
  refine From.foldl ?_ ?_ _
  · exact hF
  · intro a0 a1 a2
    refine From.step (modBlock_from ..) ?_ rfl
    exact a2

theorem negotiateSlot_from {s : State} (reports : List SlotReport) (sl : Nat) : From 2235125335874 s (negotiateSlot s reports sl) := by
  unfold negotiateSlot
  have hF : From 2235125335874 s s := From.refl _ _
  extract_lets +onlyGivenNames x0
  clear_value x0
  extract_lets +onlyGivenNames x1
  clear_value x1
  extract_lets +onlyGivenNames x2
  have hx2 : From 2235125335874 s x2 := by
    subst x2
    refine From.step (slotRecord_from ..) ?_ rfl
    exact hF
  clear_value x2
  extract_lets +onlyGivenNames x3
  clear_value x3
  extract_lets +onlyGivenNames x4
  have hx4 : From 2235125335874 s x4 := by
    subst x4
    with_reducible exact From.set_nand hx2 _ rfl
  clear_value x4
  extract_lets +onlyGivenNames x5
  have hx5 : From 2235125335874 s x5 := by
    subst x5
    refine From.elim ?_ ?_ _
    · exact hx4
    · intro a6
      refine From.step (factoryBad_from ..) ?_ rfl
      exact hx4
  clear_value x5
  extract_lets +onlyGivenNames x7
  have hx7 : From 2235125335874 s x7 := by
    subst x7
    refine From.step (slotDies_from ..) ?_ rfl
    exact hx5
  clear_value x7
  split
  · rename_i e8
    refine From.step (event_from ..) ?_ rfl
    exact hx7
  · rename_i e9
    exact hx7

theorem slotsChanged_from {s : State} : From 66 s (slotsChanged s) := by
  unfold slotsChanged
  have hF : From 66 s s := From.refl _ _
  extract_lets +onlyGivenNames x0
  clear_value x0
  extract_lets +onlyGivenNames x1
  have hx1 : From 66 s x1 := by
    subst x1
    refine From.step (setV_from ..) ?_ rfl
    exact hF
  clear_value x1
  extract_lets +onlyGivenNames x2
  clear_value x2
  refine From.step (domChanged_from ..) ?_ rfl
  refine From.step (setV_from ..) ?_ rfl
  exact hx1

theorem reserveBlocks_from {s : State} : From 34359738368 s (reserveBlocks s) := by
  unfold reserveBlocks
  have hF : From 34359738368 s s := From.refl _ _
  refine From.foldl ?_ ?_ _
  · exact hF
  · intro a0 a1 a2
    extract_lets +onlyGivenNames x3
    clear_value x3
    extract_lets +onlyGivenNames x4
    clear_value x4
    refine From.foldl ?_ ?_ _
    · exact a2
    · intro a5 a6 a7
      split
      · rename_i e8
        refine From.step (modBlock_from ..) ?_ rfl
        exact a7
      · rename_i e9
        exact a7

theorem nandNegotiate_from {s : State} (reports : List SlotReport) : From 2235125335874 s (nandNegotiate s reports) := by
  unfold nandNegotiate
  have hF : From 2235125335874 s s := From.refl _ _
  split
  · rename_i e0
    exact hF
  · rename_i e1
    extract_lets +onlyGivenNames x2
    have hx2 : From 2235125335874 s x2 := by
      subst x2
      refine From.foldl ?_ ?_ _
      · exact hF
      · intro a3 a4 a5
        refine From.step (negotiateSlot_from ..) ?_ rfl
        exact a5
    clear_value x2
    extract_lets +onlyGivenNames x6
    clear_value x6
    extract_lets +onlyGivenNames x7
    have hx7 : From 2235125335874 s x7 := by
      subst x7
      refine From.step (reserveBlocks_from ..) ?_ rfl
      refine From.step (slotsChanged_from ..) ?_ rfl
      with_reducible exact From.set_nand hx2 _ rfl
    clear_value x7
    refine From.step (boundRecompute_from ..) ?_ rfl
    refine From.step (capCheck_from ..) ?_ rfl
    exact hx7

theorem execNandNegotiation_from (reports : List SlotReport) {s : State} : FromO 15429401184066 s (execNandNegotiation reports s) := by
  unfold execNandNegotiation
  have hF : From 15429401184066 s s := From.refl _ _
  refine FromO.next ?_
  refine From.step (settle_from ..) ?_ rfl
  refine From.step (nandNegotiate_from ..) ?_ rfl
  exact hF

theorem slotRetrain_from {s : State} (sl : Nat) (pair : Option (Nat × Nat)) : From 2235125335874 s (slotRetrain s sl pair) := by
  unfold slotRetrain
  have hF : From 2235125335874 s s := From.refl _ _
  extract_lets +onlyGivenNames x0
  clear_value x0
  split
  · rename_i e1
    exact hF
  · rename_i e2
    extract_lets +onlyGivenNames x3
    have hx3 : From 2235125335874 s x3 := by
      subst x3
      refine From.step (excuseReads_from ..) ?_ rfl
      refine From.step (bump32_from ..) ?_ rfl
      exact hF
    clear_value x3
    extract_lets +onlyGivenNames x4
    clear_value x4
    extract_lets +onlyGivenNames x5
    clear_value x5
    split
    · rename_i y6 y7 y8 y9 y10
      extract_lets +onlyGivenNames x11
      clear_value x11
      refine From.step (slotRecord_from ..) ?_ rfl
      with_reducible exact From.set_nand hx3 _ rfl
    · rename_i y12 y13 y14
      extract_lets +onlyGivenNames x15
      clear_value x15
      refine From.step (negFail_from ..) ?_ rfl
      with_reducible exact From.set_nand hx3 _ rfl
    · rename_i y16 y17
      refine From.step (slotsChanged_from ..) ?_ rfl
      refine From.step (slotDies_from ..) ?_ rfl
      refine From.step (slotRecord_from ..) ?_ rfl
      with_reducible exact From.set_nand hx3 _ rfl

theorem execSlotRetrain_from (slot : Nat) (pair : Option (Nat × Nat)) {s : State} : FromO 15429401184066 s (execSlotRetrain slot pair s) := by
  unfold execSlotRetrain
  have hF : From 15429401184066 s s := From.refl _ _
  refine FromO.next ?_
  refine From.step (settle_from ..) ?_ rfl
  refine From.step (slotRetrain_from ..) ?_ rfl
  exact hF

theorem modLun_from {s : State} (die : Nat) (f : Lun → Lun) : From 34359738368 s (modLun s die f) := by
  unfold modLun
  have hF : From 34359738368 s s := From.refl _ _
  with_reducible exact From.set_nand hF _ rfl

theorem ncPost_from {s : State} (ch : Nat) (e : NcDone) : From 34359738368 s (ncPost s ch e) := by
  unfold ncPost
  have hF : From 34359738368 s s := From.refl _ _
  with_reducible exact From.set_nand hF _ rfl

theorem ncNotStarted_from {s : State} (d : Desc) (st : Nat) : From 34359738368 s (ncNotStarted s d st) := by
  unfold ncNotStarted
  have hF : From 34359738368 s s := From.refl _ _
  refine From.step (ncPost_from ..) ?_ rfl
  exact hF

theorem enqueue_from {s : State} (opcode : Nat) (d0 : Desc) : From 34359738626 s (enqueue s opcode d0) := by
  unfold enqueue
  have hF : From 34359738626 s s := From.refl _ _
  extract_lets +onlyGivenNames x0
  clear_value x0
  extract_lets +onlyGivenNames x1
  clear_value x1
  split
  · rename_i y2 e3
    split
    · rename_i e4
      exact hF
    · rename_i e5
      split
      · rename_i e6
        exact hF
      · rename_i e7
        refine From.step (modLun_from ..) ?_ rfl
        exact hF
  · rename_i y8 e9
    extract_lets +onlyGivenNames x10
    have hx10 : From 34359738626 s x10 := by
      subst x10
      refine From.step (ncNotStarted_from ..) ?_ rfl
      exact hF
    clear_value x10
    split
    · rename_i e11
      refine From.step (event_from ..) ?_ rfl
      exact hx10
    · rename_i e12
      exact hx10

theorem execNandRead_from (d : Desc) {s : State} : FromO 34359738626 s (execNandRead d s) := by
  unfold execNandRead
  have hF : From 34359738626 s s := From.refl _ _
  refine FromO.next ?_
  refine From.step (enqueue_from ..) ?_ rfl
  exact hF

theorem execNandReadSoft_from (d : Desc) {s : State} : FromO 34359738626 s (execNandReadSoft d s) := by
  unfold execNandReadSoft
  have hF : From 34359738626 s s := From.refl _ _
  refine FromO.next ?_
  refine From.step (enqueue_from ..) ?_ rfl
  exact hF

theorem execNandProgram_from (d : Desc) {s : State} : FromO 34359738626 s (execNandProgram d s) := by
  unfold execNandProgram
  have hF : From 34359738626 s s := From.refl _ _
  refine FromO.next ?_
  refine From.step (enqueue_from ..) ?_ rfl
  exact hF

theorem execNandErase_from (d : Desc) {s : State} : FromO 34359738626 s (execNandErase d s) := by
  unfold execNandErase
  have hF : From 34359738626 s s := From.refl _ _
  refine FromO.next ?_
  refine From.step (enqueue_from ..) ?_ rfl
  exact hF

theorem execNandGetFeature_from (d : Desc) {s : State} : FromO 34359738626 s (execNandGetFeature d s) := by
  unfold execNandGetFeature
  have hF : From 34359738626 s s := From.refl _ _
  refine FromO.next ?_
  refine From.step (enqueue_from ..) ?_ rfl
  exact hF

theorem execNandSetFeature_from (d : Desc) {s : State} : FromO 34359738626 s (execNandSetFeature d s) := by
  unfold execNandSetFeature
  have hF : From 34359738626 s s := From.refl _ _
  refine FromO.next ?_
  refine From.step (enqueue_from ..) ?_ rfl
  exact hF

theorem execNandResetLun_from (d : Desc) {s : State} : FromO 34359738626 s (execNandResetLun d s) := by
  unfold execNandResetLun
  have hF : From 34359738626 s s := From.refl _ _
  refine FromO.next ?_
  refine From.step (enqueue_from ..) ?_ rfl
  exact hF

theorem execNandReadStatus_from (d : Desc) {s : State} : FromO 34359738626 s (execNandReadStatus d s) := by
  unfold execNandReadStatus
  have hF : From 34359738626 s s := From.refl _ _
  refine FromO.next ?_
  refine From.step (enqueue_from ..) ?_ rfl
  exact hF

theorem patrolRead_from {s : State} (die block wl pt : Nat) : From 34359738626 s (patrolRead s die block wl pt) := by
  unfold patrolRead
  have hF : From 34359738626 s s := From.refl _ _
  extract_lets +onlyGivenNames x0
  clear_value x0
  extract_lets +onlyGivenNames x1
  clear_value x1
  extract_lets +onlyGivenNames x2
  clear_value x2
  extract_lets +onlyGivenNames x3
  clear_value x3
  split
  · rename_i e4
    exact hF
  · rename_i e5
    split
    · rename_i e6
      exact hF
    · rename_i e7
      extract_lets +onlyGivenNames x8
      have hx8 : From 34359738626 s x8 := by
        subst x8
        split
        · rename_i e9
          refine From.step (modLap_from ..) ?_ rfl
          exact hF
        · rename_i e10
          exact hF
      clear_value x8
      extract_lets +onlyGivenNames x11
      clear_value x11
      refine From.step (enqueue_from ..) ?_ rfl
      exact hx8

theorem execPatrolRead_from (die block wl pt : Nat) {s : State} : FromO 34359738626 s (execPatrolRead die block wl pt s) := by
  unfold execPatrolRead
  have hF : From 34359738626 s s := From.refl _ _
  refine FromO.next ?_
  refine From.step (patrolRead_from ..) ?_ rfl
  exact hF

theorem tokenWaitAdd_from {s : State} (die kind : Nat) : From 34359738370 s (tokenWaitAdd s die kind) := by
  unfold tokenWaitAdd
  have hF : From 34359738370 s s := From.refl _ _
  split
  · rename_i e0
    exact hF
  · rename_i e1
    refine From.step (bump64_from ..) ?_ rfl
    with_reducible exact From.set_nand hF _ rfl

theorem tokenWaitDel_from {s : State} (die : Nat) : From 34359738368 s (tokenWaitDel s die) := by
  unfold tokenWaitDel
  have hF : From 34359738368 s s := From.refl _ _
  with_reducible exact From.set_nand hF _ rfl

theorem resumeRun_from {s : State} (die : Nat) : From 34359738882 s (resumeRun s die) := by
  unfold resumeRun
  have hF : From 34359738882 s s := From.refl _ _
  split
  · rename_i y0 y1 e2
    split
    · rename_i e3
      extract_lets +onlyGivenNames x4
      have hx4 : From 34359738882 s x4 := by
        subst x4
        refine From.step (modLun_from ..) ?_ rfl
        refine From.step (tokenWaitDel_from ..) ?_ rfl
        exact hF
      clear_value x4
      refine From.step (dieTrace_from ..) ?_ rfl
      exact hx4
    · rename_i e5
      refine From.step (tokenWaitAdd_from ..) ?_ rfl
      refine From.step (modLun_from ..) ?_ rfl
      exact hF
  · rename_i y6 e7
    exact hF

theorem startDesc_from {s : State} (die : Nat) (d : Desc) : From 34359738882 s (startDesc s die d) := by
  unfold startDesc
  have hF : From 34359738882 s s := From.refl _ _
  extract_lets +onlyGivenNames x0
  clear_value x0
  split
  · rename_i e1
    refine From.step (ncNotStarted_from ..) ?_ rfl
    refine From.step (modLun_from ..) ?_ rfl
    exact hF
  · rename_i e2
    split
    · rename_i e3
      refine From.step (ncNotStarted_from ..) ?_ rfl
      refine From.step (bump64_from ..) ?_ rfl
      exact hF
    · rename_i e4
      split
      · rename_i e5
        extract_lets +onlyGivenNames x6
        have hx6 : From 34359738882 s x6 := by
          subst x6
          refine From.step (modLun_from ..) ?_ rfl
          refine From.step (tokenWaitDel_from ..) ?_ rfl
          exact hF
        clear_value x6
        refine From.step (dieTrace_from ..) ?_ rfl
        exact hx6
      · rename_i e7
        refine From.step (tokenWaitAdd_from ..) ?_ rfl
        exact hF

theorem operationStart_from {s : State} (die : Nat) : From 34359738882 s (operationStart s die) := by
  unfold operationStart
  have hF : From 34359738882 s s := From.refl _ _
  extract_lets +onlyGivenNames x0
  clear_value x0
  split
  · rename_i e1
    exact hF
  · rename_i e2
    split
    · rename_i y3 y4 y5 e6
      refine From.step (startDesc_from ..) ?_ rfl
      exact hF
    · rename_i y7 y8 e9
      refine From.step (resumeRun_from ..) ?_ rfl
      exact hF
    · rename_i y10 e11
      exact hF

theorem execOperationStart_from (die : Nat) {s : State} : FromO 34359738882 s (execOperationStart die s) := by
  unfold execOperationStart
  have hF : From 34359738882 s s := From.refl _ _
  refine FromO.next ?_
  refine From.step (operationStart_from ..) ?_ rfl
  exact hF

theorem readArrived_from {s : State} (d : Desc) : From 34359738368 s (readArrived s d) := by
  unfold readArrived
  have hF : From 34359738368 s s := From.refl _ _
  split
  · rename_i e0
    extract_lets +onlyGivenNames x1
    clear_value x1
    with_reducible exact From.set_nand hF _ rfl
  · rename_i e2
    exact hF

theorem programOk_from {s : State} (d : Desc) : From 6631429505024 s (programOk s d) := by
  unfold programOk
  have hF : From 6631429505024 s s := From.refl _ _
  extract_lets +onlyGivenNames x0
  clear_value x0
  refine From.step (releasePassed_from ..) ?_ rfl
  refine From.step (modBlock_from ..) ?_ rfl
  exact hF

theorem eraseOk_from {s : State} (d : Desc) : From 34359738368 s (eraseOk s d) := by
  unfold eraseOk
  have hF : From 34359738368 s s := From.refl _ _
  refine From.step (modBlock_from ..) ?_ rfl
  exact hF

theorem peFail_from {s : State} (d : Desc) : From 2235125335874 s (peFail s d) := by
  unfold peFail
  have hF : From 2235125335874 s s := From.refl _ _
  split
  · rename_i e0
    refine From.step (programFail_from ..) ?_ rfl
    exact hF
  · rename_i e1
    refine From.step (blockRetire_from ..) ?_ rfl
    exact hF

theorem readTimeout_from {s : State} (d : Desc) : From 2235125335874 s (readTimeout s d) := by
  unfold readTimeout
  have hF : From 2235125335874 s s := From.refl _ _
  refine From.foldl ?_ ?_ _
  · exact hF
  · intro a0 a1 a2
    refine From.step (decodeFail_from ..) ?_ rfl
    exact a2

theorem ncFollow_from {s : State} (d : Desc) (status : Nat) : From 6633171846978 s (ncFollow s d status) := by
  unfold ncFollow
  have hF : From 6633171846978 s s := From.refl _ _
  extract_lets +onlyGivenNames x0
  clear_value x0
  split
  · rename_i e1
    split
    · rename_i e2
      refine From.step (readArrived_from ..) ?_ rfl
      exact hF
    · rename_i e3
      split
      · rename_i e4
        refine From.step (programOk_from ..) ?_ rfl
        exact hF
      · rename_i e5
        split
        · rename_i e6
          refine From.step (eraseOk_from ..) ?_ rfl
          exact hF
        · rename_i e7
          split
          · rename_i e8
            refine From.step (modLun_from ..) ?_ rfl
            exact hF
          · rename_i e9
            exact hF
  · rename_i e10
    split
    · rename_i e11
      refine From.step (peFail_from ..) ?_ rfl
      refine From.step (bump32_from ..) ?_ rfl
      exact hF
    · rename_i e12
      split
      · rename_i e13
        refine From.step (peFail_from ..) ?_ rfl
        refine From.step (bump32_from ..) ?_ rfl
        exact hF
      · rename_i e14
        split
        · rename_i e15
          extract_lets +onlyGivenNames x16
          have hx16 : From 6633171846978 s x16 := by
            subst x16
            refine From.step (excuseReads_from ..) ?_ rfl
            refine From.step (bump32_from ..) ?_ rfl
            exact hF
          clear_value x16
          split
          · rename_i e17
            refine From.step (peFail_from ..) ?_ rfl
            exact hx16
          · rename_i e18
            split
            · rename_i e19
              refine From.step (readTimeout_from ..) ?_ rfl
              exact hx16
            · rename_i e20
              exact hx16
        · rename_i e21
          split
          · rename_i e22
            refine From.step (dieRetire_from ..) ?_ rfl
            refine From.step (bump32_from ..) ?_ rfl
            exact hF
          · rename_i e23
            split
            · rename_i e24
              refine From.step (modLun_from ..) ?_ rfl
              refine From.step (excuseReads_from ..) ?_ rfl
              exact hF
            · rename_i e25
              exact hF

theorem arrayEnd_from {s : State} (die status arrayTime nandSr featureOut : Nat) : From 6633171846978 s (arrayEnd s die status arrayTime nandSr featureOut) := by
  unfold arrayEnd
  have hF : From 6633171846978 s s := From.refl _ _
  split
  · rename_i y0 e1
    exact hF
  · rename_i y2 y3 e4
    extract_lets +onlyGivenNames x5
    clear_value x5
    extract_lets +onlyGivenNames x6
    clear_value x6
    extract_lets +onlyGivenNames x7
    have hx7 : From 6633171846978 s x7 := by
      subst x7
      refine From.step (modLun_from ..) ?_ rfl
      exact hF
    clear_value x7
    extract_lets +onlyGivenNames x8
    have hx8 : From 6633171846978 s x8 := by
      subst x8
      refine From.step (ncPost_from ..) ?_ rfl
      exact hx7
    clear_value x8
    extract_lets +onlyGivenNames x9
    have hx9 : From 6633171846978 s x9 := by
      subst x9
      split
      · rename_i e10
        refine From.step (excuseReads_from ..) ?_ rfl
        refine From.step (bump32_from ..) ?_ rfl
        exact hx8
      · rename_i e11
        exact hx8
    clear_value x9
    refine From.step (ncFollow_from ..) ?_ rfl
    exact hx9

theorem nandCompletion_from {s : State} (die status arrayTime nandSr featureOut : Nat) : From 6633171846978 s (nandCompletion s die status arrayTime nandSr featureOut) := by
  unfold nandCompletion
  have hF : From 6633171846978 s s := From.refl _ _
  split
  · rename_i y0 e1
    exact hF
  · rename_i y2 y3 e4
    split
    · rename_i e5
      exact hF
    · rename_i e6
      refine From.step (arrayEnd_from ..) ?_ rfl
      exact hF

theorem execNandCompletion_from (die status arrayTime nandSr featureOut : Nat) {s : State} : FromO 15429401184066 s (execNandCompletion die status arrayTime nandSr featureOut s) := by
  unfold execNandCompletion
  have hF : From 15429401184066 s s := From.refl _ _
  refine FromO.next ?_
  refine From.step (settle_from ..) ?_ rfl
  refine From.step (nandCompletion_from ..) ?_ rfl
  exact hF

theorem descriptorWithdraw_from {s : State} (die tag : Nat) : From 34359738368 s (descriptorWithdraw s die tag) := by
  unfold descriptorWithdraw
  have hF : From 34359738368 s s := From.refl _ _
  split
  · rename_i y0 y1 e2
    refine From.step (ncNotStarted_from ..) ?_ rfl
    refine From.step (modLun_from ..) ?_ rfl
    exact hF
  · rename_i y3 e4
    exact hF

theorem execDescriptorWithdraw_from (die tag : Nat) {s : State} : FromO 34359738368 s (execDescriptorWithdraw die tag s) := by
  unfold execDescriptorWithdraw
  have hF : From 34359738368 s s := From.refl _ _
  refine FromO.next ?_
  refine From.step (descriptorWithdraw_from ..) ?_ rfl
  exact hF

theorem arrayTimeout_from {s : State} (die : Nat) (answered : Bool) : From 6633171846978 s (arrayTimeout s die answered) := by
  unfold arrayTimeout
  have hF : From 6633171846978 s s := From.refl _ _
  split
  · rename_i y0 y1 e2
    refine From.step (arrayEnd_from ..) ?_ rfl
    exact hF
  · rename_i y3 e4
    exact hF

theorem execArrayTimeout_from (die : Nat) (answered : Bool) {s : State} : FromO 15429401184066 s (execArrayTimeout die answered s) := by
  unfold execArrayTimeout
  have hF : From 15429401184066 s s := From.refl _ _
  refine FromO.next ?_
  refine From.step (settle_from ..) ?_ rfl
  refine From.step (arrayTimeout_from ..) ?_ rfl
  exact hF

theorem suspendNow_from {s : State} (die : Nat) : From 34359738882 s (suspendNow s die) := by
  unfold suspendNow
  have hF : From 34359738882 s s := From.refl _ _
  split
  · rename_i y0 y1 e2
    extract_lets +onlyGivenNames x3
    have hx3 : From 34359738882 s x3 := by
      subst x3
      refine From.step (bump64_from ..) ?_ rfl
      refine From.step (modLun_from ..) ?_ rfl
      exact hF
    clear_value x3
    refine From.step (dieTrace_from ..) ?_ rfl
    exact hx3
  · rename_i y4 e5
    exact hF

theorem suspendRequest_from {s : State} (die : Nat) : From 34359738882 s (suspendRequest s die) := by
  unfold suspendRequest
  have hF : From 34359738882 s s := From.refl _ _
  extract_lets +onlyGivenNames x0
  clear_value x0
  split
  · rename_i y1 y2 e3
    split
    · rename_i e4
      exact hF
    · rename_i e5
      split
      · rename_i e6
        refine From.step (suspendNow_from ..) ?_ rfl
        exact hF
      · rename_i e7
        refine From.step (bump64_from ..) ?_ rfl
        refine From.step (modLun_from ..) ?_ rfl
        exact hF
  · rename_i y8 e9
    exact hF

theorem execSuspendRequest_from (die : Nat) {s : State} : FromO 34359738882 s (execSuspendRequest die s) := by
  unfold execSuspendRequest
  have hF : From 34359738882 s s := From.refl _ _
  refine FromO.next ?_
  refine From.step (suspendRequest_from ..) ?_ rfl
  exact hF

theorem suspendMinRunElapsed_from {s : State} (die : Nat) : From 34359738882 s (suspendMinRunElapsed s die) := by
  unfold suspendMinRunElapsed
  have hF : From 34359738882 s s := From.refl _ _
  split
  · rename_i e0
    refine From.step (suspendNow_from ..) ?_ rfl
    exact hF
  · rename_i e1
    exact hF

theorem execSuspendMinRunElapsed_from (die : Nat) {s : State} : FromO 34359738882 s (execSuspendMinRunElapsed die s) := by
  unfold execSuspendMinRunElapsed
  have hF : From 34359738882 s s := From.refl _ _
  refine FromO.next ?_
  refine From.step (suspendMinRunElapsed_from ..) ?_ rfl
  exact hF

theorem suspendLunReady_from {s : State} (die : Nat) : From 34359738368 s (suspendLunReady s die) := by
  unfold suspendLunReady
  have hF : From 34359738368 s s := From.refl _ _
  extract_lets +onlyGivenNames x0
  clear_value x0
  split
  · rename_i e1
    refine From.step (modLun_from ..) ?_ rfl
    exact hF
  · rename_i e2
    exact hF

theorem execSuspendLunReady_from (die : Nat) {s : State} : FromO 34359738368 s (execSuspendLunReady die s) := by
  unfold execSuspendLunReady
  have hF : From 34359738368 s s := From.refl _ _
  refine FromO.next ?_
  refine From.step (suspendLunReady_from ..) ?_ rfl
  exact hF

theorem resumeRequest_from {s : State} (die : Nat) : From 34359738882 s (resumeRequest s die) := by
  unfold resumeRequest
  have hF : From 34359738882 s s := From.refl _ _
  extract_lets +onlyGivenNames x0
  clear_value x0
  split
  · rename_i e1
    exact hF
  · rename_i e2
    split
    · rename_i e3
      refine From.step (resumeRun_from ..) ?_ rfl
      exact hF
    · rename_i e4
      exact hF

theorem execResumeRequest_from (die : Nat) {s : State} : FromO 34359738882 s (execResumeRequest die s) := by
  unfold execResumeRequest
  have hF : From 34359738882 s s := From.refl _ _
  refine FromO.next ?_
  refine From.step (resumeRequest_from ..) ?_ rfl
  exact hF

theorem suspendWindowExpiry_from {s : State} (die : Nat) : From 34359738882 s (suspendWindowExpiry s die) := by
  unfold suspendWindowExpiry
  have hF : From 34359738882 s s := From.refl _ _
  extract_lets +onlyGivenNames x0
  clear_value x0
  split
  · rename_i e1
    refine From.step (resumeRequest_from ..) ?_ rfl
    refine From.step (modLun_from ..) ?_ rfl
    exact hF
  · rename_i e2
    exact hF

theorem execSuspendWindowExpiry_from (die : Nat) {s : State} : FromO 34359738882 s (execSuspendWindowExpiry die s) := by
  unfold execSuspendWindowExpiry
  have hF : From 34359738882 s s := From.refl _ _
  refine FromO.next ?_
  refine From.step (suspendWindowExpiry_from ..) ?_ rfl
  exact hF

theorem ncEndAll_from {s : State} (queued : List Desc) (ops : List ArrayOp) (st : Nat) : From 34359738368 s (ncEndAll s queued ops st) := by
  unfold ncEndAll
  have hF : From 34359738368 s s := From.refl _ _
  extract_lets +onlyGivenNames x0
  have hx0 : From 34359738368 s x0 := by
    subst x0
    refine From.foldl ?_ ?_ _
    · exact hF
    · intro a1 a2 a3
      refine From.step (ncNotStarted_from ..) ?_ rfl
      exact a3
  clear_value x0
  refine From.foldl ?_ ?_ _
  · exact hx0
  · intro a4 a5 a6
    refine From.step (ncPost_from ..) ?_ rfl
    exact a6

theorem nandFlushStart_from {s : State} : From 34359738368 s (nandFlushStart s) := by
  unfold nandFlushStart
  have hF : From 34359738368 s s := From.refl _ _
  extract_lets +onlyGivenNames x0
  clear_value x0
  extract_lets +onlyGivenNames x1
  have hx1 : From 34359738368 s x1 := by
    subst x1
    refine From.foldl ?_ ?_ _
    · exact hF
    · intro a2 a3 a4
      refine From.step (modBlock_from ..) ?_ rfl
      exact a4
  clear_value x1
  extract_lets +onlyGivenNames x5
  have hx5 : From 34359738368 s x5 := by
    subst x5
    refine From.foldl ?_ ?_ _
    · exact hx1
    · intro a6 a7 a8
      refine From.step (ncEndAll_from ..) ?_ rfl
      exact a8
  clear_value x5
  with_reducible exact From.set_nand hx5 _ rfl

theorem nandFenced_from {s : State} : From 34359738368 s (nandFenced s) := by
  unfold nandFenced
  have hF : From 34359738368 s s := From.refl _ _
  extract_lets +onlyGivenNames x0
  have hx0 : From 34359738368 s x0 := by
    subst x0
    refine From.foldl ?_ ?_ _
    · exact hF
    · intro a1 a2 a3
      refine From.step (ncEndAll_from ..) ?_ rfl
      exact a3
  clear_value x0
  with_reducible exact From.set_nand hx0 _ rfl

theorem wtLogDelayExpiry_from {s : State} (fn sqid cid : Nat) (pass : Bool) : From 2235125335874 s (wtLogDelayExpiry s fn sqid cid pass) := by
  unfold wtLogDelayExpiry
  have hF : From 2235125335874 s s := From.refl _ _
  split
  · rename_i y0 y1 e2
    extract_lets +onlyGivenNames x3
    subst x3
    dsimp -zeta only
    extract_lets +onlyGivenNames x4
    clear_value x4
    split
    · rename_i e5
      exact hF
    · rename_i e6
      split
      · rename_i y7 e8
        exact hF
      · rename_i y9 y10 y11 e12
        split
        · rename_i e13
          exact From.same 2233382993920 hF (by with_reducible rfl) rfl rfl
        · rename_i e14
          refine From.step (blockRetire_from ..) ?_ rfl
          exact hF
  · rename_i y15 e16
    exact hF

theorem execWtLogDelayExpiry_from (fn sqid cid : Nat) (pass : Bool) {s : State} : FromO 15429401184066 s (execWtLogDelayExpiry fn sqid cid pass s) := by
  unfold execWtLogDelayExpiry
  have hF : From 15429401184066 s s := From.refl _ _
  refine FromO.next ?_
  refine From.step (settle_from ..) ?_ rfl
  refine From.step (wtLogDelayExpiry_from ..) ?_ rfl
  exact hF

theorem abandonPieces_from {s : State} (n : Nat) (f : Flight) (k : Nat) : From 15428723803906 s (abandonPieces n s f k).1 := by
  induction n generalizing s f k with
  | zero => exact From.refl _ _
  | succ n ih =>
    have hF : From 15428723803906 s s := From.refl _ _
    unfold abandonPieces
    split
    split
    · exact hF
    · split
      · exact hF
      · split
        rename_i e
        exact From.step (ih _ _) (From.step (pieceDone_from _ _ _ _ _ _) (From.snd e (From.step (freeBelow_from _) hF rfl)) rfl) rfl

theorem abandonWrite_from {s : State} (f : Flight) : From 15428723803906 s (abandonWrite s f) := by
  have hF : From 15428723803906 s s := From.refl _ _
  unfold abandonWrite
  extract_lets n
  split
  · exact hF
  · split
    · split
      · exact hF
      · extract_lets z
        split
        · split
          rename_i e
          have h1 := From.snd e (From.step (freeBelow_from _) hF (m := 15428723803906) rfl)
          split
          · split
            rename_i e2
            exact From.step (zoneWriteFail_from _) (From.fst e2 (From.step (abandonPieces_from _ _ _) h1 rfl)) rfl
          · exact From.step (zoneWriteFail_from _) (From.step (applyDirect_from _ _) h1 rfl) rfl
        · exact From.step (zoneWriteFail_from _) hF rfl
    · split
      rename_i e
      have h1 := From.snd e (From.step (freeBelow_from _) hF (m := 15428723803906) rfl)
      have h2 := From.foldl (f := fun s b => applyConv s f b.1 b.2) h1 (fun u b h => From.step (applyConv_from _ _ _) h rfl) (chosen ‹Nat› f.blocks)
      extract_lets s1 s2
      have h3 : From 15428723803906 s s2 := From.foldl h2 (fun u b h => From.step (deallocate_from _ _ _) h rfl) _
      clear_value s2
      split
      · exact From.foldl h3 (fun u b h => From.step (markUncor_from _ _ _) h rfl) _
      · exact h3

theorem abandon_from {s : State} (p : Flight → Bool) : From 15428723803906 s (abandon s p) := by
  unfold abandon
  have hF : From 15428723803906 s s := From.refl _ _
  extract_lets +onlyGivenNames x0
  clear_value x0
  extract_lets +onlyGivenNames x1
  clear_value x1
  extract_lets +onlyGivenNames x2
  have hx2 : From 15428723803906 s x2 := by
    subst x2
    refine From.upd 9437184 (hF) rfl rfl ?_ ?_ ?_ ?_ ?_ ?_ ?_ ?_ ?_ ?_ ?_ ?_ ?_ ?_ ?_ ?_ ?_ ?_ ?_
    all_goals with_reducible first | exact id | exact fun _ => Assoc.wf_nil | exact fun _ => From.nil_le | exact fun _ => From.sixteen | (intro w; repeat' first | exact w | exact From.nil_le | exact Assoc.wf_nil | split | apply Assoc.wf_foldl (fun m b w => Assoc.wf_put w) | apply Assoc.wf_put | apply Assoc.wf_upd | apply Assoc.wf_updD | apply Assoc.wf_del | apply Assoc.wf_keep | apply Assoc.wf_mapVal)
  clear_value x2
  extract_lets +onlyGivenNames x3
  have hx3 : From 15428723803906 s x3 := by
    subst x3
    refine From.foldl ?_ ?_ _
    · exact hx2
    · intro a4 a5 a6
      refine From.step (abandonWrite_from ..) ?_ rfl
      exact a6
  clear_value x3
  refine From.upd 8388608 (hx3) rfl rfl ?_ ?_ ?_ ?_ ?_ ?_ ?_ ?_ ?_ ?_ ?_ ?_ ?_ ?_ ?_ ?_ ?_ ?_ ?_
  all_goals with_reducible first | exact id | exact fun _ => Assoc.wf_nil | exact fun _ => From.nil_le | exact fun _ => From.sixteen | (intro w; repeat' first | exact w | exact From.nil_le | exact Assoc.wf_nil | split | apply Assoc.wf_foldl (fun m b w => Assoc.wf_put w) | apply Assoc.wf_put | apply Assoc.wf_upd | apply Assoc.wf_updD | apply Assoc.wf_del | apply Assoc.wf_keep | apply Assoc.wf_mapVal)

theorem orphanCmds_from {s : State} (fns : List Nat) : From 5497562333184 s (orphanCmds s fns) := by
  unfold orphanCmds
  have hF : From 5497562333184 s s := From.refl _ _
  extract_lets +onlyGivenNames x0
  subst x0
  dsimp -zeta only
  refine From.upd 5497562333184 (hF) rfl rfl ?_ ?_ ?_ ?_ ?_ ?_ ?_ ?_ ?_ ?_ ?_ ?_ ?_ ?_ ?_ ?_ ?_ ?_ ?_
  all_goals with_reducible first | exact id | exact fun _ => Assoc.wf_nil | exact fun _ => From.nil_le | exact fun _ => From.sixteen | (intro w; repeat' first | exact w | exact From.nil_le | exact Assoc.wf_nil | split | apply Assoc.wf_foldl (fun m b w => Assoc.wf_put w) | apply Assoc.wf_put | apply Assoc.wf_upd | apply Assoc.wf_updD | apply Assoc.wf_del | apply Assoc.wf_keep | apply Assoc.wf_mapVal)

theorem resetController_from {s : State} (fn : Nat) : From 17077997799330 s (resetController s fn) := by
  unfold resetController
  have hF : From 17077997799330 s s := From.refl _ _
  extract_lets +onlyGivenNames x0
  have hx0 : From 17077997799330 s x0 := by
    subst x0
    refine From.step (orphanCmds_from ..) ?_ rfl
    refine From.step (abandon_from ..) ?_ rfl
    exact hF
  clear_value x0
  extract_lets +onlyGivenNames x1
  subst x1
  dsimp -zeta only
  extract_lets +onlyGivenNames x2
  clear_value x2
  extract_lets +onlyGivenNames x3
  clear_value x3
  extract_lets +onlyGivenNames x4
  clear_value x4
  refine From.upd 549758828960 (hx0) rfl rfl ?_ ?_ ?_ ?_ ?_ ?_ ?_ ?_ ?_ ?_ ?_ ?_ ?_ ?_ ?_ ?_ ?_ ?_ ?_
  all_goals with_reducible first | exact id | exact fun _ => Assoc.wf_nil | exact fun _ => From.nil_le | exact fun _ => From.sixteen | (intro w; repeat' first | exact w | exact From.nil_le | exact Assoc.wf_nil | split | apply Assoc.wf_foldl (fun m b w => Assoc.wf_put w) | apply Assoc.wf_put | apply Assoc.wf_upd | apply Assoc.wf_updD | apply Assoc.wf_del | apply Assoc.wf_keep | apply Assoc.wf_mapVal)

theorem dropPath_from {s : State} (fn : Nat) : From 64 s (dropPath s fn) := by
  unfold dropPath
  have hF : From 64 s s := From.refl _ _
  extract_lets +onlyGivenNames x0
  subst x0
  dsimp -zeta only
  with_reducible exact From.set_miowa hF _ rfl

theorem dropTransfers_from {s : State} : From 64 s (dropTransfers s) := by
  unfold dropTransfers
  have hF : From 64 s s := From.refl _ _
  with_reducible exact From.set_miowa hF _ rfl

theorem clearEntries_from {s : State} (p : Nat → Bool) : From 66 s (clearEntries s p) := by
  unfold clearEntries
  have hF : From 66 s s := From.refl _ _
  extract_lets +onlyGivenNames x0
  refine From.upd 66 (hF) rfl rfl ?_ ?_ ?_ ?_ ?_ ?_ ?_ ?_ ?_ ?_ ?_ ?_ ?_ ?_ ?_ ?_ ?_ ?_ ?_
  all_goals with_reducible first | exact id | exact fun _ => Assoc.wf_nil | exact fun _ => From.nil_le | exact fun _ => From.sixteen | (intro w; repeat' first | exact w | exact From.nil_le | exact Assoc.wf_nil | split | apply Assoc.wf_foldl (fun m b w => Assoc.wf_put w) | apply Assoc.wf_put | apply Assoc.wf_upd | apply Assoc.wf_updD | apply Assoc.wf_del | apply Assoc.wf_keep | apply Assoc.wf_mapVal)

theorem resetFunction_from {s : State} (fn : Nat) : From 17080145283042 s (resetFunction s fn) := by
  unfold resetFunction
  have hF : From 17080145283042 s s := From.refl _ _
  extract_lets +onlyGivenNames x0
  have hx0 : From 17080145283042 s x0 := by
    subst x0
    refine From.step (dropPath_from ..) ?_ rfl
    refine From.step (resetController_from ..) ?_ rfl
    exact hF
  clear_value x0
  extract_lets +onlyGivenNames x1
  have hx1 : From 17080145283042 s x1 := by
    subst x1
    refine From.step (clearEntries_from ..) ?_ rfl
    exact hx0
  clear_value x1
  extract_lets +onlyGivenNames x2
  have hx2 : From 17080145283042 s x2 := by
    subst x2
    refine From.upd 2147483680 (hx1) rfl rfl ?_ ?_ ?_ ?_ ?_ ?_ ?_ ?_ ?_ ?_ ?_ ?_ ?_ ?_ ?_ ?_ ?_ ?_ ?_
    all_goals with_reducible first | exact id | exact fun _ => Assoc.wf_nil | exact fun _ => From.nil_le | exact fun _ => From.sixteen | (intro w; repeat' first | exact w | exact From.nil_le | exact Assoc.wf_nil | split | apply Assoc.wf_foldl (fun m b w => Assoc.wf_put w) | apply Assoc.wf_put | apply Assoc.wf_upd | apply Assoc.wf_updD | apply Assoc.wf_del | apply Assoc.wf_keep | apply Assoc.wf_mapVal)
  clear_value x2
  refine From.step (clearTenantSide_from ..) ?_ rfl
  refine From.step (modInst_from ..) ?_ rfl
  exact hx2

theorem vfsAbsent_from {s : State} (ns : List Nat) : From 1073872930 s (vfsAbsent s ns) := by
  unfold vfsAbsent
  have hF : From 1073872930 s s := From.refl _ _
  refine From.foldl ?_ ?_ _
  · exact hF
  · intro a0 a1 a2
    split
    · rename_i e3
      refine From.step (instStateTo_from ..) ?_ rfl
      with_reducible exact From.set_staged a2 _ rfl
    · rename_i e4
      exact a2

theorem vfClear_from {s : State} (p : Nat) : From 1073885218 s (vfClear s p) := by
  unfold vfClear
  have hF : From 1073885218 s s := From.refl _ _
  extract_lets +onlyGivenNames x0
  clear_value x0
  refine From.step (vfsAbsent_from ..) ?_ rfl
  refine From.step (modPort_from ..) ?_ rfl
  exact hF

theorem resetPortFns_from {s : State} (p : Nat) : From 17080145295330 s (resetPortFns s p) := by
  unfold resetPortFns
  have hF : From 17080145295330 s s := From.refl _ _
  extract_lets +onlyGivenNames x0
  clear_value x0
  refine From.step (vfClear_from ..) ?_ rfl
  refine From.foldl ?_ ?_ _
  · exact hF
  · intro a1 a2 a3
    refine From.step (resetFunction_from ..) ?_ rfl
    exact a3

theorem resetLink_from {s : State} (p : Nat) (sticky held : Bool) : From 77824 s (resetLink s p sticky held) := by
  unfold resetLink
  have hF : From 77824 s s := From.refl _ _
  refine From.step (driveWake_from ..) ?_ rfl
  refine From.step (modPort_from ..) ?_ rfl
  exact hF

theorem tally_from {s : State} (code : Nat) : From 2 s (tally s code) := by
  unfold tally
  have hF : From 2 s s := From.refl _ _
  extract_lets +onlyGivenNames x0
  have hx0 : From 2 s x0 := by
    subst x0
    split
    · rename_i e1
      exact hF
    · rename_i e2
      refine From.step (bump32_from ..) ?_ rfl
      exact hF
  clear_value x0
  split
  · rename_i e3
    exact hx0
  · rename_i e4
    refine From.step (setV_from ..) ?_ rfl
    refine From.step (setV_from ..) ?_ rfl
    exact hx0

theorem flr_from {s : State} (fn : Nat) : From 17080145295330 s (flr s fn) := by
  unfold flr
  have hF : From 17080145295330 s s := From.refl _ _
  extract_lets +onlyGivenNames x0
  have hx0 : From 17080145295330 s x0 := by
    subst x0
    refine From.step (tally_from ..) ?_ rfl
    exact hF
  clear_value x0
  split
  · rename_i e1
    refine From.step (resetPortFns_from ..) ?_ rfl
    exact hx0
  · rename_i e2
    refine From.step (resetFunction_from ..) ?_ rfl
    exact hx0

theorem resetSubsystem_from {s : State} : From 17080145360866 s (resetSubsystem s) := by
  unfold resetSubsystem
  have hF : From 17080145360866 s s := From.refl _ _
  extract_lets +onlyGivenNames x0
  have hx0 : From 17080145360866 s x0 := by
    subst x0
    refine From.foldl ?_ ?_ _
    · exact hF
    · intro a1 a2 a3
      refine From.step (resetLink_from ..) ?_ rfl
      refine From.step (resetPortFns_from ..) ?_ rfl
      exact a3
  clear_value x0
  extract_lets +onlyGivenNames x4
  have hx4 : From 17080145360866 s x4 := by
    subst x4
    refine From.step (dropTransfers_from ..) ?_ rfl
    refine From.step (endHold_from ..) ?_ rfl
    exact hx0
  clear_value x4
  with_reducible exact From.set_staged hx4 _ rfl

theorem abortTest_from {s : State} : From 4294967298 s (abortTest s) := by
  unfold abortTest
  have hF : From 4294967298 s s := From.refl _ _
  split
  · rename_i e0
    refine From.step (setV_from ..) ?_ rfl
    with_reducible exact From.set_power hF _ rfl
  · rename_i e1
    exact hF

theorem flushStart_from {s : State} : From 2238828906242 s (flushStart s) := by
  unfold flushStart
  have hF : From 2238828906242 s s := From.refl _ _
  split
  · rename_i e0
    exact hF
  · rename_i e1
    extract_lets +onlyGivenNames x2
    have hx2 : From 2238828906242 s x2 := by
      subst x2
      refine From.step (excuseReads_from ..) ?_ rfl
      refine From.step (cutUnits_from ..) ?_ rfl
      refine From.step (abortTest_from ..) ?_ rfl
      exact hF
    clear_value x2
    extract_lets +onlyGivenNames x3
    have hx3 : From 2238828906242 s x3 := by
      subst x3
      refine From.step (nandFlushStart_from ..) ?_ rfl
      exact hx2
    clear_value x3
    refine From.step (supplyTo_from ..) ?_ rfl
    with_reducible exact From.set_power hx3 _ rfl

theorem replayFlush_from {s : State} : From 2237686349824 s (replayFlush s) := by
  unfold replayFlush
  have hF : From 2237686349824 s s := From.refl _ _
  extract_lets +onlyGivenNames x0
  have hx0 : From 2237686349824 s x0 := by
    subst x0
    refine From.foldl ?_ ?_ _
    · exact hF
    · intro a1 a2 a3
      extract_lets +onlyGivenNames x4
      clear_value x4
      refine From.foldl ?_ ?_ _
      · refine From.step (discover_from ..) ?_ rfl
        exact a3
      · intro a5 a6 a7
        refine From.step (wbDrop_from ..) ?_ rfl
        exact a7
  clear_value x0
  extract_lets +onlyGivenNames x8
  clear_value x8
  extract_lets +onlyGivenNames x9
  clear_value x9
  extract_lets +onlyGivenNames x10
  have hx10 : From 2237686349824 s x10 := by
    subst x10
    exact From.same 38654705664 hx0 (by with_reducible rfl) rfl rfl
  clear_value x10
  extract_lets +onlyGivenNames x11
  clear_value x11
  extract_lets +onlyGivenNames x12
  have hx12 : From 2237686349824 s x12 := by
    subst x12
    with_reducible exact From.set_xlat hx10 _ rfl
  clear_value x12
  with_reducible exact From.set_nand hx12 _ rfl

theorem serviceEnd_from {s : State} (cause : Nat) : From 1649267441922 s (serviceEnd s cause) := by
  unfold serviceEnd
  have hF : From 1649267441922 s s := From.refl _ _
  split
  · rename_i e0
    refine From.step (event_from ..) ?_ rfl
    exact From.same 1649267441664 hF (by with_reducible rfl) rfl rfl
  · rename_i e1
    exact hF

theorem pairRestart_from {s : State} : From 4398046511104 s (pairRestart s) := by
  unfold pairRestart
  have hF : From 4398046511104 s s := From.refl _ _
  extract_lets +onlyGivenNames x0
  clear_value x0
  extract_lets +onlyGivenNames x1
  clear_value x1
  with_reducible exact From.set_pair hF _ rfl

theorem restartInsts_from {s : State} : From 131072 s (restartInsts s) := by
  unfold restartInsts
  have hF : From 131072 s s := From.refl _ _
  extract_lets +onlyGivenNames x0
  subst x0
  dsimp -zeta only
  extract_lets +onlyGivenNames x1
  clear_value x1
  refine From.upd 131072 (hF) rfl rfl ?_ ?_ ?_ ?_ ?_ ?_ ?_ ?_ ?_ ?_ ?_ ?_ ?_ ?_ ?_ ?_ ?_ ?_ ?_
  all_goals with_reducible first | exact id | exact fun _ => Assoc.wf_nil | exact fun _ => From.nil_le | exact fun _ => From.sixteen | (intro w; repeat' first | exact w | exact From.nil_le | exact Assoc.wf_nil | split | apply Assoc.wf_foldl (fun m b w => Assoc.wf_put w) | apply Assoc.wf_put | apply Assoc.wf_upd | apply Assoc.wf_updD | apply Assoc.wf_del | apply Assoc.wf_keep | apply Assoc.wf_mapVal)

theorem dropRelocs_from {s : State} : From 2233382993920 s (dropRelocs s) := by
  unfold dropRelocs
  have hF : From 2233382993920 s s := From.refl _ _
  refine From.foldl ?_ ?_ _
  · exact hF
  · intro a0 a1 a2
    refine From.step (dropReloc_from ..) ?_ rfl
    exact a2

theorem pinAll_from {s : State} : From 34359738368 s (pinAll s) := by
  unfold pinAll
  have hF : From 34359738368 s s := From.refl _ _
  with_reducible exact From.set_nand hF _ rfl

theorem hubRestart_from {s : State} : From 17565476667242 s (hubRestart s) := by
  unfold hubRestart
  have hF : From 17565476667242 s s := From.refl _ _
  extract_lets +onlyGivenNames x0
  have hx0 : From 17565476667242 s x0 := by
    subst x0
    refine From.step (orphanCmds_from ..) ?_ rfl
    refine From.step (abandon_from ..) ?_ rfl
    exact hF
  clear_value x0
  extract_lets +onlyGivenNames x1
  have hx1 : From 17565476667242 s x1 := by
    subst x1
    refine From.step (clearEntries_from ..) ?_ rfl
    exact hx0
  clear_value x1
  extract_lets +onlyGivenNames x2
  clear_value x2
  extract_lets +onlyGivenNames x3
  extract_lets +onlyGivenNames x4
  extract_lets +onlyGivenNames x5
  clear_value x5
  extract_lets +onlyGivenNames x6
  clear_value x6
  extract_lets +onlyGivenNames x7
  clear_value x7
  extract_lets +onlyGivenNames x8
  clear_value x8
  extract_lets +onlyGivenNames x9
  clear_value x9
  extract_lets +onlyGivenNames x10
  clear_value x10
  extract_lets +onlyGivenNames x11
  clear_value x11
  extract_lets +onlyGivenNames x12
  have hx12 : From 17565476667242 s x12 := by
    subst x12
    refine From.upd 2720864681832 (hx1) rfl rfl ?_ ?_ ?_ ?_ ?_ ?_ ?_ ?_ ?_ ?_ ?_ ?_ ?_ ?_ ?_ ?_ ?_ ?_ ?_
    all_goals with_reducible first | exact id | exact fun _ => Assoc.wf_nil | exact fun _ => From.nil_le | exact fun _ => From.sixteen | (intro w; repeat' first | exact w | exact From.nil_le | exact Assoc.wf_nil | split | apply Assoc.wf_foldl (fun m b w => Assoc.wf_put w) | apply Assoc.wf_put | apply Assoc.wf_upd | apply Assoc.wf_updD | apply Assoc.wf_del | apply Assoc.wf_keep | apply Assoc.wf_mapVal)
  clear_value x12
  extract_lets +onlyGivenNames x13
  have hx13 : From 17565476667242 s x13 := by
    subst x13
    refine From.step (dropRelocs_from ..) ?_ rfl
    refine From.step (restartInsts_from ..) ?_ rfl
    refine From.step (endHold_from ..) ?_ rfl
    refine From.step (pinAll_from ..) ?_ rfl
    exact hx12
  clear_value x13
  refine From.step (driveWake_from ..) ?_ rfl
  refine From.step (pairRestart_from ..) ?_ rfl
  exact hx13

theorem watchdogReset_from {s : State} : From 17582656536426 s (watchdogReset s) := by
  unfold watchdogReset
  have hF : From 17582656536426 s s := From.refl _ _
  extract_lets +onlyGivenNames x0
  have hx0 : From 17582656536426 s x0 := by
    subst x0
    refine From.step (replayFlush_from ..) ?_ rfl
    refine From.step (hubRestart_from ..) ?_ rfl
    refine From.step (serviceEnd_from ..) ?_ rfl
    refine From.step (tally_from ..) ?_ rfl
    exact hF
  clear_value x0
  refine From.step (bootSelect_from ..) ?_ rfl
  with_reducible exact From.set_wdt hx0 _ rfl

theorem managementResetNow_from {s : State} : From 17582656536426 s (managementResetNow s) := by
  unfold managementResetNow
  have hF : From 17582656536426 s s := From.refl _ _
  extract_lets +onlyGivenNames x0
  have hx0 : From 17582656536426 s x0 := by
    subst x0
    refine From.step (replayFlush_from ..) ?_ rfl
    refine From.step (hubRestart_from ..) ?_ rfl
    refine From.step (serviceEnd_from ..) ?_ rfl
    refine From.step (tally_from ..) ?_ rfl
    exact hF
  clear_value x0
  extract_lets +onlyGivenNames x1
  clear_value x1
  extract_lets +onlyGivenNames x2
  clear_value x2
  extract_lets +onlyGivenNames x3
  have hx3 : From 17582656536426 s x3 := by
    subst x3
    refine From.step (bootSelect_from ..) ?_ rfl
    exact From.same 21474836480 hx0 (by with_reducible rfl) rfl rfl
  clear_value x3
  split
  · rename_i e4
    exact hx3
  · rename_i e5
    with_reducible exact From.set_power hx3 _ rfl

theorem subsystemResetNow_from {s : State} : From 17582656536554 s (subsystemResetNow s) := by
  unfold subsystemResetNow
  have hF : From 17582656536554 s s := From.refl _ _
  split
  · rename_i e0
    refine From.step (managementResetNow_from ..) ?_ rfl
    exact hF
  · rename_i e1
    refine From.step (resetSubsystem_from ..) ?_ rfl
    refine From.step (tally_from ..) ?_ rfl
    exact hF

theorem afterFlushReset_from {s : State} : From 17582656536554 s (afterFlushReset s) := by
  unfold afterFlushReset
  have hF : From 17582656536554 s s := From.refl _ _
  extract_lets +onlyGivenNames x0
  clear_value x0
  extract_lets +onlyGivenNames x1
  clear_value x1
  extract_lets +onlyGivenNames x2
  have hx2 : From 17582656536554 s x2 := by
    subst x2
    with_reducible exact From.set_power hF _ rfl
  clear_value x2
  split
  · rename_i e3
    refine From.step (managementResetNow_from ..) ?_ rfl
    exact hx2
  · rename_i e4
    split
    · rename_i e5
      refine From.step (watchdogReset_from ..) ?_ rfl
      exact hx2
    · rename_i e6
      split
      · rename_i e7
        refine From.step (subsystemResetNow_from ..) ?_ rfl
        exact hx2
      · rename_i e8
        exact hx2

theorem sleepUndo_from {s : State} : From 4402341478402 s (sleepUndo s) := by
  unfold sleepUndo
  have hF : From 4402341478402 s s := From.refl _ _
  split
  · rename_i y0 y1 e2
    extract_lets +onlyGivenNames x3
    clear_value x3
    extract_lets +onlyGivenNames x4
    clear_value x4
    extract_lets +onlyGivenNames x5
    have hx5 : From 4402341478402 s x5 := by
      subst x5
      exact From.same 4402341478400 hF (by with_reducible rfl) rfl rfl
    clear_value x5
    refine From.step (bump32_from ..) ?_ rfl
    refine From.step (setV_from ..) ?_ rfl
    exact hx5
  · rename_i y6 e7
    exact hF

theorem resetWithFlush_from {s : State} (code : Nat) : From 17582656536426 s (resetWithFlush s code) := by
  unfold resetWithFlush
  have hF : From 17582656536426 s s := From.refl _ _
  extract_lets +onlyGivenNames x0
  have hx0 : From 17582656536426 s x0 := by
    subst x0
    refine From.step (sleepUndo_from ..) ?_ rfl
    exact hF
  clear_value x0
  split
  · rename_i e1
    with_reducible exact From.set_power hx0 _ rfl
  · rename_i e2
    split
    · rename_i e3
      refine From.step (flushStart_from ..) ?_ rfl
      with_reducible exact From.set_power hx0 _ rfl
    · rename_i e4
      split
      · rename_i e5
        refine From.step (managementResetNow_from ..) ?_ rfl
        exact hx0
      · rename_i e6
        refine From.step (watchdogReset_from ..) ?_ rfl
        exact hx0

theorem supplySample_from {s : State} (mv : Nat) : From 4294967298 s (supplySample s mv) := by
  unfold supplySample
  have hF : From 4294967298 s s := From.refl _ _
  refine From.step (setV_from ..) ?_ rfl
  with_reducible exact From.set_power hF _ rfl

theorem supplyWarning_from {s : State} (mv : Nat) : From 4294967810 s (supplyWarning s mv) := by
  unfold supplyWarning
  have hF : From 4294967810 s s := From.refl _ _
  extract_lets +onlyGivenNames x0
  have hx0 : From 4294967810 s x0 := by
    subst x0
    refine From.step (supplySample_from ..) ?_ rfl
    exact hF
  clear_value x0
  split
  · rename_i e1
    exact hx0
  · rename_i e2
    split
    · rename_i e3
      with_reducible exact From.set_power hx0 _ rfl
    · rename_i e4
      refine From.step (supplyTo_from ..) ?_ rfl
      with_reducible exact From.set_power hx0 _ rfl

theorem execSupplyWarning_from (mv : Nat) {s : State} : FromO 4294967810 s (execSupplyWarning mv s) := by
  unfold execSupplyWarning
  have hF : From 4294967810 s s := From.refl _ _
  refine FromO.next ?_
  refine From.step (supplyWarning_from ..) ?_ rfl
  exact hF

theorem flushFall_from {s : State} : From 2238828906242 s (flushFall s) := by
  unfold flushFall
  have hF : From 2238828906242 s s := From.refl _ _
  split
  · rename_i e0
    exact hF
  · rename_i e1
    split
    · rename_i e2
      refine From.step (event_from ..) ?_ rfl
      exact hF
    · rename_i e3
      split
      · rename_i e4
        exact hF
      · rename_i e5
        refine From.step (flushStart_from ..) ?_ rfl
        with_reducible exact From.set_power hF _ rfl

theorem supplyFlushLevel_from {s : State} (mv : Nat) : From 2238828906242 s (supplyFlushLevel s mv) := by
  unfold supplyFlushLevel
  have hF : From 2238828906242 s s := From.refl _ _
  refine From.step (flushFall_from ..) ?_ rfl
  refine From.step (supplySample_from ..) ?_ rfl
  exact hF

theorem execSupplyFlushLevel_from (mv : Nat) {s : State} : FromO 2238828906242 s (execSupplyFlushLevel mv s) := by
  unfold execSupplyFlushLevel
  have hF : From 2238828906242 s s := From.refl _ _
  refine FromO.next ?_
  refine From.step (supplyFlushLevel_from ..) ?_ rfl
  exact hF

theorem tHoldExpiry_from {s : State} : From 2238828906242 s (tHoldExpiry s) := by
  unfold tHoldExpiry
  have hF : From 2238828906242 s s := From.refl _ _
  split
  · rename_i e0
    refine From.step (flushFall_from ..) ?_ rfl
    exact hF
  · rename_i e1
    exact hF

theorem execTHoldExpiry_from {s : State} : FromO 2238828906242 s (execTHoldExpiry s) := by
  unfold execTHoldExpiry
  have hF : From 2238828906242 s s := From.refl _ _
  refine FromO.next ?_
  refine From.step (tHoldExpiry_from ..) ?_ rfl
  exact hF

theorem pfail_from {s : State} : From 2238828906242 s (pfail s) := by
  unfold pfail
  have hF : From 2238828906242 s s := From.refl _ _
  split
  · rename_i e0
    refine From.step (flushFall_from ..) ?_ rfl
    exact hF
  · rename_i e1
    exact hF

theorem execPfail_from {s : State} : FromO 2238828906242 s (execPfail s) := by
  unfold execPfail
  have hF : From 2238828906242 s s := From.refl _ _
  refine FromO.next ?_
  refine From.step (pfail_from ..) ?_ rfl
  exact hF

theorem supplyCrossing_from {s : State} (mv : Nat) : From 4294967810 s (supplyCrossing s mv) := by
  unfold supplyCrossing
  have hF : From 4294967810 s s := From.refl _ _
  extract_lets +onlyGivenNames x0
  have hx0 : From 4294967810 s x0 := by
    subst x0
    refine From.step (supplySample_from ..) ?_ rfl
    exact hF
  clear_value x0
  extract_lets +onlyGivenNames x1
  clear_value x1
  extract_lets +onlyGivenNames x2
  have hx2 : From 4294967810 s x2 := by
    subst x2
    with_reducible exact From.set_power hx0 _ rfl
  clear_value x2
  split
  · rename_i e3
    exact hx2
  · rename_i e4
    refine From.step (supplyTo_from ..) ?_ rfl
    exact hx2

theorem execSupplyHysteresisCrossing_from (mv : Nat) {s : State} : FromO 4294967810 s (execSupplyHysteresisCrossing mv s) := by
  unfold execSupplyHysteresisCrossing
  have hF : From 4294967810 s s := From.refl _ _
  refine FromO.next ?_
  refine From.step (supplyCrossing_from ..) ?_ rfl
  exact hF

theorem supplyRecovered_from {s : State} : From 17583327625194 s (supplyRecovered s) := by
  unfold supplyRecovered
  have hF : From 17583327625194 s s := From.refl _ _
  split
  · rename_i e0
    exact hF
  · rename_i e1
    extract_lets +onlyGivenNames x2
    clear_value x2
    extract_lets +onlyGivenNames x3
    clear_value x3
    extract_lets +onlyGivenNames x4
    have hx4 : From 17583327625194 s x4 := by
      subst x4
      refine From.step (supplyTo_from ..) ?_ rfl
      with_reducible exact From.set_power hF _ rfl
    clear_value x4
    split
    · rename_i e5
      refine From.step (subsystemResetNow_from ..) ?_ rfl
      refine From.step (sleepUndo_from ..) ?_ rfl
      refine From.step (event_from ..) ?_ rfl
      refine From.step (setV_from ..) ?_ rfl
      exact hx4
    · rename_i e6
      split
      · rename_i e7
        refine From.step (settle_from ..) ?_ rfl
        refine From.step (bump32_from ..) ?_ rfl
        refine From.step (event_from ..) ?_ rfl
        refine From.step (setV_from ..) ?_ rfl
        exact hx4
      · rename_i e8
        exact hx4

theorem execSupplyRecovered_from {s : State} : FromO 17583327625194 s (execSupplyRecovered s) := by
  unfold execSupplyRecovered
  have hF : From 17583327625194 s s := From.refl _ _
  refine FromO.next ?_
  refine From.step (supplyRecovered_from ..) ?_ rfl
  exact hF

theorem resetLevel_from {s : State} : From 16669973546754 s (resetLevel s) := by
  unfold resetLevel
  have hF : From 16669973546754 s s := From.refl _ _
  split
  · rename_i e0
    exact hF
  · rename_i e1
    extract_lets +onlyGivenNames x2
    clear_value x2
    extract_lets +onlyGivenNames x3
    have hx3 : From 16669973546754 s x3 := by
      subst x3
      split
      · rename_i e4
        refine From.step (event_from ..) ?_ rfl
        exact hF
      · rename_i e5
        exact hF
    clear_value x3
    extract_lets +onlyGivenNames x6
    have hx6 : From 16669973546754 s x6 := by
      subst x6
      refine From.step (cutUnits_from ..) ?_ rfl
      exact hx3
    clear_value x6
    extract_lets +onlyGivenNames x7
    clear_value x7
    split
    · rename_i y8 y9 y10 e11
      have h12 : From 16669973546754 s y10 := by
        refine From.snd e11 ?_
        split
        · rename_i e13
          refine From.step (freeBelow_from ..) ?_ rfl
          exact hx6
        · rename_i e14
          refine From.pair ?_
          exact hx6
      extract_lets +onlyGivenNames x15
      clear_value x15
      extract_lets +onlyGivenNames x16
      have hx16 : From 16669973546754 s x16 := by
        subst x16
        refine From.step (nandFlushStart_from ..) ?_ rfl
        refine From.step (orphanCmds_from ..) ?_ rfl
        refine From.step (abandon_from ..) ?_ rfl
        exact h12
      clear_value x16
      refine From.step (supplyTo_from ..) ?_ rfl
      refine From.upd 176093790208 (hx16) rfl rfl ?_ ?_ ?_ ?_ ?_ ?_ ?_ ?_ ?_ ?_ ?_ ?_ ?_ ?_ ?_ ?_ ?_ ?_ ?_
      all_goals with_reducible first | exact id | exact fun _ => Assoc.wf_nil | exact fun _ => From.nil_le | exact fun _ => From.sixteen | (intro w; repeat' first | exact w | exact From.nil_le | exact Assoc.wf_nil | split | apply Assoc.wf_foldl (fun m b w => Assoc.wf_put w) | apply Assoc.wf_put | apply Assoc.wf_upd | apply Assoc.wf_updD | apply Assoc.wf_del | apply Assoc.wf_keep | apply Assoc.wf_mapVal)

theorem execSupplyResetLevel_from (mv : Nat) {s : State} : FromO 16669973546754 s (execSupplyResetLevel mv s) := by
  unfold execSupplyResetLevel
  have hF : From 16669973546754 s s := From.refl _ _
  refine FromO.next ?_
  refine From.step (resetLevel_from ..) ?_ rfl
  refine From.step (supplySample_from ..) ?_ rfl
  exact hF

theorem flushEnd_from {s : State} (lost : List (Nat × Nat × Nat)) : From 17582656536554 s (flushEnd s lost) := by
  unfold flushEnd
  have hF : From 17582656536554 s s := From.refl _ _
  split
  · rename_i e0
    exact hF
  · rename_i e1
    extract_lets +onlyGivenNames x2
    clear_value x2
    extract_lets +onlyGivenNames x3
    clear_value x3
    extract_lets +onlyGivenNames x4
    have hx4 : From 17582656536554 s x4 := by
      subst x4
      refine From.step (setV_from ..) ?_ rfl
      refine From.step (setV_from ..) ?_ rfl
      exact hF
    clear_value x4
    extract_lets +onlyGivenNames x5
    subst x5
    dsimp -zeta only
    extract_lets +onlyGivenNames x6
    extract_lets +onlyGivenNames x7
    clear_value x7
    extract_lets +onlyGivenNames x8
    clear_value x8
    extract_lets +onlyGivenNames x9
    clear_value x9
    extract_lets +onlyGivenNames x10
    clear_value x10
    extract_lets +onlyGivenNames x11
    have hx11 : From 17582656536554 s x11 := by
      subst x11
      refine From.upd 2254857830656 (From.flushEnded hx4 rfl) rfl rfl ?_ ?_ ?_ ?_ ?_ ?_ ?_ ?_ ?_ ?_ ?_ ?_ ?_ ?_ ?_ ?_ ?_ ?_ ?_
      all_goals with_reducible first | exact id | exact fun _ => Assoc.wf_nil | exact fun _ => From.nil_le | exact fun _ => From.sixteen | (intro w; repeat' first | exact w | exact From.nil_le | exact Assoc.wf_nil | split | apply Assoc.wf_foldl (fun m b w => Assoc.wf_put w) | apply Assoc.wf_put | apply Assoc.wf_upd | apply Assoc.wf_updD | apply Assoc.wf_del | apply Assoc.wf_keep | apply Assoc.wf_mapVal)
    clear_value x11
    extract_lets +onlyGivenNames x12
    have hx12 : From 17582656536554 s x12 := by
      subst x12
      refine From.step (supplyTo_from ..) ?_ rfl
      exact hx11
    clear_value x12
    split
    · rename_i e13
      extract_lets +onlyGivenNames x14
      clear_value x14
      extract_lets +onlyGivenNames x15
      have hx15 : From 17582656536554 s x15 := by
        subst x15
        with_reducible exact From.set_power hx12 _ rfl
      clear_value x15
      refine From.step (afterFlushReset_from ..) ?_ rfl
      split
      · rename_i e16
        refine From.step (supplyTo_from ..) ?_ rfl
        exact hx15
      · rename_i e17
        exact hx15
    · rename_i e18
      extract_lets +onlyGivenNames x19
      clear_value x19
      refine From.foldl ?_ ?_ _
      · with_reducible exact From.set_power hx12 _ rfl
      · intro a20 a21 a22
        split
        · rename_i y23 e24
          refine From.step (flr_from ..) ?_ rfl
          exact a22
        · rename_i y25 e26
          refine From.step (dropTransfers_from ..) ?_ rfl
          refine From.step (resetController_from ..) ?_ rfl
          refine From.step (tally_from ..) ?_ rfl
          exact a22
        · rename_i y27 e28
          refine From.step (resetLink_from ..) ?_ rfl
          refine From.step (resetPortFns_from ..) ?_ rfl
          exact a22
        · rename_i y29 e30 e31 e32
          refine From.step (resetLink_from ..) ?_ rfl
          refine From.step (resetPortFns_from ..) ?_ rfl
          exact a22

theorem execFlushEnd_from (lost : List (Nat × Nat × Nat)) {s : State} : FromO 17583327625194 s (execFlushEnd lost s) := by
  unfold execFlushEnd
  have hF : From 17583327625194 s s := From.refl _ _
  refine FromO.next ?_
  refine From.step (settle_from ..) ?_ rfl
  refine From.step (flushEnd_from ..) ?_ rfl
  exact hF

theorem railFaultAt_from {s : State} (rail : Nat) : From 16669973546754 s (railFaultAt s rail) := by
  unfold railFaultAt
  have hF : From 16669973546754 s s := From.refl _ _
  extract_lets +onlyGivenNames x0
  have hx0 : From 16669973546754 s x0 := by
    subst x0
    refine From.step (resetLevel_from ..) ?_ rfl
    refine From.step (event_from ..) ?_ rfl
    exact hF
  clear_value x0
  with_reducible exact From.set_power hx0 _ rfl

theorem powerGood_from {s : State} (step : Nat) : From 4294967298 s (powerGood s step) := by
  unfold powerGood
  have hF : From 4294967298 s s := From.refl _ _
  split
  · rename_i e0
    extract_lets +onlyGivenNames x1
    clear_value x1
    extract_lets +onlyGivenNames x2
    have hx2 : From 4294967298 s x2 := by
      subst x2
      with_reducible exact From.set_power hF _ rfl
    clear_value x2
    split
    · rename_i e3
      refine From.foldl ?_ ?_ _
      · with_reducible exact From.set_power hx2 _ rfl
      · intro a4 a5 a6
        refine From.step (setV_from ..) ?_ rfl
        exact a6
    · rename_i e7
      exact hx2
  · rename_i e8
    exact hF

theorem execPowerGood_from (step : Nat) {s : State} : FromO 4294967298 s (execPowerGood step s) := by
  unfold execPowerGood
  have hF : From 4294967298 s s := From.refl _ _
  refine FromO.next ?_
  refine From.step (powerGood_from ..) ?_ rfl
  exact hF

theorem powerGoodTimeout_from {s : State} (step : Nat) : From 16669973546754 s (powerGoodTimeout s step) := by
  unfold powerGoodTimeout
  have hF : From 16669973546754 s s := From.refl _ _
  split
  · rename_i e0
    refine From.step (railFaultAt_from ..) ?_ rfl
    exact hF
  · rename_i e1
    exact hF

theorem execPowerGoodTimeout_from (step : Nat) {s : State} : FromO 16669973546754 s (execPowerGoodTimeout step s) := by
  unfold execPowerGoodTimeout
  have hF : From 16669973546754 s s := From.refl _ _
  refine FromO.next ?_
  refine From.step (powerGoodTimeout_from ..) ?_ rfl
  exact hF

theorem powerGoodFall_from {s : State} (step : Nat) : From 16669973546754 s (powerGoodFall s step) := by
  unfold powerGoodFall
  have hF : From 16669973546754 s s := From.refl _ _
  split
  · rename_i e0
    refine From.step (railFaultAt_from ..) ?_ rfl
    exact hF
  · rename_i e1
    exact hF

theorem execPowerGoodFall_from (step : Nat) {s : State} : FromO 16669973546754 s (execPowerGoodFall step s) := by
  unfold execPowerGoodFall
  have hF : From 16669973546754 s s := From.refl _ _
  refine FromO.next ?_
  refine From.step (powerGoodFall_from ..) ?_ rfl
  exact hF

theorem avsbusTimeout_from {s : State} (rail : Nat) : From 16669973546754 s (avsbusTimeout s rail) := by
  unfold avsbusTimeout
  have hF : From 16669973546754 s s := From.refl _ _
  split
  · rename_i e0
    refine From.step (railFaultAt_from ..) ?_ rfl
    exact hF
  · rename_i e1
    exact hF

theorem execAvsbusTimeout_from (rail : Nat) {s : State} : FromO 16669973546754 s (execAvsbusTimeout rail s) := by
  unfold execAvsbusTimeout
  have hF : From 16669973546754 s s := From.refl _ _
  refine FromO.next ?_
  refine From.step (avsbusTimeout_from ..) ?_ rfl
  exact hF

theorem ebbIdle_from {s : State} : From 4294967296 s (ebbIdle s) := by
  unfold ebbIdle
  have hF : From 4294967296 s s := From.refl _ _
  split
  · rename_i e0
    with_reducible exact From.set_power hF _ rfl
  · rename_i e1
    exact hF

theorem execEbbIdle_from {s : State} : FromO 4294967296 s (execEbbIdle s) := by
  unfold execEbbIdle
  have hF : From 4294967296 s s := From.refl _ _
  refine FromO.next ?_
  refine From.step (ebbIdle_from ..) ?_ rfl
  exact hF

theorem ebbExit_from {s : State} : From 4294980098 s (ebbExit s) := by
  unfold ebbExit
  have hF : From 4294980098 s s := From.refl _ _
  split
  · rename_i e0
    extract_lets +onlyGivenNames x1
    extract_lets +onlyGivenNames x2
    clear_value x2
    extract_lets +onlyGivenNames x3
    have hx3 : From 4294980098 s x3 := by
      subst x3
      refine From.step (powerTrace_from ..) ?_ rfl
      with_reducible exact From.set_power hF _ rfl
    clear_value x3
    split
    · rename_i e4
      refine From.step (ltrAll_from ..) ?_ rfl
      exact hx3
    · rename_i e5
      exact hx3
  · rename_i e6
    exact hF

theorem ebbBoundary_from {s : State} : From 4294980098 s (ebbBoundary s) := by
  unfold ebbBoundary
  have hF : From 4294980098 s s := From.refl _ _
  extract_lets +onlyGivenNames x0
  clear_value x0
  split
  · rename_i e1
    refine From.step (ltrAll_from ..) ?_ rfl
    refine From.step (powerTrace_from ..) ?_ rfl
    with_reducible exact From.set_power hF _ rfl
  · rename_i e2
    split
    · rename_i e3
      refine From.step (ltrAll_from ..) ?_ rfl
      refine From.step (powerTrace_from ..) ?_ rfl
      with_reducible exact From.set_power hF _ rfl
    · rename_i e4
      exact hF

theorem fetchGrant_from {s : State} (e : SqEntry) : From 15433696425730 s (fetchGrant s e) := by
  unfold fetchGrant
  have hF : From 15433696425730 s s := From.refl _ _
  extract_lets +onlyGivenNames x0
  have hx0 : From 15433696425730 s x0 := by
    subst x0
    refine From.step (arbitrate_from ..) ?_ rfl
    exact hF
  clear_value x0
  refine From.step (settle_from ..) ?_ rfl
  split
  · rename_i e1
    exact hx0
  · rename_i e2
    refine From.step (ebbExit_from ..) ?_ rfl
    exact hx0

theorem execFetchGrant_from (e : SqEntry) {s : State} : FromO 15433696425730 s (execFetchGrant e s) := by
  unfold execFetchGrant
  have hF : From 15433696425730 s s := From.refl _ _
  refine FromO.next ?_
  refine From.step (fetchGrant_from ..) ?_ rfl
  exact hF

theorem noteWake_from {s : State} (source : Nat) : From 258 s (noteWake s source) := by
  unfold noteWake
  have hF : From 258 s s := From.refl _ _
  refine From.step (event_from ..) ?_ rfl
  refine From.step (setV_from ..) ?_ rfl
  refine From.step (setV_from ..) ?_ rfl
  exact hF

theorem wakeNow_from {s : State} (source : Nat) : From 4556960314114 s (wakeNow s source) := by
  unfold wakeNow
  have hF : From 4556960314114 s s := From.refl _ _
  split
  · rename_i e0
    refine From.step (noteWake_from ..) ?_ rfl
    refine From.step (sleepUndo_from ..) ?_ rfl
    exact hF
  · rename_i e1
    split
    · rename_i e2
      extract_lets +onlyGivenNames x3
      clear_value x3
      extract_lets +onlyGivenNames x4
      clear_value x4
      extract_lets +onlyGivenNames x5
      clear_value x5
      extract_lets +onlyGivenNames x6
      have hx6 : From 4556960314114 s x6 := by
        subst x6
        refine From.step (powerTrace_from ..) ?_ rfl
        exact From.same 158913789952 hF (by with_reducible rfl) rfl rfl
      clear_value x6
      extract_lets +onlyGivenNames x7
      have hx7 : From 4556960314114 s x7 := by
        subst x7
        refine From.foldl ?_ ?_ _
        · exact hx6
        · intro a8 a9 a10
          refine From.step (setV_from ..) ?_ rfl
          exact a10
      clear_value x7
      extract_lets +onlyGivenNames x11
      have hx11 : From 4556960314114 s x11 := by
        subst x11
        refine From.foldl ?_ ?_ _
        · exact hx7
        · intro a12 a13 a14
          refine From.step (setV_from ..) ?_ rfl
          exact a14
      clear_value x11
      refine From.step (noteWake_from ..) ?_ rfl
      refine From.step (ltrAll_from ..) ?_ rfl
      exact hx11
    · rename_i e15
      exact hF

theorem wake_from {s : State} (source : Nat) : From 15588314986242 s (wake s source) := by
  unfold wake
  have hF : From 15588314986242 s s := From.refl _ _
  split
  · rename_i e0
    refine From.step (settle_from ..) ?_ rfl
    refine From.step (wakeNow_from ..) ?_ rfl
    exact hF
  · rename_i e1
    exact hF

theorem execWake_from (source : Nat) {s : State} : FromO 15588314986242 s (execWake source s) := by
  unfold execWake
  have hF : From 15588314986242 s s := From.refl _ _
  refine FromO.next ?_
  refine From.step (wake_from ..) ?_ rfl
  exact hF

theorem sqTailDoorbell_from {s : State} (fn qid value : Nat) : From 4558103131906 s (sqTailDoorbell s fn qid value) := by
  unfold sqTailDoorbell
  have hF : From 4558103131906 s s := From.refl _ _
  extract_lets +onlyGivenNames x0
  have hx0 : From 4558103131906 s x0 := by
    subst x0
    refine From.step (sqTail_from ..) ?_ rfl
    exact hF
  clear_value x0
  split
  · rename_i e1
    refine From.step (wakeNow_from ..) ?_ rfl
    exact hx0
  · rename_i e2
    exact hx0

theorem execSqTailDoorbell_from (fn qid value : Nat) {s : State} : FromO 4558103131906 s (execSqTailDoorbell fn qid value s) := by
  unfold execSqTailDoorbell
  have hF : From 4558103131906 s s := From.refl _ _
  refine FromO.next ?_
  refine From.step (sqTailDoorbell_from ..) ?_ rfl
  exact hF

theorem linkL1Exit_from {s : State} (p : Nat) : From 4556960379650 s (linkL1Exit s p) := by
  unfold linkL1Exit
  have hF : From 4556960379650 s s := From.refl _ _
  extract_lets +onlyGivenNames x0
  clear_value x0
  split
  · rename_i e1
    exact hF
  · rename_i e2
    extract_lets +onlyGivenNames x3
    have hx3 : From 4556960379650 s x3 := by
      subst x3
      refine From.step (modPort_from ..) ?_ rfl
      exact hF
    clear_value x3
    extract_lets +onlyGivenNames x4
    have hx4 : From 4556960379650 s x4 := by
      subst x4
      split
      · rename_i e5
        refine From.step (ltrSend_from ..) ?_ rfl
        exact hx3
      · rename_i e6
        exact hx3
    clear_value x4
    extract_lets +onlyGivenNames x7
    have hx7 : From 4556960379650 s x7 := by
      subst x7
      refine From.step (driveWake_from ..) ?_ rfl
      exact hx4
    clear_value x7
    split
    · rename_i e8
      refine From.step (wakeNow_from ..) ?_ rfl
      exact hx7
    · rename_i e9
      exact hx7

theorem execLinkL1Exit_from (port : Nat) {s : State} : FromO 15588315051778 s (execLinkL1Exit port s) := by
  unfold execLinkL1Exit
  have hF : From 15588315051778 s s := From.refl _ _
  refine FromO.next ?_
  refine From.step (settle_from ..) ?_ rfl
  refine From.step (linkL1Exit_from ..) ?_ rfl
  exact hF

theorem sleepProgress_from {s : State} : From 4402341478400 s (sleepProgress s) := by
  unfold sleepProgress
  have hF : From 4402341478400 s s := From.refl _ _
  split
  · rename_i y0 y1 e2
    split
    · rename_i e3
      extract_lets +onlyGivenNames x4
      clear_value x4
      extract_lets +onlyGivenNames x5
      have hx5 : From 4402341478400 s x5 := by
        subst x5
        with_reducible exact From.set_power hF _ rfl
      clear_value x5
      split
      · rename_i e6
        extract_lets +onlyGivenNames x7
        have hx7 : From 4402341478400 s x7 := by
          subst x7
          refine From.step (mirrorSend_from ..) ?_ rfl
          exact hx5
        clear_value x7
        with_reducible exact From.set_pair hx7 _ rfl
      · rename_i e8
        with_reducible exact From.set_power hx5 _ rfl
    · rename_i e9
      exact hF
  · rename_i y10 e11
    exact hF

theorem sleepRequest_from {s : State} (target : Nat) : From 4402341478402 s (sleepRequest s target) := by
  unfold sleepRequest
  have hF : From 4402341478402 s s := From.refl _ _
  split
  · rename_i e0
    exact hF
  · rename_i e1
    split
    · rename_i e2
      refine From.step (setV_from ..) ?_ rfl
      exact hF
    · rename_i e3
      refine From.step (sleepProgress_from ..) ?_ rfl
      with_reducible exact From.set_power hF _ rfl

theorem execPowerRequestSleep_from (a : Access) (x : Nat) {s : State} : FromO 4403618252354 s (execPowerRequestSleep a x s) := by
  unfold execPowerRequestSleep
  have hF : From 4403618252354 s s := From.refl _ _
  refine FromO.next ?_
  apply accessWrite_from
  · exact hF
  · intro a0 a1
    refine From.pair ?_
    split
    · rename_i e2
      refine From.step (sleepRequest_from ..) ?_ rfl
      exact From.refl _ _
    · rename_i e3
      exact From.refl _ _
  · rfl

theorem execPowerRequestWake_from (a : Access) {s : State} : FromO 15588314986306 s (execPowerRequestWake a s) := by
  unfold execPowerRequestWake
  have hF : From 15588314986306 s s := From.refl _ _
  refine FromO.next ?_
  apply accessWrite_from
  · exact hF
  · intro a0 a1
    refine From.pair ?_
    split
    · rename_i e2
      refine From.step (wake_from ..) ?_ rfl
      exact From.refl _ _
    · rename_i e3
      exact From.refl _ _
  · rfl

theorem sleepCommit_from {s0 : State} : From 4591320052290 s0 (sleepCommit s0) := by
  unfold sleepCommit
  have hF : From 4591320052290 s0 s0 := From.refl _ _
  extract_lets +onlyGivenNames x0
  have hx0 : From 4591320052290 s0 x0 := by
    subst x0
    refine From.step (sleepProgress_from ..) ?_ rfl
    exact hF
  clear_value x0
  split
  · rename_i y1 y2 e3
    split
    · rename_i e4
      extract_lets +onlyGivenNames x5
      extract_lets +onlyGivenNames x6
      have hx6 : From 4591320052290 s0 x6 := by
        subst x6
        refine From.step (dramDrain_from ..) ?_ rfl
        exact hx0
      clear_value x6
      extract_lets +onlyGivenNames x7
      clear_value x7
      extract_lets +onlyGivenNames x8
      clear_value x8
      extract_lets +onlyGivenNames x9
      clear_value x9
      extract_lets +onlyGivenNames x10
      clear_value x10
      extract_lets +onlyGivenNames x11
      clear_value x11
      extract_lets +onlyGivenNames x12
      clear_value x12
      extract_lets +onlyGivenNames x13
      have hx13 : From 4591320052290 s0 x13 := by
        subst x13
        refine From.step (powerTrace_from ..) ?_ rfl
        exact From.same 4591320039488 hx6 (by with_reducible rfl) rfl rfl
      clear_value x13
      extract_lets +onlyGivenNames x14
      extract_lets +onlyGivenNames x15
      have hx15 : From 4591320052290 s0 x15 := by
        subst x15
        split
        · rename_i e16
          refine From.upd 512 (hx13) rfl rfl ?_ ?_ ?_ ?_ ?_ ?_ ?_ ?_ ?_ ?_ ?_ ?_ ?_ ?_ ?_ ?_ ?_ ?_ ?_
          all_goals with_reducible first | exact id | exact fun _ => Assoc.wf_nil | exact fun _ => From.nil_le | exact fun _ => From.sixteen | (intro w; repeat' first | exact w | exact From.nil_le | exact Assoc.wf_nil | split | apply Assoc.wf_foldl (fun m b w => Assoc.wf_put w) | apply Assoc.wf_put | apply Assoc.wf_upd | apply Assoc.wf_updD | apply Assoc.wf_del | apply Assoc.wf_keep | apply Assoc.wf_mapVal)
        · rename_i e17
          exact hx13
      clear_value x15
      extract_lets +onlyGivenNames x18
      have hx18 : From 4591320052290 s0 x18 := by
        subst x18
        refine From.foldl ?_ ?_ _
        · exact hx15
        · intro a19 a20 a21
          refine From.step (setV_from ..) ?_ rfl
          exact a21
      clear_value x18
      extract_lets +onlyGivenNames x22
      have hx22 : From 4591320052290 s0 x22 := by
        subst x22
        split
        · rename_i e23
          exact hx18
        · rename_i e24
          refine From.step (setV_from ..) ?_ rfl
          exact hx18
      clear_value x22
      refine From.step (ltrAll_from ..) ?_ rfl
      refine From.step (setV_from ..) ?_ rfl
      exact hx22
    · rename_i e25
      exact hx0
  · rename_i y26 e27
    exact hx0

theorem execSleepCommit_from {s : State} : FromO 4591320052290 s (execSleepCommit s) := by
  unfold execSleepCommit
  have hF : From 4591320052290 s s := From.refl _ _
  refine FromO.next ?_
  refine From.step (sleepCommit_from ..) ?_ rfl
  exact hF

theorem holdupCharge_from {s : State} (mv : Nat) : From 4294967298 s (holdupCharge s mv) := by
  unfold holdupCharge
  have hF : From 4294967298 s s := From.refl _ _
  extract_lets +onlyGivenNames x0
  have hx0 : From 4294967298 s x0 := by
    subst x0
    refine From.step (setV_from ..) ?_ rfl
    exact hF
  clear_value x0
  extract_lets +onlyGivenNames x1
  clear_value x1
  split
  · rename_i e2
    with_reducible exact From.set_power hx0 _ rfl
  · rename_i e3
    split
    · rename_i e4
      with_reducible exact From.set_power hx0 _ rfl
    · rename_i e5
      exact hx0

theorem execHoldupCharge_from (mv : Nat) {s : State} : FromO 4294967298 s (execHoldupCharge mv s) := by
  unfold execHoldupCharge
  have hF : From 4294967298 s s := From.refl _ _
  refine FromO.next ?_
  refine From.step (holdupCharge_from ..) ?_ rfl
  exact hF

theorem applyEnergy_from {s : State} (mJ failCode : Nat) : From 15433696151298 s (applyEnergy s mJ failCode) := by
  unfold applyEnergy
  have hF : From 15433696151298 s s := From.refl _ _
  extract_lets +onlyGivenNames x0
  clear_value x0
  extract_lets +onlyGivenNames x1
  clear_value x1
  extract_lets +onlyGivenNames x2
  clear_value x2
  extract_lets +onlyGivenNames x3
  have hx3 : From 15433696151298 s x3 := by
    subst x3
    with_reducible exact From.set_power hF _ rfl
  clear_value x3
  extract_lets +onlyGivenNames x4
  have hx4 : From 15433696151298 s x4 := by
    subst x4
    refine From.step (setV_from ..) ?_ rfl
    refine From.step (setV_from ..) ?_ rfl
    refine From.step (setV_from ..) ?_ rfl
    exact hx3
  clear_value x4
  split
  · rename_i e5
    refine From.step (settle_from ..) ?_ rfl
    refine From.step (setV_from ..) ?_ rfl
    with_reducible exact From.set_power hx4 _ rfl
  · rename_i e6
    split
    · rename_i e7
      with_reducible exact From.set_power hx4 _ rfl
    · rename_i e8
      extract_lets +onlyGivenNames x9
      clear_value x9
      extract_lets +onlyGivenNames x10
      have hx10 : From 15433696151298 s x10 := by
        subst x10
        refine From.step (event_from ..) ?_ rfl
        refine From.step (setV_from ..) ?_ rfl
        with_reducible exact From.set_power hx4 _ rfl
      clear_value x10
      split
      · rename_i e11
        refine From.step (event_from ..) ?_ rfl
        exact hx10
      · rename_i e12
        exact hx10

theorem holdupChargeTimeout_from {s : State} : From 15433696151298 s (holdupChargeTimeout s) := by
  unfold holdupChargeTimeout
  have hF : From 15433696151298 s s := From.refl _ _
  split
  · rename_i e0
    exact hF
  · rename_i e1
    refine From.step (applyEnergy_from ..) ?_ rfl
    refine From.step (event_from ..) ?_ rfl
    exact hF

theorem execHoldupChargeTimeout_from {s : State} : FromO 15433696151298 s (execHoldupChargeTimeout s) := by
  unfold execHoldupChargeTimeout
  have hF : From 15433696151298 s s := From.refl _ _
  refine FromO.next ?_
  refine From.step (holdupChargeTimeout_from ..) ?_ rfl
  exact hF

theorem holdupTest_from {s : State} (v1 : Nat) : From 4294967298 s (holdupTest s v1) := by
  unfold holdupTest
  have hF : From 4294967298 s s := From.refl _ _
  split
  · rename_i e0
    refine From.step (setV_from ..) ?_ rfl
    with_reducible exact From.set_power hF _ rfl
  · rename_i e1
    exact hF

theorem execHoldupTest_from (v1 : Nat) {s : State} : FromO 4294967298 s (execHoldupTest v1 s) := by
  unfold execHoldupTest
  have hF : From 4294967298 s s := From.refl _ _
  refine FromO.next ?_
  refine From.step (holdupTest_from ..) ?_ rfl
  exact hF

theorem holdupTestSample_from {s : State} (v2 : Nat) : From 15433696151298 s (holdupTestSample s v2) := by
  unfold holdupTestSample
  have hF : From 15433696151298 s s := From.refl _ _
  split
  · rename_i e0
    extract_lets +onlyGivenNames x1
    clear_value x1
    extract_lets +onlyGivenNames x2
    clear_value x2
    extract_lets +onlyGivenNames x3
    have hx3 : From 15433696151298 s x3 := by
      subst x3
      refine From.step (setV_from ..) ?_ rfl
      with_reducible exact From.set_power hF _ rfl
    clear_value x3
    extract_lets +onlyGivenNames x4
    have hx4 : From 15433696151298 s x4 := by
      subst x4
      refine From.step (setV_from ..) ?_ rfl
      exact hx3
    clear_value x4
    refine From.step (applyEnergy_from ..) ?_ rfl
    exact hx4
  · rename_i e5
    exact hF

theorem execHoldupTestSample_from (v2 : Nat) {s : State} : FromO 15433696151298 s (execHoldupTestSample v2 s) := by
  unfold execHoldupTestSample
  have hF : From 15433696151298 s s := From.refl _ _
  refine FromO.next ?_
  refine From.step (holdupTestSample_from ..) ?_ rfl
  exact hF

theorem atRiskRecompute_from {s : State} (mv : Nat) : From 15429401184002 s (atRiskRecompute s mv) := by
  unfold atRiskRecompute
  have hF : From 15429401184002 s s := From.refl _ _
  split
  · rename_i e0
    extract_lets +onlyGivenNames x1
    have hx1 : From 15429401184002 s x1 := by
      subst x1
      refine From.step (setV_from ..) ?_ rfl
      exact hF
    clear_value x1
    refine From.step (settle_from ..) ?_ rfl
    refine From.step (setV_from ..) ?_ rfl
    exact hx1
  · rename_i e2
    exact hF

theorem execAtRiskRecompute_from (mv : Nat) {s : State} : FromO 15429401184002 s (execAtRiskRecompute mv s) := by
  unfold execAtRiskRecompute
  have hF : From 15429401184002 s s := From.refl _ _
  refine FromO.next ?_
  refine From.step (atRiskRecompute_from ..) ?_ rfl
  exact hF

theorem execHuTestNow_from (a : Access) (x : Nat) {s : State} : FromO 5571741250 s (execHuTestNow a x s) := by
  unfold execHuTestNow
  have hF : From 5571741250 s s := From.refl _ _
  refine FromO.next ?_
  apply accessWrite_from
  · exact hF
  · intro a0 a1
    split
    · rename_i e2
      refine From.pair ?_
      exact From.refl _ _
    · rename_i e3
      refine From.pair ?_
      exact From.same 4294967296 (From.refl _ _) (by with_reducible rfl) rfl rfl
  · rfl

theorem perstAssert_from {s : State} (p : Nat) : From 17239059150818 s (perstAssert s p) := by
  unfold perstAssert
  have hF : From 17239059150818 s s := From.refl _ _
  split
  · rename_i e0
    exact hF
  · rename_i e1
    extract_lets +onlyGivenNames x2
    have hx2 : From 17239059150818 s x2 := by
      subst x2
      refine From.step (sleepUndo_from ..) ?_ rfl
      exact hF
    clear_value x2
    extract_lets +onlyGivenNames x3
    have hx3 : From 17239059150818 s x3 := by
      subst x3
      split
      · rename_i e4
        refine From.step (wakeNow_from ..) ?_ rfl
        exact hx2
      · rename_i e5
        exact hx2
    clear_value x3
    refine From.step (resetLink_from ..) ?_ rfl
    refine From.step (resetPortFns_from ..) ?_ rfl
    refine From.step (tally_from ..) ?_ rfl
    exact hx3

theorem execPerstAssert_from (port : Nat) {s : State} : FromO 17239730239458 s (execPerstAssert port s) := by
  unfold execPerstAssert
  have hF : From 17239730239458 s s := From.refl _ _
  refine FromO.next ?_
  refine From.step (settle_from ..) ?_ rfl
  refine From.step (perstAssert_from ..) ?_ rfl
  exact hF

theorem hotReset_from {s : State} (p : Nat) (down : Bool) : From 17084440328162 s (hotReset s p down) := by
  unfold hotReset
  have hF : From 17084440328162 s s := From.refl _ _
  split
  · rename_i e0
    exact hF
  · rename_i e1
    split
    · rename_i e2
      with_reducible exact From.set_power hF _ rfl
    · rename_i e3
      refine From.step (resetLink_from ..) ?_ rfl
      refine From.step (resetPortFns_from ..) ?_ rfl
      refine From.step (sleepUndo_from ..) ?_ rfl
      exact hF

theorem execHotReset_from (port : Nat) (down : Bool) {s : State} : FromO 17085111416802 s (execHotReset port down s) := by
  unfold execHotReset
  have hF : From 17085111416802 s s := From.refl _ _
  refine FromO.next ?_
  refine From.step (settle_from ..) ?_ rfl
  refine From.step (hotReset_from ..) ?_ rfl
  exact hF

theorem functionLevelReset_from {s : State} (fn : Nat) : From 17084440262626 s (functionLevelReset s fn) := by
  unfold functionLevelReset
  have hF : From 17084440262626 s s := From.refl _ _
  split
  · rename_i e0
    exact hF
  · rename_i e1
    split
    · rename_i e2
      with_reducible exact From.set_power hF _ rfl
    · rename_i e3
      refine From.step (flr_from ..) ?_ rfl
      refine From.step (sleepUndo_from ..) ?_ rfl
      exact hF

theorem execFunctionLevelReset_from (fn : Nat) {s : State} : FromO 17085111351266 s (execFunctionLevelReset fn s) := by
  unfold execFunctionLevelReset
  have hF : From 17085111351266 s s := From.refl _ _
  refine FromO.next ?_
  refine From.step (settle_from ..) ?_ rfl
  refine From.step (functionLevelReset_from ..) ?_ rfl
  exact hF

theorem controllerReset_from {s : State} (fn : Nat) : From 17082292766690 s (controllerReset s fn) := by
  unfold controllerReset
  have hF : From 17082292766690 s s := From.refl _ _
  split
  · rename_i e0
    exact hF
  · rename_i e1
    split
    · rename_i e2
      with_reducible exact From.set_power hF _ rfl
    · rename_i e3
      refine From.step (dropTransfers_from ..) ?_ rfl
      refine From.step (resetController_from ..) ?_ rfl
      refine From.step (tally_from ..) ?_ rfl
      exact hF

theorem execControllerReset_from (fn : Nat) {s : State} : FromO 17082963855330 s (execControllerReset fn s) := by
  unfold execControllerReset
  have hF : From 17082963855330 s s := From.refl _ _
  refine FromO.next ?_
  refine From.step (settle_from ..) ?_ rfl
  refine From.step (controllerReset_from ..) ?_ rfl
  exact hF

theorem execControllerReady_from (fn : Nat) {s : State} : FromO 1099511758848 s (execControllerReady fn s) := by
  unfold execControllerReady
  have hF : From 1099511758848 s s := From.refl _ _
  refine FromO.next ?_
  split
  · rename_i e0
    refine From.step (modInst_from ..) ?_ rfl
    with_reducible exact From.set_boot hF _ rfl
  · rename_i e1
    exact hF

theorem ccShutdown_from {s : State} (fn shn : Nat) : From 2234533938946 s (ccShutdown s fn shn) := by
  unfold ccShutdown
  have hF : From 2234533938946 s s := From.refl _ _
  split
  · rename_i e0
    exact hF
  · rename_i e1
    extract_lets +onlyGivenNames x2
    have hx2 : From 2234533938946 s x2 := by
      subst x2
      refine From.step (modInst_from ..) ?_ rfl
      exact hF
    clear_value x2
    split
    · rename_i e3
      refine From.step (cutUnits_from ..) ?_ rfl
      exact hx2
    · rename_i e4
      exact hx2

theorem execCcShutdown_from (fn shn : Nat) {s : State} : FromO 15429401184002 s (execCcShutdown fn shn s) := by
  unfold execCcShutdown
  have hF : From 15429401184002 s s := From.refl _ _
  refine FromO.next ?_
  refine From.step (settle_from ..) ?_ rfl
  refine From.step (ccShutdown_from ..) ?_ rfl
  exact hF

theorem vfEnable_from {s : State} (pf numVfs : Nat) (enable : Bool) : From 17080145295346 s (vfEnable s pf numVfs enable) := by
  unfold vfEnable
  have hF : From 17080145295346 s s := From.refl _ _
  split
  · rename_i e0
    exact hF
  · rename_i e1
    extract_lets +onlyGivenNames x2
    clear_value x2
    extract_lets +onlyGivenNames x3
    clear_value x3
    extract_lets +onlyGivenNames x4
    clear_value x4
    extract_lets +onlyGivenNames x5
    have hx5 : From 17080145295346 s x5 := by
      subst x5
      refine From.step (modPort_from ..) ?_ rfl
      exact hF
    clear_value x5
    extract_lets +onlyGivenNames x6
    clear_value x6
    extract_lets +onlyGivenNames x7
    clear_value x7
    extract_lets +onlyGivenNames x8
    clear_value x8
    extract_lets +onlyGivenNames x9
    have hx9 : From 17080145295346 s x9 := by
      subst x9
      refine From.foldl ?_ ?_ _
      · exact hF
      · intro a10 a11 a12
        refine From.step (resetFunction_from ..) ?_ rfl
        exact a12
    clear_value x9
    extract_lets +onlyGivenNames x13
    have hx13 : From 17080145295346 s x13 := by
      subst x13
      refine From.step (vfsAbsent_from ..) ?_ rfl
      exact hx9
    clear_value x13
    extract_lets +onlyGivenNames x14
    have hx14 : From 17080145295346 s x14 := by
      subst x14
      refine From.step (modPort_from ..) ?_ rfl
      exact hx13
    clear_value x14
    refine From.foldl ?_ ?_ _
    · exact hx14
    · intro a15 a16 a17
      split
      · rename_i e18
        refine From.step (instStateTo_from ..) ?_ rfl
        refine From.step (stageAt_from ..) ?_ rfl
        exact a17
      · rename_i e19
        exact a17

theorem execVfEnable_from (pf numVfs : Nat) (enable : Bool) {s : State} : FromO 17080816383986 s (execVfEnable pf numVfs enable s) := by
  unfold execVfEnable
  have hF : From 17080816383986 s s := From.refl _ _
  refine FromO.next ?_
  refine From.step (settle_from ..) ?_ rfl
  refine From.step (vfEnable_from ..) ?_ rfl
  exact hF

theorem reclaimFinished_from {s : State} (n : Nat) : From 17077997799394 s (reclaimFinished s n) := by
  unfold reclaimFinished
  have hF : From 17077997799394 s s := From.refl _ _
  split
  · rename_i e0
    exact hF
  · rename_i e1
    extract_lets +onlyGivenNames x2
    have hx2 : From 17077997799394 s x2 := by
      subst x2
      refine From.step (closeSession_from ..) ?_ rfl
      refine From.step (resetController_from ..) ?_ rfl
      refine From.step (tally_from ..) ?_ rfl
      exact hF
    clear_value x2
    extract_lets +onlyGivenNames x3
    have hx3 : From 17077997799394 s x3 := by
      subst x3
      refine From.step (clearEntries_from ..) ?_ rfl
      exact hx2
    clear_value x3
    extract_lets +onlyGivenNames x4
    clear_value x4
    extract_lets +onlyGivenNames x5
    have hx5 : From 17077997799394 s x5 := by
      subst x5
      refine From.upd 4194466 (hx3) rfl rfl ?_ ?_ ?_ ?_ ?_ ?_ ?_ ?_ ?_ ?_ ?_ ?_ ?_ ?_ ?_ ?_ ?_ ?_ ?_
      all_goals with_reducible first | exact id | exact fun _ => Assoc.wf_nil | exact fun _ => From.nil_le | exact fun _ => From.sixteen | (intro w; repeat' first | exact w | exact From.nil_le | exact Assoc.wf_nil | split | apply Assoc.wf_foldl (fun m b w => Assoc.wf_put w) | apply Assoc.wf_put | apply Assoc.wf_upd | apply Assoc.wf_updD | apply Assoc.wf_del | apply Assoc.wf_keep | apply Assoc.wf_mapVal)
    clear_value x5
    extract_lets +onlyGivenNames x6
    clear_value x6
    extract_lets +onlyGivenNames x7
    have hx7 : From 17077997799394 s x7 := by
      subst x7
      refine From.step (lossPrune_from ..) ?_ rfl
      refine From.step (modInst_from ..) ?_ rfl
      exact hx5
    clear_value x7
    refine From.step (instStateTo_from ..) ?_ rfl
    exact hx7

theorem execReclaimFinished_from (n : Nat) {s : State} : FromO 17078668888034 s (execReclaimFinished n s) := by
  unfold execReclaimFinished
  have hF : From 17078668888034 s s := From.refl _ _
  refine FromO.next ?_
  refine From.step (settle_from ..) ?_ rfl
  refine From.step (reclaimFinished_from ..) ?_ rfl
  exact hF

theorem nvmSubsystemReset_from {s : State} : From 17582656536554 s (nvmSubsystemReset s) := by
  unfold nvmSubsystemReset
  have hF : From 17582656536554 s s := From.refl _ _
  split
  · rename_i e0
    refine From.step (resetWithFlush_from ..) ?_ rfl
    exact hF
  · rename_i e1
    split
    · rename_i e2
      with_reducible exact From.set_power hF _ rfl
    · rename_i e3
      refine From.step (subsystemResetNow_from ..) ?_ rfl
      refine From.step (sleepUndo_from ..) ?_ rfl
      exact hF

theorem execNvmSubsystemReset_from {s : State} : FromO 17583327625194 s (execNvmSubsystemReset s) := by
  unfold execNvmSubsystemReset
  have hF : From 17583327625194 s s := From.refl _ _
  refine FromO.next ?_
  refine From.step (settle_from ..) ?_ rfl
  refine From.step (nvmSubsystemReset_from ..) ?_ rfl
  exact hF

theorem managementReset_from {s : State} (a : Access) : From 17582790754154 s (managementReset s a) := by
  unfold managementReset
  have hF : From 17582790754154 s s := From.refl _ _
  extract_lets +onlyGivenNames x0
  have hx0 : From 17582790754154 s x0 := by
    subst x0
    apply accessWrite_from
    · exact hF
    · intro a1 a2
      refine From.pair ?_
      exact From.refl _ _
    · rfl
  clear_value x0
  split
  · rename_i y3 y4 e5
    refine From.step (resetWithFlush_from ..) ?_ rfl
    exact hx0
  · rename_i y6 y7 e8
    exact hx0

theorem execManagementReset_from (a : Access) {s : State} : FromO 17583327625066 s (execManagementReset a s) := by
  unfold execManagementReset
  have hF : From 17583327625066 s s := From.refl _ _
  refine FromO.next ?_
  refine From.step (settle_from ..) ?_ rfl
  refine From.step (managementReset_from ..) ?_ rfl
  exact hF

theorem execWatchdogKick_from (kicker : Nat) {s : State} : FromO 17179869184 s (execWatchdogKick kicker s) := by
  unfold execWatchdogKick
  have hF : From 17179869184 s s := From.refl _ _
  refine FromO.next ?_
  with_reducible exact From.set_wdt hF _ rfl

theorem watchdogGo_from {s : State} (us : Nat) : From 17582656536426 s (watchdogGo s us) := by
  unfold watchdogGo
  have hF : From 17582656536426 s s := From.refl _ _
  extract_lets +onlyGivenNames x0
  have hx0 : From 17582656536426 s x0 := by
    subst x0
    refine From.step (event_from ..) ?_ rfl
    exact hF
  clear_value x0
  refine From.step (resetWithFlush_from ..) ?_ rfl
  with_reducible exact From.set_wdt hx0 _ rfl

theorem watchdogExpiry_from {s : State} (missed : Nat) : From 17582656536426 s (watchdogExpiry s missed) := by
  unfold watchdogExpiry
  have hF : From 17582656536426 s s := From.refl _ _
  split
  · rename_i e0
    exact hF
  · rename_i e1
    extract_lets +onlyGivenNames x2
    have hx2 : From 17582656536426 s x2 := by
      subst x2
      refine From.step (setV_from ..) ?_ rfl
      exact hF
    clear_value x2
    extract_lets +onlyGivenNames x3
    clear_value x3
    extract_lets +onlyGivenNames x4
    clear_value x4
    extract_lets +onlyGivenNames x5
    have hx5 : From 17582656536426 s x5 := by
      subst x5
      exact From.same 4415226380288 hx2 (by with_reducible rfl) rfl rfl
    clear_value x5
    split
    · rename_i e6
      refine From.step (bump32_from ..) ?_ rfl
      with_reducible exact From.set_wdt hx5 _ rfl
    · rename_i e7
      refine From.step (watchdogGo_from ..) ?_ rfl
      exact hx5

theorem execWatchdogExpiry_from (missed : Nat) {s : State} : FromO 17583327625066 s (execWatchdogExpiry missed s) := by
  unfold execWatchdogExpiry
  have hF : From 17583327625066 s s := From.refl _ _
  refine FromO.next ?_
  refine From.step (settle_from ..) ?_ rfl
  refine From.step (watchdogExpiry_from ..) ?_ rfl
  exact hF

theorem cfComplete_from {s : State} (bank : Nat) (failedAt : Option Nat) (us : Nat) : From 17583327625066 s (cfComplete s bank failedAt us) := by
  unfold cfComplete
  have hF : From 17583327625066 s s := From.refl _ _
  extract_lets +onlyGivenNames x0
  have hx0 : From 17583327625066 s x0 := by
    subst x0
    refine From.step (cfOperationComplete_from ..) ?_ rfl
    exact hF
  clear_value x0
  split
  · rename_i e1
    extract_lets +onlyGivenNames x2
    clear_value x2
    refine From.step (settle_from ..) ?_ rfl
    refine From.step (watchdogGo_from ..) ?_ rfl
    refine From.step (setV_from ..) ?_ rfl
    exact hx0
  · rename_i e3
    exact hx0

theorem execCfOperationComplete_from (bank : Nat) (failedAt : Option Nat) (arrayUs : Nat) {s : State} : FromO 17583327625066 s (execCfOperationComplete bank failedAt arrayUs s) := by
  unfold execCfOperationComplete
  have hF : From 17583327625066 s s := From.refl _ _
  refine FromO.next ?_
  refine From.step (cfComplete_from ..) ?_ rfl
  exact hF

theorem timeBaseUpdate_from {s : State} : From 1 s (timeBaseUpdate s) := by
  unfold timeBaseUpdate
  have hF : From 1 s s := From.refl _ _
  with_reducible exact From.set_clk hF _ rfl

theorem vddAoLoss_from {s : State} : From 17219729360770 s (vddAoLoss s) := by
  unfold vddAoLoss
  have hF : From 17219729360770 s s := From.refl _ _
  extract_lets +onlyGivenNames x0
  have hx0 : From 17219729360770 s x0 := by
    subst x0
    refine From.step (cfCutShort_from ..) ?_ rfl
    refine From.step (resetLevel_from ..) ?_ rfl
    exact hF
  clear_value x0
  exact From.same 1099511627904 hx0 (by with_reducible rfl) rfl rfl

theorem execVddAoLoss_from {s : State} : FromO 17219729360770 s (execVddAoLoss s) := by
  unfold execVddAoLoss
  have hF : From 17219729360770 s s := From.refl _ _
  refine FromO.next ?_
  refine From.step (vddAoLoss_from ..) ?_ rfl
  exact hF

theorem JRec.apply_from {s : State} (r : JRec) : From 66 s (JRec.apply s r) := by
  unfold JRec.apply
  have hF : From 66 s s := From.refl _ _
  split
  · rename_i e0
    refine From.step (setDom_from ..) ?_ rfl
    exact hF
  · rename_i e1
    refine From.foldl ?_ ?_ _
    · exact hF
    · intro a2 a3 a4
      refine From.step (setV_from ..) ?_ rfl
      exact a4

theorem loadEntries_from {s : State} (orderingD : Bool) : From 194 s (loadEntries s orderingD) := by
  unfold loadEntries
  have hF : From 194 s s := From.refl _ _
  extract_lets +onlyGivenNames x0
  extract_lets +onlyGivenNames x1
  extract_lets +onlyGivenNames x2
  extract_lets +onlyGivenNames x3
  clear_value x3
  extract_lets +onlyGivenNames x4
  clear_value x4
  extract_lets +onlyGivenNames x5
  have hx5 : From 194 s x5 := by
    subst x5
    refine From.upd 194 (hF) rfl rfl ?_ ?_ ?_ ?_ ?_ ?_ ?_ ?_ ?_ ?_ ?_ ?_ ?_ ?_ ?_ ?_ ?_ ?_ ?_
    all_goals with_reducible first | exact id | exact fun _ => Assoc.wf_nil | exact fun _ => From.nil_le | exact fun _ => From.sixteen | (intro w; repeat' first | exact w | exact From.nil_le | exact Assoc.wf_nil | split | apply Assoc.wf_foldl (fun m b w => Assoc.wf_put w) | apply Assoc.wf_put | apply Assoc.wf_upd | apply Assoc.wf_updD | apply Assoc.wf_del | apply Assoc.wf_keep | apply Assoc.wf_mapVal)
  clear_value x5
  extract_lets +onlyGivenNames x6
  have hx6 : From 194 s x6 := by
    subst x6
    refine From.foldl ?_ ?_ _
    · exact hx5
    · intro a7 a8 a9
      refine From.step (JRec.apply_from ..) ?_ rfl
      exact a9
  clear_value x6
  refine From.foldl ?_ ?_ _
  · exact hx6
  · intro a10 a11 a12
    refine From.step (JRec.apply_from ..) ?_ rfl
    exact a12

theorem renumber_from {s : State} : From 4243586 s (renumber s) := by
  have hF : From 4243586 s s := From.refl _ _
  unfold renumber
  dsimp only
  split
  · refine From.upd 4243586 hF rfl rfl (fun w => Assoc.wf_put (Assoc.wf_keep w)) id id id ?_ id id id id id id id id id id id id id id
    intro w
    dsimp only
    exact Assoc.wf_mapVal w
  · exact From.same 49152 hF (by with_reducible rfl) rfl rfl

theorem pairPowerOn_from {s : State} (plPos : Nat) (orderingD : Bool) : From 4398046511106 s (pairPowerOn s plPos orderingD) := by
  unfold pairPowerOn
  have hF : From 4398046511106 s s := From.refl _ _
  extract_lets +onlyGivenNames x0
  clear_value x0
  extract_lets +onlyGivenNames x1
  have hx1 : From 4398046511106 s x1 := by
    subst x1
    refine From.step (setV_from ..) ?_ rfl
    exact hF
  clear_value x1
  with_reducible exact From.set_pair hx1 _ rfl

theorem powerOn_from {s0 : State} (plPos : Nat) (orderingD : Bool) : From 17591649173503 s0 (powerOn s0 plPos orderingD) := by
  unfold powerOn
  have hF : From 17591649173503 s0 s0 := From.refl _ _
  extract_lets +onlyGivenNames x0
  have hx0 : From 17591649173503 s0 x0 := by
    subst x0
    split
    · rename_i e1
      refine From.step (vddAoLoss_from ..) ?_ rfl
      exact hF
    · rename_i e2
      exact hF
  clear_value x0
  extract_lets +onlyGivenNames x3
  clear_value x3
  extract_lets +onlyGivenNames x4
  have hx4 : From 17591649173503 s0 x4 := by
    subst x4
    refine From.step (hubRestart_from ..) ?_ rfl
    exact hx0
  clear_value x4
  extract_lets +onlyGivenNames x5
  clear_value x5
  extract_lets +onlyGivenNames x6
  extract_lets +onlyGivenNames x7
  clear_value x7
  extract_lets +onlyGivenNames x8
  clear_value x8
  extract_lets +onlyGivenNames x9
  clear_value x9
  extract_lets +onlyGivenNames x10
  clear_value x10
  extract_lets +onlyGivenNames x11
  have hx11 : From 17591649173503 s0 x11 := by
    subst x11
    refine From.upd 1680875794749 (From.flushLoaded hx4 rfl) rfl rfl ?_ ?_ ?_ ?_ ?_ ?_ ?_ ?_ ?_ ?_ ?_ ?_ ?_ ?_ ?_ ?_ ?_ ?_ ?_
    all_goals with_reducible first | exact id | exact fun _ => Assoc.wf_nil | exact fun _ => From.nil_le | exact fun _ => From.sixteen | (intro w; repeat' first | exact w | exact From.nil_le | exact Assoc.wf_nil | split | apply Assoc.wf_foldl (fun m b w => Assoc.wf_put w) | apply Assoc.wf_put | apply Assoc.wf_upd | apply Assoc.wf_updD | apply Assoc.wf_del | apply Assoc.wf_keep | apply Assoc.wf_mapVal)
  clear_value x11
  extract_lets +onlyGivenNames x12
  have hx12 : From 17591649173503 s0 x12 := by
    subst x12
    refine From.step (pinAll_from ..) ?_ rfl
    refine From.step (restartInsts_from ..) ?_ rfl
    refine From.step (renumber_from ..) ?_ rfl
    refine From.step (timeBaseUpdate_from ..) ?_ rfl
    refine From.step (loadEntries_from ..) ?_ rfl
    exact hx11
  clear_value x12
  extract_lets +onlyGivenNames x13
  clear_value x13
  extract_lets +onlyGivenNames x14
  clear_value x14
  extract_lets +onlyGivenNames x15
  clear_value x15
  extract_lets +onlyGivenNames x16
  have hx16 : From 17591649173503 s0 x16 := by
    subst x16
    exact From.same 1271310319616 hx12 (by with_reducible rfl) rfl rfl
  clear_value x16
  extract_lets +onlyGivenNames x17
  have hx17 : From 17591649173503 s0 x17 := by
    subst x17
    refine From.step (poolSetup_from ..) ?_ rfl
    refine From.step (pairPowerOn_from ..) ?_ rfl
    exact hx16
  clear_value x17
  extract_lets +onlyGivenNames x18
  have hx18 : From 17591649173503 s0 x18 := by
    subst x18
    refine From.step (setV_from ..) ?_ rfl
    refine From.step (tally_from ..) ?_ rfl
    exact hx17
  clear_value x18
  extract_lets +onlyGivenNames x19
  have hx19 : From 17591649173503 s0 x19 := by
    subst x19
    split
    · rename_i e20
      refine From.step (event_from ..) ?_ rfl
      exact hx18
    · rename_i e21
      exact hx18
  clear_value x19
  extract_lets +onlyGivenNames x22
  have hx22 : From 17591649173503 s0 x22 := by
    subst x22
    refine From.step (bootSelect_from ..) ?_ rfl
    refine From.step (replayFlush_from ..) ?_ rfl
    exact hx19
  clear_value x22
  split
  · rename_i e23
    exact hx22
  · rename_i e24
    with_reducible exact From.set_power hx22 _ rfl

theorem execPowerOn_from (plPos : Nat) (orderingD : Bool) {s : State} : FromO 17591649173503 s (execPowerOn plPos orderingD s) := by
  unfold execPowerOn
  have hF : From 17591649173503 s s := From.refl _ _
  refine FromO.next ?_
  refine From.step (powerOn_from ..) ?_ rfl
  exact hF

theorem throttleTrace_from {s : State} (was n : Nat) : From 514 s (throttleTrace s was n) := by
  unfold throttleTrace
  have hF : From 514 s s := From.refl _ _
  split
  · rename_i e0
    exact hF
  · rename_i e1
    refine From.step (traceItem_from ..) ?_ rfl
    exact hF

theorem throttleTo_from {s : State} (x n : Nat) : From 8589935106 s (throttleTo s x n) := by
  unfold throttleTo
  have hF : From 8589935106 s s := From.refl _ _
  refine From.step (throttleTrace_from ..) ?_ rfl
  with_reducible exact From.set_thermal hF _ rfl

theorem throttleRequest_from {s : State} (cause reading : Nat) : From 9732491010 s (throttleRequest s cause reading) := by
  unfold throttleRequest
  have hF : From 9732491010 s s := From.refl _ _
  extract_lets +onlyGivenNames x0
  clear_value x0
  extract_lets +onlyGivenNames x1
  have hx1 : From 9732491010 s x1 := by
    subst x1
    refine From.step (throttleTo_from ..) ?_ rfl
    with_reducible exact From.set_thermal hF _ rfl
  clear_value x1
  refine From.step (event_from ..) ?_ rfl
  refine From.step (aenPfs_from ..) ?_ rfl
  exact hx1

theorem enforce_from {s : State} (limit : Nat) : From 12884902402 s (enforce s limit) := by
  unfold enforce
  have hF : From 12884902402 s s := From.refl _ _
  extract_lets +onlyGivenNames x0
  have hx0 : From 12884902402 s x0 := by
    subst x0
    split
    · rename_i e1
      exact hF
    · rename_i e2
      refine From.step (bump32_from ..) ?_ rfl
      exact hF
  clear_value x0
  refine From.step (throttleTo_from ..) ?_ rfl
  exact From.same 12884901888 hx0 (by with_reducible rfl) rfl rfl

theorem throttleCross_from {s : State} (cause reading : Nat) : From 14027458306 s (throttleCross s cause reading) := by
  unfold throttleCross
  have hF : From 14027458306 s s := From.refl _ _
  split
  · rename_i e0
    refine From.step (throttleRequest_from ..) ?_ rfl
    exact hF
  · rename_i e1
    split
    · rename_i e2
      refine From.step (enforce_from ..) ?_ rfl
      with_reducible exact From.set_thermal hF _ rfl
    · rename_i e3
      exact hF

theorem throttleCritical_from {s : State} (n reading : Nat) : From 14027458306 s (throttleCritical s n reading) := by
  unfold throttleCritical
  have hF : From 14027458306 s s := From.refl _ _
  extract_lets +onlyGivenNames x0
  clear_value x0
  extract_lets +onlyGivenNames x1
  have hx1 : From 14027458306 s x1 := by
    subst x1
    refine From.step (enforce_from ..) ?_ rfl
    with_reducible exact From.set_thermal hF _ rfl
  clear_value x1
  refine From.step (event_from ..) ?_ rfl
  refine From.step (aenPfs_from ..) ?_ rfl
  exact hx1

theorem throttleEnd_from {s : State} : From 8589935106 s (throttleEnd s) := by
  unfold throttleEnd
  have hF : From 8589935106 s s := From.refl _ _
  refine From.step (throttleTo_from ..) ?_ rfl
  with_reducible exact From.set_thermal hF _ rfl

theorem throttleEval_from {s : State} (n : Nat) (was : Option Int) (failedNow : Bool) : From 14027458306 s (throttleEval s n was failedNow) := by
  unfold throttleEval
  have hF : From 14027458306 s s := From.refl _ _
  extract_lets +onlyGivenNames x0
  clear_value x0
  extract_lets +onlyGivenNames x1
  clear_value x1
  extract_lets +onlyGivenNames x2
  clear_value x2
  extract_lets +onlyGivenNames x3
  clear_value x3
  extract_lets +onlyGivenNames x4
  clear_value x4
  split
  · rename_i e5
    refine From.step (throttleCritical_from ..) ?_ rfl
    exact hF
  · rename_i e6
    split
    · rename_i e7
      exact hF
    · rename_i e8
      split
      · rename_i e9
        refine From.step (throttleCritical_from ..) ?_ rfl
        exact hF
      · rename_i e10
        split
        · rename_i e11
          refine From.step (throttleCross_from ..) ?_ rfl
          exact hF
        · rename_i e12
          split
          · rename_i e13
            refine From.step (throttleEnd_from ..) ?_ rfl
            exact hF
          · rename_i e14
            exact hF

theorem holdEval_from {s : State} : From 8589935106 s (holdEval s) := by
  unfold holdEval
  have hF : From 8589935106 s s := From.refl _ _
  split
  · rename_i e0
    refine From.step (throttleTrace_from ..) ?_ rfl
    with_reducible exact From.set_thermal hF _ rfl
  · rename_i e1
    exact hF

theorem thermalHold_from {s : State} : From 8589935362 s (thermalHold s) := by
  unfold thermalHold
  have hF : From 8589935362 s s := From.refl _ _
  split
  · rename_i y0 y1 e2
    split
    · rename_i e3
      exact hF
    · rename_i e4
      extract_lets +onlyGivenNames x5
      clear_value x5
      extract_lets +onlyGivenNames x6
      have hx6 : From 8589935362 s x6 := by
        subst x6
        refine From.step (throttleTrace_from ..) ?_ rfl
        with_reducible exact From.set_thermal hF _ rfl
      clear_value x6
      refine From.step (event_from ..) ?_ rfl
      refine From.step (bump32_from ..) ?_ rfl
      exact hx6
  · rename_i y7 e8
    exact hF

theorem execThermalHold_from {s : State} : FromO 8589935362 s (execThermalHold s) := by
  unfold execThermalHold
  have hF : From 8589935362 s s := From.refl _ _
  refine FromO.next ?_
  refine From.step (thermalHold_from ..) ?_ rfl
  exact hF

theorem hostThresholds_from {s : State} (old : State) : From 1142556162 s (hostThresholds old s) := by
  unfold hostThresholds
  refine From.foldl (From.refl _ _) (fun u b h => ?_) _
  dsimp only
  split
  · exact From.step (aen_from _ _) h rfl
  · exact h

theorem storeReading_from {s : State} (n : Nat) (x : Int) (failed : Bool) : From 8589934594 s (storeReading s n x failed) := by
  unfold storeReading
  have hF : From 8589934594 s s := From.refl _ _
  extract_lets +onlyGivenNames x0
  clear_value x0
  extract_lets +onlyGivenNames x1
  have hx1 : From 8589934594 s x1 := by
    subst x1
    refine From.step (setV_from ..) ?_ rfl
    exact hF
  clear_value x1
  extract_lets +onlyGivenNames x2
  clear_value x2
  extract_lets +onlyGivenNames x3
  have hx3 : From 8589934594 s x3 := by
    subst x3
    with_reducible exact From.set_thermal hx1 _ rfl
  clear_value x3
  split
  · rename_i e4
    refine From.step (setV_from ..) ?_ rfl
    exact hx3
  · rename_i e5
    exact hx3

theorem warmWake_from {s : State} (n : Nat) : From 4556960314114 s (warmWake s n) := by
  unfold warmWake
  have hF : From 4556960314114 s s := From.refl _ _
  split
  · rename_i e0
    refine From.step (wakeNow_from ..) ?_ rfl
    exact hF
  · rename_i e1
    exact hF

theorem sensorSample_from {s0 : State} (n : Nat) (reading : Option Int) : From 4566692804354 s0 (sensorSample s0 n reading) := by
  unfold sensorSample
  have hF : From 4566692804354 s0 s0 := From.refl _ _
  split
  · rename_i e0
    exact hF
  · rename_i e1
    extract_lets +onlyGivenNames x2
    clear_value x2
    extract_lets +onlyGivenNames x3
    clear_value x3
    extract_lets +onlyGivenNames x4
    clear_value x4
    extract_lets +onlyGivenNames x5
    clear_value x5
    extract_lets +onlyGivenNames x6
    clear_value x6
    extract_lets +onlyGivenNames x7
    clear_value x7
    extract_lets +onlyGivenNames x8
    have hx8 : From 4566692804354 s0 x8 := by
      subst x8
      with_reducible exact From.set_thermal hF _ rfl
    clear_value x8
    extract_lets +onlyGivenNames x9
    have hx9 : From 4566692804354 s0 x9 := by
      subst x9
      refine From.step (storeReading_from ..) ?_ rfl
      exact hx8
    clear_value x9
    extract_lets +onlyGivenNames x10
    have hx10 : From 4566692804354 s0 x10 := by
      subst x10
      split
      · rename_i e11
        refine From.step (eventU_from ..) ?_ rfl
        refine From.step (setV_from ..) ?_ rfl
        exact hx9
      · rename_i e12
        exact hx9
    clear_value x10
    refine From.step (warmWake_from ..) ?_ rfl
    refine From.step (hostThresholds_from ..) ?_ rfl
    refine From.step (holdEval_from ..) ?_ rfl
    refine From.step (throttleEval_from ..) ?_ rfl
    exact hx10

theorem execSensorSample_from (sensor : Nat) (reading : Option Int) {s : State} : FromO 15596904920834 s (execSensorSample sensor reading s) := by
  unfold execSensorSample
  have hF : From 15596904920834 s s := From.refl _ _
  refine FromO.next ?_
  refine From.step (settle_from ..) ?_ rfl
  refine From.step (sensorSample_from ..) ?_ rfl
  exact hF

theorem throttleGraceExpiry_from {s : State} : From 12884902402 s (throttleGraceExpiry s) := by
  unfold throttleGraceExpiry
  have hF : From 12884902402 s s := From.refl _ _
  split
  · rename_i e0
    refine From.step (enforce_from ..) ?_ rfl
    exact hF
  · rename_i e1
    exact hF

theorem execThrottleGraceExpiry_from {s : State} : FromO 12884902402 s (execThrottleGraceExpiry s) := by
  unfold execThrottleGraceExpiry
  have hF : From 12884902402 s s := From.refl _ _
  refine FromO.next ?_
  refine From.step (throttleGraceExpiry_from ..) ?_ rfl
  exact hF

theorem throttleStep_from {s : State} : From 8589934592 s (throttleStep s) := by
  unfold throttleStep
  have hF : From 8589934592 s s := From.refl _ _
  split
  · rename_i e0
    with_reducible exact From.set_thermal hF _ rfl
  · rename_i e1
    exact hF

theorem execThrottleStep_from {s : State} : FromO 8589934592 s (execThrottleStep s) := by
  unfold execThrottleStep
  have hF : From 8589934592 s s := From.refl _ _
  refine FromO.next ?_
  refine From.step (throttleStep_from ..) ?_ rfl
  exact hF

theorem throttleRise_from {s : State} : From 12884902402 s (throttleRise s) := by
  unfold throttleRise
  have hF : From 12884902402 s s := From.refl _ _
  extract_lets +onlyGivenNames x0
  clear_value x0
  split
  · rename_i e1
    refine From.step (throttleEnd_from ..) ?_ rfl
    exact From.same 12884901888 hF (by with_reducible rfl) rfl rfl
  · rename_i e2
    refine From.step (throttleTo_from ..) ?_ rfl
    with_reducible exact From.set_thermal hF _ rfl

theorem throttleRelease_from {s : State} : From 12884902402 s (throttleRelease s) := by
  unfold throttleRelease
  have hF : From 12884902402 s s := From.refl _ _
  split
  · rename_i e0
    refine From.step (throttleRise_from ..) ?_ rfl
    exact hF
  · rename_i e1
    exact hF

theorem execThrottleRelease_from {s : State} : FromO 12884902402 s (execThrottleRelease s) := by
  unfold execThrottleRelease
  have hF : From 12884902402 s s := From.refl _ _
  refine FromO.next ?_
  refine From.step (throttleRelease_from ..) ?_ rfl
  exact hF

theorem windowEval_from {s : State} (slot : Nat) (c : Int) : From 8589934592 s (windowEval s slot c) := by
  unfold windowEval
  have hF : From 8589934592 s s := From.refl _ _
  extract_lets +onlyGivenNames x0
  clear_value x0
  extract_lets +onlyGivenNames x1
  clear_value x1
  extract_lets +onlyGivenNames x2
  clear_value x2
  split
  · rename_i e3
    split
    · rename_i e4
      exact hF
    · rename_i e5
      with_reducible exact From.set_thermal hF _ rfl
  · rename_i e6
    split
    · rename_i e7
      with_reducible exact From.set_thermal hF _ rfl
    · rename_i e8
      exact hF

theorem nandTempRead_from {s0 : State} (slot : Nat) (reading : Option Int) : From 9732490818 s0 (nandTempRead s0 slot reading) := by
  unfold nandTempRead
  have hF : From 9732490818 s0 s0 := From.refl _ _
  split
  · rename_i e0
    exact hF
  · rename_i e1
    extract_lets +onlyGivenNames x2
    clear_value x2
    extract_lets +onlyGivenNames x3
    clear_value x3
    extract_lets +onlyGivenNames x4
    have hx4 : From 9732490818 s0 x4 := by
      subst x4
      split
      · rename_i e5
        exact hF
      · rename_i e6
        refine From.step (domChanged_from ..) ?_ rfl
        with_reducible exact From.set_thermal hF _ rfl
    clear_value x4
    refine From.step (hostThresholds_from ..) ?_ rfl
    refine From.step (windowEval_from ..) ?_ rfl
    exact hx4

theorem execNandTempRead_from (slot : Nat) (reading : Option Int) {s : State} : FromO 15437991118658 s (execNandTempRead slot reading s) := by
  unfold execNandTempRead
  have hF : From 15437991118658 s s := From.refl _ _
  refine FromO.next ?_
  refine From.step (settle_from ..) ?_ rfl
  refine From.step (nandTempRead_from ..) ?_ rfl
  exact hF

theorem entryApplied_from {s : State} (key : Nat) : From 2199023255555 s (entryApplied s key) := by
  unfold entryApplied
  have hF : From 2199023255555 s s := From.refl _ _
  split
  · rename_i e0
    refine From.step (setV_from ..) ?_ rfl
    exact hF
  · rename_i e1
    split
    · rename_i e2
      refine From.step (timeBaseUpdate_from ..) ?_ rfl
      exact hF
    · rename_i e3
      split
      · rename_i e4
        refine From.step (lossPrune_from ..) ?_ rfl
        exact hF
      · rename_i e5
        exact hF

theorem applyRec_from {s : State} (r : JRec) : From 2199023255619 s (applyRec s r) := by
  unfold applyRec
  have hF : From 2199023255619 s s := From.refl _ _
  refine From.step (entryApplied_from ..) ?_ rfl
  refine From.step (JRec.apply_from ..) ?_ rfl
  exact hF

theorem compact_from {s : State} : From 128 s (compact s) := by
  unfold compact
  have hF : From 128 s s := From.refl _ _
  with_reducible exact From.set_store hF _ rfl

theorem journalPut_from {s : State} (rs : List JRec) : From 128 s (journalPut s rs) := by
  unfold journalPut
  have hF : From 128 s s := From.refl _ _
  extract_lets +onlyGivenNames x0
  have hx0 : From 128 s x0 := by
    subst x0
    split
    · rename_i e1
      refine From.step (compact_from ..) ?_ rfl
      exact hF
    · rename_i e2
      exact hF
  clear_value x0
  with_reducible exact From.set_store hx0 _ rfl

theorem journalAsk_from {s : State} (p : JPend) : From 128 s (journalAsk s p) := by
  unfold journalAsk
  have hF : From 128 s s := From.refl _ _
  with_reducible exact From.set_store hF _ rfl

theorem journalOwn_from {s : State} (r : JRec) : From 128 s (journalOwn s r) := by
  unfold journalOwn
  have hF : From 128 s s := From.refl _ _
  refine From.step (journalAsk_from ..) ?_ rfl
  exact hF

theorem persistAnswer_from {s : State} (p : JPend) (st : Nat) : From 1276773954 s (persistAnswer s p st) := by
  unfold persistAnswer
  have hF : From 1276773954 s s := From.refl _ _
  split
  · rename_i e0
    extract_lets +onlyGivenNames x1
    clear_value x1
    refine From.step (respond_from ..) ?_ rfl
    exact hF
  · rename_i e2
    exact hF

theorem withdraw_from {s : State} (p : JPend) (tide : Nat) : From 98 s (withdraw s p tide) := by
  unfold withdraw
  have hF : From 98 s s := From.refl _ _
  extract_lets +onlyGivenNames x0
  clear_value x0
  extract_lets +onlyGivenNames x1
  have hx1 : From 98 s x1 := by
    subst x1
    split
    · rename_i e2
      with_reducible exact From.set_miowa hF _ rfl
    · rename_i e3
      exact hF
  clear_value x1
  split
  · rename_i e4
    with_reducible exact From.set_staged hx1 _ rfl
  · rename_i e5
    refine From.foldl ?_ ?_ _
    · exact hx1
    · intro a6 a7 a8
      refine From.step (setV_from ..) ?_ rfl
      exact a8

theorem persisted_from {s : State} (p : JPend) : From 2200300029635 s (persisted s p) := by
  unfold persisted
  have hF : From 2200300029635 s s := From.refl _ _
  extract_lets +onlyGivenNames x0
  have hx0 : From 2200300029635 s x0 := by
    subst x0
    refine From.step (journalPut_from ..) ?_ rfl
    exact hF
  clear_value x0
  extract_lets +onlyGivenNames x1
  have hx1 : From 2200300029635 s x1 := by
    subst x1
    split
    · rename_i y2 e3
      refine From.foldl ?_ ?_ _
      · exact hx0
      · intro a4 a5 a6
        refine From.step (applyRec_from ..) ?_ rfl
        exact a6
    · rename_i y7 e8
      exact hx0
  clear_value x1
  split
  · rename_i e9
    refine From.step (persistAnswer_from ..) ?_ rfl
    exact hx1
  · rename_i e10
    with_reducible exact From.set_store hx1 _ rfl

theorem journalProgram_from {s : State} (ok : Bool) : From 2200300029667 s (journalProgram s ok) := by
  unfold journalProgram
  have hF : From 2200300029667 s s := From.refl _ _
  split
  · rename_i y0 e1
    exact hF
  · rename_i y2 y3 y4 e5
    extract_lets +onlyGivenNames x6
    clear_value x6
    extract_lets +onlyGivenNames x7
    have hx7 : From 2200300029667 s x7 := by
      subst x7
      with_reducible exact From.set_store hF _ rfl
    clear_value x7
    split
    · rename_i e8
      extract_lets +onlyGivenNames x9
      have hx9 : From 2200300029667 s x9 := by
        subst x9
        split
        · rename_i y10 y11 e12
          refine From.step (withdraw_from ..) ?_ rfl
          exact hx7
        · rename_i y13 e14
          exact hx7
      clear_value x9
      refine From.step (persistAnswer_from ..) ?_ rfl
      exact hx9
    · rename_i e15
      split
      · rename_i e16
        with_reducible exact From.set_store hF _ rfl
      · rename_i e17
        refine From.step (persisted_from ..) ?_ rfl
        exact hx7

theorem execJournalRecordProgram_from (ok : Bool) {s : State} : FromO 15429401184227 s (execJournalRecordProgram ok s) := by
  unfold execJournalRecordProgram
  have hF : From 15429401184227 s s := From.refl _ _
  refine FromO.next ?_
  refine From.step (settle_from ..) ?_ rfl
  refine From.step (journalProgram_from ..) ?_ rfl
  exact hF

theorem ackedWrites_from {s : State} : From 1276774082 s (ackedWrites s) := by
  unfold ackedWrites
  have hF : From 1276774082 s s := From.refl _ _
  extract_lets +onlyGivenNames x0
  subst x0
  dsimp -zeta only
  extract_lets +onlyGivenNames x1
  clear_value x1
  refine From.foldl ?_ ?_ _
  · with_reducible exact From.set_store hF _ rfl
  · intro a2 a3 a4
    refine From.step (persistAnswer_from ..) ?_ rfl
    exact a4

end Sys2Proof.Machine
end

