-- ==== Sys2Proof/Laws/KeepCommands.lean ====
section
/-! SUPPORT. Laws/KeepCommands.lean: each operation of the pair, security, the time base, the dictionary's writes, the images, Identify and the Admin commands changes no part of the state outside its mask, leaves the queue
of commands as it is and keeps the forms and capacities of the stores (one lemma per operation). -/
namespace Sys2Proof.Machine
open Sys2Proof

theorem anaTo_from {s : State} (h x : Nat) : From 4399189067266 s (anaTo s h x) := by
  unfold anaTo
  have hF : From 4399189067266 s s := From.refl _ _
  split
  · rename_i e0
    exact hF
  · rename_i e1
    extract_lets +onlyGivenNames x2
    clear_value x2
    extract_lets +onlyGivenNames x3
    have hx3 : From 4399189067266 s x3 := by
      subst x3
      with_reducible exact From.set_pair hF _ rfl
    clear_value x3
    refine From.foldl ?_ ?_ _
    · exact hx3
    · intro a4 a5 a6
      refine From.step (aen_from ..) ?_ rfl
      exact a6

theorem gateHalf_from {s : State} (h : Nat) (off : Bool) : From 34359738368 s (gateHalf s h off) := by
  unfold gateHalf
  have hF : From 34359738368 s s := From.refl _ _
  extract_lets +onlyGivenNames x0
  clear_value x0
  with_reducible exact From.set_nand hF _ rfl

theorem rinorLinkUp_from {s : State} (rate width version : Nat) : From 4398046511618 s (rinorLinkUp s rate width version) := by
  unfold rinorLinkUp
  have hF : From 4398046511618 s s := From.refl _ _
  split
  · rename_i e0
    extract_lets +onlyGivenNames x1
    clear_value x1
    refine From.step (traceItem_from ..) ?_ rfl
    refine From.step (negSettle_from ..) ?_ rfl
    with_reducible exact From.set_pair hF _ rfl
  · rename_i e2
    exact hF

theorem execRinorLinkUp_from (rate width version : Nat) {s : State} : FromO 4398046511618 s (execRinorLinkUp rate width version s) := by
  unfold execRinorLinkUp
  have hF : From 4398046511618 s s := From.refl _ _
  refine FromO.next ?_
  refine From.step (rinorLinkUp_from ..) ?_ rfl
  exact hF

theorem rinorTrainingTimeout_from {s : State} : From 2 s (rinorTrainingTimeout s) := by
  unfold rinorTrainingTimeout
  have hF : From 2 s s := From.refl _ _
  split
  · rename_i e0
    refine From.step (negFail_from ..) ?_ rfl
    exact hF
  · rename_i e1
    exact hF

theorem execRinorTrainingTimeout_from {s : State} : FromO 2 s (execRinorTrainingTimeout s) := by
  unfold execRinorTrainingTimeout
  have hF : From 2 s s := From.refl _ _
  refine FromO.next ?_
  refine From.step (rinorTrainingTimeout_from ..) ?_ rfl
  exact hF

theorem rinorLinkDown_from {s : State} : From 4398046511618 s (rinorLinkDown s) := by
  unfold rinorLinkDown
  have hF : From 4398046511618 s s := From.refl _ _
  extract_lets +onlyGivenNames x0
  clear_value x0
  extract_lets +onlyGivenNames x1
  have hx1 : From 4398046511618 s x1 := by
    subst x1
    with_reducible exact From.set_pair hF _ rfl
  clear_value x1
  split
  · rename_i e2
    refine From.step (traceItem_from ..) ?_ rfl
    exact hx1
  · rename_i e3
    exact hx1

theorem execRinorLinkDown_from {s : State} : FromO 4398046511618 s (execRinorLinkDown s) := by
  unfold execRinorLinkDown
  have hF : From 4398046511618 s s := From.refl _ _
  refine FromO.next ?_
  refine From.step (rinorLinkDown_from ..) ?_ rfl
  exact hF

theorem recvPut_from {s : State} (r : MirRec) : From 4398046511104 s (recvPut s r) := by
  unfold recvPut
  have hF : From 4398046511104 s s := From.refl _ _
  split
  · rename_i e0
    exact hF
  · rename_i e1
    extract_lets +onlyGivenNames x2
    clear_value x2
    with_reducible exact From.set_pair hF _ rfl

theorem recvOther_from {s : State} (kind : Nat) : From 4398046511104 s (recvOther s kind) := by
  unfold recvOther
  have hF : From 4398046511104 s s := From.refl _ _
  extract_lets +onlyGivenNames x0
  clear_value x0
  refine From.step (recvPut_from ..) ?_ rfl
  exact hF

theorem mirrorRecv_from {s : State} (kind : Nat) (h : MirHdr) (b : MirrorBody) : From 4398046511104 s (mirrorRecv s kind h b) := by
  unfold mirrorRecv
  have hF : From 4398046511104 s s := From.refl _ _
  split
  · rename_i e0
    refine From.step (recvPut_from ..) ?_ rfl
    exact hF
  · rename_i e1
    exact hF

theorem execMirrorWriteData_from (h : MirHdr) (blocks : List (Nat × Nat × Nat)) {s : State} : FromO 4398046511104 s (execMirrorWriteData h blocks s) := by
  unfold execMirrorWriteData
  have hF : From 4398046511104 s s := From.refl _ _
  refine FromO.next ?_
  refine From.step (mirrorRecv_from ..) ?_ rfl
  exact hF

theorem execMirrorUnitStaging_from (h : MirHdr) (blocks : List (Nat × Nat × Nat)) {s : State} : FromO 4398046511104 s (execMirrorUnitStaging h blocks s) := by
  unfold execMirrorUnitStaging
  have hF : From 4398046511104 s s := From.refl _ _
  refine FromO.next ?_
  refine From.step (mirrorRecv_from ..) ?_ rfl
  exact hF

theorem execMetadataDelta_from (h : MirHdr) (nsid zone wp st : Nat) {s : State} : FromO 4398046511104 s (execMetadataDelta h nsid zone wp st s) := by
  unfold execMetadataDelta
  have hF : From 4398046511104 s s := From.refl _ _
  refine FromO.next ?_
  refine From.step (mirrorRecv_from ..) ?_ rfl
  exact hF

theorem mirZone_from {s : State} (n : Ns) (zk : Nat) : From 8388608 s (mirZone s n zk) := by
  unfold mirZone
  have hF : From 8388608 s s := From.refl _ _
  refine From.step (modZone_from ..) ?_ rfl
  exact hF

theorem mirPiece_from {s : State} (zk off : Nat) (blk : Nat) (nsid lba data : Nat) : From 11030677292802 s (mirPiece s zk off blk nsid lba data) := by
  unfold mirPiece
  have hF : From 11030677292802 s s := From.refl _ _
  split
  · rename_i y0 y1 y2 e3
    have h4 : From 11030677292802 s y2 := by
      refine From.snd e3 ?_
      refine From.step (freeBelow_from ..) ?_ rfl
      exact hF
    extract_lets +onlyGivenNames x5
    have hx5 : From 11030677292802 s x5 := by
      subst x5
      refine From.step (storeBlock_from ..) ?_ rfl
      exact h4
    clear_value x5
    extract_lets +onlyGivenNames x6
    have hx6 : From 11030677292802 s x6 := by
      subst x6
      refine From.step (addPiece_from ..) ?_ rfl
      exact hx5
    clear_value x6
    extract_lets +onlyGivenNames x7
    have hx7 : From 11030677292802 s x7 := by
      subst x7
      refine From.step (modZone_from ..) ?_ rfl
      exact hx6
    clear_value x7
    split
    · rename_i e8
      refine From.step (closeUnit_from ..) ?_ rfl
      exact hx7
    · rename_i e9
      exact hx7

theorem mirBlock_from {s : State} (b : Nat × Nat × Nat) : From 15428723803906 s (mirBlock s b) := by
  unfold mirBlock
  have hF : From 15428723803906 s s := From.refl _ _
  split
  · rename_i y0 y1 y2 y3
    split
    · rename_i y4 e5
      exact hF
    · rename_i y6 y7 e8
      extract_lets +onlyGivenNames x9
      clear_value x9
      split
      · rename_i e10
        extract_lets +onlyGivenNames x11
        clear_value x11
        extract_lets +onlyGivenNames x12
        have hx12 : From 15428723803906 s x12 := by
          subst x12
          refine From.step (mirZone_from ..) ?_ rfl
          exact hF
        clear_value x12
        split
        · rename_i e13
          refine From.step (mirPiece_from ..) ?_ rfl
          exact hx12
        · rename_i e14
          refine From.step (applyDirect_from ..) ?_ rfl
          exact hx12
      · rename_i e15
        refine From.step (applyConv_from ..) ?_ rfl
        exact hF

theorem mirZoneRec_from {s : State} (nsid zone wp st : Nat) : From 8388608 s (mirZoneRec s nsid zone wp st) := by
  unfold mirZoneRec
  have hF : From 8388608 s s := From.refl _ _
  split
  · rename_i y0 e1
    exact hF
  · rename_i y2 y3 e4
    refine From.step (modZone_from ..) ?_ rfl
    refine From.step (mirZone_from ..) ?_ rfl
    exact hF

theorem mirApply_from {s : State} (r : MirRec) : From 15428723803906 s (mirApply s r) := by
  unfold mirApply
  have hF : From 15428723803906 s s := From.refl _ _
  split
  · rename_i y0 y1 e2
    refine From.foldl ?_ ?_ _
    · exact hF
    · intro a3 a4 a5
      refine From.step (mirBlock_from ..) ?_ rfl
      exact a5
  · rename_i y6 y7 y8 y9 y10 e11
    refine From.step (mirZoneRec_from ..) ?_ rfl
    exact hF
  · rename_i y12 e13
    exact hF

theorem mirSettled_from {s : State} (r : MirRec) : From 58720256 s (mirSettled s r) := by
  unfold mirSettled
  have hF : From 58720256 s s := From.refl _ _
  split
  · rename_i y0 y1 e2
    refine From.foldl ?_ ?_ _
    · exact hF
    · intro a3 a4 a5
      refine From.step (storeBlock_from ..) ?_ rfl
      exact a5
  · rename_i y6 y7 y8 y9 y10 e11
    refine From.step (mirZoneRec_from ..) ?_ rfl
    exact hF
  · rename_i y12 e13
    exact hF

theorem mirrorRelease_from {s : State} (h : MirHdr) : From 4398105231360 s (mirrorRelease s h) := by
  unfold mirrorRelease
  have hF : From 4398105231360 s s := From.refl _ _
  extract_lets +onlyGivenNames x0
  have hx0 : From 4398105231360 s x0 := by
    subst x0
    refine From.step (mirrorRecv_from ..) ?_ rfl
    exact hF
  clear_value x0
  split
  · rename_i e1
    extract_lets +onlyGivenNames x2
    clear_value x2
    extract_lets +onlyGivenNames x3
    have hx3 : From 4398105231360 s x3 := by
      subst x3
      refine From.foldl ?_ ?_ _
      · exact hx0
      · intro a4 a5 a6
        refine From.step (mirSettled_from ..) ?_ rfl
        exact a6
    clear_value x3
    with_reducible exact From.set_pair hx3 _ rfl
  · rename_i e7
    exact hx0

theorem execMirrorRelease_from (h : MirHdr) {s : State} : FromO 4398105231360 s (execMirrorRelease h s) := by
  unfold execMirrorRelease
  have hF : From 4398105231360 s s := From.refl _ _
  refine FromO.next ?_
  refine From.step (mirrorRelease_from ..) ?_ rfl
  exact hF

theorem mirrorAck_from {s : State} (arg0 : Nat) : From 7737112659954 s (mirrorAck s arg0) := by
  unfold mirrorAck
  have hF : From 7737112659954 s s := From.refl _ _
  extract_lets +onlyGivenNames x0
  clear_value x0
  split
  · rename_i e1
    exact hF
  · rename_i e2
    extract_lets +onlyGivenNames x3
    clear_value x3
    extract_lets +onlyGivenNames x4
    clear_value x4
    extract_lets +onlyGivenNames x5
    have hx5 : From 7737112659954 s x5 := by
      subst x5
      with_reducible exact From.set_pair hF _ rfl
    clear_value x5
    extract_lets +onlyGivenNames x6
    have hx6 : From 7737112659954 s x6 := by
      subst x6
      refine From.step (ackedWrites_from ..) ?_ rfl
      refine From.foldl ?_ ?_ _
      · exact hx5
      · intro a7 a8 a9
        refine From.step (fwdRun_from ..) ?_ rfl
        exact a9
    clear_value x6
    extract_lets +onlyGivenNames x10
    clear_value x10
    extract_lets +onlyGivenNames x11
    have hx11 : From 7737112659954 s x11 := by
      subst x11
      split
      · rename_i e12
        with_reducible exact From.set_power hx6 _ rfl
      · rename_i e13
        exact hx6
    clear_value x11
    refine From.step (sleepProgress_from ..) ?_ rfl
    exact hx11

theorem execMirrorAck_from (arg : Nat) {s : State} : FromO 16533207779314 s (execMirrorAck arg s) := by
  unfold execMirrorAck
  have hF : From 16533207779314 s s := From.refl _ _
  refine FromO.next ?_
  refine From.step (settle_from ..) ?_ rfl
  refine From.step (mirrorAck_from ..) ?_ rfl
  exact hF

theorem resendRequest_from {s : State} (seq : Nat) : From 514 s (resendRequest s seq) := by
  unfold resendRequest
  have hF : From 514 s s := From.refl _ _
  split
  · rename_i e0
    refine From.step (traceItem_from ..) ?_ rfl
    refine From.step (bump32_from ..) ?_ rfl
    exact hF
  · rename_i e1
    exact hF

theorem execResendRequest_from (seq : Nat) {s : State} : FromO 514 s (execResendRequest seq s) := by
  unfold execResendRequest
  have hF : From 514 s s := From.refl _ _
  refine FromO.next ?_
  refine From.step (resendRequest_from ..) ?_ rfl
  exact hF

theorem adminForward_from {s : State} (fn sqid cid : Nat) (cmd : FwdCmd) : From 7732683474738 s (adminForward s fn sqid cid cmd) := by
  unfold adminForward
  have hF : From 7732683474738 s s := From.refl _ _
  extract_lets +onlyGivenNames x0
  clear_value x0
  split
  · rename_i e1
    refine From.step (fwdRun_from ..) ?_ rfl
    refine From.step (recvOther_from ..) ?_ rfl
    exact hF
  · rename_i e2
    exact hF

theorem execAdminForward_from (fn sqid cid : Nat) (cmd : FwdCmd) {s : State} : FromO 16528912811826 s (execAdminForward fn sqid cid cmd s) := by
  unfold execAdminForward
  have hF : From 16528912811826 s s := From.refl _ _
  refine FromO.next ?_
  refine From.step (settle_from ..) ?_ rfl
  refine From.step (adminForward_from ..) ?_ rfl
  exact hF

theorem pairSharedEntry_from {s : State} (idx sub value : Nat) (bytes : Bytes) : From 4398046511280 s (pairSharedEntry s idx sub value bytes) := by
  unfold pairSharedEntry
  have hF : From 4398046511280 s s := From.refl _ _
  split
  · rename_i y0 y1 e2
    split
    · rename_i e3
      extract_lets +onlyGivenNames x4
      have hx4 : From 4398046511280 s x4 := by
        subst x4
        refine From.step (recvOther_from ..) ?_ rfl
        exact hF
      clear_value x4
      extract_lets +onlyGivenNames x5
      clear_value x5
      extract_lets +onlyGivenNames x6
      clear_value x6
      split
      · rename_i e7
        extract_lets +onlyGivenNames x8
        clear_value x8
        refine From.step (journalOwn_from ..) ?_ rfl
        refine From.step (stageAt_from ..) ?_ rfl
        exact hx4
      · rename_i e9
        refine From.step (journalAsk_from ..) ?_ rfl
        exact hx4
    · rename_i e10
      exact hF
  · rename_i y11 e12
    exact hF

theorem execPairSharedEntry_from (index sub value : Nat) (bytes : Bytes) {s : State} : FromO 15429401184178 s (execPairSharedEntry index sub value bytes s) := by
  unfold execPairSharedEntry
  have hF : From 15429401184178 s s := From.refl _ _
  refine FromO.next ?_
  refine From.step (settle_from ..) ?_ rfl
  refine From.step (pairSharedEntry_from ..) ?_ rfl
  exact hF

theorem powerCoordination_from {s : State} (target : Nat) : From 4398046511104 s (powerCoordination s target) := by
  unfold powerCoordination
  have hF : From 4398046511104 s s := From.refl _ _
  split
  · rename_i e0
    extract_lets +onlyGivenNames x1
    have hx1 : From 4398046511104 s x1 := by
      subst x1
      refine From.step (recvOther_from ..) ?_ rfl
      exact hF
    clear_value x1
    with_reducible exact From.set_pair hx1 _ rfl
  · rename_i e2
    exact hF

theorem execPowerCoordination_from (target : Nat) {s : State} : FromO 4398046511104 s (execPowerCoordination target s) := by
  unfold execPowerCoordination
  have hF : From 4398046511104 s s := From.refl _ _
  refine FromO.next ?_
  refine From.step (powerCoordination_from ..) ?_ rfl
  exact hF

theorem pairRefused_from {s : State} (cause : Nat) : From 4398046642434 s (pairRefused s cause) := by
  unfold pairRefused
  have hF : From 4398046642434 s s := From.refl _ _
  refine From.step (cfsAll_from ..) ?_ rfl
  refine From.step (event_from ..) ?_ rfl
  with_reducible exact From.set_pair hF _ rfl

theorem newRun_from {s : State} : From 4398046511104 s (newRun s) := by
  unfold newRun
  have hF : From 4398046511104 s s := From.refl _ _
  with_reducible exact From.set_pair hF _ rfl

theorem formed_from {s : State} : From 4433548805634 s (formed s) := by
  unfold formed
  have hF : From 4433548805634 s s := From.refl _ _
  extract_lets +onlyGivenNames x0
  clear_value x0
  extract_lets +onlyGivenNames x1
  have hx1 : From 4433548805634 s x1 := by
    subst x1
    refine From.step (newRun_from ..) ?_ rfl
    exact hF
  clear_value x1
  split
  · rename_i e2
    refine From.step (anaTo_from ..) ?_ rfl
    refine From.step (anaTo_from ..) ?_ rfl
    with_reducible exact From.set_pair hx1 _ rfl
  · rename_i e3
    split
    · rename_i e4
      with_reducible exact From.set_pair hx1 _ rfl
    · rename_i e5
      refine From.step (gateHalf_from ..) ?_ rfl
      refine From.step (anaTo_from ..) ?_ rfl
      with_reducible exact From.set_pair hx1 _ rfl

theorem handOver_from {s : State} (h : Nat) : From 4399189067266 s (handOver s h) := by
  unfold handOver
  have hF : From 4399189067266 s s := From.refl _ _
  refine From.step (anaTo_from ..) ?_ rfl
  with_reducible exact From.set_pair hF _ rfl

theorem takeHalf_from {s : State} (h : Nat) : From 4433548805634 s (takeHalf s h) := by
  unfold takeHalf
  have hF : From 4433548805634 s s := From.refl _ _
  refine From.step (anaTo_from ..) ?_ rfl
  refine From.step (gateHalf_from ..) ?_ rfl
  with_reducible exact From.set_pair hF _ rfl

theorem formation_from {s : State} (f : FormRec) : From 4433548805890 s (formation s f) := by
  unfold formation
  have hF : From 4433548805890 s s := From.refl _ _
  extract_lets +onlyGivenNames x0
  clear_value x0
  extract_lets +onlyGivenNames x1
  clear_value x1
  split
  · rename_i e2
    exact hF
  · rename_i e3
    split
    · rename_i e4
      split
      · rename_i e5
        refine From.step (takeHalf_from ..) ?_ rfl
        exact hF
      · rename_i e6
        split
        · rename_i e7
          refine From.step (takeHalf_from ..) ?_ rfl
          exact hF
        · rename_i e8
          split
          · rename_i e9
            refine From.step (handOver_from ..) ?_ rfl
            exact hF
          · rename_i e10
            exact hF
    · rename_i e11
      split
      · rename_i e12
        split
        · rename_i y13 e14
          refine From.step (formed_from ..) ?_ rfl
          exact hF
        · rename_i y15 e16
          refine From.step (pairRefused_from ..) ?_ rfl
          exact hF
      · rename_i e17
        split
        · rename_i e18
          split
          · rename_i y19 e20
            refine From.step (handOver_from ..) ?_ rfl
            refine From.step (newRun_from ..) ?_ rfl
            exact hF
          · rename_i y21 e22
            refine From.step (pairRefused_from ..) ?_ rfl
            exact hF
        · rename_i e23
          split
          · rename_i e24
            split
            · rename_i y25 e26
              refine From.step (newRun_from ..) ?_ rfl
              exact hF
            · rename_i y27 e28
              refine From.step (pairRefused_from ..) ?_ rfl
              exact hF
          · rename_i e29
            exact hF

theorem execFormation_from (f : FormRec) {s : State} : FromO 15429401184002 s (execFormation f s) := by
  unfold execFormation
  have hF : From 15429401184002 s s := From.refl _ _
  refine FromO.next ?_
  refine From.step (settle_from ..) ?_ rfl
  refine From.step (formation_from ..) ?_ rfl
  exact hF

theorem partnerFence_from {s : State} : From 15428858021826 s (partnerFence s) := by
  unfold partnerFence
  have hF : From 15428858021826 s s := From.refl _ _
  split
  · rename_i e0
    exact hF
  · rename_i e1
    extract_lets +onlyGivenNames x2
    clear_value x2
    extract_lets +onlyGivenNames x3
    clear_value x3
    extract_lets +onlyGivenNames x4
    clear_value x4
    extract_lets +onlyGivenNames x5
    clear_value x5
    extract_lets +onlyGivenNames x6
    clear_value x6
    extract_lets +onlyGivenNames x7
    clear_value x7
    extract_lets +onlyGivenNames x8
    have hx8 : From 15428858021826 s x8 := by
      subst x8
      exact From.same 4432406249472 hF (by with_reducible rfl) rfl rfl
    clear_value x8
    extract_lets +onlyGivenNames x9
    have hx9 : From 15428858021826 s x9 := by
      subst x9
      refine From.step (anaTo_from ..) ?_ rfl
      refine From.step (anaTo_from ..) ?_ rfl
      exact hx8
    clear_value x9
    extract_lets +onlyGivenNames x10
    have hx10 : From 15428858021826 s x10 := by
      subst x10
      refine From.foldl ?_ ?_ _
      · exact hx9
      · intro a11 a12 a13
        refine From.step (mirApply_from ..) ?_ rfl
        exact a13
    clear_value x10
    extract_lets +onlyGivenNames x14
    clear_value x14
    extract_lets +onlyGivenNames x15
    have hx15 : From 15428858021826 s x15 := by
      subst x15
      with_reducible exact From.set_xlat hx10 _ rfl
    clear_value x15
    refine From.step (ackedWrites_from ..) ?_ rfl
    refine From.step (excuseReads_from ..) ?_ rfl
    refine From.step (gateHalf_from ..) ?_ rfl
    exact hx15

theorem pairFormTimeout_from {s : State} (edge : Bool) : From 15428858021826 s (pairFormTimeout s edge) := by
  unfold pairFormTimeout
  have hF : From 15428858021826 s s := From.refl _ _
  split
  · rename_i e0
    exact hF
  · rename_i e1
    split
    · rename_i e2
      refine From.step (partnerFence_from ..) ?_ rfl
      exact hF
    · rename_i e3
      with_reducible exact From.set_pair hF _ rfl

theorem execPairFormTimeout_from (edge : Bool) {s : State} : FromO 15429401184194 s (execPairFormTimeout edge s) := by
  unfold execPairFormTimeout
  have hF : From 15429401184194 s s := From.refl _ _
  refine FromO.next ?_
  refine From.step (settle_from ..) ?_ rfl
  refine From.step (pairFormTimeout_from ..) ?_ rfl
  exact hF

theorem pairDeadTime_from {s : State} (heartbeat : Bool) : From 15428858021826 s (pairDeadTime s heartbeat) := by
  unfold pairDeadTime
  have hF : From 15428858021826 s s := From.refl _ _
  extract_lets +onlyGivenNames x0
  clear_value x0
  extract_lets +onlyGivenNames x1
  have hx1 : From 15428858021826 s x1 := by
    subst x1
    with_reducible exact From.set_pair hF _ rfl
  clear_value x1
  split
  · rename_i e2
    exact hx1
  · rename_i e3
    split
    · rename_i e4
      refine From.step (partnerFence_from ..) ?_ rfl
      exact hx1
    · rename_i e5
      split
      · rename_i e6
        exact hx1
      · rename_i e7
        with_reducible exact From.set_pair hx1 _ rfl

theorem execPairDeadTime_from (heartbeat : Bool) {s : State} : FromO 15429401184194 s (execPairDeadTime heartbeat s) := by
  unfold execPairDeadTime
  have hF : From 15429401184194 s s := From.refl _ _
  refine FromO.next ?_
  refine From.step (settle_from ..) ?_ rfl
  refine From.step (pairDeadTime_from ..) ?_ rfl
  exact hF

theorem pairFenceDefer_from {s : State} (heartbeat : Bool) : From 15428858021826 s (pairFenceDefer s heartbeat) := by
  unfold pairFenceDefer
  have hF : From 15428858021826 s s := From.refl _ _
  split
  · rename_i e0
    exact hF
  · rename_i e1
    split
    · rename_i e2
      with_reducible exact From.set_pair hF _ rfl
    · rename_i e3
      refine From.step (partnerFence_from ..) ?_ rfl
      exact hF

theorem execPairFenceDefer_from (heartbeat : Bool) {s : State} : FromO 15429401184194 s (execPairFenceDefer heartbeat s) := by
  unfold execPairFenceDefer
  have hF : From 15429401184194 s s := From.refl _ _
  refine FromO.next ?_
  refine From.step (settle_from ..) ?_ rfl
  refine From.step (pairFenceDefer_from ..) ?_ rfl
  exact hF

theorem takeoverComplete_from {s : State} : From 7732683474738 s (takeoverComplete s) := by
  unfold takeoverComplete
  have hF : From 7732683474738 s s := From.refl _ _
  split
  · rename_i e0
    exact hF
  · rename_i e1
    extract_lets +onlyGivenNames x2
    clear_value x2
    extract_lets +onlyGivenNames x3
    have hx3 : From 7732683474738 s x3 := by
      subst x3
      refine From.step (cutUnits_from ..) ?_ rfl
      exact hF
    clear_value x3
    extract_lets +onlyGivenNames x4
    clear_value x4
    extract_lets +onlyGivenNames x5
    clear_value x5
    extract_lets +onlyGivenNames x6
    clear_value x6
    extract_lets +onlyGivenNames x7
    have hx7 : From 7732683474738 s x7 := by
      subst x7
      refine From.step (anaTo_from ..) ?_ rfl
      exact From.same 4432406249472 hx3 (by with_reducible rfl) rfl rfl
    clear_value x7
    extract_lets +onlyGivenNames x8
    have hx8 : From 7732683474738 s x8 := by
      subst x8
      refine From.step (bump32_from ..) ?_ rfl
      refine From.step (setV_from ..) ?_ rfl
      exact hx7
    clear_value x8
    refine From.foldl ?_ ?_ _
    · exact hx8
    · intro a9 a10 a11
      refine From.step (fwdRun_from ..) ?_ rfl
      exact a11

theorem execTakeoverComplete_from {s : State} : FromO 16528912811826 s (execTakeoverComplete s) := by
  unfold execTakeoverComplete
  have hF : From 16528912811826 s s := From.refl _ _
  refine FromO.next ?_
  refine From.step (settle_from ..) ?_ rfl
  refine From.step (takeoverComplete_from ..) ?_ rfl
  exact hF

theorem fenced_from {s : State} : From 17582656536426 s (fenced s) := by
  unfold fenced
  have hF : From 17582656536426 s s := From.refl _ _
  split
  · rename_i e0
    exact hF
  · rename_i e1
    extract_lets +onlyGivenNames x2
    have hx2 : From 17582656536426 s x2 := by
      subst x2
      refine From.step (nandFenced_from ..) ?_ rfl
      refine From.step (serviceEnd_from ..) ?_ rfl
      refine From.step (tally_from ..) ?_ rfl
      exact hF
    clear_value x2
    extract_lets +onlyGivenNames x3
    have hx3 : From 17582656536426 s x3 := by
      subst x3
      refine From.step (hubRestart_from ..) ?_ rfl
      exact hx2
    clear_value x3
    extract_lets +onlyGivenNames x4
    clear_value x4
    extract_lets +onlyGivenNames x5
    clear_value x5
    extract_lets +onlyGivenNames x6
    clear_value x6
    extract_lets +onlyGivenNames x7
    clear_value x7
    extract_lets +onlyGivenNames x8
    clear_value x8
    extract_lets +onlyGivenNames x9
    have hx9 : From 17582656536426 s x9 := by
      subst x9
      refine From.upd 6652912730112 (hx3) rfl rfl ?_ ?_ ?_ ?_ ?_ ?_ ?_ ?_ ?_ ?_ ?_ ?_ ?_ ?_ ?_ ?_ ?_ ?_ ?_
      all_goals with_reducible first | exact id | exact fun _ => Assoc.wf_nil | exact fun _ => From.nil_le | exact fun _ => From.sixteen | (intro w; repeat' first | exact w | exact From.nil_le | exact Assoc.wf_nil | split | apply Assoc.wf_foldl (fun m b w => Assoc.wf_put w) | apply Assoc.wf_put | apply Assoc.wf_upd | apply Assoc.wf_updD | apply Assoc.wf_del | apply Assoc.wf_keep | apply Assoc.wf_mapVal)
    clear_value x9
    refine From.step (cfsAll_from ..) ?_ rfl
    refine From.step (bootSelect_from ..) ?_ rfl
    exact hx9

theorem execFenced_from {s : State} : FromO 17583327625066 s (execFenced s) := by
  unfold execFenced
  have hF : From 17583327625066 s s := From.refl _ _
  refine FromO.next ?_
  refine From.step (settle_from ..) ?_ rfl
  refine From.step (fenced_from ..) ?_ rfl
  exact hF

theorem fenceRelease_from {s : State} : From 4398046511104 s (fenceRelease s) := by
  unfold fenceRelease
  have hF : From 4398046511104 s s := From.refl _ _
  split
  · rename_i e0
    with_reducible exact From.set_pair hF _ rfl
  · rename_i e1
    exact hF

theorem execFenceRelease_from {s : State} : FromO 4398046511104 s (execFenceRelease s) := by
  unfold execFenceRelease
  have hF : From 4398046511104 s s := From.refl _ _
  refine FromO.next ?_
  refine From.step (fenceRelease_from ..) ?_ rfl
  exact hF

theorem rejoinNow_from {s : State} : From 4399189067266 s (rejoinNow s).2 := by
  unfold rejoinNow
  have hF : From 4399189067266 s s := From.refl _ _
  split
  · rename_i e0
    refine From.pair ?_
    with_reducible exact From.set_pair hF _ rfl
  · rename_i e1
    split
    · rename_i e2
      extract_lets +onlyGivenNames x3
      clear_value x3
      extract_lets +onlyGivenNames x4
      have hx4 : From 4399189067266 s x4 := by
        subst x4
        with_reducible exact From.set_pair hF _ rfl
      clear_value x4
      refine From.pair ?_
      refine From.step (anaTo_from ..) ?_ rfl
      split
      · rename_i e5
        refine From.step (mirrorSend_from ..) ?_ rfl
        exact hx4
      · rename_i e6
        exact hx4
    · rename_i e7
      refine From.pair ?_
      exact hF

theorem execRejoin_from (a : Access) {s : State} : FromO 15429401184066 s (execRejoin a s) := by
  unfold execRejoin
  have hF : From 15429401184066 s s := From.refl _ _
  refine FromO.next ?_
  refine From.step (settle_from ..) ?_ rfl
  apply accessWrite_from
  · exact hF
  · intro a0 a1
    refine From.step (rejoinNow_from ..) ?_ rfl
    exact From.refl _ _
  · rfl

theorem surrenderNow_from {s : State} : From 4399189067266 s (surrenderNow s).2 := by
  unfold surrenderNow
  have hF : From 4399189067266 s s := From.refl _ _
  split
  · rename_i e0
    refine From.pair ?_
    refine From.step (handOver_from ..) ?_ rfl
    exact hF
  · rename_i e1
    refine From.pair ?_
    exact hF

theorem execSurrender_from (a : Access) {s : State} : FromO 15429401184066 s (execSurrender a s) := by
  unfold execSurrender
  have hF : From 15429401184066 s s := From.refl _ _
  refine FromO.next ?_
  refine From.step (settle_from ..) ?_ rfl
  apply accessWrite_from
  · exact hF
  · intro a0 a1
    refine From.step (surrenderNow_from ..) ?_ rfl
    exact From.refl _ _
  · rfl

theorem handFinish_from {s : State} : From 6632580450050 s (handFinish s) := by
  unfold handFinish
  have hF : From 6632580450050 s s := From.refl _ _
  split
  · rename_i y0 y1 y2 e3 e4
    extract_lets +onlyGivenNames x5
    have hx5 : From 6632580450050 s x5 := by
      subst x5
      refine From.step (cutUnits_from ..) ?_ rfl
      exact hF
    clear_value x5
    split
    · rename_i e6
      extract_lets +onlyGivenNames x7
      have hx7 : From 6632580450050 s x7 := by
        subst x7
        split
        · rename_i e8
          refine From.step (mirrorSend_from ..) ?_ rfl
          exact hx5
        · rename_i e9
          exact hx5
      clear_value x7
      refine From.step (gateHalf_from ..) ?_ rfl
      refine From.step (anaTo_from ..) ?_ rfl
      with_reducible exact From.set_pair hx7 _ rfl
    · rename_i e10
      exact hx5
  · rename_i y11 y12 e13
    exact hF

theorem addSigner_from {s : State} (value : Bytes) : From 1099511627840 s (addSigner s value).2 := by
  unfold addSigner
  have hF : From 1099511627840 s s := From.refl _ _
  extract_lets +onlyGivenNames x0
  clear_value x0
  extract_lets +onlyGivenNames x1
  clear_value x1
  extract_lets +onlyGivenNames x2
  clear_value x2
  split
  · rename_i e3
    refine From.pair ?_
    exact hF
  · rename_i e4
    refine From.pair ?_
    refine From.step (domChanged_from ..) ?_ rfl
    with_reducible exact From.set_boot hF _ rfl

theorem removeSigner_from {s : State} (value : Bytes) : From 1099511627840 s (removeSigner s value).2 := by
  unfold removeSigner
  have hF : From 1099511627840 s s := From.refl _ _
  extract_lets +onlyGivenNames x0
  clear_value x0
  extract_lets +onlyGivenNames x1
  clear_value x1
  split
  · rename_i e2
    refine From.pair ?_
    exact hF
  · rename_i e3
    split
    · rename_i e4
      refine From.pair ?_
      exact hF
    · rename_i e5
      split
      · rename_i e6
        refine From.pair ?_
        exact hF
      · rename_i e7
        refine From.pair ?_
        refine From.step (domChanged_from ..) ?_ rfl
        with_reducible exact From.set_boot hF _ rfl

theorem coded_from {m : Nat} {orig : State} {r : Nat × State} (hF : From m orig r.2) : From m orig (coded r).2 := hF

theorem execSignerKeyAdd_from (a : Access) (value : Bytes) {s : State} : FromO 1100788401730 s (execSignerKeyAdd a value s) := by
  unfold execSignerKeyAdd
  have hF : From 1100788401730 s s := From.refl _ _
  refine FromO.next ?_
  apply accessBytes_from
  · exact hF
  · intro a0 a1
    apply coded_from
    refine From.step (addSigner_from ..) ?_ rfl
    exact From.refl _ _
  · rfl

theorem execSignerKeyRemove_from (a : Access) (value : Bytes) {s : State} : FromO 1100788401730 s (execSignerKeyRemove a value s) := by
  unfold execSignerKeyRemove
  have hF : From 1100788401730 s s := From.refl _ _
  refine FromO.next ?_
  apply accessBytes_from
  · exact hF
  · intro a0 a1
    apply coded_from
    refine From.step (removeSigner_from ..) ?_ rfl
    exact From.refl _ _
  · rfl

theorem challenge_from {s : State} (nonce : Nat) : From 1099511627840 s (challenge s nonce) := by
  unfold challenge
  have hF : From 1099511627840 s s := From.refl _ _
  refine From.step (domChanged_from ..) ?_ rfl
  with_reducible exact From.set_boot hF _ rfl

theorem execAttestChallenge_from (a : Access) (nonce : Nat) {s : State} : FromO 1100788401730 s (execAttestChallenge a nonce s) := by
  unfold execAttestChallenge
  have hF : From 1100788401730 s s := From.refl _ _
  refine FromO.next ?_
  apply accessWrite_from
  · exact hF
  · intro a0 a1
    refine From.pair ?_
    refine From.step (challenge_from ..) ?_ rfl
    exact From.refl _ _
  · rfl

theorem attestReady_from {s : State} : From 1099511627840 s (attestReady s) := by
  unfold attestReady
  have hF : From 1099511627840 s s := From.refl _ _
  split
  · rename_i y0 y1 y2 e3 e4
    extract_lets +onlyGivenNames x5
    clear_value x5
    refine From.step (domChanged_from ..) ?_ rfl
    with_reducible exact From.set_boot hF _ rfl
  · rename_i y6 y7 e8
    exact hF

theorem execAttestReportReady_from {s : State} : FromO 1099511627840 s (execAttestReportReady s) := by
  unfold execAttestReportReady
  have hF : From 1099511627840 s s := From.refl _ _
  refine FromO.next ?_
  refine From.step (attestReady_from ..) ?_ rfl
  exact hF

theorem keySessionOp_from {s : State} (p : Path) (n slice : Nat) : From 8796093153344 s (keySessionOp s p n slice).2 := by
  unfold keySessionOp
  have hF : From 8796093153344 s s := From.refl _ _
  split
  · rename_i e0
    refine From.pair ?_
    exact hF
  · rename_i e1
    refine From.pair ?_
    refine From.step (openSession_from ..) ?_ rfl
    exact hF

theorem keyDeliverOp_from {s : State} (p : Path) (n : Nat) (value : Bytes) : From 131136 s (keyDeliverOp s p n value).2 := by
  unfold keyDeliverOp
  have hF : From 131136 s s := From.refl _ _
  split
  · rename_i e0
    refine From.pair ?_
    exact hF
  · rename_i e1
    refine From.step (deliverKey_from ..) ?_ rfl
    exact hF

theorem execKeySession_from (a : Access) (slice : Nat) {s : State} : FromO 8797369796162 s (execKeySession a slice s) := by
  unfold execKeySession
  have hF : From 8797369796162 s s := From.refl _ _
  refine FromO.next ?_
  apply accessWrite_from
  · exact hF
  · intro a0 a1
    apply coded_from
    refine From.step (keySessionOp_from ..) ?_ rfl
    exact From.refl _ _
  · rfl

theorem execKeyDeliver_from (a : Access) (value : Bytes) {s : State} : FromO 1276773954 s (execKeyDeliver a value s) := by
  unfold execKeyDeliver
  have hF : From 1276773954 s s := From.refl _ _
  refine FromO.next ?_
  apply accessBytes_from
  · exact hF
  · intro a0 a1
    apply coded_from
    refine From.step (keyDeliverOp_from ..) ?_ rfl
    exact From.refl _ _
  · rfl

theorem freshChallenge_from {s : State} : From 9895604649984 s (freshChallenge s).2 := by
  unfold freshChallenge
  have hF : From 9895604649984 s s := From.refl _ _
  split
  · rename_i y0 y1 y2 e3
    have h4 : From 9895604649984 s y2 := by
      refine From.snd e3 ?_
      refine From.step (freeBelow_from ..) ?_ rfl
      exact hF
    refine From.pair ?_
    with_reducible exact From.set_boot h4 _ rfl

theorem execServiceChallenge_from (a : Access) {s : State} : FromO 9896881423938 s (execServiceChallenge a s) := by
  unfold execServiceChallenge
  have hF : From 9896881423938 s s := From.refl _ _
  refine FromO.next ?_
  apply accessRead_from
  · exact hF
  · intro a0 a1
    refine From.step (freshChallenge_from ..) ?_ rfl
    exact From.refl _ _
  · rfl

theorem serviceUnlock_from {s : State} (p : Path) (value : Bytes) : From 1099511628034 s (serviceUnlock s p value).2 := by
  unfold serviceUnlock
  have hF : From 1099511628034 s s := From.refl _ _
  extract_lets +onlyGivenNames x0
  clear_value x0
  split
  · rename_i e1
    refine From.pair ?_
    exact hF
  · rename_i e2
    split
    · rename_i e3
      extract_lets +onlyGivenNames x4
      clear_value x4
      extract_lets +onlyGivenNames x5
      have hx5 : From 1099511628034 s x5 := by
        subst x5
        with_reducible exact From.set_boot hF _ rfl
      clear_value x5
      refine From.pair ?_
      refine From.step (event_from ..) ?_ rfl
      exact hx5
    · rename_i e6
      refine From.pair ?_
      refine From.step (setV_from ..) ?_ rfl
      with_reducible exact From.set_boot hF _ rfl

theorem execServiceUnlock_from (a : Access) (value : Bytes) {s : State} : FromO 1100788401986 s (execServiceUnlock a value s) := by
  unfold execServiceUnlock
  have hF : From 1100788401986 s s := From.refl _ _
  refine FromO.next ?_
  apply accessBytes_from
  · exact hF
  · intro a0 a1
    apply coded_from
    refine From.step (serviceUnlock_from ..) ?_ rfl
    exact From.refl _ _
  · rfl

theorem execServiceLock_from (a : Access) (x : Nat) {s : State} : FromO 1650544215874 s (execServiceLock a x s) := by
  unfold execServiceLock
  have hF : From 1650544215874 s s := From.refl _ _
  refine FromO.next ?_
  apply accessWrite_from
  · exact hF
  · intro a0 a1
    refine From.pair ?_
    refine From.step (serviceEnd_from ..) ?_ rfl
    exact From.refl _ _
  · rfl

theorem execServiceModeExpiry_from {s : State} : FromO 1649267441922 s (execServiceModeExpiry s) := by
  unfold execServiceModeExpiry
  have hF : From 1649267441922 s s := From.refl _ _
  refine FromO.next ?_
  refine From.step (serviceEnd_from ..) ?_ rfl
  exact hF

theorem execSecuritySend_from (c : Cmd) (secp _spsp _len : Nat) {s : State} : FromO 1142556162 s (execSecuritySend c secp _spsp _len s) := by
  unfold execSecuritySend
  have hF : From 1142556162 s s := From.refl _ _
  refine FromO.next ?_
  refine From.step (complete_from ..) ?_ rfl
  exact hF

theorem execSecurityReceive_from (c : Cmd) (secp spsp len : Nat) {s : State} : FromO 1276773890 s (execSecurityReceive c secp spsp len s) := by
  unfold execSecurityReceive
  have hF : From 1276773890 s s := From.refl _ _
  refine FromO.next ?_
  split
  · rename_i e0
    refine From.step (complete_from ..) ?_ rfl
    refine From.step (dmaOut_from ..) ?_ rfl
    exact hF
  · rename_i e1
    refine From.step (complete_from ..) ?_ rfl
    exact hF

theorem eccRegWrite_from {s : State} (off x : Nat) : From 274877906946 s (eccRegWrite s off x) := by
  unfold eccRegWrite
  have hF : From 274877906946 s s := From.refl _ _
  split
  · rename_i e0
    extract_lets +onlyGivenNames x1
    clear_value x1
    extract_lets +onlyGivenNames x2
    have hx2 : From 274877906946 s x2 := by
      subst x2
      refine From.step (modTest_from ..) ?_ rfl
      exact hF
    clear_value x2
    split
    · rename_i y3 e4
      refine From.step (eccTestWrite_from ..) ?_ rfl
      exact hx2
    · rename_i y5 e6
      refine From.step (eccTestWriteData_from ..) ?_ rfl
      exact hx2
    · rename_i y7 e8
      refine From.step (eccTestWriteCheck_from ..) ?_ rfl
      exact hx2
    · rename_i y9 e10
      refine From.step (eccTestReadCorrected_from ..) ?_ rfl
      exact hx2
    · rename_i y11 e12
      refine From.step (eccTestReadRaw_from ..) ?_ rfl
      exact hx2
    · rename_i y13 e14 e15 e16 e17 e18
      exact hx2
  · rename_i e19
    refine From.step (modTest_from ..) ?_ rfl
    exact hF

theorem serviceWindow_from {s : State} (fn off width : Nat) (write : Bool) (value : Nat) : From 275146344706 s (serviceWindow s fn off width write value) := by
  unfold serviceWindow
  have hF : From 275146344706 s s := From.refl _ _
  extract_lets +onlyGivenNames x0
  subst x0
  dsimp -zeta only
  split
  · rename_i e1
    exact hF
  · rename_i e2
    split
    · rename_i e3
      split
      · rename_i e4
        refine From.step (bump32_from ..) ?_ rfl
        exact hF
      · rename_i e5
        refine From.step (barReturn_from ..) ?_ rfl
        refine From.step (bump32_from ..) ?_ rfl
        exact hF
    · rename_i e6
      split
      · rename_i e7
        split
        · rename_i e8
          refine From.step (bump32_from ..) ?_ rfl
          exact hF
        · rename_i e9
          refine From.step (barReturn_from ..) ?_ rfl
          refine From.step (bump32_from ..) ?_ rfl
          exact hF
      · rename_i e10
        split
        · rename_i e11
          split
          · rename_i e12
            split
            · rename_i e13
              refine From.step (event_from ..) ?_ rfl
              refine From.step (bump32_from ..) ?_ rfl
              exact hF
            · rename_i e14
              refine From.step (barReturn_from ..) ?_ rfl
              refine From.step (event_from ..) ?_ rfl
              refine From.step (bump32_from ..) ?_ rfl
              exact hF
          · rename_i e15
            extract_lets +onlyGivenNames x16
            clear_value x16
            extract_lets +onlyGivenNames x17
            clear_value x17
            split
            · rename_i e18
              refine From.step (modUnit_from ..) ?_ rfl
              exact hF
            · rename_i e19
              refine From.step (barReturn_from ..) ?_ rfl
              exact hF
        · rename_i e20
          split
          · rename_i e21
            split
            · rename_i e22
              refine From.step (eccRegWrite_from ..) ?_ rfl
              exact hF
            · rename_i e23
              refine From.step (barReturn_from ..) ?_ rfl
              exact hF
          · rename_i e24
            split
            · rename_i e25
              exact hF
            · rename_i e26
              refine From.step (barReturn_from ..) ?_ rfl
              exact hF

theorem execServiceWindowAccess_from (fn off width : Nat) (write : Bool) (value : Nat) {s : State} : FromO 275146344706 s (execServiceWindowAccess fn off width write value s) := by
  unfold execServiceWindowAccess
  have hF : From 275146344706 s s := From.refl _ _
  refine FromO.next ?_
  refine From.step (serviceWindow_from ..) ?_ rfl
  exact hF

theorem nsAttribute_from {s : State} (nsid fn : Nat) : From 1142556162 s (nsAttribute s nsid fn) := by
  unfold nsAttribute
  have hF : From 1142556162 s s := From.refl _ _
  refine From.step (aen_from ..) ?_ rfl
  refine From.step (modInst_from ..) ?_ rfl
  exact hF

theorem ctrlApplies_from {s : State} (n x : Nat) : From 1073872898 s (ctrlApplies s n x) := by
  unfold ctrlApplies
  have hF : From 1073872898 s s := From.refl _ _
  split
  · rename_i e0
    split
    · rename_i e1
      refine From.step (instStateTo_from ..) ?_ rfl
      exact hF
    · rename_i e2
      exact hF
  · rename_i e3
    refine From.step (modInst_from ..) ?_ rfl
    exact hF

theorem coveApplies_from {s : State} (c old : Nat) : From 34359738368 s (coveApplies s c old) := by
  unfold coveApplies
  have hF : From 34359738368 s s := From.refl _ _
  split
  · rename_i e0
    refine From.step (modBound_from ..) ?_ rfl
    exact hF
  · rename_i e1
    exact hF

theorem applyStaged_from {s : State} (op : StagedOp) : From 2238824711683 s (applyStaged s op) := by
  unfold applyStaged
  have hF : From 2238824711683 s s := From.refl _ _
  split
  · rename_i y0 y1 y2
    extract_lets +onlyGivenNames x3
    clear_value x3
    extract_lets +onlyGivenNames x4
    have hx4 : From 2238824711683 s x4 := by
      subst x4
      refine From.step (entryApplied_from ..) ?_ rfl
      refine From.step (setV_from ..) ?_ rfl
      exact hF
    clear_value x4
    split
    · rename_i e5
      refine From.step (ctrlApplies_from ..) ?_ rfl
      exact hx4
    · rename_i e6
      split
      · rename_i y7 y8 e9
        refine From.step (coveApplies_from ..) ?_ rfl
        exact hx4
      · rename_i y10 e11
        exact hx4
  · rename_i y12 y13 y14
    split
    · rename_i e15
      refine From.step (nsAttribute_from ..) ?_ rfl
      refine From.upd 4194304 (hF) rfl rfl ?_ ?_ ?_ ?_ ?_ ?_ ?_ ?_ ?_ ?_ ?_ ?_ ?_ ?_ ?_ ?_ ?_ ?_ ?_
      all_goals with_reducible first | exact id | exact fun _ => Assoc.wf_nil | exact fun _ => From.nil_le | exact fun _ => From.sixteen | (intro w; repeat' first | exact w | exact From.nil_le | exact Assoc.wf_nil | split | apply Assoc.wf_foldl (fun m b w => Assoc.wf_put w) | apply Assoc.wf_put | apply Assoc.wf_upd | apply Assoc.wf_updD | apply Assoc.wf_del | apply Assoc.wf_keep | apply Assoc.wf_mapVal)
    · rename_i e16
      exact hF
  · rename_i y17 y18 y19
    split
    · rename_i e20
      refine From.step (nsAttribute_from ..) ?_ rfl
      refine From.upd 4194304 (hF) rfl rfl ?_ ?_ ?_ ?_ ?_ ?_ ?_ ?_ ?_ ?_ ?_ ?_ ?_ ?_ ?_ ?_ ?_ ?_ ?_
      all_goals with_reducible first | exact id | exact fun _ => Assoc.wf_nil | exact fun _ => From.nil_le | exact fun _ => From.sixteen | (intro w; repeat' first | exact w | exact From.nil_le | exact Assoc.wf_nil | split | apply Assoc.wf_foldl (fun m b w => Assoc.wf_put w) | apply Assoc.wf_put | apply Assoc.wf_upd | apply Assoc.wf_updD | apply Assoc.wf_del | apply Assoc.wf_keep | apply Assoc.wf_mapVal)
    · rename_i e21
      exact hF
  · rename_i y22 y23
    exact hF
  · rename_i y24 y25 y26 y27 y28 y29
    refine From.step (modInst_from ..) ?_ rfl
    exact hF
  · rename_i y30 y31
    with_reducible exact From.set_power hF _ rfl
  · rename_i y32 y33
    split
    · rename_i e34
      refine From.step (instStateTo_from ..) ?_ rfl
      exact hF
    · rename_i e35
      exact hF

theorem attachDone_from {s : State} (op : StagedOp) : From 3334636963634 s (attachDone s op) := by
  unfold attachDone
  have hF : From 3334636963634 s s := From.refl _ _
  split
  · rename_i y0 y1
    split
    · rename_i y2 y3 y4 e5
      refine From.step (nsFinish_from ..) ?_ rfl
      refine From.step (answer_from ..) ?_ rfl
      exact hF
    · rename_i y6 e7
      exact hF
  · rename_i y8 e9
    exact hF

theorem maximaChanged_from {s : State} (old : State) : From 1142556162 s (maximaChanged old s) := by
  unfold maximaChanged
  refine From.foldl (From.refl _ _) (fun u b h => ?_) _
  split
  · exact From.foldl h (fun u b h => From.step (nsAttribute_from _ _) h rfl) _
  · exact h

theorem openGen_from {s : State} (snap : Assoc Nat) : From 12 s (openGen s snap) := by
  unfold openGen
  have hF : From 12 s s := From.refl _ _
  exact From.same 12 hF (by with_reducible rfl) rfl rfl

theorem applyDue_from {s : State} (t : Nat) : From 3338931930943 s (applyDue s t) := by
  unfold applyDue
  have hF : From 3338931930943 s s := From.refl _ _
  extract_lets +onlyGivenNames x0
  clear_value x0
  extract_lets +onlyGivenNames x1
  clear_value x1
  extract_lets +onlyGivenNames x2
  have hx2 : From 3338931930943 s x2 := by
    subst x2
    exact From.same 48 hF (by with_reducible rfl) rfl rfl
  clear_value x2
  split
  · rename_i e3
    exact hx2
  · rename_i e4
    extract_lets +onlyGivenNames x5
    have hx5 : From 3338931930943 s x5 := by
      subst x5
      refine From.foldl ?_ ?_ _
      · refine From.step (openGen_from ..) ?_ rfl
        exact hx2
      · intro a6 a7 a8
        refine From.step (applyStaged_from ..) ?_ rfl
        exact a8
    clear_value x5
    extract_lets +onlyGivenNames x9
    have hx9 : From 3338931930943 s x9 := by
      subst x9
      refine From.foldl ?_ ?_ _
      · refine From.step (maximaChanged_from ..) ?_ rfl
        exact hx5
      · intro a10 a11 a12
        refine From.step (mbRefresh_from ..) ?_ rfl
        exact a12
    clear_value x9
    refine From.foldl ?_ ?_ _
    · refine From.step (capCheck_from ..) ?_ rfl
      exact hx9
    · intro a13 a14 a15
      refine From.step (attachDone_from ..) ?_ rfl
      exact a15

theorem calibrate_from {s : State} (opened free : Bool) : From 34359738382 s (calibrate s opened free) := by
  unfold calibrate
  have hF : From 34359738382 s s := From.refl _ _
  extract_lets +onlyGivenNames x0
  clear_value x0
  extract_lets +onlyGivenNames x1
  clear_value x1
  split
  · rename_i y2 y3 y4 e5
    have h6 : From 34359738382 s y4 := by
      refine From.snd e5 ?_
      refine From.step (calMoves_from ..) ?_ rfl
      exact hF
    extract_lets +onlyGivenNames x7
    have hx7 : From 34359738382 s x7 := by
      subst x7
      split
      · rename_i e8
        refine From.step (openGen_from ..) ?_ rfl
        exact h6
      · rename_i e9
        exact h6
    clear_value x7
    split
    · rename_i e10
      refine From.step (calEvaluate_from ..) ?_ rfl
      exact hx7
    · rename_i e11
      exact hx7

theorem applyHeld_from {s : State} : From 2199023255619 s (applyHeld s) := by
  unfold applyHeld
  have hF : From 2199023255619 s s := From.refl _ _
  extract_lets +onlyGivenNames x0
  clear_value x0
  refine From.foldl ?_ ?_ _
  · with_reducible exact From.set_miowa hF _ rfl
  · intro a1 a2 a3
    refine From.step (applyRec_from ..) ?_ rfl
    exact a3

theorem tideEdge_from {s : State} : From 2097153 s (tideEdge s) := by
  unfold tideEdge
  have hF : From 2097153 s s := From.refl _ _
  extract_lets +onlyGivenNames x0
  clear_value x0
  extract_lets +onlyGivenNames x1
  have hx1 : From 2097153 s x1 := by
    subst x1
    refine From.step (advance_from ..) ?_ rfl
    exact hF
  clear_value x1
  exact From.same 2097153 hx1 (by with_reducible rfl) rfl rfl

theorem tideBoundary_from {s : State} (crcFails : Bool) : From 16533207793535 s (tideBoundary s crcFails) := by
  unfold tideBoundary
  have hF : From 16533207793535 s s := From.refl _ _
  extract_lets +onlyGivenNames x0
  clear_value x0
  extract_lets +onlyGivenNames x1
  have hx1 : From 16533207793535 s x1 := by
    subst x1
    refine From.step (tideEdge_from ..) ?_ rfl
    exact hF
  clear_value x1
  extract_lets +onlyGivenNames x2
  clear_value x2
  extract_lets +onlyGivenNames x3
  have hx3 : From 16533207793535 s x3 := by
    subst x3
    refine From.step (calibrate_from ..) ?_ rfl
    refine From.step (applyDue_from ..) ?_ rfl
    exact hx1
  clear_value x3
  extract_lets +onlyGivenNames x4
  have hx4 : From 16533207793535 s x4 := by
    subst x4
    refine From.step (freeGens_from ..) ?_ rfl
    refine From.step (applyHeld_from ..) ?_ rfl
    exact hx3
  clear_value x4
  extract_lets +onlyGivenNames x5
  have hx5 : From 16533207793535 s x5 := by
    subst x5
    refine From.step (setV_from ..) ?_ rfl
    refine From.step (boundRecompute_from ..) ?_ rfl
    exact hx4
  clear_value x5
  extract_lets +onlyGivenNames x6
  have hx6 : From 16533207793535 s x6 := by
    subst x6
    split
    · rename_i e7
      exact hx5
    · rename_i e8
      refine From.step (crcTideTest_from ..) ?_ rfl
      exact hx5
  clear_value x6
  extract_lets +onlyGivenNames x9
  have hx9 : From 16533207793535 s x9 := by
    subst x9
    refine From.step (handFinish_from ..) ?_ rfl
    refine From.step (ebbBoundary_from ..) ?_ rfl
    exact hx6
  clear_value x9
  refine From.step (settle_from ..) ?_ rfl
  refine From.step (compactEraseEnd_from ..) ?_ rfl
  with_reducible exact From.set_power hx9 _ rfl

theorem execTideBoundary_from (crcTestFails : Bool) {s : State} : FromO 16533207793535 s (execTideBoundary crcTestFails s) := by
  unfold execTideBoundary
  have hF : From 16533207793535 s s := From.refl _ _
  refine FromO.next ?_
  refine From.step (tideBoundary_from ..) ?_ rfl
  exact hF

theorem timeBaseSwitch_from {s : State} (crystal portA portB : Bool) : From 259 s (timeBaseSwitch s crystal portA portB) := by
  unfold timeBaseSwitch
  have hF : From 259 s s := From.refl _ _
  extract_lets +onlyGivenNames x0
  clear_value x0
  extract_lets +onlyGivenNames x1
  clear_value x1
  extract_lets +onlyGivenNames x2
  have hx2 : From 259 s x2 := by
    subst x2
    refine From.step (timeBaseUpdate_from ..) ?_ rfl
    with_reducible exact From.set_clk hF _ rfl
  clear_value x2
  split
  · rename_i e3
    exact hx2
  · rename_i e4
    refine From.step (event_from ..) ?_ rfl
    exact hx2

theorem execTimeBaseSwitch_from (crystal portA portB : Bool) {s : State} : FromO 259 s (execTimeBaseSwitch crystal portA portB s) := by
  unfold execTimeBaseSwitch
  have hF : From 259 s s := From.refl _ _
  refine FromO.next ?_
  refine From.step (timeBaseSwitch_from ..) ?_ rfl
  exact hF

theorem speedSample_from {s : State} (dom reading : Nat) : From 4294967298 s (speedSample s dom reading) := by
  unfold speedSample
  have hF : From 4294967298 s s := From.refl _ _
  split
  · rename_i e0
    exact hF
  · rename_i e1
    extract_lets +onlyGivenNames x2
    clear_value x2
    extract_lets +onlyGivenNames x3
    have hx3 : From 4294967298 s x3 := by
      subst x3
      refine From.step (setV_from ..) ?_ rfl
      exact hF
    clear_value x3
    extract_lets +onlyGivenNames x4
    clear_value x4
    extract_lets +onlyGivenNames x5
    have hx5 : From 4294967298 s x5 := by
      subst x5
      split
      · rename_i e6
        with_reducible exact From.set_power hx3 _ rfl
      · rename_i e7
        exact hx3
    clear_value x5
    extract_lets +onlyGivenNames x8
    clear_value x8
    split
    · rename_i e9
      refine From.step (setV_from ..) ?_ rfl
      with_reducible exact From.set_power hx5 _ rfl
    · rename_i e10
      exact hx5

theorem execSpeedMonitorSample_from (dom reading : Nat) {s : State} : FromO 4294967298 s (execSpeedMonitorSample dom reading s) := by
  unfold execSpeedMonitorSample
  have hF : From 4294967298 s s := From.refl _ _
  refine FromO.next ?_
  refine From.step (speedSample_from ..) ?_ rfl
  exact hF

theorem speedLow_from {s : State} (dom reading : Nat) : From 14027458306 s (speedLow s dom reading) := by
  unfold speedLow
  have hF : From 14027458306 s s := From.refl _ _
  split
  · rename_i e0
    extract_lets +onlyGivenNames x1
    have hx1 : From 14027458306 s x1 := by
      subst x1
      refine From.step (event_from ..) ?_ rfl
      exact hF
    clear_value x1
    refine From.step (throttleCross_from ..) ?_ rfl
    with_reducible exact From.set_power hx1 _ rfl
  · rename_i e2
    exact hF

theorem execSpeedLow_from (dom reading : Nat) {s : State} : FromO 15442286085890 s (execSpeedLow dom reading s) := by
  unfold execSpeedLow
  have hF : From 15442286085890 s s := From.refl _ _
  refine FromO.next ?_
  refine From.step (settle_from ..) ?_ rfl
  refine From.step (speedLow_from ..) ?_ rfl
  exact hF

theorem dieLink_from {s : State} (link mismatches : Nat) (held : Held) : From 15429401184066 s (dieLink s link mismatches held) := by
  unfold dieLink
  have hF : From 15429401184066 s s := From.refl _ _
  split
  · rename_i e0
    exact hF
  · rename_i e1
    refine From.step (settle_from ..) ?_ rfl
    refine From.step (heldLost_from ..) ?_ rfl
    refine From.step (event_from ..) ?_ rfl
    exact hF

theorem execDieLinkTransfer_from (link mismatches : Nat) (held : Held) {s : State} : FromO 15429401184066 s (execDieLinkTransfer link mismatches held s) := by
  unfold execDieLinkTransfer
  have hF : From 15429401184066 s s := From.refl _ _
  refine FromO.next ?_
  refine From.step (dieLink_from ..) ?_ rfl
  exact hF

theorem strandGate_from {s : State} (x : Nat) : From 34359738368 s (strandGate s x) := by
  unfold strandGate
  have hF : From 34359738368 s s := From.refl _ _
  split
  · rename_i e0
    exact hF
  · rename_i e1
    with_reducible exact From.set_nand hF _ rfl

theorem strandWake_from {s : State} (x : Nat) : From 34359738368 s (strandWake s x) := by
  unfold strandWake
  have hF : From 34359738368 s s := From.refl _ _
  split
  · rename_i e0
    with_reducible exact From.set_nand hF _ rfl
  · rename_i e1
    exact hF

theorem execStrandGate_from (strand : Nat) {s : State} : FromO 34359738368 s (execStrandGate strand s) := by
  unfold execStrandGate
  have hF : From 34359738368 s s := From.refl _ _
  refine FromO.next ?_
  refine From.step (strandGate_from ..) ?_ rfl
  exact hF

theorem execStrandWake_from (strand : Nat) {s : State} : FromO 34359738368 s (execStrandWake strand s) := by
  unfold execStrandWake
  have hF : From 34359738368 s s := From.refl _ _
  refine FromO.next ?_
  refine From.step (strandWake_from ..) ?_ rfl
  exact hF

theorem refreshVersion_from {s : State} (key : Nat) : From 64 s (refreshVersion s key) := by
  unfold refreshVersion
  have hF : From 64 s s := From.refl _ _
  split
  · rename_i y0 y1 e2
    split
    · rename_i e3
      exact hF
    · rename_i e4
      refine From.step (setDom_from ..) ?_ rfl
      exact hF
  · rename_i y5 e6
    exact hF

theorem atTide_from {s : State} (t : Nat) : From 2 s (atTide s t) := by
  unfold atTide
  have hF : From 2 s s := From.refl _ _
  refine From.foldl ?_ ?_ _
  · exact hF
  · intro a0 a1 a2
    split
    · rename_i y3 y4 y5 e6
      split
      · rename_i e7
        refine From.step (setV_from ..) ?_ rfl
        exact a2
      · rename_i e8
        exact a2
    · rename_i y9 e10
      exact a2

theorem reply_from {s : State} (q : MiowaReq) (key : Nat) (a : Ans) (value : Bytes) : From 1276773954 s (reply s q key a value) := by
  unfold reply
  have hF : From 1276773954 s s := From.refl _ _
  refine From.step (respond_from ..) ?_ rfl
  exact hF

theorem refuse_from {s : State} (q : MiowaReq) (code : Nat) : From 1276773954 s (refuse s q code) := by
  unfold refuse
  have hF : From 1276773954 s s := From.refl _ _
  refine From.step (respond_from ..) ?_ rfl
  exact hF

theorem stageFull_from {s : State} (q : MiowaReq) (key : Nat) : From 1276773954 s (stageFull s q key) := by
  unfold stageFull
  have hF : From 1276773954 s s := From.refl _ _
  refine From.step (reply_from ..) ?_ rfl
  refine From.step (bump32_from ..) ?_ rfl
  exact hF

theorem shareWrite_from {s : State} (key len : Nat) : From 4398046511104 s (shareWrite s key len).2 := by
  unfold shareWrite
  have hF : From 4398046511104 s s := From.refl _ _
  split
  · rename_i e0
    extract_lets +onlyGivenNames x1
    have hx1 : From 4398046511104 s x1 := by
      subst x1
      refine From.step (mirrorSend_from ..) ?_ rfl
      exact hF
    clear_value x1
    refine From.pair ?_
    exact hx1
  · rename_i e2
    refine From.pair ?_
    exact hF

theorem stagedAccepted_from {s : State} (key x : Nat) : From 1073872898 s (stagedAccepted s key x) := by
  unfold stagedAccepted
  have hF : From 1073872898 s s := From.refl _ _
  extract_lets +onlyGivenNames x0
  clear_value x0
  split
  · rename_i e1
    exact hF
  · rename_i e2
    extract_lets +onlyGivenNames x3
    have hx3 : From 1073872898 s x3 := by
      subst x3
      refine From.step (mbRefresh_from ..) ?_ rfl
      exact hF
    clear_value x3
    split
    · rename_i e4
      refine From.step (instanceCtrlAccept_from ..) ?_ rfl
      exact hx3
    · rename_i e5
      exact hx3

theorem writeNow_from {s : State} (q : MiowaReq) (key x : Nat) (b : Bytes) : From 2200300029507 s (writeNow s q key x b) := by
  unfold writeNow
  have hF : From 2200300029507 s s := From.refl _ _
  split
  · rename_i e0
    refine From.step (reply_from ..) ?_ rfl
    with_reducible exact From.set_miowa hF _ rfl
  · rename_i e1
    refine From.step (reply_from ..) ?_ rfl
    refine From.step (entryApplied_from ..) ?_ rfl
    refine From.step (setV_from ..) ?_ rfl
    exact hF

theorem writeStaged_from {s : State} (q : MiowaReq) (key x : Nat) : From 1276774002 s (writeStaged s q key x) := by
  unfold writeStaged
  have hF : From 1276774002 s s := From.refl _ _
  extract_lets +onlyGivenNames x0
  clear_value x0
  split
  · rename_i e1
    refine From.step (stageFull_from ..) ?_ rfl
    exact hF
  · rename_i e2
    refine From.step (reply_from ..) ?_ rfl
    refine From.step (stagedAccepted_from ..) ?_ rfl
    refine From.step (stageAt_from ..) ?_ rfl
    exact hF

theorem writePersisted_from {s : State} (q : MiowaReq) (key : Nat) (b : Bytes) : From 4398046511296 s (writePersisted s q key b) := by
  unfold writePersisted
  have hF : From 4398046511296 s s := From.refl _ _
  split
  · rename_i y0 y1 y2 e3
    have h4 : From 4398046511296 s y2 := by
      refine From.snd e3 ?_
      refine From.step (shareWrite_from ..) ?_ rfl
      exact hF
    extract_lets +onlyGivenNames x5
    clear_value x5
    split
    · rename_i e6
      refine From.step (journalAsk_from ..) ?_ rfl
      with_reducible exact From.set_miowa h4 _ rfl
    · rename_i e7
      refine From.step (journalAsk_from ..) ?_ rfl
      exact h4

theorem writeStagedPersisted_from {s : State} (q : MiowaReq) (key x : Nat) (b : Bytes) : From 4399323285234 s (writeStagedPersisted s q key x b) := by
  unfold writeStagedPersisted
  have hF : From 4399323285234 s s := From.refl _ _
  extract_lets +onlyGivenNames x0
  clear_value x0
  split
  · rename_i e1
    refine From.step (stageFull_from ..) ?_ rfl
    exact hF
  · rename_i e2
    extract_lets +onlyGivenNames x3
    clear_value x3
    extract_lets +onlyGivenNames x4
    have hx4 : From 4399323285234 s x4 := by
      subst x4
      refine From.step (stagedAccepted_from ..) ?_ rfl
      refine From.step (stageAt_from ..) ?_ rfl
      exact hF
    clear_value x4
    split
    · rename_i y5 y6 y7 e8
      have h9 : From 4399323285234 s y7 := by
        refine From.snd e8 ?_
        refine From.step (shareWrite_from ..) ?_ rfl
        exact hx4
      refine From.step (journalAsk_from ..) ?_ rfl
      exact h9

theorem commitWrite_from {s : State} (q : MiowaReq) (acc key x : Nat) (b : Bytes) : From 6598346540787 s (commitWrite s q acc key x b) := by
  unfold commitWrite
  have hF : From 6598346540787 s s := From.refl _ _
  split
  · rename_i e0
    refine From.step (writeStaged_from ..) ?_ rfl
    exact hF
  · rename_i e1
    split
    · rename_i e2
      refine From.step (writePersisted_from ..) ?_ rfl
      exact hF
    · rename_i e3
      split
      · rename_i e4
        refine From.step (writeStagedPersisted_from ..) ?_ rfl
        exact hF
      · rename_i e5
        refine From.step (writeNow_from ..) ?_ rfl
        exact hF

theorem writeEntry_from {s : State} (q : MiowaReq) (r : Row) (key x : Nat) : From 6598346540787 s (writeEntry s q r key x) := by
  unfold writeEntry
  have hF : From 6598346540787 s s := From.refl _ _
  extract_lets +onlyGivenNames x0
  clear_value x0
  split
  · rename_i e1
    refine From.step (reply_from ..) ?_ rfl
    exact hF
  · rename_i e2
    refine From.step (commitWrite_from ..) ?_ rfl
    exact hF

theorem writeAccess_from {s : State} (a : Access) (idx sub x : Nat) : From 6598346540787 s (writeAccess s a idx sub x) := by
  unfold writeAccess
  have hF : From 6598346540787 s s := From.refl _ _
  extract_lets +onlyGivenNames x0
  clear_value x0
  split
  · rename_i y1 y2 e3
    refine From.step (refuse_from ..) ?_ rfl
    exact hF
  · rename_i y4 y5 y6 e7
    split
    · rename_i e8
      refine From.step (reply_from ..) ?_ rfl
      exact hF
    · rename_i e9
      refine From.step (writeEntry_from ..) ?_ rfl
      exact hF

theorem execInstanceCommit_from (a : Access) {s : State} : FromO 6598346540787 s (execInstanceCommit a s) := by
  unfold execInstanceCommit
  have hF : From 6598346540787 s s := From.refl _ _
  refine FromO.next ?_
  refine From.step (writeAccess_from ..) ?_ rfl
  exact hF

theorem execInstanceReclaim_from (a : Access) {s : State} : FromO 6598346540787 s (execInstanceReclaim a s) := by
  unfold execInstanceReclaim
  have hF : From 6598346540787 s s := From.refl _ _
  refine FromO.next ?_
  refine From.step (writeAccess_from ..) ?_ rfl
  exact hF

theorem execCoveDescWrite_from (a : Access) (cove value : Nat) {s : State} : FromO 6598346540787 s (execCoveDescWrite a cove value s) := by
  unfold execCoveDescWrite
  have hF : From 6598346540787 s s := From.refl _ _
  refine FromO.next ?_
  refine From.step (writeAccess_from ..) ?_ rfl
  exact hF

theorem execLossAck_from (a : Access) (x : Nat) {s : State} : FromO 6598346540787 s (execLossAck a x s) := by
  unfold execLossAck
  have hF : From 6598346540787 s s := From.refl _ _
  refine FromO.next ?_
  refine From.step (writeAccess_from ..) ?_ rfl
  exact hF

theorem execCompactClear_from (a : Access) (x : Nat) {s : State} : FromO 1276774210 s (execCompactClear a x s) := by
  unfold execCompactClear
  have hF : From 1276774210 s s := From.refl _ _
  refine FromO.next ?_
  apply accessWrite_from
  · exact hF
  · intro a0 a1
    refine From.pair ?_
    refine From.step (clearCompact_from ..) ?_ rfl
    exact From.refl _ _
  · rfl

theorem execTraceClear_from (a : Access) (x : Nat) {s : State} : FromO 1276773954 s (execTraceClear a x s) := by
  unfold execTraceClear
  have hF : From 1276773954 s s := From.refl _ _
  refine FromO.next ?_
  apply accessWrite_from
  · exact hF
  · intro a0 a1
    refine From.pair ?_
    refine From.step (clearTrace_from ..) ?_ rfl
    exact From.refl _ _
  · rfl

theorem execHistClear_from (a : Access) (x : Nat) {s : State} : FromO 1276773954 s (execHistClear a x s) := by
  unfold execHistClear
  have hF : From 1276773954 s s := From.refl _ _
  refine FromO.next ?_
  apply accessWrite_from
  · exact hF
  · intro a0 a1
    refine From.pair ?_
    refine From.step (clearHist_from ..) ?_ rfl
    exact From.refl _ _
  · rfl

theorem execHistCoveClear_from (a : Access) (x : Nat) {s : State} : FromO 1276773954 s (execHistCoveClear a x s) := by
  unfold execHistCoveClear
  have hF : From 1276773954 s s := From.refl _ _
  refine FromO.next ?_
  apply accessWrite_from
  · exact hF
  · intro a0 a1
    refine From.pair ?_
    refine From.step (clearHistCoves_from ..) ?_ rfl
    exact From.refl _ _
  · rfl

theorem execHeatQuery_from (a : Access) (x : Nat) {s : State} : FromO 1276773954 s (execHeatQuery a x s) := by
  unfold execHeatQuery
  have hF : From 1276773954 s s := From.refl _ _
  refine FromO.next ?_
  apply accessWrite_from
  · exact hF
  · intro a0 a1
    split
    · rename_i e2
      refine From.pair ?_
      exact From.refl _ _
    · rename_i e3
      refine From.pair ?_
      refine From.step (heatQuery_from ..) ?_ rfl
      exact From.refl _ _
  · rfl

theorem setCalendar_from {s : State} (x : Nat) : From 1 s (setCalendar s x) := by
  unfold setCalendar
  have hF : From 1 s s := From.refl _ _
  extract_lets +onlyGivenNames x0
  clear_value x0
  split
  · rename_i e1
    with_reducible exact From.set_clk hF _ rfl
  · rename_i e2
    with_reducible exact From.set_clk hF _ rfl

theorem execCalendarTime_from (a : Access) (x : Nat) {s : State} : FromO 1276773955 s (execCalendarTime a x s) := by
  unfold execCalendarTime
  have hF : From 1276773955 s s := From.refl _ _
  refine FromO.next ?_
  apply accessWrite_from
  · exact hF
  · intro a0 a1
    split
    · rename_i e2
      refine From.pair ?_
      exact From.refl _ _
    · rename_i e3
      refine From.pair ?_
      refine From.step (setCalendar_from ..) ?_ rfl
      exact From.refl _ _
  · rfl

theorem wmRecordTake_from {s : State} (w : Nat) : From 2 s (wmRecordTake s w).2 := by
  unfold wmRecordTake
  have hF : From 2 s s := From.refl _ _
  split
  · rename_i y0 y1 y2 e3
    have h4 : From 2 s y2 := by
      refine From.snd e3 ?_
      refine From.step (wmRecordRead_from ..) ?_ rfl
      exact hF
    refine From.pair ?_
    exact h4

theorem execWmRecordRc_from (a : Access) (w : Nat) {s : State} : FromO 1276773954 s (execWmRecordRc a w s) := by
  unfold execWmRecordRc
  have hF : From 1276773954 s s := From.refl _ _
  refine FromO.next ?_
  apply accessRead_from
  · exact hF
  · intro a0 a1
    refine From.step (wmRecordTake_from ..) ?_ rfl
    exact From.refl _ _
  · rfl

theorem imgRefuse_from {s : State} (code status pos : Nat) : From 2 s (imgRefuse s code status pos).2 := by
  unfold imgRefuse
  have hF : From 2 s s := From.refl _ _
  refine From.pair ?_
  refine From.step (setV_from ..) ?_ rfl
  exact hF

theorem imageLoadOp_from {s : State} (b : Bytes) : From 130 s (imageLoadOp s b).2 := by
  unfold imageLoadOp
  have hF : From 130 s s := From.refl _ _
  split
  · rename_i e0
    refine From.step (imgRefuse_from ..) ?_ rfl
    exact hF
  · rename_i e1
    split
    · rename_i e2
      refine From.step (imgRefuse_from ..) ?_ rfl
      exact hF
    · rename_i e3
      split
      · rename_i y4 e5
        refine From.step (imgRefuse_from ..) ?_ rfl
        exact hF
      · rename_i y6 y7 e8
        split
        · rename_i e9
          refine From.step (imgRefuse_from ..) ?_ rfl
          exact hF
        · rename_i e10
          split
          · rename_i y11 y12 y13 e14
            refine From.step (imgRefuse_from ..) ?_ rfl
            exact hF
          · rename_i y15 e16
            split
            · rename_i e17
              refine From.pair ?_
              with_reducible exact From.set_store hF _ rfl
            · rename_i e18
              refine From.pair ?_
              with_reducible exact From.set_store hF _ rfl

theorem execImageLoad_from (a : Access) (image : Bytes) {s : State} : FromO 1276774082 s (execImageLoad a image s) := by
  unfold execImageLoad
  have hF : From 1276774082 s s := From.refl _ _
  refine FromO.next ?_
  apply accessBytes_from
  · exact hF
  · intro a0 a1
    apply coded_from
    refine From.step (imageLoadOp_from ..) ?_ rfl
    exact From.refl _ _
  · rfl

theorem execConfigRevert_from (a : Access) (x : Nat) {s : State} : FromO 1276774082 s (execConfigRevert a x s) := by
  unfold execConfigRevert
  have hF : From 1276774082 s s := From.refl _ _
  refine FromO.next ?_
  apply accessWrite_from
  · exact hF
  · intro a0 a1
    refine From.pair ?_
    exact From.same 128 (From.refl _ _) (by with_reducible rfl) rfl rfl
  · rfl

theorem execOverlayDelete_from (a : Access) (x : Nat) {s : State} : FromO 1276774082 s (execOverlayDelete a x s) := by
  unfold execOverlayDelete
  have hF : From 1276774082 s s := From.refl _ _
  refine FromO.next ?_
  apply accessWrite_from
  · exact hF
  · intro a0 a1
    split
    · rename_i e2
      refine From.pair ?_
      exact From.refl _ _
    · rename_i e3
      refine From.pair ?_
      exact From.same 128 (From.refl _ _) (by with_reducible rfl) rfl rfl
  · rfl

theorem stageBatch_from {s : State} {t : Nat} {l : List (Nat × Nat)} {u : State} (e : stageBatch t s l = .ok u) :
    From 48 s u := by
  induction l generalizing s with
  | nil =>
    simp only [stageBatch, Except.ok.injEq] at e
    exact e ▸ From.refl _ _
  | cons p r ih =>
    obtain ⟨k, x⟩ := p
    simp only [stageBatch] at e
    split at e
    · exact absurd e (by simp)
    · exact From.step (ih e) (From.step (stageAt_from _ _) (From.refl _ _) rfl) rfl

theorem overlaySelectOp_from {s : State} (q : MiowaReq) (key x : Nat) : From 4399323285234 s (overlaySelectOp s q key x) := by
  unfold overlaySelectOp
  have hF : From 4399323285234 s s := From.refl _ _
  extract_lets +onlyGivenNames x0
  clear_value x0
  extract_lets +onlyGivenNames x1
  clear_value x1
  extract_lets +onlyGivenNames x2
  clear_value x2
  split
  · rename_i e3
    refine From.step (stageFull_from ..) ?_ rfl
    exact hF
  · rename_i e4
    split
    · rename_i y5 y6 e7
      refine From.step (reply_from ..) ?_ rfl
      exact hF
    · rename_i y8 y9 e10
      have h11 : From 4399323285234 s y9 := by
        refine From.step (stageBatch_from e10) ?_ rfl
        exact hF
      split
      · rename_i e12
        refine From.step (reply_from ..) ?_ rfl
        exact hF
      · rename_i e13
        extract_lets +onlyGivenNames x14
        have hx14 : From 4399323285234 s x14 := by
          subst x14
          refine From.foldl ?_ ?_ _
          · exact h11
          · intro a15 a16 a17
            split
            · rename_i e18
              exact a17
            · rename_i e19
              refine From.step (mbRefresh_from ..) ?_ rfl
              exact a17
        clear_value x14
        extract_lets +onlyGivenNames x20
        clear_value x20
        split
        · rename_i y21 y22 y23 e24
          have h25 : From 4399323285234 s y23 := by
            refine From.snd e24 ?_
            refine From.foldl_snd ?_ _ ?_
            · intro a26 a27 a28
              split
              · rename_i y29 y30 y31 e32
                have h33 : From 4399323285234 s y31 := by
                  refine From.snd e32 ?_
                  refine From.step (shareWrite_from ..) ?_ rfl
                  exact a28
                refine From.pair ?_
                exact h33
            · refine From.pair ?_
              exact hx14
          refine From.step (journalAsk_from ..) ?_ rfl
          exact h25

theorem overlaySelectWrite_from {s : State} (q : MiowaReq) (x : Nat) : From 4399323285234 s (overlaySelectWrite s q x) := by
  unfold overlaySelectWrite
  have hF : From 4399323285234 s s := From.refl _ _
  split
  · rename_i y0 y1 e2
    refine From.step (refuse_from ..) ?_ rfl
    exact hF
  · rename_i y3 y4 y5 e6
    split
    · rename_i e7
      refine From.step (reply_from ..) ?_ rfl
      exact hF
    · rename_i e8
      refine From.step (overlaySelectOp_from ..) ?_ rfl
      exact hF

theorem execOverlaySelect_from (a : Access) (x : Nat) {s : State} : FromO 4399323285234 s (execOverlaySelect a x s) := by
  unfold execOverlaySelect
  have hF : From 4399323285234 s s := From.refl _ _
  refine FromO.next ?_
  refine From.step (overlaySelectWrite_from ..) ?_ rfl
  exact hF

theorem after_from {m : Nat} {s t : State} {o : Host.Outcome State Fault Refusal} (h : From m s t) (ho : FromO m s o) :
    From m s (after t o) := by
  unfold after
  split
  · exact ho _ rfl
  · exact h

theorem getEntry_from {s : State} (q : MiowaReq) (r : Row) (key : Nat) : From 9896881423938 s (getEntry s q r key) := by
  unfold getEntry
  have hF : From 9896881423938 s s := From.refl _ _
  split
  · rename_i e0
    split
    · rename_i y1 y2 y3 e4
      have h5 : From 9896881423938 s y3 := by
        refine From.snd e4 ?_
        refine From.step (wmRecordTake_from ..) ?_ rfl
        exact hF
      refine From.step (reply_from ..) ?_ rfl
      exact h5
  · rename_i e6
    split
    · rename_i e7
      split
      · rename_i y8 y9 y10 e11
        have h12 : From 9896881423938 s y10 := by
          refine From.snd e11 ?_
          refine From.step (freshChallenge_from ..) ?_ rfl
          exact hF
        refine From.step (reply_from ..) ?_ rfl
        exact h12
    · rename_i e13
      extract_lets +onlyGivenNames x14
      clear_value x14
      extract_lets +onlyGivenNames x15
      clear_value x15
      extract_lets +onlyGivenNames x16
      clear_value x16
      extract_lets +onlyGivenNames x17
      have hx17 : From 9896881423938 s x17 := by
        subst x17
        split
        · rename_i e18
          refine From.step (setV_from ..) ?_ rfl
          exact hF
        · rename_i e19
          exact hF
      clear_value x17
      split
      · rename_i y20 y21 y22 y23 e24
        refine From.step (reply_from ..) ?_ rfl
        exact hF
      · rename_i y25 y26 y27 e28
        refine From.step (reply_from ..) ?_ rfl
        exact hx17

theorem describeEntry_from {s : State} (q : MiowaReq) (r : Row) (key : Nat) : From 1276773954 s (describeEntry s q r key) := by
  unfold describeEntry
  have hF : From 1276773954 s s := From.refl _ _
  extract_lets +onlyGivenNames x0
  clear_value x0
  extract_lets +onlyGivenNames x1
  clear_value x1
  refine From.step (reply_from ..) ?_ rfl
  exact hF

theorem ownWrite_from {s : State} {q : MiowaReq} {x : Nat} {t : State} (e : ownWrite s q x = some t) : From 17583327625211 s t := by
  unfold ownWrite at e
  extract_lets a run at e
  have key : ∀ {n : Nat} o, FromO n s o → n ||| 17583327625211 = 17583327625211 → run o = some t → From 17583327625211 s t := by
    intro n o ho hn e
    subst run
    simp only [Option.some.injEq] at e
    exact e ▸ after_from (From.refl _ _) (fun u hu => From.step (ho u hu) (From.refl _ _) hn)
  clear_value run
  split at e
  · simp only [Option.some.injEq] at e
    exact e ▸ From.step (overlaySelectWrite_from _ _) (From.refl _ _) rfl
  · exact key _ (execConfigRevert_from _ _) rfl e
  · exact key _ (execOverlayDelete_from _ _) rfl e
  · exact key _ (execCalendarTime_from _ _) rfl e
  · exact key _ (execKeySession_from _ _) rfl e
  · exact key _ (execKeyDeliver_from _ _) rfl e
  · split at e
    · exact key _ (execRejoin_from _) rfl e
    · split at e
      · exact key _ (execSurrender_from _) rfl e
      · exact absurd e (by simp)
  · exact key _ (execHuTestNow_from _ _) rfl e
  · split at e
    · exact key _ (execPowerRequestWake_from _) rfl e
    · exact key _ (execPowerRequestSleep_from _ _) rfl e
  · split at e
    · exact key _ (execManagementReset_from _) rfl e
    · exact absurd e (by simp)
  · exact key _ (execCfUnlockRegion_from _ _) rfl e
  · exact key _ (execCfLockRegion_from _ _) rfl e
  · exact key _ (execCfPasswordChange_from _ _) rfl e
  · exact key _ (execCfPasswordW_from _ _ _) rfl e
  · exact key _ (execFwRollbackCommit_from _ _) rfl e
  · exact key _ (execAttestChallenge_from _ _) rfl e
  · exact key _ (execServiceLock_from _ _) rfl e
  · exact key _ (execCompactClear_from _ _) rfl e
  · exact key _ (execTraceClear_from _ _) rfl e
  · exact key _ (execHistClear_from _ _) rfl e
  · exact key _ (execHistCoveClear_from _ _) rfl e
  · exact key _ (execHeatQuery_from _ _) rfl e
  · exact absurd e (by simp)

theorem resetRequest_from {s : State} (q : MiowaReq) (key : Nat) : From 17583327625194 s (resetRequest s q key) := by
  unfold resetRequest
  have hF : From 17583327625194 s s := From.refl _ _
  refine From.step (settle_from ..) ?_ rfl
  refine From.step (nvmSubsystemReset_from ..) ?_ rfl
  refine From.step (reply_from ..) ?_ rfl
  exact hF

theorem setEntry_from {s : State} (q : MiowaReq) (r : Row) (key : Nat) : From 17583327625211 s (setEntry s q r key) := by
  unfold setEntry
  have hF : From 17583327625211 s s := From.refl _ _
  extract_lets +onlyGivenNames x0
  clear_value x0
  split
  · rename_i e1
    refine From.step (reply_from ..) ?_ rfl
    exact hF
  · rename_i e2
    split
    · rename_i e3
      refine From.step (reply_from ..) ?_ rfl
      exact hF
    · rename_i e4
      split
      · rename_i e5
        refine From.step (reply_from ..) ?_ rfl
        exact hF
      · rename_i e6
        split
        · rename_i y7 y8 e9
          have h10 : From 17583327625211 s y8 := by
            refine From.step (ownWrite_from e9) ?_ rfl
            exact hF
          exact h10
        · rename_i y11 e12
          split
          · rename_i e13
            refine From.step (resetRequest_from ..) ?_ rfl
            exact hF
          · rename_i e14
            refine From.step (writeEntry_from ..) ?_ rfl
            exact hF

theorem domainRead_from {s : State} (p : Path) (key off len : Nat) : From 578 s (domainRead s p key off len).2 := by
  unfold domainRead
  extract_lets +onlyGivenNames s1 pk version
  have h1 : From 578 s s1 := From.step (refreshVersion_from _) (From.refl _ _) rfl
  clear_value s1
  split
  · exact From.step (popEntries_from _) h1 rfl
  · split
    · exact h1
    · split
      · exact h1
      · extract_lets +onlyGivenNames src s2 src2 s3 b
        have h2 : From 578 s s2 := by
          subst s2
          split
          · exact From.same 64 h1 (by with_reducible rfl) rfl rfl
          · exact h1
        clear_value s2
        show From 578 s s3
        subst s3
        split
        · exact From.same 64 h2 (by with_reducible rfl) rfl rfl
        · exact h2

theorem segReadEntry_from {s : State} (q : MiowaReq) (key : Nat) : From 1276773954 s (segReadEntry s q key) := by
  unfold segReadEntry
  have hF : From 1276773954 s s := From.refl _ _
  split
  · rename_i e0
    refine From.step (reply_from ..) ?_ rfl
    exact hF
  · rename_i e1
    split
    · rename_i y2 y3 y4 e5
      have h6 : From 1276773954 s y4 := by
        refine From.snd e5 ?_
        refine From.step (domainRead_from ..) ?_ rfl
        exact hF
      refine From.step (reply_from ..) ?_ rfl
      exact h6
    · rename_i y7 y8 y9 y10 e11
      have h12 : From 1276773954 s y10 := by
        refine From.snd e11 ?_
        refine From.step (domainRead_from ..) ?_ rfl
        exact hF
      refine From.step (reply_from ..) ?_ rfl
      exact h12

theorem logPageC1_from {s : State} (c : Cmd) (lsi offUpper offLower len : Nat) : From 1276773954 s (logPageC1 s c lsi offUpper offLower len) := by
  unfold logPageC1
  have hF : From 1276773954 s s := From.refl _ _
  extract_lets +onlyGivenNames x0
  clear_value x0
  split
  · rename_i e1
    refine From.step (complete_from ..) ?_ rfl
    exact hF
  · rename_i e2
    split
    · rename_i y3 y4 e5
      refine From.step (complete_from ..) ?_ rfl
      exact hF
    · rename_i y6 y7 y8 e9
      split
      · rename_i e10
        refine From.step (complete_from ..) ?_ rfl
        exact hF
      · rename_i e11
        split
        · rename_i y12 y13 y14 e15
          have h16 : From 1276773954 s y14 := by
            refine From.snd e15 ?_
            refine From.step (domainRead_from ..) ?_ rfl
            exact hF
          refine From.step (complete_from ..) ?_ rfl
          exact h16
        · rename_i y17 y18 y19 y20 e21
          have h22 : From 1276773954 s y20 := by
            refine From.snd e21 ?_
            refine From.step (domainRead_from ..) ?_ rfl
            exact hF
          refine From.step (complete_from ..) ?_ rfl
          refine From.step (dmaOut_from ..) ?_ rfl
          exact h22

theorem execGetLogPageC1_from (c : Cmd) (lsi offUpper offLower len : Nat) {s : State} : FromO 1276773954 s (execGetLogPageC1 c lsi offUpper offLower len s) := by
  unfold execGetLogPageC1
  have hF : From 1276773954 s s := From.refl _ _
  refine FromO.next ?_
  refine From.step (logPageC1_from ..) ?_ rfl
  exact hF

theorem xferPut_from {s : State} (key : Nat) (x : Option Xfer) : From 64 s (xferPut s key x) := by
  unfold xferPut
  have hF : From 64 s s := From.refl _ _
  with_reducible exact From.set_miowa hF _ rfl

theorem finishTransfer_from {s : State} (q : MiowaReq) (r : Row) (key : Nat) (b : Bytes) : From 8247613982707 s (finishTransfer s q r key b) := by
  unfold finishTransfer
  have hF : From 8247613982707 s s := From.refl _ _
  extract_lets +onlyGivenNames x0
  clear_value x0
  split
  · rename_i e1
    apply after_from
    · exact hF
    · exact FromO.weaken (execImageLoad_from _ _) rfl
  · rename_i e2
    split
    · rename_i e3
      apply after_from
      · exact hF
      · exact FromO.weaken (execFwRecoveryImage_from _ _) rfl
    · rename_i e4
      split
      · rename_i e5
        apply after_from
        · exact hF
        · exact FromO.weaken (execSignerKeyAdd_from _ _) rfl
      · rename_i e6
        split
        · rename_i e7
          apply after_from
          · exact hF
          · exact FromO.weaken (execSignerKeyRemove_from _ _) rfl
        · rename_i e8
          split
          · rename_i e9
            apply after_from
            · exact hF
            · exact FromO.weaken (execServiceUnlock_from _ _) rfl
          · rename_i e10
            split
            · rename_i e11
              refine From.step (reply_from ..) ?_ rfl
              exact hF
            · rename_i e12
              refine From.step (commitWrite_from ..) ?_ rfl
              exact hF

theorem takeSegment_from {s : State} (q : MiowaReq) (r : Row) (key : Nat) (x : Xfer) : From 8247613982707 s (takeSegment s q r key x) := by
  unfold takeSegment
  have hF : From 8247613982707 s s := From.refl _ _
  extract_lets +onlyGivenNames x0
  clear_value x0
  extract_lets +onlyGivenNames x1
  clear_value x1
  extract_lets +onlyGivenNames x2
  clear_value x2
  split
  · rename_i e3
    refine From.step (reply_from ..) ?_ rfl
    exact hF
  · rename_i e4
    split
    · rename_i e5
      refine From.step (reply_from ..) ?_ rfl
      exact hF
    · rename_i e6
      split
      · rename_i e7
        refine From.step (reply_from ..) ?_ rfl
        refine From.step (xferPut_from ..) ?_ rfl
        exact hF
      · rename_i e8
        split
        · rename_i e9
          refine From.step (reply_from ..) ?_ rfl
          exact hF
        · rename_i e10
          split
          · rename_i e11
            refine From.step (reply_from ..) ?_ rfl
            refine From.step (xferPut_from ..) ?_ rfl
            exact hF
          · rename_i e12
            refine From.step (finishTransfer_from ..) ?_ rfl
            refine From.step (xferPut_from ..) ?_ rfl
            exact hF

theorem segWriteFirst_from {s : State} (q : MiowaReq) (r : Row) (key : Nat) : From 8247613982707 s (segWriteFirst s q r key) := by
  unfold segWriteFirst
  have hF : From 8247613982707 s s := From.refl _ _
  split
  · rename_i e0
    refine From.step (reply_from ..) ?_ rfl
    exact hF
  · rename_i e1
    split
    · rename_i e2
      refine From.step (reply_from ..) ?_ rfl
      exact hF
    · rename_i e3
      split
      · rename_i e4
        refine From.step (reply_from ..) ?_ rfl
        exact hF
      · rename_i e5
        refine From.step (takeSegment_from ..) ?_ rfl
        exact hF

theorem segWriteEntry_from {s : State} (q : MiowaReq) (r : Row) (key : Nat) : From 8247613982707 s (segWriteEntry s q r key) := by
  unfold segWriteEntry
  have hF : From 8247613982707 s s := From.refl _ _
  split
  · rename_i e0
    refine From.step (reply_from ..) ?_ rfl
    exact hF
  · rename_i e1
    split
    · rename_i e2
      refine From.step (segWriteFirst_from ..) ?_ rfl
      exact hF
    · rename_i e3
      split
      · rename_i y4 e5
        refine From.step (reply_from ..) ?_ rfl
        exact hF
      · rename_i y6 y7 e8
        split
        · rename_i e9
          refine From.step (reply_from ..) ?_ rfl
          exact hF
        · rename_i e10
          split
          · rename_i e11
            refine From.step (reply_from ..) ?_ rfl
            refine From.step (xferPut_from ..) ?_ rfl
            exact hF
          · rename_i e12
            split
            · rename_i e13
              refine From.step (reply_from ..) ?_ rfl
              exact hF
            · rename_i e14
              refine From.step (takeSegment_from ..) ?_ rfl
              exact hF

theorem segAbortEntry_from {s : State} (q : MiowaReq) (key : Nat) : From 1276773954 s (segAbortEntry s q key) := by
  unfold segAbortEntry
  have hF : From 1276773954 s s := From.refl _ _
  split
  · rename_i y0 e1
    refine From.step (reply_from ..) ?_ rfl
    exact hF
  · rename_i y2 y3 e4
    split
    · rename_i e5
      refine From.step (reply_from ..) ?_ rfl
      exact hF
    · rename_i e6
      split
      · rename_i e7
        refine From.step (reply_from ..) ?_ rfl
        exact hF
      · rename_i e8
        refine From.step (reply_from ..) ?_ rfl
        refine From.step (xferPut_from ..) ?_ rfl
        exact hF

theorem execSegWriteTimeout_from (index sub inst : Nat) {s : State} : FromO 64 s (execSegWriteTimeout index sub inst s) := by
  unfold execSegWriteTimeout
  have hF : From 64 s s := From.refl _ _
  refine FromO.next ?_
  with_reducible exact From.set_miowa hF _ rfl

theorem serveEntry_from {s : State} (q : MiowaReq) (r : Row) (key : Nat) : From 17583327625211 s (serveEntry s q r key) := by
  unfold serveEntry
  have hF : From 17583327625211 s s := From.refl _ _
  split
  · rename_i e0
    refine From.step (getEntry_from ..) ?_ rfl
    exact hF
  · rename_i e1
    split
    · rename_i e2
      refine From.step (setEntry_from ..) ?_ rfl
      exact hF
    · rename_i e3
      split
      · rename_i e4
        refine From.step (describeEntry_from ..) ?_ rfl
        exact hF
      · rename_i e5
        split
        · rename_i e6
          refine From.step (segReadEntry_from ..) ?_ rfl
          exact hF
        · rename_i e7
          split
          · rename_i e8
            refine From.step (segWriteEntry_from ..) ?_ rfl
            exact hF
          · rename_i e9
            refine From.step (segAbortEntry_from ..) ?_ rfl
            exact hF

theorem serve_from {s : State} (q : MiowaReq) : From 17583327625211 s (serve s q) := by
  unfold serve
  have hF : From 17583327625211 s s := From.refl _ _
  split
  · rename_i e0
    refine From.step (bump32_from ..) ?_ rfl
    exact hF
  · rename_i e1
    split
    · rename_i e2
      split
      · rename_i y3 y4 e5
        refine From.step (complete_from ..) ?_ rfl
        exact hF
      · rename_i y6 e7
        exact hF
    · rename_i e8
      split
      · rename_i e9
        refine From.step (refuse_from ..) ?_ rfl
        exact hF
      · rename_i e10
        split
        · rename_i e11
          refine From.step (refuse_from ..) ?_ rfl
          exact hF
        · rename_i e12
          split
          · rename_i y13 y14 e15
            refine From.step (refuse_from ..) ?_ rfl
            exact hF
          · rename_i y16 y17 y18 e19
            split
            · rename_i e20
              refine From.step (reply_from ..) ?_ rfl
              exact hF
            · rename_i e21
              refine From.step (serveEntry_from ..) ?_ rfl
              exact hF

theorem execGet_from (q : MiowaReq) {s : State} : FromO 17583327625211 s (execGet q s) := by
  unfold execGet
  have hF : From 17583327625211 s s := From.refl _ _
  refine FromO.next ?_
  refine From.step (serve_from ..) ?_ rfl
  exact hF

theorem execSet_from (q : MiowaReq) {s : State} : FromO 17583327625211 s (execSet q s) := by
  unfold execSet
  have hF : From 17583327625211 s s := From.refl _ _
  refine FromO.next ?_
  refine From.step (serve_from ..) ?_ rfl
  exact hF

theorem execDescribe_from (q : MiowaReq) {s : State} : FromO 17583327625211 s (execDescribe q s) := by
  unfold execDescribe
  have hF : From 17583327625211 s s := From.refl _ _
  refine FromO.next ?_
  refine From.step (serve_from ..) ?_ rfl
  exact hF

theorem execSegRead_from (q : MiowaReq) {s : State} : FromO 17583327625211 s (execSegRead q s) := by
  unfold execSegRead
  have hF : From 17583327625211 s s := From.refl _ _
  refine FromO.next ?_
  refine From.step (serve_from ..) ?_ rfl
  exact hF

theorem execSegWrite_from (q : MiowaReq) {s : State} : FromO 17583327625211 s (execSegWrite q s) := by
  unfold execSegWrite
  have hF : From 17583327625211 s s := From.refl _ _
  refine FromO.next ?_
  refine From.step (serve_from ..) ?_ rfl
  exact hF

theorem execSegAbort_from (q : MiowaReq) {s : State} : FromO 17583327625211 s (execSegAbort q s) := by
  unfold execSegAbort
  have hF : From 17583327625211 s s := From.refl _ _
  refine FromO.next ?_
  refine From.step (serve_from ..) ?_ rfl
  exact hF

theorem execTraceDrain_from (q : MiowaReq) {s : State} : FromO 17583327625211 s (execTraceDrain q s) := by
  unfold execTraceDrain
  have hF : From 17583327625211 s s := From.refl _ _
  refine FromO.next ?_
  refine From.step (serve_from ..) ?_ rfl
  exact hF

theorem openData_from {s : State} (len : Nat) (fields : List (Nat × Bytes)) : From 8796093022208 s (openData s len fields).2 := by
  unfold openData
  have hF : From 8796093022208 s s := From.refl _ _
  refine From.pair ?_
  with_reducible exact From.set_freeCtr hF _ rfl

theorem returnData_from {s : State} (c : Cmd) (b : Bytes) : From 1276773890 s (returnData s c b) := by
  unfold returnData
  have hF : From 1276773890 s s := From.refl _ _
  refine From.step (complete_from ..) ?_ rfl
  refine From.step (dmaOut_from ..) ?_ rfl
  exact hF

theorem openOk_from {m : Nat} {orig t : State} {α : Type} {b : Bytes} {x : Bytes × State} (hx : From m orig x.2)
    (e : (.ok x : Except α (Bytes × State)) = .ok (b, t)) : From m orig t := by
  cases e
  exact hx

theorem identifyData_from {s : State} {c : Cmd} {cns cntid csi : Nat} {b : Bytes} {t : State}
    (e : identifyData s c cns cntid csi = .ok (b, t)) : From 8796093022208 s t := by
  have hF : From 8796093022208 s s := From.refl _ _
  unfold identifyData at e
  extract_lets nsData csiNs at e
  have ok : ∀ {x : Bytes × State}, From 8796093022208 s x.2 → (.ok x : Except NvStatus (Bytes × State)) = .ok (b, t) → From 8796093022208 s t := by
    intro x hx e
    cases e
    exact hx
  have hns : ∀ own f, nsData own f = .ok (b, t) → From 8796093022208 s t := by
    intro own f e
    subst nsData
    dsimp only at e
    split at e
    · exact ok (From.step (openData_from _ _) hF rfl) e
    · split at e
      · exact absurd e (by simp)
      · split at e
        · exact ok (From.step (openData_from _ _) hF rfl) e
        · exact ok hF e
  clear_value nsData
  have hcs : ∀ f, csiNs f = .ok (b, t) → From 8796093022208 s t := by
    intro f e
    subst csiNs
    dsimp only at e
    split at e
    · exact hns _ _ e
    · split at e
      · exact hns _ _ e
      · exact absurd e (by simp)
  clear_value csiNs
  split at e
  all_goals first
    | exact hns _ _ e
    | exact hcs _ e
    | exact ok (From.step (openData_from _ _) hF rfl) e
    | exact ok hF e
    | exact absurd e (by simp)
    | skip
  · split at e
    · exact ok (From.step (openData_from _ _) hF rfl) e
    · split at e
      · exact ok (From.step (openData_from _ _) hF rfl) e
      · exact absurd e (by simp)
  · split at e
    · exact ok hF e
    · exact absurd e (by simp)

theorem identify_from {s : State} (c : Cmd) (cns cntid csi : Nat) : From 8797369796098 s (identify s c cns cntid csi) := by
  unfold identify
  have hF : From 8797369796098 s s := From.refl _ _
  split
  · rename_i e0
    refine From.step (complete_from ..) ?_ rfl
    exact hF
  · rename_i e1
    split
    · rename_i y2 y3 y4 e5
      have h6 : From 8797369796098 s y4 := by
        refine From.step (identifyData_from e5) ?_ rfl
        exact hF
      refine From.step (returnData_from ..) ?_ rfl
      exact h6
    · rename_i y7 y8 e9
      refine From.step (complete_from ..) ?_ rfl
      exact hF

theorem execIdentify_from (c : Cmd) (cns cntid csi : Nat) {s : State} : FromO 8797369796098 s (execIdentify c cns cntid csi s) := by
  unfold execIdentify
  have hF : From 8797369796098 s s := From.refl _ _
  refine FromO.next ?_
  refine From.step (identify_from ..) ?_ rfl
  exact hF

theorem anaPage_from {s : State} : From 8796093022208 s (anaPage s).2 := by
  unfold anaPage
  have hF : From 8796093022208 s s := From.refl _ _
  extract_lets +onlyGivenNames x0
  subst x0
  dsimp -zeta only
  extract_lets +onlyGivenNames x1
  subst x1
  dsimp -zeta only
  with_reducible exact From.set_freeCtr hF _ rfl

theorem logPage_from {s : State} (c : Cmd) (lid : Nat) : From 8796093022208 s (logPage s c lid).2 := by
  unfold logPage
  have hF : From 8796093022208 s s := From.refl _ _
  extract_lets +onlyGivenNames x0
  clear_value x0
  split
  · rename_i e1
    refine From.pair ?_
    exact hF
  · rename_i e2
    split
    · rename_i e3
      refine From.step (openData_from ..) ?_ rfl
      exact hF
    · rename_i e4
      split
      · rename_i e5
        refine From.step (openData_from ..) ?_ rfl
        exact hF
      · rename_i e6
        split
        · rename_i e7
          refine From.step (openData_from ..) ?_ rfl
          exact hF
        · rename_i e8
          split
          · rename_i e9
            refine From.pair ?_
            exact hF
          · rename_i e10
            split
            · rename_i e11
              refine From.step (openData_from ..) ?_ rfl
              exact hF
            · rename_i e12
              split
              · rename_i e13
                refine From.step (anaPage_from ..) ?_ rfl
                exact hF
              · rename_i e14
                split
                · rename_i e15
                  refine From.pair ?_
                  exact hF
                · rename_i e16
                  split
                  · rename_i e17
                    refine From.step (openData_from ..) ?_ rfl
                    exact hF
                  · rename_i e18
                    refine From.pair ?_
                    exact hF

theorem logTaken_from {s : State} (c : Cmd) (lid : Nat) : From 131072 s (logTaken s c lid) := by
  unfold logTaken
  have hF : From 131072 s s := From.refl _ _
  extract_lets +onlyGivenNames x0
  have hx0 : From 131072 s x0 := by
    subst x0
    refine From.step (unmask_from ..) ?_ rfl
    exact hF
  clear_value x0
  split
  · rename_i e1
    refine From.step (modInst_from ..) ?_ rfl
    exact hx0
  · rename_i e2
    split
    · rename_i e3
      refine From.step (modInst_from ..) ?_ rfl
      exact hx0
    · rename_i e4
      exact hx0

theorem getLogPage_from {s : State} (c : Cmd) (lid off len : Nat) (rae : Bool) : From 8797369796098 s (getLogPage s c lid off len rae) := by
  unfold getLogPage
  have hF : From 8797369796098 s s := From.refl _ _
  split
  · rename_i e0
    refine From.step (complete_from ..) ?_ rfl
    exact hF
  · rename_i e1
    split
    · rename_i e2
      refine From.step (complete_from ..) ?_ rfl
      exact hF
    · rename_i e3
      split
      · rename_i y4 y5 y6 e7
        have h8 : From 8797369796098 s y6 := by
          refine From.snd e7 ?_
          refine From.step (logPage_from ..) ?_ rfl
          exact hF
        split
        · rename_i e9
          refine From.step (complete_from ..) ?_ rfl
          exact h8
        · rename_i e10
          refine From.step (returnData_from ..) ?_ rfl
          split
          · rename_i e11
            exact h8
          · rename_i e12
            refine From.step (logTaken_from ..) ?_ rfl
            exact h8

theorem execGetLogPage_from (c : Cmd) (lid _lsp off len : Nat) (rae : Bool) {s : State} : FromO 8797369796098 s (execGetLogPage c lid _lsp off len rae s) := by
  unfold execGetLogPage
  have hF : From 8797369796098 s s := From.refl _ _
  refine FromO.next ?_
  refine From.step (getLogPage_from ..) ?_ rfl
  exact hF

theorem getLogPageC2_from {s : State} (c : Cmd) (off len : Nat) (rae : Bool) : From 1276773890 s (getLogPageC2 s c off len rae) := by
  unfold getLogPageC2
  have hF : From 1276773890 s s := From.refl _ _
  split
  · rename_i e0
    refine From.step (complete_from ..) ?_ rfl
    exact hF
  · rename_i e1
    extract_lets +onlyGivenNames x2
    clear_value x2
    refine From.step (returnData_from ..) ?_ rfl
    split
    · rename_i e3
      exact hF
    · rename_i e4
      refine From.step (logTaken_from ..) ?_ rfl
      exact hF

theorem execGetLogPageC2_from (c : Cmd) (off len : Nat) (rae : Bool) {s : State} : FromO 1276773890 s (execGetLogPageC2 c off len rae s) := by
  unfold execGetLogPageC2
  have hF : From 1276773890 s s := From.refl _ _
  refine FromO.next ?_
  refine From.step (getLogPageC2_from ..) ?_ rfl
  exact hF

theorem stopLadder_from {s : State} (l : Ladder) : From 34359738370 s (stopLadder s l) := by
  unfold stopLadder
  have hF : From 34359738370 s s := From.refl _ _
  refine From.step (bump64_from ..) ?_ rfl
  refine From.step (modBlock_from ..) ?_ rfl
  refine From.step (dropLadder_from ..) ?_ rfl
  exact hF

theorem stopLadders_from {s : State} (f : Flight) : From 34359738370 s (stopLadders s f) := by
  unfold stopLadders
  have hF : From 34359738370 s s := From.refl _ _
  extract_lets +onlyGivenNames x0
  clear_value x0
  refine From.foldl ?_ ?_ _
  · exact hF
  · intro a1 a2 a3
    refine From.step (stopLadder_from ..) ?_ rfl
    exact a3

theorem abortFlight_from {s : State} (f : Flight) : From 2234533938946 s (abortFlight s f) := by
  unfold abortFlight
  have hF : From 2234533938946 s s := From.refl _ _
  extract_lets +onlyGivenNames x0
  have hx0 : From 2234533938946 s x0 := by
    subst x0
    refine From.step (stopLadders_from ..) ?_ rfl
    exact hF
  clear_value x0
  extract_lets +onlyGivenNames x1
  have hx1 : From 2234533938946 s x1 := by
    subst x1
    split
    · rename_i e2
      refine From.step (zoneWriteFail_from ..) ?_ rfl
      exact hx0
    · rename_i e3
      exact hx0
  clear_value x1
  refine From.step (completeFlight_from ..) ?_ rfl
  exact hx1

theorem tryAbort_from {s : State} {f : Flight} {t : State} (e : tryAbort s f = some t) : From 2234533938946 s t := by
  have hF : From 2234533938946 s s := From.refl _ _
  unfold tryAbort at e
  split at e
  · exact absurd e (by simp)
  · split at e
    · simp only [Option.some.injEq] at e
      exact e ▸ From.step (abortFlight_from _) hF rfl
    · split at e
      · simp only [Option.some.injEq] at e
        exact e ▸ From.step (abortFlight_from _) (From.step (abortFlight_from _) hF rfl) rfl
      · exact absurd e (by simp)

theorem abortQueued_from {s : State} (fn sqid cid : Nat) : From 1143472128 s (abortQueued s fn sqid cid) := by
  unfold abortQueued
  have hF : From 1143472128 s s := From.refl _ _
  extract_lets +onlyGivenNames x0
  clear_value x0
  extract_lets +onlyGivenNames x1
  clear_value x1
  extract_lets +onlyGivenNames x2
  have hx2 : From 1143472128 s x2 := by
    subst x2
    with_reducible exact From.set_eng hF _ rfl
  clear_value x2
  refine From.step (postCqe_from ..) ?_ rfl
  exact hx2

theorem abort_from {s : State} (c : Cmd) (sqid cid : Nat) (queued : Bool) : From 2234536036098 s (abort s c sqid cid queued) := by
  unfold abort
  have hF : From 2234536036098 s s := From.refl _ _
  split
  · rename_i e0
    refine From.step (complete_from ..) ?_ rfl
    exact hF
  · rename_i e1
    split
    · rename_i y2 y3 e4
      split
      · rename_i y5 y6 e7
        have h8 : From 2234536036098 s y6 := by
          refine From.step (tryAbort_from e7) ?_ rfl
          exact hF
        refine From.step (complete_from ..) ?_ rfl
        exact h8
      · rename_i y9 e10
        refine From.step (complete_from ..) ?_ rfl
        exact hF
    · rename_i y11 e12
      split
      · rename_i e13
        refine From.step (complete_from ..) ?_ rfl
        refine From.step (abortQueued_from ..) ?_ rfl
        exact hF
      · rename_i e14
        refine From.step (complete_from ..) ?_ rfl
        exact hF

theorem execAbort_from (c : Cmd) (sqid cid : Nat) (queued : Bool) {s : State} : FromO 15429401184002 s (execAbort c sqid cid queued s) := by
  unfold execAbort
  have hF : From 15429401184002 s s := From.refl _ _
  refine FromO.next ?_
  refine From.step (settle_from ..) ?_ rfl
  refine From.step (abort_from ..) ?_ rfl
  exact hF

theorem aerLog_from {s : State} (fn : Nat) : From 8796093034496 s (aerLog s fn) := by
  unfold aerLog
  have hF : From 8796093034496 s s := From.refl _ _
  split
  · rename_i y0 y1 y2 e3
    have h4 : From 8796093034496 s y2 := by
      refine From.snd e3 ?_
      refine From.step (freeBelow_from ..) ?_ rfl
      exact hF
    extract_lets +onlyGivenNames x5
    clear_value x5
    refine From.step (modPort_from ..) ?_ rfl
    exact h4

theorem hostDmaError_from {s : State} (fn sqid cid : Nat) : From 11030626973442 s (hostDmaError s fn sqid cid) := by
  unfold hostDmaError
  have hF : From 11030626973442 s s := From.refl _ _
  split
  · rename_i y0 e1
    exact hF
  · rename_i y2 y3 e4
    split
    · rename_i e5
      split
      · rename_i e6
        exact hF
      · rename_i e7
        extract_lets +onlyGivenNames x8
        have hx8 : From 11030626973442 s x8 := by
          subst x8
          refine From.step (aerLog_from ..) ?_ rfl
          exact hF
        clear_value x8
        extract_lets +onlyGivenNames x9
        have hx9 : From 11030626973442 s x9 := by
          subst x9
          split
          · rename_i e10
            refine From.step (zoneWriteFail_from ..) ?_ rfl
            exact hx8
          · rename_i e11
            exact hx8
        clear_value x9
        refine From.step (completeFlight_from ..) ?_ rfl
        exact hx9
    · rename_i e12
      extract_lets +onlyGivenNames x13
      have hx13 : From 11030626973442 s x13 := by
        subst x13
        split
        · rename_i e14
          refine From.step (markHalf_from ..) ?_ rfl
          exact hF
        · rename_i e15
          exact hF
      clear_value x13
      refine From.step (completeFlight_from ..) ?_ rfl
      refine From.step (stopLadders_from ..) ?_ rfl
      exact hx13

theorem execHostDmaError_from (fn sqid cid : Nat) {s : State} : FromO 15429401196290 s (execHostDmaError fn sqid cid s) := by
  unfold execHostDmaError
  have hF : From 15429401196290 s s := From.refl _ _
  refine FromO.next ?_
  refine From.step (settle_from ..) ?_ rfl
  refine From.step (hostDmaError_from ..) ?_ rfl
  exact hF

theorem selState_from {s : State} (sel : Nat) : From 4294967296 s (selState s sel) := by
  unfold selState
  have hF : From 4294967296 s s := From.refl _ _
  split
  · rename_i e0
    exact hF
  · rename_i e1
    with_reducible exact From.set_power hF _ rfl

theorem getFeatures_from {s : State} (c : Cmd) (fid sel cdw11 : Nat) : From 5571741186 s (getFeatures s c fid sel cdw11) := by
  unfold getFeatures
  have hF : From 5571741186 s s := From.refl _ _
  extract_lets +onlyGivenNames x0
  clear_value x0
  split
  · rename_i e1
    refine From.step (complete_from ..) ?_ rfl
    exact hF
  · rename_i e2
    split
    · rename_i y3 e4
      refine From.step (complete_from ..) ?_ rfl
      exact hF
    · rename_i y5 y6 y7 e8
      split
      · rename_i e9
        refine From.step (complete_from ..) ?_ rfl
        exact hF
      · rename_i e10
        refine From.step (complete_from ..) ?_ rfl
        split
        · rename_i y11 y12
          refine From.step (dmaOut_from ..) ?_ rfl
          exact hF
        · rename_i y13
          exact hF

theorem execGetFeatures_from (c : Cmd) (fid sel cdw11 : Nat) {s : State} : FromO 5571741186 s (execGetFeatures c fid sel cdw11 s) := by
  unfold execGetFeatures
  have hF : From 5571741186 s s := From.refl _ _
  refine FromO.next ?_
  refine From.step (getFeatures_from ..) ?_ rfl
  exact hF

theorem setPowerManagement_from {s : State} (c : Cmd) (ps : Nat) : From 4403484034610 s (setPowerManagement s c ps) := by
  unfold setPowerManagement
  have hF : From 4403484034610 s s := From.refl _ _
  extract_lets +onlyGivenNames x0
  clear_value x0
  split
  · rename_i y1 e2
    split
    · rename_i e3
      refine From.step (complete_from ..) ?_ rfl
      exact hF
    · rename_i e4
      split
      · rename_i e5
        refine From.step (sleepRequest_from ..) ?_ rfl
        refine From.step (complete_from ..) ?_ rfl
        exact hF
      · rename_i e6
        split
        · rename_i e7
          refine From.step (complete_from ..) ?_ rfl
          refine From.step (bump32_from ..) ?_ rfl
          exact hF
        · rename_i e8
          refine From.step (complete_from ..) ?_ rfl
          refine From.step (stageAt_from ..) ?_ rfl
          with_reducible exact From.set_power hF _ rfl
  · rename_i y9 e10
    refine From.step (complete_from ..) ?_ rfl
    exact hF

theorem execSetPowerManagement_from (c : Cmd) (ps _wh : Nat) {s : State} : FromO 15433696151346 s (execSetPowerManagement c ps _wh s) := by
  unfold execSetPowerManagement
  have hF : From 15433696151346 s s := From.refl _ _
  refine FromO.next ?_
  refine From.step (settle_from ..) ?_ rfl
  refine From.step (setPowerManagement_from ..) ?_ rfl
  exact hF

theorem setTemperatureThreshold_from {s : State} (c : Cmd) (tmpsel : Nat) (under : Bool) (kelvin : Nat) : From 1142556162 s (setTemperatureThreshold s c tmpsel under kelvin) := by
  unfold setTemperatureThreshold
  have hF : From 1142556162 s s := From.refl _ _
  split
  · rename_i y0 e1
    split
    · rename_i e2
      refine From.step (complete_from ..) ?_ rfl
      exact hF
    · rename_i e3
      extract_lets +onlyGivenNames x4
      clear_value x4
      extract_lets +onlyGivenNames x5
      subst x5
      extract_lets +onlyGivenNames x6
      have hx6 : From 1142556162 s x6 := by
        subst x6
        refine From.step (modInst_from ..) ?_ rfl
        exact hF
      clear_value x6
      extract_lets +onlyGivenNames x7
      have hx7 : From 1142556162 s x7 := by
        subst x7
        refine From.step (complete_from ..) ?_ rfl
        exact hx6
      clear_value x7
      split
      · rename_i e8
        refine From.step (aen_from ..) ?_ rfl
        exact hx7
      · rename_i e9
        exact hx7
  · rename_i y10 e11
    refine From.step (complete_from ..) ?_ rfl
    exact hF

theorem execSetTemperatureThreshold_from (c : Cmd) (tmpsel : Nat) (under : Bool) (kelvin : Nat) {s : State} : FromO 1142556162 s (execSetTemperatureThreshold c tmpsel under kelvin s) := by
  unfold execSetTemperatureThreshold
  have hF : From 1142556162 s s := From.refl _ _
  refine FromO.next ?_
  refine From.step (setTemperatureThreshold_from ..) ?_ rfl
  exact hF

theorem setApst_from {s : State} (c : Cmd) (enable : Bool) (table : List (Nat × Nat)) : From 5437523458 s (setApst s c enable table) := by
  unfold setApst
  have hF : From 5437523458 s s := From.refl _ _
  split
  · rename_i y0 e1
    split
    · rename_i e2
      refine From.step (complete_from ..) ?_ rfl
      exact hF
    · rename_i e3
      refine From.step (complete_from ..) ?_ rfl
      with_reducible exact From.set_power hF _ rfl
  · rename_i y4 e5
    refine From.step (complete_from ..) ?_ rfl
    exact hF

theorem execSetAutonomousPowerStateTransition_from (c : Cmd) (enable : Bool) (table : List (Nat × Nat)) {s : State} : FromO 5437523458 s (execSetAutonomousPowerStateTransition c enable table s) := by
  unfold execSetAutonomousPowerStateTransition
  have hF : From 5437523458 s s := From.refl _ _
  refine FromO.next ?_
  refine From.step (setApst_from ..) ?_ rfl
  exact hF

theorem apstTransition_from {s : State} : From 4402341478402 s (apstTransition s) := by
  unfold apstTransition
  have hF : From 4402341478402 s s := From.refl _ _
  extract_lets +onlyGivenNames x0
  clear_value x0
  split
  · rename_i e1
    refine From.step (sleepRequest_from ..) ?_ rfl
    exact hF
  · rename_i e2
    exact hF

theorem execApstTransition_from {s : State} : FromO 15433696151298 s (execApstTransition s) := by
  unfold execApstTransition
  have hF : From 15433696151298 s s := From.refl _ _
  refine FromO.next ?_
  refine From.step (settle_from ..) ?_ rfl
  refine From.step (apstTransition_from ..) ?_ rfl
  exact hF

theorem execNvmeMiSend_from (c : Cmd) (_request : Bytes) {s : State} : FromO 1142556162 s (execNvmeMiSend c _request s) := by
  unfold execNvmeMiSend
  have hF : From 1142556162 s s := From.refl _ _
  refine FromO.next ?_
  refine From.step (complete_from ..) ?_ rfl
  exact hF

theorem nvmeMiReceive_from {s : State} (c : Cmd) (len : Nat) : From 8797369796098 s (nvmeMiReceive s c len) := by
  unfold nvmeMiReceive
  have hF : From 8797369796098 s s := From.refl _ _
  split
  · rename_i e0
    refine From.step (complete_from ..) ?_ rfl
    exact hF
  · rename_i e1
    split
    · rename_i e2
      refine From.step (complete_from ..) ?_ rfl
      exact hF
    · rename_i e3
      split
      · rename_i y4 y5 y6 e7
        have h8 : From 8797369796098 s y6 := by
          refine From.snd e7 ?_
          refine From.step (openData_from ..) ?_ rfl
          exact hF
        refine From.step (returnData_from ..) ?_ rfl
        exact h8

theorem execNvmeMiReceive_from (c : Cmd) (len : Nat) {s : State} : FromO 8797369796098 s (execNvmeMiReceive c len s) := by
  unfold execNvmeMiReceive
  have hF : From 8797369796098 s s := From.refl _ _
  refine FromO.next ?_
  refine From.step (nvmeMiReceive_from ..) ?_ rfl
  exact hF

end Sys2Proof.Machine
end

