-- ==== Sys2Proof/Laws/State.lean ====
section
/-! SUPPORT. Laws/State.lean: what each named update of the state leaves as it is (one lemma for each field, true by rfl), and what
a read gives after it. -/
namespace Sys2Proof.Machine
open Sys2Proof

@[simp] theorem setV_clk (s : State) (key x : Nat) : (setV s key x).clk = s.clk := rfl
@[simp] theorem setV_genNow (s : State) (key x : Nat) : (setV s key x).genNow = s.genNow := rfl
@[simp] theorem setV_gens (s : State) (key x : Nat) : (setV s key x).gens = s.gens := rfl
@[simp] theorem setV_reserved (s : State) (key x : Nat) : (setV s key x).reserved = s.reserved := rfl
@[simp] theorem setV_staged (s : State) (key x : Nat) : (setV s key x).staged = s.staged := rfl
@[simp] theorem setV_miowa (s : State) (key x : Nat) : (setV s key x).miowa = s.miowa := rfl
@[simp] theorem setV_store (s : State) (key x : Nat) : (setV s key x).store = s.store := rfl
@[simp] theorem setV_recd (s : State) (key x : Nat) : (setV s key x).recd = s.recd := rfl
@[simp] theorem setV_trace (s : State) (key x : Nat) : (setV s key x).trace = s.trace := rfl
@[simp] theorem setV_tel (s : State) (key x : Nat) : (setV s key x).tel = s.tel := rfl
@[simp] theorem setV_crc (s : State) (key x : Nat) : (setV s key x).crc = s.crc := rfl
@[simp] theorem setV_portA (s : State) (key x : Nat) : (setV s key x).portA = s.portA := rfl
@[simp] theorem setV_portB (s : State) (key x : Nat) : (setV s key x).portB = s.portB := rfl
@[simp] theorem setV_portMode (s : State) (key x : Nat) : (setV s key x).portMode = s.portMode := rfl
@[simp] theorem setV_vfSplit (s : State) (key x : Nat) : (setV s key x).vfSplit = s.vfSplit := rfl
@[simp] theorem setV_wakeLow (s : State) (key x : Nat) : (setV s key x).wakeLow = s.wakeLow := rfl
@[simp] theorem setV_insts (s : State) (key x : Nat) : (setV s key x).insts = s.insts := rfl
@[simp] theorem setV_sqs (s : State) (key x : Nat) : (setV s key x).sqs = s.sqs := rfl
@[simp] theorem setV_cqs (s : State) (key x : Nat) : (setV s key x).cqs = s.cqs := rfl
@[simp] theorem setV_flights (s : State) (key x : Nat) : (setV s key x).flights = s.flights := rfl
@[simp] theorem setV_eng (s : State) (key x : Nat) : (setV s key x).eng = s.eng := rfl
@[simp] theorem setV_nss (s : State) (key x : Nat) : (setV s key x).nss = s.nss := rfl
@[simp] theorem setV_zones (s : State) (key x : Nat) : (setV s key x).zones = s.zones := rfl
@[simp] theorem setV_blocks (s : State) (key x : Nat) : (setV s key x).blocks = s.blocks := rfl
@[simp] theorem setV_pis (s : State) (key x : Nat) : (setV s key x).pis = s.pis := rfl
@[simp] theorem setV_lastCqe (s : State) (key x : Nat) : (setV s key x).lastCqe = s.lastCqe := rfl
@[simp] theorem setV_hostOut (s : State) (key x : Nat) : (setV s key x).hostOut = s.hostOut := rfl
@[simp] theorem setV_barRead (s : State) (key x : Nat) : (setV s key x).barRead = s.barRead := rfl
@[simp] theorem setV_keyChecks (s : State) (key x : Nat) : (setV s key x).keyChecks = s.keyChecks := rfl
@[simp] theorem setV_msix (s : State) (key x : Nat) : (setV s key x).msix = s.msix := rfl
@[simp] theorem setV_msixTable (s : State) (key x : Nat) : (setV s key x).msixTable = s.msixTable := rfl
@[simp] theorem setV_power (s : State) (key x : Nat) : (setV s key x).power = s.power := rfl
@[simp] theorem setV_thermal (s : State) (key x : Nat) : (setV s key x).thermal = s.thermal := rfl
@[simp] theorem setV_wdt (s : State) (key x : Nat) : (setV s key x).wdt = s.wdt := rfl
@[simp] theorem setV_nand (s : State) (key x : Nat) : (setV s key x).nand = s.nand := rfl
@[simp] theorem setV_comp (s : State) (key x : Nat) : (setV s key x).comp = s.comp := rfl
@[simp] theorem setV_dram (s : State) (key x : Nat) : (setV s key x).dram = s.dram := rfl
@[simp] theorem setV_bufs (s : State) (key x : Nat) : (setV s key x).bufs = s.bufs := rfl
@[simp] theorem setV_cf (s : State) (key x : Nat) : (setV s key x).cf = s.cf := rfl
@[simp] theorem setV_boot (s : State) (key x : Nat) : (setV s key x).boot = s.boot := rfl
@[simp] theorem setV_xlat (s : State) (key x : Nat) : (setV s key x).xlat = s.xlat := rfl
@[simp] theorem setV_pair (s : State) (key x : Nat) : (setV s key x).pair = s.pair := rfl
@[simp] theorem setV_freeCtr (s : State) (key x : Nat) : (setV s key x).freeCtr = s.freeCtr := rfl
@[simp] theorem setV_pending (s : State) (key x : Nat) : (setV s key x).pending = s.pending := rfl
@[simp] theorem inst_setV (s : State) (key x : Nat) (i : Nat) : inst (setV s key x) i = inst s i := rfl

@[simp] theorem bump_clk (s : State) (key w n : Nat) : (bump s key w n).clk = s.clk := rfl
@[simp] theorem bump_genNow (s : State) (key w n : Nat) : (bump s key w n).genNow = s.genNow := rfl
@[simp] theorem bump_gens (s : State) (key w n : Nat) : (bump s key w n).gens = s.gens := rfl
@[simp] theorem bump_reserved (s : State) (key w n : Nat) : (bump s key w n).reserved = s.reserved := rfl
@[simp] theorem bump_staged (s : State) (key w n : Nat) : (bump s key w n).staged = s.staged := rfl
@[simp] theorem bump_miowa (s : State) (key w n : Nat) : (bump s key w n).miowa = s.miowa := rfl
@[simp] theorem bump_store (s : State) (key w n : Nat) : (bump s key w n).store = s.store := rfl
@[simp] theorem bump_recd (s : State) (key w n : Nat) : (bump s key w n).recd = s.recd := rfl
@[simp] theorem bump_trace (s : State) (key w n : Nat) : (bump s key w n).trace = s.trace := rfl
@[simp] theorem bump_tel (s : State) (key w n : Nat) : (bump s key w n).tel = s.tel := rfl
@[simp] theorem bump_crc (s : State) (key w n : Nat) : (bump s key w n).crc = s.crc := rfl
@[simp] theorem bump_portA (s : State) (key w n : Nat) : (bump s key w n).portA = s.portA := rfl
@[simp] theorem bump_portB (s : State) (key w n : Nat) : (bump s key w n).portB = s.portB := rfl
@[simp] theorem bump_portMode (s : State) (key w n : Nat) : (bump s key w n).portMode = s.portMode := rfl
@[simp] theorem bump_vfSplit (s : State) (key w n : Nat) : (bump s key w n).vfSplit = s.vfSplit := rfl
@[simp] theorem bump_wakeLow (s : State) (key w n : Nat) : (bump s key w n).wakeLow = s.wakeLow := rfl
@[simp] theorem bump_insts (s : State) (key w n : Nat) : (bump s key w n).insts = s.insts := rfl
@[simp] theorem bump_sqs (s : State) (key w n : Nat) : (bump s key w n).sqs = s.sqs := rfl
@[simp] theorem bump_cqs (s : State) (key w n : Nat) : (bump s key w n).cqs = s.cqs := rfl
@[simp] theorem bump_flights (s : State) (key w n : Nat) : (bump s key w n).flights = s.flights := rfl
@[simp] theorem bump_eng (s : State) (key w n : Nat) : (bump s key w n).eng = s.eng := rfl
@[simp] theorem bump_nss (s : State) (key w n : Nat) : (bump s key w n).nss = s.nss := rfl
@[simp] theorem bump_zones (s : State) (key w n : Nat) : (bump s key w n).zones = s.zones := rfl
@[simp] theorem bump_blocks (s : State) (key w n : Nat) : (bump s key w n).blocks = s.blocks := rfl
@[simp] theorem bump_pis (s : State) (key w n : Nat) : (bump s key w n).pis = s.pis := rfl
@[simp] theorem bump_lastCqe (s : State) (key w n : Nat) : (bump s key w n).lastCqe = s.lastCqe := rfl
@[simp] theorem bump_hostOut (s : State) (key w n : Nat) : (bump s key w n).hostOut = s.hostOut := rfl
@[simp] theorem bump_barRead (s : State) (key w n : Nat) : (bump s key w n).barRead = s.barRead := rfl
@[simp] theorem bump_keyChecks (s : State) (key w n : Nat) : (bump s key w n).keyChecks = s.keyChecks := rfl
@[simp] theorem bump_msix (s : State) (key w n : Nat) : (bump s key w n).msix = s.msix := rfl
@[simp] theorem bump_msixTable (s : State) (key w n : Nat) : (bump s key w n).msixTable = s.msixTable := rfl
@[simp] theorem bump_power (s : State) (key w n : Nat) : (bump s key w n).power = s.power := rfl
@[simp] theorem bump_thermal (s : State) (key w n : Nat) : (bump s key w n).thermal = s.thermal := rfl
@[simp] theorem bump_wdt (s : State) (key w n : Nat) : (bump s key w n).wdt = s.wdt := rfl
@[simp] theorem bump_nand (s : State) (key w n : Nat) : (bump s key w n).nand = s.nand := rfl
@[simp] theorem bump_comp (s : State) (key w n : Nat) : (bump s key w n).comp = s.comp := rfl
@[simp] theorem bump_dram (s : State) (key w n : Nat) : (bump s key w n).dram = s.dram := rfl
@[simp] theorem bump_bufs (s : State) (key w n : Nat) : (bump s key w n).bufs = s.bufs := rfl
@[simp] theorem bump_cf (s : State) (key w n : Nat) : (bump s key w n).cf = s.cf := rfl
@[simp] theorem bump_boot (s : State) (key w n : Nat) : (bump s key w n).boot = s.boot := rfl
@[simp] theorem bump_xlat (s : State) (key w n : Nat) : (bump s key w n).xlat = s.xlat := rfl
@[simp] theorem bump_pair (s : State) (key w n : Nat) : (bump s key w n).pair = s.pair := rfl
@[simp] theorem bump_freeCtr (s : State) (key w n : Nat) : (bump s key w n).freeCtr = s.freeCtr := rfl
@[simp] theorem bump_pending (s : State) (key w n : Nat) : (bump s key w n).pending = s.pending := rfl
@[simp] theorem inst_bump (s : State) (key w n : Nat) (i : Nat) : inst (bump s key w n) i = inst s i := rfl

@[simp] theorem modInst_clk (s : State) (n : Nat) (f : Inst → Inst) : (modInst s n f).clk = s.clk := rfl
@[simp] theorem modInst_dict (s : State) (n : Nat) (f : Inst → Inst) : (modInst s n f).dict = s.dict := rfl
@[simp] theorem modInst_genNow (s : State) (n : Nat) (f : Inst → Inst) : (modInst s n f).genNow = s.genNow := rfl
@[simp] theorem modInst_gens (s : State) (n : Nat) (f : Inst → Inst) : (modInst s n f).gens = s.gens := rfl
@[simp] theorem modInst_reserved (s : State) (n : Nat) (f : Inst → Inst) : (modInst s n f).reserved = s.reserved := rfl
@[simp] theorem modInst_staged (s : State) (n : Nat) (f : Inst → Inst) : (modInst s n f).staged = s.staged := rfl
@[simp] theorem modInst_miowa (s : State) (n : Nat) (f : Inst → Inst) : (modInst s n f).miowa = s.miowa := rfl
@[simp] theorem modInst_store (s : State) (n : Nat) (f : Inst → Inst) : (modInst s n f).store = s.store := rfl
@[simp] theorem modInst_recd (s : State) (n : Nat) (f : Inst → Inst) : (modInst s n f).recd = s.recd := rfl
@[simp] theorem modInst_trace (s : State) (n : Nat) (f : Inst → Inst) : (modInst s n f).trace = s.trace := rfl
@[simp] theorem modInst_tel (s : State) (n : Nat) (f : Inst → Inst) : (modInst s n f).tel = s.tel := rfl
@[simp] theorem modInst_crc (s : State) (n : Nat) (f : Inst → Inst) : (modInst s n f).crc = s.crc := rfl
@[simp] theorem modInst_portA (s : State) (n : Nat) (f : Inst → Inst) : (modInst s n f).portA = s.portA := rfl
@[simp] theorem modInst_portB (s : State) (n : Nat) (f : Inst → Inst) : (modInst s n f).portB = s.portB := rfl
@[simp] theorem modInst_portMode (s : State) (n : Nat) (f : Inst → Inst) : (modInst s n f).portMode = s.portMode := rfl
@[simp] theorem modInst_vfSplit (s : State) (n : Nat) (f : Inst → Inst) : (modInst s n f).vfSplit = s.vfSplit := rfl
@[simp] theorem modInst_wakeLow (s : State) (n : Nat) (f : Inst → Inst) : (modInst s n f).wakeLow = s.wakeLow := rfl
@[simp] theorem modInst_sqs (s : State) (n : Nat) (f : Inst → Inst) : (modInst s n f).sqs = s.sqs := rfl
@[simp] theorem modInst_cqs (s : State) (n : Nat) (f : Inst → Inst) : (modInst s n f).cqs = s.cqs := rfl
@[simp] theorem modInst_flights (s : State) (n : Nat) (f : Inst → Inst) : (modInst s n f).flights = s.flights := rfl
@[simp] theorem modInst_eng (s : State) (n : Nat) (f : Inst → Inst) : (modInst s n f).eng = s.eng := rfl
@[simp] theorem modInst_nss (s : State) (n : Nat) (f : Inst → Inst) : (modInst s n f).nss = s.nss := rfl
@[simp] theorem modInst_zones (s : State) (n : Nat) (f : Inst → Inst) : (modInst s n f).zones = s.zones := rfl
@[simp] theorem modInst_blocks (s : State) (n : Nat) (f : Inst → Inst) : (modInst s n f).blocks = s.blocks := rfl
@[simp] theorem modInst_pis (s : State) (n : Nat) (f : Inst → Inst) : (modInst s n f).pis = s.pis := rfl
@[simp] theorem modInst_lastCqe (s : State) (n : Nat) (f : Inst → Inst) : (modInst s n f).lastCqe = s.lastCqe := rfl
@[simp] theorem modInst_hostOut (s : State) (n : Nat) (f : Inst → Inst) : (modInst s n f).hostOut = s.hostOut := rfl
@[simp] theorem modInst_barRead (s : State) (n : Nat) (f : Inst → Inst) : (modInst s n f).barRead = s.barRead := rfl
@[simp] theorem modInst_keyChecks (s : State) (n : Nat) (f : Inst → Inst) : (modInst s n f).keyChecks = s.keyChecks := rfl
@[simp] theorem modInst_msix (s : State) (n : Nat) (f : Inst → Inst) : (modInst s n f).msix = s.msix := rfl
@[simp] theorem modInst_msixTable (s : State) (n : Nat) (f : Inst → Inst) : (modInst s n f).msixTable = s.msixTable := rfl
@[simp] theorem modInst_power (s : State) (n : Nat) (f : Inst → Inst) : (modInst s n f).power = s.power := rfl
@[simp] theorem modInst_thermal (s : State) (n : Nat) (f : Inst → Inst) : (modInst s n f).thermal = s.thermal := rfl
@[simp] theorem modInst_wdt (s : State) (n : Nat) (f : Inst → Inst) : (modInst s n f).wdt = s.wdt := rfl
@[simp] theorem modInst_nand (s : State) (n : Nat) (f : Inst → Inst) : (modInst s n f).nand = s.nand := rfl
@[simp] theorem modInst_comp (s : State) (n : Nat) (f : Inst → Inst) : (modInst s n f).comp = s.comp := rfl
@[simp] theorem modInst_dram (s : State) (n : Nat) (f : Inst → Inst) : (modInst s n f).dram = s.dram := rfl
@[simp] theorem modInst_bufs (s : State) (n : Nat) (f : Inst → Inst) : (modInst s n f).bufs = s.bufs := rfl
@[simp] theorem modInst_cf (s : State) (n : Nat) (f : Inst → Inst) : (modInst s n f).cf = s.cf := rfl
@[simp] theorem modInst_boot (s : State) (n : Nat) (f : Inst → Inst) : (modInst s n f).boot = s.boot := rfl
@[simp] theorem modInst_xlat (s : State) (n : Nat) (f : Inst → Inst) : (modInst s n f).xlat = s.xlat := rfl
@[simp] theorem modInst_pair (s : State) (n : Nat) (f : Inst → Inst) : (modInst s n f).pair = s.pair := rfl
@[simp] theorem modInst_freeCtr (s : State) (n : Nat) (f : Inst → Inst) : (modInst s n f).freeCtr = s.freeCtr := rfl
@[simp] theorem modInst_pending (s : State) (n : Nat) (f : Inst → Inst) : (modInst s n f).pending = s.pending := rfl
@[simp] theorem v_modInst (s : State) (n : Nat) (f : Inst → Inst) (k : Nat) : v (modInst s n f) k = v s k := rfl

@[simp] theorem modFlight_clk (s : State) (seq : Nat) (f : Flight → Flight) : (modFlight s seq f).clk = s.clk := rfl
@[simp] theorem modFlight_dict (s : State) (seq : Nat) (f : Flight → Flight) : (modFlight s seq f).dict = s.dict := rfl
@[simp] theorem modFlight_genNow (s : State) (seq : Nat) (f : Flight → Flight) : (modFlight s seq f).genNow = s.genNow := rfl
@[simp] theorem modFlight_gens (s : State) (seq : Nat) (f : Flight → Flight) : (modFlight s seq f).gens = s.gens := rfl
@[simp] theorem modFlight_reserved (s : State) (seq : Nat) (f : Flight → Flight) : (modFlight s seq f).reserved = s.reserved := rfl
@[simp] theorem modFlight_staged (s : State) (seq : Nat) (f : Flight → Flight) : (modFlight s seq f).staged = s.staged := rfl
@[simp] theorem modFlight_miowa (s : State) (seq : Nat) (f : Flight → Flight) : (modFlight s seq f).miowa = s.miowa := rfl
@[simp] theorem modFlight_store (s : State) (seq : Nat) (f : Flight → Flight) : (modFlight s seq f).store = s.store := rfl
@[simp] theorem modFlight_recd (s : State) (seq : Nat) (f : Flight → Flight) : (modFlight s seq f).recd = s.recd := rfl
@[simp] theorem modFlight_trace (s : State) (seq : Nat) (f : Flight → Flight) : (modFlight s seq f).trace = s.trace := rfl
@[simp] theorem modFlight_tel (s : State) (seq : Nat) (f : Flight → Flight) : (modFlight s seq f).tel = s.tel := rfl
@[simp] theorem modFlight_crc (s : State) (seq : Nat) (f : Flight → Flight) : (modFlight s seq f).crc = s.crc := rfl
@[simp] theorem modFlight_portA (s : State) (seq : Nat) (f : Flight → Flight) : (modFlight s seq f).portA = s.portA := rfl
@[simp] theorem modFlight_portB (s : State) (seq : Nat) (f : Flight → Flight) : (modFlight s seq f).portB = s.portB := rfl
@[simp] theorem modFlight_portMode (s : State) (seq : Nat) (f : Flight → Flight) : (modFlight s seq f).portMode = s.portMode := rfl
@[simp] theorem modFlight_vfSplit (s : State) (seq : Nat) (f : Flight → Flight) : (modFlight s seq f).vfSplit = s.vfSplit := rfl
@[simp] theorem modFlight_wakeLow (s : State) (seq : Nat) (f : Flight → Flight) : (modFlight s seq f).wakeLow = s.wakeLow := rfl
@[simp] theorem modFlight_insts (s : State) (seq : Nat) (f : Flight → Flight) : (modFlight s seq f).insts = s.insts := rfl
@[simp] theorem modFlight_sqs (s : State) (seq : Nat) (f : Flight → Flight) : (modFlight s seq f).sqs = s.sqs := rfl
@[simp] theorem modFlight_cqs (s : State) (seq : Nat) (f : Flight → Flight) : (modFlight s seq f).cqs = s.cqs := rfl
@[simp] theorem modFlight_eng (s : State) (seq : Nat) (f : Flight → Flight) : (modFlight s seq f).eng = s.eng := rfl
@[simp] theorem modFlight_nss (s : State) (seq : Nat) (f : Flight → Flight) : (modFlight s seq f).nss = s.nss := rfl
@[simp] theorem modFlight_zones (s : State) (seq : Nat) (f : Flight → Flight) : (modFlight s seq f).zones = s.zones := rfl
@[simp] theorem modFlight_blocks (s : State) (seq : Nat) (f : Flight → Flight) : (modFlight s seq f).blocks = s.blocks := rfl
@[simp] theorem modFlight_pis (s : State) (seq : Nat) (f : Flight → Flight) : (modFlight s seq f).pis = s.pis := rfl
@[simp] theorem modFlight_lastCqe (s : State) (seq : Nat) (f : Flight → Flight) : (modFlight s seq f).lastCqe = s.lastCqe := rfl
@[simp] theorem modFlight_hostOut (s : State) (seq : Nat) (f : Flight → Flight) : (modFlight s seq f).hostOut = s.hostOut := rfl
@[simp] theorem modFlight_barRead (s : State) (seq : Nat) (f : Flight → Flight) : (modFlight s seq f).barRead = s.barRead := rfl
@[simp] theorem modFlight_keyChecks (s : State) (seq : Nat) (f : Flight → Flight) : (modFlight s seq f).keyChecks = s.keyChecks := rfl
@[simp] theorem modFlight_msix (s : State) (seq : Nat) (f : Flight → Flight) : (modFlight s seq f).msix = s.msix := rfl
@[simp] theorem modFlight_msixTable (s : State) (seq : Nat) (f : Flight → Flight) : (modFlight s seq f).msixTable = s.msixTable := rfl
@[simp] theorem modFlight_power (s : State) (seq : Nat) (f : Flight → Flight) : (modFlight s seq f).power = s.power := rfl
@[simp] theorem modFlight_thermal (s : State) (seq : Nat) (f : Flight → Flight) : (modFlight s seq f).thermal = s.thermal := rfl
@[simp] theorem modFlight_wdt (s : State) (seq : Nat) (f : Flight → Flight) : (modFlight s seq f).wdt = s.wdt := rfl
@[simp] theorem modFlight_nand (s : State) (seq : Nat) (f : Flight → Flight) : (modFlight s seq f).nand = s.nand := rfl
@[simp] theorem modFlight_comp (s : State) (seq : Nat) (f : Flight → Flight) : (modFlight s seq f).comp = s.comp := rfl
@[simp] theorem modFlight_dram (s : State) (seq : Nat) (f : Flight → Flight) : (modFlight s seq f).dram = s.dram := rfl
@[simp] theorem modFlight_bufs (s : State) (seq : Nat) (f : Flight → Flight) : (modFlight s seq f).bufs = s.bufs := rfl
@[simp] theorem modFlight_cf (s : State) (seq : Nat) (f : Flight → Flight) : (modFlight s seq f).cf = s.cf := rfl
@[simp] theorem modFlight_boot (s : State) (seq : Nat) (f : Flight → Flight) : (modFlight s seq f).boot = s.boot := rfl
@[simp] theorem modFlight_xlat (s : State) (seq : Nat) (f : Flight → Flight) : (modFlight s seq f).xlat = s.xlat := rfl
@[simp] theorem modFlight_pair (s : State) (seq : Nat) (f : Flight → Flight) : (modFlight s seq f).pair = s.pair := rfl
@[simp] theorem modFlight_freeCtr (s : State) (seq : Nat) (f : Flight → Flight) : (modFlight s seq f).freeCtr = s.freeCtr := rfl
@[simp] theorem modFlight_pending (s : State) (seq : Nat) (f : Flight → Flight) : (modFlight s seq f).pending = s.pending := rfl
@[simp] theorem v_modFlight (s : State) (seq : Nat) (f : Flight → Flight) (k : Nat) : v (modFlight s seq f) k = v s k := rfl
@[simp] theorem inst_modFlight (s : State) (seq : Nat) (f : Flight → Flight) (i : Nat) : inst (modFlight s seq f) i = inst s i := rfl

@[simp] theorem dropFlight_clk (s : State) (seq : Nat) : (dropFlight s seq).clk = s.clk := rfl
@[simp] theorem dropFlight_dict (s : State) (seq : Nat) : (dropFlight s seq).dict = s.dict := rfl
@[simp] theorem dropFlight_genNow (s : State) (seq : Nat) : (dropFlight s seq).genNow = s.genNow := rfl
@[simp] theorem dropFlight_gens (s : State) (seq : Nat) : (dropFlight s seq).gens = s.gens := rfl
@[simp] theorem dropFlight_reserved (s : State) (seq : Nat) : (dropFlight s seq).reserved = s.reserved := rfl
@[simp] theorem dropFlight_staged (s : State) (seq : Nat) : (dropFlight s seq).staged = s.staged := rfl
@[simp] theorem dropFlight_miowa (s : State) (seq : Nat) : (dropFlight s seq).miowa = s.miowa := rfl
@[simp] theorem dropFlight_store (s : State) (seq : Nat) : (dropFlight s seq).store = s.store := rfl
@[simp] theorem dropFlight_recd (s : State) (seq : Nat) : (dropFlight s seq).recd = s.recd := rfl
@[simp] theorem dropFlight_trace (s : State) (seq : Nat) : (dropFlight s seq).trace = s.trace := rfl
@[simp] theorem dropFlight_tel (s : State) (seq : Nat) : (dropFlight s seq).tel = s.tel := rfl
@[simp] theorem dropFlight_crc (s : State) (seq : Nat) : (dropFlight s seq).crc = s.crc := rfl
@[simp] theorem dropFlight_portA (s : State) (seq : Nat) : (dropFlight s seq).portA = s.portA := rfl
@[simp] theorem dropFlight_portB (s : State) (seq : Nat) : (dropFlight s seq).portB = s.portB := rfl
@[simp] theorem dropFlight_portMode (s : State) (seq : Nat) : (dropFlight s seq).portMode = s.portMode := rfl
@[simp] theorem dropFlight_vfSplit (s : State) (seq : Nat) : (dropFlight s seq).vfSplit = s.vfSplit := rfl
@[simp] theorem dropFlight_wakeLow (s : State) (seq : Nat) : (dropFlight s seq).wakeLow = s.wakeLow := rfl
@[simp] theorem dropFlight_insts (s : State) (seq : Nat) : (dropFlight s seq).insts = s.insts := rfl
@[simp] theorem dropFlight_sqs (s : State) (seq : Nat) : (dropFlight s seq).sqs = s.sqs := rfl
@[simp] theorem dropFlight_cqs (s : State) (seq : Nat) : (dropFlight s seq).cqs = s.cqs := rfl
@[simp] theorem dropFlight_eng (s : State) (seq : Nat) : (dropFlight s seq).eng = s.eng := rfl
@[simp] theorem dropFlight_nss (s : State) (seq : Nat) : (dropFlight s seq).nss = s.nss := rfl
@[simp] theorem dropFlight_zones (s : State) (seq : Nat) : (dropFlight s seq).zones = s.zones := rfl
@[simp] theorem dropFlight_blocks (s : State) (seq : Nat) : (dropFlight s seq).blocks = s.blocks := rfl
@[simp] theorem dropFlight_pis (s : State) (seq : Nat) : (dropFlight s seq).pis = s.pis := rfl
@[simp] theorem dropFlight_lastCqe (s : State) (seq : Nat) : (dropFlight s seq).lastCqe = s.lastCqe := rfl
@[simp] theorem dropFlight_hostOut (s : State) (seq : Nat) : (dropFlight s seq).hostOut = s.hostOut := rfl
@[simp] theorem dropFlight_barRead (s : State) (seq : Nat) : (dropFlight s seq).barRead = s.barRead := rfl
@[simp] theorem dropFlight_keyChecks (s : State) (seq : Nat) : (dropFlight s seq).keyChecks = s.keyChecks := rfl
@[simp] theorem dropFlight_msix (s : State) (seq : Nat) : (dropFlight s seq).msix = s.msix := rfl
@[simp] theorem dropFlight_msixTable (s : State) (seq : Nat) : (dropFlight s seq).msixTable = s.msixTable := rfl
@[simp] theorem dropFlight_power (s : State) (seq : Nat) : (dropFlight s seq).power = s.power := rfl
@[simp] theorem dropFlight_thermal (s : State) (seq : Nat) : (dropFlight s seq).thermal = s.thermal := rfl
@[simp] theorem dropFlight_wdt (s : State) (seq : Nat) : (dropFlight s seq).wdt = s.wdt := rfl
@[simp] theorem dropFlight_nand (s : State) (seq : Nat) : (dropFlight s seq).nand = s.nand := rfl
@[simp] theorem dropFlight_comp (s : State) (seq : Nat) : (dropFlight s seq).comp = s.comp := rfl
@[simp] theorem dropFlight_dram (s : State) (seq : Nat) : (dropFlight s seq).dram = s.dram := rfl
@[simp] theorem dropFlight_bufs (s : State) (seq : Nat) : (dropFlight s seq).bufs = s.bufs := rfl
@[simp] theorem dropFlight_cf (s : State) (seq : Nat) : (dropFlight s seq).cf = s.cf := rfl
@[simp] theorem dropFlight_boot (s : State) (seq : Nat) : (dropFlight s seq).boot = s.boot := rfl
@[simp] theorem dropFlight_xlat (s : State) (seq : Nat) : (dropFlight s seq).xlat = s.xlat := rfl
@[simp] theorem dropFlight_pair (s : State) (seq : Nat) : (dropFlight s seq).pair = s.pair := rfl
@[simp] theorem dropFlight_freeCtr (s : State) (seq : Nat) : (dropFlight s seq).freeCtr = s.freeCtr := rfl
@[simp] theorem dropFlight_pending (s : State) (seq : Nat) : (dropFlight s seq).pending = s.pending := rfl
@[simp] theorem v_dropFlight (s : State) (seq : Nat) (k : Nat) : v (dropFlight s seq) k = v s k := rfl
@[simp] theorem inst_dropFlight (s : State) (seq : Nat) (i : Nat) : inst (dropFlight s seq) i = inst s i := rfl

@[simp] theorem msixSend_clk (s : State) (fn vec : Nat) : (msixSend s fn vec).clk = s.clk := rfl
@[simp] theorem msixSend_dict (s : State) (fn vec : Nat) : (msixSend s fn vec).dict = s.dict := rfl
@[simp] theorem msixSend_genNow (s : State) (fn vec : Nat) : (msixSend s fn vec).genNow = s.genNow := rfl
@[simp] theorem msixSend_gens (s : State) (fn vec : Nat) : (msixSend s fn vec).gens = s.gens := rfl
@[simp] theorem msixSend_reserved (s : State) (fn vec : Nat) : (msixSend s fn vec).reserved = s.reserved := rfl
@[simp] theorem msixSend_staged (s : State) (fn vec : Nat) : (msixSend s fn vec).staged = s.staged := rfl
@[simp] theorem msixSend_miowa (s : State) (fn vec : Nat) : (msixSend s fn vec).miowa = s.miowa := rfl
@[simp] theorem msixSend_store (s : State) (fn vec : Nat) : (msixSend s fn vec).store = s.store := rfl
@[simp] theorem msixSend_recd (s : State) (fn vec : Nat) : (msixSend s fn vec).recd = s.recd := rfl
@[simp] theorem msixSend_trace (s : State) (fn vec : Nat) : (msixSend s fn vec).trace = s.trace := rfl
@[simp] theorem msixSend_tel (s : State) (fn vec : Nat) : (msixSend s fn vec).tel = s.tel := rfl
@[simp] theorem msixSend_crc (s : State) (fn vec : Nat) : (msixSend s fn vec).crc = s.crc := rfl
@[simp] theorem msixSend_portA (s : State) (fn vec : Nat) : (msixSend s fn vec).portA = s.portA := rfl
@[simp] theorem msixSend_portB (s : State) (fn vec : Nat) : (msixSend s fn vec).portB = s.portB := rfl
@[simp] theorem msixSend_portMode (s : State) (fn vec : Nat) : (msixSend s fn vec).portMode = s.portMode := rfl
@[simp] theorem msixSend_vfSplit (s : State) (fn vec : Nat) : (msixSend s fn vec).vfSplit = s.vfSplit := rfl
@[simp] theorem msixSend_wakeLow (s : State) (fn vec : Nat) : (msixSend s fn vec).wakeLow = s.wakeLow := rfl
@[simp] theorem msixSend_insts (s : State) (fn vec : Nat) : (msixSend s fn vec).insts = s.insts := rfl
@[simp] theorem msixSend_sqs (s : State) (fn vec : Nat) : (msixSend s fn vec).sqs = s.sqs := rfl
@[simp] theorem msixSend_cqs (s : State) (fn vec : Nat) : (msixSend s fn vec).cqs = s.cqs := rfl
@[simp] theorem msixSend_flights (s : State) (fn vec : Nat) : (msixSend s fn vec).flights = s.flights := rfl
@[simp] theorem msixSend_eng (s : State) (fn vec : Nat) : (msixSend s fn vec).eng = s.eng := rfl
@[simp] theorem msixSend_nss (s : State) (fn vec : Nat) : (msixSend s fn vec).nss = s.nss := rfl
@[simp] theorem msixSend_zones (s : State) (fn vec : Nat) : (msixSend s fn vec).zones = s.zones := rfl
@[simp] theorem msixSend_blocks (s : State) (fn vec : Nat) : (msixSend s fn vec).blocks = s.blocks := rfl
@[simp] theorem msixSend_pis (s : State) (fn vec : Nat) : (msixSend s fn vec).pis = s.pis := rfl
@[simp] theorem msixSend_lastCqe (s : State) (fn vec : Nat) : (msixSend s fn vec).lastCqe = s.lastCqe := rfl
@[simp] theorem msixSend_hostOut (s : State) (fn vec : Nat) : (msixSend s fn vec).hostOut = s.hostOut := rfl
@[simp] theorem msixSend_barRead (s : State) (fn vec : Nat) : (msixSend s fn vec).barRead = s.barRead := rfl
@[simp] theorem msixSend_keyChecks (s : State) (fn vec : Nat) : (msixSend s fn vec).keyChecks = s.keyChecks := rfl
@[simp] theorem msixSend_msixTable (s : State) (fn vec : Nat) : (msixSend s fn vec).msixTable = s.msixTable := rfl
@[simp] theorem msixSend_power (s : State) (fn vec : Nat) : (msixSend s fn vec).power = s.power := rfl
@[simp] theorem msixSend_thermal (s : State) (fn vec : Nat) : (msixSend s fn vec).thermal = s.thermal := rfl
@[simp] theorem msixSend_wdt (s : State) (fn vec : Nat) : (msixSend s fn vec).wdt = s.wdt := rfl
@[simp] theorem msixSend_nand (s : State) (fn vec : Nat) : (msixSend s fn vec).nand = s.nand := rfl
@[simp] theorem msixSend_comp (s : State) (fn vec : Nat) : (msixSend s fn vec).comp = s.comp := rfl
@[simp] theorem msixSend_dram (s : State) (fn vec : Nat) : (msixSend s fn vec).dram = s.dram := rfl
@[simp] theorem msixSend_bufs (s : State) (fn vec : Nat) : (msixSend s fn vec).bufs = s.bufs := rfl
@[simp] theorem msixSend_cf (s : State) (fn vec : Nat) : (msixSend s fn vec).cf = s.cf := rfl
@[simp] theorem msixSend_boot (s : State) (fn vec : Nat) : (msixSend s fn vec).boot = s.boot := rfl
@[simp] theorem msixSend_xlat (s : State) (fn vec : Nat) : (msixSend s fn vec).xlat = s.xlat := rfl
@[simp] theorem msixSend_pair (s : State) (fn vec : Nat) : (msixSend s fn vec).pair = s.pair := rfl
@[simp] theorem msixSend_freeCtr (s : State) (fn vec : Nat) : (msixSend s fn vec).freeCtr = s.freeCtr := rfl
@[simp] theorem msixSend_pending (s : State) (fn vec : Nat) : (msixSend s fn vec).pending = s.pending := rfl
@[simp] theorem v_msixSend (s : State) (fn vec : Nat) (k : Nat) : v (msixSend s fn vec) k = v s k := rfl
@[simp] theorem inst_msixSend (s : State) (fn vec : Nat) (i : Nat) : inst (msixSend s fn vec) i = inst s i := rfl

@[simp] theorem dmaOut_clk (s : State) (fn : Nat) (b : Bytes) : (dmaOut s fn b).clk = s.clk := rfl
@[simp] theorem dmaOut_dict (s : State) (fn : Nat) (b : Bytes) : (dmaOut s fn b).dict = s.dict := rfl
@[simp] theorem dmaOut_genNow (s : State) (fn : Nat) (b : Bytes) : (dmaOut s fn b).genNow = s.genNow := rfl
@[simp] theorem dmaOut_gens (s : State) (fn : Nat) (b : Bytes) : (dmaOut s fn b).gens = s.gens := rfl
@[simp] theorem dmaOut_reserved (s : State) (fn : Nat) (b : Bytes) : (dmaOut s fn b).reserved = s.reserved := rfl
@[simp] theorem dmaOut_staged (s : State) (fn : Nat) (b : Bytes) : (dmaOut s fn b).staged = s.staged := rfl
@[simp] theorem dmaOut_miowa (s : State) (fn : Nat) (b : Bytes) : (dmaOut s fn b).miowa = s.miowa := rfl
@[simp] theorem dmaOut_store (s : State) (fn : Nat) (b : Bytes) : (dmaOut s fn b).store = s.store := rfl
@[simp] theorem dmaOut_recd (s : State) (fn : Nat) (b : Bytes) : (dmaOut s fn b).recd = s.recd := rfl
@[simp] theorem dmaOut_trace (s : State) (fn : Nat) (b : Bytes) : (dmaOut s fn b).trace = s.trace := rfl
@[simp] theorem dmaOut_tel (s : State) (fn : Nat) (b : Bytes) : (dmaOut s fn b).tel = s.tel := rfl
@[simp] theorem dmaOut_crc (s : State) (fn : Nat) (b : Bytes) : (dmaOut s fn b).crc = s.crc := rfl
@[simp] theorem dmaOut_portA (s : State) (fn : Nat) (b : Bytes) : (dmaOut s fn b).portA = s.portA := rfl
@[simp] theorem dmaOut_portB (s : State) (fn : Nat) (b : Bytes) : (dmaOut s fn b).portB = s.portB := rfl
@[simp] theorem dmaOut_portMode (s : State) (fn : Nat) (b : Bytes) : (dmaOut s fn b).portMode = s.portMode := rfl
@[simp] theorem dmaOut_vfSplit (s : State) (fn : Nat) (b : Bytes) : (dmaOut s fn b).vfSplit = s.vfSplit := rfl
@[simp] theorem dmaOut_wakeLow (s : State) (fn : Nat) (b : Bytes) : (dmaOut s fn b).wakeLow = s.wakeLow := rfl
@[simp] theorem dmaOut_insts (s : State) (fn : Nat) (b : Bytes) : (dmaOut s fn b).insts = s.insts := rfl
@[simp] theorem dmaOut_sqs (s : State) (fn : Nat) (b : Bytes) : (dmaOut s fn b).sqs = s.sqs := rfl
@[simp] theorem dmaOut_cqs (s : State) (fn : Nat) (b : Bytes) : (dmaOut s fn b).cqs = s.cqs := rfl
@[simp] theorem dmaOut_flights (s : State) (fn : Nat) (b : Bytes) : (dmaOut s fn b).flights = s.flights := rfl
@[simp] theorem dmaOut_eng (s : State) (fn : Nat) (b : Bytes) : (dmaOut s fn b).eng = s.eng := rfl
@[simp] theorem dmaOut_nss (s : State) (fn : Nat) (b : Bytes) : (dmaOut s fn b).nss = s.nss := rfl
@[simp] theorem dmaOut_zones (s : State) (fn : Nat) (b : Bytes) : (dmaOut s fn b).zones = s.zones := rfl
@[simp] theorem dmaOut_blocks (s : State) (fn : Nat) (b : Bytes) : (dmaOut s fn b).blocks = s.blocks := rfl
@[simp] theorem dmaOut_pis (s : State) (fn : Nat) (b : Bytes) : (dmaOut s fn b).pis = s.pis := rfl
@[simp] theorem dmaOut_lastCqe (s : State) (fn : Nat) (b : Bytes) : (dmaOut s fn b).lastCqe = s.lastCqe := rfl
@[simp] theorem dmaOut_barRead (s : State) (fn : Nat) (b : Bytes) : (dmaOut s fn b).barRead = s.barRead := rfl
@[simp] theorem dmaOut_keyChecks (s : State) (fn : Nat) (b : Bytes) : (dmaOut s fn b).keyChecks = s.keyChecks := rfl
@[simp] theorem dmaOut_msix (s : State) (fn : Nat) (b : Bytes) : (dmaOut s fn b).msix = s.msix := rfl
@[simp] theorem dmaOut_msixTable (s : State) (fn : Nat) (b : Bytes) : (dmaOut s fn b).msixTable = s.msixTable := rfl
@[simp] theorem dmaOut_power (s : State) (fn : Nat) (b : Bytes) : (dmaOut s fn b).power = s.power := rfl
@[simp] theorem dmaOut_thermal (s : State) (fn : Nat) (b : Bytes) : (dmaOut s fn b).thermal = s.thermal := rfl
@[simp] theorem dmaOut_wdt (s : State) (fn : Nat) (b : Bytes) : (dmaOut s fn b).wdt = s.wdt := rfl
@[simp] theorem dmaOut_nand (s : State) (fn : Nat) (b : Bytes) : (dmaOut s fn b).nand = s.nand := rfl
@[simp] theorem dmaOut_comp (s : State) (fn : Nat) (b : Bytes) : (dmaOut s fn b).comp = s.comp := rfl
@[simp] theorem dmaOut_dram (s : State) (fn : Nat) (b : Bytes) : (dmaOut s fn b).dram = s.dram := rfl
@[simp] theorem dmaOut_bufs (s : State) (fn : Nat) (b : Bytes) : (dmaOut s fn b).bufs = s.bufs := rfl
@[simp] theorem dmaOut_cf (s : State) (fn : Nat) (b : Bytes) : (dmaOut s fn b).cf = s.cf := rfl
@[simp] theorem dmaOut_boot (s : State) (fn : Nat) (b : Bytes) : (dmaOut s fn b).boot = s.boot := rfl
@[simp] theorem dmaOut_xlat (s : State) (fn : Nat) (b : Bytes) : (dmaOut s fn b).xlat = s.xlat := rfl
@[simp] theorem dmaOut_pair (s : State) (fn : Nat) (b : Bytes) : (dmaOut s fn b).pair = s.pair := rfl
@[simp] theorem dmaOut_freeCtr (s : State) (fn : Nat) (b : Bytes) : (dmaOut s fn b).freeCtr = s.freeCtr := rfl
@[simp] theorem dmaOut_pending (s : State) (fn : Nat) (b : Bytes) : (dmaOut s fn b).pending = s.pending := rfl
@[simp] theorem v_dmaOut (s : State) (fn : Nat) (b : Bytes) (k : Nat) : v (dmaOut s fn b) k = v s k := rfl
@[simp] theorem inst_dmaOut (s : State) (fn : Nat) (b : Bytes) (i : Nat) : inst (dmaOut s fn b) i = inst s i := rfl

@[simp] theorem domChanged_clk (s : State) (key : Nat) : (domChanged s key).clk = s.clk := rfl
@[simp] theorem domChanged_dict (s : State) (key : Nat) : (domChanged s key).dict = s.dict := rfl
@[simp] theorem domChanged_genNow (s : State) (key : Nat) : (domChanged s key).genNow = s.genNow := rfl
@[simp] theorem domChanged_gens (s : State) (key : Nat) : (domChanged s key).gens = s.gens := rfl
@[simp] theorem domChanged_reserved (s : State) (key : Nat) : (domChanged s key).reserved = s.reserved := rfl
@[simp] theorem domChanged_staged (s : State) (key : Nat) : (domChanged s key).staged = s.staged := rfl
@[simp] theorem domChanged_store (s : State) (key : Nat) : (domChanged s key).store = s.store := rfl
@[simp] theorem domChanged_recd (s : State) (key : Nat) : (domChanged s key).recd = s.recd := rfl
@[simp] theorem domChanged_trace (s : State) (key : Nat) : (domChanged s key).trace = s.trace := rfl
@[simp] theorem domChanged_tel (s : State) (key : Nat) : (domChanged s key).tel = s.tel := rfl
@[simp] theorem domChanged_crc (s : State) (key : Nat) : (domChanged s key).crc = s.crc := rfl
@[simp] theorem domChanged_portA (s : State) (key : Nat) : (domChanged s key).portA = s.portA := rfl
@[simp] theorem domChanged_portB (s : State) (key : Nat) : (domChanged s key).portB = s.portB := rfl
@[simp] theorem domChanged_portMode (s : State) (key : Nat) : (domChanged s key).portMode = s.portMode := rfl
@[simp] theorem domChanged_vfSplit (s : State) (key : Nat) : (domChanged s key).vfSplit = s.vfSplit := rfl
@[simp] theorem domChanged_wakeLow (s : State) (key : Nat) : (domChanged s key).wakeLow = s.wakeLow := rfl
@[simp] theorem domChanged_insts (s : State) (key : Nat) : (domChanged s key).insts = s.insts := rfl
@[simp] theorem domChanged_sqs (s : State) (key : Nat) : (domChanged s key).sqs = s.sqs := rfl
@[simp] theorem domChanged_cqs (s : State) (key : Nat) : (domChanged s key).cqs = s.cqs := rfl
@[simp] theorem domChanged_flights (s : State) (key : Nat) : (domChanged s key).flights = s.flights := rfl
@[simp] theorem domChanged_eng (s : State) (key : Nat) : (domChanged s key).eng = s.eng := rfl
@[simp] theorem domChanged_nss (s : State) (key : Nat) : (domChanged s key).nss = s.nss := rfl
@[simp] theorem domChanged_zones (s : State) (key : Nat) : (domChanged s key).zones = s.zones := rfl
@[simp] theorem domChanged_blocks (s : State) (key : Nat) : (domChanged s key).blocks = s.blocks := rfl
@[simp] theorem domChanged_pis (s : State) (key : Nat) : (domChanged s key).pis = s.pis := rfl
@[simp] theorem domChanged_lastCqe (s : State) (key : Nat) : (domChanged s key).lastCqe = s.lastCqe := rfl
@[simp] theorem domChanged_hostOut (s : State) (key : Nat) : (domChanged s key).hostOut = s.hostOut := rfl
@[simp] theorem domChanged_barRead (s : State) (key : Nat) : (domChanged s key).barRead = s.barRead := rfl
@[simp] theorem domChanged_keyChecks (s : State) (key : Nat) : (domChanged s key).keyChecks = s.keyChecks := rfl
@[simp] theorem domChanged_msix (s : State) (key : Nat) : (domChanged s key).msix = s.msix := rfl
@[simp] theorem domChanged_msixTable (s : State) (key : Nat) : (domChanged s key).msixTable = s.msixTable := rfl
@[simp] theorem domChanged_power (s : State) (key : Nat) : (domChanged s key).power = s.power := rfl
@[simp] theorem domChanged_thermal (s : State) (key : Nat) : (domChanged s key).thermal = s.thermal := rfl
@[simp] theorem domChanged_wdt (s : State) (key : Nat) : (domChanged s key).wdt = s.wdt := rfl
@[simp] theorem domChanged_nand (s : State) (key : Nat) : (domChanged s key).nand = s.nand := rfl
@[simp] theorem domChanged_comp (s : State) (key : Nat) : (domChanged s key).comp = s.comp := rfl
@[simp] theorem domChanged_dram (s : State) (key : Nat) : (domChanged s key).dram = s.dram := rfl
@[simp] theorem domChanged_bufs (s : State) (key : Nat) : (domChanged s key).bufs = s.bufs := rfl
@[simp] theorem domChanged_cf (s : State) (key : Nat) : (domChanged s key).cf = s.cf := rfl
@[simp] theorem domChanged_boot (s : State) (key : Nat) : (domChanged s key).boot = s.boot := rfl
@[simp] theorem domChanged_xlat (s : State) (key : Nat) : (domChanged s key).xlat = s.xlat := rfl
@[simp] theorem domChanged_pair (s : State) (key : Nat) : (domChanged s key).pair = s.pair := rfl
@[simp] theorem domChanged_freeCtr (s : State) (key : Nat) : (domChanged s key).freeCtr = s.freeCtr := rfl
@[simp] theorem domChanged_pending (s : State) (key : Nat) : (domChanged s key).pending = s.pending := rfl
@[simp] theorem v_domChanged (s : State) (key : Nat) (k : Nat) : v (domChanged s key) k = v s k := rfl
@[simp] theorem inst_domChanged (s : State) (key : Nat) (i : Nat) : inst (domChanged s key) i = inst s i := rfl

@[simp] theorem modUnit_clk (s : State) (n : Nat) (f : CrcUnit → CrcUnit) : (modUnit s n f).clk = s.clk := rfl
@[simp] theorem modUnit_dict (s : State) (n : Nat) (f : CrcUnit → CrcUnit) : (modUnit s n f).dict = s.dict := rfl
@[simp] theorem modUnit_genNow (s : State) (n : Nat) (f : CrcUnit → CrcUnit) : (modUnit s n f).genNow = s.genNow := rfl
@[simp] theorem modUnit_gens (s : State) (n : Nat) (f : CrcUnit → CrcUnit) : (modUnit s n f).gens = s.gens := rfl
@[simp] theorem modUnit_reserved (s : State) (n : Nat) (f : CrcUnit → CrcUnit) : (modUnit s n f).reserved = s.reserved := rfl
@[simp] theorem modUnit_staged (s : State) (n : Nat) (f : CrcUnit → CrcUnit) : (modUnit s n f).staged = s.staged := rfl
@[simp] theorem modUnit_miowa (s : State) (n : Nat) (f : CrcUnit → CrcUnit) : (modUnit s n f).miowa = s.miowa := rfl
@[simp] theorem modUnit_store (s : State) (n : Nat) (f : CrcUnit → CrcUnit) : (modUnit s n f).store = s.store := rfl
@[simp] theorem modUnit_recd (s : State) (n : Nat) (f : CrcUnit → CrcUnit) : (modUnit s n f).recd = s.recd := rfl
@[simp] theorem modUnit_trace (s : State) (n : Nat) (f : CrcUnit → CrcUnit) : (modUnit s n f).trace = s.trace := rfl
@[simp] theorem modUnit_tel (s : State) (n : Nat) (f : CrcUnit → CrcUnit) : (modUnit s n f).tel = s.tel := rfl
@[simp] theorem modUnit_portA (s : State) (n : Nat) (f : CrcUnit → CrcUnit) : (modUnit s n f).portA = s.portA := rfl
@[simp] theorem modUnit_portB (s : State) (n : Nat) (f : CrcUnit → CrcUnit) : (modUnit s n f).portB = s.portB := rfl
@[simp] theorem modUnit_portMode (s : State) (n : Nat) (f : CrcUnit → CrcUnit) : (modUnit s n f).portMode = s.portMode := rfl
@[simp] theorem modUnit_vfSplit (s : State) (n : Nat) (f : CrcUnit → CrcUnit) : (modUnit s n f).vfSplit = s.vfSplit := rfl
@[simp] theorem modUnit_wakeLow (s : State) (n : Nat) (f : CrcUnit → CrcUnit) : (modUnit s n f).wakeLow = s.wakeLow := rfl
@[simp] theorem modUnit_insts (s : State) (n : Nat) (f : CrcUnit → CrcUnit) : (modUnit s n f).insts = s.insts := rfl
@[simp] theorem modUnit_sqs (s : State) (n : Nat) (f : CrcUnit → CrcUnit) : (modUnit s n f).sqs = s.sqs := rfl
@[simp] theorem modUnit_cqs (s : State) (n : Nat) (f : CrcUnit → CrcUnit) : (modUnit s n f).cqs = s.cqs := rfl
@[simp] theorem modUnit_flights (s : State) (n : Nat) (f : CrcUnit → CrcUnit) : (modUnit s n f).flights = s.flights := rfl
@[simp] theorem modUnit_eng (s : State) (n : Nat) (f : CrcUnit → CrcUnit) : (modUnit s n f).eng = s.eng := rfl
@[simp] theorem modUnit_nss (s : State) (n : Nat) (f : CrcUnit → CrcUnit) : (modUnit s n f).nss = s.nss := rfl
@[simp] theorem modUnit_zones (s : State) (n : Nat) (f : CrcUnit → CrcUnit) : (modUnit s n f).zones = s.zones := rfl
@[simp] theorem modUnit_blocks (s : State) (n : Nat) (f : CrcUnit → CrcUnit) : (modUnit s n f).blocks = s.blocks := rfl
@[simp] theorem modUnit_pis (s : State) (n : Nat) (f : CrcUnit → CrcUnit) : (modUnit s n f).pis = s.pis := rfl
@[simp] theorem modUnit_lastCqe (s : State) (n : Nat) (f : CrcUnit → CrcUnit) : (modUnit s n f).lastCqe = s.lastCqe := rfl
@[simp] theorem modUnit_hostOut (s : State) (n : Nat) (f : CrcUnit → CrcUnit) : (modUnit s n f).hostOut = s.hostOut := rfl
@[simp] theorem modUnit_barRead (s : State) (n : Nat) (f : CrcUnit → CrcUnit) : (modUnit s n f).barRead = s.barRead := rfl
@[simp] theorem modUnit_keyChecks (s : State) (n : Nat) (f : CrcUnit → CrcUnit) : (modUnit s n f).keyChecks = s.keyChecks := rfl
@[simp] theorem modUnit_msix (s : State) (n : Nat) (f : CrcUnit → CrcUnit) : (modUnit s n f).msix = s.msix := rfl
@[simp] theorem modUnit_msixTable (s : State) (n : Nat) (f : CrcUnit → CrcUnit) : (modUnit s n f).msixTable = s.msixTable := rfl
@[simp] theorem modUnit_power (s : State) (n : Nat) (f : CrcUnit → CrcUnit) : (modUnit s n f).power = s.power := rfl
@[simp] theorem modUnit_thermal (s : State) (n : Nat) (f : CrcUnit → CrcUnit) : (modUnit s n f).thermal = s.thermal := rfl
@[simp] theorem modUnit_wdt (s : State) (n : Nat) (f : CrcUnit → CrcUnit) : (modUnit s n f).wdt = s.wdt := rfl
@[simp] theorem modUnit_nand (s : State) (n : Nat) (f : CrcUnit → CrcUnit) : (modUnit s n f).nand = s.nand := rfl
@[simp] theorem modUnit_comp (s : State) (n : Nat) (f : CrcUnit → CrcUnit) : (modUnit s n f).comp = s.comp := rfl
@[simp] theorem modUnit_dram (s : State) (n : Nat) (f : CrcUnit → CrcUnit) : (modUnit s n f).dram = s.dram := rfl
@[simp] theorem modUnit_bufs (s : State) (n : Nat) (f : CrcUnit → CrcUnit) : (modUnit s n f).bufs = s.bufs := rfl
@[simp] theorem modUnit_cf (s : State) (n : Nat) (f : CrcUnit → CrcUnit) : (modUnit s n f).cf = s.cf := rfl
@[simp] theorem modUnit_boot (s : State) (n : Nat) (f : CrcUnit → CrcUnit) : (modUnit s n f).boot = s.boot := rfl
@[simp] theorem modUnit_xlat (s : State) (n : Nat) (f : CrcUnit → CrcUnit) : (modUnit s n f).xlat = s.xlat := rfl
@[simp] theorem modUnit_pair (s : State) (n : Nat) (f : CrcUnit → CrcUnit) : (modUnit s n f).pair = s.pair := rfl
@[simp] theorem modUnit_freeCtr (s : State) (n : Nat) (f : CrcUnit → CrcUnit) : (modUnit s n f).freeCtr = s.freeCtr := rfl
@[simp] theorem modUnit_pending (s : State) (n : Nat) (f : CrcUnit → CrcUnit) : (modUnit s n f).pending = s.pending := rfl
@[simp] theorem v_modUnit (s : State) (n : Nat) (f : CrcUnit → CrcUnit) (k : Nat) : v (modUnit s n f) k = v s k := rfl
@[simp] theorem inst_modUnit (s : State) (n : Nat) (f : CrcUnit → CrcUnit) (i : Nat) : inst (modUnit s n f) i = inst s i := rfl

@[simp] theorem modZone_clk (s : State) (k : Nat) (f : Zone → Zone) : (modZone s k f).clk = s.clk := rfl
@[simp] theorem modZone_dict (s : State) (k : Nat) (f : Zone → Zone) : (modZone s k f).dict = s.dict := rfl
@[simp] theorem modZone_genNow (s : State) (k : Nat) (f : Zone → Zone) : (modZone s k f).genNow = s.genNow := rfl
@[simp] theorem modZone_gens (s : State) (k : Nat) (f : Zone → Zone) : (modZone s k f).gens = s.gens := rfl
@[simp] theorem modZone_reserved (s : State) (k : Nat) (f : Zone → Zone) : (modZone s k f).reserved = s.reserved := rfl
@[simp] theorem modZone_staged (s : State) (k : Nat) (f : Zone → Zone) : (modZone s k f).staged = s.staged := rfl
@[simp] theorem modZone_miowa (s : State) (k : Nat) (f : Zone → Zone) : (modZone s k f).miowa = s.miowa := rfl
@[simp] theorem modZone_store (s : State) (k : Nat) (f : Zone → Zone) : (modZone s k f).store = s.store := rfl
@[simp] theorem modZone_recd (s : State) (k : Nat) (f : Zone → Zone) : (modZone s k f).recd = s.recd := rfl
@[simp] theorem modZone_trace (s : State) (k : Nat) (f : Zone → Zone) : (modZone s k f).trace = s.trace := rfl
@[simp] theorem modZone_tel (s : State) (k : Nat) (f : Zone → Zone) : (modZone s k f).tel = s.tel := rfl
@[simp] theorem modZone_crc (s : State) (k : Nat) (f : Zone → Zone) : (modZone s k f).crc = s.crc := rfl
@[simp] theorem modZone_portA (s : State) (k : Nat) (f : Zone → Zone) : (modZone s k f).portA = s.portA := rfl
@[simp] theorem modZone_portB (s : State) (k : Nat) (f : Zone → Zone) : (modZone s k f).portB = s.portB := rfl
@[simp] theorem modZone_portMode (s : State) (k : Nat) (f : Zone → Zone) : (modZone s k f).portMode = s.portMode := rfl
@[simp] theorem modZone_vfSplit (s : State) (k : Nat) (f : Zone → Zone) : (modZone s k f).vfSplit = s.vfSplit := rfl
@[simp] theorem modZone_wakeLow (s : State) (k : Nat) (f : Zone → Zone) : (modZone s k f).wakeLow = s.wakeLow := rfl
@[simp] theorem modZone_insts (s : State) (k : Nat) (f : Zone → Zone) : (modZone s k f).insts = s.insts := rfl
@[simp] theorem modZone_sqs (s : State) (k : Nat) (f : Zone → Zone) : (modZone s k f).sqs = s.sqs := rfl
@[simp] theorem modZone_cqs (s : State) (k : Nat) (f : Zone → Zone) : (modZone s k f).cqs = s.cqs := rfl
@[simp] theorem modZone_flights (s : State) (k : Nat) (f : Zone → Zone) : (modZone s k f).flights = s.flights := rfl
@[simp] theorem modZone_eng (s : State) (k : Nat) (f : Zone → Zone) : (modZone s k f).eng = s.eng := rfl
@[simp] theorem modZone_nss (s : State) (k : Nat) (f : Zone → Zone) : (modZone s k f).nss = s.nss := rfl
@[simp] theorem modZone_blocks (s : State) (k : Nat) (f : Zone → Zone) : (modZone s k f).blocks = s.blocks := rfl
@[simp] theorem modZone_pis (s : State) (k : Nat) (f : Zone → Zone) : (modZone s k f).pis = s.pis := rfl
@[simp] theorem modZone_lastCqe (s : State) (k : Nat) (f : Zone → Zone) : (modZone s k f).lastCqe = s.lastCqe := rfl
@[simp] theorem modZone_hostOut (s : State) (k : Nat) (f : Zone → Zone) : (modZone s k f).hostOut = s.hostOut := rfl
@[simp] theorem modZone_barRead (s : State) (k : Nat) (f : Zone → Zone) : (modZone s k f).barRead = s.barRead := rfl
@[simp] theorem modZone_keyChecks (s : State) (k : Nat) (f : Zone → Zone) : (modZone s k f).keyChecks = s.keyChecks := rfl
@[simp] theorem modZone_msix (s : State) (k : Nat) (f : Zone → Zone) : (modZone s k f).msix = s.msix := rfl
@[simp] theorem modZone_msixTable (s : State) (k : Nat) (f : Zone → Zone) : (modZone s k f).msixTable = s.msixTable := rfl
@[simp] theorem modZone_power (s : State) (k : Nat) (f : Zone → Zone) : (modZone s k f).power = s.power := rfl
@[simp] theorem modZone_thermal (s : State) (k : Nat) (f : Zone → Zone) : (modZone s k f).thermal = s.thermal := rfl
@[simp] theorem modZone_wdt (s : State) (k : Nat) (f : Zone → Zone) : (modZone s k f).wdt = s.wdt := rfl
@[simp] theorem modZone_nand (s : State) (k : Nat) (f : Zone → Zone) : (modZone s k f).nand = s.nand := rfl
@[simp] theorem modZone_comp (s : State) (k : Nat) (f : Zone → Zone) : (modZone s k f).comp = s.comp := rfl
@[simp] theorem modZone_dram (s : State) (k : Nat) (f : Zone → Zone) : (modZone s k f).dram = s.dram := rfl
@[simp] theorem modZone_bufs (s : State) (k : Nat) (f : Zone → Zone) : (modZone s k f).bufs = s.bufs := rfl
@[simp] theorem modZone_cf (s : State) (k : Nat) (f : Zone → Zone) : (modZone s k f).cf = s.cf := rfl
@[simp] theorem modZone_boot (s : State) (k : Nat) (f : Zone → Zone) : (modZone s k f).boot = s.boot := rfl
@[simp] theorem modZone_xlat (s : State) (k : Nat) (f : Zone → Zone) : (modZone s k f).xlat = s.xlat := rfl
@[simp] theorem modZone_pair (s : State) (k : Nat) (f : Zone → Zone) : (modZone s k f).pair = s.pair := rfl
@[simp] theorem modZone_freeCtr (s : State) (k : Nat) (f : Zone → Zone) : (modZone s k f).freeCtr = s.freeCtr := rfl
@[simp] theorem modZone_pending (s : State) (k : Nat) (f : Zone → Zone) : (modZone s k f).pending = s.pending := rfl
@[simp] theorem v_modZone (s : State) (k : Nat) (f : Zone → Zone) (k : Nat) : v (modZone s k f) k = v s k := rfl
@[simp] theorem inst_modZone (s : State) (k : Nat) (f : Zone → Zone) (i : Nat) : inst (modZone s k f) i = inst s i := rfl

@[simp] theorem modBlock_clk (s : State) (die block : Nat) (f : PBlock → PBlock) : (modBlock s die block f).clk = s.clk := rfl
@[simp] theorem modBlock_dict (s : State) (die block : Nat) (f : PBlock → PBlock) : (modBlock s die block f).dict = s.dict := rfl
@[simp] theorem modBlock_genNow (s : State) (die block : Nat) (f : PBlock → PBlock) : (modBlock s die block f).genNow = s.genNow := rfl
@[simp] theorem modBlock_gens (s : State) (die block : Nat) (f : PBlock → PBlock) : (modBlock s die block f).gens = s.gens := rfl
@[simp] theorem modBlock_reserved (s : State) (die block : Nat) (f : PBlock → PBlock) : (modBlock s die block f).reserved = s.reserved := rfl
@[simp] theorem modBlock_staged (s : State) (die block : Nat) (f : PBlock → PBlock) : (modBlock s die block f).staged = s.staged := rfl
@[simp] theorem modBlock_miowa (s : State) (die block : Nat) (f : PBlock → PBlock) : (modBlock s die block f).miowa = s.miowa := rfl
@[simp] theorem modBlock_store (s : State) (die block : Nat) (f : PBlock → PBlock) : (modBlock s die block f).store = s.store := rfl
@[simp] theorem modBlock_recd (s : State) (die block : Nat) (f : PBlock → PBlock) : (modBlock s die block f).recd = s.recd := rfl
@[simp] theorem modBlock_trace (s : State) (die block : Nat) (f : PBlock → PBlock) : (modBlock s die block f).trace = s.trace := rfl
@[simp] theorem modBlock_tel (s : State) (die block : Nat) (f : PBlock → PBlock) : (modBlock s die block f).tel = s.tel := rfl
@[simp] theorem modBlock_crc (s : State) (die block : Nat) (f : PBlock → PBlock) : (modBlock s die block f).crc = s.crc := rfl
@[simp] theorem modBlock_portA (s : State) (die block : Nat) (f : PBlock → PBlock) : (modBlock s die block f).portA = s.portA := rfl
@[simp] theorem modBlock_portB (s : State) (die block : Nat) (f : PBlock → PBlock) : (modBlock s die block f).portB = s.portB := rfl
@[simp] theorem modBlock_portMode (s : State) (die block : Nat) (f : PBlock → PBlock) : (modBlock s die block f).portMode = s.portMode := rfl
@[simp] theorem modBlock_vfSplit (s : State) (die block : Nat) (f : PBlock → PBlock) : (modBlock s die block f).vfSplit = s.vfSplit := rfl
@[simp] theorem modBlock_wakeLow (s : State) (die block : Nat) (f : PBlock → PBlock) : (modBlock s die block f).wakeLow = s.wakeLow := rfl
@[simp] theorem modBlock_insts (s : State) (die block : Nat) (f : PBlock → PBlock) : (modBlock s die block f).insts = s.insts := rfl
@[simp] theorem modBlock_sqs (s : State) (die block : Nat) (f : PBlock → PBlock) : (modBlock s die block f).sqs = s.sqs := rfl
@[simp] theorem modBlock_cqs (s : State) (die block : Nat) (f : PBlock → PBlock) : (modBlock s die block f).cqs = s.cqs := rfl
@[simp] theorem modBlock_flights (s : State) (die block : Nat) (f : PBlock → PBlock) : (modBlock s die block f).flights = s.flights := rfl
@[simp] theorem modBlock_eng (s : State) (die block : Nat) (f : PBlock → PBlock) : (modBlock s die block f).eng = s.eng := rfl
@[simp] theorem modBlock_nss (s : State) (die block : Nat) (f : PBlock → PBlock) : (modBlock s die block f).nss = s.nss := rfl
@[simp] theorem modBlock_zones (s : State) (die block : Nat) (f : PBlock → PBlock) : (modBlock s die block f).zones = s.zones := rfl
@[simp] theorem modBlock_blocks (s : State) (die block : Nat) (f : PBlock → PBlock) : (modBlock s die block f).blocks = s.blocks := rfl
@[simp] theorem modBlock_pis (s : State) (die block : Nat) (f : PBlock → PBlock) : (modBlock s die block f).pis = s.pis := rfl
@[simp] theorem modBlock_lastCqe (s : State) (die block : Nat) (f : PBlock → PBlock) : (modBlock s die block f).lastCqe = s.lastCqe := rfl
@[simp] theorem modBlock_hostOut (s : State) (die block : Nat) (f : PBlock → PBlock) : (modBlock s die block f).hostOut = s.hostOut := rfl
@[simp] theorem modBlock_barRead (s : State) (die block : Nat) (f : PBlock → PBlock) : (modBlock s die block f).barRead = s.barRead := rfl
@[simp] theorem modBlock_keyChecks (s : State) (die block : Nat) (f : PBlock → PBlock) : (modBlock s die block f).keyChecks = s.keyChecks := rfl
@[simp] theorem modBlock_msix (s : State) (die block : Nat) (f : PBlock → PBlock) : (modBlock s die block f).msix = s.msix := rfl
@[simp] theorem modBlock_msixTable (s : State) (die block : Nat) (f : PBlock → PBlock) : (modBlock s die block f).msixTable = s.msixTable := rfl
@[simp] theorem modBlock_power (s : State) (die block : Nat) (f : PBlock → PBlock) : (modBlock s die block f).power = s.power := rfl
@[simp] theorem modBlock_thermal (s : State) (die block : Nat) (f : PBlock → PBlock) : (modBlock s die block f).thermal = s.thermal := rfl
@[simp] theorem modBlock_wdt (s : State) (die block : Nat) (f : PBlock → PBlock) : (modBlock s die block f).wdt = s.wdt := rfl
@[simp] theorem modBlock_comp (s : State) (die block : Nat) (f : PBlock → PBlock) : (modBlock s die block f).comp = s.comp := rfl
@[simp] theorem modBlock_dram (s : State) (die block : Nat) (f : PBlock → PBlock) : (modBlock s die block f).dram = s.dram := rfl
@[simp] theorem modBlock_bufs (s : State) (die block : Nat) (f : PBlock → PBlock) : (modBlock s die block f).bufs = s.bufs := rfl
@[simp] theorem modBlock_cf (s : State) (die block : Nat) (f : PBlock → PBlock) : (modBlock s die block f).cf = s.cf := rfl
@[simp] theorem modBlock_boot (s : State) (die block : Nat) (f : PBlock → PBlock) : (modBlock s die block f).boot = s.boot := rfl
@[simp] theorem modBlock_xlat (s : State) (die block : Nat) (f : PBlock → PBlock) : (modBlock s die block f).xlat = s.xlat := rfl
@[simp] theorem modBlock_pair (s : State) (die block : Nat) (f : PBlock → PBlock) : (modBlock s die block f).pair = s.pair := rfl
@[simp] theorem modBlock_freeCtr (s : State) (die block : Nat) (f : PBlock → PBlock) : (modBlock s die block f).freeCtr = s.freeCtr := rfl
@[simp] theorem modBlock_pending (s : State) (die block : Nat) (f : PBlock → PBlock) : (modBlock s die block f).pending = s.pending := rfl
@[simp] theorem v_modBlock (s : State) (die block : Nat) (f : PBlock → PBlock) (k : Nat) : v (modBlock s die block f) k = v s k := rfl
@[simp] theorem inst_modBlock (s : State) (die block : Nat) (f : PBlock → PBlock) (i : Nat) : inst (modBlock s die block f) i = inst s i := rfl

@[simp] theorem modBound_clk (s : State) (c : Nat) (f : BoundSt → BoundSt) : (modBound s c f).clk = s.clk := rfl
@[simp] theorem modBound_dict (s : State) (c : Nat) (f : BoundSt → BoundSt) : (modBound s c f).dict = s.dict := rfl
@[simp] theorem modBound_genNow (s : State) (c : Nat) (f : BoundSt → BoundSt) : (modBound s c f).genNow = s.genNow := rfl
@[simp] theorem modBound_gens (s : State) (c : Nat) (f : BoundSt → BoundSt) : (modBound s c f).gens = s.gens := rfl
@[simp] theorem modBound_reserved (s : State) (c : Nat) (f : BoundSt → BoundSt) : (modBound s c f).reserved = s.reserved := rfl
@[simp] theorem modBound_staged (s : State) (c : Nat) (f : BoundSt → BoundSt) : (modBound s c f).staged = s.staged := rfl
@[simp] theorem modBound_miowa (s : State) (c : Nat) (f : BoundSt → BoundSt) : (modBound s c f).miowa = s.miowa := rfl
@[simp] theorem modBound_store (s : State) (c : Nat) (f : BoundSt → BoundSt) : (modBound s c f).store = s.store := rfl
@[simp] theorem modBound_recd (s : State) (c : Nat) (f : BoundSt → BoundSt) : (modBound s c f).recd = s.recd := rfl
@[simp] theorem modBound_trace (s : State) (c : Nat) (f : BoundSt → BoundSt) : (modBound s c f).trace = s.trace := rfl
@[simp] theorem modBound_tel (s : State) (c : Nat) (f : BoundSt → BoundSt) : (modBound s c f).tel = s.tel := rfl
@[simp] theorem modBound_crc (s : State) (c : Nat) (f : BoundSt → BoundSt) : (modBound s c f).crc = s.crc := rfl
@[simp] theorem modBound_portA (s : State) (c : Nat) (f : BoundSt → BoundSt) : (modBound s c f).portA = s.portA := rfl
@[simp] theorem modBound_portB (s : State) (c : Nat) (f : BoundSt → BoundSt) : (modBound s c f).portB = s.portB := rfl
@[simp] theorem modBound_portMode (s : State) (c : Nat) (f : BoundSt → BoundSt) : (modBound s c f).portMode = s.portMode := rfl
@[simp] theorem modBound_vfSplit (s : State) (c : Nat) (f : BoundSt → BoundSt) : (modBound s c f).vfSplit = s.vfSplit := rfl
@[simp] theorem modBound_wakeLow (s : State) (c : Nat) (f : BoundSt → BoundSt) : (modBound s c f).wakeLow = s.wakeLow := rfl
@[simp] theorem modBound_insts (s : State) (c : Nat) (f : BoundSt → BoundSt) : (modBound s c f).insts = s.insts := rfl
@[simp] theorem modBound_sqs (s : State) (c : Nat) (f : BoundSt → BoundSt) : (modBound s c f).sqs = s.sqs := rfl
@[simp] theorem modBound_cqs (s : State) (c : Nat) (f : BoundSt → BoundSt) : (modBound s c f).cqs = s.cqs := rfl
@[simp] theorem modBound_flights (s : State) (c : Nat) (f : BoundSt → BoundSt) : (modBound s c f).flights = s.flights := rfl
@[simp] theorem modBound_eng (s : State) (c : Nat) (f : BoundSt → BoundSt) : (modBound s c f).eng = s.eng := rfl
@[simp] theorem modBound_nss (s : State) (c : Nat) (f : BoundSt → BoundSt) : (modBound s c f).nss = s.nss := rfl
@[simp] theorem modBound_zones (s : State) (c : Nat) (f : BoundSt → BoundSt) : (modBound s c f).zones = s.zones := rfl
@[simp] theorem modBound_blocks (s : State) (c : Nat) (f : BoundSt → BoundSt) : (modBound s c f).blocks = s.blocks := rfl
@[simp] theorem modBound_pis (s : State) (c : Nat) (f : BoundSt → BoundSt) : (modBound s c f).pis = s.pis := rfl
@[simp] theorem modBound_lastCqe (s : State) (c : Nat) (f : BoundSt → BoundSt) : (modBound s c f).lastCqe = s.lastCqe := rfl
@[simp] theorem modBound_hostOut (s : State) (c : Nat) (f : BoundSt → BoundSt) : (modBound s c f).hostOut = s.hostOut := rfl
@[simp] theorem modBound_barRead (s : State) (c : Nat) (f : BoundSt → BoundSt) : (modBound s c f).barRead = s.barRead := rfl
@[simp] theorem modBound_keyChecks (s : State) (c : Nat) (f : BoundSt → BoundSt) : (modBound s c f).keyChecks = s.keyChecks := rfl
@[simp] theorem modBound_msix (s : State) (c : Nat) (f : BoundSt → BoundSt) : (modBound s c f).msix = s.msix := rfl
@[simp] theorem modBound_msixTable (s : State) (c : Nat) (f : BoundSt → BoundSt) : (modBound s c f).msixTable = s.msixTable := rfl
@[simp] theorem modBound_power (s : State) (c : Nat) (f : BoundSt → BoundSt) : (modBound s c f).power = s.power := rfl
@[simp] theorem modBound_thermal (s : State) (c : Nat) (f : BoundSt → BoundSt) : (modBound s c f).thermal = s.thermal := rfl
@[simp] theorem modBound_wdt (s : State) (c : Nat) (f : BoundSt → BoundSt) : (modBound s c f).wdt = s.wdt := rfl
@[simp] theorem modBound_comp (s : State) (c : Nat) (f : BoundSt → BoundSt) : (modBound s c f).comp = s.comp := rfl
@[simp] theorem modBound_dram (s : State) (c : Nat) (f : BoundSt → BoundSt) : (modBound s c f).dram = s.dram := rfl
@[simp] theorem modBound_bufs (s : State) (c : Nat) (f : BoundSt → BoundSt) : (modBound s c f).bufs = s.bufs := rfl
@[simp] theorem modBound_cf (s : State) (c : Nat) (f : BoundSt → BoundSt) : (modBound s c f).cf = s.cf := rfl
@[simp] theorem modBound_boot (s : State) (c : Nat) (f : BoundSt → BoundSt) : (modBound s c f).boot = s.boot := rfl
@[simp] theorem modBound_xlat (s : State) (c : Nat) (f : BoundSt → BoundSt) : (modBound s c f).xlat = s.xlat := rfl
@[simp] theorem modBound_pair (s : State) (c : Nat) (f : BoundSt → BoundSt) : (modBound s c f).pair = s.pair := rfl
@[simp] theorem modBound_freeCtr (s : State) (c : Nat) (f : BoundSt → BoundSt) : (modBound s c f).freeCtr = s.freeCtr := rfl
@[simp] theorem modBound_pending (s : State) (c : Nat) (f : BoundSt → BoundSt) : (modBound s c f).pending = s.pending := rfl
@[simp] theorem v_modBound (s : State) (c : Nat) (f : BoundSt → BoundSt) (k : Nat) : v (modBound s c f) k = v s k := rfl
@[simp] theorem inst_modBound (s : State) (c : Nat) (f : BoundSt → BoundSt) (i : Nat) : inst (modBound s c f) i = inst s i := rfl

@[simp] theorem modLun_clk (s : State) (die : Nat) (f : Lun → Lun) : (modLun s die f).clk = s.clk := rfl
@[simp] theorem modLun_dict (s : State) (die : Nat) (f : Lun → Lun) : (modLun s die f).dict = s.dict := rfl
@[simp] theorem modLun_genNow (s : State) (die : Nat) (f : Lun → Lun) : (modLun s die f).genNow = s.genNow := rfl
@[simp] theorem modLun_gens (s : State) (die : Nat) (f : Lun → Lun) : (modLun s die f).gens = s.gens := rfl
@[simp] theorem modLun_reserved (s : State) (die : Nat) (f : Lun → Lun) : (modLun s die f).reserved = s.reserved := rfl
@[simp] theorem modLun_staged (s : State) (die : Nat) (f : Lun → Lun) : (modLun s die f).staged = s.staged := rfl
@[simp] theorem modLun_miowa (s : State) (die : Nat) (f : Lun → Lun) : (modLun s die f).miowa = s.miowa := rfl
@[simp] theorem modLun_store (s : State) (die : Nat) (f : Lun → Lun) : (modLun s die f).store = s.store := rfl
@[simp] theorem modLun_recd (s : State) (die : Nat) (f : Lun → Lun) : (modLun s die f).recd = s.recd := rfl
@[simp] theorem modLun_trace (s : State) (die : Nat) (f : Lun → Lun) : (modLun s die f).trace = s.trace := rfl
@[simp] theorem modLun_tel (s : State) (die : Nat) (f : Lun → Lun) : (modLun s die f).tel = s.tel := rfl
@[simp] theorem modLun_crc (s : State) (die : Nat) (f : Lun → Lun) : (modLun s die f).crc = s.crc := rfl
@[simp] theorem modLun_portA (s : State) (die : Nat) (f : Lun → Lun) : (modLun s die f).portA = s.portA := rfl
@[simp] theorem modLun_portB (s : State) (die : Nat) (f : Lun → Lun) : (modLun s die f).portB = s.portB := rfl
@[simp] theorem modLun_portMode (s : State) (die : Nat) (f : Lun → Lun) : (modLun s die f).portMode = s.portMode := rfl
@[simp] theorem modLun_vfSplit (s : State) (die : Nat) (f : Lun → Lun) : (modLun s die f).vfSplit = s.vfSplit := rfl
@[simp] theorem modLun_wakeLow (s : State) (die : Nat) (f : Lun → Lun) : (modLun s die f).wakeLow = s.wakeLow := rfl
@[simp] theorem modLun_insts (s : State) (die : Nat) (f : Lun → Lun) : (modLun s die f).insts = s.insts := rfl
@[simp] theorem modLun_sqs (s : State) (die : Nat) (f : Lun → Lun) : (modLun s die f).sqs = s.sqs := rfl
@[simp] theorem modLun_cqs (s : State) (die : Nat) (f : Lun → Lun) : (modLun s die f).cqs = s.cqs := rfl
@[simp] theorem modLun_flights (s : State) (die : Nat) (f : Lun → Lun) : (modLun s die f).flights = s.flights := rfl
@[simp] theorem modLun_eng (s : State) (die : Nat) (f : Lun → Lun) : (modLun s die f).eng = s.eng := rfl
@[simp] theorem modLun_nss (s : State) (die : Nat) (f : Lun → Lun) : (modLun s die f).nss = s.nss := rfl
@[simp] theorem modLun_zones (s : State) (die : Nat) (f : Lun → Lun) : (modLun s die f).zones = s.zones := rfl
@[simp] theorem modLun_blocks (s : State) (die : Nat) (f : Lun → Lun) : (modLun s die f).blocks = s.blocks := rfl
@[simp] theorem modLun_pis (s : State) (die : Nat) (f : Lun → Lun) : (modLun s die f).pis = s.pis := rfl
@[simp] theorem modLun_lastCqe (s : State) (die : Nat) (f : Lun → Lun) : (modLun s die f).lastCqe = s.lastCqe := rfl
@[simp] theorem modLun_hostOut (s : State) (die : Nat) (f : Lun → Lun) : (modLun s die f).hostOut = s.hostOut := rfl
@[simp] theorem modLun_barRead (s : State) (die : Nat) (f : Lun → Lun) : (modLun s die f).barRead = s.barRead := rfl
@[simp] theorem modLun_keyChecks (s : State) (die : Nat) (f : Lun → Lun) : (modLun s die f).keyChecks = s.keyChecks := rfl
@[simp] theorem modLun_msix (s : State) (die : Nat) (f : Lun → Lun) : (modLun s die f).msix = s.msix := rfl
@[simp] theorem modLun_msixTable (s : State) (die : Nat) (f : Lun → Lun) : (modLun s die f).msixTable = s.msixTable := rfl
@[simp] theorem modLun_power (s : State) (die : Nat) (f : Lun → Lun) : (modLun s die f).power = s.power := rfl
@[simp] theorem modLun_thermal (s : State) (die : Nat) (f : Lun → Lun) : (modLun s die f).thermal = s.thermal := rfl
@[simp] theorem modLun_wdt (s : State) (die : Nat) (f : Lun → Lun) : (modLun s die f).wdt = s.wdt := rfl
@[simp] theorem modLun_comp (s : State) (die : Nat) (f : Lun → Lun) : (modLun s die f).comp = s.comp := rfl
@[simp] theorem modLun_dram (s : State) (die : Nat) (f : Lun → Lun) : (modLun s die f).dram = s.dram := rfl
@[simp] theorem modLun_bufs (s : State) (die : Nat) (f : Lun → Lun) : (modLun s die f).bufs = s.bufs := rfl
@[simp] theorem modLun_cf (s : State) (die : Nat) (f : Lun → Lun) : (modLun s die f).cf = s.cf := rfl
@[simp] theorem modLun_boot (s : State) (die : Nat) (f : Lun → Lun) : (modLun s die f).boot = s.boot := rfl
@[simp] theorem modLun_xlat (s : State) (die : Nat) (f : Lun → Lun) : (modLun s die f).xlat = s.xlat := rfl
@[simp] theorem modLun_pair (s : State) (die : Nat) (f : Lun → Lun) : (modLun s die f).pair = s.pair := rfl
@[simp] theorem modLun_freeCtr (s : State) (die : Nat) (f : Lun → Lun) : (modLun s die f).freeCtr = s.freeCtr := rfl
@[simp] theorem modLun_pending (s : State) (die : Nat) (f : Lun → Lun) : (modLun s die f).pending = s.pending := rfl
@[simp] theorem v_modLun (s : State) (die : Nat) (f : Lun → Lun) (k : Nat) : v (modLun s die f) k = v s k := rfl
@[simp] theorem inst_modLun (s : State) (die : Nat) (f : Lun → Lun) (i : Nat) : inst (modLun s die f) i = inst s i := rfl

@[simp] theorem modTest_clk (s : State) (f : EccTest → EccTest) : (modTest s f).clk = s.clk := rfl
@[simp] theorem modTest_dict (s : State) (f : EccTest → EccTest) : (modTest s f).dict = s.dict := rfl
@[simp] theorem modTest_genNow (s : State) (f : EccTest → EccTest) : (modTest s f).genNow = s.genNow := rfl
@[simp] theorem modTest_gens (s : State) (f : EccTest → EccTest) : (modTest s f).gens = s.gens := rfl
@[simp] theorem modTest_reserved (s : State) (f : EccTest → EccTest) : (modTest s f).reserved = s.reserved := rfl
@[simp] theorem modTest_staged (s : State) (f : EccTest → EccTest) : (modTest s f).staged = s.staged := rfl
@[simp] theorem modTest_miowa (s : State) (f : EccTest → EccTest) : (modTest s f).miowa = s.miowa := rfl
@[simp] theorem modTest_store (s : State) (f : EccTest → EccTest) : (modTest s f).store = s.store := rfl
@[simp] theorem modTest_recd (s : State) (f : EccTest → EccTest) : (modTest s f).recd = s.recd := rfl
@[simp] theorem modTest_trace (s : State) (f : EccTest → EccTest) : (modTest s f).trace = s.trace := rfl
@[simp] theorem modTest_tel (s : State) (f : EccTest → EccTest) : (modTest s f).tel = s.tel := rfl
@[simp] theorem modTest_crc (s : State) (f : EccTest → EccTest) : (modTest s f).crc = s.crc := rfl
@[simp] theorem modTest_portA (s : State) (f : EccTest → EccTest) : (modTest s f).portA = s.portA := rfl
@[simp] theorem modTest_portB (s : State) (f : EccTest → EccTest) : (modTest s f).portB = s.portB := rfl
@[simp] theorem modTest_portMode (s : State) (f : EccTest → EccTest) : (modTest s f).portMode = s.portMode := rfl
@[simp] theorem modTest_vfSplit (s : State) (f : EccTest → EccTest) : (modTest s f).vfSplit = s.vfSplit := rfl
@[simp] theorem modTest_wakeLow (s : State) (f : EccTest → EccTest) : (modTest s f).wakeLow = s.wakeLow := rfl
@[simp] theorem modTest_insts (s : State) (f : EccTest → EccTest) : (modTest s f).insts = s.insts := rfl
@[simp] theorem modTest_sqs (s : State) (f : EccTest → EccTest) : (modTest s f).sqs = s.sqs := rfl
@[simp] theorem modTest_cqs (s : State) (f : EccTest → EccTest) : (modTest s f).cqs = s.cqs := rfl
@[simp] theorem modTest_flights (s : State) (f : EccTest → EccTest) : (modTest s f).flights = s.flights := rfl
@[simp] theorem modTest_eng (s : State) (f : EccTest → EccTest) : (modTest s f).eng = s.eng := rfl
@[simp] theorem modTest_nss (s : State) (f : EccTest → EccTest) : (modTest s f).nss = s.nss := rfl
@[simp] theorem modTest_zones (s : State) (f : EccTest → EccTest) : (modTest s f).zones = s.zones := rfl
@[simp] theorem modTest_blocks (s : State) (f : EccTest → EccTest) : (modTest s f).blocks = s.blocks := rfl
@[simp] theorem modTest_pis (s : State) (f : EccTest → EccTest) : (modTest s f).pis = s.pis := rfl
@[simp] theorem modTest_lastCqe (s : State) (f : EccTest → EccTest) : (modTest s f).lastCqe = s.lastCqe := rfl
@[simp] theorem modTest_hostOut (s : State) (f : EccTest → EccTest) : (modTest s f).hostOut = s.hostOut := rfl
@[simp] theorem modTest_barRead (s : State) (f : EccTest → EccTest) : (modTest s f).barRead = s.barRead := rfl
@[simp] theorem modTest_keyChecks (s : State) (f : EccTest → EccTest) : (modTest s f).keyChecks = s.keyChecks := rfl
@[simp] theorem modTest_msix (s : State) (f : EccTest → EccTest) : (modTest s f).msix = s.msix := rfl
@[simp] theorem modTest_msixTable (s : State) (f : EccTest → EccTest) : (modTest s f).msixTable = s.msixTable := rfl
@[simp] theorem modTest_power (s : State) (f : EccTest → EccTest) : (modTest s f).power = s.power := rfl
@[simp] theorem modTest_thermal (s : State) (f : EccTest → EccTest) : (modTest s f).thermal = s.thermal := rfl
@[simp] theorem modTest_wdt (s : State) (f : EccTest → EccTest) : (modTest s f).wdt = s.wdt := rfl
@[simp] theorem modTest_nand (s : State) (f : EccTest → EccTest) : (modTest s f).nand = s.nand := rfl
@[simp] theorem modTest_comp (s : State) (f : EccTest → EccTest) : (modTest s f).comp = s.comp := rfl
@[simp] theorem modTest_dram (s : State) (f : EccTest → EccTest) : (modTest s f).dram = s.dram := rfl
@[simp] theorem modTest_cf (s : State) (f : EccTest → EccTest) : (modTest s f).cf = s.cf := rfl
@[simp] theorem modTest_boot (s : State) (f : EccTest → EccTest) : (modTest s f).boot = s.boot := rfl
@[simp] theorem modTest_xlat (s : State) (f : EccTest → EccTest) : (modTest s f).xlat = s.xlat := rfl
@[simp] theorem modTest_pair (s : State) (f : EccTest → EccTest) : (modTest s f).pair = s.pair := rfl
@[simp] theorem modTest_freeCtr (s : State) (f : EccTest → EccTest) : (modTest s f).freeCtr = s.freeCtr := rfl
@[simp] theorem modTest_pending (s : State) (f : EccTest → EccTest) : (modTest s f).pending = s.pending := rfl
@[simp] theorem v_modTest (s : State) (f : EccTest → EccTest) (k : Nat) : v (modTest s f) k = v s k := rfl
@[simp] theorem inst_modTest (s : State) (f : EccTest → EccTest) (i : Nat) : inst (modTest s f) i = inst s i := rfl

@[simp] theorem barReturn_clk (s : State) (fn x : Nat) : (barReturn s fn x).clk = s.clk := rfl
@[simp] theorem barReturn_dict (s : State) (fn x : Nat) : (barReturn s fn x).dict = s.dict := rfl
@[simp] theorem barReturn_genNow (s : State) (fn x : Nat) : (barReturn s fn x).genNow = s.genNow := rfl
@[simp] theorem barReturn_gens (s : State) (fn x : Nat) : (barReturn s fn x).gens = s.gens := rfl
@[simp] theorem barReturn_reserved (s : State) (fn x : Nat) : (barReturn s fn x).reserved = s.reserved := rfl
@[simp] theorem barReturn_staged (s : State) (fn x : Nat) : (barReturn s fn x).staged = s.staged := rfl
@[simp] theorem barReturn_miowa (s : State) (fn x : Nat) : (barReturn s fn x).miowa = s.miowa := rfl
@[simp] theorem barReturn_store (s : State) (fn x : Nat) : (barReturn s fn x).store = s.store := rfl
@[simp] theorem barReturn_recd (s : State) (fn x : Nat) : (barReturn s fn x).recd = s.recd := rfl
@[simp] theorem barReturn_trace (s : State) (fn x : Nat) : (barReturn s fn x).trace = s.trace := rfl
@[simp] theorem barReturn_tel (s : State) (fn x : Nat) : (barReturn s fn x).tel = s.tel := rfl
@[simp] theorem barReturn_crc (s : State) (fn x : Nat) : (barReturn s fn x).crc = s.crc := rfl
@[simp] theorem barReturn_portA (s : State) (fn x : Nat) : (barReturn s fn x).portA = s.portA := rfl
@[simp] theorem barReturn_portB (s : State) (fn x : Nat) : (barReturn s fn x).portB = s.portB := rfl
@[simp] theorem barReturn_portMode (s : State) (fn x : Nat) : (barReturn s fn x).portMode = s.portMode := rfl
@[simp] theorem barReturn_vfSplit (s : State) (fn x : Nat) : (barReturn s fn x).vfSplit = s.vfSplit := rfl
@[simp] theorem barReturn_wakeLow (s : State) (fn x : Nat) : (barReturn s fn x).wakeLow = s.wakeLow := rfl
@[simp] theorem barReturn_insts (s : State) (fn x : Nat) : (barReturn s fn x).insts = s.insts := rfl
@[simp] theorem barReturn_sqs (s : State) (fn x : Nat) : (barReturn s fn x).sqs = s.sqs := rfl
@[simp] theorem barReturn_cqs (s : State) (fn x : Nat) : (barReturn s fn x).cqs = s.cqs := rfl
@[simp] theorem barReturn_flights (s : State) (fn x : Nat) : (barReturn s fn x).flights = s.flights := rfl
@[simp] theorem barReturn_eng (s : State) (fn x : Nat) : (barReturn s fn x).eng = s.eng := rfl
@[simp] theorem barReturn_nss (s : State) (fn x : Nat) : (barReturn s fn x).nss = s.nss := rfl
@[simp] theorem barReturn_zones (s : State) (fn x : Nat) : (barReturn s fn x).zones = s.zones := rfl
@[simp] theorem barReturn_blocks (s : State) (fn x : Nat) : (barReturn s fn x).blocks = s.blocks := rfl
@[simp] theorem barReturn_pis (s : State) (fn x : Nat) : (barReturn s fn x).pis = s.pis := rfl
@[simp] theorem barReturn_lastCqe (s : State) (fn x : Nat) : (barReturn s fn x).lastCqe = s.lastCqe := rfl
@[simp] theorem barReturn_hostOut (s : State) (fn x : Nat) : (barReturn s fn x).hostOut = s.hostOut := rfl
@[simp] theorem barReturn_keyChecks (s : State) (fn x : Nat) : (barReturn s fn x).keyChecks = s.keyChecks := rfl
@[simp] theorem barReturn_msix (s : State) (fn x : Nat) : (barReturn s fn x).msix = s.msix := rfl
@[simp] theorem barReturn_msixTable (s : State) (fn x : Nat) : (barReturn s fn x).msixTable = s.msixTable := rfl
@[simp] theorem barReturn_power (s : State) (fn x : Nat) : (barReturn s fn x).power = s.power := rfl
@[simp] theorem barReturn_thermal (s : State) (fn x : Nat) : (barReturn s fn x).thermal = s.thermal := rfl
@[simp] theorem barReturn_wdt (s : State) (fn x : Nat) : (barReturn s fn x).wdt = s.wdt := rfl
@[simp] theorem barReturn_nand (s : State) (fn x : Nat) : (barReturn s fn x).nand = s.nand := rfl
@[simp] theorem barReturn_comp (s : State) (fn x : Nat) : (barReturn s fn x).comp = s.comp := rfl
@[simp] theorem barReturn_dram (s : State) (fn x : Nat) : (barReturn s fn x).dram = s.dram := rfl
@[simp] theorem barReturn_bufs (s : State) (fn x : Nat) : (barReturn s fn x).bufs = s.bufs := rfl
@[simp] theorem barReturn_cf (s : State) (fn x : Nat) : (barReturn s fn x).cf = s.cf := rfl
@[simp] theorem barReturn_boot (s : State) (fn x : Nat) : (barReturn s fn x).boot = s.boot := rfl
@[simp] theorem barReturn_xlat (s : State) (fn x : Nat) : (barReturn s fn x).xlat = s.xlat := rfl
@[simp] theorem barReturn_pair (s : State) (fn x : Nat) : (barReturn s fn x).pair = s.pair := rfl
@[simp] theorem barReturn_freeCtr (s : State) (fn x : Nat) : (barReturn s fn x).freeCtr = s.freeCtr := rfl
@[simp] theorem barReturn_pending (s : State) (fn x : Nat) : (barReturn s fn x).pending = s.pending := rfl
@[simp] theorem v_barReturn (s : State) (fn x : Nat) (k : Nat) : v (barReturn s fn x) k = v s k := rfl
@[simp] theorem inst_barReturn (s : State) (fn x : Nat) (i : Nat) : inst (barReturn s fn x) i = inst s i := rfl

@[simp] theorem v_setV_self (s : State) (k x : Nat) : v (setV s k x) k = x := by
  simp [v, setV]

@[simp] theorem v_setV_ne (s : State) {k k' : Nat} (x : Nat) (h : k' ≠ k) : v (setV s k x) k' = v s k' := by
  simp [v, setV, Assoc.get?_put_ne _ _ h]

/-- An entry after an update of another: the same for every entry but the one written. -/
theorem v_setV (s : State) (k x k' : Nat) : v (setV s k x) k' = if k' = k then x else v s k' := by
  by_cases h : k' = k
  · subst h
    simp
  · simp [h]

theorem v_bump (s : State) (k w n k' : Nat) : v (bump s k w n) k' = if k' = k then satAdd w (v s k) n else v s k' := v_setV ..

@[simp] theorem inst_modInst_self (s : State) (n : Nat) (f : Inst → Inst) : inst (modInst s n f) n = f (inst s n) := by
  simp [inst, modInst]

@[simp] theorem inst_modInst_ne (s : State) {n i : Nat} (f : Inst → Inst) (h : i ≠ n) : inst (modInst s n f) i = inst s i := by
  simp [inst, modInst, Assoc.getD, Assoc.get?_put_ne _ _ h]

@[simp] theorem zoneAt_modZone_self (s : State) (k : Nat) (f : Zone → Zone) : zoneAt (modZone s k f) k = f (zoneAt s k) := by
  simp [zoneAt, modZone]

@[simp] theorem zoneAt_modZone_ne (s : State) {k i : Nat} (f : Zone → Zone) (h : i ≠ k) : zoneAt (modZone s k f) i = zoneAt s i := by
  simp [zoneAt, modZone, Assoc.getD, Assoc.get?_put_ne _ _ h]

end Sys2Proof.Machine
end

