-- ==== Sys2Proof/Tests/Slice0.lean ====
section
/-! SUPPORT. Tests/Slice0.lean: the model's own tests: ill-formed commands, one step of a few commands, and for every statement
with hypotheses a state and operands that meet them. -/
namespace Sys2Proof.Tests
open Sys2Proof Sys2Proof.Machine

/- Each test is checked before the next is read: the threads that wait for one another would take the memory. -/
set_option Elab.async false

-- ===== states and operands the witnesses use =====

/-- The state after reset. -/
def s0 : State := State.reset

/-- A state with other supplies, temperature state, pair, media, translation, buffers, DRAM, code flash, boot or recorders. -/
def pw (s : State) (f : Power → Power) : State := { s with power := f s.power }
def th (s : State) (f : Thermal → Thermal) : State := { s with thermal := f s.thermal }
def pr (s : State) (f : Pair → Pair) : State := { s with pair := f s.pair }
def na (s : State) (f : Nand → Nand) : State := { s with nand := f s.nand }
def xl (s : State) (f : Xlat → Xlat) : State := { s with xlat := f s.xlat }
def bf (s : State) (f : Buffers → Buffers) : State := { s with bufs := f s.bufs }
def dr (s : State) (f : Dram → Dram) : State := { s with dram := f s.dram }
def cfl (s : State) (f : CodeFlash → CodeFlash) : State := { s with cf := f s.cf }
def bo (s : State) (f : Boot → Boot) : State := { s with boot := f s.boot }
def rc (s : State) (f : Recorder → Recorder) : State := { s with recd := f s.recd }
def pA (s : State) (f : Port → Port) : State := { s with portA := f s.portA }

/-- A state with other values of some entries. -/
def en (s : State) (l : List (Nat × Nat)) : State := { s with dict := l.foldl (fun m e => m.put e.1 e.2) s.dict }

/-- A state with another instance `n`. -/
def ins (s : State) (n : Nat) (f : Inst → Inst) : State := modInst s n f

/-- A manager's access out of band, and one of a PF in band. -/
def i3c : Access := ⟨.i3c0, 1, 0, 0⟩
def pf0 : Access := ⟨.fn 0, 1, 0, 7⟩

/-- A decidable form of `Allowed`. -/
def allowedB (s : State) (a : Access) (idx sub x : Nat) : Bool :=
  match lookup s a.path idx sub a.inst with
  | .ok (r, _) => r.check x == 0
  | .error _ => false

theorem allowed_of {s : State} {a : Access} {idx sub x : Nat} (h : allowedB s a idx sub x = true) : Allowed s a idx sub x := by
  unfold allowedB at h
  split at h
  · next r k e => exact ⟨r, k, e, by simpa using h⟩
  · cases h

/-- A decidable form of `Reached`. -/
def reachedB (s : State) (a : Access) (idx sub : Nat) : Bool := match lookup s a.path idx sub a.inst with
  | .ok _ => true
  | .error _ => false

theorem reached_of {s : State} {a : Access} {idx sub : Nat} (h : reachedB s a idx sub = true) : Reached s a idx sub := by
  unfold reachedB at h
  split at h
  · next p e => exact ⟨p.1, p.2, e⟩
  · cases h

theorem reset_is_sound : Sound s0 := by constructor <;> decide

/-- A request out of band with its CRC-32C. -/
def sealed (q : MiowaReq) : MiowaReq := { q with check := crc32c (MiowaReq.bytes q) }

/-- A request of opcode `op` on an entry, out of band. -/
def rq (op idx sub : Nat) (value : Bytes) : MiowaReq :=
  sealed { path := .i3c0, ver := 1, op := op, flags := 0, tag := 5, index := idx, sub := sub, resv7 := 0, inst := 0, resv10 := 0, off := 0,
           value := value, check := 0, cid := 0, saveSel := 0 }

/-- A decidable form of what `Accepted` asks besides the CRC-32C. -/
def acceptedB (s : State) (q : MiowaReq) (r : Row) (key : Nat) : Bool :=
  (outOfBand q.path || q.saveSel == 0) && headCheck q == 0 && !notNow s q && opFits r q.op &&
    (match lookup s q.path q.index q.sub q.inst with
    | .ok p => p.1 == r && p.2 == key
    | .error _ => false)

theorem accepted_of {s : State} {q : MiowaReq} {r : Row} {key : Nat} (h : acceptedB s (sealed q) r key = true) : Accepted s (sealed q) r key := by
  simp only [acceptedB, Bool.and_eq_true, Bool.or_eq_true, beq_iff_eq, Bool.not_eq_true'] at h
  obtain ⟨⟨⟨⟨h1, h2⟩, h3⟩, h4⟩, h5⟩ := h
  refine ⟨fun _ => rfl, fun e => by rcases h1 with h1 | h1; · rw [h1] at e; cases e
                                    · exact h1, h2, h3, ?_, h4⟩
  split at h5
  · next p e => rw [e]; simp only [Bool.and_eq_true, beq_iff_eq] at h5; rw [← h5.1, ← h5.2]
  · cases h5

/-- The row of an entry that exists. -/
def row (idx sub : Nat) : Row := (rowOf idx sub).getD ⟨0, 0, 0, 0, 0, 0, 0, 0, .any, false⟩

/-- A command in flight of function 0, queue 1, identifier 7; a read. -/
def fl (op seq : Nat) (st : Stage) : Flight :=
  { fn := 0, sqid := 1, cid := 7, cqid := 1, seq := seq, gen := 0, opcode := op, nsid := 1, urgent := false, fuse := 0, ordered := false, slba := 0, nlb := 1,
    stage := st, fetchNs := 0, pools := [0, 0, 0, 0, 0], blocks := [], clears := [], mapWaits := [], waits := [], frameWaits := [], flushZones := [],
    compareWith := [], pi := ⟨false, false, false, false, 0, 0, 0⟩, status := .success, mirrorSeq := 0, throughWait := false, tag := 0, admitted := false,
    excused := false, bounded := false, cove := 0, fua := false, admitNs := 0, laddered := false, nsOk := true, failed := [], counted := [] }
def f0 : Flight := fl 2 0 .fetched
/-- A state with VF 2 of port A. -/
def sVf : State := pA s0 fun p => { p with vfEnable := true, numVfs := 1 }
/-- A state in which function 0 may become ready. -/
def sReady : State :=
  dr (na (pw (ins s0 0 fun i => { i with cc := 1 }) fun p => { p with supplyGood := true }) fun n => { n with negotiated := true }) fun d => { d with negotiated := true }

/-- The command in flight `f0` as a command, and one of VF 2. -/
def c0 : Cmd := ⟨0, 1, 7, 1, false⟩
def cVf : Cmd := ⟨2, 1, 7, 1, false⟩
/-- A queue pair of function 0 with one command to fetch, and its entry. -/
def sq1 : Sq := ⟨1, 4, 0, 1, 1⟩
def cq1 : Cq := { Cq.fresh with size := 4, ien := true }
def cqe1 : Cqe := ⟨1, 7, .success, 0, 0, 0⟩
def e1 : SqEntry := ⟨7, 2, 1, 0, 1, 0, false⟩
def sQ : State := ins { s0 with sqs := [(qkey 0 1, sq1)], cqs := [(qkey 0 1, cq1)] } 0 fun i => { i with cc := 1, rdy := true }
/-- `s` with the cached contexts of queue 1. -/
def cached (s : State) : State := { s with eng := { s.eng with qctx := [qkey 0 1] } }

/-- Cove 0: one die, die 0, with a slot of 64 blocks of 48 MiB; slice 0 of instance 0 holds a key. -/
def cv0 : Nat := 2 ^ 31 + 1 + 2 ^ 32 + 2 ^ 64 + 6 * 2 ^ 160 + 5 * 2 ^ 176 + 4 * 2 ^ 192
def sM : State :=
  na (en (ins s0 0 fun i => { i with keys := [(0, 0)] })
      [(coveKey 0, cv0), (K.metaBytesTotal, 2 ^ 40), (instKey K.nsTmplQuota 0, 1), (instKey K.coveBind 0, 2 ^ 256 - 1)]) fun n =>
    { n with negotiated := true, times := List.replicate 32 0xFF, slots := [(0, ⟨true, 1, 0, 0, 0, 1, 4, 64, 256, 0⟩)], dies := [(0, 1)] }
/-- A conventional and a zoned namespace, and a state that holds one as namespace 1. -/
def nC : Ns := newNs [(0, 1)] 0 false 262144 0 0 0
def nZ : Ns := newNs [(0, 4)] 0 true 262144 0 0 0
def wns (s : State) (n : Ns) : State := { s with nss := [(1, n)] }
def sC : State := wns sM { nC with attached := [0] }
def sZ : State := wns sM { nZ with attached := [0] }
/-- `s` with commands in flight. -/
def fs (s : State) (l : List Flight) : State := { s with flights := l }
def xf (s : State) (f : CodeFlash → CodeFlash) : State := { s with cf := f s.cf }

/-- A command in flight in the conventional and in the zoned namespace; a block; a write's arguments. -/
def sCf (op : Nat) : State := fs sC [fl op 0 .fetched]
def sZf (op : Nat) : State := fs sZ [fl op 0 .fetched]
def blk0 : Block := ⟨5, none⟩
def noProt : PiArgs := ⟨false, false, false, false, 0, 0, 0⟩
/-- `s` once the arguments of a write of `bs` at `slba` are set. -/
def wr (s : State) (slba : Nat) (bs : List Block) : State := setArgs s c0 slba bs.length false false noProt []

/-- Zone 0 of namespace 1, in a state and with a write pointer; the state of `sZ` with it. -/
def z0 (st : ZState) : Zone := { zoneAt sZ (zkey 1 0) with st := st, wp := 5 }
def wz (s : State) (z : Zone) : State := { s with zones := [(zkey 1 0, z)] }
def x0 (s : State) (f : Xlat → Xlat) : State := { s with xlat := f s.xlat }
/-- `sZ` with block 20 of die 0 used by allocation 0 of zone 0, due for refresh, and block 40 worn. -/
def sB : State :=
  wz (na sZ fun n => { n with blocks := [(bkey 0 20, { PBlock.fresh with use := .zone (zkey 1 0) 0 0, due := true }), (bkey 0 40, { PBlock.fresh with erases := 60000 })] })
    { z0 .full with allocs := [[20]] }
/-- Zone 0 in a compressed Cove, with an open unit and a frame; a write to it. -/
def u0 : OpenUnit := ⟨0, 4096, 100, 0, 0, 1, 0, false, 0⟩
def fr0 : Frame := ⟨0, 65536, 0, 9000, 0, 0, 0, 0, 0⟩
def sK : State := en (wz sZ { z0 .implicitOpen with unit := some u0, frames := [fr0] }) [(coveKey 0, cv0 + 2 ^ 16)]
def fK : Flight := { fl 1 0 .running with blocks := [(5, blk0), (6, blk0)], slba := 5, nlb := 2 }

/-- A NAND descriptor of opcode 1. -/
def d0 : Desc := ⟨1, false, false, 0, 0, 0, 0, 0, 1, 1, 0, 0, 0, 0, 0, 0, 0, 0, false, .background⟩
def dop (op : Nat) : Desc := { d0 with opcode := op }
/-- `sM` with a LUN 0, and with tokens. -/
def ln (s : State) (l : Lun) : State := na s fun n => { n with luns := [(0, l)] }
def op0 (d : Desc) : ArrayOp := ⟨d, 0, 0, 0, false, 0⟩
/-- `sM` with channel 0 in service. -/
def sO : State := en sM [(K.channelsInService, 1)]

/-- The rails up to step `g`, the boot ROM running; the bank charged; a sleep entry. -/
def sR (g : Nat) : State := bo (pw sO fun p => { p with good := g, step := Nat.min 7 (g + 1), supplyGood := true }) fun b => { b with powered := true, recovery := false }
def mgr : Access := { i3c with inst := 0 }
def sW : State := pw (en (sR 7) [(K.supplyState, 3), (K.supplyNowMv, 12000)]) fun p => { p with flushActive := false }

theorem witness_time_base_and_speed : domainOn (pw s0 fun p => { p with good := 7 }) 4 = true ∧ v s0 K.timeBaseSelect = 0 ∧
    domainOn (en (pw s0 fun p => { p with good := 7 }) [(unitKey K.coreMv (domainRail 0), 850)]) 0 = true ∧
    v (en (pw s0 fun p => { p with good := 7 }) [(unitKey K.coreMv (domainRail 0), 850)]) (unitKey K.coreMv (domainRail 0)) = 850 ∧ throttleAt s0 = 0 ∧
    throttleAt (th s0 fun t => { t with state := 1 }) = 1 := by decide
theorem witness_die_links_and_strands : strandDown (pw s0 fun p => { p with good := 7 }) 7 = false ∧ strandIdle (pw s0 fun p => { p with good := 7 }) 7 = true ∧
    strandBounded s0 7 = false ∧ strandIdle (na s0 fun n => { n with luns := [(0, { Lun.fresh with queue := [d0] })] }) 0 = false ∧
    (na s0 fun n => { n with gated := [0] }).nand.gated.contains 0 = true ∧ strandOwned s0 0 = true ∧ s0.power.state < 2 := by decide

/-- A state with an open transfer on READ_LEVEL_MAP's entry, one with a waiting journal record, one with an overlay. -/
def sXfer : State := { s0 with miowa := { s0.miowa with xfers := [(entryKey 0x4106 1 0, ⟨.i3c0, 2048, [0], false⟩)] } }
def sJour : State := { s0 with store := { s0.store with queue := [⟨rq 2 0x1200 1 [0, 0], true, [jrec (entryKey 0x1200 1 0) 1 [0, 0] 0], 1, [], 0, .rwp⟩] } }

theorem witness_dict_read : Accepted s0 (rq 1 0x1201 1 []) (row 0x1201 1) (entryKey 0x1201 1 0) ∧ (row 0x1201 1).acc = 7 ∧
    pendingLast s0 (entryKey 0x1201 1 0) = none ∧ Accepted s0 (rq 3 0x9000 6 []) (row 0x9000 6) (entryKey 0x9000 6 0) ∧
    bitAt (sealed { rq 1 0x1210 1 [] with flags := 1 }).flags 0 = true ∧
    pendingLast { s0 with staged := [⟨2, .entry (entryKey 0x1210 1 0) 16⟩] } (entryKey 0x1210 1 0) = some (2, 16) ∧
    Accepted { s0 with staged := [⟨2, .entry (entryKey 0x1210 1 0) 16⟩] } (sealed { rq 1 0x1210 1 [] with flags := 1 }) (row 0x1210 1) (entryKey 0x1210 1 0) :=
  ⟨accepted_of (by decide), by decide, by decide, accepted_of (by decide), by decide, by decide, accepted_of (by decide)⟩

theorem witness_dict_write : Accepted s0 (rq 2 0x2100 7 [0, 0]) (row 0x2100 7) (entryKey 0x2100 7 0) ∧ (row 0x2100 7).acc = 2 ∧
    entryOff (pw s0 fun p => { p with good := 7 }) (entryKey 0x2100 7 0) = false ∧ writeCheck s0 (row 0x2100 7) (entryKey 0x2100 7 0) 0 = 0 ∧
    Accepted s0 (rq 2 0x9100 1 [0, 0, 0, 0, 0, 0, 0, 0]) (row 0x9100 1) (entryKey 0x9100 1 0) ∧ (row 0x9100 1).acc = 4 ∧ canStage s0 (applyTide s0) = true ∧
    writeCheck s0 (row 0x9100 1) (entryKey 0x9100 1 0) 0 = 0 ∧ ownWrite s0 (rq 2 0x9100 1 [0, 0, 0, 0, 0, 0, 0, 0]) 0 = none ∧
    canStage { s0 with reserved := List.range 16 } (applyTide s0 + 20) = false ∧
    Accepted s0 (rq 2 0x1200 1 [9, 0]) (row 0x1200 1) (entryKey 0x1200 1 0) ∧ (row 0x1200 1).acc = 5 ∧ writeCheck s0 (row 0x1200 1) (entryKey 0x1200 1 0) 9 = 0 ∧
    Accepted s0 (rq 2 0x1210 1 [16, 0]) (row 0x1210 1) (entryKey 0x1210 1 0) ∧ (row 0x1210 1).acc = 6 ∧ writeCheck s0 (row 0x1210 1) (entryKey 0x1210 1 0) 16 = 0 ∧
    mirroring sJour = false ∧ Machine.isDomain (entryKey 0x1200 1 0) = false ∧ imageKeys (entryKey 0x1200 1 0) = [entryKey 0x1200 1 0] ∧
    sJour.store.queue.length = 1 := by
  refine ⟨accepted_of (by decide), by decide, by decide, by decide, accepted_of (by decide), by decide, by decide, by decide, rfl, by decide,
    accepted_of (by decide), by decide, by decide, accepted_of (by decide), by decide, by decide, by decide, by decide, by decide, by decide⟩

theorem witness_dict_refused : outOfBand (rq 1 0x1000 1 []).path = true ∧ ({ rq 1 0x1000 1 [] with check := crc32c (MiowaReq.bytes (rq 1 0x1000 1 [])) + 1 } : MiowaReq).check ≠ crc32c (MiowaReq.bytes (rq 1 0x1000 1 [])) ∧
    headCheck (sealed { rq 1 0x1000 1 [] with ver := 2 }) ≠ 0 ∧ headCheck (rq 1 0x1000 1 []) = 0 ∧ notNow s0 (rq 1 0x0FFF 1 []) = false ∧
    lookup s0 .i3c0 0x0FFF 1 0 = .error 1 ∧ Accepted s0 (rq 2 0x1000 2 [1]) (row 0x1000 2) (entryKey 0x1000 2 0) ∧ readOnly (row 0x1000 2) 2 = true ∧
    Accepted s0 (rq 2 0x1210 1 [0]) (row 0x1210 1) (entryKey 0x1210 1 0) ∧ readOnly (row 0x1210 1) 1 = false ∧ (row 0x1210 1).size = 2 ∧
    (row 0x1210 1).check 15 ≠ 0 :=
  ⟨rfl, by simp, by decide, by decide, by decide, rfl, accepted_of (by decide), by decide, accepted_of (by decide), by decide, by decide, by decide⟩

theorem witness_dict_segments : Sound s0 ∧ Accepted s0 (rq 4 0x9000 6 [64, 0, 0, 0]) (row 0x9000 6) (entryKey 0x9000 6 0) ∧
    Accepted s0 (sealed { rq 5 0x4106 1 [1] with flags := 2, off := 2048 }) (row 0x4106 1) (entryKey 0x4106 1 0) ∧ fixedTotal (entryKey 0x4106 1 0) = 2048 ∧
    Accepted sXfer (sealed { rq 5 0x4106 1 [1] with off := 1 }) (row 0x4106 1) (entryKey 0x4106 1 0) ∧ sXfer.miowa.xfers.get? (entryKey 0x4106 1 0) = some ⟨.i3c0, 2048, [0], false⟩ ∧
    Accepted sXfer (rq 6 0x4106 1 []) (row 0x4106 1) (entryKey 0x4106 1 0) ∧
    Accepted s0 (rq 4 0x9101 4 [32, 0, 0, 0]) (row 0x9101 4) K.traceDrain ∧ (rq 4 0x9101 4 [32, 0, 0, 0]).index = 0x9101 ∧ (rq 4 0x9101 4 [32, 0, 0, 0]).sub = 4 ∧
    lookup s0 (.fn 0) 0x9000 6 0 = .ok (row 0x9000 6, entryKey 0x9000 6 0) ∧ (row 0x9000 6).ty = 14 ∧ s0.boot.building = false :=
  ⟨reset_is_sound, accepted_of (by decide), accepted_of (by decide), by decide, accepted_of (by decide), rfl, accepted_of (by decide),
    accepted_of (by decide), rfl, rfl, rfl, by decide, by decide⟩

/-- An overlay image without records, and a state whose store holds its signer; whether the signature verifies is a free value. -/
def imgBytes : Bytes := leBytes 4 0x4D49574D ++ leBytes 2 1 ++ leBytes 1 2 ++ leBytes 1 8 ++ leBytes 4 3 ++ leBytes 4 0 ++ leBytes 4 0 ++ leBytes 4 0 ++ leBytes 8 0 ++
  leBytes 32 7 ++ [1, 0, 0, 0] ++ leBytes 4 2420 ++ List.replicate 2420 0
def sSigner : State := bo s0 fun b => { b with signers := [⟨2, 1, 7, 0⟩] }

set_option maxRecDepth 20000 in
theorem witness_dict_images : reachedB s0 i3c 0x1100 4 = true ∧ imgShape imgBytes = true ∧ imgHeader sSigner imgBytes = true ∧ imgKind imgBytes = 2 ∧
    imgRecs (imgBodyLen imgBytes + 1) ((imgBytes.drop 64).take (imgBodyLen imgBytes)) = some [] ∧ leAt imgBytes 16 4 = 0 ∧
    (Config.sigVerify 1 7 (imgBytes.take 64) (imgBytes.drop 72) = true → cfgSigned sSigner imgBytes = true) ∧
    Allowed s0 i3c 0x1100 2 8 ∧ s0.store.overlays.get? 8 = none ∧ Allowed s0 i3c 0x1100 9 8 ∧ Allowed s0 i3c 0x1100 6 1 ∧ Allowed s0 i3c 0x1200 3 (2 ^ 63) ∧
    Allowed s0 i3c 0x1200 3 (2 ^ 63 - 1) := by
  refine ⟨by decide, by decide, by decide, by decide, by decide, by decide, ?_, allowed_of (by decide), by decide, allowed_of (by decide),
    allowed_of (by decide), allowed_of (by decide), allowed_of (by decide)⟩
  intro h
  have h1 : leAt imgBytes 64 1 = 1 := by decide
  have h2 : leAt imgBytes 32 32 = 7 := by decide
  have h3 : imgBodyLen imgBytes = 0 := by decide
  simp [cfgSigned, h1, h2, h3, sSigner, bo, h]

/-- A port up in L0 at full width, in FLIT mode, and one in L1.2. -/
def up : Port := { Port.atReset with perst := false, link := 1, flit := true, width := 4, l0pWidth := 4 }
def sUp : State := pA s0 fun _ => up
def sL1 : State := pA s0 fun _ => { up with link := 5, refStopped := true, pme := true }

theorem witness_port_training : portActive s0 0 = true ∧ (port s0 0).perst = true ∧ portActive sUp 0 = true ∧ (port sUp 0).perst = false ∧
    (port (pA s0 fun p => { p with link := 6 }) 0).link = 6 ∧ portActive s0 1 = true := by decide

theorem witness_link_states : (pw sUp fun p => { p with state := 1 }).power.state = 1 ∧ (port sUp 0).link = 1 ∧ (port sUp 0).flit = true ∧
    narrower (port sUp 0) < (port sUp 0).l0pWidth ∧ (port (pA sUp fun p => { p with link := 2 }) 0).link = 2 ∧ 3 ≤ (port sL1 0).link ∧
    (port sL1 0).link ≤ 5 ∧ (pw sL1 fun p => { p with state := 2 }).power.entry = none ∧ wakeEnabled (en sL1 [(K.wakeEnable, 0x7F)]) 1 = true := by decide

theorem witness_function_resets : portActive sUp 0 = true ∧ (port sUp 0).perst = false ∧ sUp.power.flushActive = false ∧ fnExists s0 0 = true ∧
    (pw s0 fun p => { p with flushActive := true }).power.flushActive = true ∧ flight? s0 0 1 7 = none ∧
    flight? { s0 with flights := [f0] } 0 1 7 = some f0 ∧ countsWrite f0.opcode = false ∧ fnExists s0 0 = true := by decide

theorem witness_bar_accesses : fnExists s0 0 = true ∧ barGood 0 5 = false ∧ isPf s0 0 = true ∧ hasMailbox sVf 2 = true ∧ s0.boot.service = false ∧
    s0.crc.units[15]? = some CrcUnit.atReset ∧ (bo s0 fun b => { b with service := true }).boot.service = true ∧
    hubOff (pw s0 fun p => { p with good := 7 }) = false ∧ hubOff s0 = true ∧
    ({ s0 with trace := { s0.trace with fifo := [⟨[1, 2, 3, 4, 5, 6, 7], 28, 0, 0⟩] } } : State).trace.fifo = [⟨[1, 2, 3, 4, 5, 6, 7], 28, 0, 0⟩] := by decide

theorem witness_mailbox_bells : hasMailbox sVf 2 = true ∧ fnExists sVf 2 = true ∧ fld 2048 11 0 ≤ 2048 ∧ 2048 < fld 2049 11 0 ∧ fld 1984 11 0 ≤ 1984 ∧
    1984 < fld 1985 11 0 := by decide

theorem witness_instance_life : lookup s0 .i3c0 0x2110 2 3 = .ok (row 0x2110 2, entryKey 0x2110 2 3) ∧ writeCheck s0 (row 0x2110 2) (entryKey 0x2110 2 3) 1 = 0 ∧
    canStage s0 (applyTide s0) = true ∧ writeCheck (ins s0 2 fun i => { i with state := 3 }) (row 0x2110 2) (entryKey 0x2110 2 3) 2 = 0 ∧
    lookup s0 .i3c0 0x2110 2 1 = .ok (row 0x2110 2, entryKey 0x2110 2 1) ∧ isPf s0 0 = true ∧ isPf s0 2 = false ∧ (inst (ins s0 2 fun i => { i with state := 3 }) 2).state ≠ 0 ∧
    (inst (ins s0 2 fun i => { i with reclaiming := true }) 2).reclaiming = true ∧ (∀ f ∈ s0.flights, f.fn = 2 → f.sqid = 0 ∧ f.opcode = 0x0C) ∧
    (port s0 (portOf s0 0)).vfEnable = false ∧ portOf s0 2 = portOf s0 0 ∧ fnExists sVf 2 = true ∧ (inst (ins s0 2 fun i => { i with state := 1 }) 2).state = 1 := by
  and_intros <;> first | decide | rfl

theorem witness_controller_life : fnExists s0 0 = true ∧ bitAt (inst s0 0).cc 0 = false ∧ readyOk s0 0 = false ∧ readyOk sReady 0 = true ∧
    bitAt (inst (ins s0 0 fun i => { i with cc := 1 }) 0).cc 0 = true ∧ s0.power.flushActive = false := by decide

theorem witness_key_delivery : lookup s0 .i3c0 0x2120 1 1025 = .error 1 ∧ lookup s0 .i3c0 0x2120 1 1024 = .ok (row 0x2120 1, entryKey 0x2120 1 1024) ∧
    (row 0x2120 1).check 1 = 0 ∧ keyRefused (en s0 [(instKey K.keyAuthority 1023, 0)]) .i3c0 1023 = false ∧ keyRefused s0 .i3c0 1023 = true ∧
    lookup s0 .i3c0 0x2120 3 1024 = .ok (row 0x2120 3, entryKey 0x2120 3 1024) ∧ (List.replicate 1176 (0 : BitVec 8)).length = 1176 :=
  ⟨rfl, rfl, by decide, by decide, by decide, rfl, List.length_replicate ..⟩

theorem witness_queue_commands : Sound sQ ∧ createSqStatus sQ c0 2 3 1 true = .success ∧ createSqStatus sQ c0 0 3 1 true ≠ .success ∧ createCqStatus sQ c0 2 1 2047 true = .success ∧
    createCqStatus sQ c0 2 1 2048 true ≠ .success ∧ sqOf sQ c0.fn 1 = some sq1 ∧ sqOf sQ c0.fn 2 = none ∧ sQ.cqs.has (qkey c0.fn 1) = true ∧
    sQ.sqs.any (fun p => p.1 / 8192 == c0.fn && p.2.cqid == 1) = true ∧ ({ sQ with sqs := [] } : State).sqs.any (fun p => p.1 / 8192 == c0.fn && p.2.cqid == 1) = false ∧
    flight? { sQ with sqs := [] } 0 1 7 = none ∧ cqidOf { sQ with sqs := [] } 0 1 ≠ 1 ∧ cqidOf { sQ with sqs := [] } 0 1 < 8192 :=
  ⟨by constructor <;> decide, by decide⟩

theorem witness_doorbells_and_fetch : sqOf sQ 0 1 = some sq1 ∧ 3 < sq1.size ∧ sqOf sQ 0 2 = none ∧ sQ.power.entry = none ∧ sQ.cqs.get? (qkey 0 1) = some cq1 ∧ cq1.held = [] ∧
    (({ cq1 with posted := [cqe1], tail := 1, held := [cqe1] } : Cq).posted.drop ((1 + 4 - (1 + 4 - 1) % 4) % 4)).length + 1 < 4 ∧
    pickUrgent s0 = none ∧ pickInstance s0 = none ∧ pickUrgent sQ = none ∧ pickInstance sQ = some 0 ∧ pickQueue sQ 0 = some (1, 1) ∧
    (cached sQ).eng.qctx.contains (qkey 0 1) = true ∧ pickInstance (cached sQ) = some 0 ∧ sQ.eng.aborted.contains (qkey 0 1, 7) = false ∧
    (let u := ins { sQ with sqs := [(qkey 0 1, { sq1 with prio := 0 })] } 0 fun i => { i with cc := 2049 }; urgentRoom u = true ∧ pickUrgent u = some (0, 1)) ∧
    (let u : State := { sQ with eng := { sQ.eng with filling := [(qkey 0 1, e1, false)] } }; u.eng.filling.find? (fun x => x.1 == qkey 0 1) = some (qkey 0 1, e1, false)) ∧
    (let u : State := { s0 with flights := [fl 2 0 .admission] }; nextWaiter u 1 = some (fl 2 0 .admission) ∧ allFit u 0 false ((fl 2 0 .admission).need u) = true) ∧
    (let u : State := { s0 with flights := [fl 2 0 .admission], eng := { s0.eng with background := [196608, 0, 0, 0, 4096] } };
      nextWaiter u 1 = some (fl 2 0 .admission) ∧ allFit u 0 false ((fl 2 0 .admission).need u) = false) ∧
    (let u : State := { sQ with cqs := [(qkey 0 1, { cq1 with aggregated := 1 })] }; 0 < (cqOf u 0 1).aggregated ∧ (cqOf u 0 1).ien = true) := by decide

theorem witness_function_features : c0.resv = false ∧ canStage s0 (applyTide s0) = true ∧
    canStage { s0 with reserved := List.range' 9 15 } (applyTide s0) = false ∧ featureOf s0 (inst s0 0) 0 0x0B 0 = some (0, none) ∧
    (∃ b, featureOf s0 (inst s0 0) 0 0x16 0 = some (0, some b)) ∧ (inst s0 0).aers.length < 16 ∧ (inst s0 0).aens = [] ∧
    (inst (ins s0 0 fun i => { i with aens := [.firmwareActivation] }) 0).aens = [.firmwareActivation] ∧ ({ c0 with sqid := 0 } : Cmd).sqid = 0 ∧
    16 ≤ (inst (ins s0 0 fun i => { i with aers := List.range 16 }) 0).aers.length ∧ ({ c0 with resv := true } : Cmd).resv = true := by
  and_intros <;> first | decide | exact ⟨_, rfl⟩

theorem witness_package_features : isPf s0 c0.fn = true ∧ canStage s0 (applyTide s0) = true ∧
    (let u := pw s0 fun p => { p with down := false, apst := true, apstTable := [(3, 100)] }; isPf u c0.fn = true ∧ u.power.state < 2 ∧ u.power.entry = none ∧
      u.power.down = false ∧ u.boot.recovery = false ∧ u.power.flushActive = false ∧ belowWarning u = false ∧ u.power.apst = true ∧ u.flights = [] ∧
      (u.power.apstTable.getD u.power.ps (0, 0)).2 ≠ 0) ∧
    (∀ e ∈ [(3, 0), (4, 100), (0, 0)], e.2 ≠ 0 → e.1 = 3 ∨ e.1 = 4) ∧ isPf s0 cVf.fn = false ∧ s0.power.apst = false := by decide

theorem witness_logs_and_identify : (∃ b s', identifyData s0 c0 1 0 0 = .ok (b, s')) ∧ identifyData s0 c0 5 0 1 = .error .invalidField ∧
    (logIds s0).contains 2 = true ∧ 16 ≤ (logPage s0 c0 0x0E).1.length ∧ (logIds s0).contains 0x0C = false ∧ s0.recd.snaps.get? c0.fn = none ∧
    flight? { s0 with flights := [f0] } c0.fn 1 7 = some f0 ∧ f0.fuse = 0 ∧ abortable f0 = true ∧ flight? s0 c0.fn 1 7 = none :=
  ⟨⟨_, _, rfl⟩, rfl, by decide, by decide, by decide, by decide, by decide, by decide, by decide, by decide⟩

theorem witness_namespace_admin : Sound sM ∧ Sound (wns sM nC) ∧ isPf sM 0 = true ∧ ownsHalf sM 0 = true ∧ piAllowed 7 3 64 = true ∧
    templateQuota (vi sM K.nsTmplQuota 0) = [(0, 1)] ∧ halfOf (Cd.channels (coveDesc sM 0)) = 0 ∧ createFields sM nC 262144 = .success ∧ freeNsid sM = some 1 ∧
    noSpace sM { sM with nss := sM.nss.put 1 nC } nC = false ∧
    (let u := na sM fun n => { n with metaBlocks := 60 }; createFields u nC 262144 = .success ∧ noSpace u { u with nss := u.nss.put 1 nC } nC = true) ∧
    ownsHalf (pr sM fun p => { p with enabled := true }) 0 = false ∧
    (let u := wns sM nC; nsOf u 1 = some nC ∧ ownsHalf u nC.half = true ∧ nC.waitq = [] ∧ nC.running = none ∧ u.boot.sanitizing = false ∧ u.boot.sanWait = [] ∧
      canStage u (applyTide u) = true ∧ ctrlOf u 1 = some (false, 0) ∧ attachStatus u nC true [1] = .success ∧ nC.attached = [] ∧
      attachStatus sC { nC with attached := [0] } false [1] = .success ∧ formatStatus 1 7 3 64 = .success) ∧
    nsOf (wns sM { nC with deleting := true }) 1 = some { nC with deleting := true } ∧ sM.flights = [] := by
  refine ⟨?_, ?_, ?_⟩
  · constructor <;> decide
  · constructor <;> decide
  · decide +kernel

theorem witness_sanitize_and_status : c0.resv = false ∧ isPf s0 c0.fn = true ∧ s0.boot.sanitizing = false ∧ s0.pair.enabled = false ∧ s0.boot.sanWait = [] ∧ nsQuiet s0 = true ∧
    (bo s0 fun b => { b with failureMode := true, ause := true }).boot.ause = true ∧ s0.boot.failureMode = false ∧
    (bo s0 fun b => { b with failureMode := true }).boot.ause = false ∧ (bo s0 fun b => { b with sanitizing := true }).boot.sanitizing = true ∧ s0.nss = [] ∧
    nsOf sC 1 = some { nC with attached := [0] } ∧ 262143 < nC.nsze ∧ nC.nsze ≤ 262144 := by decide

/-- Whether a slot verifies rests on the key material, which is open: both outcomes stand in the conclusion. -/
theorem witness_firmware_update : downloadStatus s0 c0 0 4096 = .success ∧ downloadStatus (xf s0 fun x => { x with hold := some 0, written := [(0, 4096)] }) c0 4096 4096 = .success ∧
    downloadStatus s0 c0 0 4095 ≠ .success ∧ commitGate s0 c0 2 false false = .success ∧ commitGate s0 c0 2 false true = .success ∧ commitGate s0 c0 1 true true = .success ∧
    (let u := xf { s0 with boot := { s0.boot with rdySeen := true } } fun x => { x with markers := [⟨1, 1, false, 0, 0⟩] };
      u.boot.recovery = false ∧ u.boot.rdySeen = true ∧ u.cf.markers.any (fun m => m.kind == 1 && m.seq == u.boot.markerSeq && !m.confirmed) = true) := by decide

theorem witness_io_commands_wait : ioCmd (.flush c0) = some c0 ∧ (tryBegin (fs sC [fl 1 0 .fetched, { fl 0 1 .fetched with cid := 8 }]) (.flush { c0 with cid := 8 })).1 = true ∧
    flight? sC 0 1 7 = none ∧ flight? (fs sC [{ f0 with nsOk := false }]) 0 1 7 = some { f0 with nsOk := false } ∧ f0.fuse = 0 ∧
    (tryBegin (fs sC [{ f0 with nsOk := false }]) (.read c0 0 1 false false noProt)).1 = false := by decide +kernel

theorem witness_writes_begin : WriteOf (.write c0 0 [blk0] false false 0 0 noProt) c0 false 0 [blk0] false false 0 0 noProt ∧
    WriteOf (.zoneAppend c0 65536 [blk0] false noProt) c0 true 65536 [blk0] false false 0 0 noProt ∧ flight? (sCf 1) 0 1 7 = some (fl 1 0 .fetched) ∧
    (let s1 := wr (sCf 1) 0 [blk0]; let f := flightOf s1 c0; (writeHolds s1 f 0 4096).1 = false ∧
      firstBad [fuseStatus f, writeStatus (barrierCounted s1 f) f false true true true 0 1, .success] = .success ∧
      firstBad [convStatus (barrierCounted s1 f) f (nsRec s1 1) 0 1 0 0, piChecks (nsRec s1 1) noProt 0 [blk0]] = .success ∧ (nsRec s1 1).zoned = false) ∧
    (let s1 := wr (sCf 1) 262143 [blk0]; let f := flightOf s1 c0; (writeHolds s1 f 262143 4096).1 = false ∧
      firstBad [fuseStatus f, writeStatus (barrierCounted s1 f) f false true true true 262143 1, .success] = .success ∧
      firstBad [convStatus (barrierCounted s1 f) f (nsRec s1 1) 262143 1 1 0, piChecks (nsRec s1 1) noProt 0 [blk0]] ≠ .success) ∧
    (let s1 := setArgs (fs (wns sM { nZ with lbaf := 1, piType := 1, attached := [0] }) [fl 1 0 .fetched]) c0 0 1 false false { noProt with chkApp := true, lbat := 1, lbatm := 0xFFFF } []; let f := flightOf s1 c0;
      (writeHolds s1 f 0 4096).1 = false ∧ firstBad [fuseStatus f, writeStatus (barrierCounted s1 f) f false true true true 0 1, .success] = .success ∧
      (zoneCheck (barrierCounted s1 f) f (0 / zoneBlocks s1 (nsRec s1 1)) false 0 1 0 0).1 = .success ∧
      piChecks (nsRec s1 1) { noProt with chkApp := true, lbat := 1, lbatm := 0xFFFF } 0 [⟨0, some ⟨1, 0, 0, []⟩⟩] ≠ .success) ∧
    (let s1 := wr (sCf 1) 0 [blk0]; let f := flightOf s1 c0; firstBad [fuseStatus f, writeStatus (barrierCounted s1 f) f true true true true 0 1, .success] ≠ .success) ∧
    (let s1 := wr (sZf 0x7D) 65536 [blk0]; let f := flightOf s1 c0; (writeHolds s1 f 65536 4096).1 = false ∧ (nsRec s1 1).zoned = true ∧
      firstBad [fuseStatus f, writeStatus (barrierCounted s1 f) f false false true true 65536 1, if 65536 % zoneBlocks s1 (nsRec s1 1) != 0 then .invalidField else .success] = .success ∧
      (zoneCheck (barrierCounted s1 f) f (65536 / zoneBlocks s1 (nsRec s1 1)) true 65536 1 0 0).1 = .success ∧ piChecks (nsRec s1 1) noProt 0 [blk0] = .success) ∧
    (let s1 := wr (sZf 1) 1 [blk0]; let f := flightOf s1 c0; (writeHolds s1 f 1 4096).1 = false ∧
      firstBad [fuseStatus f, writeStatus (barrierCounted s1 f) f false true true true 1 1, .success] = .success ∧
      (zoneCheck (barrierCounted s1 f) f (1 / zoneBlocks s1 (nsRec s1 1)) false 1 1 0 0).1 ≠ .success) := by
  refine ⟨.inl ⟨rfl, rfl⟩, .inr ⟨rfl, rfl, rfl, rfl, rfl⟩, ?_, ?_, ?_, ?_, ?_, ?_⟩
  · decide +kernel
  · decide +kernel
  · decide +kernel
  · decide +kernel
  · decide +kernel
  · decide +kernel

theorem witness_writes_apply : Sound (fs sC [{ fl 1 0 .running with blocks := [(0, blk0)] }]) ∧
    (let f := { fl 1 0 .running with blocks := [(0, blk0)] }; let s := fs sC [f]; flight? s 0 1 7 = some f ∧ isWriteOp f.opcode = true ∧ f.stage = .running ∧ f.clears = [] ∧
      f.blocks ≠ [] ∧ compressedWrite s f = false ∧ (f.blocks.map Prod.fst).Nodup ∧ mayApply (modFlight s f.seq (fun x => { x with stage := .committed })) f = true) ∧
    (let g := { fl 1 0 .running with cid := 6, blocks := [(0, blk0)] }; let f := { fl 1 1 .running with blocks := [(0, blk0)] }; let s := fs sC [g, f];
      flight? s 0 1 7 = some f ∧ compressedWrite s f = false ∧ mayApply (modFlight s f.seq (fun x => { x with stage := .committed })) f = false) := by
  refine ⟨?_, ?_⟩
  · constructor <;> decide
  · decide +kernel

theorem witness_zeroes_and_clears :
    (let s1 := setArgs (sCf 8) c0 0 1 false false noPi []; let f := flightOf s1 c0; let n := nsRec s1 1; n.zoned = false ∧ f.fuse = 0 ∧ f.ordered = false ∧ f.opcode = 8 ∧
      (writeHolds s1 f 0 4096).1 = false ∧
      firstBad [writeStatus s1 f false true true false 0 1, convStatus s1 f n 0 1 0 0, piChecks n f.pi 0 (List.replicate 1 ⟨0, some (escTuple n)⟩)] = .success ∧
      firstBad [writeStatus s1 f false true true false 0 1, if 0 + 1 > n.nsze then .lbaOutOfRange else .success, if nsReadOnly s1 n then .nsWriteProtected else .success] = .success) ∧
    (let s1 := modFlight (setArgs (sCf 4) c0 0 8 false false noPi []) 0 (fun x => { x with clears := [] }); let f := flightOf s1 c0; (writeHolds s1 f 0 0).1 = false ∧ f.opcode = 4 ∧
      firstBad [writeStatus s1 f false true false false 0 8, if nsReadOnly s1 (nsRec s1 1) then .nsWriteProtected else .success] = .success) ∧
    (let s1 := modFlight (setArgs (sCf 9) c0 0 8 false false noPi []) 0 (fun x => { x with clears := [(0, 8), (262136, 8)] }); let f := flightOf s1 c0;
      (writeHolds s1 f 0 0).1 = false ∧ f.opcode = 9 ∧ (nsRec s1 1).zoned = false ∧
      firstBad [writeStatus s1 f false true true false 0 1, if [(0, 8), (262136, 8)].any (fun x => x.1 + x.2 > (nsRec s1 1).nsze) then .lbaOutOfRange else .success,
        if nsReadOnly s1 (nsRec s1 1) then .nsWriteProtected else .success] = .success) ∧
    (let s1 := modFlight (setArgs (sCf 9) c0 0 8 false false noPi []) 0 (fun x => { x with clears := [] }); let f := flightOf s1 c0;
      (writeHolds s1 f 0 0).1 = false ∧ ioStatus s1 f false true true = .success) ∧
    ((nsRec sC 1).zoned = false ∧ (fl 9 0 .committed).blocks = [] ∧ ∀ r ∈ [(0, 8), (262136, 8)], r.1 + r.2 ≤ 2 ^ 64) ∧ (fl 4 0 .committed).clears = [] := by decide +kernel

theorem witness_reads_and_flush :
    (let s1 := setArgs (sCf 2) c0 0 8 false false noProt []; let f := flightOf s1 c0; f.fuse = 0 ∧ readHolds s1 f = false ∧
      readStatus (barrierCounted s1 f) f false true 0 8 = .success ∧ readStatus (barrierCounted s1 f) f true true 0 8 ≠ .success) ∧
    (let s1 := setArgs (sCf 5) c0 0 1 false false noProt [blk0]; let f := flightOf s1 c0; f.fuse = 0 ∧ readHolds s1 f = false ∧ readStatus (barrierCounted s1 f) f false true 0 1 = .success) ∧
    (let s1 := setArgs (sCf 0x0C) c0 0 8 false false noProt []; let f := flightOf s1 c0; readHolds s1 f = false ∧ readStatus (barrierCounted s1 f) f false false 0 8 = .success) ∧
    (let f := fl 0 0 .fetched; let s := fs sC [f]; flight? s 0 1 7 = some f ∧ beginHolds s f = false ∧ uncheckedBefore s f = false ∧ ioStatus s f false true true = .success ∧
      ioStatus s f true true true ≠ .success) := by decide +kernel

/-- The hypotheses an action on zone 0 of `s` has in common. -/
def actOk (s : State) : Bool :=
  let s1 := modFlight s 0 (fun x => { x with slba := 0 }); let f := flightOf s1 c0
  !actHolds s1 f 0 false && actStatus s1 f false 0 false == .success && actStatus s1 f true 0 false != .success && !nsReadOnly s1 (nsRec s 1)

theorem witness_zone_actions : Sound (wz (sZf 0x79) (z0 .implicitOpen)) ∧ flight? (sZf 0x79) 0 1 7 = some (fl 0x79 0 .fetched) ∧ actOk (sZf 0x79) = true ∧
    (∀ st ∈ [ZState.empty, .implicitOpen, .explicitOpen, .closed, .readOnly, .full, .offline], actOk (wz (sZf 0x79) (z0 st)) = true ∧
      (zoneAt (wz (sZf 0x79) (z0 st)) (zkey 1 0)).st = st) ∧
    (openSteps (modFlight (sZf 0x79) 0 (fun x => { x with slba := 0 })) (fl 0x79 0 .fetched) (nsRec sZ 1) (zoneAt sZ (zkey 1 0)) 0 0).2.1 = .success ∧
    (let s := en (sZf 0x79) [(instKey K.coveBind 0, 0)]; (openSteps (modFlight s 0 (fun x => { x with slba := 0 })) (fl 0x79 0 .fetched) (nsRec sZ 1) (zoneAt sZ (zkey 1 0)) 0 0).2.1 ≠ .success) ∧
    (let s := wz sZ { z0 .closed with actions := [(0, 2)] }; (zoneAt s (zkey 1 0)).actions = [(0, 2)] ∧ (zoneAt s (zkey 1 0)).st.isActive = true) ∧
    (let s := wz sZ { z0 .full with actions := [(0, 4)] }; (zoneAt s (zkey 1 0)).actions = [(0, 4)] ∧ (zoneAt s (zkey 1 0)).st = .full) := by
  refine ⟨?_, ?_⟩
  · constructor <;> decide
  · decide +kernel

theorem witness_zone_reports_and_directives : lookup s0 .i3c0 0x3020 1 0 = .ok (row 0x3020 1, coveKey 0) ∧ (row 0x3020 1).acc = 6 ∧ readOnly (row 0x3020 1) 1 = false ∧
    writeCheck sM (row 0x3020 1) (coveKey 0) cv0 = 0 ∧ canStage sM (applyTide sM) = true ∧ writeCheck sM (row 0x3020 1) (coveKey 0) (cv0 + 4) ≠ 0 ∧
    (let s := sZf 0x11; let f := fl 0x11 0 .fetched; flight? s 0 1 7 = some f ∧ assignStatus s f false 0 0 = .success ∧ assignStatus s f false 0 1 ≠ .success ∧
      ioStatus s f false true true = .success ∧ nsOf s 1 = some { nZ with attached := [0] } ∧ ioStatus s f true true true ≠ .success ∧
      ioStatus s f false false true = .success ∧ 262143 < (nsRec s 1).nsze ∧ (nsRec s 1).nsze ≤ 262144 ∧ 65536 % zoneBlocks s (nsRec s 1) = 0 ∧ 1 % zoneBlocks s (nsRec s 1) ≠ 0) ∧
    (let s := en (wz sZ (z0 .closed)) [(K.fzrAge, 1)]; let t := { s with clk := { s.clk with nowNs := v s K.zfcAge * 1000000000 } };
      (zoneAt s (zkey 1 0)).st.isActive = true ∧ s.clk.nowNs - (zoneAt s (zkey 1 0)).lastWriteNs < v s K.fzrAge * 1000000000 ∧
      v t K.fzrAge ≠ 0 ∧ (zoneAt t (zkey 1 0)).fzr = false ∧ v t K.fzrAge * 1000000000 ≤ t.clk.nowNs - (zoneAt t (zkey 1 0)).lastWriteNs ∧
      v t K.zfcAge * 1000000000 ≤ t.clk.nowNs - (zoneAt t (zkey 1 0)).lastWriteNs ∧ s.clk.nowNs - (zoneAt s (zkey 1 0)).lastWriteNs < v s K.zfcAge * 1000000000) :=
  ⟨rfl, by decide +kernel⟩

theorem witness_map_and_reclaim : (x0 sC fun x => { x with cold := [2 ^ 32] }).xlat.cold.contains (1 * 2 ^ 32 + 0) = true ∧ s0.xlat.metaLost = false ∧
    Cd.bounded (coveDesc (en sM [(coveKey 0, cv0 + 2 ^ 20)]) 0) = true ∧
    (let s := x0 (en sC [(K.gcStartGroups, 100)]) fun x => { x with stripes := [(0, ⟨0, 0, [(0, 20)], 4096, true, 0⟩)], pmap := [(lkey 1 0, ⟨0, 20, 0⟩)] };
      coveKind s 0 = 3 ∧ backgroundHeld s = false ∧ cleanStripes s 0 < v s K.gcStartGroups ∧ gcVictim s 0 = some ⟨0, 0, [(0, 20)], 4096, true, 0⟩) ∧
    v (en sC [(K.gcStartGroups, 1)]) K.gcStartGroups ≤ cleanStripes (en sC [(K.gcStartGroups, 1)]) 0 ∧
    (dieUp sB 0 = true ∧ backgroundHeld sB = false ∧ refreshNext sB 0 = some 20 ∧ (blockAt sB 0 20).use = .zone (zkey 1 0) 0 0 ∧
      moving sB 0 20 = false ∧ pickBlock sB (coveDesc sB (zoneAt sB (zkey 1 0)).cove) 0 = some (0, 18) ∧
      relocRoom sB .refresh (rkey (zkey 1 0) 0 0) = true ∧ relocRoom sB .wear (rkey (zkey 1 0) 0 0) = true) ∧
    (let es := ((List.range (slotOf sB 0).blocks).filter (fun b => !(blockAt sB 0 b).bad && !(reservedBlocks sB 0).contains b)).map (fun b => (blockAt sB 0 b).erases);
      es.foldl Nat.min (maxNat es) = 0 ∧ 0 + v sB K.wearSpread < maxNat es ∧ firstBy ((userBlocks sB 0).filter (fun x => x.2.erases == 0)) (fun a b => a.progTime < b.progTime) = some 20) ∧
    (let r : Reloc := ⟨0, .refresh, 0, 20, .alloc (zkey 1 0) 0 0 0 50, 0⟩; let s := x0 sB fun x => { x with relocs := [r] };
      s.xlat.relocs.find? (fun r => r.id == 0) = some r ∧ r.kind ≠ .gc ∧ r.target = .alloc (zkey 1 0) 0 0 0 50 ∧ (blockAt s r.srcDie r.srcBlock).failed = false ∧
      (0, 50) ≠ (r.srcDie, r.srcBlock)) ∧ sB.xlat.relocs.find? (fun r => r.id == 0) = none := by decide +kernel

theorem witness_losses_and_dies : s0.xlat.unpublished = [] ∧ s0.xlat.losses.length < lossCapacity ∧ dieState sM 0 = 1 ∧ dieState sM 1 ≠ 1 ∧
    s0.xlat.enumerating.contains 0 = false ∧ (x0 sM fun x => { x with enumerating := [0] }).xlat.enumerating.contains 0 = true ∧
    (x0 s0 fun x => { x with unpublished := [⟨1, 0, 1, 1, 0, 0, 0, 0, 0⟩] }).xlat.unpublished = [⟨1, 0, 1, 1, 0, 0, 0, 0, 0⟩] := by decide +kernel

theorem witness_compression_and_frames : Sound (fs sK [fK]) ∧ flight? (fs sK [fK]) 0 1 7 = some fK ∧ nextPiece (fs sK [fK]) fK = ([(5, blk0), (6, blk0)], []) ∧ fK.stage = .running ∧
    compressedWrite (fs sK [fK]) fK = true ∧ mayApply (fs sK [fK]) fK = true ∧ bitAt (v (fs sK [fK]) K.compressorsInService) 0 = true ∧
    ([(5, blk0), (6, blk0)].map Prod.fst).Nodup ∧ (zoneAt sK (zkey 1 0)).unit = some u0 ∧ nsOf sK 1 = some { nZ with attached := [0] } ∧ 0 < u0.bytes ∧
    (let s := { sK with clk := { sK.clk with nowNs := 500000000 } }; u0.lastPieceNs + v s K.unitIdleMs * 1000000 ≤ s.clk.nowNs) ∧
    sK.clk.nowNs < u0.lastPieceNs + v sK K.unitIdleMs * 1000000 ∧
    (frameOf sK 1 (0 * (zoneBlocks sK (nsRec sK 1) * (nsRec sK 1).blk) + 0)).map Prod.snd = some fr0 ∧ fr0.kind ≠ 2 := by
  refine ⟨?_, ?_⟩
  · constructor <;> decide
  · decide +kernel

/-- `s0` with unit `n` held by agent 3 under CRC-32C. -/
def unit0 : CrcUnit := { CrcUnit.atReset with holder := 3, alg := 1 }
def wu (n : Nat) (u : CrcUnit) : State := { s0 with crc := { s0.crc with units := s0.crc.units.set n u } }

theorem witness_crc_feeds : (wu 15 unit0).crc.units[15]? = some unit0 ∧ unit0.holder = 3 ∧ unit0.alg ≠ 0 ∧ s0.crc.units[0]? = some CrcUnit.atReset ∧ CrcUnit.atReset.alg = 0 ∧
    unit0.holder ≠ 4 := by decide

theorem witness_crc_lease : s0.crc.waiting = [] ∧ (wu 0 unit0).crc.units[1]? = some CrcUnit.atReset ∧ CrcUnit.atReset.holder = 0 ∧ CrcUnit.atReset.out = false ∧
    (wu 0 unit0).crc.units[0]?.all (fun w => w.holder != 0) = true ∧
    (let s := { s0 with crc := { s0.crc with units := List.replicate 15 unit0 ++ [{ CrcUnit.atReset with out := true }] } };
      s.crc.waiting = [] ∧ ∀ w ∈ s.crc.units, w.holder ≠ 0 ∨ w.out = true) := by decide

theorem witness_nand_descriptors : DescOf (.nandRead d0) 1 d0 ∧ DescOf (.nandProgram d0) 3 d0 ∧ (∀ op ∈ [1, 2, 3, 4, 5, 6, 7, 8], descCheck sO (dop op) = 0) ∧
    (lunAt sO (descDie d0)).queue.length < 16 ∧ programNext sO (dop 3) = true ∧ backgroundRead (lunAt sO (descDie d0)) = false ∧
    16 ≤ (lunAt (ln sO { Lun.fresh with queue := List.replicate 16 d0 }) 0).queue.length ∧ programNext sO { dop 3 with wordline := 1 } = false ∧
    descCheck sO { dop 1 with block := 64 } = 0x0B ∧ descCheck sO { dop 1 with block := 63 } = 0 ∧ fencedNow (pr sO fun p => { p with state := 5 }) = true ∧ fencedNow sO = false ∧
    bitAt (ownedMask sO) 31 = false ∧ bitAt (ownedMask sO) 0 = true ∧ (slotAt sO 1).present = false ∧ (slotAt sO 0).present = true ∧ dieState sO 0 = 1 ∧
    ({ d0 with resv := true } : Desc).resv = true ∧ (lunAt (ln sO { Lun.fresh with queue := [d0] }) 0).queue.find? (fun x => x.tag == 0) = some d0 ∧
    (lunAt sO 0).queue.find? (fun x => x.tag == 0) = none := by
  refine ⟨.inl ⟨rfl, rfl⟩, .inr (.inr (.inl ⟨rfl, rfl⟩)), ?_⟩
  decide +kernel

theorem witness_nand_operations :
    (let s := ln sO { Lun.fresh with queue := [dop 1] }; (lunAt s 0).run = none ∧ (lunAt s 0).susp = none ∧ s.power.state < 2 ∧ fencedNow s = false ∧ dieUp s 0 = true ∧
      strandUp s 0 = true ∧ candidates s (lunAt s 0) = [some (dop 1)] ∧ isPE (dop 1) = false ∧ tokensGranted s (dop 1) false = true ∧
      tokensGranted (en s [(K.thermalTokenLimit, 0)]) (dop 1) false = false ∧ candidates (en s [(K.thermalTokenLimit, 0)]) (lunAt s 0) = [some (dop 1)]) ∧
    candidates sO (lunAt sO 0) = [] ∧ (lunAt (ln sO { Lun.fresh with run := some (op0 (dop 3)) }) 0).run = some (op0 (dop 3)) ∧
    (lunAt (ln sO { Lun.fresh with run := some (op0 (dop 4)) }) 0).run = some (op0 (dop 4)) ∧ (dop 4).opcode ≠ 3 ∧ (dop 3).opcode ≠ 4 ∧ dieState sO 0 = 1 ∧
    (let f := fl 1 0 .committed; let s := fs (en (x0 sO fun x => { x with wbuf := [⟨1, 0, 1, 4096, [(0, 20, 0)], 0, false, false, false⟩] }) [(K.writeThrough, 1)]) [f];
      flight? s 0 1 7 = some f ∧ vb s K.writeThrough = true ∧ f.stage = .committed ∧ (∃ e ∈ s.xlat.wbuf, e.nsid = f.nsid ∧ e.lba < f.slba + f.nlb ∧ f.slba < e.lba + e.nlb ∧ e.logged = false) ∧
      logBlock s = some (0, 16)) := by decide +kernel

theorem witness_suspend_and_negotiate :
    (let o := op0 (dop 4); let s := ln sO { Lun.fresh with run := some o, queue := [{ dop 1 with work := .foreground false }] }; let t := { s with clk := { s.clk with nowNs := 10000000 } };
      (lunAt s 0).run = some o ∧ suspendable o.d = true ∧ (lunAt s 0).susp = none ∧ o.asked = false ∧ (lunAt s 0).queue.any (fun d => foreRead d && unitAdmitted s d) = true ∧
      s.clk.nowNs - o.startNs < v s K.suspendMinRun * 1000 ∧ v t K.suspendMinRun * 1000 ≤ t.clk.nowNs - o.startNs ∧ (lunAt t 0).queue.any (fun d => foreRead d && unitAdmitted t d) = true) ∧
    ({ op0 (dop 4) with asked := true } : ArrayOp).asked = true ∧ (lunAt sO 0).run = none ∧ (lunAt sO 0).susp = none ∧
    (let s := ln sO { Lun.fresh with susp := some (op0 (dop 4)) }; (lunAt s 0).susp.isSome = true ∧ (lunAt s 0).ready = false) ∧
    (let s := ln sO { Lun.fresh with susp := some (op0 (dop 4)), ready := true }; (lunAt s 0).susp = some (op0 (dop 4)) ∧ (lunAt s 0).ready = true ∧ (lunAt s 0).run = none ∧
      (lunAt s 0).queue.any (fun d => foreRead d && unitAdmitted s d) = false ∧ tokensGranted s (dop 4) true = true) ∧
    (let s := ln sO { Lun.fresh with susp := some (op0 (dop 4)), ready := true, run := some (op0 (dop 1)) }; (lunAt s 0).susp.isSome = true ∧ (lunAt s 0).ready = true ∧ (lunAt s 0).run.isSome = true) ∧
    (let s := pw sO fun p => { p with down := false }; driveMask s ≠ 0 ∧ s.power.state < 2 ∧ s.power.down = false) ∧ (pw sO fun p => { p with down := true }).power.down = true ∧
    (settleSlot s0 ⟨0, true, [1, 2], 3600, 1, 4, 64, 256, [], [(3600, 1, 2)]⟩).map Slot.rate = some 3600 ∧ (slotAt sO 0).present = true ∧ (slotAt sO 0).retrains < 3 ∧
    (let s := na sO fun n => { n with slots := [(0, ⟨true, 1, 3600, 0, 0, 1, 4, 64, 256, 3⟩)] }; 3 ≤ (slotAt s 0).retrains ∧ lowerRate (slotAt s 0).rate = some 3200) ∧
    (slotAt sO 1).present = false := by decide +kernel

/-- A codeword of block 20, a ladder on its page at level `n`, and a state in which the page holds data. -/
def a0 : CwAddr := ⟨0, 20, 0, 0, 0, 0⟩
def la (n : Nat) : Ladder := ⟨0, 20, 0, 0, 0, n, 0, 0, [(0, 0)], false, none⟩
def sL : State :=
  en (na (en sZ [(K.channelsInService, 1)]) fun n => { n with levelMap := [1, 0, 0, 0, 0, 0, 0, 0], blocks := [(bkey 0 20, { PBlock.fresh with use := .zone (zkey 1 0) 0 0, cell := 1, finals := 4 })] })
    [(unitKey K.refreshAge 1, 0)]
def wl (n : Nat) : State := na sL fun x => { x with ladders := [la n] }

theorem witness_recovery_and_patrol : (blockAt sL 0 20).cell < 4 ∧ 5 + 6 < vg sL ((sL.nand.arrived.find? (fun x => x.1 == a0)).elim sL.genNow (fun x => x.2.1)) (unitKey K.refreshBits (blockAt sL 0 20).cell) ∧ vb sL K.calEnable = true ∧
    suspendedProgram sL 0 = false ∧ (offAt sL (offKeyOf sL a0)).usesCur ((sL.nand.arrived.find? (fun x => x.1 == a0)).elim sL.genNow (fun x => x.2.1)) = true ∧
    ladderOn sL (CwAddr.unit a0) = none ∧ levelFeature sL a0.die ≠ 0 ∧ nextLevel sL 0 0 0 0 = some 1 ∧ (tailAddrOf a0 ≠ tailAddrOf { a0 with cw := 1 }) ∧
    ladderOn (wl 1) (0, 20, 0, 0) = some (la 1) ∧ ladderOn (wl 1) (CwAddr.unit a0) = some (la 1) ∧ (la 1).cws = [(0, 0)] ∧ (0, 0, true, 0) ∈ [((0 : Nat), (0 : Nat), true, (0 : Nat))] ∧
    nextLevel (wl 1) 0 0 1 0 = some 2 ∧ nextLevel (wl 12) 0 0 12 0 = some 0x20 ∧ ladderOn (wl 0x30) (0, 20, 0, 0) = some (la 0x30) ∧ nextLevel (wl 0x30) 0 0 0x30 0 = none ∧
    (la 0x30).frame = none ∧ blockYoung (wl 0x30) (blockAt (wl 0x30) 0 20) = false ∧ (blockAt (wl 0x30) 0 20).use = .zone (zkey 1 0) 0 0 ∧
    (zoneAt (wl 0x30) (zkey 1 0)).cove < 256 ∧ (nsRec (wl 0x30) (zkey 1 0 / 2 ^ 32)).firstCove < 256 ∧
    (patrolOn sL = true ∧ patrolled sL 0 (blockAt sL 0 20) = true ∧ 3 < (blockAt sL 0 20).passed ∧ 2 < cellPages (blockAt sL 0 20).cell ∧ backgroundRead (lunAt sL 0) = false ∧
      channelCoves sL 0 = [] ∧ (lapAt sL 1).done.contains (0, 20, 3, 2) = false ∧ (blockAt sL 0 20).pending = none ∧
      descCheck sL ⟨1, false, false, 0, 0, 0, 0, 1, 15, 15, 2, 0, 20, 3, 0, 0, 0, 0, false, .background⟩ = 0 ∧ (lunAt sL 0).queue.length < 16) ∧
    patrolOn (en sL [(K.patrolEnable, 0)]) = false := by
  decide +kernel

theorem witness_read_admission :
    (let f := { fl 2 0 .running with bounded := true, waits := [a0] }; let s := fs (en sO [(coveKey 0, cv0 + 2 ^ 20 + 2 ^ 128), (K.boundDieDepth, 0)]) [f];
      flight? s 0 1 7 = some f ∧ held f = true ∧ deadline s f ≤ s.clk.nowNs ∧ unitsFit s f = false ∧ f.excused = false ∧ excuseAll s = false ∧ excuseCove s f.cove = false ∧
      excuseAll (pw s fun p => { p with state := 1 }) = true ∧ unitsFit (pw s fun p => { p with state := 1 }) f = false) ∧
    (let f := { fl 2 0 .running with bounded := true, waits := [a0] }; let s := fs (en sO [(coveKey 0, cv0 + 2 ^ 20 + 1000000 * 2 ^ 128), (K.boundDieDepth, 0)]) [f];
      s.clk.nowNs < deadline s f) ∧ f0.bounded = false := by decide +kernel

/-- Every channel of the configured geometry, trained; channel 0 ready; a write that waits; a buffer. -/
def allChans : List (Nat × List Nat) := List.replicate 6 (546, [6400, 3200])
def sD : State := dr s0 fun d => { d with chans := [(0, ⟨true, none, 0, []⟩)] }
def wr0 : DramReq := ⟨0, true, 77, 0, 0, 0⟩
def bu (b : Buf) : State := bf s0 fun x => { x with bufs := [(bufKey 0 0 0, b)] }
def hd : Nat := mkHandle 0 0 1 0

theorem witness_dram_controller : v s0 K.dramGeometry = 8736 ∧ 6 * channelBytes (fld 8736 15 12) (fld 8736 11 8) (fld 8736 7 4) ≤ 192 * 2 ^ 30 ∧
    (∀ ch < 6, dramCause (fld 8736 15 4) (v s0 K.dramTargetRate) (allChans.getD ch (0, [])) = 0) ∧
    dramCause (fld (v s0 K.dramGeometry) 15 4) (v s0 K.dramTargetRate) ((allChans.take 5).getD 5 (0, [])) ≠ 0 ∧
    dramChannel 0 * 2 + subOf (dramLocal 0) = 0 ∧
    (let s := dr sD fun d => { d with subs := [(0, { SubCh.fresh with queue := [wr0] })] };
      (((subAt s 0).queue ++ (subAt s 0).input).filter (fun x => x.write && x.burst == 0 / 64)).getLast? = some wr0) ∧
    (((subAt sD 0).queue ++ (subAt sD 0).input).filter (fun x => x.write && x.burst == 0 / 64)).getLast? = none ∧ (subAt sD 0).queue = [] ∧ (subAt sD 0).input = [] ∧
    sD.dram.mem.wf = true ∧ dramBlocked sD 0 = false ∧ bankOf sD (dramLocal 0) ∈ ([0] : List Nat) ∧ sD.dram.selfRefresh = false ∧ (chanAt sD 0).ready = true ∧
    dramBlocked (dr sD fun d => { d with chans := [(0, ⟨true, some 0, 0, []⟩)] }) 0 = true ∧ (dr sD fun d => { d with selfRefresh := true }).dram.selfRefresh = true ∧
    sD.power.state < 2 ∧ (chanAt sD 0).pauseNs = none ∧ sD.dram.lastPauseNs = none ∧
    (let s := dr sD fun d => { d with chans := [(0, ⟨true, some 0, 0, []⟩)] }; (chanAt s 0).pauseNs = some 0 ∧ s.clk.nowNs < 0 + 500000) := by decide +kernel

theorem witness_buffer_pools : poolFor 1 = some 0 ∧ poolFor 262144 = some 4 ∧ poolFor 262145 = none ∧ lowestFree s0 8 4 = some 0 ∧ chargeFits s0 8 4 0 = true ∧ chargeFits s0 0 0 0 = true ∧
    tryGrant (bf s0 fun x => { x with sizes := [0, 0, 0, 0, 0] }) ⟨0, 2048, 0, 0⟩ = none ∧ hd = mkHandle 0 0 1 0 ∧ bufKey (hDomain hd) (hPool hd) (hIndex hd) = bufKey 0 0 0 ∧
    handleOk s0 hd = true ∧ hTag hd = 1 ∧ (bufAt s0 (bufKey 0 0 0)).alloc = false ∧
    (∀ b ∈ [(⟨true, 1, 1, false, 0⟩ : Buf), ⟨true, 254, 1, false, 0⟩, ⟨true, 255, 1, false, 0⟩, ⟨true, 1, 2, false, 0⟩], bufAt (bu b) (bufKey 0 0 0) = b ∧ handleOk (bu b) hd = true ∧
      (bu b).bufs.waiting = []) ∧ handleOk s0 (mkHandle 0 5 1 0) = false ∧ reachedB s0 i3c 0x5104 7 = true ∧ reachedB s0 { i3c with inst := 0 } 0x5104 7 = true ∧
      reachedB s0 { i3c with inst := 0 } 0x5104 12 = true := by decide +kernel

theorem witness_stored_data_protection : (newLap s0 1).total ≠ 0 ∧ s0.bufs.laps.getD 1 (newLap s0 1) = newLap s0 1 ∧ vb s0 K.scrubEnable = true ∧ s0.power.state < 2 ∧
    (newLap s0 1).read + 1 < (newLap s0 1).total ∧ vb (en s0 [(K.scrubEnable, 0)]) K.scrubEnable = false ∧
    (let s := bo s0 fun b => { b with service := true }; s.boot.service = true ∧ eccRefused s 1 = false ∧ eccRefused s 0 = true) ∧ s0.boot.service = false := by decide +kernel

/-- A pair in a state, with its link; a header; a record; a namespace that has no data. -/
def sP (st : Nat) : State := pr s0 fun p => { p with enabled := true, linkUp := true, state := st, ana1 := 0, ana2 := 1 }
def h1 : MirHdr := ⟨1, 0, 0, 0, true, true⟩
def r1 : MirRec := ⟨1, 3, 0, 0, 0, true, .zone 1 0 5 2, true⟩
def fr1 (s : State) : FormRec := ⟨1, v s K.pairId, v s K.stepping, pairDigest s, false⟩

theorem witness_pair_link : (∀ st ∈ [2, 6], Sound (sP st)) ∧ (sP 2).pair.enabled = true ∧ (pr (sP 2) fun p => { p with linkUp := false }).pair.linkUp = false ∧ s0.pair.enabled = false ∧
    (sP 2).pair.linkUp = true ∧ MirrorOf (.mirrorWriteData h1 [(1, 0, 5)]) 1 h1 (.blocks [(1, 0, 5)]) ∧ peerUp (sP 2) = true ∧ peerUp s0 = false ∧ (sP 2).pair.state = 2 ∧ (sP 6).pair.state = 6 ∧
    (sP 2).pair.recvSeq < h1.seq ∧ (∀ x ∈ (sP 2).pair.recv, x.seq = h1.seq → x.good = false) ∧ h1.good = true ∧ h1.seq = (sP 2).pair.recvSeq + 1 ∧
    (let r : MirRec := ⟨1, 1, 9, 0, 0, true, .blocks [(1, 0, 5)], true⟩; let s := pr (sP 2) fun p => { p with recv := [r], recvSeq := 1 };
      s.pair.recv = [r] ∧ r.kind ≤ 3 ∧ r.arg = 9 ∧ r.seq < 2 ∧ r.body = .blocks [(1, 0, 5)] ∧ h1.seq ≤ s.pair.recvSeq) ∧
    (let s := pr (sP 2) fun p => { p with seqSent := 3, unacked := [⟨2, 1, 0, 0, true⟩] }; s.pair.seqAcked < Nat.min 3 s.pair.seqSent ∧ s.pair.forwards = [] ∧ ∃ r ∈ s.pair.unacked, r.seq = 2) ∧
    Nat.min 0 (sP 2).pair.seqSent ≤ (sP 2).pair.seqAcked ∧ (∀ r ∈ (sP 2).pair.unacked ++ (sP 2).pair.kept, r.seq ≠ 5) ∧
    (let s := wns (sP 2) nC; peerUp s = true ∧ nsOf s 1 = some nC ∧ nC.waitq = [] ∧ nC.running = none ∧ nC.attached = [] ∧ s.boot.sanitizing = false ∧ s.boot.sanWait = []) ∧
    (pairShared 0x3020 1 = true ∧ (rowOf 0x3020 1).map Row.acc = some 6) ∧ pairShared 0x1200 1 = false ∧ bitAt (v (sP 2) K.traceSources) 0x1A = false := by
  refine ⟨?_, ?_, ?_, ?_, ?_, .inl ⟨_, rfl, rfl, rfl⟩, ?_⟩
  · intro st h; simp only [List.mem_cons, List.not_mem_nil, or_false] at h
    rcases h with rfl | rfl <;> constructor <;> decide
  · decide
  · decide
  · decide
  · decide
  · decide +kernel

theorem form_matches (s : State) (h : s.pair.position = 0) : formCause s (fr1 s) = 0 := by simp [formCause, fr1, h]

theorem witness_pair_state : formCause (sP 1) (fr1 (sP 1)) = 0 ∧ formCause (sP 4) (fr1 (sP 4)) = 0 ∧
    formCause (pr (sP 1) fun p => { p with returning := true }) (fr1 (pr (sP 1) fun p => { p with returning := true })) = 0 ∧ s0.pair.position = 0 ∧ otherHalf 0 = 1 ∧ peerUp s0 = false ∧
    (let s := sP 1; peerUp s = true ∧ s.pair.state = 1 ∧ s.pair.returning = false ∧ anaOf s 0 ≠ 1 ∧ formCause s { fr1 s with position := 0 } ≠ 0 ∧
      s.pair.fenceIn = false ∧ s.pair.recv = []) ∧
    (let s := pr (sP 1) fun p => { p with returning := true }; peerUp s = true ∧ s.pair.returning = true) ∧
    (let s := sP 4; peerUp s = true ∧ s.pair.state = 4 ∧ s.pair.fenceOut = false) ∧
    (let s := pr (sP 2) fun p => { p with linkUp := false }; mirroring s = true ∧ mirrorLost s = true ∧ s.pair.partnerAsleep = false ∧ s.pair.fenceIn = false) ∧
    (let s := pr (sP 2) fun p => { p with deferring := true }; s.pair.deferring = true ∧ s.pair.fenceIn = false) ∧
    (let s := wns (pr (sP 1) fun p => { p with recv := [r1], recvSeq := 1 }) nZ; s.pair.recv = [r1] ∧ r1.groupEnd = true ∧ r1.seq ≤ s.pair.recvSeq ∧ r1.body = .zone 1 0 5 2 ∧ nsOf s 1 = some nZ) ∧
    (let s := pr (sP 2) fun p => { p with position := 1, ana1 := 1, ana2 := 0, linkUp := false }; s.pair.position ≠ 0 ∧ mirroring s = true ∧ mirrorLost s = true ∧ s.pair.partnerAsleep = false) ∧
    (pr (sP 1) fun p => { p with position := 1 }).pair.position ≠ 0 ∧ mirroring s0 = false ∧ s0.pair.deferring = false ∧ (sP 3).pair.state = 3 ∧ (sP 3).pair.forwards = [] ∧ (sP 5).pair.state = 5 ∧
    (∀ st ∈ [2, 4, 8], allowedB (sP st) { i3c with inst := 0 } 0x6001 8 1 = true ∧ allowedB (sP st) { i3c with inst := 0 } 0x6001 8 2 = true) ∧ mirroring (sP 2) = true :=
  ⟨form_matches _ rfl, form_matches _ rfl, form_matches _ rfl, by decide +kernel⟩

/-- R409: RINOR_LINK_DOWN writes source 0x1A, two words, KIND 0x02, ARG 0x000 in its header. -/
theorem test_link_down_item :
    (match exec .rinorLinkDown (en (pr (sP 2) fun p => { p with linkMode := 0x20080100 }) [(K.traceSources, 0x4000000)]) with
      | .next t => t.trace.cur
      | _ => []) = [0x1A102000, 0x20080100] := by decide +kernel

theorem witness_rails_and_sleep : (∀ g ∈ [2, 3, 6], sequencing (sR g) = true ∧ g + 1 = (sR g).power.good + 1 ∧ g + 1 ≤ 7) ∧ sequencing (pw s0 fun p => { p with fault := true }) = false ∧
    stepOn (sR 7) 3 = true ∧ stepOn (sR 7) 7 = true ∧ stepOn (sR 2) 3 = false ∧ stepOn (sR 7) 4 = true ∧
    (v s0 K.ebbIdleMs ≠ 0 ∧ s0.power.state = 0 ∧ s0.power.entry = none) ∧ v (en s0 [(K.ebbIdleMs, 0)]) K.ebbIdleMs = 0 ∧
    (let s := sR 7; allowedB s mgr 0x7010 9 2 = true ∧ allowedB s mgr 0x7010 9 3 = true ∧ allowedB s mgr 0x7010 9 0 = true ∧ s.power.state < 2 ∧ s.power.entry = none ∧ s.power.down = false ∧
      s.boot.recovery = false ∧ s.power.flushActive = false ∧ belowWarning s = false ∧ sleepQuiet s = true ∧ s.pair.enabled = false) ∧
    belowWarning (en (sR 7) [(K.supplyNowMv, 10999)]) = true ∧ sleepQuiet (fs (sR 7) [f0]) = false ∧
    (let s := pr (sR 7) fun p => { p with enabled := true, linkUp := true, state := 2, ana1 := 0, ana2 := 1 }; sleepQuiet s = true ∧ s.pair.enabled = true ∧ s.pair.linkUp = true ∧ mirroring s = true) ∧
    (let s := pw (sR 7) fun p => { p with state := 2 }; outOfBand mgr.path = true ∧ wakeEnabled s 8 = true ∧ s.power.entry = none ∧ 2 ≤ s.power.state) ∧ outOfBand pf0.path = false ∧
    allowedB (pw (sR 7) fun p => { p with state := 2 }) mgr 0x7010 9 0 = true ∧
    (pw s0 fun p => { p with entry := some ⟨3, true, true⟩ }).power.entry = some ⟨3, true, true⟩ ∧ (pw s0 fun p => { p with entry := some ⟨2, true, false⟩ }).power.entry = some ⟨2, true, false⟩ ∧
    (pw s0 fun p => { p with entry := some ⟨2, true, true⟩ }).power.state ≠ 2 ∧ bitAt (v s0 K.traceSources) 0x18 = false ∧
    wakeEnabled s0 7 = true ∧ wakeEnabled s0 0 = false := by decide +kernel

theorem witness_supply_and_flush : (pw (sR 7) fun p => { p with supplyGood := false }).power.supplyGood = false ∧ FlushFall (sR 7) (.supplyFlushLevel 10000) (supplySample (sR 7) 10000) ∧
    FlushFall (sR 7) .pfail (sR 7) ∧ FlushFall (pw (en (sR 7) [(K.supplyNowMv, 10999)]) fun p => { p with armed := true }) .tHoldExpiry (pw (en (sR 7) [(K.supplyNowMv, 10999)]) fun p => { p with armed := true }) ∧
    ((sR 7).power.down = false ∧ (sR 7).power.state < 2 ∧ (sR 7).power.supplyGood = true ∧ (sR 7).power.flushActive = false ∧ (sR 7).power.armed = false) ∧
    (pw (sR 7) fun p => { p with state := 2 }).power.state = 2 ∧ (pw s0 fun p => { p with down := true }).power.down = true ∧ vb (en s0 [(K.pfailEnable, 0)]) K.pfailEnable = false ∧
    (∀ s ∈ [sW, pw sW fun p => { p with armed := true }, pw sW fun p => { p with flushEnded := true }], v s K.supplyState = 3 ∧ recoverLevel s ≤ v s K.supplyNowMv ∧ s.power.flushActive = false ∧
      s.power.down = false ∧ fwPending s = 0 ∧ s.power.entry = none) ∧ sW.power.flushEnded = false ∧ sW.power.armed = false ∧ v (en s0 [(K.supplyState, 1)]) K.supplyState ≠ 3 ∧
    (pw (sR 7) fun p => { p with state := 2, sleepCopy := true }).power.sleepCopy = true ∧ (sR 7).zones = [] ∧ (sR 7).power.flushEnded = false ∧
    (let s := pw (sR 7) fun p => { p with flushActive := true }; s.power.flushActive = true ∧ s.power.afterFlush = 0 ∧ s.power.heldResets = []) ∧
    (pw (sR 7) fun p => { p with flushActive := true, afterFlush := 6 }).power.afterFlush ≠ 0 := by
  refine ⟨rfl, .inl ⟨_, rfl, rfl⟩, .inr (.inr ⟨rfl, rfl, by decide +kernel⟩), .inr (.inl ⟨rfl, rfl, by decide +kernel⟩), by decide +kernel⟩

theorem witness_holdup_bank : v s0 K.huTargetMv ≤ 35000 ∧ 34299 * 100 < v s0 K.huTargetMv * 98 ∧ s0.power.testing = false ∧ 34300 < v s0 K.huTargetMv ∧ v s0 K.huTargetMv * 98 ≤ 34300 * 100 ∧
    s0.power.charged = false ∧ (let s := pw (sR 7) fun p => { p with charged := true }; s.power.charged = true ∧ testable s = true ∧ s.power.testLoad = false) ∧ testable s0 = false ∧
    (let s := pw (sR 7) fun p => { p with testing := true, testLoad := true, v1 := 35000 }; s.power.testing = true ∧ s.power.testLoad = true ∧ 0 < capacitance s s.power.v1 34000) ∧
    (pw s0 fun p => { p with recharging := true }).power.recharging = true ∧ s0.power.recharging = false ∧ allowedB s0 mgr 0x7001 0x0A 1 = true ∧
    allowedB (pw s0 fun p => { p with testing := true }) mgr 0x7001 0x0A 1 = true ∧ s0.power.flushActive = false := by decide +kernel

/-- Sensor 0 read as `x` quarters of a degree; the sequence in a state. -/
def hx (x : Int) : State := th (en (sR 7) [(unitKey K.sensorC 0, ofSigned 16 x)]) fun t => { t with seen := [0] }
def hs (s : State) (st lim : Nat) : State := th s fun t => { t with state := st, limit := lim }

theorem witness_sensors_and_throttle : sampled s0 0 = false ∧ sampled (sR 7) 0 = true ∧ sensorFailed (sR 7) 0 = false ∧ sensorCause (sR 7) 0 none ≠ 0 ∧ sensorCause (sR 7) 0 (some 641) ≠ 0 ∧
    (∀ x ∈ [(-240 : Int), 439, 440, 479, 480, 640], sensorCause (sR 7) 0 (some x) = 0) ∧ bitAt (v (sR 7) K.sensorMask) 0 = false ∧ junction 0 = true ∧ 4 * v16 (sR 7) K.critC = 480 ∧
    throttleLimit (sR 7) 0 = 440 ∧ throttleAt (sR 7) = 0 ∧ (throttleAt (hs (hx 440) 1 60000) = 1 ∧ hot (hs (hx 440) 1 60000) = true) ∧
    (throttleAt (hs (hx 440) 2 60000) = 2 ∧ hot (hs (hx 440) 2 60000) = true) ∧ hot (hs (hx 439) 1 60000) = false ∧
    (throttleAt (hs (hx 100) 2 52499) = 2 ∧ cool (hs (hx 100) 2 52499) = true ∧ 52499 + v (hx 100) K.throttleStepMw < nandBudget (hx 100)) ∧ throttleAt (hs (hx 100) 3 52500) = 3 ∧
    nandBudget (hx 100) ≤ 52500 + v (hx 100) K.throttleStepMw ∧ cool (hs (hx 440) 2 60000) = false ∧
    hottest (hx 500) ((liveJunction (hx 500)).filter (fun m => decide (sensorAt (hx 500) m ≥ 500))) = some 0 ∧ (hx 500).thermal.state ≠ 4 ∧
    (∀ n ∈ liveJunction (hx 499), sensorAt (hx 499) n < 500) ∧ (hs s0 4 0).thermal.state = 4 ∧ (slotAt s0 0).present = false ∧
    ((slotAt (sR 7) 0).present = true ∧ (sR 7).power.state < 2 ∧ dieState (sR 7) (0 * 8 + 0) = 1 ∧ v16 (sR 7) K.nandTempMinC + 2 ≤ 2 ∧ 83 ≤ v16 (sR 7) K.nandTempMaxC - 2 ∧
      v16 (sR 7) K.nandTempMaxC < 86 ∧ -1 < v16 (sR 7) K.nandTempMinC) ∧ bitAt (v s0 K.traceSources) 0x19 = false := by decide +kernel

theorem witness_package_resets : (fwPending s0 = 0 ∧ s0.power.flushActive = false ∧ s0.power.entry = none) ∧ (pw s0 fun p => { p with flushActive := true }).power.flushActive = true ∧
    allowedB s0 mgr 0x7200 3 1 = true ∧ railsUp s0 = false ∧ railsUp (sR 7) = true ∧ allowedB (sR 7) mgr 0x7200 3 1 = true ∧ lookup s0 (.fn 2) 0x7200 3 0 = .error 4 ∧
    vb (en s0 [(K.wdtEnable, 0)]) K.wdtEnable = false ∧ (vb (sR 7) K.wdtEnable = true ∧ (sR 7).power.state < 2 ∧ (sR 7).power.flushActive = false ∧ (sR 7).wdt.deferred = false ∧
      cfSectorBusy (sR 7) = false) ∧ cfSectorBusy (cfl (sR 7) fun x => { x with run0 := some ⟨2, ⟨1, none, false, false, 1, 0, 0, 0, false⟩, [], 0, false⟩ }) = true := by
  refine ⟨by decide, by decide, by decide +kernel, by decide +kernel, by decide +kernel, by decide +kernel, rfl, by decide +kernel⟩

/-- Descriptors, an operation of a bank, service mode, and the store of keys with one OWNER and one SERVICE key. -/
def dP (addr : Nat) : CfDesc := ⟨1, some 0, false, false, 1, addr, 0, 3, false⟩
def oP (op addr : Nat) : CfOp := ⟨op, dP addr, [0], 0, false⟩
def run1 (s : State) (o : CfOp) : State := cfl s fun x => { x with run1 := some o }
def sV (f : CodeFlash → CodeFlash) : State := cfl (bo s0 fun b => { b with service := true, servicePath := some .i3c0 }) f
def sG : State := bo s0 fun b => { b with signers := [⟨1, 0, 5, 0⟩, ⟨3, 0, 5, 0⟩], challenge := some 0 }
def b40 : Bytes := List.replicate 40 0
def b64 : Bytes := List.replicate 32 0 ++ serialBytes s0 ++ leBytes 4 1 ++ List.replicate 8 0
def own1 : Bytes := [1, 1, 0, 0, 0x20, 5, 0, 0] ++ List.replicate 1320 0

/-- In a state that holds the OWNER key, whether a removal is authenticated is the key material's answer alone. -/
theorem owner_answer : ∃ m g, ownerAuth sG b40 32 = Config.sigVerify 0 5 m g := by
  have h : leAt b40 32 1 = 0 := by decide
  refine ⟨b40.take 32 ++ serialBytes sG, (b40.drop (32 + 8)).take (leAt b40 (32 + 4) 4), ?_⟩
  simp [ownerAuth, signedBy, sG, bo, h]

/-- Of an unlock that passes every other check, the signature decides alone. -/
theorem unlock_answer : ∃ m g, unlockCheck sG b64 = if Config.sigVerify 0 5 m g then 0 else 0x11 := by
  refine ⟨b64.take 56, b64.drop 64, ?_⟩
  have h1 : b64.length = 64 := by decide
  have h2 : leAt b64 60 4 = 0 := by decide
  have h3 : leAt b64 57 3 = 0 := by decide
  have h4 : leAt b64 52 4 = 1 := by decide
  have h5 : leAt b64 0 32 = 0 := by decide
  have h6 : leAt b64 56 1 = 0 := by decide
  have h7 : (b64.drop 32).take 20 = serialBytes sG := by decide
  simp only [unlockCheck, signedBy, h1, h2, h3, h4, h5, h6, h7]
  simp [sG, bo]
  cases Config.sigVerify 0 5 (b64.take 56) (b64.drop 64) <;> decide

theorem witness_code_flash : CfDescOf (.cfProgram (dP 0x2000000) [0]) 1 (dP 0x2000000) [0] ∧ CfDescOf (.cfHash (dP 0)) 5 (dP 0) [] ∧
    (s0.cf.queue = [] ∧ s0.cf.waiting = [] ∧ cfRunning s0 1 = none ∧ cfBank (dP 0x2000000).address % 2 = 1 ∧ cfCheck s0 (oP 1 0x2000000) = 0) ∧
    (cfBank (dP 0).address % 2 = 0 ∧ cfRunning s0 0 = none ∧ cfCheck s0 (oP 1 0) = 1) ∧ cfRunning (run1 s0 (oP 1 0x2000000)) 1 ≠ none ∧
    (∀ op ∈ [1, 2, 3, 4, 5], (let s := run1 s0 (oP op 0x2000000); cfRunning s 1 = some (oP op 0x2000000) ∧ s.cf.queue = [] ∧ s.cf.waiting = [] ∧ s.wdt.deferred = false ∧
      s.cf.words.wf = true)) ∧ 0 < (oP 1 0x2000000).d.count ∧
    (let s := { run1 (sR 7) (oP 1 0x2000000) with wdt := { kicks := [], deferred := true, deferredNs := 0, expired := true } }; cfRunning s 1 = some (oP 1 0x2000000) ∧ cfRunning s (1 - 1) = none ∧
      s.cf.queue = [] ∧ s.cf.waiting = [] ∧ s.wdt.deferred = true ∧ railsUp s = true ∧ s.power.flushActive = false) ∧
    ((oP 3 0).op ≠ 1 ∧ (oP 3 0).op ≠ 2) ∧ (dP 0).noSuspend = false ∧ (bo s0 fun b => { b with recovery := false }).boot.recovery = false ∧
    (bo s0 fun b => { b with recovery := true }).boot.recovery = true ∧ reachedB (bo s0 fun b => { b with recovery := true }) mgr 0x8010 0x0A = true ∧
    (let s := bo s0 fun b => { b with secVersion := 2 }; allowedB s mgr 0x8010 9 2 = true ∧ allowedB s mgr 0x8010 9 3 = true ∧ v s K.fwRollbackFuse ≤ 2 ∧ 2 ≤ s.boot.secVersion ∧ s.boot.secVersion < 3 ∧
      allowedB s mgr 0x8010 9 1 = true ∧ v (en s [(K.fwRollbackFuse, 2)]) K.fwRollbackFuse = 2 ∧ allowedB (en s [(K.fwRollbackFuse, 2)]) mgr 0x8010 9 1 = true) ∧
    (∀ w < 4, allowedB (sV id) mgr 0x8001 (1 + w) 9 = true) ∧
    (∀ s ∈ [sV fun x => { x with pwFails := 3 }, sV id, sV fun x => { x with pwWords := [0, 0, 0, 0], password := 0 }, sV fun x => { x with pwWords := [1, 0, 0, 0], password := 0, unlocked := [62] }],
      allowedB s mgr 0x8001 5 62 = true ∧ allowedB s mgr 0x8001 5 63 = true ∧ allowedB s mgr 0x8001 6 62 = true ∧ allowedB s mgr 0x8001 7 1 = true) ∧
    (sV id).cf.pwFails < 3 ∧ (sV id).cf.pwWords.length ≠ 4 ∧ pwNumber [0, 0, 0, 0] = 0 ∧ pwNumber [1, 0, 0, 0] ≠ 0 ∧ 62 ∉ (sV id).cf.unlocked := by
  refine ⟨.inl ⟨rfl, rfl⟩, .inr (.inr (.inr (.inr ⟨rfl, rfl, rfl⟩))), ?_⟩
  decide +kernel

theorem witness_security_and_service : reachedB s0 mgr 0x8110 2 = true ∧ signerAddCheck s0 own1 = 0 ∧ signerAddCheck s0 [] ≠ 0 ∧ reachedB sG mgr 0x8110 3 = true ∧ authForm b40 32 = 0 ∧
    sG.boot.signers.filter (fun x => x.hash != leAt b40 0 32) = sG.boot.signers ∧ ownerAuth s0 b40 32 = false ∧ authForm [] 32 ≠ 0 ∧
    (let l : List Signer := [⟨1, 0, 5, 0⟩, ⟨1, 0, 0, 0⟩]; l.filter (fun x => x.hash != leAt b40 0 32) ≠ l ∧ ∃ x ∈ l.filter (fun x => x.hash != leAt b40 0 32), x.role = 1) ∧
    allowedB s0 mgr 0x8100 2 0 = true ∧ (bo s0 fun b => { b with building := true, nonce := some 4 }).boot.nonce = some 4 ∧ s0.boot.building = false ∧ reachedB s0 mgr 0x8120 1 = true ∧
    reachedB s0 mgr 0x8120 2 = true ∧ s0.boot.svcFails < 5 ∧ unlockCheck s0 [] ≠ 0 ∧ (bo s0 fun b => { b with svcFails := 5 }).boot.svcFails = 5 ∧ allowedB (sV id) mgr 0x8120 3 1 = true ∧
    (sV id).boot.service = true ∧ s0.boot.service = false := by decide +kernel

/-- The media takes records; a frozen recorder; a window that shows `r0`. -/
def sM2 : State := bo (na s0 fun n => { n with negotiated := true }) fun b => { b with recovery := false }
def r0 : Rec := ⟨7, 0, 0, 3, 0x10, 0, 0, 0, 0⟩
def tr (s : State) (f : Trace → Trace) : State := { s with trace := f s.trace }

theorem witness_recorders_and_windows : (mediaAvailable sM2 = true ∧ sM2.recd.frozen = false ∧ sM2.recd.ext.length + sM2.recd.staging.length ≤ extCapacity ∧
      sM2.recd.compact.length + sM2.recd.compactWait.length ≤ 32768) ∧ mediaAvailable (bo s0 fun b => { b with recovery := true }) = false ∧
    (rc s0 fun r => { r with frozen := true }).recd.frozen = true ∧ s0.recd.compactWait = [] ∧ allowedB s0 mgr 0x9000 5 1 = true ∧
    bitAt 3 0 = true ∧ bitAt 3 1 = true ∧ bitAt 1 1 = false ∧ (window s0 0).freeze = false ∧ (window (rc s0 fun r => { r with winA := { r.winA with loading := true } }) 0).loading = true ∧
    (window (rc s0 fun r => { r with winB := { r.winB with loading := false } }) 1).loading = false ∧
    (let s := rc sM2 fun r => { r with frozen := true, hold := [r0] }; s.recd.frozen = true ∧ mediaAvailable s = true ∧ s.recd.staging.length + s.recd.hold.length ≤ 1024) := by decide +kernel

theorem witness_trace_and_telemetry : kindAllowed 0 0x7F = false ∧ kindAllowed 0 0x80 = true ∧ kindAllowed 16 0x7F = true ∧ bitAt (v (en s0 [(K.traceSources, 0)]) K.traceSources) 0 = false ∧
    bitAt (v (en s0 [(K.traceSources, 1)]) K.traceSources) 0 = true ∧ s0.trace.cur.length + 1 + (([1, 2, 3, 4, 5] : List Nat).take 15).length < 7 ∧
    (tr s0 fun t => { t with cur := [1, 2, 3, 4, 5, 6] }).trace.cur.length = 6 ∧ s0.trace.fifo.length < 8192 ∧ s0.trace.cur = [] ∧ allowedB s0 mgr 0x9100 3 1 = true ∧
    lookup s0 .i3c0 0x9110 3 1 = .ok (row 0x9110 3, entryKey 0x9110 3 1) ∧ (row 0x9110 3).check 3 = 0 ∧ (row 0x9110 3).check 1 = 0 ∧ (row 0x9110 3).check 2 = 0 ∧
    entryKey 0x9110 3 1 % 2048 - 1 = 0 ∧ allowedB s0 mgr 0x9113 1 (2 ^ 255) = true ∧ allowedB s0 mgr 0x9120 4 (2 * 256) = true ∧ heatCheck (2 * 256) ≠ 0 ∧
    allowedB s0 mgr 0x9120 4 (1 * 256) = true ∧ heatCheck (1 * 256) = 0 ∧ heatCheck 0 = 0 ∧ s0.tel.sketchPrev.get? 0 = none ∧
    bitAt (v (en s0 [(K.heatEnable, 1)]) K.heatEnable) 0 = true ∧ bitAt (v (en s0 [(K.heatEnable, 1)]) K.heatEnable) 1 = false := by
  refine ⟨?_, ?_, ?_, ?_, ?_, ?_, ?_, ?_, ?_, ?_, rfl, ?_⟩ <;> decide +kernel

theorem full_trace : 8192 ≤ (tr s0 fun t => { t with fifo := List.replicate 8192 ⟨[], 0, 0, 0⟩ }).trace.fifo.length :=
  Nat.le_of_eq (List.length_replicate ..).symm

theorem witness_commands_in_order : s0.pending = [] ∧ s0.clk.slewNs = 0 := ⟨rfl, rfl⟩
theorem witness_commands_complete_and_frame : Part.clk ∉ parts (.feedB 0 1 5) := by decide
theorem witness_step_keeps_sound : Sound s0 ∧ (∃ t, step s0 = .next t) ∧ Sound (wu 0 unit0) ∧
    ∃ t, step { wu 0 unit0 with pending := [.feedB 0 3 5] } = .next t := by
  refine ⟨reset_is_sound, ⟨_, rfl⟩, ?_, _, rfl⟩
  constructor <;> decide

-- ===== ill-formed commands, one for each check of WellFormed =====

def adm : Cmd := ⟨0, 0, 7, 0, false⟩
def w0 : WordErr := ⟨0, 0, [], [], true, .free, none⟩

theorem ill_formed_numbers : ∀ i ∈ [Instr.controllerReady 1024, .sqTailDoorbell 0 4097 0, .refresh 2048, .gcStart 256, .perstAssert 2, .speedLow 5 0, .speedLow 0 1024,
    .speedMonitorSample 0 65536, .strandGate 8, .strandWake 8, .dieLinkTransfer 3 0 .free, .dieLinkTransfer 0 5 .free, .linkL1Exit 2, .registerWrite 0 1 0 4 0,
    .serviceWindowAccess 0 0 2 false 0, .traceFifoPop 0 32 4, .pcieLinkUp 0 7 4 false, .pcieLinkUp 0 1 3 false, .vfEnable 0 1024 false, .ccShutdown 0 3, .poolUnitFreed 6,
    .poolUnitFreed 0, .aspmL1Entry 0 2 true, .slotRetrain 256 none, .ladderStep 0 0 0 5 [], .sameBankRefresh 6 0 0 0, .sameBankRefresh 0 0 0 4, .retrainPause 6 0,
    .powerCoordination 4, .powerOn 2 false, .powerGood 8, .powerGood 2, .avsbusTimeout 5, .wake 256, .sensorSample 64 none, .sensorSample 0 (some 32768), .nandTempRead 0 (some 256),
    .watchdogKick 17, .watchdogExpiry (2 ^ 17), .cfSuspend 2, .crcInit 16 0, .feedB 0 0 256, .feedH 0 0 65536, .feedW 0 0 (2 ^ 32), .dramRequest (2 ^ 38) false 0 [],
    .traceItemWrite 0 0 4096 [], .traceItemWrite 0 0 0 (List.range 16), .cursorWrite 2 0, .i3cNegotiation 2 0 0], Instr.wf i = false := by decide

theorem ill_formed_records : ∀ i ∈ [Instr.get { rq 1 0 0 [] with tag := 65536 }, .set { rq 1 0 0 [] with path := .fn 1024 }, .rejoin { mgr with tag := 65536 }, .flush { c0 with sqid := 0 },
    .identify c0 0 0 0, .identify adm 256 0 0, .zoneUsage { c0 with cid := 65536 } 0 0, .fetchGrant { e1 with fuse := 4 }, .read c0 0 0 false false noProt, .write c0 0 [] false false 0 0 noProt,
    .write c0 0 [⟨2 ^ 131072, none⟩] false false 0 0 noProt, .datasetManagement c0 true [], .setAutonomousPowerStateTransition adm true [], .namespaceAttach adm (List.replicate 2 65536),
    .nandRead { d0 with opcode := 2 }, .nandErase { dop 4 with channel := 32 }, .cfErase { dP 0 with issuer := 4 }, .hardDecode { a0 with pt := 5 } true 0 0 0 0 0, .hardDecode a0 true 0 40961 0 0 0,
    .mirrorAck (2 ^ 64), .mirrorRelease { h1 with len := 2 ^ 32 }, .formation ⟨2, 0, 0, 0, false⟩, .metadataDelta h1 1 0 0 7, .nandNegotiation [⟨256, true, [], 0, 0, 1, 0, 0, [], []⟩],
    .nandNegotiation [⟨0, true, [], 0, 0, 3, 0, 0, [], []⟩], .scrubAccess 0 true (some { w0 with bits := [80] }), .scrubAccess 0 true (some { w0 with hard := [1] }),
    .scrubAccess 0 true (some { w0 with held := .queueContext 1024 }), .dramRequest 0 false 0 [⟨[64], 0, []⟩], .dramNegotiation (List.replicate 7 (0, [])), .sanitizeDone [2048]],
    Instr.wf i = false := by decide +kernel

theorem well_formed : ∀ i ∈ [Instr.controllerReady 1023, .sqTailDoorbell 0 4096 0, .flush c0, .identify adm 1 0 0, .nandRead d0, .cfErase (dP 0), .rejoin mgr, .powerGood 7, .poolUnitFreed 5], Instr.wf i = true := by decide

-- ===== values the spec gives =====

/-- R217: the check values over the nine ASCII bytes "123456789". -/
def nine : List Nat := [0x31, 0x32, 0x33, 0x34, 0x35, 0x36, 0x37, 0x38, 0x39]
def checkOf (alg : Nat) : Nat := ({ CrcUnit.atReset with alg := alg, running := nine.foldl (fun r b => algFeed alg 1 r b) (algInit alg) } : CrcUnit).result
theorem test_check_values : checkOf 1 = 0xD0DB ∧ checkOf 2 = 0xE3069283 ∧ checkOf 3 = 0xAE8B14860A799888 := by decide +kernel

-- ===== single steps =====

/-- What a step leaves, seen through `f`. -/
def after {α : Type} (s : State) (c : Instr) (f : State → α) : Option α := match step { s with pending := [c] } with
  | .next t => some (f t)
  | _ => none

/-- R219: a feed of a unit another agent holds is dropped. -/
theorem test_feed_of_another : after (wu 0 unit0) (.feedB 0 4 5) (fun t => (t.crc.units[0]?).map CrcUnit.dropped) = some (some true) := by decide +kernel
/-- R33: a boundary counts one tide. -/
theorem test_tide_counts : after s0 (.tideBoundary false) (fun t => t.clk.tide) = some 1 := by decide +kernel
/-- R112: a tail that equals the size is out of range. -/
theorem test_tail_out_of_range : after sQ (.sqTailDoorbell 0 1 4) (fun t => t.sqs) = some sQ.sqs := by decide +kernel
/-- R61: opcode 0x7 is MP_BAD_OPCODE. -/
theorem test_bad_opcode : after s0 (.get (rq 7 0x1200 1 [])) (fun t => (t.miowa.resp.get? 0).map Resp.status) = some (some 2) := by decide +kernel
/-- R61: the entry's DEVICE class value is read by GET, with MP_OK. -/
theorem test_get : after s0 (.get (rq 1 0x1210 1 [])) (fun t => (t.miowa.resp.get? 0).map Resp.status) = some (some 0) := by decide +kernel
/-- R307: an allocate advances TAG and returns the handle. -/
theorem test_allocate : after s0 (.bufferAllocate 0 1 0 0) (fun t => t.bufs.granted) = some (some (mkHandle 0 0 1 0)) := by decide +kernel
/-- R308: a second release of a free buffer is BP_DOUBLE_FREE. -/
theorem test_double_free : after s0 (.bufferRelease hd 0) (fun t => t.bufs.code) = some 1 := by decide +kernel
/-- R24: a write is readable once it is acknowledged, and its neighbour is not. -/
theorem test_write_readable : after (fs sC [{ fl 1 0 .running with blocks := [(1, blk0)] }]) (.writeAcknowledge 0 1 7) (fun t => (blockData t 1 0, blockData t 1 1, blockData t 1 2)) = some (0, 5, 0) := by
  decide +kernel
/-- R127: a write advances the write pointer of its zone. -/
theorem test_write_pointer : after (sZf 1) (.write c0 0 [blk0, blk0] false false 0 0 noProt) (fun t => (zoneAt t (zkey 1 0)).wp) = some 2 := by decide +kernel
/-- R378: a program only clears bits. -/
theorem test_program_clears : after (run1 (cfl s0 fun x => { x with words := [(0x100000, 12)] }) { oP 1 0x2000000 with words := [10] }) (.cfOperationComplete 1 none 9)
    (fun t => cfWord t 0x100000) = some 8 := by decide +kernel
/-- R402, R404: a drain moves the staged records into the extended recorder. -/
theorem test_drain : after (rc sM2 fun r => { r with staging := [r0] }) .stagingDrain (fun t => (t.recd.staging, t.recd.ext)) = some ([], [r0]) := by decide +kernel
/-- R410: an empty FIFO pops the idle word. -/
theorem test_idle_pop : after (pw s0 fun p => { p with good := 7 }) (.traceFifoPop 0 0 32) (fun t => t.barRead.get? 0) = some (some (List.foldr (fun w r => w + 2 ^ 32 * r) 0 (List.replicate 8 0x1D1E1D1E))) := by
  decide +kernel

end Sys2Proof.Tests
end

/-! The check-value units. A feed depends on its bytes alone (R220), and the three
outcomes of a lease command when no request waits (R221), each as one equation of the state. -/
namespace Sys2Proof.CheckValues
open Sys2Proof Sys2Proof.Machine

-- ===== one unit changed =====

theorem modNth_eq_modify {α : Type} (l : List α) (n : Nat) (f : α → α) : modNth l n f = l.modify n f := by
  induction l generalizing n with
  | nil => cases n <;> rfl
  | cons a r ih => cases n with
    | zero => rfl
    | succ n => simp only [modNth, ih, List.modify_succ_cons]

theorem modUnit_modUnit (s : State) (n : Nat) (f g : CrcUnit → CrcUnit) :
    modUnit (modUnit s n f) n g = modUnit s n (g ∘ f) := by
  simp only [modUnit, modNth_eq_modify, List.modify_modify_eq]

theorem modUnit_unit {s : State} {n : Nat} {u : CrcUnit} (h : s.crc.units[n]? = some u) (f : CrcUnit → CrcUnit) :
    (modUnit s n f).crc.units[n]? = some (f u) := by
  simp only [modUnit, modNth_eq_modify, List.getElem?_modify_eq, h, Option.map_eq_map, Option.map_some]

theorem onlyUnit_modUnit (s : State) (n : Nat) (f : CrcUnit → CrcUnit) : OnlyUnit s (modUnit s n f) n :=
  ⟨rfl, length_modNth .., fun m hm => by
    simp only [modUnit, modNth_eq_modify, ne_eq, hm.symm, not_false_eq_true, List.getElem?_modify_ne]⟩

-- ===== feeds (R219, R220) =====

theorem exec_feedB (n agent x : Nat) (s : State) :
    exec (.feedB n agent x) s = .next (modUnit s n (fun u => u.feed agent 1 x)) := rfl
theorem exec_feedH (n agent x : Nat) (s : State) :
    exec (.feedH n agent x) s = .next (modUnit s n (fun u => u.feed agent 2 x)) := rfl
theorem exec_feedW (n agent x : Nat) (s : State) :
    exec (.feedW n agent x) s = .next (modUnit s n (fun u => u.feed agent 4 x)) := rfl

theorem satAdd_satAdd (w a b c : Nat) : satAdd w (satAdd w a b) c = satAdd w a (b + c) := by
  simp only [satAdd, Nat.min_def]
  by_cases full : a + b ≤ 2 ^ w - 1
  · rw [if_pos full, Nat.add_assoc]
  · rw [if_neg full]
    split <;> split <;> omega

/-- `k` bytes are fed from the low `8 * k` bits of the value. -/
theorem algFeed_mod (alg k r x : Nat) : algFeed alg k r (x % 256 ^ k) = algFeed alg k r x := by
  induction k generalizing r x with
  | zero => rfl
  | succ k ih =>
    have low : x % 256 ^ (k + 1) % 256 = x % 256 := Nat.mod_mod_of_dvd x ⟨256 ^ k, Nat.pow_succ'⟩
    have high : x % 256 ^ (k + 1) / 256 = x / 256 % 256 ^ k := by
      rw [Nat.pow_succ', Nat.mod_mul_right_div_self]
    rw [algFeed, algFeed, low, high, ih]

theorem algFeed_add (alg j k r x : Nat) : algFeed alg (j + k) r x = algFeed alg k (algFeed alg j r x) (x / 256 ^ j) := by
  induction j generalizing r x with
  | zero => simp only [Nat.zero_add, algFeed, Nat.pow_zero, Nat.div_one]
  | succ j ih => rw [Nat.succ_add, algFeed, algFeed, ih, Nat.div_div_eq_div_mul, Nat.pow_succ']

/-- The low `j` bytes of a value and then the next `k` are fed as `j + k` bytes at once: a feed the unit takes leaves
HOLDER and ALG, so it takes or drops both. -/
theorem feed_feed (u : CrcUnit) (agent j k x : Nat) :
    (u.feed agent j (x % 256 ^ j)).feed agent k (x / 256 ^ j % 256 ^ k) = u.feed agent (j + k) x := by
  by_cases h : u.holder = agent ∧ u.holder ≠ 0 ∧ u.alg ≠ 0
  · obtain ⟨rfl, h0, ha⟩ := h
    simp only [CrcUnit.feed, ne_eq, h0, ha, not_false_eq_true, and_self, if_true, algFeed_mod, algFeed_add, satAdd_satAdd]
  · simp only [CrcUnit.feed, h, if_false]

theorem modUnit_feed_feed (s : State) (n agent j k x : Nat) :
    modUnit (modUnit s n (fun u => u.feed agent j (x % 256 ^ j))) n (fun u => u.feed agent k (x / 256 ^ j % 256 ^ k)) =
      modUnit s n (fun u => u.feed agent (j + k) x) := by
  rw [modUnit_modUnit]
  exact congrArg (modUnit s n) (funext fun u => feed_feed u agent j k x)

/-- Settles O36: a feed of `j + k` bytes is the feed of the low `j` bytes and then of the next `k`. -/
theorem crcSplit : Obligations.crc_split := by
  intro s n agent x
  refine ⟨⟨_, _, _, exec_feedH .., exec_feedB .., exec_feedB .., ?_⟩, ⟨_, _, _, exec_feedW .., exec_feedH .., exec_feedH .., ?_⟩⟩
  · exact (modUnit_feed_feed s n agent 1 1 x).symm
  · exact (modUnit_feed_feed s n agent 2 2 x).symm

-- ===== leases (R221) =====

theorem exec_crcLease (released : Option Nat) (holder alg : Nat) (urgent : Bool) (s : State) :
    exec (.crcLease released holder alg urgent) s = .next (crcLease s released holder alg urgent) := rfl

/-- A granted request sets HOLDER and ALG of its unit. -/
def leaseTo (r : CrcReq) (u : CrcUnit) : CrcUnit := { u with holder := r.holder, alg := r.alg }

/-- A unit held or out of service is none that `freeUnit` finds. -/
theorem not_free_of_taken {w : CrcUnit} (h : w.holder ≠ 0 ∨ w.out = true) : (w.holder == 0 && !w.out) = false := by
  cases h with
  | inl held => rw [beq_eq_false_iff_ne.2 held, Bool.false_and]
  | inr out => rw [out, Bool.not_true, Bool.and_false]

theorem freeUnit_eq {l : List CrcUnit} {n : Nat} {u : CrcUnit} (hu : l[n]? = some u) (hh : u.holder = 0) (ho : u.out = false)
    (before : ∀ m < n, ∀ w, l[m]? = some w → w.holder ≠ 0 ∨ w.out = true) : freeUnit l = n := by
  obtain ⟨hn, rfl⟩ := List.getElem?_eq_some_iff.1 hu
  refine (List.findIdx_eq hn).2 ⟨by simp only [hh, ho, beq_self_eq_true, Bool.not_false, Bool.and_self], fun m hm => ?_⟩
  exact not_free_of_taken (before m hm _ (List.getElem?_eq_getElem (Nat.lt_trans hm hn)))

theorem freeUnit_eq_length {l : List CrcUnit} (h : ∀ w ∈ l, w.holder ≠ 0 ∨ w.out = true) : freeUnit l = l.length :=
  List.findIdx_eq_length.2 fun w hw => not_free_of_taken (h w hw)

theorem grantLeases_of_no_request (k : Nat) {c : CrcUnits} (h : c.waiting = []) : grantLeases k c = c := by
  cases k with
  | zero => rfl
  | succ k => rw [grantLeases, h]; rfl

theorem grantLeases_of_no_unit (k : Nat) {c : CrcUnits} (h : freeUnit c.units = c.units.length) : grantLeases k c = c := by
  cases k with
  | zero => rfl
  | succ k =>
    simp only [grantLeases, h, Nat.lt_irrefl, if_false]
    split <;> rfl

theorem nextLease_singleton (r : CrcReq) : nextLease [r] = some (0, r) := by
  have first : (if [r].findIdx CrcReq.urgentPi < 1 then [r].findIdx CrcReq.urgentPi else 0) = 0 := by
    split <;> omega
  simp only [nextLease, List.length_singleton, first]
  rfl

theorem grantLeases_singleton (k : Nat) {c : CrcUnits} {r : CrcReq} (hw : c.waiting = [r]) (hf : freeUnit c.units < c.units.length) :
    grantLeases (k + 1) c = { c with units := modNth c.units (freeUnit c.units) (leaseTo r), waiting := [] } := by
  simp only [grantLeases, hw, nextLease_singleton, hf, if_true]
  exact grantLeases_of_no_request k rfl

/-- A request with a unit free and none ahead of it is granted at once. -/
theorem crcLease_of_free_unit {s : State} {holder : Nat} (alg : Nat) (urgent : Bool) (hw : s.crc.waiting = []) (h0 : holder ≠ 0)
    (hf : freeUnit s.crc.units < s.crc.units.length) :
    crcLease s none holder alg urgent = modUnit s (freeUnit s.crc.units) (leaseTo ⟨holder, alg, urgent⟩) := by
  have granted := grantLeases_singleton 15 (c := { s.crc with waiting := [⟨holder, alg, urgent⟩] }) rfl hf
  simp only [crcLease, h0, if_false, grantLeases_of_no_request 16 hw, hw, List.nil_append, granted, gt_iff_lt, Nat.lt_irrefl, modUnit]

/-- A request with no unit free waits and is counted. -/
theorem crcLease_of_no_unit {s : State} {holder : Nat} (alg : Nat) (urgent : Bool) (hw : s.crc.waiting = []) (h0 : holder ≠ 0)
    (hf : freeUnit s.crc.units = s.crc.units.length) :
    crcLease s none holder alg urgent =
      bump64 { s with crc := { s.crc with waiting := [⟨holder, alg, urgent⟩] } } K.crcLeaseWaits := by
  have waits := grantLeases_of_no_unit 16 (c := { s.crc with waiting := [⟨holder, alg, urgent⟩] }) hf
  simp only [crcLease, h0, if_false, grantLeases_of_no_request 16 hw, hw, List.nil_append, waits, gt_iff_lt, List.length_nil,
    List.length_singleton, Nat.zero_lt_one, if_true]

/-- A release with no request waiting and none made frees its unit. -/
theorem crcLease_release {s : State} (n alg : Nat) (urgent : Bool) (hw : s.crc.waiting = []) :
    crcLease s (some n) 0 alg urgent = modUnit s n CrcUnit.release := by
  simp only [crcLease, if_true, hw, grantLeases_of_no_request, modUnit]

/-- Settles O37: with no request waiting, a lease command changes one unit, or keeps the request and counts it. That the
unit is the first of the free ones is the model's choice; R221 names none. -/
theorem crcLease : Obligations.crc_lease := by
  intro s holder alg urgent hw
  simp only [exec_crcLease]
  refine ⟨fun h0 n u hu hh ho before => ?_, fun h0 taken => ?_, fun n u hu => ?_⟩
  · have first : freeUnit s.crc.units = n := freeUnit_eq hu hh ho before
    have inRange : n < s.crc.units.length := (List.getElem?_eq_some_iff.1 hu).1
    rw [crcLease_of_free_unit alg urgent hw h0 (first ▸ inRange), first]
    exact ⟨_, rfl, onlyUnit_modUnit .., modUnit_unit hu _⟩
  · rw [crcLease_of_no_unit alg urgent hw h0 (freeUnit_eq_length taken)]
    exact ⟨_, rfl, rfl, v_setV_self .., fun k hk => v_setV_ne _ _ hk⟩
  · rw [crcLease_release n alg urgent hw]
    exact ⟨_, rfl, onlyUnit_modUnit .., modUnit_unit hu _⟩

end Sys2Proof.CheckValues

/-! Reads of keyed stores after their operations, where the store stands in its canonical form only if a hypothesis says so. -/
namespace Sys2Proof.Stores
open Sys2Proof Assoc
variable {α : Type}

theorem get?_put (m : Assoc α) (k j : Nat) (a : α) : (m.put k a).get? j = if j = k then some a else m.get? j := by
  by_cases h : j = k
  · rw [if_pos h, h, get?_put_self]
  · rw [if_neg h, get?_put_ne _ _ h]

theorem getD_put (m : Assoc α) (k j : Nat) (a d : α) : (m.put k a).getD j d = if j = k then a else m.getD j d := by
  simp only [getD, get?_put]
  split <;> rfl

theorem get?_updD_self (m : Assoc α) (k : Nat) (d : α) (f : α → α) : (m.updD k d f).get? k = some (f (m.getD k d)) := get?_put_self ..

theorem get?_updD_ne (m : Assoc α) {k j : Nat} (d : α) (f : α → α) (h : j ≠ k) : (m.updD k d f).get? j = m.get? j := get?_put_ne _ _ h

theorem get?_mapVal (m : Assoc α) (f : Nat → α → α) (k : Nat) : (m.mapVal f).get? k = (m.get? k).map (f k) := by
  induction m with
  | nil => rfl
  | cons p r ih =>
    obtain ⟨k', a⟩ := p
    simp only [mapVal, List.map_cons, get?] at ih ⊢
    split
    · next h => rw [h, Option.map_some]
    · exact ih

theorem get?_del_ne (m : Assoc α) {k j : Nat} (h : j ≠ k) : (m.del k).get? j = m.get? j := by
  induction m with
  | nil => rfl
  | cons p r ih =>
    obtain ⟨k', a⟩ := p
    simp only [del, get?]
    split
    · next e => rw [if_neg (e ▸ h.symm)]
    · simp only [get?, ih]

theorem get?_eq_none_of_lt {m : Assoc α} {lo k : Nat} (w : sortedFrom lo m = true) (h : k < lo) : m.get? k = none := by
  induction m generalizing lo with
  | nil => rfl
  | cons p r ih =>
    obtain ⟨k', a⟩ := p
    simp only [sortedFrom, Bool.and_eq_true, decide_eq_true_eq] at w
    obtain ⟨first, rest⟩ := w
    rw [get?, if_neg (by omega)]
    exact ih rest (by omega)

theorem get?_del_self_of_sorted {m : Assoc α} {lo : Nat} (k : Nat) (w : sortedFrom lo m = true) : (m.del k).get? k = none := by
  induction m generalizing lo with
  | nil => rfl
  | cons p r ih =>
    obtain ⟨k', a⟩ := p
    simp only [sortedFrom, Bool.and_eq_true] at w
    simp only [del]
    split
    · next e => exact get?_eq_none_of_lt w.2 (by omega)
    · next e => rw [get?, if_neg e]; exact ih w.2

theorem get?_del_self {m : Assoc α} (k : Nat) (w : m.wf = true) : (m.del k).get? k = none := get?_del_self_of_sorted k w

/-- An entry that is listed stands in the store. -/
theorem mem_of_get? {m : Assoc α} {k : Nat} {a : α} (h : m.get? k = some a) : (k, a) ∈ m := by
  induction m with
  | nil => cases h
  | cons p r ih =>
    obtain ⟨k', b⟩ := p
    simp only [get?] at h
    split at h
    · next e =>
      cases h
      rw [e]
      exact List.mem_cons_self
    · exact List.mem_cons_of_mem _ (ih h)

/-- A key that stands nowhere in a store is not listed. -/
theorem get?_eq_none {m : Assoc α} {k : Nat} (h : ∀ a, (k, a) ∉ m) : m.get? k = none :=
  Option.eq_none_iff_forall_ne_some.2 fun a e => h a (mem_of_get? e)

/-- In canonical form the entries that stand in a store are those it lists. -/
theorem get?_of_mem_of_sorted {m : Assoc α} {lo k : Nat} {a : α} (w : sortedFrom lo m = true) (h : (k, a) ∈ m) : m.get? k = some a := by
  induction m generalizing lo with
  | nil => cases h
  | cons p r ih =>
    obtain ⟨k', b⟩ := p
    simp only [sortedFrom, Bool.and_eq_true] at w
    rw [get?]
    rcases List.mem_cons.1 h with e | inRest
    · cases e
      exact if_pos rfl
    · have listed := ih w.2 inRest
      split
      · next e =>
        rw [get?_eq_none_of_lt w.2 (by omega)] at listed
        cases listed
      · exact listed

theorem get?_of_mem {m : Assoc α} {k : Nat} {a : α} (w : m.wf = true) (h : (k, a) ∈ m) : m.get? k = some a := get?_of_mem_of_sorted w h

/-- A test of the key alone drops or keeps every entry of a key. -/
theorem get?_keep_key (m : Assoc α) (p : Nat → Bool) (k : Nat) : (m.keep (fun k _ => p k)).get? k = if p k then m.get? k else none := by
  induction m with
  | nil => simp only [keep, List.filter_nil, get?, ite_self]
  | cons e r ih =>
    obtain ⟨k', a⟩ := e
    simp only [keep, List.filter_cons] at ih ⊢
    by_cases h : k' = k
    · subst h
      cases hp : p k' with
      | true => simp only [if_true, get?]
      | false => simpa only [hp, Bool.false_eq_true, if_false] using ih
    · cases hp : p k' with
      | true => simpa only [if_true, get?, if_neg h] using ih
      | false => simpa only [Bool.false_eq_true, if_false, get?, if_neg h] using ih

theorem get?_keep {m : Assoc α} (p : Nat → α → Bool) (k : Nat) (w : m.wf = true) : (m.keep p).get? k = (m.get? k).filter (p k) := by
  cases h : m.get? k with
  | none =>
    refine get?_eq_none fun a ha => ?_
    rw [get?_of_mem w (List.mem_filter.1 ha).1] at h
    cases h
  | some a =>
    have stands := mem_of_get? h
    rw [Option.filter_some]
    split
    · next hp => exact get?_of_mem (wf_keep w) (List.mem_filter.2 ⟨stands, hp⟩)
    · next hp =>
      refine get?_eq_none fun b hb => ?_
      obtain ⟨hm, hb⟩ := List.mem_filter.1 hb
      rw [get?_of_mem w hm] at h
      cases h
      exact hp hb

end Sys2Proof.Stores

/-! The dispatch of `exec`: every command runs, changes at most the parts named for it, and keeps `Sound`. -/
namespace Sys2Proof.Frames
open Sys2Proof Sys2Proof.Machine

/-- The place of a part among the fields of the state, which is its bit in a mask. -/
def bitOf : Part → Nat
  | .clk => 0 | .dict => 1 | .genNow => 2 | .gens => 3 | .reserved => 4 | .staged => 5 | .miowa => 6 | .store => 7 | .recd => 8
  | .trace => 9 | .tel => 10 | .crc => 11 | .portA => 12 | .portB => 13 | .portMode => 14 | .vfSplit => 15 | .wakeLow => 16
  | .insts => 17 | .sqs => 18 | .cqs => 19 | .flights => 20 | .eng => 21 | .nss => 22 | .zones => 23 | .blocks => 24 | .pis => 25
  | .lastCqe => 26 | .hostOut => 27 | .barRead => 28 | .keyChecks => 29 | .msix => 30 | .msixTable => 31 | .power => 32
  | .thermal => 33 | .wdt => 34 | .nand => 35 | .comp => 36 | .dram => 37 | .bufs => 38 | .cf => 39 | .boot => 40 | .xlat => 41
  | .pair => 42 | .freeCtr => 43

/-- The mask of a list of parts. -/
def maskOf (l : List Part) : Nat := l.foldr (fun p m => 2 ^ bitOf p ||| m) 0


/-- The part at a place. -/
def partAt (i : Nat) : Option Part :=
  [.clk, .dict, .genNow, .gens, .reserved, .staged, .miowa, .store, .recd, .trace, .tel, .crc, .portA, .portB, .portMode, .vfSplit,
   .wakeLow, .insts, .sqs, .cqs, .flights, .eng, .nss, .zones, .blocks, .pis, .lastCqe, .hostOut, .barRead, .keyChecks, .msix,
   .msixTable, .power, .thermal, .wdt, .nand, .comp, .dram, .bufs, .cf, .boot, .xlat, .pair, .freeCtr][i]?

theorem bitOf_injective {p q : Part} (h : bitOf p = bitOf q) : p = q := by
  have back : ∀ r, partAt (bitOf r) = some r := by intro r; cases r <;> rfl
  exact Option.some.inj ((back p).symm.trans (h ▸ back q))

theorem testBit_maskOf {p : Part} {l : List Part} (h : p ∉ l) : (maskOf l).testBit (bitOf p) = false := by
  induction l with
  | nil => exact Nat.zero_testBit _
  | cons q l ih =>
    obtain ⟨hq, hl⟩ := not_or.1 (mt List.mem_cons.2 h)
    have other : bitOf q ≠ bitOf p := fun e => hq (bitOf_injective e).symm
    have rest : (maskOf l).testBit (bitOf p) = false := ih hl
    simp only [maskOf, List.foldr_cons, Nat.testBit_or, Nat.testBit_two_pow_of_ne other, Bool.false_or]
    exact rest

/-- What a mask leaves out is a part that is as it was. -/
theorem same_of_keeps {m : Nat} {s t : State} (h : Keeps m s t) (p : Part) (b : m.testBit (bitOf p) = false) : p.same s t := by
  cases p with
  | clk => exact h.clk b
  | dict => exact h.dict b
  | genNow => exact h.genNow b
  | gens => exact h.gens b
  | reserved => exact h.reserved b
  | staged => exact h.staged b
  | miowa => exact h.miowa b
  | store => exact h.store b
  | recd => exact h.recd b
  | trace => exact h.trace b
  | tel => exact h.tel b
  | crc => exact h.crc b
  | portA => exact h.portA b
  | portB => exact h.portB b
  | portMode => exact h.portMode b
  | vfSplit => exact h.vfSplit b
  | wakeLow => exact h.wakeLow b
  | insts => exact h.insts b
  | sqs => exact h.sqs b
  | cqs => exact h.cqs b
  | flights => exact h.flights b
  | eng => exact h.eng b
  | nss => exact h.nss b
  | zones => exact h.zones b
  | blocks => exact h.blocks b
  | pis => exact h.pis b
  | lastCqe => exact h.lastCqe b
  | hostOut => exact h.hostOut b
  | barRead => exact h.barRead b
  | keyChecks => exact h.keyChecks b
  | msix => exact h.msix b
  | msixTable => exact h.msixTable b
  | power => exact h.power b
  | thermal => exact h.thermal b
  | wdt => exact h.wdt b
  | nand => exact h.nand b
  | comp => exact h.comp b
  | dram => exact h.dram b
  | bufs => exact h.bufs b
  | cf => exact h.cf b
  | boot => exact h.boot b
  | xlat => exact h.xlat b
  | pair => exact h.pair b
  | freeCtr => exact h.freeCtr b

theorem execWindowRefillDone_ran (pf : Nat) (bad : List Nat) (s : State) : Ran (execWindowRefillDone pf bad s) := by
  by_cases h : (window s pf).loading
  · exact ⟨_, if_pos h⟩
  · exact ⟨_, if_neg h⟩

/-- Every command changes at most the parts named for it, leaves the queue of commands and keeps `Sound`: the dispatch of `exec`, arm
by arm. -/
theorem exec_from (c : Instr) (s : State) : FromO (maskOf (parts c)) s (exec c s) := by
  cases c with
  | tideBoundary => exact FromO.weaken (execTideBoundary_from _) (by simp only [parts]; decide)
  | timeBaseSwitch => exact FromO.weaken (execTimeBaseSwitch_from _ _ _) (by simp only [parts]; decide)
  | speedMonitorSample => exact FromO.weaken (execSpeedMonitorSample_from _ _) (by simp only [parts]; decide)
  | speedLow => exact FromO.weaken (execSpeedLow_from _ _) (by simp only [parts]; decide)
  | dieLinkTransfer => exact FromO.weaken (execDieLinkTransfer_from _ _ _) (by simp only [parts]; decide)
  | strandGate => exact FromO.weaken (execStrandGate_from _) (by simp only [parts]; decide)
  | strandWake => exact FromO.weaken (execStrandWake_from _) (by simp only [parts]; decide)
  | get => exact FromO.weaken (execGet_from _) (by simp only [parts]; decide)
  | describe => exact FromO.weaken (execDescribe_from _) (by simp only [parts]; decide)
  | set => exact FromO.weaken (execSet_from _) (by simp only [parts]; decide)
  | segRead => exact FromO.weaken (execSegRead_from _) (by simp only [parts]; decide)
  | segWrite => exact FromO.weaken (execSegWrite_from _) (by simp only [parts]; decide)
  | segAbort => exact FromO.weaken (execSegAbort_from _) (by simp only [parts]; decide)
  | segWriteTimeout => exact FromO.weaken (execSegWriteTimeout_from _ _ _) (by simp only [parts]; decide)
  | journalRecordProgram => exact FromO.weaken (execJournalRecordProgram_from _) (by simp only [parts]; decide)
  | getLogPageC1 => exact FromO.weaken (execGetLogPageC1_from _ _ _ _ _) (by simp only [parts]; decide)
  | overlaySelect => exact FromO.weaken (execOverlaySelect_from _ _) (by simp only [parts]; decide)
  | imageLoad => exact FromO.weaken (execImageLoad_from _ _) (by simp only [parts]; decide)
  | configRevert => exact FromO.weaken (execConfigRevert_from _ _) (by simp only [parts]; decide)
  | overlayDelete => exact FromO.weaken (execOverlayDelete_from _ _) (by simp only [parts]; decide)
  | calendarTime => exact FromO.weaken (execCalendarTime_from _ _) (by simp only [parts]; decide)
  | perstAssert => exact FromO.weaken (execPerstAssert_from _) (by simp only [parts]; decide)
  | perstDeassert => exact FromO.weaken (execPerstDeassert_from _) (by simp only [parts]; decide)
  | pcieLinkUp => exact FromO.weaken (execPcieLinkUp_from _ _ _ _) (by simp only [parts]; decide)
  | pcieTrainingTimeout => exact FromO.weaken (execPcieTrainingTimeout_from _) (by simp only [parts]; decide)
  | hotReset => exact FromO.weaken (execHotReset_from _ _) (by simp only [parts]; decide)
  | functionLevelReset => exact FromO.weaken (execFunctionLevelReset_from _) (by simp only [parts]; decide)
  | registerWrite => exact FromO.weaken (execRegisterWrite_from _ _ _ _ _) (by simp only [parts]; decide)
  | serviceWindowAccess => exact FromO.weaken (execServiceWindowAccess_from _ _ _ _ _) (by simp only [parts]; decide)
  | traceFifoPop => exact FromO.weaken (execTraceFifoPop_from _ _ _) (by simp only [parts]; decide)
  | l0pNarrow => exact FromO.weaken (execL0pNarrow_from _) (by simp only [parts]; decide)
  | l0pWiden => exact FromO.weaken (execL0pWiden_from _) (by simp only [parts]; decide)
  | linkL1Exit => exact FromO.weaken (execLinkL1Exit_from _) (by simp only [parts]; decide)
  | hostDmaError => exact FromO.weaken (execHostDmaError_from _ _ _) (by simp only [parts]; decide)
  | instanceCommit => exact FromO.weaken (execInstanceCommit_from _) (by simp only [parts]; decide)
  | instanceReclaim => exact FromO.weaken (execInstanceReclaim_from _) (by simp only [parts]; decide)
  | reclaimFinished => exact FromO.weaken (execReclaimFinished_from _) (by simp only [parts]; decide)
  | vfEnable => exact FromO.weaken (execVfEnable_from _ _ _) (by simp only [parts]; decide)
  | controllerEnable => exact FromO.weaken (execControllerEnable_from _ _) (by simp only [parts]; decide)
  | controllerReady => exact FromO.weaken (execControllerReady_from _) (by simp only [parts]; decide)
  | controllerReset => exact FromO.weaken (execControllerReset_from _) (by simp only [parts]; decide)
  | ccShutdown => exact FromO.weaken (execCcShutdown_from _ _) (by simp only [parts]; decide)
  | m2tBell => exact FromO.weaken (execM2tBell_from _ _) (by simp only [parts]; decide)
  | t2mBell => exact FromO.weaken (execT2mBell_from _ _) (by simp only [parts]; decide)
  | m2tAck => exact FromO.weaken (execM2tAck_from _ _) (by simp only [parts]; decide)
  | t2mAck => exact FromO.weaken (execT2mAck_from _ _) (by simp only [parts]; decide)
  | mbCauseClear => exact FromO.weaken (execMbCauseClear_from _ _ _) (by simp only [parts]; decide)
  | pasidEnableChange => exact FromO.weaken (execPasidEnableChange_from _ _) (by simp only [parts]; decide)
  | keySession => exact FromO.weaken (execKeySession_from _ _) (by simp only [parts]; decide)
  | keyDeliver => exact FromO.weaken (execKeyDeliver_from _ _) (by simp only [parts]; decide)
  | keySessionTimeout => exact FromO.weaken (execKeySessionTimeout_from _) (by simp only [parts]; decide)
  | sqTailDoorbell => exact FromO.weaken (execSqTailDoorbell_from _ _ _) (by simp only [parts]; decide)
  | cqHeadDoorbell => exact FromO.weaken (execCqHeadDoorbell_from _ _ _) (by simp only [parts]; decide)
  | qctxFill => exact FromO.weaken (execQctxFill_from _ _) (by simp only [parts]; decide)
  | fetchGrant => exact FromO.weaken (execFetchGrant_from _) (by simp only [parts]; decide)
  | poolUnitFreed => exact FromO.weaken (execPoolUnitFreed_from _) (by simp only [parts]; decide)
  | deleteIoSubmissionQueue => exact FromO.weaken (execDeleteIoSubmissionQueue_from _ _ _) (by simp only [parts]; decide)
  | createIoSubmissionQueue => exact FromO.weaken (execCreateIoSubmissionQueue_from _ _ _ _ _ _) (by simp only [parts]; decide)
  | deleteIoCompletionQueue => exact FromO.weaken (execDeleteIoCompletionQueue_from _ _) (by simp only [parts]; decide)
  | createIoCompletionQueue => exact FromO.weaken (execCreateIoCompletionQueue_from _ _ _ _ _ _) (by simp only [parts]; decide)
  | getLogPage _ _ lsp => exact FromO.weaken (execGetLogPage_from _ _ lsp _ _ _) (by simp only [parts]; decide)
  | getLogPageC2 => exact FromO.weaken (execGetLogPageC2_from _ _ _ _) (by simp only [parts]; decide)
  | getLogPageC3 => exact FromO.weaken (execGetLogPageC3_from _ _ _ _) (by simp only [parts]; decide)
  | snapshotLapse => exact FromO.weaken (execSnapshotLapse_from _) (by simp only [parts]; decide)
  | identify => exact FromO.weaken (execIdentify_from _ _ _ _) (by simp only [parts]; decide)
  | abort => exact FromO.weaken (execAbort_from _ _ _ _) (by simp only [parts]; decide)
  | getFeatures => exact FromO.weaken (execGetFeatures_from _ _ _ _) (by simp only [parts]; decide)
  | setArbitration => exact FromO.weaken (execSetArbitration_from _ _ _ _ _) (by simp only [parts]; decide)
  | setPowerManagement _ _ wh => exact FromO.weaken (execSetPowerManagement_from _ _ wh) (by simp only [parts]; decide)
  | setTemperatureThreshold => exact FromO.weaken (execSetTemperatureThreshold_from _ _ _ _) (by simp only [parts]; decide)
  | setNumberOfQueues c a b => exact FromO.weaken (execSetNumberOfQueues_from c a b) (by simp only [parts]; decide)
  | setInterruptCoalescing => exact FromO.weaken (execSetInterruptCoalescing_from _ _ _) (by simp only [parts]; decide)
  | setInterruptVectorConfiguration => exact FromO.weaken (execSetInterruptVectorConfiguration_from _ _ _) (by simp only [parts]; decide)
  | setAsyncEventConfiguration => exact FromO.weaken (execSetAsyncEventConfiguration_from _ _) (by simp only [parts]; decide)
  | setAutonomousPowerStateTransition => exact FromO.weaken (execSetAutonomousPowerStateTransition_from _ _ _) (by simp only [parts]; decide)
  | setHostBehaviorSupport => exact FromO.weaken (execSetHostBehaviorSupport_from _ _) (by simp only [parts]; decide)
  | apstTransition => exact FromO.weaken (execApstTransition_from) (by simp only [parts]; decide)
  | asynchronousEventRequest => exact FromO.weaken (execAsynchronousEventRequest_from _) (by simp only [parts]; decide)
  | namespaceCreate => exact FromO.weaken (execNamespaceCreate_from _ _ _ _ _ _ _) (by simp only [parts]; decide)
  | namespaceDelete => exact FromO.weaken (execNamespaceDelete_from _) (by simp only [parts]; decide)
  | namespaceDeleteDone => exact FromO.weaken (execNamespaceDeleteDone_from _) (by simp only [parts]; decide)
  | namespaceAttach => exact FromO.weaken (execNamespaceAttach_from _ _) (by simp only [parts]; decide)
  | namespaceDetach => exact FromO.weaken (execNamespaceDetach_from _ _) (by simp only [parts]; decide)
  | firmwareImageDownload => exact FromO.weaken (execFirmwareImageDownload_from _ _ _) (by simp only [parts]; decide)
  | firmwareCommitVerify => exact FromO.weaken (execFirmwareCommitVerify_from _ _) (by simp only [parts]; decide)
  | firmwareCommitReplaceActivate => exact FromO.weaken (execFirmwareCommitReplaceActivate_from _ _) (by simp only [parts]; decide)
  | firmwareCommitActivate => exact FromO.weaken (execFirmwareCommitActivate_from _ _) (by simp only [parts]; decide)
  | fwUpdateHoldTimeout => exact FromO.weaken (execFwUpdateHoldTimeout_from) (by simp only [parts]; decide)
  | assignCove => exact FromO.weaken (execAssignCove_from _ _ _) (by simp only [parts]; decide)
  | enableDirective => exact FromO.weaken (execEnableDirective_from _ _ _) (by simp only [parts]; decide)
  | coveStatus => exact FromO.weaken (execCoveStatus_from _ _ _) (by simp only [parts]; decide)
  | zoneUsage => exact FromO.weaken (execZoneUsage_from _ _ _) (by simp only [parts]; decide)
  | nvmeMiSend c r => exact FromO.weaken (execNvmeMiSend_from c r) (by simp only [parts]; decide)
  | nvmeMiReceive => exact FromO.weaken (execNvmeMiReceive_from _ _) (by simp only [parts]; decide)
  | formatNvm => exact FromO.weaken (execFormatNvm_from _ _ _ _ _) (by simp only [parts]; decide)
  | securitySend a b c d => exact FromO.weaken (execSecuritySend_from a b c d) (by simp only [parts]; decide)
  | securityReceive => exact FromO.weaken (execSecurityReceive_from _ _ _ _) (by simp only [parts]; decide)
  | sanitizeBlockErase => exact FromO.weaken (execSanitizeBlockErase_from _ _ _) (by simp only [parts]; decide)
  | exitFailureMode => exact FromO.weaken (execExitFailureMode_from _) (by simp only [parts]; decide)
  | sanitizeDone => exact FromO.weaken (execSanitizeDone_from _) (by simp only [parts]; decide)
  | getLbaStatus => exact FromO.weaken (execGetLbaStatus_from _ _ _ _) (by simp only [parts]; decide)
  | flush => exact FromO.weaken (execFlush_from _) (by simp only [parts]; decide)
  | write => exact FromO.weaken (execWrite_from _ _ _ _ _ _ _ _) (by simp only [parts]; decide)
  | writeAcknowledge => exact FromO.weaken (execWriteAcknowledge_from _ _ _) (by simp only [parts]; decide)
  | read => exact FromO.weaken (execRead_from _ _ _ _ _ _) (by simp only [parts]; decide)
  | writeUncorrectable => exact FromO.weaken (execWriteUncorrectable_from _ _ _) (by simp only [parts]; decide)
  | compare => exact FromO.weaken (execCompare_from _ _ _ _) (by simp only [parts]; decide)
  | writeZeroes => exact FromO.weaken (execWriteZeroes_from _ _ _ _ _ _) (by simp only [parts]; decide)
  | datasetManagement => exact FromO.weaken (execDatasetManagement_from _ _ _) (by simp only [parts]; decide)
  | verify => exact FromO.weaken (execVerify_from _ _ _ _) (by simp only [parts]; decide)
  | zoneOpen => exact FromO.weaken (execZoneOpen_from _ _ _) (by simp only [parts]; decide)
  | zoneClose => exact FromO.weaken (execZoneClose_from _ _ _) (by simp only [parts]; decide)
  | zoneFinish => exact FromO.weaken (execZoneFinish_from _ _ _) (by simp only [parts]; decide)
  | zoneReset => exact FromO.weaken (execZoneReset_from _ _ _) (by simp only [parts]; decide)
  | zoneOffline => exact FromO.weaken (execZoneOffline_from _ _ _) (by simp only [parts]; decide)
  | zoneManagementReceive => exact FromO.weaken (execZoneManagementReceive_from _ _ _ _ _) (by simp only [parts]; decide)
  | zoneAppend => exact FromO.weaken (execZoneAppend_from _ _ _ _ _) (by simp only [parts]; decide)
  | coveDescWrite => exact FromO.weaken (execCoveDescWrite_from _ _ _) (by simp only [parts]; decide)
  | finishZoneRecommended => exact FromO.weaken (execFinishZoneRecommended_from _ _) (by simp only [parts]; decide)
  | zoneFinishedByController => exact FromO.weaken (execZoneFinishedByController_from _ _) (by simp only [parts]; decide)
  | mapMiss => exact FromO.weaken (execMapMiss_from _ _ _ _) (by simp only [parts]; decide)
  | mapPinLoad => exact FromO.weaken (execMapPinLoad_from _) (by simp only [parts]; decide)
  | mapWriteback => exact FromO.weaken (execMapWriteback_from) (by simp only [parts]; decide)
  | relocationSwitch => exact FromO.weaken (execRelocationSwitch_from _) (by simp only [parts]; decide)
  | gcStart => exact FromO.weaken (execGcStart_from _) (by simp only [parts]; decide)
  | wearLevelling => exact FromO.weaken (execWearLevelling_from _) (by simp only [parts]; decide)
  | refresh => exact FromO.weaken (execRefresh_from _) (by simp only [parts]; decide)
  | dieRetire => exact FromO.weaken (execDieRetire_from _) (by simp only [parts]; decide)
  | dieNoticeEnumeration => exact FromO.weaken (execDieNoticeEnumeration_from _) (by simp only [parts]; decide)
  | lossPublish => exact FromO.weaken (execLossPublish_from) (by simp only [parts]; decide)
  | lossAck => exact FromO.weaken (execLossAck_from _ _) (by simp only [parts]; decide)
  | compressPiece => exact FromO.weaken (execCompressPiece_from _ _ _ _ _ _ _) (by simp only [parts]; decide)
  | unitIdleCut => exact FromO.weaken (execUnitIdleCut_from _ _) (by simp only [parts]; decide)
  | decodeFrame => exact FromO.weaken (execDecodeFrame_from _ _ _ _ _ _ _) (by simp only [parts]; decide)
  | nandNegotiation => exact FromO.weaken (execNandNegotiation_from _) (by simp only [parts]; decide)
  | slotRetrain => exact FromO.weaken (execSlotRetrain_from _ _) (by simp only [parts]; decide)
  | operationStart => exact FromO.weaken (execOperationStart_from _) (by simp only [parts]; decide)
  | nandRead => exact FromO.weaken (execNandRead_from _) (by simp only [parts]; decide)
  | nandReadSoft => exact FromO.weaken (execNandReadSoft_from _) (by simp only [parts]; decide)
  | nandProgram => exact FromO.weaken (execNandProgram_from _) (by simp only [parts]; decide)
  | nandErase => exact FromO.weaken (execNandErase_from _) (by simp only [parts]; decide)
  | nandGetFeature => exact FromO.weaken (execNandGetFeature_from _) (by simp only [parts]; decide)
  | nandSetFeature => exact FromO.weaken (execNandSetFeature_from _) (by simp only [parts]; decide)
  | nandResetLun => exact FromO.weaken (execNandResetLun_from _) (by simp only [parts]; decide)
  | nandReadStatus => exact FromO.weaken (execNandReadStatus_from _) (by simp only [parts]; decide)
  | nandCompletion => exact FromO.weaken (execNandCompletion_from _ _ _ _ _) (by simp only [parts]; decide)
  | descriptorWithdraw => exact FromO.weaken (execDescriptorWithdraw_from _ _) (by simp only [parts]; decide)
  | arrayTimeout => exact FromO.weaken (execArrayTimeout_from _ _) (by simp only [parts]; decide)
  | suspendRequest => exact FromO.weaken (execSuspendRequest_from _) (by simp only [parts]; decide)
  | suspendMinRunElapsed => exact FromO.weaken (execSuspendMinRunElapsed_from _) (by simp only [parts]; decide)
  | resumeRequest => exact FromO.weaken (execResumeRequest_from _) (by simp only [parts]; decide)
  | suspendWindowExpiry => exact FromO.weaken (execSuspendWindowExpiry_from _) (by simp only [parts]; decide)
  | flushEnd => exact FromO.weaken (execFlushEnd_from _) (by simp only [parts]; decide)
  | holdupTest => exact FromO.weaken (execHoldupTest_from _) (by simp only [parts]; decide)
  | holdupTestSample => exact FromO.weaken (execHoldupTestSample_from _) (by simp only [parts]; decide)
  | wtLogDelayExpiry => exact FromO.weaken (execWtLogDelayExpiry_from _ _ _ _) (by simp only [parts]; decide)
  | hardDecode => exact FromO.weaken (execHardDecode_from _ _ _ _ _ _ _) (by simp only [parts]; decide)
  | ladderStep => exact FromO.weaken (execLadderStep_from _ _ _ _ _) (by simp only [parts]; decide)
  | calPersist => exact FromO.weaken (execCalPersist_from) (by simp only [parts]; decide)
  | patrolPace => exact FromO.weaken (execPatrolPace_from) (by simp only [parts]; decide)
  | patrolRead => exact FromO.weaken (execPatrolRead_from _ _ _ _) (by simp only [parts]; decide)
  | admissionDeadline => exact FromO.weaken (execAdmissionDeadline_from _ _ _) (by simp only [parts]; decide)
  | dramNegotiation => exact FromO.weaken (execDramNegotiation_from _) (by simp only [parts]; decide)
  | dramRequest => exact FromO.weaken (execDramRequest_from _ _ _ _) (by simp only [parts]; decide)
  | sameBankRefresh => exact FromO.weaken (execSameBankRefresh_from _ _ _ _) (by simp only [parts]; decide)
  | rowTableClear => exact FromO.weaken (execRowTableClear_from) (by simp only [parts]; decide)
  | retrainPause => exact FromO.weaken (execRetrainPause_from _ _) (by simp only [parts]; decide)
  | bufferAllocate => exact FromO.weaken (execBufferAllocate_from _ _ _ _) (by simp only [parts]; decide)
  | bufferAcquire => exact FromO.weaken (execBufferAcquire_from _ _) (by simp only [parts]; decide)
  | bufferRelease => exact FromO.weaken (execBufferRelease_from _ _) (by simp only [parts]; decide)
  | wmRecordRc => exact FromO.weaken (execWmRecordRc_from _ _) (by simp only [parts]; decide)
  | scrubAccess => exact FromO.weaken (execScrubAccess_from _ _ _) (by simp only [parts]; decide)
  | eccTestWrite => exact FromO.weaken (execEccTestWrite_from _) (by simp only [parts]; decide)
  | eccTestWriteData => exact FromO.weaken (execEccTestWriteData_from _) (by simp only [parts]; decide)
  | eccTestWriteCheck => exact FromO.weaken (execEccTestWriteCheck_from _) (by simp only [parts]; decide)
  | eccTestReadCorrected => exact FromO.weaken (execEccTestReadCorrected_from _) (by simp only [parts]; decide)
  | eccTestReadRaw => exact FromO.weaken (execEccTestReadRaw_from _) (by simp only [parts]; decide)
  | rinorLinkUp => exact FromO.weaken (execRinorLinkUp_from _ _ _) (by simp only [parts]; decide)
  | formation => exact FromO.weaken (execFormation_from _) (by simp only [parts]; decide)
  | pairFormTimeout => exact FromO.weaken (execPairFormTimeout_from _) (by simp only [parts]; decide)
  | mirrorWriteData => exact FromO.weaken (execMirrorWriteData_from _ _) (by simp only [parts]; decide)
  | mirrorUnitStaging => exact FromO.weaken (execMirrorUnitStaging_from _ _) (by simp only [parts]; decide)
  | metadataDelta => exact FromO.weaken (execMetadataDelta_from _ _ _ _ _) (by simp only [parts]; decide)
  | mirrorRelease => exact FromO.weaken (execMirrorRelease_from _) (by simp only [parts]; decide)
  | mirrorAck => exact FromO.weaken (execMirrorAck_from _) (by simp only [parts]; decide)
  | resendRequest => exact FromO.weaken (execResendRequest_from _) (by simp only [parts]; decide)
  | adminForward => exact FromO.weaken (execAdminForward_from _ _ _ _) (by simp only [parts]; decide)
  | pairSharedEntry => exact FromO.weaken (execPairSharedEntry_from _ _ _ _) (by simp only [parts]; decide)
  | powerCoordination => exact FromO.weaken (execPowerCoordination_from _) (by simp only [parts]; decide)
  | pairDeadTime => exact FromO.weaken (execPairDeadTime_from _) (by simp only [parts]; decide)
  | pairFenceDefer => exact FromO.weaken (execPairFenceDefer_from _) (by simp only [parts]; decide)
  | takeoverComplete => exact FromO.weaken (execTakeoverComplete_from) (by simp only [parts]; decide)
  | fenced => exact FromO.weaken (execFenced_from) (by simp only [parts]; decide)
  | fenceRelease => exact FromO.weaken (execFenceRelease_from) (by simp only [parts]; decide)
  | rejoin => exact FromO.weaken (execRejoin_from _) (by simp only [parts]; decide)
  | surrender => exact FromO.weaken (execSurrender_from _) (by simp only [parts]; decide)
  | powerOn => exact FromO.weaken (execPowerOn_from _ _) (by simp only [parts]; decide)
  | powerGood => exact FromO.weaken (execPowerGood_from _) (by simp only [parts]; decide)
  | powerGoodTimeout => exact FromO.weaken (execPowerGoodTimeout_from _) (by simp only [parts]; decide)
  | powerGoodFall => exact FromO.weaken (execPowerGoodFall_from _) (by simp only [parts]; decide)
  | avsbusTimeout => exact FromO.weaken (execAvsbusTimeout_from _) (by simp only [parts]; decide)
  | ebbIdle => exact FromO.weaken (execEbbIdle_from) (by simp only [parts]; decide)
  | powerRequestSleep => exact FromO.weaken (execPowerRequestSleep_from _ _) (by simp only [parts]; decide)
  | powerRequestWake => exact FromO.weaken (execPowerRequestWake_from _) (by simp only [parts]; decide)
  | sleepCommit => exact FromO.weaken (execSleepCommit_from) (by simp only [parts]; decide)
  | wake => exact FromO.weaken (execWake_from _) (by simp only [parts]; decide)
  | supplyWarning => exact FromO.weaken (execSupplyWarning_from _) (by simp only [parts]; decide)
  | supplyFlushLevel => exact FromO.weaken (execSupplyFlushLevel_from _) (by simp only [parts]; decide)
  | tHoldExpiry => exact FromO.weaken (execTHoldExpiry_from) (by simp only [parts]; decide)
  | supplyRecovered => exact FromO.weaken (execSupplyRecovered_from) (by simp only [parts]; decide)
  | supplyResetLevel => exact FromO.weaken (execSupplyResetLevel_from _) (by simp only [parts]; decide)
  | pfail => exact FromO.weaken (execPfail_from) (by simp only [parts]; decide)
  | holdupCharge => exact FromO.weaken (execHoldupCharge_from _) (by simp only [parts]; decide)
  | holdupChargeTimeout => exact FromO.weaken (execHoldupChargeTimeout_from) (by simp only [parts]; decide)
  | atRiskRecompute => exact FromO.weaken (execAtRiskRecompute_from _) (by simp only [parts]; decide)
  | huTestNow => exact FromO.weaken (execHuTestNow_from _ _) (by simp only [parts]; decide)
  | sensorSample => exact FromO.weaken (execSensorSample_from _ _) (by simp only [parts]; decide)
  | throttleGraceExpiry => exact FromO.weaken (execThrottleGraceExpiry_from) (by simp only [parts]; decide)
  | throttleStep => exact FromO.weaken (execThrottleStep_from) (by simp only [parts]; decide)
  | throttleRelease => exact FromO.weaken (execThrottleRelease_from) (by simp only [parts]; decide)
  | thermalHold => exact FromO.weaken (execThermalHold_from) (by simp only [parts]; decide)
  | nandTempRead => exact FromO.weaken (execNandTempRead_from _ _) (by simp only [parts]; decide)
  | nvmSubsystemReset => exact FromO.weaken (execNvmSubsystemReset_from) (by simp only [parts]; decide)
  | managementReset => exact FromO.weaken (execManagementReset_from _) (by simp only [parts]; decide)
  | watchdogKick => exact FromO.weaken (execWatchdogKick_from _) (by simp only [parts]; decide)
  | watchdogExpiry => exact FromO.weaken (execWatchdogExpiry_from _) (by simp only [parts]; decide)
  | cfProgram => exact FromO.weaken (execCfProgram_from _ _) (by simp only [parts]; decide)
  | cfErase => exact FromO.weaken (execCfErase_from _) (by simp only [parts]; decide)
  | cfBlankCheck => exact FromO.weaken (execCfBlankCheck_from _) (by simp only [parts]; decide)
  | cfVerify => exact FromO.weaken (execCfVerify_from _ _) (by simp only [parts]; decide)
  | cfHash => exact FromO.weaken (execCfHash_from _) (by simp only [parts]; decide)
  | cfOperationComplete => exact FromO.weaken (execCfOperationComplete_from _ _ _) (by simp only [parts]; decide)
  | cfSuspend => exact FromO.weaken (execCfSuspend_from _) (by simp only [parts]; decide)
  | cfCopyToSram => exact FromO.weaken (execCfCopyToSram_from _ _ _ _) (by simp only [parts]; decide)
  | fwConfirm => exact FromO.weaken (execFwConfirm_from) (by simp only [parts]; decide)
  | fwRecoveryImage => exact FromO.weaken (execFwRecoveryImage_from _ _) (by simp only [parts]; decide)
  | fwRollbackCommit => exact FromO.weaken (execFwRollbackCommit_from _ _) (by simp only [parts]; decide)
  | signerKeyAdd => exact FromO.weaken (execSignerKeyAdd_from _ _) (by simp only [parts]; decide)
  | signerKeyRemove => exact FromO.weaken (execSignerKeyRemove_from _ _) (by simp only [parts]; decide)
  | attestChallenge => exact FromO.weaken (execAttestChallenge_from _ _) (by simp only [parts]; decide)
  | attestReportReady => exact FromO.weaken (execAttestReportReady_from) (by simp only [parts]; decide)
  | serviceChallenge => exact FromO.weaken (execServiceChallenge_from _) (by simp only [parts]; decide)
  | serviceUnlock => exact FromO.weaken (execServiceUnlock_from _ _) (by simp only [parts]; decide)
  | serviceLock => exact FromO.weaken (execServiceLock_from _ _) (by simp only [parts]; decide)
  | serviceModeExpiry => exact FromO.weaken (execServiceModeExpiry_from) (by simp only [parts]; decide)
  | cfPasswordW => exact FromO.weaken (execCfPasswordW_from _ _ _) (by simp only [parts]; decide)
  | cfUnlockRegion => exact FromO.weaken (execCfUnlockRegion_from _ _) (by simp only [parts]; decide)
  | cfLockRegion => exact FromO.weaken (execCfLockRegion_from _ _) (by simp only [parts]; decide)
  | cfPasswordChange => exact FromO.weaken (execCfPasswordChange_from _ _) (by simp only [parts]; decide)
  | crcLease => exact FromO.weaken (execCrcLease_from _ _ _ _) (by simp only [parts]; decide)
  | crcInit a b => exact FromO.weaken (execCrcInit_from a b) (by simp only [parts]; decide)
  | feedB => exact FromO.weaken (execFeedB_from _ _ _) (by simp only [parts]; decide)
  | feedH => exact FromO.weaken (execFeedH_from _ _ _) (by simp only [parts]; decide)
  | feedW => exact FromO.weaken (execFeedW_from _ _ _) (by simp only [parts]; decide)
  | runningRestore => exact FromO.weaken (execRunningRestore_from _ _ _ _) (by simp only [parts]; decide)
  | rinorTrainingTimeout => exact FromO.weaken (execRinorTrainingTimeout_from) (by simp only [parts]; decide)
  | rinorLinkDown => exact FromO.weaken (execRinorLinkDown_from) (by simp only [parts]; decide)
  | i3cNegotiation => exact FromO.weaken (execI3cNegotiation_from _ _ _) (by simp only [parts]; decide)
  | aspmL1Entry => exact FromO.weaken (execAspmL1Entry_from _ _ _) (by simp only [parts]; decide)
  | interruptAggregationTime => exact FromO.weaken (execInterruptAggregationTime_from _ _) (by simp only [parts]; decide)
  | suspendLunReady => exact FromO.weaken (execSuspendLunReady_from _) (by simp only [parts]; decide)
  | supplyHysteresisCrossing => exact FromO.weaken (execSupplyHysteresisCrossing_from _) (by simp only [parts]; decide)
  | vddAoLoss => exact FromO.weaken (execVddAoLoss_from) (by simp only [parts]; decide)
  | stagingDrain => exact FromO.weaken (execStagingDrain_from) (by simp only [parts]; decide)
  | compactClear => exact FromO.weaken (execCompactClear_from _ _) (by simp only [parts]; decide)
  | cursorWrite => exact FromO.weaken (execCursorWrite_from _ _) (by simp only [parts]; decide)
  | winCtrlWrite => exact FromO.weaken (execWinCtrlWrite_from _ _) (by simp only [parts]; decide)
  | advance => exact FromO.weaken (execAdvance_from _) (by simp only [parts]; decide)
  | freeze => exact FromO.weaken (execFreeze_from _) (by simp only [parts]; decide)
  | windowRefillDone => exact FromO.weaken (execWindowRefillDone_from _ _) (by simp only [parts]; decide)
  | freezeEnd => exact FromO.weaken (execFreezeEnd_from) (by simp only [parts]; decide)
  | traceItemWrite => exact FromO.weaken (execTraceItemWrite_from _ _ _ _) (by simp only [parts]; decide)
  | traceEntryClose => exact FromO.weaken (execTraceEntryClose_from) (by simp only [parts]; decide)
  | traceClear => exact FromO.weaken (execTraceClear_from _ _) (by simp only [parts]; decide)
  | traceDrain => exact FromO.weaken (execTraceDrain_from _) (by simp only [parts]; decide)
  | histClear => exact FromO.weaken (execHistClear_from _ _) (by simp only [parts]; decide)
  | histCoveClear => exact FromO.weaken (execHistCoveClear_from _ _) (by simp only [parts]; decide)
  | heatQuery => exact FromO.weaken (execHeatQuery_from _ _) (by simp only [parts]; decide)
  | heatEpoch => exact FromO.weaken (execHeatEpoch_from) (by simp only [parts]; decide)

/-- Every command has a next state. -/
theorem exec_ran (c : Instr) (s : State) : Ran (exec c s) := by
  cases c with
  | tideBoundary => exact ⟨_, rfl⟩
  | timeBaseSwitch => exact ⟨_, rfl⟩
  | speedMonitorSample => exact ⟨_, rfl⟩
  | speedLow => exact ⟨_, rfl⟩
  | dieLinkTransfer => exact ⟨_, rfl⟩
  | strandGate => exact ⟨_, rfl⟩
  | strandWake => exact ⟨_, rfl⟩
  | get => exact ⟨_, rfl⟩
  | describe => exact ⟨_, rfl⟩
  | set => exact ⟨_, rfl⟩
  | segRead => exact ⟨_, rfl⟩
  | segWrite => exact ⟨_, rfl⟩
  | segAbort => exact ⟨_, rfl⟩
  | segWriteTimeout => exact ⟨_, rfl⟩
  | journalRecordProgram => exact ⟨_, rfl⟩
  | getLogPageC1 => exact ⟨_, rfl⟩
  | overlaySelect => exact ⟨_, rfl⟩
  | imageLoad => exact ⟨_, rfl⟩
  | configRevert => exact ⟨_, rfl⟩
  | overlayDelete => exact ⟨_, rfl⟩
  | calendarTime => exact ⟨_, rfl⟩
  | perstAssert => exact ⟨_, rfl⟩
  | perstDeassert => exact ⟨_, rfl⟩
  | pcieLinkUp => exact ⟨_, rfl⟩
  | pcieTrainingTimeout => exact ⟨_, rfl⟩
  | hotReset => exact ⟨_, rfl⟩
  | functionLevelReset => exact ⟨_, rfl⟩
  | registerWrite => exact ⟨_, rfl⟩
  | serviceWindowAccess => exact ⟨_, rfl⟩
  | traceFifoPop => exact ⟨_, rfl⟩
  | l0pNarrow => exact ⟨_, rfl⟩
  | l0pWiden => exact ⟨_, rfl⟩
  | linkL1Exit => exact ⟨_, rfl⟩
  | hostDmaError => exact ⟨_, rfl⟩
  | instanceCommit => exact ⟨_, rfl⟩
  | instanceReclaim => exact ⟨_, rfl⟩
  | reclaimFinished => exact ⟨_, rfl⟩
  | vfEnable => exact ⟨_, rfl⟩
  | controllerEnable => exact ⟨_, rfl⟩
  | controllerReady => exact ⟨_, rfl⟩
  | controllerReset => exact ⟨_, rfl⟩
  | ccShutdown => exact ⟨_, rfl⟩
  | m2tBell => exact ⟨_, rfl⟩
  | t2mBell => exact ⟨_, rfl⟩
  | m2tAck => exact ⟨_, rfl⟩
  | t2mAck => exact ⟨_, rfl⟩
  | mbCauseClear => exact ⟨_, rfl⟩
  | pasidEnableChange => exact ⟨_, rfl⟩
  | keySession => exact ⟨_, rfl⟩
  | keyDeliver => exact ⟨_, rfl⟩
  | keySessionTimeout => exact ⟨_, rfl⟩
  | sqTailDoorbell => exact ⟨_, rfl⟩
  | cqHeadDoorbell => exact ⟨_, rfl⟩
  | qctxFill => exact ⟨_, rfl⟩
  | fetchGrant => exact ⟨_, rfl⟩
  | poolUnitFreed => exact ⟨_, rfl⟩
  | deleteIoSubmissionQueue => exact ⟨_, rfl⟩
  | createIoSubmissionQueue => exact ⟨_, rfl⟩
  | deleteIoCompletionQueue => exact ⟨_, rfl⟩
  | createIoCompletionQueue => exact ⟨_, rfl⟩
  | getLogPage => exact ⟨_, rfl⟩
  | getLogPageC2 => exact ⟨_, rfl⟩
  | getLogPageC3 => exact ⟨_, rfl⟩
  | snapshotLapse => exact ⟨_, rfl⟩
  | identify => exact ⟨_, rfl⟩
  | abort => exact ⟨_, rfl⟩
  | getFeatures => exact ⟨_, rfl⟩
  | setArbitration => exact ⟨_, rfl⟩
  | setPowerManagement => exact ⟨_, rfl⟩
  | setTemperatureThreshold => exact ⟨_, rfl⟩
  | setNumberOfQueues => exact ⟨_, rfl⟩
  | setInterruptCoalescing => exact ⟨_, rfl⟩
  | setInterruptVectorConfiguration => exact ⟨_, rfl⟩
  | setAsyncEventConfiguration => exact ⟨_, rfl⟩
  | setAutonomousPowerStateTransition => exact ⟨_, rfl⟩
  | setHostBehaviorSupport => exact ⟨_, rfl⟩
  | apstTransition => exact ⟨_, rfl⟩
  | asynchronousEventRequest => exact ⟨_, rfl⟩
  | namespaceCreate => exact ⟨_, rfl⟩
  | namespaceDelete => exact ⟨_, rfl⟩
  | namespaceDeleteDone => exact ⟨_, rfl⟩
  | namespaceAttach => exact ⟨_, rfl⟩
  | namespaceDetach => exact ⟨_, rfl⟩
  | firmwareImageDownload => exact ⟨_, rfl⟩
  | firmwareCommitVerify => exact ⟨_, rfl⟩
  | firmwareCommitReplaceActivate => exact ⟨_, rfl⟩
  | firmwareCommitActivate => exact ⟨_, rfl⟩
  | fwUpdateHoldTimeout => exact ⟨_, rfl⟩
  | assignCove => exact ⟨_, rfl⟩
  | enableDirective => exact ⟨_, rfl⟩
  | coveStatus => exact ⟨_, rfl⟩
  | zoneUsage => exact ⟨_, rfl⟩
  | nvmeMiSend => exact ⟨_, rfl⟩
  | nvmeMiReceive => exact ⟨_, rfl⟩
  | formatNvm => exact ⟨_, rfl⟩
  | securitySend => exact ⟨_, rfl⟩
  | securityReceive => exact ⟨_, rfl⟩
  | sanitizeBlockErase => exact ⟨_, rfl⟩
  | exitFailureMode => exact ⟨_, rfl⟩
  | sanitizeDone => exact ⟨_, rfl⟩
  | getLbaStatus => exact ⟨_, rfl⟩
  | flush => exact ⟨_, rfl⟩
  | write => exact ⟨_, rfl⟩
  | writeAcknowledge => exact ⟨_, rfl⟩
  | read => exact ⟨_, rfl⟩
  | writeUncorrectable => exact ⟨_, rfl⟩
  | compare => exact ⟨_, rfl⟩
  | writeZeroes => exact ⟨_, rfl⟩
  | datasetManagement => exact ⟨_, rfl⟩
  | verify => exact ⟨_, rfl⟩
  | zoneOpen => exact ⟨_, rfl⟩
  | zoneClose => exact ⟨_, rfl⟩
  | zoneFinish => exact ⟨_, rfl⟩
  | zoneReset => exact ⟨_, rfl⟩
  | zoneOffline => exact ⟨_, rfl⟩
  | zoneManagementReceive => exact ⟨_, rfl⟩
  | zoneAppend => exact ⟨_, rfl⟩
  | coveDescWrite => exact ⟨_, rfl⟩
  | finishZoneRecommended => exact ⟨_, rfl⟩
  | zoneFinishedByController => exact ⟨_, rfl⟩
  | mapMiss => exact ⟨_, rfl⟩
  | mapPinLoad => exact ⟨_, rfl⟩
  | mapWriteback => exact ⟨_, rfl⟩
  | relocationSwitch => exact ⟨_, rfl⟩
  | gcStart => exact ⟨_, rfl⟩
  | wearLevelling => exact ⟨_, rfl⟩
  | refresh => exact ⟨_, rfl⟩
  | dieRetire => exact ⟨_, rfl⟩
  | dieNoticeEnumeration => exact ⟨_, rfl⟩
  | lossPublish => exact ⟨_, rfl⟩
  | lossAck => exact ⟨_, rfl⟩
  | compressPiece => exact ⟨_, rfl⟩
  | unitIdleCut => exact ⟨_, rfl⟩
  | decodeFrame => exact ⟨_, rfl⟩
  | nandNegotiation => exact ⟨_, rfl⟩
  | slotRetrain => exact ⟨_, rfl⟩
  | operationStart => exact ⟨_, rfl⟩
  | nandRead => exact ⟨_, rfl⟩
  | nandReadSoft => exact ⟨_, rfl⟩
  | nandProgram => exact ⟨_, rfl⟩
  | nandErase => exact ⟨_, rfl⟩
  | nandGetFeature => exact ⟨_, rfl⟩
  | nandSetFeature => exact ⟨_, rfl⟩
  | nandResetLun => exact ⟨_, rfl⟩
  | nandReadStatus => exact ⟨_, rfl⟩
  | nandCompletion => exact ⟨_, rfl⟩
  | descriptorWithdraw => exact ⟨_, rfl⟩
  | arrayTimeout => exact ⟨_, rfl⟩
  | suspendRequest => exact ⟨_, rfl⟩
  | suspendMinRunElapsed => exact ⟨_, rfl⟩
  | resumeRequest => exact ⟨_, rfl⟩
  | suspendWindowExpiry => exact ⟨_, rfl⟩
  | flushEnd => exact ⟨_, rfl⟩
  | holdupTest => exact ⟨_, rfl⟩
  | holdupTestSample => exact ⟨_, rfl⟩
  | wtLogDelayExpiry => exact ⟨_, rfl⟩
  | hardDecode => exact ⟨_, rfl⟩
  | ladderStep => exact ⟨_, rfl⟩
  | calPersist => exact ⟨_, rfl⟩
  | patrolPace => exact ⟨_, rfl⟩
  | patrolRead => exact ⟨_, rfl⟩
  | admissionDeadline => exact ⟨_, rfl⟩
  | dramNegotiation => exact ⟨_, rfl⟩
  | dramRequest => exact ⟨_, rfl⟩
  | sameBankRefresh => exact ⟨_, rfl⟩
  | rowTableClear => exact ⟨_, rfl⟩
  | retrainPause => exact ⟨_, rfl⟩
  | bufferAllocate => exact ⟨_, rfl⟩
  | bufferAcquire => exact ⟨_, rfl⟩
  | bufferRelease => exact ⟨_, rfl⟩
  | wmRecordRc => exact ⟨_, rfl⟩
  | scrubAccess => exact ⟨_, rfl⟩
  | eccTestWrite => exact ⟨_, rfl⟩
  | eccTestWriteData => exact ⟨_, rfl⟩
  | eccTestWriteCheck => exact ⟨_, rfl⟩
  | eccTestReadCorrected => exact ⟨_, rfl⟩
  | eccTestReadRaw => exact ⟨_, rfl⟩
  | rinorLinkUp => exact ⟨_, rfl⟩
  | formation => exact ⟨_, rfl⟩
  | pairFormTimeout => exact ⟨_, rfl⟩
  | mirrorWriteData => exact ⟨_, rfl⟩
  | mirrorUnitStaging => exact ⟨_, rfl⟩
  | metadataDelta => exact ⟨_, rfl⟩
  | mirrorRelease => exact ⟨_, rfl⟩
  | mirrorAck => exact ⟨_, rfl⟩
  | resendRequest => exact ⟨_, rfl⟩
  | adminForward => exact ⟨_, rfl⟩
  | pairSharedEntry => exact ⟨_, rfl⟩
  | powerCoordination => exact ⟨_, rfl⟩
  | pairDeadTime => exact ⟨_, rfl⟩
  | pairFenceDefer => exact ⟨_, rfl⟩
  | takeoverComplete => exact ⟨_, rfl⟩
  | fenced => exact ⟨_, rfl⟩
  | fenceRelease => exact ⟨_, rfl⟩
  | rejoin => exact ⟨_, rfl⟩
  | surrender => exact ⟨_, rfl⟩
  | powerOn => exact ⟨_, rfl⟩
  | powerGood => exact ⟨_, rfl⟩
  | powerGoodTimeout => exact ⟨_, rfl⟩
  | powerGoodFall => exact ⟨_, rfl⟩
  | avsbusTimeout => exact ⟨_, rfl⟩
  | ebbIdle => exact ⟨_, rfl⟩
  | powerRequestSleep => exact ⟨_, rfl⟩
  | powerRequestWake => exact ⟨_, rfl⟩
  | sleepCommit => exact ⟨_, rfl⟩
  | wake => exact ⟨_, rfl⟩
  | supplyWarning => exact ⟨_, rfl⟩
  | supplyFlushLevel => exact ⟨_, rfl⟩
  | tHoldExpiry => exact ⟨_, rfl⟩
  | supplyRecovered => exact ⟨_, rfl⟩
  | supplyResetLevel => exact ⟨_, rfl⟩
  | pfail => exact ⟨_, rfl⟩
  | holdupCharge => exact ⟨_, rfl⟩
  | holdupChargeTimeout => exact ⟨_, rfl⟩
  | atRiskRecompute => exact ⟨_, rfl⟩
  | huTestNow => exact ⟨_, rfl⟩
  | sensorSample => exact ⟨_, rfl⟩
  | throttleGraceExpiry => exact ⟨_, rfl⟩
  | throttleStep => exact ⟨_, rfl⟩
  | throttleRelease => exact ⟨_, rfl⟩
  | thermalHold => exact ⟨_, rfl⟩
  | nandTempRead => exact ⟨_, rfl⟩
  | nvmSubsystemReset => exact ⟨_, rfl⟩
  | managementReset => exact ⟨_, rfl⟩
  | watchdogKick => exact ⟨_, rfl⟩
  | watchdogExpiry => exact ⟨_, rfl⟩
  | cfProgram => exact ⟨_, rfl⟩
  | cfErase => exact ⟨_, rfl⟩
  | cfBlankCheck => exact ⟨_, rfl⟩
  | cfVerify => exact ⟨_, rfl⟩
  | cfHash => exact ⟨_, rfl⟩
  | cfOperationComplete => exact ⟨_, rfl⟩
  | cfSuspend => exact ⟨_, rfl⟩
  | cfCopyToSram => exact ⟨_, rfl⟩
  | fwConfirm => exact ⟨_, rfl⟩
  | fwRecoveryImage => exact ⟨_, rfl⟩
  | fwRollbackCommit => exact ⟨_, rfl⟩
  | signerKeyAdd => exact ⟨_, rfl⟩
  | signerKeyRemove => exact ⟨_, rfl⟩
  | attestChallenge => exact ⟨_, rfl⟩
  | attestReportReady => exact ⟨_, rfl⟩
  | serviceChallenge => exact ⟨_, rfl⟩
  | serviceUnlock => exact ⟨_, rfl⟩
  | serviceLock => exact ⟨_, rfl⟩
  | serviceModeExpiry => exact ⟨_, rfl⟩
  | cfPasswordW => exact ⟨_, rfl⟩
  | cfUnlockRegion => exact ⟨_, rfl⟩
  | cfLockRegion => exact ⟨_, rfl⟩
  | cfPasswordChange => exact ⟨_, rfl⟩
  | crcLease => exact ⟨_, rfl⟩
  | crcInit => exact ⟨_, rfl⟩
  | feedB => exact ⟨_, rfl⟩
  | feedH => exact ⟨_, rfl⟩
  | feedW => exact ⟨_, rfl⟩
  | runningRestore => exact ⟨_, rfl⟩
  | rinorTrainingTimeout => exact ⟨_, rfl⟩
  | rinorLinkDown => exact ⟨_, rfl⟩
  | i3cNegotiation => exact ⟨_, rfl⟩
  | aspmL1Entry => exact ⟨_, rfl⟩
  | interruptAggregationTime => exact ⟨_, rfl⟩
  | suspendLunReady => exact ⟨_, rfl⟩
  | supplyHysteresisCrossing => exact ⟨_, rfl⟩
  | vddAoLoss => exact ⟨_, rfl⟩
  | stagingDrain => exact ⟨_, rfl⟩
  | compactClear => exact ⟨_, rfl⟩
  | cursorWrite => exact ⟨_, rfl⟩
  | winCtrlWrite => exact ⟨_, rfl⟩
  | advance => exact ⟨_, rfl⟩
  | freeze => exact ⟨_, rfl⟩
  | windowRefillDone pf bad => exact execWindowRefillDone_ran pf bad s
  | freezeEnd => exact ⟨_, rfl⟩
  | traceItemWrite => exact ⟨_, rfl⟩
  | traceEntryClose => exact ⟨_, rfl⟩
  | traceClear => exact ⟨_, rfl⟩
  | traceDrain => exact ⟨_, rfl⟩
  | histClear => exact ⟨_, rfl⟩
  | histCoveClear => exact ⟨_, rfl⟩
  | heatQuery => exact ⟨_, rfl⟩
  | heatEpoch => exact ⟨_, rfl⟩

/-- Settles O58: the frame of every command, from the masks of its operations. -/
theorem commandsCompleteAndFrame : Obligations.commands_complete_and_frame := by
  intro c s
  obtain ⟨t, ht⟩ := exec_ran c s
  have frame := exec_from c s t ht
  exact ⟨t, ht, frame.pending, fun p hp => same_of_keeps frame.keeps p (testBit_maskOf hp)⟩

theorem sound_withPending {s : State} (w : Sound s) (l : List Instr) : Sound { s with pending := l } := { w with }

/-- Settles O59: a step is the dispatch of a command, or idle time, and both keep `Sound`. -/
theorem stepKeepsSound : Obligations.step_keeps_sound := by
  intro s t w h
  unfold step at h
  split at h
  · cases h
    exact (advance_from 1000).sound w
  next c rest _ => exact (exec_from c _ t h).sound (sound_withPending w rest)

end Sys2Proof.Frames

/-! What the shared operations do to the entries, and what they leave behind: values, records, trace items, completions. -/
namespace Sys2Proof.Effects
open Sys2Proof Sys2Proof.Machine

/-- Outcomes with the same next state. -/
theorem next_congr {a b : State} (h : a = b) : (.next a : Host.Outcome State Fault Refusal) = .next b := congrArg _ h

-- ===== entries =====

theorem v_of_dict {s t : State} (h : t.dict = s.dict) (k : Nat) : v t k = v s k := by simp only [v, h]

theorem onlyEntries_refl (s : State) (ks : List Nat) : OnlyEntries s s ks := fun _ _ => rfl

theorem onlyEntries_of_dict {s t : State} (ks : List Nat) (h : t.dict = s.dict) : OnlyEntries s t ks := fun k _ => v_of_dict h k

theorem onlyEntries_setV (s : State) (k x : Nat) : OnlyEntries s (setV s k x) [k] := fun _ hk =>
  v_setV_ne s x (List.ne_of_not_mem_cons hk)

theorem onlyEntries_bump (s : State) (k w n : Nat) : OnlyEntries s (bump s k w n) [k] := onlyEntries_setV _ _ _

theorem onlyEntries_mono {s t : State} {ks ls : List Nat} (h : OnlyEntries s t ks) (sub : ks ⊆ ls) : OnlyEntries s t ls :=
  fun k hk => h k fun m => hk (sub m)

theorem onlyEntries_trans {s t u : State} {ks : List Nat} (h : OnlyEntries s t ks) (k : OnlyEntries t u ks) : OnlyEntries s u ks :=
  fun x hx => (k x hx).trans (h x hx)

theorem onlyEntries_append {s t u : State} {ks ls : List Nat} (h : OnlyEntries s t ks) (k : OnlyEntries t u ls) :
    OnlyEntries s u (ks ++ ls) :=
  onlyEntries_trans (onlyEntries_mono h (List.subset_append_left ..)) (onlyEntries_mono k (List.subset_append_right ..))

/-- States with the same entries are the same to `OnlyEntries`. -/
theorem onlyEntries_congr {s s' t t' : State} {ks : List Nat} (h : OnlyEntries s t ks) (e : s'.dict = s.dict) (f : t'.dict = t.dict) :
    OnlyEntries s' t' ks := fun k hk => (v_of_dict f k).trans ((h k hk).trans (v_of_dict e k).symm)

theorem onlyEntries_foldl {β : Type} {f : State → β → State} {ks : List Nat} (hf : ∀ u b, OnlyEntries u (f u b) ks) (l : List β)
    (s : State) : OnlyEntries s (l.foldl f s) ks := by
  induction l generalizing s with
  | nil => exact onlyEntries_refl _ _
  | cons b r ih => exact onlyEntries_trans (hf s b) (ih _)

-- ===== events (R400 to R406) =====

theorem stageRec_onlyEntries (s : State) (r : Rec) : OnlyEntries s (stageRec s r) [K.stagingDropped] := by
  simp only [stageRec]
  split
  · exact onlyEntries_of_dict _ rfl
  · split
    · exact onlyEntries_of_dict _ rfl
    · exact onlyEntries_bump _ _ _ _

theorem compactRec_onlyEntries (s : State) (r : Rec) : OnlyEntries s (compactRec s r) [K.compactDropped] := by
  simp only [compactRec]
  split
  · exact onlyEntries_of_dict _ rfl
  · split
    · exact onlyEntries_of_dict _ rfl
    · exact onlyEntries_bump _ _ _ _

theorem thaw_onlyEntries (s : State) (full : Bool) : OnlyEntries s (thaw s full) [K.stagingDropped, K.freezeOverflows] := by
  have held (u : State) (l : List Rec) : OnlyEntries u (l.foldl stageRec u) [K.stagingDropped, K.freezeOverflows] :=
    onlyEntries_foldl (fun t r => onlyEntries_mono (stageRec_onlyEntries t r) (by decide)) l u
  unfold thaw
  cases full with
  | false => exact held _ _
  | true => exact onlyEntries_trans (onlyEntries_mono (onlyEntries_bump _ K.freezeOverflows 32 1) (by decide)) (held _ _)

theorem record_onlyEntries (s : State) (ev unit n : Nat) (args : List Nat) : OnlyEntries s (record s ev unit n args) recordKeys := by
  have compact (u : State) (r : Rec) : OnlyEntries u (compactRec u r) recordKeys := onlyEntries_mono (compactRec_onlyEntries u r) (by decide)
  have staged (u : State) (r : Rec) : OnlyEntries u (stageRec u r) recordKeys := onlyEntries_mono (stageRec_onlyEntries u r) (by decide)
  have thawed (u : State) : OnlyEntries u (thaw u true) recordKeys := onlyEntries_mono (thaw_onlyEntries u true) (by decide)
  simp only [record]
  split
  · exact onlyEntries_refl _ _
  · generalize hr : Rec.mk _ _ _ _ _ _ _ _ _ = r
    generalize hs : (if decide (severityOf ev ≤ v s K.compactMinSeverity) = true then
      compactRec { s with recd := { s.recd with nextSeq := s.recd.nextSeq + 1 } } r
      else { s with recd := { s.recd with nextSeq := s.recd.nextSeq + 1 } }) = u
    have first : OnlyEntries s u recordKeys := by
      subst hs
      split
      · exact onlyEntries_trans (onlyEntries_of_dict _ rfl) (compact _ r)
      · exact onlyEntries_of_dict _ rfl
    refine onlyEntries_trans first ?_
    split
    · exact onlyEntries_refl _ _
    · split
      · split
        · exact onlyEntries_trans (onlyEntries_of_dict _ rfl) (thawed _)
        · exact onlyEntries_of_dict _ rfl
      · exact staged u r

theorem event_onlyEntries (s : State) (ev : Nat) (args : List Nat) : OnlyEntries s (event s ev args) recordKeys :=
  record_onlyEntries _ _ _ _ _

/-- The compact recorder is beside the staging queue. -/
theorem compactRec_staging (s : State) (r : Rec) : (compactRec s r).recd.staging = s.recd.staging ∧
    (compactRec s r).recd.frozen = s.recd.frozen ∧ (compactRec s r).recd.nextSeq = s.recd.nextSeq := by
  simp only [compactRec]
  split
  · exact ⟨rfl, rfl, rfl⟩
  · split
    · exact ⟨rfl, rfl, rfl⟩
    · exact ⟨rfl, rfl, rfl⟩

theorem stageRec_of_room {s : State} (r : Rec) (h : s.recd.staging.length < 1024) :
    ∃ f, stageRec s r = { s with recd := { s.recd with staging := s.recd.staging ++ [{ r with rflags := f }] } } := by
  simp only [stageRec, h, if_true]
  split
  · exact ⟨r.rflags, rfl⟩
  · exact ⟨_, rfl⟩

/-- An event is recorded, whatever the unit. -/
theorem record_recorded (s : State) (ev unit n : Nat) (args : List Nat) : Recorded s (record s ev unit n args) ev args := by
  intro sev frozen room
  have stage : decide (severityOf ev ≤ v s K.recordMinSeverity) = true := decide_eq_true sev
  simp only [record, stage, Bool.not_true, Bool.and_false, Bool.false_eq_true, if_false]
  generalize hr : Rec.mk _ _ _ _ _ _ _ _ _ = r
  generalize hs : (if decide (severityOf ev ≤ v s K.compactMinSeverity) = true then
    compactRec { s with recd := { s.recd with nextSeq := s.recd.nextSeq + 1 } } r
    else { s with recd := { s.recd with nextSeq := s.recd.nextSeq + 1 } }) = u
  have kept : u.recd.staging = s.recd.staging ∧ u.recd.frozen = s.recd.frozen ∧ u.recd.nextSeq = s.recd.nextSeq + 1 := by
    subst hs
    split
    · exact compactRec_staging _ _
    · exact ⟨rfl, rfl, rfl⟩
  obtain ⟨staging, froze, next⟩ := kept
  obtain ⟨f, hf⟩ := stageRec_of_room (s := u) r (by rw [staging]; exact room)
  simp only [froze, frozen, Bool.false_eq_true, if_false, hf]
  exact ⟨{ r with rflags := f }, by rw [staging], by rw [← hr], by rw [← hr], by rw [← hr], by rw [← hr], next⟩

theorem event_recorded (s : State) (ev : Nat) (args : List Nat) : Recorded s (event s ev args) ev args := record_recorded _ _ _ _ _

/-- What was recorded from a state with the same recorder, and is still the newest record, was recorded. -/
theorem recorded_congr {s s' t t' : State} {ev : Nat} {args : List Nat} (h : Recorded s t ev args) (e : s'.recd = s.recd)
    (m : v s' K.recordMinSeverity = v s K.recordMinSeverity) (f : t'.recd = t.recd) : Recorded s' t' ev args := by
  unfold Recorded at h ⊢
  rwa [e, m, f]

-- ===== trace items (R408 to R411) =====

theorem pushEntry_onlyEntries (s : State) : OnlyEntries s (pushEntry s) [K.traceLost] := by
  simp only [pushEntry]
  split
  · exact onlyEntries_trans (onlyEntries_of_dict _ rfl) (onlyEntries_bump _ _ _ _)
  · exact onlyEntries_of_dict _ rfl

theorem traceWord_onlyEntries (s : State) (header : Bool) (w : Nat) : OnlyEntries s (traceWord s header w) [K.traceLost] := by
  simp only [traceWord]
  split
  · exact onlyEntries_trans (onlyEntries_of_dict _ rfl) (pushEntry_onlyEntries _)
  · exact onlyEntries_of_dict _ rfl

theorem traceItem_onlyEntries (s : State) (source kind arg : Nat) (ws : List Nat) :
    OnlyEntries s (traceItem s source kind arg ws) [K.traceLost] := by
  unfold traceItem
  split
  · exact onlyEntries_trans (traceWord_onlyEntries _ _ _) (onlyEntries_foldl (fun u w => traceWord_onlyEntries u false w) _ _)
  · exact onlyEntries_refl _ _

theorem traceItem_of_off {s : State} {source : Nat} (kind arg : Nat) (ws : List Nat) (h : bitAt (v s K.traceSources) source = false) :
    traceItem s source kind arg ws = s := by simp only [traceItem, h, Bool.false_eq_true, if_false]

-- ===== completions (R113, R133) =====

theorem cqInterrupt_dict (s : State) (fn qid : Nat) : (cqInterrupt s fn qid).dict = s.dict :=
  (cqInterrupt_from fn qid).keeps.dict rfl

theorem cqInterrupt_lastCqe (s : State) (fn qid : Nat) : (cqInterrupt s fn qid).lastCqe = s.lastCqe :=
  (cqInterrupt_from fn qid).keeps.lastCqe rfl

theorem postCqe_lastCqe (s : State) (fn qid : Nat) (e : Cqe) : (postCqe s fn qid e).lastCqe = s.lastCqe.put fn e := by
  simp only [postCqe]
  split
  · rfl
  · rw [cqInterrupt_lastCqe]

theorem postCqe_dict (s : State) (fn qid : Nat) (e : Cqe) : (postCqe s fn qid e).dict = s.dict := (postCqe_from fn qid e).keeps.dict rfl

theorem histCommand_dict (s : State) (f : Flight) : (histCommand s f).dict = s.dict := (histCommand_from f).keeps.dict rfl

/-- A completion: the time is counted, a trace item written, the command leaves flight, an error is counted, and the entry posted. -/
theorem completeRetry_eq (s : State) (f : Flight) (st : NvStatus) (dw0 dw1 crd : Nat) : ∃ ws u,
    u = dropFlight (traceItem (histCommand s f) 0x10 0x02 f.fn ws) f.seq ∧
    completeRetry s f st dw0 dw1 crd = postCqe (if st.isOk then u else modInst u f.fn (fun i => { i with errorCount := i.errorCount + 1 }))
      f.fn f.cqid ⟨f.sqid, f.cid, st, dw0, dw1, crd⟩ := ⟨_, _, rfl, rfl⟩

theorem completeRetry_onlyEntries (s : State) (f : Flight) (st : NvStatus) (dw0 dw1 crd : Nat) :
    OnlyEntries s (completeRetry s f st dw0 dw1 crd) [K.traceLost] := by
  obtain ⟨ws, u, hu, e⟩ := completeRetry_eq s f st dw0 dw1 crd
  have traced : OnlyEntries s (traceItem (histCommand s f) 0x10 0x02 f.fn ws) [K.traceLost] :=
    onlyEntries_trans (onlyEntries_of_dict _ (histCommand_dict s f)) (traceItem_onlyEntries _ _ _ _ _)
  rw [e, hu]
  refine onlyEntries_trans traced (onlyEntries_of_dict _ ((postCqe_dict ..).trans ?_))
  split <;> rfl

theorem completeRetry_lastCqe (s : State) (f : Flight) (st : NvStatus) (dw0 dw1 crd : Nat) :
    (completeRetry s f st dw0 dw1 crd).lastCqe = s.lastCqe.put f.fn ⟨f.sqid, f.cid, st, dw0, dw1, crd⟩ := by
  obtain ⟨ws, u, hu, e⟩ := completeRetry_eq s f st dw0 dw1 crd
  have before : u.lastCqe = s.lastCqe := by
    rw [hu]
    exact ((traceItem_from ..).keeps.lastCqe rfl).trans ((histCommand_from f).keeps.lastCqe rfl)
  rw [e, postCqe_lastCqe, ← before]
  split <;> rfl

/-- A command in flight is found by its identifiers. -/
theorem flight?_ids {s : State} {fn sqid cid : Nat} {f : Flight} (h : flight? s fn sqid cid = some f) :
    f.fn = fn ∧ f.sqid = sqid ∧ f.cid = cid ∧ f ∈ s.flights := by
  have found := List.find?_some h
  simp only [Bool.and_eq_true, beq_iff_eq] at found
  exact ⟨found.1.1, found.1.2, found.2, List.mem_of_find?_eq_some h⟩

theorem complete_lastCqe (s : State) (c : Cmd) (st : NvStatus) (dw0 : Nat) :
    (complete s c st dw0).lastCqe = s.lastCqe.put c.fn ⟨c.sqid, c.cid, st, dw0, 0, 0⟩ := by
  unfold complete
  cases h : flight? s c.fn c.sqid c.cid with
  | some f =>
    obtain ⟨hfn, hq, hc, -⟩ := flight?_ids h
    simp only [completeFlight, completeRetry_lastCqe, hfn, hq, hc]
  | none => exact postCqe_lastCqe ..

theorem complete_onlyEntries (s : State) (c : Cmd) (st : NvStatus) (dw0 : Nat) : OnlyEntries s (complete s c st dw0) [K.traceLost] := by
  unfold complete
  split
  · exact completeRetry_onlyEntries _ _ _ _ _ _
  · exact onlyEntries_of_dict _ (postCqe_dict ..)

theorem complete_completedDw (s : State) (c : Cmd) (st : NvStatus) (dw0 : Nat) : CompletedDw (complete s c st dw0) c st dw0 := by
  refine ⟨⟨c.sqid, c.cid, st, dw0, 0, 0⟩, ?_, rfl, rfl, rfl, rfl⟩
  rw [complete_lastCqe]
  exact Assoc.get?_put_self ..

theorem completed_of_dw {t : State} {c : Cmd} {st : NvStatus} {dw0 : Nat} (h : CompletedDw t c st dw0) : Completed t c st := by
  obtain ⟨e, he, hq, hc, hs, -⟩ := h
  exact ⟨e, he, hq, hc, hs⟩

theorem complete_completed (s : State) (c : Cmd) (st : NvStatus) (dw0 : Nat) : Completed (complete s c st dw0) c st :=
  completed_of_dw (complete_completedDw ..)

theorem complete_onlyCompleted (s : State) (c : Cmd) (st : NvStatus) (dw0 : Nat) : OnlyCompleted s (complete s c st dw0) :=
  ⟨(complete_from c st dw0).keeps, complete_onlyEntries _ _ _ _⟩

/-- A command that only completes is refused with that status. -/
theorem rejected_of_exec {s : State} {i : Instr} {c : Cmd} {st : NvStatus} {dw0 : Nat} (h : exec i s = .next (complete s c st dw0)) :
    Rejected s i c st := ⟨_, h, complete_completed .., complete_onlyCompleted ..⟩

end Sys2Proof.Effects

/-! One step of the block, and the state after reset. -/
namespace Sys2Proof.Steps
open Sys2Proof Sys2Proof.Machine

/-- With no slew the calendar runs with the anchor time. -/
theorem advance_of_no_slew {s : State} (d : Nat) (h : s.clk.slewNs = 0) :
    (advance s d).clk = { s.clk with nowNs := s.clk.nowNs + d, calNs := s.clk.calNs + d } := by
  have part : min (0 : Int) ((d : Int) / 2000) = 0 := by omega
  have cal : ((s.clk.calNs : Int) + d + 0).toNat = s.clk.calNs + d := by omega
  simp only [advance, h, ge_iff_le, Int.le_refl, if_true, part, cal, Int.sub_zero]

/-- Settles O57: `step` takes the front of the queue; with none waiting it is `advance` by 1 µs. -/
theorem commandsInOrder : Obligations.commands_in_order := by
  refine ⟨fun c rest s => rfl, fun s empty => ?_, fun _ _ => rfl, fun _ _ _ => rfl⟩
  have idle : step s = .next (advance s 1000) := by simp only [step, empty, State.idle]
  refine ⟨_, idle, rfl, rfl, rfl, rfl, fun slew => ?_⟩
  rw [advance_of_no_slew 1000 slew]
  exact ⟨rfl, slew⟩

theorem resetDict_get? (k : Nat) (h : k ≠ K.orderingCode) (h' : k ≠ K.capWriteBuffer) (hA : k ≠ instKey K.queuePairs 0)
    (hB : k ≠ instKey K.queuePairs 1) : Assoc.get? resetDict k = none := by
  rw [resetDict, Assoc.get?_put_ne _ _ hB, Assoc.get?_put_ne _ _ hA, Assoc.get?_put_ne _ _ h', Assoc.get?_put_ne _ _ h]
  rfl

theorem sound_reset : Sound State.reset := by
  constructor <;> decide

/-- Settles O60: the fields of `State.reset`; SUPPLY_NOW_MV has no default in the spec and starts as 0 (log entry 7). -/
theorem resetState : Obligations.reset_state := by
  refine ⟨sound_reset, rfl, rfl, rfl, rfl, rfl, rfl, rfl, rfl, ?_, ?_, rfl, rfl, rfl, rfl, rfl, rfl, rfl, rfl, rfl, rfl, rfl, rfl, rfl, rfl, ?_⟩
  · decide
  · decide
  · exact resetDict_get?

end Sys2Proof.Steps

/-! The check-value units: what a feed, a restore and INIT do to one unit (R219). -/
namespace Sys2Proof.CheckValues
open Sys2Proof Sys2Proof.Machine

theorem feed_of_holder {u : CrcUnit} {agent : Nat} (k x : Nat) (held : u.holder = agent) (h0 : agent ≠ 0) (ha : u.alg ≠ 0) :
    u.feed agent k x = { u with running := algFeed u.alg k u.running x, bytes := satAdd 32 u.bytes k } :=
  if_pos ⟨held, held ▸ h0, ha⟩

theorem restore_of_holder {u : CrcUnit} {agent : Nat} (x y : Nat) (held : u.holder = agent) (h0 : agent ≠ 0) (ha : u.alg ≠ 0) :
    u.restore agent x y = { u with running := (x % 2 ^ 32 + y % 2 ^ 32 * 2 ^ 32) % 2 ^ algWidth u.alg, bytes := 0 } :=
  if_pos ⟨held, held ▸ h0, ha⟩

theorem not_holder {u : CrcUnit} {agent : Nat} (h : u.holder ≠ agent ∨ agent = 0 ∨ u.alg = 0) :
    ¬ (u.holder = agent ∧ u.holder ≠ 0 ∧ u.alg ≠ 0) := by
  rintro ⟨rfl, h0, ha⟩
  rcases h with other | none | off
  · exact other rfl
  · exact h0 none
  · exact ha off

/-- A command that changes one unit: the frame, and the unit after it. -/
theorem unit_changed {s : State} {n : Nat} {u w : CrcUnit} {c : Instr} {f : CrcUnit → CrcUnit} (hu : s.crc.units[n]? = some u)
    (run : exec c s = .next (modUnit s n f)) (after : f u = w) :
    ∃ t, exec c s = .next t ∧ OnlyUnit s t n ∧ t.crc.units[n]? = some w :=
  ⟨_, run, onlyUnit_modUnit .., by rw [modUnit_unit hu, after]⟩

/-- Settles O35. That INIT asks for no holder is the model's choice (log entry 15). -/
theorem crcFeeds : Obligations.crc_feeds := by
  intro s n agent x y u hu
  refine ⟨fun held h0 ha => ⟨?_, ?_, ?_, ?_⟩, fun other c hc => ?_, unit_changed hu rfl rfl⟩
  · exact unit_changed hu (exec_feedB ..) (feed_of_holder 1 x held h0 ha)
  · exact unit_changed hu (exec_feedH ..) (feed_of_holder 2 x held h0 ha)
  · exact unit_changed hu (exec_feedW ..) (feed_of_holder 4 x held h0 ha)
  · exact unit_changed hu rfl (restore_of_holder x y held h0 ha)
  · rcases hc with rfl | rfl | rfl | rfl
    · exact unit_changed hu (exec_feedB ..) (if_neg (not_holder other))
    · exact unit_changed hu (exec_feedH ..) (if_neg (not_holder other))
    · exact unit_changed hu (exec_feedW ..) (if_neg (not_holder other))
    · exact unit_changed hu rfl (if_neg (not_holder other))

end Sys2Proof.CheckValues

/-! The time base, the speed monitors and the die-to-die links (chapter 01), and the states of the throttle sequence (R366). -/
namespace Sys2Proof.TimeAndSpeed
open Sys2Proof Sys2Proof.Machine Sys2Proof.Effects Sys2Proof.Stores

-- ===== the time base (R31, R32) =====

/-- The source after a switch: the policy applied to what oscillates now. -/
def switched (s : State) (c a b : Bool) : State := timeBaseUpdate { s with clk := { s.clk with crystalOk := c, refAOk := a, refBOk := b } }

theorem switched_source_automatic {s : State} (c a b : Bool) (auto : v s K.timeBaseSelect = 0) :
    (switched s c a b).clk.source = if c then 1 else if a then 2 else if b then 3 else 4 := by
  have sel : v { s with clk := { s.clk with crystalOk := c, refAOk := a, refBOk := b } } K.timeBaseSelect = 0 := auto
  simp only [switched, timeBaseUpdate, timeBasePick, sel, if_true, if_false, Nat.reduceEqDiff]

theorem timeBaseSwitch_clk (s : State) (c a b : Bool) : (timeBaseSwitch s c a b).clk = (switched s c a b).clk := by
  simp only [timeBaseSwitch]
  split
  · rfl
  · exact (event_from ..).keeps.clk rfl

theorem timeBaseSwitch_of_same {s : State} {c a b : Bool} (h : (switched s c a b).clk.source = s.clk.source) :
    timeBaseSwitch s c a b = switched s c a b := if_pos h

theorem timeBaseSwitch_of_change {s : State} {c a b : Bool} (h : (switched s c a b).clk.source ≠ s.clk.source) :
    timeBaseSwitch s c a b = event (switched s c a b) Ev.timeBaseSwitch [s.clk.source, (switched s c a b).clk.source] := if_neg h

theorem timeBaseSwitch_onlyEntries (s : State) (c a b : Bool) : OnlyEntries s (timeBaseSwitch s c a b) recordKeys := by
  by_cases h : (switched s c a b).clk.source = s.clk.source
  · rw [timeBaseSwitch_of_same h]
    exact onlyEntries_of_dict _ rfl
  · rw [timeBaseSwitch_of_change h]
    exact onlyEntries_trans (onlyEntries_of_dict _ rfl) (event_onlyEntries _ _ _)

-- ===== the throttle sequence =====

theorem throttleTrace_keeps (s : State) (was n : Nat) : Keeps 514 s (throttleTrace s was n) := (throttleTrace_from was n).keeps

theorem throttleTrace_onlyEntries (s : State) (was n : Nat) : OnlyEntries s (throttleTrace s was n) [K.traceLost] := by
  unfold throttleTrace
  split
  · exact onlyEntries_refl _ _
  · exact traceItem_onlyEntries _ _ _ _ _

/-- The record of the sequence's state, which a thermal hold keeps aside. -/
def stateTo (s : State) (x : Nat) : Thermal := if s.thermal.state = 4 then { s.thermal with before := x } else { s.thermal with state := x }

theorem throttleTo_thermal (s : State) (x n : Nat) : (throttleTo s x n).thermal = stateTo s x :=
  (throttleTrace_keeps ..).thermal rfl

theorem throttleAt_throttleTo {x : Nat} (s : State) (n : Nat) (h : x ≠ 4) : throttleAt (throttleTo s x n) = x := by
  simp only [throttleAt, throttleTo_thermal, stateTo]
  split <;> rfl

theorem throttleTo_keeps (s : State) (x n : Nat) : Keeps (514 + 8589934592) s (throttleTo s x n) := (throttleTo_from x n).keeps

theorem throttleTo_onlyEntries (s : State) (x n : Nat) : OnlyEntries s (throttleTo s x n) [K.traceLost] :=
  onlyEntries_trans (onlyEntries_of_dict _ rfl) (throttleTrace_onlyEntries _ _ _)

theorem throttleRequest_thermal (s : State) (cause reading : Nat) :
    (throttleRequest s cause reading).thermal = stateTo { s with thermal := { s.thermal with cause := cause, critical := true } } 1 :=
  ((event_from ..).keeps.thermal rfl).trans (((aenPfs_from _).keeps.thermal rfl).trans (throttleTo_thermal ..))

/-- Step 1 of the sequence: the request stands, for its cause. -/
theorem throttleRequest_stands (s : State) (cause reading : Nat) : throttleAt (throttleRequest s cause reading) = 1 ∧
    (throttleRequest s cause reading).thermal.cause = cause ∧ (throttleRequest s cause reading).thermal.critical = true := by
  simp only [throttleAt, throttleRequest_thermal, stateTo]
  split
  · exact ⟨rfl, rfl, rfl⟩
  · exact ⟨rfl, rfl, rfl⟩

theorem enforce_eq (s : State) (limit : Nat) : ∃ u, OnlyEntries s u [K.throttleEnforcements] ∧ u = { s with dict := u.dict } ∧
    enforce s limit =
      throttleTo { u with thermal := { u.thermal with limit := limit, critical := true }, power := { u.power with ebbThrottle := true } } 2 s.thermal.cause := by
  by_cases h : throttleAt s = 2
  · exact ⟨s, onlyEntries_refl _ _, rfl, by simp only [enforce, h, if_true]⟩
  · exact ⟨bump32 s K.throttleEnforcements, onlyEntries_bump _ _ _ _, rfl, by simp only [enforce, h, if_false]; rfl⟩

theorem enforce_power (s : State) (limit : Nat) : (enforce s limit).power = { s.power with ebbThrottle := true } := by
  obtain ⟨u, -, hu, e⟩ := enforce_eq s limit
  rw [e, (throttleTo_keeps ..).power rfl, hu]

/-- The sequence enforces, for the cause it had. -/
theorem enforce_enforces (s : State) (limit : Nat) : Enforces (enforce s limit) s.thermal.cause limit := by
  obtain ⟨u, -, hu, e⟩ := enforce_eq s limit
  have same : u.thermal = s.thermal := by rw [hu]
  refine ⟨?_, ?_, ?_, ?_, by rw [enforce_power]⟩
  · rw [e]
    exact throttleAt_throttleTo _ _ (by decide)
  all_goals
    rw [e, throttleTo_thermal, stateTo, same]
    split <;> rfl

-- ===== speed monitors (R29, R30) =====

theorem throttleCross_slow (s : State) (cause reading : Nat) : (throttleCross s cause reading).power.slow = s.power.slow := by
  unfold throttleCross
  split
  · exact congrArg Power.slow (((event_from ..).keeps.power rfl).trans (((aenPfs_from _).keeps.power rfl).trans ((throttleTo_keeps ..).power rfl)))
  · split
    · rw [enforce_power]
    · rfl

/-- A domain that is too slow: the event, and the mark. -/
def markSlow (s : State) (dom r : Nat) : State :=
  { event s Ev.speedLow [dom, r] with power := { (event s Ev.speedLow [dom, r]).power with slow := dom :: (event s Ev.speedLow [dom, r]).power.slow.filter (· != dom) } }

theorem speedLow_eq {s : State} {dom r : Nat} (on : domainOn s dom = true) (low : r < 1024) (mv : v s (unitKey K.coreMv (domainRail dom)) = 850) :
    speedLow s dom r = throttleCross (markSlow s dom r) 0xFE r := by
  simp only [speedLow, on, low, mv, decide_true, beq_self_eq_true, Bool.and_self, if_true]
  rfl

theorem markSlow_thermal (s : State) (dom r : Nat) : (markSlow s dom r).thermal = s.thermal := (event_from ..).keeps.thermal rfl

theorem markSlow_slow (s : State) (dom r : Nat) : (markSlow s dom r).power.slow = dom :: s.power.slow.filter (· != dom) := by
  have same : (event s Ev.speedLow [dom, r]).power = s.power := (event_from ..).keeps.power rfl
  simp only [markSlow, same]

theorem domain_le {s : State} {dom : Nat} (h : domainOn s dom = true) : dom ≤ 4 := by
  simp only [domainOn, Bool.and_eq_true, decide_eq_true_eq] at h
  exact h.1

/-- The entry of a domain's reading. -/
def speedKey (dom : Nat) : Nat := if dom = 4 then K.speedHub else unitKey K.speedBay dom

theorem speedKey_ne {dom k : Nat} (h : dom ≤ 4) (hk : k = K.ebbSpeed ∨ k = K.speedGuard ∨ k = unitKey K.coreMv (domainRail dom)) :
    k ≠ speedKey dom := by
  have apart : ∀ d < 5, K.ebbSpeed ≠ speedKey d ∧ K.speedGuard ≠ speedKey d ∧ unitKey K.coreMv (domainRail d) ≠ speedKey d := by decide
  obtain ⟨ebb, guard, core⟩ := apart dom (by omega)
  rcases hk with rfl | rfl | rfl
  · exact ebb
  · exact guard
  · exact core

/-- A reading is stored, and clears the mark of a slow domain when it is at 1,024 or above. -/
def stored (s : State) (dom r : Nat) : State :=
  let u := setV s (speedKey dom) (Nat.min r 4095)
  if r ≥ 1024 then { u with power := { u.power with slow := u.power.slow.filter (· != dom) } } else u

theorem stored_eq (s : State) (dom r : Nat) :
    stored s dom r = { s with dict := (stored s dom r).dict, power := { s.power with slow := (stored s dom r).power.slow } } := by
  simp only [stored]
  split <;> rfl

theorem v_stored (s : State) (dom r k : Nat) : v (stored s dom r) k = if k = speedKey dom then Nat.min r 4095 else v s k := by
  simp only [stored]
  split
  · exact v_setV ..
  · exact v_setV ..

theorem speedHeld_stored {s : State} {dom : Nat} (r : Nat) (h : dom ≤ 4) : speedHeld (stored s dom r) = speedHeld s := by
  have state : (stored s dom r).power.state = s.power.state := by rw [stored_eq]
  simp only [speedHeld, state, v_stored, speedKey_ne h (.inl rfl), speedKey_ne h (.inr (.inl rfl)), if_false]

/-- A step up of 5 mV, at most to 850 mV. -/
def raised (s : State) (dom : Nat) : Nat := Nat.min 850 (v s (unitKey K.coreMv (domainRail dom)) + 5)

theorem speedSample_eq {s : State} {dom : Nat} (r : Nat) (on : domainOn s dom = true) : speedSample s dom r =
    if r < speedHeld s then
      setV { stored s dom r with power := { (stored s dom r).power with request := setNth (stored s dom r).power.request (domainRail dom) (raised s dom) } }
        (unitKey K.coreMv (domainRail dom)) (raised s dom)
    else stored s dom r := by
  have h := domain_le on
  have mv : v (stored s dom r) (unitKey K.coreMv (domainRail dom)) = v s (unitKey K.coreMv (domainRail dom)) := by
    rw [v_stored, if_neg (speedKey_ne h (.inr (.inr rfl)))]
  rw [← speedHeld_stored r h, raised, ← mv]
  simp only [speedSample, on, Bool.not_true, Bool.false_eq_true, if_false]
  rfl

/-- Settles O2. -/
theorem timeBaseAndSpeed : Obligations.time_base_and_speed := by
  intro s
  refine ⟨fun c a b => ⟨timeBaseSwitch s c a b, rfl, ?_, ?_, ?_, ?_, ?_, timeBaseSwitch_onlyEntries _ _ _ _⟩,
    fun dom r on => ⟨speedSample s dom r, rfl, ?_, ?_, ?_, ?_⟩, fun dom r on low mv => ⟨settle (speedLow s dom r), rfl, ?_⟩⟩
  · rw [timeBaseSwitch_clk]
    rfl
  · rw [timeBaseSwitch_clk]
    exact switched_source_automatic c a b
  · rw [timeBaseSwitch_clk]
    intro same
    rw [timeBaseSwitch_of_same same]
    exact ⟨rfl, rfl⟩
  · rw [timeBaseSwitch_clk]
    intro change
    rw [timeBaseSwitch_of_change change]
    exact recorded_congr (event_recorded (switched s c a b) _ _) rfl rfl rfl
  · exact (timeBaseSwitch_from ..).keeps
  · show v (speedSample s dom r) (speedKey dom) = _
    rw [speedSample_eq r on]
    have apart := (speedKey_ne (domain_le on) (.inr (.inr rfl))).symm
    split
    · rw [v_setV_ne _ _ apart]
      exact (v_stored ..).trans (if_pos rfl)
    · exact (v_stored ..).trans (if_pos rfl)
  · have apart := speedKey_ne (domain_le on) (.inr (.inr rfl))
    rw [speedSample_eq r on]
    split
    · exact v_setV_self ..
    · exact (v_stored ..).trans (if_neg apart)
  · intro k hk
    obtain ⟨hspeed, hmv⟩ := not_or.1 (mt List.mem_cons.2 hk)
    have kept : v (stored s dom r) k = v s k := (v_stored ..).trans (if_neg hspeed)
    rw [speedSample_eq r on]
    split
    · rw [v_setV_ne _ _ (List.ne_of_not_mem_cons hmv)]
      exact kept
    · exact kept
  · rw [speedSample_eq r on, stored_eq]
    split <;> rfl
  · have frame := (settle_from (s := speedLow s dom r)).keeps
    have cross := (throttleCross_from (s := markSlow s dom r) 0xFE r).keeps
    have mark : Keeps 4294967554 s (markSlow s dom r) := (From.set_power ((event_from ..).step (From.refl _ _) rfl) _ rfl).keeps
    simp only [throttleAt, frame.thermal rfl, frame.power rfl, frame.clk rfl, frame.staged rfl, frame.sqs rfl, frame.cf rfl, frame.dram rfl]
    rw [speedLow_eq on low mv]
    refine ⟨by rw [throttleCross_slow, markSlow_slow], fun idle => ?_, fun asked => ?_, (cross.clk rfl).trans (mark.clk rfl),
      (cross.staged rfl).trans (mark.staged rfl), (cross.sqs rfl).trans (mark.sqs rfl), (cross.cf rfl).trans (mark.cf rfl),
      (cross.dram rfl).trans (mark.dram rfl)⟩
    · have at0 : throttleAt (markSlow s dom r) = 0 := by rw [throttleAt, markSlow_thermal, idle]
      rw [throttleCross, if_pos at0]
      exact throttleRequest_stands ..
    · have at1 : throttleAt (markSlow s dom r) = 1 := by rw [throttleAt, markSlow_thermal, asked]
      rw [throttleCross, if_neg (by omega), if_neg (by omega), markSlow_thermal]

end Sys2Proof.TimeAndSpeed

/-! The die-to-die links and the Strands (R18, R19). -/
namespace Sys2Proof.LinksAndStrands
open Sys2Proof Sys2Proof.Machine Sys2Proof.Effects Sys2Proof.Stores

-- ===== what a transfer carried (R18) =====

theorem heldLost_mapPage (s : State) (id : Nat) (d : Bool) : id ∉ (heldLost s 8 (.mapPage id d)).xlat.cached ∧
    id ∈ (heldLost s 8 (.mapPage id d)).xlat.cold ∧ id ∉ (heldLost s 8 (.mapPage id d)).xlat.dirty ∧
    (d = true → id ∈ (heldLost s 8 (.mapPage id d)).xlat.journal) := by
  have gone (l : List Nat) : id ∉ l.filter (· != id) := fun h => by simpa using (List.mem_filter.1 h).2
  refine ⟨gone _, ?_, gone _, fun hd => ?_⟩
  · simp only [heldLost]
    split
    · next h => exact List.contains_iff_mem.1 h
    · exact List.mem_append_right _ List.mem_cons_self
  · simp only [heldLost, hd, Bool.true_and, Bool.not_eq_true']
    split
    · exact List.mem_append_right _ List.mem_cons_self
    · next h => exact List.contains_iff_mem.1 (by simpa using h)

theorem heldLost_mirrorRegion (s : State) (q : Nat) : ∀ r ∈ (heldLost s 8 (.mirrorRegion q)).pair.recv, r.seq = q → r.good = false := by
  intro r hr
  obtain ⟨x, -, hx⟩ := List.mem_map.1 hr
  subst hx
  split
  · exact fun _ => rfl
  · next h => exact fun e => absurd e h

/-- The give-up of a transfer changes no part of the clock, the staging, the queues, the supplies, the code flash or the DRAM. -/
theorem giveUp_keeps (s : State) (l m : Nat) (h : Held) : Keeps 6633171846978 s (heldLost (event s Ev.dieLinkGiveup [l, m]) 8 h) :=
  ((heldLost_from 8 h).step ((event_from ..).step (From.refl _ _) rfl) rfl).keeps

-- ===== Strands (R19, R257, R282) =====

/-- An offset entry of a Strand that is gated keeps its offsets and loses its counters. -/
def gatedOff (x k : Nat) (e : OffEnt) : OffEnt := if k / 128 / 256 = x then { e with s := 0, n1 := 0, e10 := 0, e01 := 0 } else e

theorem strandGate_of_idle {s : State} {x : Nat} (hx : x < 8) (up : strandDown s x = false) (idle : strandIdle s x = true)
    (flood : s.power.state = 0 → strandBounded s x = false) :
    strandGate s x = { s with nand := { s.nand with gated := s.nand.gated ++ [x], offs := s.nand.offs.mapVal (gatedOff x) } } := by
  have small : decide (x ≥ 8) = false := decide_eq_false (by omega)
  have bounded : (s.power.state == 0 && strandBounded s x) = false := by
    by_cases h : s.power.state = 0
    · rw [flood h, Bool.and_false]
    · rw [beq_eq_false_iff_ne.2 h, Bool.false_and]
  simp only [strandGate, small, up, idle, bounded, Bool.not_true, Bool.or_self, Bool.false_eq_true, if_false]
  rfl

theorem strandGate_of_busy {s : State} {x : Nat} (busy : strandIdle s x = false) : strandGate s x = s := by
  simp only [strandGate, busy, Bool.not_false, Bool.or_true, Bool.true_or, if_true]

theorem strandWake_of_gated {s : State} {x : Nat} (gated : s.nand.gated.contains x = true) (owned : strandOwned s x = true)
    (awake : s.power.state < 2) : strandWake s x = { s with nand := { s.nand with gated := s.nand.gated.filter (· != x) } } := by
  simp only [strandWake, gated, owned, awake, decide_true, Bool.and_self, if_true]

/-- Settles O3. -/
theorem dieLinksAndStrands : Obligations.die_links_and_strands := by
  intro s
  refine ⟨fun l m h few => ?_, fun l m h many => ?_, fun x hx up idle flood => ?_, fun x busy => ?_, fun x gated owned awake => ?_⟩
  · exact next_congr (if_pos few)
  · have frame := giveUp_keeps s l m h
    refine ⟨heldLost (event s Ev.dieLinkGiveup [l, m]) 8 h, next_congr (if_neg (by omega)), ?_, ?_, ?_, ?_, frame.clk rfl, frame.staged rfl,
      frame.sqs rfl, frame.power rfl, frame.cf rfl, frame.dram rfl⟩
    · rintro rfl
      exact event_recorded s _ _
    · rintro fn rfl
      exact congrArg Inst.cfs (inst_modInst_self ..)
    · rintro id d rfl
      exact heldLost_mapPage _ id d
    · rintro q rfl
      exact heldLost_mirrorRegion _ q
  · have eq := strandGate_of_idle hx up idle flood
    refine ⟨_, next_congr eq, rfl, ?_, fun k hk => ?_, fun k e hk he => ?_, rfl⟩
    · have listed : (s.nand.gated ++ [x]).contains x = true := List.contains_iff_mem.2 (List.mem_append_right _ List.mem_cons_self)
      simp only [strandDown, listed, Bool.or_true]
    · show (s.nand.offs.mapVal (gatedOff x)).get? k = _
      rw [get?_mapVal]
      cases s.nand.offs.get? k with
      | none => rfl
      | some e => exact congrArg some (if_neg hk)
    · show (s.nand.offs.mapVal (gatedOff x)).get? k = _
      rw [get?_mapVal, he]
      exact congrArg some (if_pos hk)
  · exact next_congr (strandGate_of_busy busy)
  · exact ⟨_, next_congr (strandWake_of_gated gated owned awake), rfl, fun h => by simpa using (List.mem_filter.1 h).2⟩

end Sys2Proof.LinksAndStrands

/-! The answers of the dictionary's engine: what a response says, and what answering leaves as it is (R42 to R45, R54, R61). -/
namespace Sys2Proof.Answers
open Sys2Proof Sys2Proof.Machine Sys2Proof.Effects Sys2Proof.Stores

-- ===== one answer =====

/-- A request is counted, and where it is refused its refusal too. -/
def counted (s : State) (idx sub : Nat) (a : Ans) : State :=
  let u := bump32 s K.mpRequests
  if a.st = 0 then u else setV (bump32 u K.mpRefused) K.mpLastRefusal (a.st * 2 ^ 24 + sub % 256 * 2 ^ 16 + idx % 65536)

/-- The response of an answer. -/
def respOf (s : State) (op tag : Nat) (a : Ans) (version : Nat) (value : Bytes) : Resp :=
  ⟨op, a.st, tag, a.flags, a.tide.getD s.clk.tide, version, value⟩

/-- The state with a response to a path, its request counted. -/
def responded (s : State) (path : Path) (op tag idx sub : Nat) (a : Ans) (version : Nat) (value : Bytes) : State :=
  counted { s with miowa := { s.miowa with resp := s.miowa.resp.put (pathCode path) (respOf s op tag a version value) } } idx sub a

theorem counted_eq (s : State) (idx sub : Nat) (a : Ans) : counted s idx sub a = { s with dict := (counted s idx sub a).dict } := by
  simp only [counted]
  split <;> rfl

theorem counted_onlyEntries (s : State) (idx sub : Nat) (a : Ans) : OnlyEntries s (counted s idx sub a) answerKeys := by
  have requests : OnlyEntries s (bump32 s K.mpRequests) answerKeys := onlyEntries_mono (onlyEntries_bump _ _ _ _) (by decide)
  simp only [counted]
  split
  · exact requests
  · refine onlyEntries_trans requests (onlyEntries_trans (onlyEntries_mono (onlyEntries_bump _ K.mpRefused 32 1) (by decide)) ?_)
    exact onlyEntries_mono (onlyEntries_setV _ K.mpLastRefusal _) (by decide)

/-- An answer: the response; and in band the data of a read, and the completion of the carrying command. -/
theorem respond_cases (s : State) (path : Path) (op tag cid idx sub : Nat) (a : Ans) (version : Nat) (value : Bytes) : ∃ r,
    r = responded s path op tag idx sub a version value ∧
    ((outOfBand path = true ∧ respond s path op tag cid idx sub a version value = r) ∨
      ∃ n u st dw0, path = .fn n ∧ u = { r with hostOut := u.hostOut } ∧
        respond s path op tag cid idx sub a version value = complete u ⟨n, 0, cid, 0, false⟩ st dw0) := by
  refine ⟨_, rfl, ?_⟩
  cases path with
  | fn n =>
    right
    by_cases read : op = 1 ∨ op = 3
    · refine ⟨n, dmaOut (responded s (.fn n) op tag idx sub a version value) n ((respOf s op tag a version value).bytes.take 4096),
        mpNvme a.st, a.st, rfl, rfl, ?_⟩
      simp only [respond, read, if_true]
      rfl
    · refine ⟨n, responded s (.fn n) op tag idx sub a version value, mpNvme a.st, mpDw0 a.st (a.tide.getD s.clk.tide), rfl, rfl, ?_⟩
      simp only [respond, read, if_false]
      rfl
  | i3c0 | i3c1 | vdmA | vdmB => exact .inl ⟨rfl, rfl⟩

theorem respond_oob {path : Path} (h : outOfBand path = true) (s : State) (op tag cid idx sub : Nat) (a : Ans) (version : Nat) (value : Bytes) :
    respond s path op tag cid idx sub a version value = responded s path op tag idx sub a version value := by
  obtain ⟨r, hr, ⟨-, e⟩ | ⟨n, -, -, -, hp, -⟩⟩ := respond_cases s path op tag cid idx sub a version value
  · rw [e, hr]
  · rw [hp] at h
    cases h

theorem respond_resp (s : State) (path : Path) (op tag cid idx sub : Nat) (a : Ans) (version : Nat) (value : Bytes) :
    (respond s path op tag cid idx sub a version value).miowa =
      { s.miowa with resp := s.miowa.resp.put (pathCode path) (respOf s op tag a version value) } := by
  obtain ⟨r, hr, ⟨-, e⟩ | ⟨n, u, st, dw0, -, hu, e⟩⟩ := respond_cases s path op tag cid idx sub a version value
  · rw [e, hr, responded, counted_eq]
  · rw [e, (complete_from ..).keeps.miowa rfl, hu, hr, responded, counted_eq]

theorem respond_onlyEntries (s : State) (path : Path) (op tag cid idx sub : Nat) (a : Ans) (version : Nat) (value : Bytes) :
    OnlyEntries s (respond s path op tag cid idx sub a version value) answerKeys := by
  obtain ⟨r, hr, h⟩ := respond_cases s path op tag cid idx sub a version value
  have first : OnlyEntries s r answerKeys := by
    rw [hr]
    exact onlyEntries_trans (onlyEntries_of_dict _ rfl) (counted_onlyEntries _ _ _ _)
  obtain ⟨-, e⟩ | ⟨n, u, st, dw0, -, hu, e⟩ := h
  · rwa [e]
  · have same : u.dict = r.dict := by rw [hu]
    rw [e]
    refine onlyEntries_trans (onlyEntries_trans first (onlyEntries_of_dict _ same)) ?_
    exact onlyEntries_mono (complete_onlyEntries _ _ _ _) (by decide)

theorem respond_answered (s : State) (path : Path) (op tag cid idx sub : Nat) (a : Ans) (version : Nat) (value : Bytes) :
    Answered (respond s path op tag cid idx sub a version value) path op tag a.st value :=
  ⟨_, by rw [respond_resp]; exact Assoc.get?_put_self .., rfl, rfl, rfl, rfl⟩

/-- Answering changes the response, its counters and, in band, what a completion changes. -/
theorem respond_onlyAnswered (s : State) (path : Path) (op tag cid idx sub : Nat) (a : Ans) (version : Nat) (value : Bytes) :
    OnlyAnswered s (respond s path op tag cid idx sub a version value) [] := by
  refine ⟨?_, respond_onlyEntries s path op tag cid idx sub a version value⟩
  have frame := (respond_from (s := s) path op tag cid idx sub a version value).keeps
  have miowa := respond_resp s path op tag cid idx sub a version value
  generalize respond s path op tag cid idx sub a version value = t at frame miowa ⊢
  refine Eq.trans frame ?_
  have same : t.miowa = { s.miowa with resp := t.miowa.resp } := by rw [miowa]
  simp only [merge, ← same]
  rfl

theorem onlyAnswered_refl (s : State) (ks : List Nat) : OnlyAnswered s s ks := ⟨rfl, onlyEntries_refl _ _⟩

theorem onlyAnswered_mono {s t : State} {ks ls : List Nat} (h : OnlyAnswered s t ks) (sub : ks ⊆ ls) : OnlyAnswered s t ls :=
  ⟨h.1, onlyEntries_mono h.2 (List.append_subset.2 ⟨fun _ m => List.mem_append_left _ (sub m), List.subset_append_right ..⟩)⟩

theorem onlyAnswered_trans {s t u : State} {ks : List Nat} (h : OnlyAnswered s t ks) (k : OnlyAnswered t u ks) : OnlyAnswered s u ks := by
  obtain ⟨ht, hv⟩ := h
  obtain ⟨hu, kv⟩ := k
  refine ⟨?_, onlyEntries_trans hv kv⟩
  rw [hu, ht]

/-- A change of entries alone. -/
theorem onlyAnswered_of_entries {s t : State} {ks : List Nat} (e : t = { s with dict := t.dict }) (h : OnlyEntries s t ks) :
    OnlyAnswered s t ks := by
  refine ⟨?_, onlyEntries_mono h (List.subset_append_left ..)⟩
  rw [e]

-- ===== the answers of the engine =====

theorem reply_answered (s : State) (q : MiowaReq) (key : Nat) (a : Ans) (value : Bytes) :
    Answered (reply s q key a value) q.path q.op q.tag a.st value := respond_answered ..

theorem reply_onlyAnswered (s : State) (q : MiowaReq) (key : Nat) (a : Ans) (value : Bytes) : OnlyAnswered s (reply s q key a value) [] :=
  respond_onlyAnswered ..

theorem reply_onlyEntries (s : State) (q : MiowaReq) (key : Nat) (a : Ans) (value : Bytes) :
    OnlyEntries s (reply s q key a value) answerKeys := respond_onlyEntries _ _ _ _ _ _ _ _ _ _

/-- The response of a reply, whole. -/
theorem reply_resp (s : State) (q : MiowaReq) (key : Nat) (a : Ans) (value : Bytes) :
    (reply s q key a value).miowa.resp.get? (pathCode q.path) = some (respOf s q.op q.tag a (versionOf s key) value) := by
  rw [reply, respond_resp]
  exact Assoc.get?_put_self ..

theorem refuse_answered (s : State) (q : MiowaReq) (code : Nat) : Answered (refuse s q code) q.path q.op q.tag code [] := respond_answered ..

theorem refuse_onlyAnswered (s : State) (q : MiowaReq) (code : Nat) : OnlyAnswered s (refuse s q code) [] := respond_onlyAnswered ..

-- ===== an entry with a row of its own =====

theorem accessWrite_of_ok {s : State} {a : Access} {idx sub x : Nat} {r : Row} {key : Nat} (f : State → Nat → Ans × State)
    (h : lookup s a.path idx sub a.inst = .ok (r, key)) (c : r.check x = 0) : accessWrite s a idx sub x f =
      respond (f s (key % 2048 - 1)).2 a.path 2 a.tag a.cid idx sub (f s (key % 2048 - 1)).1 0 [] := by
  simp only [accessWrite, h, c, ne_eq, not_true_eq_false, if_false]

theorem accessBytes_of_ok {s : State} {a : Access} {idx sub len : Nat} {b : Bytes} {r : Row} {key : Nat} (f : State → Nat → Ans × State)
    (row : rowOf idx sub = some r) (h : lookup s a.path idx sub a.inst = .ok (r, key)) (l : len = 0 ∨ b.length = len) :
    accessBytes s a idx sub len b f =
      respond (f s (key % 2048 - 1)).2 a.path (if r.ty = 14 then 5 else 2) a.tag a.cid idx sub (f s (key % 2048 - 1)).1 0 [] := by
  have fits : ¬ (len ≠ 0 ∧ b.length ≠ len) := by
    rintro ⟨h0, hl⟩
    rcases l with none | same
    · exact h0 none
    · exact hl same
  simp only [accessBytes, row, h, fits, if_false]

theorem accessRead_of_ok {s : State} {a : Access} {idx sub : Nat} {r : Row} {key : Nat} (f : State → Nat → Bytes × State)
    (h : lookup s a.path idx sub a.inst = .ok (r, key)) : accessRead s a idx sub f =
      respond (f s (key % 2048 - 1)).2 a.path 1 a.tag a.cid idx sub (.code 0) 0 (f s (key % 2048 - 1)).1 := by
  simp only [accessRead, h]

/-- What a lookup finds is the row of the entry, and its key. -/
theorem lookup_ok {s : State} {p : Path} {idx sub field : Nat} {r : Row} {key : Nat} (h : lookup s p idx sub field = .ok (r, key)) :
    rowOf idx sub = some r ∧ ∃ i, selectInst s r p field = .ok i ∧ key = entryKey idx sub i := by
  unfold lookup at h
  split at h
  · cases h
  · split at h
    · cases h
    · next row =>
      split at h
      · cases h
      · next i sel =>
        split at h
        · cases h
        · cases h
          exact ⟨row, i, sel, rfl⟩

end Sys2Proof.Answers

/-! Requests of the dictionary's engine: the checks before an entry, reads, and what a refusal leaves (R42 to R47, R53). -/
namespace Sys2Proof.Requests
open Sys2Proof Sys2Proof.Machine Sys2Proof.Effects Sys2Proof.Stores Sys2Proof.Answers

/-- `c` carries the request `q` under the opcode its row names. -/
def Carries (c : Instr) (q : MiowaReq) : Prop :=
  c = .get q ∧ q.op = 1 ∨ c = .set q ∧ q.op = 2 ∨ c = .describe q ∧ q.op = 3 ∨ c = .segRead q ∧ q.op = 4 ∨
    c = .segWrite q ∧ q.op = 5 ∨ c = .segAbort q ∧ q.op = 6

theorem asOp_of_op {k : Nat} {q : MiowaReq} (h : q.op = k) : asOp k q = q := by
  subst h
  exact ite_self _

theorem exec_carries {c : Instr} {q : MiowaReq} (h : Carries c q) (s : State) : exec c s = .next (serve s q) := by
  rcases h with ⟨rfl, op⟩ | ⟨rfl, op⟩ | ⟨rfl, op⟩ | ⟨rfl, op⟩ | ⟨rfl, op⟩ | ⟨rfl, op⟩
  all_goals exact next_congr (congrArg (serve s) (asOp_of_op op))

-- ===== the checks before the entry =====

/-- A request that was neither dropped nor answered in its carrier goes on to the header's check. -/
theorem serve_of_checked {s : State} {q : MiowaReq} (crc : outOfBand q.path = true → q.check = crc32c (MiowaReq.bytes q))
    (save : outOfBand q.path = false → q.saveSel = 0) : serve s q =
      if headCheck q ≠ 0 then refuse s q (headCheck q)
      else if notNow s q then refuse s q 0x01
      else match lookup s q.path q.index q.sub q.inst with
        | .error e => refuse s q e
        | .ok (r, key) => if !opFits r q.op then reply s q key (.code 0x02) [] else serveEntry s q r key := by
  have noDrop : (outOfBand q.path && q.check != crc32c (MiowaReq.bytes q)) = false := by
    cases h : outOfBand q.path with
    | false => rfl
    | true => rw [crc h, bne_self_eq_false, Bool.and_false]
  have noSave : (!outOfBand q.path && q.saveSel != 0) = false := by
    cases h : outOfBand q.path with
    | true => rfl
    | false => rw [save h, bne_self_eq_false, Bool.and_false]
  unfold serve
  rw [noDrop, noSave]
  rfl

theorem serve_of_accepted {s : State} {q : MiowaReq} {r : Row} {key : Nat} (h : Accepted s q r key) : serve s q = serveEntry s q r key := by
  obtain ⟨crc, save, head, now, found, fits⟩ := h
  rw [serve_of_checked crc save, if_neg (Classical.not_not.2 head), now, found]
  simp only [fits, Bool.not_true, Bool.false_eq_true, if_false]

/-- A request that is answered as refused changes nothing but the answer's own bookkeeping. -/
theorem refused_of_reply {s : State} {c : Instr} {q : MiowaReq} {key code : Nat} (run : exec c s = .next (reply s q key (.code code) [])) :
    Refused s c q code := ⟨_, run, reply_answered .., reply_onlyAnswered ..⟩

theorem refused_of_refuse {s : State} {c : Instr} {q : MiowaReq} {code : Nat} (run : exec c s = .next (refuse s q code)) :
    Refused s c q code := ⟨_, run, refuse_answered .., refuse_onlyAnswered ..⟩

-- ===== GET and DESCRIBE =====

theorem serveEntry_get {s : State} {q : MiowaReq} (r : Row) (key : Nat) (op : q.op = 1) : serveEntry s q r key = getEntry s q r key :=
  if_pos op

theorem serveEntry_set {s : State} {q : MiowaReq} (r : Row) (key : Nat) (op : q.op = 2) : serveEntry s q r key = setEntry s q r key := by
  simp only [serveEntry, op, Nat.reduceEqDiff, if_false, if_true]

theorem serveEntry_describe {s : State} {q : MiowaReq} (r : Row) (key : Nat) (op : q.op = 3) :
    serveEntry s q r key = describeEntry s q r key := by
  simp only [serveEntry, op, Nat.reduceEqDiff, if_false, if_true]

/-- An RC entry is cleared by the read that shows it. -/
def cleared (s : State) (r : Row) (key : Nat) : State := if r.acc = 7 then setV s key 0 else s

theorem cleared_onlyAnswered (s : State) (r : Row) (key : Nat) : OnlyAnswered s (cleared s r key) (if r.acc = 7 then [key] else []) := by
  unfold cleared
  split
  · exact onlyAnswered_of_entries rfl (onlyEntries_setV _ _ _)
  · exact onlyAnswered_refl _ _

/-- The flags of the answer to a read. -/
def readFlags (s : State) (key : Nat) : Nat := rsFlags (pendingLast s key).isSome (entryOff s key) false false

/-- A GET of an entry of its own register shows the value in force, and clears an RC entry. -/
theorem getEntry_now {s : State} {q : MiowaReq} {r : Row} {key : Nat} (wm : ¬ (r.idx = 0x5104 ∧ 7 ≤ q.sub)) (ch : ¬ (r.idx = 0x8120 ∧ q.sub = 1))
    (h : bitAt q.flags 0 = false ∨ pendingLast s key = none) :
    getEntry s q r key = reply (cleared s r key) q key ⟨0, readFlags s key, none⟩ (leBytes r.size (if r.acc = 3 then 0 else valueNow s key)) := by
  unfold getEntry
  rw [if_neg wm, if_neg ch]
  rcases h with off | empty
  · simp only [off]
    rfl
  · simp only [readFlags, empty]
    cases bitAt q.flags 0 <;> rfl

/-- A GET that wants the pending value shows it, with its tide. -/
theorem getEntry_pending {s : State} {q : MiowaReq} {r : Row} {key w x : Nat} (wm : ¬ (r.idx = 0x5104 ∧ 7 ≤ q.sub))
    (ch : ¬ (r.idx = 0x8120 ∧ q.sub = 1)) (want : bitAt q.flags 0 = true) (pending : pendingLast s key = some (w, x)) :
    getEntry s q r key = reply s q key ⟨0, readFlags s key, some w⟩ (leBytes r.size x) := by
  unfold getEntry
  rw [if_neg wm, if_neg ch]
  simp only [want, readFlags, pending]

/-- Settles O4. What DESCRIBE gives as bounds is the model's reading (log entry 114). -/
theorem dictRead : Obligations.dict_read := by
  intro s q r key acc
  refine ⟨fun op wm ch => ⟨getEntry s q r key, ?_, fun h => ⟨?_, fun rc apart => ?_, ?_⟩, fun w x want pending => ⟨?_, ?_, ?_⟩⟩,
    fun op => ⟨describeEntry s q r key, ?_, ?_, ?_⟩⟩
  · rw [exec_carries (.inl ⟨rfl, op⟩), serve_of_accepted acc, serveEntry_get r key op]
  · rw [getEntry_now wm ch h, ← op]
    exact reply_answered ..
  · rw [getEntry_now wm ch h, reply_onlyEntries _ _ _ _ _ key apart, cleared, if_pos rc]
    exact v_setV_self ..
  · rw [getEntry_now wm ch h]
    exact onlyAnswered_trans (cleared_onlyAnswered s r key) (onlyAnswered_mono (reply_onlyAnswered ..) (List.nil_subset _))
  · rw [getEntry_pending wm ch want pending, ← op]
    exact reply_answered ..
  · rw [getEntry_pending wm ch want pending]
    exact reply_onlyAnswered ..
  · rw [getEntry_pending wm ch want pending, reply_resp]
    exact ⟨_, rfl, rfl⟩
  · rw [exec_carries (.inr (.inr (.inl ⟨rfl, op⟩))), serve_of_accepted acc, serveEntry_describe r key op]
  · rw [← op]
    exact reply_answered ..
  · exact reply_onlyAnswered ..

-- ===== refusals =====

theorem formCheck_of_range {s : State} {r : Row} {sub x : Nat} (h : r.check x ≠ 0) : formCheck s r sub x = r.check x := if_pos h

/-- Settles O6: each refusal is one reply of the state as it was. The order of the refusals is the model's reading (log entry 10). -/
theorem dictRefused : Obligations.dict_refused := by
  intro s q c carried
  have run := exec_carries carried s
  refine ⟨fun oob bad => ?_, fun crc save => ⟨fun head => ?_, fun head now e missing => ?_, fun r key acc op => ⟨fun ro => ?_, fun rw len => ?_, fun rw len range => ?_⟩⟩⟩
  · have drop : serve s q = bump32 s K.mpCheckDrops := by
      have failed : (outOfBand q.path && q.check != crc32c (MiowaReq.bytes q)) = true := by
        rw [oob, Bool.true_and]
        exact bne_iff_ne.2 bad
      rw [serve, failed]
      rfl
    exact ⟨_, run.trans (next_congr drop), rfl, v_setV_self .., onlyEntries_bump _ _ _ _⟩
  · exact refused_of_refuse (run.trans (next_congr ((serve_of_checked crc save).trans (if_pos head))))
  · refine refused_of_refuse (run.trans (next_congr ?_))
    rw [serve_of_checked crc save, if_neg (Classical.not_not.2 head), now, missing]
    rfl
  · refine refused_of_reply (key := key) (run.trans (next_congr ?_))
    rw [serve_of_accepted acc, serveEntry_set r key op, setEntry, if_pos ro]
  · refine refused_of_reply (key := key) (run.trans (next_congr ?_))
    rw [serve_of_accepted acc, serveEntry_set r key op, setEntry, if_neg (Bool.eq_false_iff.1 rw), if_pos len]
  · refine refused_of_reply (key := key) (run.trans (next_congr ?_))
    have form : formCheck s r q.sub (leNat q.value) = r.check (leNat q.value) := formCheck_of_range range
    rw [serve_of_accepted acc, serveEntry_set r key op, setEntry, if_neg (Bool.eq_false_iff.1 rw), if_neg (Classical.not_not.2 len), form, if_pos range]

end Sys2Proof.Requests

/-! Writes of entries by their access, and the journal that persists them (R34, R46, R49, R50). -/
namespace Sys2Proof.Writes
open Sys2Proof Sys2Proof.Machine Sys2Proof.Effects Sys2Proof.Stores Sys2Proof.Answers Sys2Proof.Requests

-- ===== the write of an entry =====

/-- A SET that passes every check of an ordinary entry is written by the entry's access. -/
theorem setEntry_of_checked {s : State} {q : MiowaReq} {r : Row} {key : Nat} (rw : readOnly r q.sub = false) (len : q.value.length = r.size)
    (write : writeCheck s r key (leNat q.value) = 0) (form : formCheck s r q.sub (leNat q.value) = 0) (own : ownWrite s q (leNat q.value) = none)
    (reset : key ≠ K.resetRequest) :
    setEntry s q r key = commitWrite s q r.acc key (leNat q.value) (leBytes r.size (leNat q.value)) := by
  simp only [setEntry, rw, len, form, own, reset, writeEntry, write, ne_eq, not_true_eq_false, if_false, Bool.false_eq_true]

/-- Of what follows a new value, only NODE_ID's is a value too. -/
theorem entryApplied_onlyEntries (s : State) (key : Nat) : OnlyEntries s (entryApplied s key) [K.nodeIdSet] := by
  unfold entryApplied
  split
  · exact onlyEntries_setV _ _ _
  · split
    · exact onlyEntries_of_dict _ rfl
    · split
      · exact onlyEntries_of_dict _ rfl
      · exact onlyEntries_refl _ _

theorem v_entryApplied {s : State} {key k : Nat} (h : k ∉ K.nodeIdSet :: answerKeys) : v (entryApplied s key) k = v s k :=
  entryApplied_onlyEntries s key k fun m => h (List.mem_cons.2 (.inl (List.mem_singleton.1 m)))

theorem not_answerKey {k : Nat} (h : k ∉ K.nodeIdSet :: answerKeys) : k ∉ answerKeys := fun m => h (List.mem_cons_of_mem _ m)

/-- A change accepted for a tide stands among the staged ones. -/
theorem mem_stageAt (s : State) (t : Nat) (op : StagedOp) : (⟨t, op⟩ : Staged) ∈ (stageAt s t op).staged :=
  List.mem_append_right _ List.mem_cons_self

theorem stagedAccepted_keeps (s : State) (key x : Nat) : Keeps 1073872898 s (stagedAccepted s key x) := (stagedAccepted_from key x).keeps

theorem shareWrite_keeps (s : State) (key len : Nat) : Keeps 4398046511104 s (shareWrite s key len).2 := (shareWrite_from key len).keeps

theorem journalAsk_queue {s t : State} (h : t.store = s.store) (p : JPend) : (journalAsk t p).store.queue = s.store.queue ++ [p] := by
  rw [← h]
  rfl

theorem writeStaged_of_room {s : State} {q : MiowaReq} {key x : Nat} (room : canStage s (applyTide s) = true) : writeStaged s q key x =
    reply (stagedAccepted (stageAt s (applyTide s) (.entry key x)) key x) q key ⟨0, 0, some (applyTide s)⟩ [] := by
  simp only [writeStaged, room, Bool.not_true, Bool.false_eq_true, if_false]

/-- An RWS write is staged, and answered with its tide. -/
theorem writeStaged_stages {s : State} (q : MiowaReq) (key x : Nat) (room : canStage s (applyTide s) = true) :
    (⟨applyTide s, .entry key x⟩ : Staged) ∈ (writeStaged s q key x).staged ∧
      ∃ a, (writeStaged s q key x).miowa.resp.get? (pathCode q.path) = some a ∧ a.status = 0 ∧ a.tag = q.tag ∧ a.applyTide = applyTide s := by
  rw [writeStaged_of_room room]
  refine ⟨?_, _, reply_resp .., rfl, rfl, rfl⟩
  rw [(reply_from ..).keeps.staged rfl, (stagedAccepted_keeps ..).staged rfl]
  exact mem_stageAt ..

/-- Where no generation is free, a staged write is refused and counted. -/
theorem stageFull_refuses (s : State) (q : MiowaReq) (key : Nat) :
    (stageFull s q key).staged = s.staged ∧ (stageFull s q key).reserved = s.reserved ∧ (stageFull s q key).store = s.store ∧
      v (stageFull s q key) K.stageRefused = satAdd 32 (v s K.stageRefused) 1 ∧
      ∃ a, (stageFull s q key).miowa.resp.get? (pathCode q.path) = some a ∧ a.status = 0x0A ∧ a.tag = q.tag := by
  have frame := (reply_from (s := bump32 s K.stageRefused) q key (.code 0x0A) []).keeps
  refine ⟨frame.staged rfl, frame.reserved rfl, frame.store rfl, ?_, _, reply_resp .., rfl, rfl⟩
  rw [stageFull, reply_onlyEntries _ _ _ _ _ K.stageRefused (by decide)]
  exact v_setV_self ..

/-- An RWP write waits for its record; nothing is answered yet. -/
theorem writePersisted_waits {s : State} (q : MiowaReq) (key : Nat) (b : Bytes) (on : entryOff s key = false) :
    v (writePersisted s q key b) key = v s key ∧ (writePersisted s q key b).miowa.resp = s.miowa.resp ∧
      ∃ p, (writePersisted s q key b).store.queue = s.store.queue ++ [p] ∧ p.req = q ∧ p.recs = [jrec key 1 b 0] ∧ p.kind = .rwp := by
  have share := shareWrite_keeps s key b.length
  have still : entryOff (shareWrite s key b.length).2 key = false := by
    rw [← on]
    unfold shareWrite
    split <;> rfl
  have eq : writePersisted s q key b = journalAsk (shareWrite s key b.length).2
      ⟨q, true, [jrec key 1 b 0], 1, [], (shareWrite s key b.length).1, .rwp⟩ := by
    simp only [writePersisted, still, Bool.false_eq_true, if_false]
  rw [eq]
  refine ⟨v_of_dict (share.dict rfl) key, congrArg Miowa.resp (share.miowa rfl), _, journalAsk_queue (share.store rfl) _, rfl, rfl, rfl⟩

/-- An RWSP write is staged, and waits for its record. -/
theorem writeStagedPersisted_stages {s : State} (q : MiowaReq) (key x : Nat) (b : Bytes) (room : canStage s (applyTide s) = true) :
    (writeStagedPersisted s q key x b).miowa.resp = s.miowa.resp ∧
      (⟨applyTide s, .entry key x⟩ : Staged) ∈ (writeStagedPersisted s q key x b).staged ∧
      ∃ p, (writeStagedPersisted s q key x b).store.queue = s.store.queue ++ [p] ∧ p.kind = .rwsp (applyTide s) := by
  let u := stagedAccepted (stageAt s (applyTide s) (.entry key x)) key x
  have accepted : Keeps 1073872898 _ u := stagedAccepted_keeps ..
  have share := shareWrite_keeps u key b.length
  have eq : writeStagedPersisted s q key x b = journalAsk (shareWrite u key b.length).2
      ⟨q, true, [jrec key 2 b (applyTide s)], 1, [(key, v s key)], (shareWrite u key b.length).1, .rwsp (applyTide s)⟩ := by
    simp only [writeStagedPersisted, room, Bool.not_true, Bool.false_eq_true, if_false]
    rfl
  rw [eq]
  refine ⟨congrArg Miowa.resp ((share.miowa rfl).trans (accepted.miowa rfl)), ?_, _,
    journalAsk_queue ((share.store rfl).trans (accepted.store rfl)) _, rfl⟩
  show _ ∈ (shareWrite u key b.length).2.staged
  rw [share.staged rfl, accepted.staged rfl]
  exact mem_stageAt ..

-- ===== the journal =====

/-- A record of a register of its own gives the entry its value. -/
theorem v_apply {s : State} {key : Nat} (kind t : Nat) (b : Bytes) (own : Machine.isDomain key = false) (keys : imageKeys key = [key]) :
    v (JRec.apply s (jrec key kind b t)) key = leNat b := by
  have noDomain : (rowOf (key / 2048 / 256) (key / 2048 % 256)).any (fun x => x.ty == 14) = false := own
  simp only [JRec.apply, jrec, noDomain, keys, Bool.false_eq_true, if_false, List.foldl_cons, List.foldl_nil]
  exact v_setV_self ..

theorem persistAnswer_of_answer {s : State} {p : JPend} (st : Nat) (h : p.answer = true) : ∃ a version, a.st = st ∧
    persistAnswer s p st = respond s p.req.path p.req.op p.req.tag p.req.cid p.req.index p.req.sub a version [] :=
  ⟨_, _, rfl, by unfold persistAnswer; rw [if_pos h]⟩

theorem persistAnswer_answers {s : State} {p : JPend} (st : Nat) (h : p.answer = true) :
    ∃ a, (persistAnswer s p st).miowa.resp.get? (pathCode p.req.path) = some a ∧ a.status = st ∧ a.tag = p.req.tag := by
  obtain ⟨a, version, hst, eq⟩ := persistAnswer_of_answer (s := s) st h
  obtain ⟨r, hr, -, tag, status, -⟩ := respond_answered s p.req.path p.req.op p.req.tag p.req.cid p.req.index p.req.sub a version []
  exact ⟨r, by rw [eq]; exact hr, status.trans hst, tag⟩

theorem persistAnswer_onlyEntries {s : State} {p : JPend} (st : Nat) (h : p.answer = true) : OnlyEntries s (persistAnswer s p st) answerKeys := by
  obtain ⟨a, version, -, eq⟩ := persistAnswer_of_answer (s := s) st h
  rw [eq]
  exact respond_onlyEntries _ _ _ _ _ _ _ _ _ _

/-- The state without its oldest journal write. -/
def dequeued (s : State) (rest : List JPend) : State := { s with store := { s.store with queue := rest } }

/-- Records enter the journal behind those that were there; the queue of writes stays. -/
theorem journalPut_store (s : State) (rs : List JRec) :
    (journalPut s rs).store.queue = s.store.queue ∧ ∀ r ∈ rs, r ∈ (journalPut s rs).store.journal := by
  unfold journalPut
  refine ⟨?_, fun r hr => List.mem_append_right _ hr⟩
  split <;> rfl

/-- The last record of an RWP write of one entry, programmed while nothing is mirrored: the journal has it, the entry its value, and the
write its answer. -/
theorem journalProgram_rwp {s : State} {p : JPend} {rest : List JPend} {key : Nat} {b : Bytes} (queue : s.store.queue = p :: rest)
    (left : p.left ≤ 1) (kind : p.kind = .rwp) (recs : p.recs = [jrec key 1 b 0]) (alone : mirroring s = false) :
    journalProgram s true = persistAnswer (applyRec (journalPut (dequeued s rest) [jrec key 1 b 0]) (jrec key 1 b 0)) p 0 := by
  have apply := (applyRec_from (s := journalPut (dequeued s rest) [jrec key 1 b 0]) (jrec key 1 b 0)).keeps
  have put := (journalPut_from (s := dequeued s rest) [jrec key 1 b 0]).keeps
  have pair : (applyRec (journalPut (dequeued s rest) [jrec key 1 b 0]) (jrec key 1 b 0)).pair = s.pair := (apply.pair rfl).trans (put.pair rfl)
  have unmirrored : mirroring (applyRec (journalPut (dequeued s rest) [jrec key 1 b 0]) (jrec key 1 b 0)) = false := by
    rw [← alone]
    simp only [mirroring, pair]
  have last : ¬ p.left > 1 := by omega
  simp only [journalProgram, queue, Bool.not_true, Bool.false_eq_true, if_false, last, persisted, kind, recs, List.foldl_cons, List.foldl_nil]
  rw [if_pos]
  · rfl
  · right
    show (!mirroring (applyRec (journalPut (dequeued s rest) [jrec key 1 b 0]) (jrec key 1 b 0))) = true
    rw [unmirrored]
    rfl

theorem journalProgram_failed {s : State} {p : JPend} {rest : List JPend} (queue : s.store.queue = p :: rest) (kind : p.kind = .rwp) :
    journalProgram s false = persistAnswer (dequeued s rest) p 0x10 := by
  simp only [journalProgram, queue, kind, Bool.not_false, if_true]
  rfl

/-- Settles O5. -/
theorem dictWrite : Obligations.dict_write := by
  intro s
  refine ⟨fun q r key acc op rw len write form own reset => ?_, fun p rest key b queue left answer kind recs alone own keys => ⟨?_, ?_⟩⟩
  · have run : exec (.set q) s = .next (commitWrite s q r.acc key (leNat q.value) (leBytes r.size (leNat q.value))) := by
      rw [exec_carries (.inr (.inl ⟨rfl, op⟩)), serve_of_accepted acc, serveEntry_set r key op, setEntry_of_checked rw len write form own reset]
    refine ⟨_, run, fun hr on apart => ?_, fun hr room => ?_, fun hr full => ?_, fun hr on => ?_, fun hr room => ?_⟩
    · simp only [commitWrite, hr, writeNow, on, Bool.false_eq_true, if_false, Nat.reduceEqDiff]
      rw [reply_onlyEntries _ _ _ _ _ key (not_answerKey apart), v_entryApplied apart]
      exact v_setV_self ..
    · simp only [commitWrite, hr, if_true]
      exact writeStaged_stages q key _ room
    · have refused : commitWrite s q r.acc key (leNat q.value) (leBytes r.size (leNat q.value)) = stageFull s q key := by
        rcases hr with hr | hr
        · simp only [commitWrite, hr, writeStaged, full, Bool.not_false, if_true]
        · simp only [commitWrite, hr, writeStagedPersisted, full, Bool.not_false, if_true, if_false, Nat.reduceEqDiff]
      rw [refused]
      exact stageFull_refuses s q key
    · simp only [commitWrite, hr, if_true, if_false, Nat.reduceEqDiff]
      exact writePersisted_waits q key _ on
    · simp only [commitWrite, hr, if_true, if_false, Nat.reduceEqDiff]
      exact writeStagedPersisted_stages q key _ _ room
  · have eq := journalProgram_rwp queue left kind recs alone
    have stands := journalPut_store (dequeued s rest) [jrec key 1 b 0]
    refine ⟨_, next_congr (congrArg settle eq), ?_, ?_, fun apart => ?_, persistAnswer_answers 0 answer⟩
    · rw [(persistAnswer_from ..).keeps.store rfl, (applyRec_from _).keeps.store rfl]
      exact stands.1
    · rw [(persistAnswer_from ..).keeps.store rfl, (applyRec_from _).keeps.store rfl]
      exact stands.2 _ List.mem_cons_self
    · rw [persistAnswer_onlyEntries 0 answer key (not_answerKey apart), applyRec, v_entryApplied apart]
      exact v_apply 1 0 b own keys
  · have eq := journalProgram_failed queue kind
    refine ⟨_, next_congr (congrArg settle eq), ?_, ?_, persistAnswer_answers 0x10 answer⟩
    · rw [(persistAnswer_from ..).keeps.store rfl]
      rfl
    · exact onlyEntries_trans (onlyEntries_of_dict _ rfl) (persistAnswer_onlyEntries 0x10 answer)

end Sys2Proof.Writes

/-! Images, overlays, the journal's revert, and calendar time (R62 to R64, R66). -/
namespace Sys2Proof.Images
open Sys2Proof Sys2Proof.Machine Sys2Proof.Effects Sys2Proof.Stores Sys2Proof.Answers Sys2Proof.Writes

/-- An image that passes every check of R64 is stored by its kind. -/
theorem imageLoadOp_of_good {s : State} {b : Bytes} {l : List ImgRec} (shape : imgShape b = true) (sig : cfgSigned s b = true)
    (head : imgHeader s b = true) (recs : imgRecs (imgBodyLen b + 1) ((b.drop 64).take (imgBodyLen b)) = some l) (len : l.length = leAt b 16 4)
    (check : recsCheck s (imgKind b) 0 none l = none) : imageLoadOp s b =
      if imgKind b = 1 then
        (0, { s with store := { s.store with baseImage := b, baseId := leAt b 8 4, journal := []
                                             base := (imgValues l).foldl (fun m e => m.put e.1 e.2) [] } })
      else (0, { s with store := { s.store with overlays := s.store.overlays.put (leAt b 7 1) ⟨leAt b 8 4, b, imgValues l⟩ } }) := by
  simp only [imageLoadOp, shape, sig, head, recs, len, check, Bool.not_true, Bool.false_eq_true, if_false, if_true, ne_eq, not_true_eq_false]

/-- Storing an image answers MP_OK and changes the store alone. -/
theorem imageLoadOp_frame {s : State} {b : Bytes} {l : List ImgRec} (shape : imgShape b = true) (sig : cfgSigned s b = true)
    (head : imgHeader s b = true) (recs : imgRecs (imgBodyLen b + 1) ((b.drop 64).take (imgBodyLen b)) = some l) (len : l.length = leAt b 16 4)
    (check : recsCheck s (imgKind b) 0 none l = none) : (imageLoadOp s b).1 = 0 ∧ (imageLoadOp s b).2.dict = s.dict := by
  rw [imageLoadOp_of_good shape sig head recs len check]
  split <;> exact ⟨rfl, rfl⟩

theorem imageLoadOp_of_unsigned {s : State} {b : Bytes} (shape : imgShape b = true) (sig : cfgSigned s b = false) :
    imageLoadOp s b = imgRefuse s 0x11 0x11 0 := by
  simp only [imageLoadOp, shape, sig, Bool.not_true, Bool.not_false, Bool.false_eq_true, if_false, if_true]

/-- IMAGE_LOAD by a path that may is answered with the operation's code. -/
theorem exec_imageLoad {s : State} {a : Access} (b : Bytes) (h : ∃ r key, lookup s a.path 0x1100 4 a.inst = .ok (r, key)) :
    exec (.imageLoad a b) s = .next (respond (imageLoadOp s b).2 a.path 5 a.tag a.cid 0x1100 4 (.code (imageLoadOp s b).1) 0 []) := by
  obtain ⟨r, key, found⟩ := h
  obtain ⟨row, -⟩ := lookup_ok found
  cases row
  exact next_congr (accessBytes_of_ok (len := 0) _ rfl found (.inl rfl))

-- ===== the selection of an overlay (R62) =====

theorem lookup_overlaySelect {s : State} {p : Path} {field : Nat} {r : Row} {key : Nat} (h : lookup s p 0x1100 2 field = .ok (r, key)) :
    key = K.overlaySelect := by
  obtain ⟨row, i, sel, hkey⟩ := lookup_ok h
  have once : r.perInst = false := by
    cases row
    rfl
  unfold selectInst at sel
  rw [once] at sel
  split at sel
  · split at sel <;> cases sel
    exact hkey
  · next no => exact absurd rfl no

/-- Nothing of the state bears on the selection itself. -/
theorem batchCheck_overlaySelect (s : State) (x t : Nat) : batchCheck s K.overlaySelect x t = 0 := rfl

theorem boundOk_overlaySelect (s : State) (x t : Nat) : boundOk s K.overlaySelect x t = true := rfl

/-- The selection of an overlay that is not stored is staged alone, and waits for its record. -/
theorem overlaySelectOp_alone {s : State} (q : MiowaReq) {x : Nat} (none : s.store.overlays.get? x = none)
    (room : canStage s (applyTide s) = true) : ∃ rec,
    overlaySelectOp s q K.overlaySelect x =
      journalAsk (shareWrite (stageAt s (applyTide s) (.entry K.overlaySelect x)) K.overlaySelect rec.len).2
        ⟨q, true, [rec], 1, [(K.overlaySelect, v s K.overlaySelect)],
          Nat.max 0 (shareWrite (stageAt s (applyTide s) (.entry K.overlaySelect x)) K.overlaySelect rec.len).1, .rwsp (applyTide s)⟩ := by
  refine ⟨jrec K.overlaySelect 2 (leBytes (sizeOfKey K.overlaySelect) x) (applyTide s), ?_⟩
  have staged : stageBatch (applyTide s) s [(K.overlaySelect, x)] = .ok (stageAt s (applyTide s) (.entry K.overlaySelect x)) := by
    simp only [stageBatch, batchCheck_overlaySelect, ne_eq, not_true_eq_false, and_false, if_false]
  simp only [overlaySelectOp, room, none, Option.elim, List.flatMap_nil, List.nil_append, staged, List.any_cons, List.any_nil,
    boundOk_overlaySelect, Bool.not_true, Bool.or_false, Bool.false_eq_true, if_false]
  simp only [List.foldl_cons, List.foldl_nil, List.map_cons, List.map_nil]
  rfl

-- ===== calendar time (R66) =====

theorem setCalendar_step {s : State} {x : Nat} (h : s.clk.calSet = false ∨ 1000000000 < ((x * 1000 : Int) - s.clk.calNs).natAbs) :
    setCalendar s x = { s with clk := { s.clk with calSet := true, calNs := x * 1000, slewNs := 0 } } := by
  refine if_pos ?_
  rcases h with unset | far
  · simp only [unset, Bool.not_false, Bool.true_or]
  · simp only [Bool.or_eq_true, decide_eq_true_eq]
    omega

theorem setCalendar_slew {s : State} {x : Nat} (set : s.clk.calSet = true) (near : ((x * 1000 : Int) - s.clk.calNs).natAbs ≤ 1000000000) :
    setCalendar s x = { s with clk := { s.clk with slewNs := (x * 1000 : Int) - s.clk.calNs } } := by
  refine if_neg ?_
  simp only [set, Bool.not_true, Bool.false_or, Bool.or_eq_true, decide_eq_true_eq]
  omega

/-- Once set, the calendar stays set. -/
theorem setCalendar_set (s : State) (x : Nat) : (setCalendar s x).clk.calSet = true := by
  by_cases h : s.clk.calSet = false ∨ 1000000000 < ((x * 1000 : Int) - s.clk.calNs).natAbs
  · rw [setCalendar_step h]
  · obtain ⟨set, near⟩ := not_or.1 h
    rw [setCalendar_slew (eq_true_of_ne_false set) (Nat.not_lt.1 near)]
    exact eq_true_of_ne_false set

theorem time64_of_set {t : State} {x : Nat} (set : t.clk.calSet = true) (ns : t.clk.calNs = x * 1000) (h : x < 2 ^ 63) : time64 t = x := by
  rw [time64, if_pos set, ns, Nat.mul_div_cancel x (by decide), Nat.mod_eq_of_lt h]

/-- Settles O8: each command that passes its checks is one answer of the store, or of the clock, that its operation leaves. -/
theorem dictImages : Obligations.dict_images := by
  intro s a _
  refine ⟨fun b l path shape sig head recs len check => ?_, fun b path shape sig => ?_, fun x allowed none room => ?_,
    fun x allowed => ⟨fun other => ?_, fun inForce => ?_⟩, fun x allowed => ?_, fun x allowed low => ?_, fun x allowed high => ?_⟩
  · obtain ⟨ok, dict⟩ := imageLoadOp_frame shape sig head recs len check
    have store := (respond_from (s := (imageLoadOp s b).2) a.path 5 a.tag a.cid 0x1100 4 (.code (imageLoadOp s b).1) 0 []).keeps.store rfl
    refine ⟨_, exec_imageLoad b path, ?_, ?_, fun base => ?_, fun overlay => ?_⟩
    · rw [ok]
      exact respond_answered ..
    · exact onlyEntries_trans (onlyEntries_of_dict _ dict) (respond_onlyEntries _ _ _ _ _ _ _ _ _ _)
    · rw [store, imageLoadOp_of_good shape sig head recs len check, if_pos base]
      exact ⟨rfl, rfl, rfl, rfl⟩
    · rw [store, imageLoadOp_of_good shape sig head recs len check, if_neg overlay]
      exact ⟨Assoc.get?_put_self .., rfl⟩
  · refine ⟨_, exec_imageLoad b path, ?_, ?_⟩
    · rw [imageLoadOp_of_unsigned shape sig]
      exact respond_answered ..
    · rw [(respond_from ..).keeps.store rfl, imageLoadOp_of_unsigned shape sig]
      rfl
  · obtain ⟨r, key, found, good⟩ := allowed
    have hkey := lookup_overlaySelect found
    subst hkey
    obtain ⟨rec, eq⟩ := overlaySelectOp_alone (reqOf a 2 0x1100 2) none room
    have run : overlaySelectWrite s (reqOf a 2 0x1100 2) x = overlaySelectOp s (reqOf a 2 0x1100 2) K.overlaySelect x := by
      have here : lookup s (reqOf a 2 0x1100 2).path (reqOf a 2 0x1100 2).index (reqOf a 2 0x1100 2).sub (reqOf a 2 0x1100 2).inst =
        .ok (r, K.overlaySelect) := found
      simp only [overlaySelectWrite, here, good, ne_eq, not_true_eq_false, if_false]
    have share := shareWrite_keeps (stageAt s (applyTide s) (.entry K.overlaySelect x)) K.overlaySelect rec.len
    refine ⟨_, _, next_congr (run.trans eq), ?_, journalAsk_queue ((share.store rfl).trans rfl) _, rfl, ?_⟩
    · show _ ∈ (shareWrite _ _ _).2.staged
      rw [share.staged rfl]
      exact mem_stageAt ..
    · exact v_of_dict (share.dict rfl) _
  · obtain ⟨r, key, found, good⟩ := allowed
    refine ⟨_, next_congr (accessWrite_of_ok _ found good), ?_, ?_⟩
    · rw [(respond_from ..).keeps.store rfl, if_neg other]
    · rw [if_neg other]
      exact respond_answered ..
  · obtain ⟨r, key, found, good⟩ := allowed
    refine ⟨_, next_congr (accessWrite_of_ok _ found good), ?_, ?_⟩
    · rw [(respond_from ..).keeps.store rfl, if_pos inForce]
    · rw [if_pos inForce]
      exact respond_answered ..
  · obtain ⟨r, key, found, good⟩ := allowed
    refine ⟨_, next_congr (accessWrite_of_ok _ found good), ?_, respond_answered .., ?_⟩
    · rw [(respond_from ..).keeps.store rfl]
    · exact onlyEntries_trans (onlyEntries_of_dict _ rfl) (respond_onlyEntries _ _ _ _ _ _ _ _ _ _)
  · obtain ⟨r, key, found, good⟩ := allowed
    have clk := (respond_from (s := setCalendar s x) a.path 2 a.tag a.cid 0x1200 3 (.code 0) 0 []).keeps.clk rfl
    refine ⟨respond (setCalendar s x) a.path 2 a.tag a.cid 0x1200 3 (.code 0) 0 [], ?_, respond_answered .., ?_, fun step => ?_, fun set near => ?_⟩
    · refine next_congr ((accessWrite_of_ok _ found good).trans ?_)
      simp only [if_neg (Nat.not_le.2 low)]
    · rw [clk]
      exact setCalendar_set s x
    · refine ⟨time64_of_set ?_ ?_ low, ?_⟩
      · rw [clk]
        exact setCalendar_set s x
      · rw [clk, setCalendar_step step]
      · rw [clk, setCalendar_step step]
    · rw [clk, setCalendar_slew set near]
  · obtain ⟨r, key, found, good⟩ := allowed
    refine ⟨_, next_congr (accessWrite_of_ok _ found good), ?_, ?_⟩
    · rw [if_pos high]
      exact respond_answered ..
    · rw [(respond_from ..).keeps.clk rfl, if_pos high]

end Sys2Proof.Images

/-! How a port trains, and what its negotiation record says (R65, R71, R72, R75). -/
namespace Sys2Proof.Ports
open Sys2Proof Sys2Proof.Machine Sys2Proof.Effects

theorem port_modPort_self {s : State} {p : Nat} (f : Port → Port) : port (modPort s p f) p = f (port s p) := by
  by_cases h : p = 1
  · simp only [port, modPort, h, if_true]
  · simp only [port, modPort, h, if_false]

theorem port_modPort_other {s : State} {p : Nat} (f : Port → Port) (h : p = 0 ∨ p = 1) : port (modPort s p f) (1 - p) = port s (1 - p) := by
  rcases h with rfl | rfl <;> rfl

theorem modPort_frame (s : State) (p : Nat) (f : Port → Port) :
    modPort s p f = { s with portA := (modPort s p f).portA, portB := (modPort s p f).portB } := by
  unfold modPort
  split <;> rfl

theorem portActive_two {s : State} {p : Nat} (h : portActive s p = true) : p = 0 ∨ p = 1 := by
  simp only [portActive, Bool.or_eq_true, decide_eq_true_eq, Bool.and_eq_true] at h
  exact h.imp_right And.left

theorem negOutcome_negRecord {partner outcome : Nat} (attempts mode offered settledAt : Nat) (hp : partner < 2 ^ 8) (ho : outcome < 2 ^ 8) :
    negOutcome (negRecord partner outcome attempts mode offered settledAt) = outcome := by
  simp only [negOutcome, negRecord, fld]
  generalize Nat.min attempts 0xFFFF = n
  omega

/-- The record of an attempt that settled says with which outcome. -/
theorem negOutcome_negSettle (s : State) (key : Nat) {partner : Nat} (mode offered : Nat) (hp : partner < 2 ^ 8) :
    negOutcome (v (negSettle s key partner mode offered) key) = if mode = offered then 1 else 2 := by
  rw [negSettle, v_setV_self]
  exact negOutcome_negRecord _ _ _ _ hp (by split <;> decide)

theorem negOutcome_negFail (s : State) (key : Nat) {partner : Nat} (offered : Nat) (hp : partner < 2 ^ 8) :
    negOutcome (v (negFail s key partner offered) key) = 3 := by
  rw [negFail, v_setV_self]
  exact negOutcome_negRecord _ _ _ _ hp (by decide)

/-- The link of a port that has trained. -/
def trained (rate width : Nat) (flit : Bool) (x : Port) : Port :=
  { x with link := 1, rate := rate, width := width, flit := flit, l0pWidth := width, refStopped := false }

/-- The link comes up: an LTR message that is owed is sent. -/
def linkUp (s : State) (p rate width : Nat) (flit : Bool) : State :=
  let u := modPort s p (trained rate width flit)
  if (port u p).ltrDue then ltrSend u p else u

/-- The negotiation record of an attempt, with its event where the mode is lower than offered. -/
def negotiated (s : State) (p mode : Nat) : State :=
  let u := negSettle s (unitKey K.pcieNegotiation p) 1 mode (pcieOffered s p)
  if mode = pcieOffered s p then u else eventU u Ev.pcieNegLower p [p, mode]

theorem pcieLinkUp_of_active {s : State} {p : Nat} (rate width : Nat) (flit : Bool) (act : portActive s p = true) (out : (port s p).perst = false) :
    pcieLinkUp s p rate width flit = driveWake (linkUp (negotiated s p (pcieMode rate width flit)) p rate width flit) := by
  simp only [pcieLinkUp, act, out, Bool.not_false, Bool.and_true, if_true]
  rfl

/-- What the link is after it came up, and what it leaves. -/
theorem linkUp_port (s : State) (p rate width : Nat) (flit : Bool) :
    ∃ n due, port (linkUp s p rate width flit) p = { trained rate width flit (port s p) with ltrNs := n, ltrDue := due } := by
  simp only [linkUp]
  split
  · rw [ltrSend, port_modPort_self, port_modPort_self]
    exact ⟨ltrOf (modPort s p (trained rate width flit)).power.state, false, if_pos (.inl rfl)⟩
  · exact ⟨_, _, port_modPort_self _⟩

theorem linkUp_other {s : State} {p : Nat} (rate width : Nat) (flit : Bool) (h : p = 0 ∨ p = 1) :
    port (linkUp s p rate width flit) (1 - p) = port s (1 - p) := by
  simp only [linkUp]
  split
  · rw [ltrSend, port_modPort_other _ h, port_modPort_other _ h]
  · exact port_modPort_other _ h

theorem linkUp_frame (s : State) (p rate width : Nat) (flit : Bool) : linkUp s p rate width flit =
    { s with portA := (linkUp s p rate width flit).portA, portB := (linkUp s p rate width flit).portB } := by
  simp only [linkUp]
  split
  · rw [ltrSend, modPort_frame, modPort_frame s p]
  · exact modPort_frame _ _ _

/-- The keys of the negotiation records are no threshold of the recorder. -/
theorem pcieNegotiation_ne {p : Nat} (h : p = 0 ∨ p = 1) : K.recordMinSeverity ≠ unitKey K.pcieNegotiation p ∧
    unitKey K.pcieNegotiation p ∉ recordKeys := by
  rcases h with rfl | rfl <;> decide

theorem negotiated_frame (s : State) (p mode : Nat) :
    negotiated s p mode = { s with dict := (negotiated s p mode).dict, recd := (negotiated s p mode).recd } := by
  simp only [negotiated]
  split
  · rfl
  · exact (eventU_from (s := negSettle s (unitKey K.pcieNegotiation p) 1 mode (pcieOffered s p)) Ev.pcieNegLower p [p, mode]).keeps

theorem negotiated_onlyEntries (s : State) (p mode : Nat) :
    OnlyEntries s (negotiated s p mode) (unitKey K.pcieNegotiation p :: recordKeys) := by
  have settled : OnlyEntries s (negSettle s (unitKey K.pcieNegotiation p) 1 mode (pcieOffered s p)) [unitKey K.pcieNegotiation p] :=
    onlyEntries_setV _ _ _
  simp only [negotiated]
  split
  · exact onlyEntries_mono settled (List.cons_subset_cons _ (List.nil_subset _))
  · exact onlyEntries_append settled (record_onlyEntries _ _ _ _ _)

theorem negotiated_outcome {s : State} {p : Nat} (mode : Nat) (h : p = 0 ∨ p = 1) :
    negOutcome (v (negotiated s p mode) (unitKey K.pcieNegotiation p)) = if mode = pcieOffered s p then 1 else 2 := by
  simp only [negotiated]
  split
  · next same => exact (negOutcome_negSettle _ _ _ _ (by decide)).trans (if_pos same)
  · next lower =>
    rw [eventU, record_onlyEntries _ _ _ _ _ _ (pcieNegotiation_ne h).2]
    exact (negOutcome_negSettle _ _ _ _ (by decide)).trans (if_neg lower)

theorem negotiated_port (s : State) (p mode q : Nat) : port (negotiated s p mode) q = port s q := by
  have a : (negotiated s p mode).portA = s.portA := by rw [negotiated_frame]
  have b : (negotiated s p mode).portB = s.portB := by rw [negotiated_frame]
  simp only [port, a, b]

/-- The link of an active port out of reset comes up, its record written. -/
theorem pcieLinkUp_up {s : State} {p : Nat} (rate width : Nat) (flit : Bool) (act : portActive s p = true) (out : (port s p).perst = false) :
    ∃ u t, u = negotiated s p (pcieMode rate width flit) ∧ t = linkUp u p rate width flit ∧ pcieLinkUp s p rate width flit = driveWake t ∧
      u = { s with dict := u.dict, recd := u.recd } ∧ t = { u with portA := t.portA, portB := t.portB } ∧
      (∃ n due, port t p = { trained rate width flit (port s p) with ltrNs := n, ltrDue := due }) ∧ port t (1 - p) = port s (1 - p) := by
  refine ⟨_, _, rfl, rfl, pcieLinkUp_of_active rate width flit act out, negotiated_frame .., linkUp_frame .., ?_, ?_⟩
  · obtain ⟨n, due, eq⟩ := linkUp_port (negotiated s p (pcieMode rate width flit)) p rate width flit
    exact ⟨n, due, by rw [eq, negotiated_port]⟩
  · rw [linkUp_other rate width flit (portActive_two act), negotiated_port]

/-- A lower mode than offered is one event; the offered mode is none. -/
theorem negotiated_recd {s : State} {p : Nat} (mode : Nat) (h : p = 0 ∨ p = 1) :
    (mode = pcieOffered s p → (negotiated s p mode).recd = s.recd) ∧
      (mode ≠ pcieOffered s p → Recorded s (negotiated s p mode) Ev.pcieNegLower [p, mode]) := by
  refine ⟨fun same => ?_, fun lower => ?_⟩
  · simp only [negotiated, if_pos same]
    rfl
  · simp only [negotiated, if_neg lower]
    refine recorded_congr (s := negSettle s (unitKey K.pcieNegotiation p) 1 mode (pcieOffered s p))
      (record_recorded _ Ev.pcieNegLower p 0xFFFF [p, mode]) rfl ?_ rfl
    exact (v_setV_ne _ _ (pcieNegotiation_ne h).1).symm

/-- Settles O9. -/
theorem portTraining : Obligations.port_training := by
  intro s p
  refine ⟨fun act reset => ?_, fun rate width flit act out => ?_, fun training => ?_, fun mode khz hp hm fallback => ?_⟩
  · have eq : perstDeassert s p = modPort s p (fun x => { x with perst := false, link := 6, subsysVid := v s K.subsysVendorId,
                                                                  subsysId := v s K.subsysId }) := if_pos (by rw [act, reset]; rfl)
    refine ⟨_, next_congr eq, port_modPort_self _, port_modPort_other _ (portActive_two act), modPort_frame _ _ _⟩
  · have two := portActive_two act
    obtain ⟨u, t, hu, -, run, uframe, tframe, ⟨n, due, self⟩, other⟩ := pcieLinkUp_up rate width flit act out
    have dict : t.dict = u.dict := by rw [tframe]
    have recd : t.recd = u.recd := by rw [tframe]
    have here : port (driveWake t) p = port t p := rfl
    refine ⟨driveWake t, next_congr run, ?_, ?_, ?_, ?_, ?_, ?_, fun same => ?_, fun lower => ?_, other, ?_, ?_⟩
    iterate 5 · rw [here, self]; rfl
    · rw [v_of_dict (show (driveWake t).dict = u.dict from dict), hu]
      exact negotiated_outcome _ two
    · show t.recd = s.recd
      rw [recd, hu]
      exact (negotiated_recd _ two).1 same
    · rw [hu] at recd
      exact recorded_congr ((negotiated_recd _ two).2 lower) rfl rfl recd
    · rw [hu] at dict
      exact onlyEntries_congr (negotiated_onlyEntries s p _) rfl dict
    · have whole : t = { s with dict := t.dict, recd := t.recd, portA := t.portA, portB := t.portB } := by
        rw [tframe, uframe]
      exact congrArg (fun x => { x with wakeLow := (driveWake t).wakeLow }) whole
  · exact ⟨_, next_congr (if_pos training), negOutcome_negFail _ _ _ (by decide), rfl, onlyEntries_setV _ _ _⟩
  · have good : ¬ (p > 1 ∨ mode > 3 ∨ (mode = 3 ∧ p = 0)) := by
      rintro (h | h | ⟨h3, h0⟩)
      · omega
      · omega
      · exact absurd (fallback h3) (by omega)
    by_cases h : mode = 0
    · refine ⟨_, next_congr ((if_neg good).trans (if_pos h)), ?_, rfl, onlyEntries_setV _ _ _⟩
      rw [if_pos h]
      exact negOutcome_negFail _ _ _ (by decide)
    · refine ⟨_, next_congr ((if_neg good).trans (if_neg h)), ?_, rfl, onlyEntries_setV _ _ _⟩
      rw [if_neg h]
      exact negOutcome_negSettle _ _ _ _ (by decide)

end Sys2Proof.Ports

/-! The life of an Instance: the state it goes to, the mailbox that says so, and what a reclaim leaves (R90, R91, R103 to R106). -/
namespace Sys2Proof.Instances
open Sys2Proof Sys2Proof.Machine Sys2Proof.Effects Sys2Proof.Stores Sys2Proof.Answers Sys2Proof.Writes Sys2Proof.Ports

-- ===== what a cause bit changes =====

/-- Between `s` and `t` no Instance changed but its mailbox. -/
def MailboxOnly (s t : State) : Prop := ∀ m, inst t m = { inst s m with mailbox := (inst t m).mailbox }

theorem mailboxOnly_of_inst {s t : State} (h : ∀ m, inst t m = inst s m) : MailboxOnly s t := fun m => by rw [h m]

theorem mailboxOnly_trans {s t u : State} (h : MailboxOnly s t) (k : MailboxOnly t u) : MailboxOnly s u := fun m => by
  rw [k m, h m]

theorem mailboxOnly_state {s t : State} (h : MailboxOnly s t) (m : Nat) : (inst t m).state = (inst s m).state := by rw [h m]

theorem modInst_mailboxOnly (s : State) (n : Nat) {f : Inst → Inst} (hf : ∀ i, f i = { i with mailbox := (f i).mailbox }) :
    MailboxOnly s (modInst s n f) := fun m => by
  by_cases h : m = n
  · subst h
    rw [inst_modInst_self]
    exact hf _
  · rw [inst_modInst_ne _ _ h]

theorem causeTenant_mailboxOnly (s : State) (n bit : Nat) : MailboxOnly s (causeTenant s n bit) := by
  unfold causeTenant
  simp only
  split
  · exact mailboxOnly_trans (modInst_mailboxOnly s n fun _ => rfl) (mailboxOnly_of_inst fun m => inst_msixSend _ n _ m)
  · exact modInst_mailboxOnly s n fun _ => rfl

/-- The messages of the managers change no Instance and no entry. -/
theorem managerMessages (l : List Nat) (t : State) :
    let u := l.foldl (fun s p => if bitAt (v s (unitKey K.mbManagerVector p)) 15 then
      msixSend s p (fld (v s (unitKey K.mbManagerVector p)) 10 0) else s) t
    u.insts = t.insts ∧ u.dict = t.dict := by
  induction l generalizing t with
  | nil => exact ⟨rfl, rfl⟩
  | cons p l ih =>
    obtain ⟨insts, dict⟩ := ih (if bitAt (v t (unitKey K.mbManagerVector p)) 15 then
      msixSend t p (fld (v t (unitKey K.mbManagerVector p)) 10 0) else t)
    simp only [List.foldl_cons]
    rw [insts, dict]
    split <;> exact ⟨rfl, rfl⟩

/-- The manager's side of a cause: the mailbox, and MB_PENDING. -/
theorem causeManager_effect (s : State) (n bit : Nat) :
    MailboxOnly s (causeManager s n bit) ∧ OnlyEntries s (causeManager s n bit) [K.mbPending] := by
  let u := modMb s n (fun m => { m with causeM := withBit (inst s n).mailbox.causeM bit true, irqM := true })
  let w := setV u K.mbPending (withBit (v u K.mbPending) n true)
  have mailbox : MailboxOnly s u := modInst_mailboxOnly s n fun _ => rfl
  have first : MailboxOnly s w ∧ OnlyEntries s w [K.mbPending] :=
    ⟨mailbox, onlyEntries_trans (onlyEntries_of_dict _ rfl) (onlyEntries_setV u _ _)⟩
  unfold causeManager
  simp only
  split
  · exact first
  · obtain ⟨insts, dict⟩ := managerMessages (pfs s) w
    refine ⟨mailboxOnly_trans first.1 (mailboxOnly_of_inst fun m => ?_), onlyEntries_trans first.2 (onlyEntries_of_dict _ dict)⟩
    exact congrArg (fun x : Assoc Inst => x.getD m Inst.fresh) insts

theorem causeState_mailboxOnly (s : State) (n : Nat) : MailboxOnly s (causeState s n) :=
  mailboxOnly_trans (causeManager_effect s n 2).1 (causeTenant_mailboxOnly _ n 2)

theorem causeTenant_dict (s : State) (n bit : Nat) : (causeTenant s n bit).dict = s.dict := (causeTenant_from n bit).keeps.dict rfl

theorem causeState_onlyEntries (s : State) (n : Nat) : OnlyEntries s (causeState s n) [K.mbPending] :=
  onlyEntries_trans (causeManager_effect s n 2).2 (onlyEntries_of_dict _ (causeTenant_dict ..))

theorem mbRefresh_mailboxOnly (s : State) (n : Nat) : MailboxOnly s (mbRefresh s n) := by
  unfold mbRefresh
  split
  · exact mailboxOnly_of_inst fun _ => rfl
  · exact mailboxOnly_trans (modInst_mailboxOnly s n fun _ => rfl) (causeState_mailboxOnly _ n)

-- ===== the state of an Instance =====

/-- An Instance goes to a state: of it that state and its mailbox change, of every other its mailbox at most. -/
theorem instStateTo_inst (s : State) (n st m : Nat) : ∃ mb, inst (instStateTo s n st) m =
    { inst s m with state := if m = n then st else (inst s m).state, mailbox := mb } := by
  unfold instStateTo
  split
  · next same =>
    refine ⟨(inst s m).mailbox, ?_⟩
    split
    · next h => rw [h, ← same]
    · rfl
  · have cause := causeState_mailboxOnly (modInst s n (fun i => { i with state := st })) n m
    generalize inst (causeState (modInst s n (fun i => { i with state := st })) n) m = i at cause ⊢
    refine ⟨i.mailbox, cause.trans ?_⟩
    split
    · next h => rw [h, inst_modInst_self]
    · next h => rw [inst_modInst_ne _ _ h]

theorem instStateTo_self (s : State) (n st : Nat) : (inst (instStateTo s n st) n).state = st := by
  obtain ⟨mb, eq⟩ := instStateTo_inst s n st n
  rw [eq]
  exact if_pos rfl

theorem instStateTo_other (s : State) {n m : Nat} (st : Nat) (h : m ≠ n) : (inst (instStateTo s n st) m).state = (inst s m).state := by
  obtain ⟨mb, eq⟩ := instStateTo_inst s n st m
  rw [eq]
  exact if_neg h

theorem instStateTo_onlyEntries (s : State) (n st : Nat) : OnlyEntries s (instStateTo s n st) [K.mbPending] := by
  unfold instStateTo
  split
  · exact onlyEntries_refl _ _
  · exact onlyEntries_trans (onlyEntries_of_dict _ rfl) (causeState_onlyEntries _ n)

theorem fnExists_congr {s t : State} (mode : t.portMode = s.portMode) (split : t.vfSplit = s.vfSplit) (a : t.portA = s.portA)
    (b : t.portB = s.portB) (n : Nat) : fnExists t n = fnExists s n := by
  unfold fnExists isPf portOf vfNumber port
  rw [mode, split, a, b]

-- ===== INSTANCE_CTRL =====

/-- The keys of INSTANCE_CTRL. -/
theorem instanceCtrl_key {n : Nat} (h : n < 1024) : entryKey 0x2110 2 (n + 1) / 2048 / 256 = 0x2110 ∧
    entryKey 0x2110 2 (n + 1) / 2048 % 256 = 2 ∧ entryKey 0x2110 2 (n + 1) % 2048 = n + 1 := by
  simp only [entryKey]
  omega

/-- INSTANCE_CTRL is bound to no other entry's range. -/
theorem boundGroup_instanceCtrl {n : Nat} (h : n < 1024) : boundGroup (entryKey 0x2110 2 (n + 1)) = [] := by
  have apart : ∀ g ∈ ([[K.zoneOpenMax, K.zoneActiveMax], [K.fzrAge, K.zfcAge], [K.gcStartGroups, K.gcStopGroups, K.gcUrgentGroups],
      [K.supplyWarnMv, K.supplyFlushMv, K.supplyResetMv, K.supplyHystMv], [K.huTargetMv, K.huVminMv], [K.throttleC, K.critC]] : List (List Nat)) ++
      cellModes.map (fun m => [unitKey K.refreshAge m, unitKey K.patrolLap m]) ++
      (List.range 6).map (fun i => [unitKey K.wmThreshold i, unitKey K.wmHysteresis i]),
      ∀ k ∈ g, k < entryKey 0x2110 2 1 ∨ entryKey 0x2110 2 1024 < k := by decide
  have none : (([[K.zoneOpenMax, K.zoneActiveMax], [K.fzrAge, K.zfcAge], [K.gcStartGroups, K.gcStopGroups, K.gcUrgentGroups],
      [K.supplyWarnMv, K.supplyFlushMv, K.supplyResetMv, K.supplyHystMv], [K.huTargetMv, K.huVminMv], [K.throttleC, K.critC]] : List (List Nat)) ++
      cellModes.map (fun m => [unitKey K.refreshAge m, unitKey K.patrolLap m]) ++
      (List.range 6).map (fun i => [unitKey K.wmThreshold i, unitKey K.wmHysteresis i])).find?
        (fun g => g.contains (entryKey 0x2110 2 (n + 1))) = none := by
    refine List.find?_eq_none.2 fun g hg has => ?_
    have sides := apart g hg _ (List.contains_iff_mem.1 has)
    simp only [entryKey] at sides
    omega
  exact congrArg (Option.getD · []) none

/-- The check of a write of INSTANCE_CTRL is that of the Instance's life. -/
theorem writeCheck_instanceCtrl (s : State) {r : Row} {n x : Nat} (h : n < 1024) (row : rowOf 0x2110 2 = some r) (range : x = 1 ∨ x = 2) :
    writeCheck s r (entryKey 0x2110 2 (n + 1)) x = instanceCtrlCheck s n x (writeTide s r.acc) := by
  obtain ⟨idx, sub, unit⟩ := instanceCtrl_key h
  have form : formCheck s r 2 x = 0 := by
    cases row
    rcases range with rfl | rfl <;> rfl
  have bound : boundOk s (entryKey 0x2110 2 (n + 1)) x (writeTide s r.acc) = true := by
    simp only [boundOk, boundGroup_instanceCtrl h, List.isEmpty_nil, Bool.true_or]
  have apart : ∀ k ∈ [K.portMode, K.vfSplit, K.urgentFloor, K.bgReserve], entryKey 0x2110 2 (n + 1) ≠ k := by
    intro k hk
    have sides : ∀ k ∈ [K.portMode, K.vfSplit, K.urgentFloor, K.bgReserve], k < entryKey 0x2110 2 1 := by decide
    have := sides k hk
    simp only [entryKey] at this ⊢
    omega
  simp only [List.forall_mem_cons] at apart
  obtain ⟨mode, vfs, urgent, bg, -⟩ := apart
  simp only [writeCheck, sub, form, stateCheck, idx, unit, bound, mode, vfs, urgent, bg, ne_eq, not_true_eq_false, if_false, Bool.not_true,
    Bool.false_eq_true, false_or, and_self, if_true, Nat.add_sub_cancel]

theorem instanceCtrlAccept_state (s : State) (n x : Nat) :
    (inst (instanceCtrlAccept s n x) n).state = if x = 1 then (if fnExists s n then 2 else 1) else 4 := by
  unfold instanceCtrlAccept
  split
  · exact instStateTo_self ..
  · exact instStateTo_self ..

/-- An accepted write of INSTANCE_CTRL moves the Instance. -/
theorem stagedAccepted_state (s : State) {n : Nat} (x : Nat) (h : n < 1024) :
    (inst (stagedAccepted s (entryKey 0x2110 2 (n + 1)) x) n).state = if x = 1 then (if fnExists s n then 2 else 1) else 4 := by
  obtain ⟨-, -, unit⟩ := instanceCtrl_key h
  have ctrl : entryKey 0x2110 2 (n + 1) / 2048 = K.instanceCtrl / 2048 := by
    have : K.instanceCtrl = entryKey 0x2110 2 0 := by decide
    rw [this]
    simp only [entryKey]
    omega
  have frame := (mbRefresh_from (s := s) n).keeps
  have ex : fnExists (mbRefresh s n) n = fnExists s n :=
    fnExists_congr (frame.portMode rfl) (frame.vfSplit rfl) (frame.portA rfl) (frame.portB rfl) n
  simp only [stagedAccepted, unit, Nat.add_sub_cancel, Nat.succ_ne_zero, if_false, ctrl, if_true]
  rw [instanceCtrlAccept_state, ex]

theorem writeStagedPersisted_inst {s : State} (q : MiowaReq) (key x : Nat) (b : Bytes) (room : canStage s (applyTide s) = true) (m : Nat) :
    inst (writeStagedPersisted s q key x b) m = inst (stagedAccepted (stageAt s (applyTide s) (.entry key x)) key x) m := by
  let u := stagedAccepted (stageAt s (applyTide s) (.entry key x)) key x
  have share : (shareWrite u key b.length).2.insts = u.insts := (shareWrite_keeps u key b.length).insts rfl
  have eq : writeStagedPersisted s q key x b = journalAsk (shareWrite u key b.length).2
      ⟨q, true, [jrec key 2 b (applyTide s)], 1, [(key, v s key)], (shareWrite u key b.length).1, .rwsp (applyTide s)⟩ := by
    simp only [writeStagedPersisted, room, Bool.not_true, Bool.false_eq_true, if_false]
    rfl
  rw [eq]
  exact congrArg (fun x : Assoc Inst => x.getD m Inst.fresh) share

/-- A write of INSTANCE_CTRL that passes its check is staged and persisted. -/
theorem writeAccess_instanceCtrl {s : State} {a : Access} {r : Row} {n : Nat} (x : Nat)
    (found : lookup s a.path 0x2110 2 a.inst = .ok (r, entryKey 0x2110 2 (n + 1))) :
    writeAccess s a 0x2110 2 x =
      if writeCheck s r (entryKey 0x2110 2 (n + 1)) x ≠ 0 then
        reply s (reqOf a 2 0x2110 2) (entryKey 0x2110 2 (n + 1)) (.code (writeCheck s r (entryKey 0x2110 2 (n + 1)) x)) []
      else writeStagedPersisted s (reqOf a 2 0x2110 2) (entryKey 0x2110 2 (n + 1)) x (leBytes r.size x) := by
  obtain ⟨row, -⟩ := lookup_ok found
  have acc : r.acc = 6 := by
    cases row
    rfl
  have rw : readOnly r 2 = false := by
    cases row
    rfl
  simp only [writeAccess, found, rw, Bool.false_eq_true, if_false, writeEntry, commitWrite, acc, Nat.reduceEqDiff, if_true]

/-- A refused write of INSTANCE_CTRL is one answer. -/
theorem writeAccess_refused {s : State} {a : Access} {r : Row} {n x code : Nat}
    (found : lookup s a.path 0x2110 2 a.inst = .ok (r, entryKey 0x2110 2 (n + 1)))
    (check : writeCheck s r (entryKey 0x2110 2 (n + 1)) x = code) (nonzero : code ≠ 0) :
    Answered (writeAccess s a 0x2110 2 x) a.path 2 a.tag code [] ∧ OnlyAnswered s (writeAccess s a 0x2110 2 x) [] := by
  rw [writeAccess_instanceCtrl x found, check, if_pos nonzero]
  exact ⟨reply_answered .., reply_onlyAnswered ..⟩

-- ===== a reclaim that ends (R106) =====

/-- A controller's reset leaves no queue of its function. -/
theorem resetController_queues (s : State) (fn : Nat) {q : Nat} (h : q < 8192) :
    (resetController s fn).sqs.get? (qkey fn q) = none ∧ (resetController s fn).cqs.get? (qkey fn q) = none := by
  have mine : (!(qkey fn q / 8192 == fn)) = false := by
    have : qkey fn q / 8192 = fn := by
      simp only [qkey]
      omega
    simp only [this, beq_self_eq_true, Bool.not_true]
  have gone (α : Type) (m : Assoc α) : (m.keep (fun k _ => !(k / 8192 == fn))).get? (qkey fn q) = none := by
    rw [get?_keep_key, mine]
    rfl
  exact ⟨gone .., gone ..⟩

/-- The controller of a reclaimed Instance is reset and its session closed; its entries are cleared; it is attached to no namespace. -/
def reclaimCleared (s : State) (n : Nat) : State :=
  let s := clearEntries (closeSession (resetController (tally s 5) n) n) (reclaimEntry n)
  { s with
      nss := s.nss.mapVal (fun _ x => { x with attached := x.attached.filter (· != n) })
      dict := s.dict.del (instKey K.lossAck n)
      staged := s.staged.filter (fun x => match x.op with
        | .entry k _ => !reclaimEntry n k
        | _ => true)
      store := { s.store with journal := s.store.journal.filter (fun r => !reclaimEntry n r.key) } }

/-- The Instance then is as at first. -/
def reclaimFresh (s : State) (n : Nat) : State :=
  lossPrune (modInst (reclaimCleared s n) n (fun i => { Inst.fresh with state := i.state }))

theorem inst_reclaimFresh (s : State) (n : Nat) : inst (reclaimFresh s n) n = { Inst.fresh with state := (inst (reclaimCleared s n) n).state } :=
  inst_modInst_self (reclaimCleared s n) n (fun i => { Inst.fresh with state := i.state })

theorem reclaimFinished_of_idle {s : State} {n : Nat} (going : (inst s n).reclaiming = true)
    (idle : ∀ f ∈ s.flights, f.fn = n → f.sqid = 0 ∧ f.opcode = 0x0C) :
    reclaimFinished s n = instStateTo (reclaimFresh s n) n 0 := by
  have none : s.flights.any (fun f => f.fn == n && !(f.sqid == 0 && f.opcode == 0x0C)) = false := by
    refine List.any_eq_false.2 fun f hf => ?_
    simp only [Bool.and_eq_true, beq_iff_eq, Bool.not_eq_true', Bool.and_eq_false_iff, beq_eq_false_iff_ne, not_and, not_or, Classical.not_not]
    exact idle f hf
  simp only [reclaimFinished, going, none, Bool.not_true, Bool.or_false, Bool.false_eq_true, if_false]
  rfl

theorem reclaimCleared_queues (s : State) (n : Nat) {q : Nat} (h : q < 8192) : (reclaimCleared s n).sqs.get? (qkey n q) = none := by
  have same : (reclaimCleared s n).sqs = (resetController (tally s 5) n).sqs := (closeSession_from n).keeps.sqs rfl
  rw [same]
  exact (resetController_queues _ n h).1

theorem reclaimCleared_attached (s : State) (n k : Nat) {ns : Ns} (h : (reclaimCleared s n).nss.get? k = some ns) : n ∉ ns.attached := by
  simp only [reclaimCleared, get?_mapVal] at h
  obtain ⟨x, -, rfl⟩ := Option.map_eq_some_iff.1 h
  intro has
  exact absurd (List.mem_filter.1 has).2 (by simp)

-- ===== a VF that comes to exist (R90) =====

/-- An Instance whose VF comes to exist is STAGED, and goes LIVE at its applying tide. -/
def vfComes (s : State) (n : Nat) : State := if (inst s n).state = 1 then instStateTo (stageAt s (applyTide s) (.live n)) n 2 else s

theorem applyTide_congr {s t : State} (clk : t.clk = s.clk) (h : OnlyEntries s t [K.mbPending]) : applyTide t = applyTide s := by
  unfold applyTide tideLenNs
  rw [clk, h K.tideCloseMargin (by decide), h K.tideLength (by decide)]

theorem stageAt_keeps_live (s : State) (t n m w : Nat) (h : (⟨w, .live n⟩ : Staged) ∈ s.staged) :
    (⟨w, .live n⟩ : Staged) ∈ (stageAt s t (.live m)).staged :=
  List.mem_append_left _ (List.mem_filter.2 ⟨h, rfl⟩)

theorem vfComes_frame (s : State) (n : Nat) : (vfComes s n).clk = s.clk ∧ OnlyEntries s (vfComes s n) [K.mbPending] ∧
    (vfComes s n).portA = s.portA ∧ (vfComes s n).portB = s.portB ∧ (vfComes s n).portMode = s.portMode ∧ (vfComes s n).vfSplit = s.vfSplit := by
  unfold vfComes
  split
  · have frame := (instStateTo_from (s := stageAt s (applyTide s) (.live n)) n 2).keeps
    exact ⟨frame.clk rfl, onlyEntries_trans (onlyEntries_of_dict _ rfl) (instStateTo_onlyEntries _ _ _), frame.portA rfl, frame.portB rfl,
      frame.portMode rfl, frame.vfSplit rfl⟩
  · exact ⟨rfl, onlyEntries_refl _ _, rfl, rfl, rfl, rfl⟩

/-- What stands of an Instance after others, or it, came to exist: STAGED with its change, or still COMMITTED_ABSENT. -/
def Comes (s t : State) (n : Nat) : Prop :=
  ((inst t n).state = 2 ∧ (⟨applyTide s, .live n⟩ : Staged) ∈ t.staged) ∨ (inst t n).state = 1

theorem comes_vfComes {s t : State} {n : Nat} (tide : applyTide t = applyTide s) (h : Comes s t n) (m : Nat) : Comes s (vfComes t m) n := by
  unfold vfComes
  split
  · next absent =>
    have staged := (instStateTo_from (s := stageAt t (applyTide t) (.live m)) m 2).keeps.staged rfl
    by_cases same : n = m
    · subst same
      refine .inl ⟨instStateTo_self .., ?_⟩
      rw [staged, tide]
      exact mem_stageAt ..
    · have state : (inst (instStateTo (stageAt t (applyTide t) (.live m)) m 2) n).state = (inst t n).state := instStateTo_other _ 2 same
      unfold Comes
      rw [state, staged]
      exact h.imp_left (And.imp_right (stageAt_keeps_live _ _ _ _ _))
  · exact h

theorem vfComes_self {s : State} {n : Nat} (h : (inst s n).state = 2 ∨ (inst s n).state = 1) : (inst (vfComes s n) n).state = 2 := by
  unfold vfComes
  split
  · exact instStateTo_self ..
  · next not => exact h.resolve_right not

/-- The VFs that come to exist, one after the other. -/
theorem vfsCome (s t : State) (l : List Nat) (clk : t.clk = s.clk) (only : OnlyEntries s t [K.mbPending]) :
    (∀ n, Comes s t n → Comes s (l.foldl vfComes t) n) ∧ (∀ n ∈ l, Comes s t n → (inst (l.foldl vfComes t) n).state = 2) ∧
      (l.foldl vfComes t).portA = t.portA ∧ (l.foldl vfComes t).portB = t.portB ∧ (l.foldl vfComes t).portMode = t.portMode ∧
      (l.foldl vfComes t).vfSplit = t.vfSplit := by
  induction l generalizing t with
  | nil => exact ⟨fun _ h => h, fun _ h => (List.not_mem_nil h).elim, rfl, rfl, rfl, rfl⟩
  | cons m l ih =>
    obtain ⟨mclk, monly, a, b, mode, split⟩ := vfComes_frame t m
    have step (n : Nat) (h : Comes s t n) : Comes s (vfComes t m) n := comes_vfComes (applyTide_congr clk only) h m
    obtain ⟨keep, reach, ka, kb, kmode, ksplit⟩ := ih (vfComes t m) (mclk.trans clk) (onlyEntries_trans only monly)
    have stays (u : State) (n : Nat) (k : List Nat) (h : (inst u n).state = 2) : (inst (k.foldl vfComes u) n).state = 2 := by
      induction k generalizing u with
      | nil => exact h
      | cons x k ih =>
        refine ih _ ?_
        unfold vfComes
        split
        · next absent =>
          have other : n ≠ x := fun e => by rw [e, absent] at h; cases h
          exact (instStateTo_other _ 2 other).trans h
        · exact h
    refine ⟨fun n h => keep n (step n h), fun n hn h => ?_, ka.trans a, kb.trans b, kmode.trans mode, ksplit.trans split⟩
    rcases List.mem_cons.1 hn with rfl | later
    · exact stays (vfComes t n) n l (vfComes_self (h.imp_left And.left))
    · exact reach n later (step n h)

/-- The most VFs a port takes. -/
def vfTotal (s : State) (p : Nat) : Nat := if s.portMode = 0 then (if p = 0 then s.vfSplit else 1022 - s.vfSplit) else 1023

/-- The VFs of a port that are enabled anew: those that exist then come to exist, and none is gone. -/
theorem vfEnable_of_off {s : State} {pf : Nat} (num : Nat) (h : isPf s pf = true) (off : (port s (portOf s pf)).vfEnable = false) : ∃ u l,
    u = modPort s (portOf s pf) (fun x => { x with vfEnable := true, numVfs := Nat.min num (vfTotal s (portOf s pf)) }) ∧
    l = (portFns u (portOf s pf)).filter (fun n => !isPf s n) ∧ vfEnable s pf num true = l.foldl vfComes u := by
  refine ⟨_, _, rfl, rfl, ?_⟩
  have before : (portFns s (portOf s pf)).filter (fun n => !isPf s n) = [] := by
    refine List.filter_eq_nil_iff.2 fun n hn => ?_
    obtain ⟨exist, here⟩ := List.mem_filter.1 hn
    have ex : fnExists s n = true := (List.mem_filter.1 exist).2
    rw [beq_iff_eq] at here
    simp only [fnExists, here, off, Bool.and_false, Bool.false_and, Bool.or_false] at ex
    simp only [ex, Bool.not_true, Bool.false_eq_true, not_false_eq_true]
  simp only [vfEnable, h, Bool.not_true, Bool.false_eq_true, if_false, before, List.filter_nil, List.foldl_nil, vfsAbsent,
    List.contains_nil, Bool.not_false, List.filter_eq_self.2 (fun _ _ => rfl)]
  rfl

/-- Settles O14. -/
theorem instanceLife : Obligations.instance_life := by
  intro s
  refine ⟨fun a r n hn found => ?_, fun n going idle => ?_, fun pf num hpf off => ?_⟩
  · obtain ⟨row, -⟩ := lookup_ok found
    have accepted (x : Nat) (check : writeCheck s r (entryKey 0x2110 2 (n + 1)) x = 0) : writeAccess s a 0x2110 2 x =
        writeStagedPersisted s (reqOf a 2 0x2110 2) (entryKey 0x2110 2 (n + 1)) x (leBytes r.size x) := by
      rw [writeAccess_instanceCtrl x found, check]
      rfl
    refine ⟨fun check room => ⟨_, next_congr (accepted 1 check), ?_⟩, fun check room => ⟨_, next_congr (accepted 2 check), ?_⟩,
      fun pf => ⟨_, rfl, ?_⟩, fun vf used => ⟨_, rfl, ?_⟩⟩
    · obtain ⟨resp, staged, p, queue, -⟩ := writeStagedPersisted_stages (reqOf a 2 0x2110 2) (entryKey 0x2110 2 (n + 1)) 1 (leBytes r.size 1) room
      refine ⟨?_, staged, ?_, resp⟩
      · rw [writeStagedPersisted_inst _ _ _ _ room, stagedAccepted_state _ 1 hn]
        rfl
      · rw [queue, List.length_append, List.length_singleton]
    · obtain ⟨-, staged, -⟩ := writeStagedPersisted_stages (reqOf a 2 0x2110 2) (entryKey 0x2110 2 (n + 1)) 2 (leBytes r.size 2) room
      refine ⟨?_, staged⟩
      rw [writeStagedPersisted_inst _ _ _ _ room, stagedAccepted_state _ 2 hn]
      rfl
    · refine writeAccess_refused found ?_ (by decide)
      rw [writeCheck_instanceCtrl s hn row (.inl rfl)]
      simp only [instanceCtrlCheck, pf, if_true]
    · refine writeAccess_refused found ?_ (by decide)
      rw [writeCheck_instanceCtrl s hn row (.inl rfl)]
      simp only [instanceCtrlCheck, vf, used, Bool.false_eq_true, if_false, if_true, ne_eq, not_false_eq_true]
  · have frame := (instStateTo_from (s := reclaimFresh s n) n 0).keeps
    obtain ⟨mb, eq⟩ := instStateTo_inst (reclaimFresh s n) n 0 n
    rw [inst_reclaimFresh] at eq
    refine ⟨_, next_congr (congrArg settle (reclaimFinished_of_idle going idle)), instStateTo_self .., ?_, ?_, ?_, fun q hq => ?_, fun k ns hk => ?_⟩
    iterate 3 rw [eq]; rfl
    · rw [frame.sqs rfl]
      exact reclaimCleared_queues s n hq
    · rw [frame.nss rfl] at hk
      exact reclaimCleared_attached s n k hk
  · obtain ⟨u, l, hu, hl, run⟩ := vfEnable_of_off num hpf off
    have uport : port u (portOf s pf) = { port s (portOf s pf) with vfEnable := true, numVfs := Nat.min num (vfTotal s (portOf s pf)) } := by
      rw [hu, port_modPort_self]
    have uframe : u.clk = s.clk ∧ u.dict = s.dict ∧ u.insts = s.insts ∧ u.portMode = s.portMode ∧ u.vfSplit = s.vfSplit := by
      rw [hu, modPort_frame]
      exact ⟨rfl, rfl, rfl, rfl, rfl⟩
    obtain ⟨uclk, udict, uinsts, umode, usplit⟩ := uframe
    obtain ⟨comes, reach, ka, kb, kmode, ksplit⟩ := vfsCome s u l uclk (onlyEntries_of_dict _ udict)
    have kport (p : Nat) : port (l.foldl vfComes u) p = port u p := by
      simp only [port, ka, kb]
    refine ⟨_, next_congr (congrArg settle run), ?_, ?_, fun n vf here hn ex absent => ?_⟩
    · rw [kport, uport]
    · rw [kport, uport]
      rfl
    · have uabsent : Comes s u n := .inr (by rw [inst, uinsts]; exact absent)
      rw [fnExists_congr kmode ksplit ka kb] at ex
      have uhere : portOf u n = portOf s pf := by rw [portOf, umode, usplit]; exact here
      have mem : n ∈ l := by
        rw [hl]
        refine List.mem_filter.2 ⟨List.mem_filter.2 ⟨List.mem_filter.2 ⟨List.mem_range.2 hn, ex⟩, ?_⟩, ?_⟩
        · exact beq_iff_eq.2 uhere
        · rw [vf]
          rfl
      have two := reach n mem uabsent
      refine ⟨two, ?_⟩
      rcases comes n uabsent with ⟨-, staged⟩ | one
      · exact staged
      · rw [two] at one
        cases one

end Sys2Proof.Instances

/-! The life of a controller, and its queues (R93, R105, R110, R121, R124, R198, R370). -/
namespace Sys2Proof.Controllers
open Sys2Proof Sys2Proof.Machine Sys2Proof.Effects Sys2Proof.Stores Sys2Proof.Instances

theorem bitAt_withBit_self (x i : Nat) : bitAt (withBit x i true) i = true := by
  unfold withBit
  split
  · next h => exact h
  · next h =>
    have off : x / 2 ^ i % 2 = 0 := by
      simp only [bitAt, beq_iff_eq] at h
      omega
    simp only [bitAt, if_true, Nat.add_div_right _ (Nat.two_pow_pos i), beq_iff_eq]
    omega

/-- CC.SHN after a write of it. -/
theorem fld_shn (cc shn : Nat) (h : shn < 4) : fld (cc - fld cc 15 14 * 2 ^ 14 + shn % 4 * 2 ^ 14) 15 14 = shn := by
  simp only [fld]
  omega

theorem modInst_frame (s : State) (n : Nat) (f : Inst → Inst) : modInst s n f = { s with insts := (modInst s n f).insts } := rfl

theorem resetController_inst (s : State) (fn : Nat) : (inst (resetController s fn) fn).cc = 0 ∧ (inst (resetController s fn) fn).rdy = false := by
  unfold resetController inst
  simp only [Assoc.getD_put_self]
  exact ⟨rfl, rfl⟩

/-- Settles O15. -/
theorem controllerLife : Obligations.controller_life := by
  intro s fn ex
  refine ⟨fun cc off => ?_, ?_, fun shn hshn => ?_, fun on still => ?_, fun on flush => ?_, fun b => ?_⟩
  · have can : (fnExists s fn && !bitAt (inst s fn).cc 0) = true := by rw [ex, off]; rfl
    refine ⟨_, next_congr (if_pos can), ?_, Assoc.get?_put_self .., fun k hk => ⟨Assoc.get?_put_ne _ _ hk, Assoc.get?_put_ne _ _ hk⟩,
      fun n hn => inst_modInst_ne _ _ hn, rfl⟩
    rw [inst_modInst_self]
    exact bitAt_withBit_self _ _
  · cases ready : readyOk s fn with
    | false => exact ⟨s, next_congr (if_neg (Bool.eq_false_iff.1 ready)), fun h => absurd h Bool.false_ne_true, fun _ => rfl, rfl, fun _ _ => rfl⟩
    | true =>
      exact ⟨_, next_congr (if_pos ready), fun _ => ⟨inst_modInst_self .., rfl⟩, fun h => absurd h.symm Bool.false_ne_true, rfl,
        fun n hn => inst_modInst_ne _ _ hn⟩
  · have small : shn % 4 = shn := by omega
    have shut : shn % 4 = 1 ∨ shn % 4 = 2 := by omega
    refine ⟨modInst s fn (fun i => { i with
      cc := i.cc - fld i.cc 15 14 * 2 ^ 14 + shn % 4 * 2 ^ 14, shst := if shn % 4 = 1 ∨ shn % 4 = 2 then 2 else i.shst }), ?_, ?_, ?_, rfl,
      fun n hn => inst_modInst_ne _ _ hn⟩
    · refine next_congr (congrArg settle ?_)
      simp only [ccShutdown, ex, Bool.not_true, Bool.false_eq_true, if_false]
      exact if_pos shut
    · rw [inst_modInst_self]
      exact if_pos shut
    · rw [inst_modInst_self]
      exact fld_shn _ _ (by omega)
  · have run : controllerReset s fn = dropTransfers (resetController (tally s 5) fn) := by
      simp only [controllerReset, ex, on, still, Bool.not_true, Bool.or_false, Bool.false_eq_true, if_false]
    obtain ⟨cc, rdy⟩ := resetController_inst (tally s 5) fn
    exact ⟨_, next_congr (congrArg settle run), cc, rdy, fun q hq => resetController_queues _ _ hq, rfl⟩
  · have run : controllerReset s fn = { s with power := { s.power with heldResets := s.power.heldResets ++ [(1, fn)] } } := by
      simp only [controllerReset, ex, on, flush, Bool.not_true, Bool.or_false, Bool.false_eq_true, if_false, if_true]
    exact ⟨_, next_congr (congrArg settle run), rfl⟩
  · exact ⟨_, next_congr (if_pos ex), inst_modInst_self .., rfl, fun n hn => inst_modInst_ne _ _ hn⟩

-- ===== completion queues =====

/-- Every completion queue of `s` is there in `t`, of the same size, vector and interrupt enable. -/
def QueuesKept (s t : State) : Prop := ∀ k q, s.cqs.get? k = some q → ∃ q', t.cqs.get? k = some q' ∧ q'.size = q.size ∧ q'.vector = q.vector ∧ q'.ien = q.ien

theorem queuesKept_of_cqs {s t : State} (h : t.cqs = s.cqs) : QueuesKept s t := fun _ q hq => ⟨q, by rw [h]; exact hq, rfl, rfl, rfl⟩

theorem queuesKept_trans {s t u : State} (h : QueuesKept s t) (k : QueuesKept t u) : QueuesKept s u := fun i q hq => by
  obtain ⟨q', hq', size, vector, ien⟩ := h i q hq
  obtain ⟨q'', hq'', size', vector', ien'⟩ := k i q' hq'
  exact ⟨q'', hq'', size'.trans size, vector'.trans vector, ien'.trans ien⟩

/-- A queue written with its own size, vector and interrupt enable. -/
theorem queuesKept_of_put {s t : State} {fn qid : Nat} {x : Cq} (h : t.cqs = s.cqs.put (qkey fn qid) x) (size : x.size = (cqOf s fn qid).size)
    (vector : x.vector = (cqOf s fn qid).vector) (ien : x.ien = (cqOf s fn qid).ien) : QueuesKept s t := fun k q hq => by
  rw [h, get?_put]
  by_cases hk : k = qkey fn qid
  · have same : cqOf s fn qid = q := by rw [cqOf, Assoc.getD, ← hk, hq]; rfl
    rw [same] at size vector ien
    exact ⟨x, if_pos hk, size, vector, ien⟩
  · exact ⟨q, by rw [if_neg hk]; exact hq, rfl, rfl, rfl⟩

/-- An interrupt, or the count that waits for it, is of its own queue. -/
theorem cqInterrupt_queues (s : State) (fn qid : Nat) :
    QueuesKept s (cqInterrupt s fn qid) ∧ ∀ k, k ≠ qkey fn qid → (cqInterrupt s fn qid).cqs.get? k = s.cqs.get? k := by
  simp only [cqInterrupt]
  split
  · exact ⟨queuesKept_of_cqs rfl, fun _ _ => rfl⟩
  · split
    · exact ⟨queuesKept_of_put rfl rfl rfl rfl, fun k hk => Assoc.get?_put_ne _ _ hk⟩
    · exact ⟨queuesKept_of_cqs rfl, fun _ _ => rfl⟩

/-- A completion entry is posted to its own queue. -/
theorem postCqe_queues (s : State) (fn qid : Nat) (e : Cqe) :
    QueuesKept s (postCqe s fn qid e) ∧ ∀ k, k ≠ qkey fn qid → (postCqe s fn qid e).cqs.get? k = s.cqs.get? k := by
  simp only [postCqe]
  split
  · exact ⟨queuesKept_of_put rfl rfl rfl rfl, fun k hk => Assoc.get?_put_ne _ _ hk⟩
  · refine ⟨queuesKept_trans ?_ (cqInterrupt_queues _ fn qid).1, fun k hk => ((cqInterrupt_queues _ fn qid).2 k hk).trans (Assoc.get?_put_ne _ _ hk)⟩
    apply queuesKept_of_put (fn := fn) (qid := qid)
    iterate 4 rfl

theorem completeRetry_queuesKept (s : State) (f : Flight) (st : NvStatus) (dw0 dw1 crd : Nat) : QueuesKept s (completeRetry s f st dw0 dw1 crd) := by
  obtain ⟨ws, u, hu, e⟩ := completeRetry_eq s f st dw0 dw1 crd
  have before : u.cqs = s.cqs := by
    rw [hu]
    exact ((traceItem_from ..).keeps.cqs rfl).trans ((histCommand_from f).keeps.cqs rfl)
  rw [e]
  refine queuesKept_trans (queuesKept_of_cqs ?_) (postCqe_queues _ _ _ _).1
  split
  · exact before
  · exact before

theorem complete_queuesKept (s : State) (c : Cmd) (st : NvStatus) (dw0 : Nat) : QueuesKept s (complete s c st dw0) := by
  unfold complete
  split
  · exact completeRetry_queuesKept _ _ _ _ _ _
  · exact (postCqe_queues _ _ _ _).1

/-- A command that is not in flight completes on the queue of its submission queue, and every other queue is as it was. -/
theorem complete_other_queues {s : State} {c : Cmd} (st : NvStatus) (dw0 : Nat) {k : Nat} (idle : flight? s c.fn c.sqid c.cid = none)
    (h : k ≠ qkey c.fn (cqidOf s c.fn c.sqid)) : (complete s c st dw0).cqs.get? k = s.cqs.get? k := by
  rw [complete, idle]
  exact (postCqe_queues _ _ _ _).2 k h

-- ===== the queue commands =====

theorem isOk_of_ne {st : NvStatus} (h : st ≠ .success) : st.isOk = false := by
  cases st <;> first | rfl | exact absurd rfl h

theorem createSq_of_status {s : State} {c : Cmd} {qid size cqid : Nat} (prio : Nat) {pc : Bool} {st : NvStatus}
    (h : createSqStatus s c qid size cqid pc = st) (no : st ≠ .success) : createSq s c qid size cqid prio pc = complete s c st 0 := by
  simp only [createSq, h, isOk_of_ne no, Bool.false_eq_true, if_false]

theorem createCq_of_status {s : State} {c : Cmd} {qid size vec : Nat} {pc : Bool} (ien : Bool) {st : NvStatus}
    (h : createCqStatus s c qid size vec pc = st) (no : st ≠ .success) : createCq s c qid size vec pc ien = complete s c st 0 := by
  simp only [createCq, h, isOk_of_ne no, Bool.false_eq_true, if_false]

/-- The submission queue is gone, with its context and what waited for it; the commands not fetched have completed. -/
def sqDeleted (s : State) (c : Cmd) (qid : Nat) (q : Sq) (unfetched : List Nat) : State :=
  let n := (q.tail + q.size - q.head) % q.size
  let s := ((unfetched.take n).filter (fun cid => !s.eng.aborted.contains (qkey c.fn qid, cid))).foldl
    (fun s cid => postCqe s c.fn q.cqid ⟨qid, cid, .abortedSqDeletion, 0, 0, 0⟩) s
  { s with
    sqs := s.sqs.del (qkey c.fn qid)
    eng := { s.eng with qctx := s.eng.qctx.filter (· != qkey c.fn qid), filling := s.eng.filling.filter (fun x => x.1 != qkey c.fn qid)
                        aborted := s.eng.aborted.filter (fun x => x.1 != qkey c.fn qid) } }

theorem deleteSq_of_held {s : State} {c : Cmd} {qid : Nat} {q : Sq} (l : List Nat) (io : qid ≠ 0) (res : c.resv = false)
    (h : sqOf s c.fn qid = some q) : deleteSq s c qid l = complete (sqDeleted s c qid q l) c .success 0 := by
  simp only [deleteSq, io, h, res, Bool.false_eq_true, if_false]
  rfl

/-- The completions of a deleted queue change what completions change. -/
theorem sqDeleted_posted (s : State) (c : Cmd) (qid : Nat) (q : Sq) (l : List Nat) : ∃ u, From 1141374976 s u ∧
    sqDeleted s c qid q l = { u with
      sqs := u.sqs.del (qkey c.fn qid)
      eng := { u.eng with qctx := u.eng.qctx.filter (· != qkey c.fn qid), filling := u.eng.filling.filter (fun x => x.1 != qkey c.fn qid)
                          aborted := u.eng.aborted.filter (fun x => x.1 != qkey c.fn qid) } } :=
  ⟨_, From.foldl (From.refl _ _) (fun _ cid h => From.step (postCqe_from c.fn q.cqid ⟨qid, cid, .abortedSqDeletion, 0, 0, 0⟩) h rfl) _, rfl⟩

/-- Settles O17. -/
theorem queueCommands : Obligations.queue_commands := by
  intro s c sound
  refine ⟨fun qid size cqid prio pc ok => ?_, fun qid size cqid prio pc st h no => rejected_of_exec (next_congr (createSq_of_status prio h no)),
    fun qid size vec pc ien ok => ?_, fun qid size vec pc ien st h no => rejected_of_exec (next_congr (createCq_of_status ien h no)),
    fun qid l q io res held => ?_, fun qid l no => ?_, fun qid res io has => ⟨fun bound => ?_, fun free idle other small hq => ?_⟩⟩
  · have run : createSq s c qid size cqid prio pc =
        complete { s with sqs := s.sqs.put (qkey c.fn qid) ⟨cqid, size + 1, 0, 0, prio % 4⟩ } c .success 0 := by
      simp only [createSq, ok]
      rfl
    exact ⟨_, next_congr run, complete_completed .., complete_onlyCompleted ..⟩
  · let u : State := { s with cqs := s.cqs.put (qkey c.fn qid) { Cq.fresh with size := size + 1, vector := vec, ien := ien } }
    have run : createCq s c qid size vec pc ien = complete u c .success 0 := by
      simp only [createCq, ok]
      rfl
    obtain ⟨q, hq, qsize, vector, qien⟩ := complete_queuesKept u c .success 0 (qkey c.fn qid) _ (Assoc.get?_put_self ..)
    obtain ⟨frame, only⟩ := complete_onlyCompleted u c .success 0
    exact ⟨_, q, next_congr run, complete_completed .., ⟨frame, only⟩, hq, qsize, vector, qien⟩
  · obtain ⟨u, posted, eq⟩ := sqDeleted_posted s c qid q l
    let w := sqDeleted s c qid q l
    have frame : Keeps 1143734272 s w := by
      have first : Keeps 1143734272 s u := posted.keeps.weaken rfl
      refine first.trans ?_
      show Keeps 1143734272 u (sqDeleted s c qid q l)
      rw [eq]
      exact Keeps.leaf (c := 2359296) rfl rfl
    have done := (complete_from (s := w) c .success 0).keeps
    have sqs : (complete w c .success 0).sqs = s.sqs.del (qkey c.fn qid) := by
      rw [done.sqs rfl, show w = _ from eq, posted.keeps.sqs rfl]
    have whole : (complete w c .success 0).eng = w.eng := done.eng rfl
    refine ⟨_, next_congr (deleteSq_of_held l io res held), complete_completed .., sqs, ?_, ?_, ?_, ?_⟩
    · rw [whole, show w = _ from eq]
      intro has
      exact absurd (List.mem_filter.1 has).2 (by simp)
    · rw [whole, show w = _ from eq]
      intro x hx
      exact bne_iff_ne.1 (List.mem_filter.1 hx).2
    · exact (frame.weaken (m := 1144915458) rfl).trans (done.weaken rfl)
    · exact onlyEntries_trans (onlyEntries_of_dict _ (frame.dict rfl)) (complete_onlyEntries _ _ _ _)
  · refine rejected_of_exec (dw0 := 0) (next_congr ?_)
    have gone : (if qid = 0 then none else sqOf s c.fn qid) = none := by
      rcases no with zero | no
      · exact if_pos zero
      · rw [no, ite_self]
    simp only [deleteSq, gone]
  · refine rejected_of_exec (dw0 := 0) (next_congr ?_)
    simp only [deleteCq, res, io, has, bound, Bool.not_true, Bool.false_eq_true, or_false, if_false, if_true]
  · let u : State := { s with cqs := s.cqs.del (qkey c.fn qid) }
    have run : deleteCq s c qid = complete u c .success 0 := by
      simp only [deleteCq, res, io, has, free, Bool.not_true, Bool.false_eq_true, or_false, if_false, u]
    obtain ⟨frame, only⟩ := complete_onlyCompleted u c .success 0
    refine ⟨_, next_congr run, complete_completed .., ?_, ⟨frame, only⟩⟩
    have apart : qkey c.fn qid ≠ qkey c.fn (cqidOf u c.fn c.sqid) := fun e => other (by simp only [qkey] at e; exact (Nat.add_left_cancel e).symm)
    rw [complete_other_queues .success 0 (s := u) idle apart]
    exact get?_del_self _ sound.cqs

end Sys2Proof.Controllers

/-! Key sessions and deliveries (R106 to R109). -/
namespace Sys2Proof.Keys
open Sys2Proof Sys2Proof.Machine Sys2Proof.Effects Sys2Proof.Stores Sys2Proof.Answers

-- ===== what a completion changes of an Instance =====

/-- Between `s` and `t` no Instance changed but its count of errors. -/
def ErrorsOnly (s t : State) : Prop := ∀ m, inst t m = { inst s m with errorCount := (inst t m).errorCount }

theorem errorsOnly_of_insts {s t : State} (h : t.insts = s.insts) : ErrorsOnly s t := fun m => by
  have same : inst t m = inst s m := congrArg (fun x : Assoc Inst => x.getD m Inst.fresh) h
  rw [same]

theorem errorsOnly_trans {s t u : State} (h : ErrorsOnly s t) (k : ErrorsOnly t u) : ErrorsOnly s u := fun m => by rw [k m, h m]

theorem completeRetry_errorsOnly (s : State) (f : Flight) (st : NvStatus) (dw0 dw1 crd : Nat) : ErrorsOnly s (completeRetry s f st dw0 dw1 crd) := by
  obtain ⟨ws, u, hu, e⟩ := completeRetry_eq s f st dw0 dw1 crd
  have before : ErrorsOnly s u := by
    rw [hu]
    exact errorsOnly_of_insts (((traceItem_from ..).keeps.insts rfl).trans ((histCommand_from f).keeps.insts rfl))
  have count : ErrorsOnly u (modInst u f.fn (fun i => { i with errorCount := i.errorCount + 1 })) := fun m => by
    by_cases h : m = f.fn
    · rw [h, inst_modInst_self]
    · rw [inst_modInst_ne _ _ h]
  have posted (t : State) : ErrorsOnly t (postCqe t f.fn f.cqid ⟨f.sqid, f.cid, st, dw0, dw1, crd⟩) :=
    errorsOnly_of_insts ((postCqe_from ..).keeps.insts rfl)
  rw [e]
  refine errorsOnly_trans before (errorsOnly_trans ?_ (posted _))
  split
  · exact errorsOnly_of_insts rfl
  · exact count

theorem complete_errorsOnly (s : State) (c : Cmd) (st : NvStatus) (dw0 : Nat) : ErrorsOnly s (complete s c st dw0) := by
  unfold complete
  split
  · exact completeRetry_errorsOnly _ _ _ _ _ _
  · exact errorsOnly_of_insts ((postCqe_from ..).keeps.insts rfl)

theorem respond_errorsOnly (s : State) (path : Path) (op tag cid idx sub : Nat) (a : Ans) (version : Nat) (value : Bytes) :
    ErrorsOnly s (respond s path op tag cid idx sub a version value) := by
  obtain ⟨r, hr, ⟨-, e⟩ | ⟨n, u, st, dw0, -, hu, e⟩⟩ := respond_cases s path op tag cid idx sub a version value
  · rw [e, hr, responded, counted_eq]
    exact errorsOnly_of_insts rfl
  · rw [e]
    refine errorsOnly_trans (errorsOnly_of_insts ?_) (complete_errorsOnly _ _ _ _)
    rw [hu, hr, responded, counted_eq]

-- ===== sessions =====

theorem closeSession_inst (s : State) (n m : Nat) :
    inst (closeSession s n) m = if m = n then { inst s m with session := none } else inst s m := by
  unfold closeSession
  split
  · show inst (modInst s n (fun i => { i with session := none })) m = _
    by_cases h : m = n
    · rw [h, inst_modInst_self, if_pos rfl]
    · rw [inst_modInst_ne _ _ h, if_neg h]
  · next closed =>
    by_cases h : m = n
    · rw [h, if_pos rfl]
      have none : (inst s n).session = none := Option.not_isSome_iff_eq_none.1 closed
      generalize inst s n = i at none ⊢
      cases i
      cases none
      rfl
    · rw [if_neg h]

theorem closeSession_frame (s : State) (n : Nat) :
    closeSession s n = { s with miowa := (closeSession s n).miowa, insts := (closeSession s n).insts } := (closeSession_from n).keeps

theorem openSession_inst (s : State) (n slice : Nat) : inst (openSession s n slice) n =
    { inst s n with session := some ⟨slice, (inst s n).nextSession, s.freeCtr⟩, nextSession := ((inst s n).nextSession + 1) % 2 ^ 32 } :=
  inst_modInst_self { s with freeCtr := s.freeCtr + 1 } n
    (fun i => { i with session := some ⟨slice, (inst s n).nextSession, s.freeCtr⟩, nextSession := ((inst s n).nextSession + 1) % 2 ^ 32 })

theorem domOf_setDom (s : State) (key : Nat) (b : Bytes) : domOf (setDom s key b) key = b := by
  simp only [setDom, domOf, Assoc.getD, get?_updD_self, Option.getD_some]

/-- An open session fills KEY_ENCAP. -/
theorem openSession_encap (s : State) (n slice : Nat) : domOf (openSession s n slice) (instKey K.keyEncap n) ≠ [] := by
  unfold openSession
  simp only [domOf_setDom]
  iterate 6 refine List.append_ne_nil_of_left_ne_nil ?_ _
  exact List.cons_ne_nil _ _

/-- A delivery closes the session, and loads a key only where it passes every check. -/
theorem deliverKey_cases (s : State) (n : Nat) (b : Bytes) :
    ((deliverKey s n b).1 ≠ 0 ∧ (deliverKey s n b).2 = closeSession s n) ∨
      ∃ key x, (inst s n).session = some x ∧ leAt b 0 4 = x.id ∧ leAt b 4 1 = x.slice ∧ key % 2 ^ 256 ≠ key / 2 ^ 256 ∧
        deliverKey s n b = (0, modInst (closeSession s n) n (fun i => { i with keys := i.keys.put x.slice key })) := by
  unfold deliverKey
  cases h : (inst s n).session with
  | none => exact .inl ⟨Nat.succ_ne_zero _, rfl⟩
  | some x =>
    simp only
    split
    · exact .inl ⟨Nat.succ_ne_zero _, rfl⟩
    · next named =>
      split
      · exact .inl ⟨Nat.succ_ne_zero _, rfl⟩
      · split
        · exact .inl ⟨Nat.succ_ne_zero _, rfl⟩
        · next halves =>
          split
          · exact .inl ⟨Nat.succ_ne_zero _, rfl⟩
          · obtain ⟨id, slice⟩ := not_or.1 named
            refine .inr ⟨_, x, rfl, Classical.not_not.1 id, Classical.not_not.1 slice, halves, ?_⟩
            rw [Classical.not_not.1 slice]

/-- Settles O16. -/
theorem keyDelivery : Obligations.key_delivery := by
  intro s a n hn
  have unit (sub : Nat) : entryKey 0x2120 sub (n + 1) % 2048 - 1 = n := by
    simp only [entryKey]
    omega
  refine ⟨fun r slice found good => ⟨fun may => ?_, fun refused => ?_⟩, fun r b found len may => ?_, ?_⟩
  · have op : coded (keySessionOp s a.path n slice) = (.code 0, openSession s n slice) := by
      simp only [keySessionOp, may, Bool.false_eq_true, if_false]
      rfl
    have run : accessWrite s a 0x2120 1 slice (fun s n => coded (keySessionOp s a.path n slice)) =
        respond (openSession s n slice) a.path 2 a.tag a.cid 0x2120 1 (.code 0) 0 [] := by
      rw [accessWrite_of_ok _ found good, unit, op]
    have i := respond_errorsOnly (openSession s n slice) a.path 2 a.tag a.cid 0x2120 1 (.code 0) 0 [] n
    rw [openSession_inst] at i
    refine ⟨_, next_congr run, ?_, ?_, ?_, ?_, respond_answered .., ?_⟩
    · rw [i]
    · rw [i]
    · rw [domOf, respond_resp]
      exact openSession_encap s n slice
    · rw [i]
    · have dict : (openSession s n slice).dict = s.dict := (openSession_from n slice).keeps.dict rfl
      exact onlyEntries_trans (onlyEntries_of_dict _ dict) (respond_onlyEntries _ _ _ _ _ _ _ _ _ _)
  · have op : coded (keySessionOp s a.path n slice) = (.code 0x04, s) := by
      simp only [keySessionOp, refused, if_true]
      rfl
    have run : accessWrite s a 0x2120 1 slice (fun s n => coded (keySessionOp s a.path n slice)) =
        respond s a.path 2 a.tag a.cid 0x2120 1 (.code 0x04) 0 [] := by
      rw [accessWrite_of_ok _ found good, unit, op]
    exact ⟨_, next_congr run, respond_answered .., respond_onlyAnswered ..⟩
  · let d := deliverKey s n b
    have op : coded (keyDeliverOp s a.path n b) = (.code d.1, d.2) := by
      simp only [keyDeliverOp, may, Bool.false_eq_true, if_false]
      rfl
    have run : accessBytes s a 0x2120 3 1176 b (fun s n => coded (keyDeliverOp s a.path n b)) =
        respond d.2 a.path 2 a.tag a.cid 0x2120 3 (.code d.1) 0 [] := by
      obtain ⟨row, -⟩ := lookup_ok found
      rw [accessBytes_of_ok _ row found (.inr len), unit, op]
      cases row
      rfl
    have i := respond_errorsOnly d.2 a.path 2 a.tag a.cid 0x2120 3 (.code d.1) 0 [] n
    have closed : inst (closeSession s n) n = { inst s n with session := none } := by rw [closeSession_inst, if_pos rfl]
    refine ⟨_, d.1, next_congr run, ?_, respond_answered .., ?_⟩
    · rw [i]
      rcases deliverKey_cases s n b with ⟨-, eq⟩ | ⟨key, x, -, -, -, -, eq⟩
      · rw [show d.2 = _ from eq, closed]
      · rw [show d.2 = _ from congrArg Prod.snd eq, inst_modInst_self, closed]
    · rw [i]
      rcases deliverKey_cases s n b with ⟨bad, eq⟩ | ⟨key, x, session, id, slice, halves, eq⟩
      · refine ⟨fun _ => ?_, fun ok => absurd ok bad⟩
        rw [show d.2 = _ from eq, closed]
      · refine ⟨fun bad => absurd (congrArg Prod.fst eq) bad, fun _ => ⟨key, x, session, id, slice, halves, ?_⟩⟩
        rw [show d.2 = _ from congrArg Prod.snd eq, inst_modInst_self, closed]
  · have closed : inst (closeSession s n) n = { inst s n with session := none } := by rw [closeSession_inst, if_pos rfl]
    exact ⟨_, rfl, by rw [closed], by rw [closed], closeSession_frame s n, fun m hm => by rw [closeSession_inst, if_neg hm]⟩

end Sys2Proof.Keys

/-! Doorbells, arbitration and fetches (R33, R35, R111 to R119). -/
namespace Sys2Proof.Fetching
open Sys2Proof Sys2Proof.Machine Sys2Proof.Effects Sys2Proof.Stores Sys2Proof.Controllers

theorem get?_upd {α : Type} (m : Assoc α) (k : Nat) (f : α → α) : (m.upd k f).get? k = (m.get? k).map f := by
  unfold Assoc.upd
  cases h : m.get? k with
  | none => exact h
  | some a => exact Assoc.get?_put_self ..

-- ===== doorbells =====

theorem sqTail_of_good {s : State} {fn qid x : Nat} {q : Sq} (h : sqOf s fn qid = some q) (good : x < q.size) :
    sqTail s fn qid x = { s with sqs := s.sqs.put (qkey fn qid) { q with tail := x } } := by
  simp only [sqTail, h, ge_iff_le, Nat.not_le.2 good, if_false]

/-- A doorbell that is refused is an event; no queue changes. -/
theorem sqTail_of_bad {s : State} {fn qid x : Nat} (h : ∀ q, sqOf s fn qid = some q → q.size ≤ x) : (sqTail s fn qid x).sqs = s.sqs := by
  unfold sqTail
  split
  · exact (aen_from ..).keeps.sqs rfl
  · next q hq =>
    rw [if_pos (h q hq)]
    exact (aen_from ..).keeps.sqs rfl

/-- A doorbell write aborts a sleep entry, and changes no queue by that. -/
theorem sqTailDoorbell_sqs (s : State) (fn qid x : Nat) : (sqTailDoorbell s fn qid x).sqs = (sqTail s fn qid x).sqs := by
  simp only [sqTailDoorbell]
  split
  · exact (wakeNow_from ..).keeps.sqs rfl
  · rfl

theorem wakeNow_of_entry {s : State} (source : Nat) (h : s.power.entry ≠ none) : (wakeNow s source).power.entry = none := by
  rw [wakeNow, if_pos (Option.isSome_iff_ne_none.2 h), (noteWake_from ..).keeps.power rfl]
  obtain ⟨e, he⟩ := Option.ne_none_iff_exists'.1 h
  simp only [sleepUndo, he]
  rfl

/-- What a completion queue posts from those it holds, it holds no more. -/
theorem postHeld_step {s : State} {fn qid n : Nat} {c : Cq} {e : Cqe} {r : List Cqe} (h : s.cqs.get? (qkey fn qid) = some c) (held : c.held = e :: r)
    (room : c.full = false) : ∃ s' c', postHeld (n + 1) s fn qid = postHeld n s' fn qid ∧ s'.cqs.get? (qkey fn qid) = some c' ∧ c'.held = r := by
  have here : cqOf s fn qid = c := by rw [cqOf, Assoc.getD, h]; rfl
  let u : State := { s with cqs := s.cqs.put (qkey fn qid) { c with held := [] } }
  obtain ⟨q', hq', -⟩ := (postCqe_queues u fn qid e).1 (qkey fn qid) _ (Assoc.get?_put_self ..)
  refine ⟨{ postCqe u fn qid e with cqs := (postCqe u fn qid e).cqs.upd (qkey fn qid) (fun c => { c with held := r }) }, { q' with held := r }, ?_, ?_, rfl⟩
  · simp only [postHeld, here, held, room, Bool.false_eq_true, if_false]
    rfl
  · show (Assoc.upd _ _ _).get? _ = _
    rw [get?_upd, hq']
    rfl

theorem postHeld_held (n : Nat) {s : State} {fn qid : Nat} {c : Cq} (h : s.cqs.get? (qkey fn qid) = some c) :
    ∃ c', (postHeld n s fn qid).cqs.get? (qkey fn qid) = some c' ∧ c'.held.length ≤ c.held.length := by
  induction n generalizing s c with
  | zero => exact ⟨c, h, Nat.le_refl _⟩
  | succ n ih =>
    have here : cqOf s fn qid = c := by rw [cqOf, Assoc.getD, h]; rfl
    cases held : c.held with
    | nil => exact ⟨c, by simp only [postHeld, here, held]; exact h, Nat.le_of_eq (by rw [held])⟩
    | cons e r =>
      cases room : c.full with
      | true => exact ⟨c, by simp only [postHeld, here, held, room, if_true]; exact h, Nat.le_of_eq (by rw [held])⟩
      | false =>
        obtain ⟨s', c', step, hc', left⟩ := postHeld_step (n := n) h held room
        obtain ⟨c'', hc'', le⟩ := ih hc'
        exact ⟨c'', by rw [step]; exact hc'', Nat.le_trans le (by rw [left]; exact Nat.le_succ _)⟩

theorem postHeld_of_none {n : Nat} {s : State} {fn qid : Nat} (h : (cqOf s fn qid).held = []) : postHeld n s fn qid = s := by
  cases n with
  | zero => rfl
  | succ n => simp only [postHeld, h]

/-- A head within the queue frees the entries up to it; what is held follows. -/
theorem cqHead_of_good {s : State} {fn qid x : Nat} {q : Cq} (h : s.cqs.get? (qkey fn qid) = some q) (good : x < q.size) : cqHead s fn qid x =
    postHeld q.size { s with cqs := s.cqs.put (qkey fn qid) { q with
      posted := q.posted.drop ((x + q.size - (q.tail + q.size - q.posted.length) % q.size) % q.size) } } fn qid := by
  simp only [cqHead, h, ge_iff_le, Nat.not_le.2 good, if_false]

-- ===== a fetch =====

theorem powerTrace_onlyEntries (s : State) (was : Nat) : OnlyEntries s (powerTrace s was) [K.traceLost] := by
  unfold powerTrace
  split
  · exact onlyEntries_refl _ _
  · exact traceItem_onlyEntries _ _ _ _ _

/-- What was fetched from a state with the same commands, sequence number, generation and clock was fetched; and a state with the same
commands and sequence number has it. -/
theorem fetched_congr {s s' t t' : State} {fn q : Nat} {e : SqEntry} (h : Fetched s t fn q e) (flights : s.flights = s'.flights)
    (next : s.eng.nextSeq = s'.eng.nextSeq) (gen : s.genNow = s'.genNow) (clk : s.clk = s'.clk) (tflights : t'.flights = t.flights)
    (tnext : t'.eng.nextSeq = t.eng.nextSeq) : Fetched s' t' fn q e := by
  unfold Fetched at h ⊢
  rw [tflights, tnext, ← flights, ← next, ← gen, ← clk]
  exact h

/-- The counters of a fetch are no count of grants. -/
theorem fetchGrants_ne (fn : Nat) {k : Nat} (h : K.fetchGrants ≤ k) : K.fetchGrants ≠ instKey k fn := by
  simp only [instKey]
  omega

theorem shortPools_frame (l : List Nat) (s : State) (fn : Nat) :
    let t := l.foldl (fun s i => bump32 s (instKey (unitKey K.admitWait i) fn)) s
    v t K.fetchGrants = v s K.fetchGrants ∧ t.flights = s.flights ∧ t.eng = s.eng ∧ t.clk = s.clk := by
  induction l generalizing s with
  | nil => exact ⟨rfl, rfl, rfl, rfl⟩
  | cons i l ih =>
    obtain ⟨grants, flights, eng, clk⟩ := ih (bump32 s (instKey (unitKey K.admitWait i) fn))
    have apart : K.fetchGrants ≠ instKey (unitKey K.admitWait i) fn :=
      fetchGrants_ne fn (Nat.le_trans (by decide : K.fetchGrants ≤ K.admitWait) (Nat.le_add_right _ _))
    exact ⟨grants.trans (v_setV_ne _ _ apart), flights, eng, clk⟩

/-- A fetch puts the command in flight, and counts no grant. -/
theorem fetchNow_effect (s : State) (fn qid : Nat) (urgent : Bool) (e : SqEntry) : Fetched s (fetchNow s fn qid urgent e) fn qid e ∧
    v (fetchNow s fn qid urgent e) K.fetchGrants = v s K.fetchGrants ∧ (fetchNow s fn qid urgent e).eng.grants = s.eng.grants ∧
    (fetchNow s fn qid urgent e).eng.urgentGrants = s.eng.urgentGrants := by
  simp only [fetchNow]
  generalize hf : Flight.mk _ _ _ _ _ _ _ _ _ _ _ _ _ _ _ _ _ _ _ _ _ _ _ _ _ _ _ _ _ _ _ _ _ _ _ _ _ _ = f
  generalize hs : List.foldl _ s _ = s1
  obtain ⟨grants, flights, eng, -⟩ := shortPools_frame ((List.range 5).filter (fun i => !poolFits s fn urgent (i + 1) ((poolNeed s e).getD i 0))) s fn
  rw [hs] at grants flights eng
  generalize hw : [_, _, _] = ws
  have item := (traceItem_from (s := s1) 0x10 0x01 fn ws).keeps
  have same : v (traceItem s1 0x10 0x01 fn ws) K.fetchGrants = v s1 K.fetchGrants := traceItem_onlyEntries _ _ _ _ _ _ (by decide)
  refine ⟨⟨f, ?_, ?_⟩, same.trans grants, ?_, ?_⟩
  · show (traceItem s1 0x10 0x01 fn ws).flights ++ [f] = _
    rw [item.flights rfl, flights]
  · rw [← hf]
    refine ⟨rfl, rfl, rfl, rfl, rfl, rfl, rfl, rfl, ?_⟩
    show (traceItem s1 0x10 0x01 fn ws).eng.nextSeq + 1 = _
    rw [item.eng rfl, eng]
  · show (traceItem s1 0x10 0x01 fn ws).eng.grants = _
    rw [item.eng rfl, eng]
  · show (traceItem s1 0x10 0x01 fn ws).eng.urgentGrants = _
    rw [item.eng rfl, eng]

/-- The entry at the head of a queue is taken: it is fetched, or it was aborted. -/
theorem takeEntry_effect (s : State) (fn qid : Nat) (urgent : Bool) (e : SqEntry) :
    (s.eng.aborted.contains (qkey fn qid, e.cid) = false → Fetched s (takeEntry s fn qid urgent e) fn qid e) ∧
    v (takeEntry s fn qid urgent e) K.fetchGrants = v s K.fetchGrants ∧ (takeEntry s fn qid urgent e).eng.grants = s.eng.grants ∧
    (takeEntry s fn qid urgent e).eng.urgentGrants = s.eng.urgentGrants := by
  let u := sqAdvance (touchCtx s (qkey fn qid)) fn qid
  obtain ⟨fetched, grants, count, urgents⟩ := fetchNow_effect u fn qid urgent e
  have aborted : u.eng.aborted = s.eng.aborted := rfl
  cases h : s.eng.aborted.contains (qkey fn qid, e.cid) with
  | true =>
    have eq : takeEntry s fn qid urgent e = { u with eng := { u.eng with aborted := u.eng.aborted.filter (· != (qkey fn qid, e.cid)) } } :=
      if_pos (by rw [← h]; rfl)
    rw [eq]
    exact ⟨fun no => Bool.noConfusion no, rfl, rfl, rfl⟩
  | false =>
    have eq : takeEntry s fn qid urgent e = fetchNow u fn qid urgent e := if_neg (by
      show ¬ u.eng.aborted.contains _ = true
      rw [aborted, h]
      exact Bool.false_ne_true)
    rw [eq]
    exact ⟨fun _ => fetched_congr fetched rfl rfl rfl rfl rfl rfl, grants, count, urgents⟩

/-- A grant is counted, and fetches at once from a queue whose context is cached; else it waits for the fill. -/
theorem grant_effect (s : State) (fn qid : Nat) (urgent : Bool) (e : SqEntry) :
    v (grant s fn qid urgent e) K.fetchGrants = satAdd 64 (v s K.fetchGrants) 1 ∧ (grant s fn qid urgent e).eng.grants = s.eng.grants + 1 ∧
    (grant s fn qid urgent e).eng.urgentGrants = s.eng.urgentGrants + (if urgent then 1 else 0) ∧
    (s.eng.qctx.contains (qkey fn qid) = true → s.eng.aborted.contains (qkey fn qid, e.cid) = false → Fetched s (grant s fn qid urgent e) fn qid e) ∧
    (s.eng.qctx.contains (qkey fn qid) = false → (grant s fn qid urgent e).flights = s.flights ∧
      (grant s fn qid urgent e).eng.filling = s.eng.filling ++ [(qkey fn qid, e, urgent)]) := by
  let u := bump64 { s with eng := { s.eng with grants := s.eng.grants + 1, urgentGrants := s.eng.urgentGrants + (if urgent then 1 else 0) } } K.fetchGrants
  have counted : v u K.fetchGrants = satAdd 64 (v s K.fetchGrants) 1 := v_setV_self ..
  cases h : s.eng.qctx.contains (qkey fn qid) with
  | true =>
    obtain ⟨fetched, grants, count, urgents⟩ := takeEntry_effect u fn qid urgent e
    have eq : grant s fn qid urgent e = takeEntry u fn qid urgent e := if_pos (by rw [← h]; rfl)
    rw [eq]
    refine ⟨grants.trans counted, count, urgents, fun _ live => fetched_congr (fetched live) rfl rfl rfl rfl rfl rfl, fun no => ?_⟩
    cases no
  | false =>
    have eq : grant s fn qid urgent e = bump64 { u with eng := { u.eng with filling := u.eng.filling ++ [(qkey fn qid, e, urgent)] } } K.qctxMisses :=
      if_neg (by
        show ¬ u.eng.qctx.contains _ = true
        rw [show u.eng.qctx = s.eng.qctx from rfl, h]
        exact Bool.false_ne_true)
    rw [eq]
    refine ⟨?_, rfl, rfl, fun no => ?_, fun _ => ⟨rfl, rfl⟩⟩
    · exact (v_setV_ne _ _ (by decide : K.fetchGrants ≠ K.qctxMisses)).trans counted
    · cases no

-- ===== arbitration =====

theorem ebbExit_fetchGrants (s : State) : v (ebbExit s) K.fetchGrants = v s K.fetchGrants := by
  simp only [ebbExit]
  split
  · split
    · rw [v_of_dict ((ltrAll_from ..).keeps.dict rfl), powerTrace_onlyEntries _ _ _ (by decide)]
      rfl
    · rw [powerTrace_onlyEntries _ _ _ (by decide)]
      rfl
  · rfl

/-- A grant of arbitration is followed by the exit of Ebb, and by what waits. -/
theorem fetchGrant_of_counted {s : State} {e : SqEntry} (h : (arbitrate s e).eng.grants = s.eng.grants + 1) :
    fetchGrant s e = settle (ebbExit (arbitrate s e)) := by
  have ne : ¬ (arbitrate s e).eng.grants = s.eng.grants := by omega
  simp only [fetchGrant, ne, if_false]

theorem noUrgent {s : State} (h : urgentRoom s = false ∨ pickUrgent s = none) : (if urgentRoom s then pickUrgent s else none) = none := by
  rcases h with h | h
  · rw [h]
    rfl
  · rw [h, ite_self]

/-- A normal-class grant: the books of the share and of the burst, then the grant. -/
theorem arbitrate_normal {s : State} {e : SqEntry} {fn q c : Nat} (no : urgentRoom s = false ∨ pickUrgent s = none) (i : pickInstance s = some fn)
    (k : pickQueue s fn = some (q, c)) : ∃ u, arbitrate s e = grant u fn q false e ∧ v u K.fetchGrants = v s K.fetchGrants ∧
      u.eng = s.eng ∧ u.flights = s.flights ∧ u.genNow = s.genNow ∧ u.clk = s.clk := by
  have apart : K.fetchGrants ≠ instKey K.urgentDemoted fn := fetchGrants_ne fn (by decide)
  simp only [arbitrate, noUrgent no, i, k]
  refine ⟨_, rfl, ?_⟩
  split
  · exact ⟨v_setV_ne _ _ apart, rfl, rfl, rfl, rfl⟩
  · exact ⟨rfl, rfl, rfl, rfl, rfl⟩

theorem arbitrate_urgent {s : State} {e : SqEntry} {fn q : Nat} (room : urgentRoom s = true) (p : pickUrgent s = some (fn, q)) :
    ∃ u, arbitrate s e = grant u fn q true e ∧ u.eng.grants = s.eng.grants ∧ u.eng.urgentGrants = s.eng.urgentGrants ∧ u.eng.qctx = s.eng.qctx ∧
      u.eng.aborted = s.eng.aborted ∧ u.eng.nextSeq = s.eng.nextSeq ∧ u.flights = s.flights ∧ u.genNow = s.genNow ∧ u.clk = s.clk := by
  simp only [arbitrate, room, p, if_true]
  exact ⟨_, rfl, rfl, rfl, rfl, rfl, rfl, rfl, rfl, rfl⟩

/-- A context that is filled lets the fetch go on that waited for it. -/
theorem qctxFill_fetches {s : State} {fn q : Nat} {e : SqEntry} {urgent : Bool}
    (waits : s.eng.filling.find? (fun x => x.1 == qkey fn q) = some (qkey fn q, e, urgent))
    (live : s.eng.aborted.contains (qkey fn q, e.cid) = false) : Fetched s (qctxFill s fn q) fn q e := by
  have of_eng (u : State) (h : u = { s with eng := u.eng }) (seq : u.eng.nextSeq = s.eng.nextSeq) (ab : u.eng.aborted = s.eng.aborted) :
      Fetched s (takeEntry u fn q urgent e) fn q e := by
    refine fetched_congr ((takeEntry_effect u fn q urgent e).1 (by rw [ab]; exact live)) ?_ seq ?_ ?_ rfl rfl
    all_goals rw [h]
  simp only [qctxFill, waits]
  split
  · split
    · exact of_eng _ rfl rfl rfl
    · exact of_eng _ rfl rfl rfl
  · exact of_eng _ rfl rfl rfl

/-- With no compressor stalled, a freed unit goes to the next command that waits. -/
theorem poolUnitFreed_of_waiter {s : State} {p : Nat} {f : Flight} (flow : p = 1 → ∀ z ∈ s.zones, z.2.unit.any OpenUnit.stalled = false)
    (next : nextWaiter s p = some f) : poolUnitFreed s p =
      if allFit s f.fn f.urgent (f.need s) then modFlight s f.seq (fun x => { x with stage := .fetched, pools := f.need s }) else s := by
  have none : (if p = 1 then (s.zones.firstWith (fun _ z => z.unit.any OpenUnit.stalled)).map Prod.fst else none) = none := by
    split
    · next one =>
      have none : s.zones.firstWith (fun _ z => z.unit.any OpenUnit.stalled) = none :=
        List.find?_eq_none.2 fun z hz => Bool.eq_false_iff.1 (flow one z hz)
      rw [none]
      rfl
    · rfl
  simp only [poolUnitFreed, none, next]

theorem modFlight_self {s : State} {seq : Nat} {h : Flight → Flight} {g : Flight}
    (mem : g ∈ (modFlight s seq h).flights) (own : g.seq = seq) : ∃ x, g = h x := by
  obtain ⟨x, -, rfl⟩ := List.mem_map.1 mem
  split at own
  · next same => exact ⟨x, if_pos same⟩
  · next other => exact absurd own other

/-- Settles O18. -/
theorem doorbellsAndFetch : Obligations.doorbells_and_fetch := by
  intro s
  refine ⟨fun fn qid x q held good => ?_, fun fn qid x bad => ?_, fun fn qid x q held good none => ?_, fun fn qid x q held good some room => ?_,
    fun e no i => ?_, fun e fn q cls no i k => ?_, fun e fn q room p => ?_, fun fn q e urgent waits live => ?_, fun p f flow next => ?_,
    fun fn qid pending ien => ?_⟩
  · have sqs := sqTailDoorbell_sqs s fn qid x
    rw [sqTail_of_good held good] at sqs
    refine ⟨_, rfl, ?_, fun k hk => ?_, fun awake => ?_, fun entry ex => ?_⟩
    · rw [sqOf, show (sqTailDoorbell s fn qid x).sqs = _ from sqs]
      exact Assoc.get?_put_self ..
    · rw [show (sqTailDoorbell s fn qid x).sqs = _ from sqs]
      exact Assoc.get?_put_ne _ _ hk
    · show sqTailDoorbell s fn qid x = { s with sqs := (sqTailDoorbell s fn qid x).sqs }
      have none : s.power.entry.isSome = false := by rw [awake]; rfl
      simp only [sqTailDoorbell, sqTail_of_good held good, none, Bool.false_and, Bool.false_eq_true, if_false]
    · let u : State := { s with sqs := s.sqs.put (qkey fn qid) { q with tail := x } }
      have eq : sqTailDoorbell s fn qid x = wakeNow u 7 := by
        have here : fnExists u fn = true := ex
        have some : u.power.entry.isSome = true := Option.isSome_iff_ne_none.2 entry
        simp only [sqTailDoorbell, sqTail_of_good held good]
        exact if_pos (by rw [some, here]; rfl)
      show (sqTailDoorbell s fn qid x).power.entry = none
      rw [eq]
      exact wakeNow_of_entry 7 entry
  · exact ⟨_, rfl, (sqTailDoorbell_sqs s fn qid x).trans (sqTail_of_bad bad)⟩
  · refine ⟨_, next_congr ((cqHead_of_good held good).trans (postHeld_of_none ?_)), rfl⟩
    simp only [cqOf, Assoc.getD_put_self]
    exact none
  · obtain ⟨n, hn⟩ := Nat.exists_eq_succ_of_ne_zero (Nat.ne_zero_of_lt good)
    obtain ⟨e, r, items⟩ := List.exists_cons_of_ne_nil some
    let c : Cq := { q with posted := q.posted.drop ((x + q.size - (q.tail + q.size - q.posted.length) % q.size) % q.size) }
    let u : State := { s with cqs := s.cqs.put (qkey fn qid) c }
    have free : c.full = false := decide_eq_false (by show ¬ c.posted.length + 1 ≥ q.size; exact Nat.not_le.2 room)
    obtain ⟨s', c', step, hc', left⟩ := postHeld_step (s := u) (n := n) (Assoc.get?_put_self ..) (show c.held = e :: r from items) free
    obtain ⟨c'', hc'', le⟩ := postHeld_held n hc'
    have run : cqHead s fn qid x = postHeld n s' fn qid := by
      rw [cqHead_of_good held good, ← step, ← Nat.succ_eq_add_one, ← hn]
    refine ⟨_, c'', next_congr run, hc'', ?_⟩
    rw [items, List.length_cons, ← left]
    exact Nat.lt_succ_of_le le
  · have idle : arbitrate s e = s := by simp only [arbitrate, noUrgent no, i]
    refine next_congr ?_
    simp only [fetchGrant, idle, if_true]
  · obtain ⟨u, run, hv, eng, flights, gen, clk⟩ := arbitrate_normal (e := e) no i k
    obtain ⟨grants, count, -, fetched, waits⟩ := grant_effect u fn q false e
    rw [← run] at grants count fetched waits
    rw [eng] at count fetched waits
    have exit := (ebbExit_from (s := arbitrate s e)).keeps
    refine ⟨_, next_congr (fetchGrant_of_counted count), ?_, fun cached live => ?_, fun miss => ?_⟩
    · rw [ebbExit_fetchGrants, grants, hv]
    · exact fetched_congr (fetched cached live) flights (by rw [eng]) gen clk (exit.flights rfl) (by rw [exit.eng rfl])
    · obtain ⟨same, filling⟩ := waits miss
      rw [exit.flights rfl, exit.eng rfl]
      exact ⟨same.trans flights, filling⟩
  · obtain ⟨u, run, count0, urgents0, qctx, aborted, seq, flights, gen, clk⟩ := arbitrate_urgent (e := e) room p
    obtain ⟨-, count, urgents, fetched, -⟩ := grant_effect u fn q true e
    rw [← run] at count urgents fetched
    rw [count0] at count
    rw [qctx, aborted] at fetched
    have exit := (ebbExit_from (s := arbitrate s e)).keeps
    refine ⟨_, next_congr (fetchGrant_of_counted count), ?_, fun cached live => ?_⟩
    · rw [exit.eng rfl, urgents, urgents0]
      rfl
    · exact fetched_congr (fetched cached live) flights seq gen clk (exit.flights rfl) (by rw [exit.eng rfl])
  · exact ⟨_, rfl, qctxFill_fetches waits live⟩
  · have run := poolUnitFreed_of_waiter flow next
    refine ⟨fun fit => ?_, fun no => ?_⟩
    · rw [if_pos fit] at run
      refine ⟨_, next_congr (congrArg settle run), rfl, fun g hg own => ?_⟩
      obtain ⟨x, rfl⟩ := modFlight_self hg own
      exact ⟨rfl, rfl⟩
    · rw [if_neg (Bool.eq_false_iff.1 no)] at run
      exact next_congr (congrArg settle run)
  · have send : (decide ((cqOf s fn qid).aggregated > 0) && (cqOf s fn qid).ien) = true := by
      rw [decide_eq_true pending, ien]
      rfl
    refine ⟨_, next_congr (if_pos send), ?_, rfl⟩
    simp only [cqOf, msixSend, Assoc.getD_put_self]

end Sys2Proof.Fetching

/-! Features, kept per function and of the package, and event requests (R96, R116, R121, R133, R346, R348, R368). -/
namespace Sys2Proof.Features
open Sys2Proof Sys2Proof.Machine Sys2Proof.Effects Sys2Proof.Stores Sys2Proof.Keys

-- ===== completions with success =====

/-- A completion with success changes no Instance. -/
theorem complete_success_insts (s : State) (c : Cmd) (dw0 : Nat) : (complete s c .success dw0).insts = s.insts := by
  unfold complete
  split
  · next f _ =>
    obtain ⟨ws, u, hu, e⟩ := completeRetry_eq s f .success dw0 0 0
    have before : u.insts = s.insts := by
      rw [hu]
      exact ((traceItem_from ..).keeps.insts rfl).trans ((histCommand_from f).keeps.insts rfl)
    rw [completeFlight, e, (postCqe_from ..).keeps.insts rfl]
    exact before
  · exact (postCqe_from ..).keeps.insts rfl

theorem inst_congr {s t : State} (h : t.insts = s.insts) (n : Nat) : inst t n = inst s n := by
  unfold inst
  rw [h]

theorem inst_complete_success (s : State) (c : Cmd) (dw0 n : Nat) : inst (complete s c .success dw0) n = inst s n :=
  inst_congr (complete_success_insts s c dw0) n

/-- A command that completes with data: the data, the completion, and nothing else. -/
theorem completeData_effect (s : State) (c : Cmd) (b : Bytes) (dw0 : Nat) : ∃ t, t = complete (dmaOut s c.fn b) c .success dw0 ∧
    CompletedDw t c .success dw0 ∧ t.hostOut.get? c.fn = some b ∧ Keeps 1276773890 s t ∧ OnlyEntries s t [K.traceLost] := by
  have done := (complete_from (s := dmaOut s c.fn b) c .success dw0).keeps
  refine ⟨_, rfl, complete_completedDw .., ?_, ?_, ?_⟩
  · rw [done.hostOut rfl]
    exact Assoc.get?_put_self ..
  · exact Keeps.trans (Keeps.leaf (c := 134217728) rfl rfl) (done.weaken rfl)
  · have dict : (dmaOut s c.fn b).dict = s.dict := rfl
    exact onlyEntries_trans (onlyEntries_of_dict _ dict) (complete_onlyEntries _ _ _ _)

/-- The Set Features of a function: its own field, and a completion with success. -/
theorem setFeature_effect {s : State} {c : Cmd} (f : Inst → Inst) (res : c.resv = false) :
    ∃ t, (.next (setFeature s c f) : Host.Outcome State Fault Refusal) = .next t ∧ CompletedDw t c .success 0 ∧ OnlyCompleted s t ∧ inst t c.fn = f (inst s c.fn) := by
  obtain ⟨frame, only⟩ := complete_onlyCompleted (modInst s c.fn f) c .success 0
  refine ⟨_, next_congr (if_neg (Bool.eq_false_iff.1 res)), complete_completedDw .., ⟨frame, only⟩, ?_⟩
  rw [inst_complete_success, inst_modInst_self]

theorem mem_ivDisabled (l : List Nat) (vec x : Nat) (cd : Bool) :
    (vec ∈ (if cd then vec :: l.filter (· != vec) else l.filter (· != vec)) ↔ cd = true) ∧
    (x ≠ vec → (x ∈ (if cd then vec :: l.filter (· != vec) else l.filter (· != vec)) ↔ x ∈ l)) := by
  cases cd with
  | true => simp +contextual
  | false => simp +contextual

-- ===== asynchronous events =====

/-- With no event waiting, or no request held, nothing is carried. -/
theorem carryAens_of_none {n : Nat} {s : State} {fn : Nat} (h : (inst s fn).aers = [] ∨ (inst s fn).aens = []) : carryAens n s fn = s := by
  cases n with
  | zero => rfl
  | succ n =>
    simp only [carryAens]
    split
    · next aers aens =>
      rcases h with h | h
      · cases aers.symm.trans h
      · cases aens.symm.trans h
    · rfl

/-- A request that meets an event that waits carries it at once. -/
theorem carryAens_meets {n : Nat} {s : State} {fn cid : Nat} {e : Aen} {l : List Aen} (one : (inst s fn).aers = [cid]) (waits : (inst s fn).aens = e :: l) :
    carryAens (n + 1) s fn = complete (modInst s fn (fun i => { i with aers := [], aens := l, aenMasked := e :: i.aenMasked })) ⟨fn, 0, cid, 0, false⟩
      .success e.code := by
  simp only [carryAens, one, waits]
  refine carryAens_of_none (.inl ?_)
  rw [inst_complete_success, inst_modInst_self]

/-- Settles O19. -/
theorem functionFeatures : Obligations.function_features := by
  intro s c
  refine ⟨fun res => ?_, fun res i hi => ?_⟩
  · have live : ¬ c.resv = true := Bool.eq_false_iff.1 res
    refine ⟨fun ab l m h room => ?_, fun ab l m h full => ?_, fun a b => ?_, fun time thr => ?_, fun vec cd good => ?_, fun vec cd bad => ?_,
      fun b => setFeature_effect _ res, fun b => setFeature_effect _ res, fun fid x d w shows => ?_, fun room none => ?_, fun e l none waits admin => ?_,
      fun full => ?_⟩
    · let u := stageAt s (applyTide s) (.arbitration c.fn (ab % 8) (l % 256) (m % 256) (h % 256))
      have run : setArbitration s c ab l m h = complete u c .success 0 := by
        simp only [setArbitration, res, room, Bool.not_true, Bool.false_eq_true, if_false]
        rfl
      have done := (complete_from (s := u) c .success 0).keeps
      refine ⟨_, next_congr run, complete_completedDw .., ?_, ?_, ?_⟩
      · rw [done.staged rfl]
        exact List.mem_append_right _ List.mem_cons_self
      · exact Keeps.trans (m := 1142556210) (Keeps.leaf (c := 48) rfl rfl) (done.weaken rfl)
      · have dict : u.dict = s.dict := rfl
        exact onlyEntries_trans (onlyEntries_of_dict _ dict) (complete_onlyEntries _ _ _ _)
    · refine rejected_of_exec (dw0 := 0) (next_congr ?_)
      simp only [setArbitration, res, full, Bool.not_false, Bool.false_eq_true, if_false, if_true]
    · exact ⟨_, next_congr (if_neg live), complete_completedDw .., complete_onlyCompleted ..⟩
    · exact setFeature_effect _ res
    · obtain ⟨t, run, done, only, field⟩ := setFeature_effect (s := s) (c := c)
        (fun i => { i with ivDisabled := if cd then vec :: i.ivDisabled.filter (· != vec) else i.ivDisabled.filter (· != vec) }) res
      refine ⟨t, (next_congr (if_neg (Nat.not_lt.2 good))).trans run, done, only, ?_, fun x hx => ?_⟩
      · rw [field]
        exact (mem_ivDisabled _ vec 0 cd).1
      · rw [field]
        exact (mem_ivDisabled _ vec x cd).2 hx
    · exact rejected_of_exec (dw0 := 0) (next_congr (if_pos bad))
    · have zero : ¬ (c.resv = true ∨ 0 > 3) := by
        rintro (h | h)
        · exact live h
        · cases h
      have run : getFeatures s c fid 0 w = complete (match d with
          | some b => dmaOut s c.fn b
          | none => s) c .success x := by
        simp only [getFeatures, zero, if_false, selState, if_true, shows, Nat.reduceEqDiff]
        cases d <;> rfl
      cases d with
      | none =>
        obtain ⟨frame, only⟩ := complete_onlyCompleted s c .success x
        have out : (complete s c .success x).hostOut = s.hostOut := (complete_from ..).keeps.hostOut rfl
        refine ⟨_, next_congr run, complete_completedDw .., ⟨?_, only⟩, fun b hb => nomatch hb⟩
        show complete s c .success x = _
        rw [out]
        exact frame
      | some b =>
        obtain ⟨t, ht, done, data, frame, only⟩ := completeData_effect s c b x
        exact ⟨t, next_congr (run.trans ht.symm), done, ⟨frame, only⟩, fun b' hb' => by cases hb'; exact data⟩
    · have run : asyncEventRequest s c = modInst s c.fn (fun i => { i with aers := i.aers ++ [c.cid] }) := by
        simp only [asyncEventRequest, res, ge_iff_le, Nat.not_le.2 room, Bool.false_eq_true, if_false]
        refine carryAens_of_none (.inr ?_)
        rw [inst_modInst_self]
        exact none
      exact ⟨_, next_congr run, rfl, inst_modInst_self ..⟩
    · let u := modInst s c.fn (fun i => { i with aers := i.aers ++ [c.cid] })
      have self : inst u c.fn = { inst s c.fn with aers := (inst s c.fn).aers ++ [c.cid] } := inst_modInst_self ..
      have one : (inst u c.fn).aers = [c.cid] := by rw [self, none]; rfl
      have wait : (inst u c.fn).aens = e :: l := by rw [self]; exact waits
      have run : asyncEventRequest s c = complete (modInst u c.fn (fun i => { i with aers := [], aens := l, aenMasked := e :: i.aenMasked }))
          ⟨c.fn, 0, c.cid, 0, false⟩ .success e.code := by
        have room : ¬ (inst s c.fn).aers.length ≥ 16 := by rw [none]; decide
        simp only [asyncEventRequest, res, room, Bool.false_eq_true, if_false]
        exact carryAens_meets one wait
      obtain ⟨x, hx, hq, hc, hst, hdw⟩ := complete_completedDw (modInst u c.fn (fun i => { i with aers := [], aens := l, aenMasked := e :: i.aenMasked }))
        ⟨c.fn, 0, c.cid, 0, false⟩ .success e.code
      refine ⟨_, next_congr run, ⟨x, hx, hq.trans admin.symm, hc, hst, hdw⟩, ?_, ?_⟩
      · rw [inst_complete_success, inst_modInst_self]
      · rw [inst_complete_success, inst_modInst_self]
    · refine rejected_of_exec (dw0 := 0) (next_congr ?_)
      simp only [asyncEventRequest, res, ge_iff_le, full, Bool.false_eq_true, if_false, if_true]
  · have of_setFeature (f : Inst → Inst) : setFeature s c f = complete s c .invalidField 0 := if_pos res
    refine rejected_of_exec (dw0 := 0) ?_
    rcases hi with ⟨a, b, l, m, rfl⟩ | ⟨a, b, rfl⟩ | ⟨a, b, rfl⟩ | ⟨a, b, ha, rfl⟩ | ⟨a, rfl⟩ | ⟨a, rfl⟩ | ⟨a, b, d, rfl⟩ | rfl
    · exact next_congr (if_pos res)
    · exact next_congr (if_pos res)
    · exact next_congr (of_setFeature _)
    · exact next_congr ((if_neg (Nat.not_lt.2 ha)).trans (of_setFeature _))
    · exact next_congr (of_setFeature _)
    · exact next_congr (of_setFeature _)
    · exact next_congr (if_pos (.inl res))
    · exact next_congr (if_pos res)

-- ===== features of the package =====

/-- A sleep entry that goes on keeps its target. -/
theorem sleepProgress_target (s : State) : (sleepProgress s).power.entry.map SleepEntry.target = s.power.entry.map SleepEntry.target := by
  unfold sleepProgress
  split
  · next e he =>
    split
    · have kept (u : State) : (mirrorSend u 0x0A 8 0 false).power = u.power := (mirrorSend_from ..).keeps.power rfl
      simp only
      split
      · show ((mirrorSend _ 0x0A 8 0 false).power).entry.map _ = _
        rw [kept, he]
        rfl
      · rw [he]
        rfl
    · rfl
  · rfl

/-- A sleep request in Flood or Ebb, with no entry under way and the supply good, begins an entry. -/
theorem sleepRequest_target {s : State} (n : Nat) (awake : s.power.state < 2) (none : s.power.entry = none) (up : s.power.down = false)
    (whole : s.boot.recovery = false) (still : s.power.flushActive = false) (good : belowWarning s = false) :
    (sleepRequest s n).power.entry.map SleepEntry.target = some n := by
  have state : decide (s.power.state ≥ 2) = false := decide_eq_false (Nat.not_le.2 awake)
  simp only [sleepRequest, state, none, up, whole, still, good, Option.isSome_none, Bool.or_false, Bool.false_eq_true, if_false]
  rw [sleepProgress_target]
  rfl

theorem packageFeature_of_pf {s : State} {c : Cmd} (res : c.resv = false) (pf : isPf s c.fn = true) : packageFeature s c = .success := by
  simp only [packageFeature, pfOnly, res, pf, Bool.not_true, Bool.false_eq_true, if_false]

theorem packageFeature_of_vf {s : State} {c : Cmd} (res : c.resv = false) (vf : isPf s c.fn = false) : packageFeature s c = .featureNotChangeable := by
  simp only [packageFeature, pfOnly, res, vf, Bool.not_false, Bool.false_eq_true, if_false, if_true]

/-- Between `s` and `t` of the instances the counts of errors and the event requests changed. -/
def EventsOnly (s t : State) : Prop := ∀ m, (inst t m).tempThr = (inst s m).tempThr

theorem eventsOnly_carryAens (n : Nat) (s : State) (fn : Nat) : EventsOnly s (carryAens n s fn) := by
  induction n generalizing s with
  | zero => exact fun _ => rfl
  | succ n ih =>
    simp only [carryAens]
    split
    · intro m
      rw [ih, inst_complete_success]
      by_cases h : m = fn
      · rw [h, inst_modInst_self]
      · rw [inst_modInst_ne _ _ h]
    · exact fun _ => rfl

theorem aen_tempThr (s : State) (fn : Nat) (e : Aen) : EventsOnly s (aen s fn e) := by
  simp only [aen]
  split
  · exact fun _ => rfl
  · intro m
    rw [eventsOnly_carryAens]
    by_cases h : m = fn
    · rw [h, inst_modInst_self]
    · rw [inst_modInst_ne _ _ h]

/-- Settles O20. -/
theorem packageFeatures : Obligations.package_features := by
  intro s c
  refine ⟨fun res pf => ?_, fun res vf => ?_, fun spsp len res => ?_, fun on timed quiet awake none up whole still good => ?_, fun off => ?_⟩
  · have may := packageFeature_of_pf res pf
    refine ⟨fun ps w low room => ?_, fun ps w sleeps awake none up whole still good => ?_, fun sel under k small => ?_, fun on table names => ?_,
      fun r => ?_, fun len => ?_⟩
    · let u := stageAt { s with power := { s.power with ps := ps } } (applyTide s) (.budget ps)
      have run : setPowerManagement s c ps = complete u c .success 0 := by
        have fits : ¬ ps > 4 := by omega
        have budget : ¬ ps ≥ 3 := by omega
        simp only [setPowerManagement, may, fits, budget, room, Bool.not_true, Bool.false_eq_true, if_false]
        rfl
      have done := (complete_from (s := u) c .success 0).keeps
      refine ⟨_, next_congr (congrArg settle run), complete_completedDw .., ?_, ?_⟩
      · rw [done.staged rfl]
        exact List.mem_append_right _ List.mem_cons_self
      · rw [done.power rfl]
        rfl
    · let u := complete s c .success 0
      have done := (complete_from (s := s) c .success 0).keeps
      have run : setPowerManagement s c ps = sleepRequest u (ps - 1) := by
        have fits : ¬ ps > 4 := by omega
        have sleep : ps ≥ 3 := by omega
        simp only [setPowerManagement, may, fits, sleep, if_false, if_true]
        rfl
      have only := complete_onlyEntries s c .success 0
      have supply : belowWarning u = false := by
        rw [← good, belowWarning, belowWarning, only K.supplyNowMv (by decide), only K.supplyWarnMv (by decide)]
      obtain ⟨e, he, hq, hc, hst, hdw⟩ := complete_completedDw s c .success 0
      refine ⟨_, next_congr (congrArg settle run), ⟨e, ?_, hq, hc, hst, hdw⟩, ?_⟩
      · rw [(sleepRequest_from ..).keeps.lastCqe rfl]
        exact he
      · have power : u.power = s.power := done.power rfl
        have boot : u.boot = s.boot := done.boot rfl
        exact sleepRequest_target _ (by rw [power]; exact awake) (by rw [power]; exact none) (by rw [power]; exact up) (by rw [boot]; exact whole)
          (by rw [power]; exact still) supply
    · have one : ¬ (8 < sel ∧ sel ≠ 15) := by omega
      have sels : tempSelectors sel = [sel] := if_neg (by omega)
      have thr (key : Nat) : (inst (complete (modInst s c.fn (fun i => { i with tempThr := i.tempThr.put key (k % 2 ^ 16) })) c .success 0)
          c.fn).tempThr.get? key = some (k % 2 ^ 16) := by
        rw [inst_complete_success, inst_modInst_self]
        exact Assoc.get?_put_self ..
      refine ⟨_, rfl, ?_⟩
      show (inst (setTemperatureThreshold s c sel under k) c.fn).tempThr.get? _ = _
      simp only [setTemperatureThreshold, may, one, if_false, sels, List.foldl_cons, List.foldl_nil]
      generalize 2 * sel + (if under = true then 1 else 0) = key
      split
      · rw [aen_tempThr]
        exact thr key
      · exact thr key
    · have good : table.any (fun e => e.2 != 0 && e.1 != 3 && e.1 != 4) = false := by
        refine List.any_eq_false.2 fun e he => ?_
        simp only [Bool.and_eq_true, bne_iff_ne, not_and, Classical.not_not]
        rintro ⟨timed, three⟩
        exact (names e he timed).resolve_left three
      have run : setApst s c on table = complete { s with power := { s.power with apst := on, apstTable := table.take 32 } } c .success 0 := by
        simp only [setApst, may, good, Bool.false_eq_true, if_false]
      exact ⟨_, next_congr run, complete_completedDw .., complete_onlyCompleted ..⟩
    · refine ⟨_, next_congr ?_, complete_completed s c .success 0, complete_onlyCompleted ..⟩
      simp only [pfOnly, pf, res, Bool.not_true, Bool.false_eq_true, if_false]
    · have run : nvmeMiReceive s c len = complete (dmaOut { s with freeCtr := s.freeCtr + 1 } c.fn (openBytes s len)) c .success 0 := by
        simp only [nvmeMiReceive, pfOnly, pf, res, Bool.not_true, Bool.false_eq_true, if_false]
        rfl
      obtain ⟨t, ht, done, data, -⟩ := completeData_effect { s with freeCtr := s.freeCtr + 1 } c (openBytes s len) 0
      refine ⟨t, _, next_congr (run.trans ht.symm), completed_of_dw done, data, ?_⟩
      rw [openBytes, List.length_map, List.length_range]
  · have refused := packageFeature_of_vf res vf
    have vfOnly : pfOnly s c = true := by rw [pfOnly, vf]; rfl
    refine ⟨fun ps w => ?_, fun sel under k => ?_, fun on table => ?_, fun r => ?_, fun len => ?_⟩
    · have run : setPowerManagement s c ps = complete s c .featureNotChangeable 0 := by simp only [setPowerManagement, refused]
      exact ⟨_, next_congr (congrArg settle run), complete_completed .., complete_onlyCompleted ..⟩
    · exact rejected_of_exec (dw0 := 0) (next_congr (by simp only [setTemperatureThreshold, refused]))
    · exact rejected_of_exec (dw0 := 0) (next_congr (by simp only [setApst, refused]))
    · exact rejected_of_exec (dw0 := 0) (next_congr (by simp only [vfOnly, if_true]))
    · exact rejected_of_exec (dw0 := 0) (next_congr (if_pos vfOnly))
  · refine ⟨⟨_, next_congr ?_, complete_completed s c .success 0, complete_onlyCompleted ..⟩, ?_, fun secp other => ?_⟩
    · simp only [res, Bool.not_false, and_self, if_true]
    · obtain ⟨t, ht, done, data, -⟩ := completeData_effect s c (securityProtocols spsp len) 0
      refine ⟨t, next_congr (Eq.trans (if_pos ⟨rfl, ?_⟩) ht.symm), completed_of_dw done, data⟩
      rw [res]
      rfl
    · refine ⟨rejected_of_exec (dw0 := 0) (next_congr ?_), rejected_of_exec (dw0 := 0) (next_congr (if_neg fun h => other h.1))⟩
      rw [if_neg fun h => other h.1]
  · have due : (s.power.apst && (s.power.apstTable.getD s.power.ps (0, 0)).2 != 0 && s.flights.isEmpty) = true := by
      rw [on, quiet, bne_iff_ne.2 timed]
      rfl
    exact ⟨_, next_congr (congrArg settle (if_pos due)), sleepRequest_target _ awake none up whole still good⟩
  · refine next_congr (congrArg settle (if_neg ?_))
    rw [off]
    exact Bool.false_ne_true

end Sys2Proof.Features

/-! Identify, log pages and Abort (R56, R121, R133, R134, R189, R407). -/
namespace Sys2Proof.Logs
open Sys2Proof Sys2Proof.Machine Sys2Proof.Effects Sys2Proof.Stores Sys2Proof.Features

/-- A command that returns data from a state `u` reached from `s` by open bytes and by what a read of a page unmasks. -/
theorem returnData_effect {s u : State} (c : Cmd) (b : Bytes) (h : Keeps 8796093153280 s u) (dict : u.dict = s.dict) :
    Completed (returnData u c b) c .success ∧ (returnData u c b).hostOut.get? c.fn = some b ∧ Keeps 8797369796098 s (returnData u c b) ∧
      OnlyEntries s (returnData u c b) [K.traceLost] := by
  obtain ⟨t, ht, done, data, frame, only⟩ := completeData_effect u c b 0
  have eq : returnData u c b = t := ht.symm
  rw [eq]
  exact ⟨completed_of_dw done, data, (h.weaken rfl).trans (frame.weaken rfl), onlyEntries_trans (onlyEntries_of_dict _ dict) only⟩

theorem flights_of_completeRetry {s : State} {f : Flight} {st : NvStatus} {dw0 dw1 crd : Nat} {g : Flight}
    (h : g ∈ (completeRetry s f st dw0 dw1 crd).flights) : g ∈ s.flights ∧ g.seq ≠ f.seq := by
  obtain ⟨ws, u, hu, e⟩ := completeRetry_eq s f st dw0 dw1 crd
  have flights : u.flights = s.flights.filter (fun x => x.seq != f.seq) := by
    rw [hu]
    show ((traceItem (histCommand s f) 0x10 0x02 f.fn ws).flights).filter _ = _
    rw [(traceItem_from ..).keeps.flights rfl, (histCommand_from f).keeps.flights rfl]
  have all : (completeRetry s f st dw0 dw1 crd).flights = u.flights := by
    rw [e, (postCqe_from ..).keeps.flights rfl]
    split <;> rfl
  rw [all, flights] at h
  obtain ⟨mem, ne⟩ := List.mem_filter.1 h
  exact ⟨mem, bne_iff_ne.1 ne⟩

/-- A completion brings no command in flight. -/
theorem flights_of_complete {s : State} {c : Cmd} {st : NvStatus} {dw0 : Nat} {g : Flight} (h : g ∈ (complete s c st dw0).flights) :
    g ∈ s.flights := by
  unfold complete at h
  split at h
  · exact (flights_of_completeRetry h).1
  · rwa [(postCqe_from ..).keeps.flights rfl] at h

/-- An aborted command is in flight no more. -/
theorem abortFlight_gone {s : State} {f g : Flight} (h : g ∈ (abortFlight s f).flights) : g.seq ≠ f.seq := by
  unfold abortFlight at h
  exact (flights_of_completeRetry h).2

/-- The snapshot that a read of page 0xC3 at offset 0 takes. -/
def snapshotOf (s : State) (fn : Nat) : Snapshot :=
  { recs := snapshotRecs s fn (v s K.snapshotDepth), extDropped := v s K.extDropped, tide := s.clk.tide,
    compactUsed := s.recd.compact.length, compactDropped := v s K.compactDropped }

/-- What a read of page 0xC3 unmasks is of the Instance. -/
def recordsSeen (s : State) (fn : Nat) (rae : Bool) : State :=
  if rae then s else unmask s fn (fun e => match e with
    | .watermark _ => true
    | .belowRefresh _ => true
    | _ => false)

theorem recordsSeen_frame (s : State) (fn : Nat) (rae : Bool) :
    recordsSeen s fn rae = { s with insts := (recordsSeen s fn rae).insts } := by
  cases rae <;> rfl

theorem logPageC3_of_first {s : State} {c : Cmd} (len : Nat) (rae : Bool) (res : c.resv = false) : logPageC3 c 0 len rae s =
    complete (dmaOut { recordsSeen s c.fn rae with recd := { s.recd with snaps := s.recd.snaps.put c.fn (snapshotOf s c.fn) } } c.fn
      (segment (snapshotOf s c.fn).bytes 0 len)) c .success 0 := by
  cases rae with
  | true =>
    simp only [logPageC3, res, recordsSeen, Bool.false_eq_true, if_false, if_true, Assoc.get?_put_self]
    rfl
  | false =>
    simp only [logPageC3, res, recordsSeen, unmask, modInst, Bool.false_eq_true, if_false, if_true, Assoc.get?_put_self]
    rfl

theorem logPageC3_of_later {s : State} {c : Cmd} {off : Nat} (len : Nat) (rae : Bool) (res : c.resv = false) (later : off ≠ 0)
    (none : s.recd.snaps.get? c.fn = none) : logPageC3 c off len rae s = complete (recordsSeen s c.fn rae) c .commandSequenceError 0 := by
  cases rae with
  | true => simp only [logPageC3, res, recordsSeen, later, none, Bool.false_eq_true, if_false, if_true]
  | false =>
    simp only [logPageC3, res, recordsSeen, unmask, modInst, later, none, Bool.false_eq_true, if_false] <;> rfl

/-- Settles O21. -/
theorem logsAndIdentify : Obligations.logs_and_identify := by
  intro s c res
  have live : ¬ c.resv = true := Bool.eq_false_iff.1 res
  refine ⟨fun cns id csi b s' data => ?_, fun cns id csi st bad => ?_, fun lid lsp off len rae known within => ?_, fun lid lsp off len rae unknown => ?_,
    fun off len rae => ?_, fun len rae => ?_, fun off len rae later none => ?_, fun fn => ⟨_, rfl, rfl⟩, fun q cid b f found single can => ?_,
    fun q cid none => ?_⟩
  · have run : identify s c cns id csi = returnData s' c b := by simp only [identify, res, data, Bool.false_eq_true, if_false]
    have frame := (identifyData_from data).keeps
    obtain ⟨done, out, whole, only⟩ := returnData_effect c b (frame.weaken rfl) (frame.dict rfl)
    exact ⟨_, next_congr run, done, out, whole, only⟩
  · exact rejected_of_exec (dw0 := 0) (next_congr (by simp only [identify, res, bad, Bool.false_eq_true, if_false]))
  · have run : getLogPage s c lid off len rae =
        returnData (if rae then (logPage s c lid).2 else logTaken (logPage s c lid).2 c lid) c (segment (logPage s c lid).1 off len) := by
      simp only [getLogPage, res, known, gt_iff_lt, Nat.not_lt.2 within, Bool.not_true, Bool.false_eq_true, if_false]
    have page := (logPage_from (s := s) c lid).keeps
    have taken := (logTaken_from (s := (logPage s c lid).2) c lid).keeps
    have frame : Keeps 8796093153280 s (if rae then (logPage s c lid).2 else logTaken (logPage s c lid).2 c lid) := by
      split
      · exact page.weaken rfl
      · exact (page.weaken rfl).trans (taken.weaken rfl)
    obtain ⟨done, out, whole, only⟩ := returnData_effect c (segment (logPage s c lid).1 off len) frame (frame.dict rfl)
    exact ⟨_, next_congr run, done, out, whole, only⟩
  · exact rejected_of_exec (dw0 := 0) (next_congr (by
      simp only [getLogPage, res, unknown, Bool.not_false, Bool.false_eq_true, if_false, if_true]))
  · have frame : Keeps 8796093153280 s (if rae then s else logTaken s c 0xC2) := by
      split
      · exact Keeps.refl _ _
      · exact (logTaken_from c 0xC2).keeps.weaken rfl
    obtain ⟨done, out, -⟩ := returnData_effect c (segment (lossPage s (vi s K.lossAck c.fn) (lossView s c.fn)) off len) frame (frame.dict rfl)
    exact ⟨_, next_congr (if_neg live), done, out⟩
  · obtain ⟨t, ht, done, out, frame, -⟩ := completeData_effect
      { recordsSeen s c.fn rae with recd := { s.recd with snaps := s.recd.snaps.put c.fn (snapshotOf s c.fn) } } c
      (segment (snapshotOf s c.fn).bytes 0 len) 0
    refine ⟨t, snapshotOf s c.fn, next_congr ((logPageC3_of_first len rae res).trans ht.symm), completed_of_dw done, ?_, rfl, rfl, out⟩
    rw [frame.recd rfl]
    exact Assoc.get?_put_self ..
  · refine ⟨_, next_congr (logPageC3_of_later len rae res later none), complete_completed .., ?_⟩
    rw [(complete_from ..).keeps.recd rfl, recordsSeen_frame]
  · have run : abort s c q cid b = complete (abortFlight s f) c .success 0 := by
      have lone : otherFused s f = none := by simp only [otherFused, single, Nat.reduceEqDiff, if_false]
      simp only [abort, res, found, tryAbort, can, lone, Bool.not_true, Bool.false_eq_true, if_false]
    exact ⟨_, next_congr (congrArg settle run), complete_completedDw .., fun g hg => abortFlight_gone (flights_of_complete hg)⟩
  · have run : abort s c q cid false = complete s c .success 1 := by
      simp only [abort, res, none, Bool.false_and, Bool.false_eq_true, if_false]
    exact ⟨_, next_congr (congrArg settle run), complete_completedDw .., complete_onlyCompleted ..⟩

end Sys2Proof.Logs

/-! Namespaces: created, attached at a boundary, formatted, deleted (R135 to R139, R338). -/
namespace Sys2Proof.Namespaces
open Sys2Proof Sys2Proof.Machine Sys2Proof.Effects Sys2Proof.Stores Sys2Proof.Fetching

theorem answer_of_own {s : State} {c : Cmd} (st : NvStatus) (dw0 : Nat) (h : c.fn < 1024) : answer s c st dw0 = complete s c st dw0 := if_pos h

theorem nsGate_of_pf {s : State} {c : Cmd} (pf : isPf s c.fn = true) (res : c.resv = false) : nsGate s c = .success := by
  simp only [nsGate, pfOnly, pf, res, Bool.not_true, Bool.false_eq_true, if_false]

-- ===== Create =====

/-- The free identifier a Create takes is the lowest. -/
theorem freeNsid_lowest {s : State} {id k : Nat} (h : freeNsid s = some id) (low : k < id) (one : 1 ≤ k) : s.nss.has k = true := by
  rw [freeNsid, List.find?_map, Option.map_eq_some_iff] at h
  obtain ⟨i, hi, rfl⟩ := h
  obtain ⟨-, -, before⟩ := List.find?_range_eq_some.1 hi
  have taken := before (k - 1) (by omega)
  rwa [Bool.not_eq_true', Function.comp_apply, Bool.not_eq_false', Nat.sub_add_cancel one] at taken

theorem createNs_of_free {s : State} {c : Cmd} {quota : Assoc Nat} {z : Bool} {size cap f t g id : Nat} (lbaf : f ≤ 7) (pi : piAllowed f t g = true)
    (fields : createFields s (newNs quota (halfOf (Cd.channels (coveDesc s (quota.keys.headD 0)))) z size f t g) cap = .success)
    (free : freeNsid s = some id) : createNs s c quota 0 z size cap f t g =
      let n := newNs quota (halfOf (Cd.channels (coveDesc s (quota.keys.headD 0)))) z size f t g
      if noSpace s { s with nss := s.nss.put id n } n then answer s c .nsInsufficientCapacity 0
      else answer (capCheck { s with nss := s.nss.put id n }) c .success id := by
  have format : ¬ (f > 7 ∨ (!piAllowed f t g) = true) := by
    rw [pi]
    simp only [gt_iff_lt, Bool.not_true, Bool.false_eq_true, or_false, Nat.not_lt]
    exact lbaf
  simp only [createNs, format, fields, free, true_or, if_false, if_true]

-- ===== a serialised command of a namespace =====

/-- A serialised command of an idle namespace runs at once: it stands as running until it is done. -/
theorem nsArrive_runs {s : State} {c : Cmd} {op : FwdCmd} {nsid : Nat} {n : Ns} (h : nsOf s nsid = some n) (empty : n.waitq = [])
    (idle : n.running = none) (still : s.boot.sanitizing = false) (quiet : s.boot.sanWait = []) :
    ∃ m : Assoc Ns, m.get? nsid = some { n with running := some (c, op) } ∧ nsArrive s c op nsid =
      if (nsRun { s with nss := m } c op).1 then
        { (nsRun { s with nss := m } c op).2 with nss := (nsRun { s with nss := m } c op).2.nss.upd nsid (fun n => { n with running := none }) }
      else (nsRun { s with nss := m } c op).2 := by
  let waiting : Ns := { n with waitq := [(c, op)] }
  refine ⟨(s.nss.put nsid waiting).upd nsid (fun n => { n with waitq := [], running := some (c, op) }), ?_, ?_⟩
  · rw [get?_upd, Assoc.get?_put_self, ← empty]
    rfl
  · have found : nsRec { s with nss := s.nss.put nsid waiting } nsid = waiting := by
      simp only [nsRec, nsOf, Assoc.get?_put_self, Option.getD_some]
    have free : (s.boot.sanitizing || !s.boot.sanWait.isEmpty || waiting.running.isSome) = false := by
      rw [still, quiet, show waiting.running = Option.none from idle]
      rfl
    simp only [nsArrive, h, empty, List.nil_append, List.length_nil, nsServe]
    rw [show nsRec { s with nss := s.nss.put nsid { n with waitq := [(c, op)] } } nsid = waiting from found]
    simp only [waiting] at free ⊢
    rw [if_neg (by rw [free]; exact Bool.false_ne_true)]

/-- A serialised command of a namespace that this package owns. -/
theorem nsCommand_of_own {s : State} {c : Cmd} {n : Ns} (op : FwdCmd) (gate : nsGate s c = .success) (h : nsOf s c.nsid = some n)
    (own : ownsHalf s n.half = true) : nsCommand s c op = settle (fwdRun s c op) := by
  simp only [nsCommand, gate, h, fwdOrRun, own, if_true]

-- ===== attachment =====

/-- A staged attachment change. -/
def Attaches (op : StagedOp) : Prop := (∃ nsid k, op = .attach nsid k) ∨ ∃ nsid k, op = .detach nsid k

theorem stageAt_keeps_attach {s : State} {t : Nat} {op : StagedOp} {x : Staged} (a : Attaches x.op) (h : x ∈ s.staged) :
    x ∈ (stageAt s t op).staged := by
  refine List.mem_append_left _ (List.mem_filter.2 ⟨h, ?_⟩)
  obtain ⟨w, o⟩ := x
  rcases a with ⟨nsid, k, rfl⟩ | ⟨nsid, k, rfl⟩
  · cases op <;> rfl
  · cases op <;> rfl

/-- The change of one controller of this package is staged. -/
def stageOne (s : State) (nsid : Nat) (on : Bool) (t k : Nat) : State := stageAt s t (if on then .attach nsid k else .detach nsid k)

theorem stageOne_attaches (nsid : Nat) (on : Bool) (k : Nat) : Attaches (if on then .attach nsid k else .detach nsid k) := by
  cases on with
  | true => exact .inl ⟨nsid, k, rfl⟩
  | false => exact .inr ⟨nsid, k, rfl⟩

/-- The changes of controllers of this package are staged one by one, and nothing else changes. -/
theorem stageAttach_local {s : State} (nsid : Nat) (on : Bool) {l : List Nat} (own : ∀ i ∈ l, ∃ k, ctrlOf s i = some (false, k)) :
    Keeps 48 s (stageAttach s nsid on l) ∧
      ∀ i ∈ l, ∀ k, ctrlOf s i = some (false, k) →
        (⟨applyTide s, if on then .attach nsid k else .detach nsid k⟩ : Staged) ∈ (stageAttach s nsid on l).staged := by
  have all (u : State) (frame : Keeps 48 s u) : ∀ r : List Nat, (∀ i ∈ r, ∃ k, ctrlOf s i = some (false, k)) →
      let w := r.foldl (fun s' i => match ctrlOf s' i with
        | some (false, k) => stageAt s' (applyTide s) (if on then .attach nsid k else .detach nsid k)
        | some (true, k) => { s' with nss := s'.nss.upd nsid (fun n => { n with remote := if on then n.remote ++ [k] else n.remote.filter (· != k) }) }
        | none => s') u
      Keeps 48 s w ∧ (∀ x ∈ u.staged, Attaches x.op → x ∈ w.staged) ∧
        ∀ i ∈ r, ∀ k, ctrlOf s i = some (false, k) → (⟨applyTide s, if on then .attach nsid k else .detach nsid k⟩ : Staged) ∈ w.staged := by
    intro r
    induction r generalizing u with
    | nil => exact fun _ => ⟨frame, fun _ h _ => h, fun _ h => (List.not_mem_nil h).elim⟩
    | cons i r ih =>
      intro hr
      obtain ⟨k, hk⟩ := hr i List.mem_cons_self
      have here : ctrlOf u i = some (false, k) := by
        rw [← hk]
        unfold ctrlOf cntlidBase
        rw [frame.pair rfl]
      have step : Keeps 48 u (stageAt u (applyTide s) (if on then .attach nsid k else .detach nsid k)) := Keeps.leaf (c := 48) rfl rfl
      obtain ⟨kept, old, new⟩ := ih _ (frame.trans step) (fun j hj => hr j (List.mem_cons_of_mem _ hj))
      simp only [List.foldl_cons, here]
      refine ⟨kept, fun x hx a => old x (stageAt_keeps_attach a hx) a, fun j hj k' hk' => ?_⟩
      rcases List.mem_cons.1 hj with rfl | later
      · rw [hk] at hk'
        cases hk'
        exact old _ (List.mem_append_right _ List.mem_cons_self) (stageOne_attaches nsid on k)
      · exact new j later k' hk'
  obtain ⟨kept, -, new⟩ := all s (Keeps.refl _ _) l own
  exact ⟨kept, new⟩

/-- An attachment change that passes its checks is staged with its completion, and runs until the boundary. -/
theorem nsRun_attach {s : State} {m : Assoc Ns} {c : Cmd} {n n' : Ns} (on : Bool) {op : FwdCmd} (hm : m.get? c.nsid = some n') (att : n'.attached = n.attached)
    (rem : n'.remote = n.remote) {l : List Nat} (own : ∀ i ∈ l, ∃ k, ctrlOf s i = some (false, k)) (room : canStage s (applyTide s) = true)
    (good : attachStatus s n on l = .success) (hop : op = if on then .attach c.nsid l else .detach c.nsid l) :
    (nsRun { s with nss := m } c op).1 = false ∧ (nsRun { s with nss := m } c op).2.nss = m ∧
      (∀ i ∈ l, ∀ k, ctrlOf s i = some (false, k) →
        (⟨applyTide s, if on then .attach c.nsid k else .detach c.nsid k⟩ : Staged) ∈ (nsRun { s with nss := m } c op).2.staged) ∧
      (⟨applyTide s, .complete c.nsid⟩ : Staged) ∈ (nsRun { s with nss := m } c op).2.staged := by
  have found : nsRec { s with nss := m } c.nsid = n' := by simp only [nsRec, nsOf, hm, Option.getD_some]
  have status : attachStatus { s with nss := m } n' on l = .success := by
    rw [← good]
    simp only [attachStatus, ctrlAttached, att, rem]
    rfl
  have run : nsRun { s with nss := m } c op =
      (false, stageAt (stageAttach { s with nss := m } c.nsid on l) (applyTide s) (.complete c.nsid)) := by
    subst hop
    cases on with
    | true =>
      simp only [nsRun, found, status, if_true]
      exact if_pos room
    | false =>
      simp only [nsRun, found, status, Bool.false_eq_true, if_false]
      exact if_pos room
  obtain ⟨kept, staged⟩ := stageAttach_local (s := { s with nss := m }) c.nsid on (l := l) own
  rw [run]
  refine ⟨rfl, kept.nss rfl, fun i hi k hk => ?_, List.mem_append_right _ List.mem_cons_self⟩
  exact stageAt_keeps_attach (stageOne_attaches c.nsid on k) (staged i hi k hk)

-- ===== the data of a namespace that is wiped =====

/-- Wiping the data of a namespace frees its key tag, and leaves its record otherwise. -/
theorem wipeNs_nss (s : State) (nsid : Nat) : (wipeNs s nsid).nss = s.nss.upd nsid (fun n => { n with tag := none }) := by
  have flags (l : Assoc Zone) (u : State) : (l.foldl (fun s p => lossFlag s nsid (p.1 % 2 ^ 32)) u).nss = u.nss :=
    (From.foldl (From.refl 8388608 u) (fun _ _ h => From.step (lossFlag_from ..) h rfl) _).keeps.nss rfl
  have resets (l : Assoc Zone) (u : State) : (l.foldl (fun s p => if p.2.st = .offline then s else resetZone s p.1) u).nss = u.nss := by
    refine (From.foldl (From.refl 2235121141506 u) (fun w p h => ?_) _).keeps.nss rfl
    split
    · exact h
    · exact From.step (resetZone_from ..) h rfl
  simp only [wipeNs]
  rw [(capCheck_from ..).keeps.nss rfl, (atRiskClear_from ..).keeps.nss rfl, (keyUnfix_from ..).keeps.nss rfl]
  refine congrArg (fun m : Assoc Ns => m.upd nsid (fun n => { n with tag := none })) ?_
  refine (flags _ _).trans ?_
  rw [(unpoison_from ..).keeps.nss rfl, (wbDrop_from ..).keeps.nss rfl, (clearBlocks_from ..).keeps.nss rfl]
  exact resets _ _

/-- The capacity checks of the Coves enter no loss. -/
theorem capCheck_losses (s : State) : (capCheck s).xlat.losses = s.xlat.losses := by
  have readers (e : Aen) (l : List Nat) (u : State) : (l.foldl (fun s fn => aen s fn e) u).xlat = u.xlat :=
    (From.foldl (From.refl 1142556162 u) (fun _ _ h => From.step (aen_from ..) h rfl) _).keeps.xlat rfl
  have bit (u : State) (c b : Nat) (now : Bool) : (capBit u c b now).xlat.losses = u.xlat.losses := by
    simp only [capBit]
    split
    · rfl
    · split
      · rw [readers, (event_from ..).keeps.xlat rfl]
        rfl
      · rfl
  have one (u : State) (c : Nat) : (capCheck1 u c).xlat.losses = u.xlat.losses := by
    simp only [capCheck1]
    split
    · split
      · rw [bit, bit, bit]
      · split
        · rw [bit, bit, bit]
        · rw [bit, bit]
    · rfl
  have all (l : List Nat) (u : State) : (l.foldl capCheck1 u).xlat.losses = u.xlat.losses := by
    induction l generalizing u with
    | nil => rfl
    | cons c l ih => exact (ih _).trans (one u c)
  exact all _ _

/-- A Format gives a namespace its new format; how much it holds is what it held. -/
theorem formatNs_get {s : State} {nsid f t g : Nat} {n : Ns} (h : s.nss.get? nsid = some n) : (formatNs s nsid f t g).nss.get? nsid =
    some { n with tag := none, nsze := n.nsze * n.blk / lbafBlk f, lbaf := f, piType := t, piGuard := g } := by
  simp only [formatNs]
  rw [(capCheck_from ..).keeps.nss rfl]
  show (Assoc.upd _ _ _).get? _ = _
  rw [get?_upd, wipeNs_nss, get?_upd, (endCommands_from ..).keeps.nss rfl, h]
  rfl

-- ===== Delete =====

/-- A namespace is removed with its zones and its losses; who waited is answered. -/
def nsRemoved (s : State) (nsid : Nat) (n : Ns) : State :=
  let s := wipeNs s nsid
  let s := { s with
    nss := s.nss.del nsid
    zones := s.zones.keep (fun k _ => k / 2 ^ 32 != nsid)
    xlat := { s.xlat with losses := s.xlat.losses.filter (fun e => e.nsid != nsid)
                          unpublished := s.xlat.unpublished.filter (fun e => e.nsid != nsid) } }
  let s := n.running.elim s (fun r => answer s r.1 .success 0)
  n.waitq.foldl (fun s r => answer s r.1 .invalidNsOrFormat 0) s

theorem nsRemoved_frame (s : State) (nsid : Nat) (n : Ns) :
    (nsRemoved s nsid n).nss = (wipeNs s nsid).nss.del nsid ∧ (nsRemoved s nsid n).zones = (wipeNs s nsid).zones.keep (fun k _ => k / 2 ^ 32 != nsid) ∧
      (nsRemoved s nsid n).xlat.losses = (wipeNs s nsid).xlat.losses.filter (fun e => e.nsid != nsid) := by
  let u : State := { wipeNs s nsid with
    nss := (wipeNs s nsid).nss.del nsid
    zones := (wipeNs s nsid).zones.keep (fun k _ => k / 2 ^ 32 != nsid)
    xlat := { (wipeNs s nsid).xlat with losses := (wipeNs s nsid).xlat.losses.filter (fun e => e.nsid != nsid)
                                        unpublished := (wipeNs s nsid).xlat.unpublished.filter (fun e => e.nsid != nsid) } }
  have done : From 1142556162 u (n.running.elim u (fun r => answer u r.1 .success 0)) :=
    From.elim (From.refl _ _) (fun (r : Cmd × FwdCmd) => answer_from r.1 .success 0) _
  have frame : Keeps 1142556162 u (nsRemoved s nsid n) :=
    (From.foldl done (fun _ r h => From.step (answer_from r.1 .invalidNsOrFormat 0) h rfl) n.waitq).keeps
  exact ⟨frame.nss rfl, frame.zones rfl, congrArg Xlat.losses (frame.xlat rfl)⟩

theorem namespaceDeleteDone_of_idle {s : State} {nsid : Nat} {n : Ns} (h : nsOf s nsid = some n) (del : n.deleting = true) (att : n.attached = [])
    (idle : ∀ f ∈ s.flights, f.nsid = nsid → f.sqid = 0) :
    namespaceDeleteDone s nsid = settle (sanitizeNext (capCheck (nsRemoved s nsid n))) := by
  have none : s.flights.any (fun f => f.nsid == nsid && f.sqid != 0) = false := by
    refine List.any_eq_false.2 fun f hf => ?_
    simp only [Bool.and_eq_true, beq_iff_eq, bne_iff_ne, not_and, Classical.not_not]
    exact idle f hf
  simp only [namespaceDeleteDone, h, del, att, none, List.isEmpty_nil, Bool.not_false, Bool.and_self, if_true]
  rfl

/-- Settles O22. -/
theorem namespaceAdmin : Obligations.namespace_admin := by
  intro s c sound pf res own
  have gate := nsGate_of_pf pf res
  refine ⟨fun z size cap f t g half lbaf pi fields id n free hn => ?_, fun z size cap f t g other => ?_,
    fun n found half empty idle still quiet => ?_, fun nsid n found del att idle => ?_⟩
  · have run : namespaceCreate s c z size cap f t g = createNs s c (templateQuota (vi s K.nsTmplQuota c.fn)) 0 z size cap f t g := by
      have small : c.fn % 1024 = c.fn := Nat.mod_eq_of_lt own
      simp only [namespaceCreate, gate, fwdOrRun, half, if_true, fwdRun, small]
    rw [createNs_of_free lbaf pi fields free, ← hn] at run
    refine ⟨fun space => ?_, fun full => ?_⟩
    · let u : State := { s with nss := s.nss.put id n }
      have eq : namespaceCreate s c z size cap f t g = complete (capCheck u) c .success id := by
        rw [run]
        simp only [space, Bool.false_eq_true, if_false]
        exact answer_of_own _ _ own
      refine ⟨_, next_congr eq, ?_, complete_completedDw .., fun k low one => freeNsid_lowest free low one⟩
      rw [(complete_from ..).keeps.nss rfl, (capCheck_from ..).keeps.nss rfl]
    · refine rejected_of_exec (dw0 := 0) (next_congr (run.trans ?_))
      simp only [full, if_true]
      exact answer_of_own _ _ own
  · let u : State := { s with pair := { s.pair with
      seqSent := s.pair.seqSent + 1, unacked := s.pair.unacked ++ [⟨s.pair.seqSent + 1, 8, 64, 0, false⟩],
      forwards := s.pair.forwards ++ [⟨s.pair.seqSent + 1, c, .create 0 z size cap f t g⟩] } }
    have run : namespaceCreate s c z size cap f t g = u := by
      simp only [namespaceCreate, gate, fwdOrRun, other, Bool.false_eq_true, if_false, mirrorSend]
      rfl
    exact ⟨u, next_congr run, rfl, rfl⟩
  · refine ⟨fun l room here => ⟨fun good => ?_, fun good => ?_⟩, fun att => ?_, fun ses f t g good => ?_⟩
    · obtain ⟨m, hm, run⟩ := nsArrive_runs (c := c) (op := .attach c.nsid l) found empty idle still quiet
      obtain ⟨going, nss, staged, last⟩ := nsRun_attach (op := .attach c.nsid l) true hm rfl rfl here room good rfl
      rw [going] at run
      refine ⟨_, next_congr ((nsCommand_of_own _ gate found half).trans (congrArg settle run)), ?_, staged, last⟩
      show (nsRun { s with nss := m } c (.attach c.nsid l)).2.nss.get? c.nsid = _
      rw [nss, hm]
    · obtain ⟨m, hm, run⟩ := nsArrive_runs (c := c) (op := .detach c.nsid l) found empty idle still quiet
      obtain ⟨going, nss, staged, last⟩ := nsRun_attach (op := .detach c.nsid l) false hm rfl rfl here room good rfl
      rw [going] at run
      refine ⟨_, next_congr ((nsCommand_of_own _ gate found half).trans (congrArg settle run)), ?_, staged, last⟩
      show (nsRun { s with nss := m } c (.detach c.nsid l)).2.nss.get? c.nsid = _
      rw [nss, hm]
    · obtain ⟨m, hm, run⟩ := nsArrive_runs (c := c) (op := .delete c.nsid) found empty idle still quiet
      have rec' : nsRec { s with nss := m } c.nsid = { n with running := some (c, .delete c.nsid) } := by
        simp only [nsRec, nsOf, hm, Option.getD_some]
      have going : nsRun { s with nss := m } c (.delete c.nsid) =
          (false, { s with nss := m.upd c.nsid (fun n => { n with deleting := true, remote := [] }) }) := by
        simp only [nsRun, rec', att, List.isEmpty_nil, Bool.true_or, if_true, List.foldl_nil]
      rw [going] at run
      refine ⟨_, next_congr ((nsCommand_of_own _ gate found half).trans (congrArg settle run)), rfl, ?_⟩
      show (m.upd c.nsid _).get? c.nsid = _
      rw [get?_upd, hm]
      rfl
    · obtain ⟨m, hm, run⟩ := nsArrive_runs (c := c) (op := .format c.nsid ses f t g) found empty idle still quiet
      let u := formatNs { s with nss := m } c.nsid f t g
      have going : nsRun { s with nss := m } c (.format c.nsid ses f t g) = (true, complete u c .success 0) := by
        simp only [nsRun, good]
        rw [answer_of_own _ _ own]
      rw [going] at run
      let n' : Ns := { n with tag := none, nsze := n.nsze * n.blk / lbafBlk f, lbaf := f, piType := t, piGuard := g, running := none }
      refine ⟨_, n', next_congr ((nsCommand_of_own _ gate found half).trans (congrArg settle run)), complete_completed u c .success 0, ?_, rfl, rfl,
        rfl, rfl, rfl⟩
      · show ((complete u c .success 0).nss.upd c.nsid _).get? c.nsid = _
        rw [get?_upd, (complete_from ..).keeps.nss rfl, show u = _ from rfl, formatNs_get hm]
        rfl
  · obtain ⟨nss, zones, losses⟩ := nsRemoved_frame s nsid n
    have done := (sanitizeNext_from (s := capCheck (nsRemoved s nsid n))).keeps
    have check := (capCheck_from (s := nsRemoved s nsid n)).keeps
    refine ⟨_, next_congr (namespaceDeleteDone_of_idle found del att idle), ?_, fun k zn hk => ?_, fun e he => ?_⟩
    · rw [done.nss rfl, check.nss rfl, nss, wipeNs_nss]
      exact get?_del_self _ (Assoc.wf_upd sound.nss)
    · rw [done.zones rfl, check.zones rfl, zones, get?_keep_key] at hk
      split at hk
      · next apart => exact bne_iff_ne.1 apart
      · cases hk
    · rw [done.xlat rfl, capCheck_losses, losses] at he
      exact bne_iff_ne.1 (List.mem_filter.1 he).2

end Sys2Proof.Namespaces

/-! The channel engines' queues: descriptors checked, queued, refused, withdrawn (R233 to R235, R331). -/
namespace Sys2Proof.NandQueue
open Sys2Proof Sys2Proof.Machine Sys2Proof.Effects Sys2Proof.Stores

-- ===== the LUNs =====

theorem lunAt_modLun_self (s : State) (die : Nat) (f : Lun → Lun) : lunAt (modLun s die f) die = f (lunAt s die) := by
  rw [lunAt, modLun, getD_put, if_pos rfl]

theorem luns_modLun_other (s : State) {die k : Nat} (f : Lun → Lun) (h : k ≠ die) :
    (modLun s die f).nand.luns.get? k = s.nand.luns.get? k := Assoc.get?_put_ne _ _ h

theorem ncPost_channelDone (s : State) (ch : Nat) (e : NcDone) : ChannelDone (ncPost s ch e) ch e.tag e.status :=
  ⟨e, Assoc.get?_put_self .., rfl, rfl⟩

theorem ncNotStarted_channelDone (s : State) (d : Desc) (st : Nat) : ChannelDone (ncNotStarted s d st) d.channel d.tag st :=
  ncPost_channelDone ..

-- ===== the check of a descriptor (R233, R331) =====

theorem descCheck_of_fenced {s : State} (d : Desc) (h : fencedNow s = true) : descCheck s d = 0x07 := by
  simp only [descCheck, h, if_true]

theorem descCheck_of_not_owned {s : State} {d : Desc} (free : fencedNow s = false) (h : bitAt (ownedMask s) d.channel = false) :
    descCheck s d = 0x08 := by
  simp only [descCheck, free, h, Bool.not_false, Bool.false_eq_true, if_false, if_true]

theorem descCheck_of_no_lun {s : State} {d : Desc} (free : fencedNow s = false) (own : bitAt (ownedMask s) d.channel = true)
    (h : (slotAt s (d.channel * 8 + d.ce)).present = false ∨ dieState s (descDie d) ≠ 1) : descCheck s d = 0x0C := by
  have gone : (!(slotAt s (d.channel * 8 + d.ce)).present || dieState s (descDie d) != 1) = true := by
    simpa only [Bool.or_eq_true, Bool.not_eq_true', bne_iff_ne] using h
  simp only [descCheck, free, own, gone, Bool.not_true, Bool.false_eq_true, if_false, if_true]

theorem descCheck_of_reserved {s : State} {d : Desc} (free : fencedNow s = false) (own : bitAt (ownedMask s) d.channel = true)
    (here : (slotAt s (d.channel * 8 + d.ce)).present = true) (serves : dieState s (descDie d) = 1) (h : d.resv = true) :
    descCheck s d = 0x0B := by
  simp only [descCheck, free, own, here, serves, h, Bool.not_true, bne_self_eq_false, Bool.or_self, Bool.false_eq_true, if_false, true_or,
    if_true]

-- ===== the queue =====

theorem exec_of_descOf {i : Instr} {op : Nat} {d : Desc} (h : DescOf i op d) (s : State) : exec i s = .next (enqueue s op d) := by
  rcases h with ⟨rfl, rfl⟩ | ⟨rfl, rfl⟩ | ⟨rfl, rfl⟩ | ⟨rfl, rfl⟩ | ⟨rfl, rfl⟩ | ⟨rfl, rfl⟩ | ⟨rfl, rfl⟩ | ⟨rfl, rfl⟩ <;> rfl

theorem enqueue_joins {s : State} {op : Nat} {d0 d : Desc} (hd : d = { d0 with opcode := op }) (ok : descCheck s d = 0)
    (room : (lunAt s (descDie d)).queue.length < 16) (order : op = 3 → programNext s d = true)
    (single : op = 1 → d.work = .background → backgroundRead (lunAt s (descDie d)) = false) :
    enqueue s op d0 = modLun s (descDie d) (fun l => { l with queue := l.queue ++ [d] }) := by
  subst hd
  have next : ¬ ((lunAt s (descDie { d0 with opcode := op })).queue.length ≥ 16 ∨ (op = 3 ∧ (!programNext s { d0 with opcode := op }) = true)) := by
    rintro (full | ⟨three, late⟩)
    · exact absurd room (Nat.not_lt.2 full)
    · rw [order three] at late
      cases late
  have only : ¬ (op = 1 ∧ d0.work = .background ∧ backgroundRead (lunAt s (descDie { d0 with opcode := op })) = true) := by
    rintro ⟨one, bg, two⟩
    rw [single one bg] at two
    cases two
  simp only [enqueue, ok, next, only, if_false]

theorem enqueue_waits {s : State} {op : Nat} {d0 d : Desc} (hd : d = { d0 with opcode := op }) (ok : descCheck s d = 0)
    (h : 16 ≤ (lunAt s (descDie d)).queue.length ∨ (op = 3 ∧ programNext s d = false)) : enqueue s op d0 = s := by
  subst hd
  have stays : (lunAt s (descDie { d0 with opcode := op })).queue.length ≥ 16 ∨ (op = 3 ∧ (!programNext s { d0 with opcode := op }) = true) :=
    h.imp id fun ⟨three, late⟩ => ⟨three, by rw [late, Bool.not_false]⟩
  simp only [enqueue, ok, stays, if_true]

theorem enqueue_refused {s : State} {op st : Nat} {d0 d : Desc} (hd : d = { d0 with opcode := op }) (bad : descCheck s d = st) (h : st ≠ 0) :
    enqueue s op d0 = if st = 0x0B then event (ncNotStarted s d st) Ev.ncBadDescriptor [d.channel, d.tag] else ncNotStarted s d st := by
  subst hd
  simp only [enqueue]
  split
  · next zero => exact absurd (bad.symm.trans zero) h
  · rw [bad]

theorem enqueue_refused_effect {s : State} {op st : Nat} {d0 d : Desc} (hd : d = { d0 with opcode := op }) (bad : descCheck s d = st)
    (h : st ≠ 0) : ChannelDone (enqueue s op d0) d.channel d.tag st ∧ (enqueue s op d0).nand.luns = s.nand.luns ∧
      (st = 0x0B → Recorded s (enqueue s op d0) Ev.ncBadDescriptor [d.channel, d.tag]) := by
  rw [enqueue_refused hd bad h]
  split
  · have nand : (event (ncNotStarted s d st) Ev.ncBadDescriptor [d.channel, d.tag]).nand = (ncNotStarted s d st).nand :=
      (event_from ..).keeps.nand rfl
    refine ⟨?_, by rw [nand]; rfl, fun _ => recorded_congr (event_recorded (ncNotStarted s d st) _ _) rfl rfl rfl⟩
    obtain ⟨e, he, rest⟩ := ncNotStarted_channelDone s d st
    exact ⟨e, by rw [nand, he], rest⟩
  · next other => exact ⟨ncNotStarted_channelDone .., rfl, fun eq => absurd eq other⟩

/-- Settles O38: a descriptor joins its queue, waits, or completes at once with the code of its check; a withdrawn one leaves. -/
theorem nandDescriptors : Obligations.nand_descriptors := by
  refine fun s => ⟨fun i op d0 d of hd => ⟨fun ok room order single => ?_, fun ok h => ?_, fun st bad h => ?_, descCheck_of_fenced d,
    descCheck_of_not_owned, descCheck_of_no_lun, fun free own here serves resv => ?_⟩, fun die tag d found => ?_, fun die tag found => ?_⟩
  · have run := enqueue_joins hd ok room order single
    exact ⟨_, (exec_of_descOf of s).trans (next_congr run), lunAt_modLun_self .., rfl, fun k hk => luns_modLun_other _ _ hk⟩
  · exact (exec_of_descOf of s).trans (next_congr (enqueue_waits hd ok h))
  · exact ⟨_, exec_of_descOf of s, enqueue_refused_effect hd bad h⟩
  · exact descCheck_of_reserved free own here serves (by rw [hd]; exact resv)
  · have run : descriptorWithdraw s die tag = ncNotStarted (modLun s die (fun l => { l with queue := l.queue.erase d })) d 0x0D := by
      simp only [descriptorWithdraw, found]
    have named : d.tag = tag := beq_iff_eq.1 (List.find?_some (p := fun x : Desc => x.tag == tag) found)
    have lun : lunAt (ncNotStarted (modLun s die (fun l => { l with queue := l.queue.erase d })) d 0x0D) die =
        { lunAt s die with queue := (lunAt s die).queue.erase d } :=
      lunAt_modLun_self s die (fun l => { l with queue := l.queue.erase d })
    refine ⟨_, next_congr run, named ▸ ncNotStarted_channelDone .., ?_, ?_, rfl⟩ <;> rw [lun]
  · exact next_congr (by simp only [descriptorWithdraw, found])

end Sys2Proof.NandQueue

/-! A bounded read at its deadline of admission (R278, R279, R287). -/
namespace Sys2Proof.Admission
open Sys2Proof Sys2Proof.Machine Sys2Proof.Effects Sys2Proof.Stores

theorem boundOf_congr {s t : State} (h : t.nand = s.nand) (c : Nat) : boundOf t c = boundOf s c := by
  rw [boundOf, h, ← boundOf]

theorem boundOf_modBound_self (s : State) (c : Nat) (f : BoundSt → BoundSt) : boundOf (modBound s c f) c = f (boundOf s c) := by
  rw [boundOf, modBound, getD_put, if_pos rfl]

theorem interruptRead_effect {s : State} {fn sqid cid : Nat} {f : Flight} (h : f.fn = fn ∧ f.sqid = sqid ∧ f.cid = cid) (us : Nat) :
    Completed (interruptRead s f us) ⟨fn, sqid, cid, f.nsid, false⟩ .commandInterrupted ∧ (interruptRead s f us).nand = s.nand ∧
      OnlyEntries s (interruptRead s f us) [K.traceLost] := by
  obtain ⟨rfl, rfl, rfl⟩ := h
  refine ⟨⟨_, by rw [interruptRead, completeRetry_lastCqe]; exact Assoc.get?_put_self .., rfl, rfl, rfl⟩, (interruptRead_from ..).keeps.nand rfl, ?_⟩
  exact onlyEntries_congr (completeRetry_onlyEntries _ f .commandInterrupted _ _ _) ((histCove_from (s := s) ..).keeps.dict rfl).symm rfl

/-- A refused read counts one refusal for the package and one for its Cove. -/
theorem refuse_effect {s : State} {fn sqid cid : Nat} {f : Flight} (h : f.fn = fn ∧ f.sqid = sqid ∧ f.cid = cid) (src arg us : Nat)
    (ws : List Nat) :
    let u := interruptRead (modBound (traceItem (bump64 s K.boundRefused) src 0x04 arg ws) f.cove
        (fun b => { b with refused := satAdd 32 b.refused 1 })) f us;
      v u K.boundRefused = satAdd 64 (v s K.boundRefused) 1 ∧ Completed u ⟨fn, sqid, cid, f.nsid, false⟩ .commandInterrupted ∧
      (boundOf u f.cove).refused = satAdd 32 (boundOf s f.cove).refused 1 := by
  obtain ⟨done, nand, entries⟩ := interruptRead_effect (s := modBound (traceItem (bump64 s K.boundRefused) src 0x04 arg ws) f.cove
        (fun b => { b with refused := satAdd 32 b.refused 1 })) h us
  refine ⟨?_, done, ?_⟩
  · rw [entries _ (by decide)]
    exact (traceItem_onlyEntries (bump64 s K.boundRefused) src 0x04 arg ws _ (by decide)).trans (v_setV_self ..)
  · rw [boundOf_congr nand, boundOf_modBound_self, boundOf_congr ((traceItem_from ..).keeps.nand rfl)]
    rfl

/-- Settles O42: at its deadline a read that is held and does not fit is refused, or goes on without a bound under an excuse. -/
theorem readAdmission : Obligations.read_admission := by
  refine fun s fn sqid cid f found => ⟨fun bounded waits late full => ⟨fun own all cove => ?_, fun excused => ?_⟩, fun stays => ?_⟩
  · obtain ⟨hfn, hq, hc, -⟩ := flight?_ids found
    let t : State := traceItem (bump64 s K.boundRefused) (0x11 + (flightDies f).headD 0 / 512 % 4) 0x04 f.cove
      [f.fn % 1024, f.sqid % 65536 * 65536 + f.cid % 65536]
    have run : admissionDeadline s fn sqid cid =
        interruptRead (modBound t f.cove (fun b => { b with refused := satAdd 32 b.refused 1 })) f (blockingUs t f) := by
      simp only [admissionDeadline, found, bounded, waits, full, own, all, cove, ge_iff_le, late, decide_true, Bool.not_false, Bool.and_self,
        Bool.or_self, Bool.false_eq_true, if_true, if_false]
      rfl
    exact ⟨_, next_congr (congrArg settle run), refuse_effect ⟨hfn, hq, hc⟩ _ _ _ _⟩
  · have excused' : (f.excused || excuseAll s || excuseCove s f.cove) = true := by
      simpa only [Bool.or_eq_true, or_assoc] using excused
    have run : admissionDeadline s fn sqid cid = modFlight (excuse s f) f.seq (fun x => { x with bounded := false }) := by
      simp only [admissionDeadline, found, bounded, waits, full, excused', ge_iff_le, late, decide_true, Bool.not_false, Bool.and_self, if_true]
    refine ⟨_, next_congr (congrArg settle run), fun g hg same => ?_⟩
    obtain ⟨x, -, rfl⟩ := List.mem_map.1 hg
    split at same
    · next eq => rw [if_pos eq]
    · next ne => exact absurd same ne
  · have stop : (f.bounded && held f && decide (s.clk.nowNs ≥ deadline s f) && !unitsFit s f) = false := by
      rcases stays with h | h | h | h
      · simp only [h, Bool.false_and]
      · simp only [h, Bool.and_false, Bool.false_and]
      · simp only [ge_iff_le, decide_eq_false (Nat.not_le.2 h), Bool.and_false, Bool.false_and]
      · simp only [h, Bool.not_true, Bool.and_false]
    exact next_congr (congrArg settle (by simp only [admissionDeadline, found, stop, Bool.false_eq_true, if_false]))

end Sys2Proof.Admission

/-! The buffer pools: grants, references, refusals, watermark records (R304 to R310). -/
namespace Sys2Proof.Buffers
open Sys2Proof Sys2Proof.Machine Sys2Proof.Effects Sys2Proof.Answers Sys2Proof.Stores

theorem bufAt_congr {s t : State} (h : t.bufs = s.bufs) (k : Nat) : bufAt t k = bufAt s k := by rw [bufAt, h, ← bufAt]

theorem watermarks_bufs (s : State) : (watermarks s).bufs = s.bufs := watermarks_from.keeps.bufs rfl

-- ===== refusals (R308) =====

/-- A refusal counts by its code, keeps the fault, and records its event. -/
theorem bpRefuse_eq (s : State) (code h q : Nat) : ∃ u, OnlyEntries s u [K.bpDoubleFrees, K.bpStaleHandles, K.bpRefOverflows, K.bpLastFault] ∧
    u = { s with dict := u.dict, bufs := { s.bufs with code := code } } ∧ bpRefuse s code h q = event u Ev.bpRefused [code, h, q] := by
  let w : State := { s with bufs := { s.bufs with code := code } }
  have counts : ∃ u, OnlyEntries w u [K.bpDoubleFrees, K.bpStaleHandles, K.bpRefOverflows, K.bpLastFault] ∧ u = { w with dict := u.dict } ∧
      (if code = 1 ∨ code = 4 then bump32 w K.bpDoubleFrees else if code = 2 ∨ code = 5 then bump32 w K.bpStaleHandles
        else if code = 3 then bump32 w K.bpRefOverflows else w) = u := by
    split
    · exact ⟨_, onlyEntries_mono (onlyEntries_bump _ _ _ _) (by decide), rfl, rfl⟩
    split
    · exact ⟨_, onlyEntries_mono (onlyEntries_bump _ _ _ _) (by decide), rfl, rfl⟩
    split
    · exact ⟨_, onlyEntries_mono (onlyEntries_bump _ _ _ _) (by decide), rfl, rfl⟩
    · exact ⟨w, onlyEntries_refl _ _, rfl, rfl⟩
  obtain ⟨u, keeps, frame, hu⟩ := counts
  refine ⟨setV u K.bpLastFault (code * 2 ^ 56 + q % 256 * 2 ^ 48 + h % 2 ^ 32), ?_, by rw [frame]; rfl, by rw [← hu]; rfl⟩
  exact onlyEntries_trans keeps (onlyEntries_mono (onlyEntries_setV _ _ _) (by decide))

theorem bpRefuse_bufs (s : State) (code h q : Nat) : (bpRefuse s code h q).bufs = { s.bufs with code := code } := by
  obtain ⟨u, -, frame, e⟩ := bpRefuse_eq s code h q
  rw [e, show (event u Ev.bpRefused [code, h, q]).bufs = u.bufs from (event_from ..).keeps.bufs rfl, frame]

theorem bpRefuse_recorded (s : State) (code h q : Nat) : Recorded s (bpRefuse s code h q) Ev.bpRefused [code, h, q] := by
  obtain ⟨u, keeps, frame, e⟩ := bpRefuse_eq s code h q
  rw [e]
  exact recorded_congr (event_recorded u _ _) (by rw [frame]) (keeps _ (by decide)).symm rfl

-- ===== grants (R304, R305) =====

theorem poolFor_of_above {bytes : Nat} (h : 262144 < bytes) : poolFor bytes = none := by
  rw [poolFor, List.find?_eq_none]
  intro p hp
  have top : bufSizes.getD p 0 ≤ 262144 := by
    have each : ∀ p < 5, bufSizes.getD p 0 ≤ 262144 := by decide
    exact each p (List.mem_range.1 hp)
  simp only [decide_eq_true_eq]
  omega

theorem bufferAllocate_of_pool {s : State} {dom bytes p : Nat} (q n : Nat) (hd : dom ≤ 8) (pool : poolFor bytes = some p) :
    bufferAllocate s dom bytes q n = (tryGrant s ⟨dom, bytes, q, n⟩).getD
      { s with bufs := { s.bufs with waiting := s.bufs.waiting ++ [⟨dom, bytes, q, n⟩], granted := none } } := by
  simp only [bufferAllocate, gt_iff_lt, Nat.not_lt.2 hd, pool, Option.isNone_some, Bool.false_eq_true, if_false]
  cases tryGrant s ⟨dom, bytes, q, n⟩ <;> rfl

theorem tryGrant_of_free {s : State} {dom bytes p i : Nat} (q n : Nat) (pool : poolFor bytes = some p) (free : lowestFree s dom p = some i)
    (fits : chargeFits s dom p n = true) : tryGrant s ⟨dom, bytes, q, n⟩ = some (watermarks (grantBuf s dom p i n)) := by
  simp only [tryGrant, pool, free, fits, if_true]

-- ===== references (R307, R308) =====

section References
variable {s : State} {h : Nat} (q : Nat)

theorem bufferAcquire_of_bad (bad : handleOk s h = false) : bufferAcquire s h q = bpRefuse s 5 h q := by
  simp only [bufferAcquire, bad, Bool.not_false, if_true]

theorem bufferRelease_of_bad (bad : handleOk s h = false) : bufferRelease s h q = bpRefuse s 5 h q := by
  simp only [bufferRelease, bad, Bool.not_false, if_true]

variable {b : Buf} (hb : b = bufAt s (bufKey (hDomain h) (hPool h) (hIndex h))) (ok : handleOk s h = true)
include hb ok

theorem bufferAcquire_of_free (free : b.alloc = false) : bufferAcquire s h q = bpRefuse s 4 h q := by
  simp only [bufferAcquire, ok, ← hb, free, Bool.not_true, Bool.not_false, Bool.false_eq_true, if_false, if_true]

theorem bufferRelease_of_free (free : b.alloc = false) : bufferRelease s h q = bpRefuse s 1 h q := by
  simp only [bufferRelease, ok, ← hb, free, Bool.not_true, Bool.not_false, Bool.false_eq_true, if_false, if_true]

variable (held : b.alloc = true)
include held

theorem bufferAcquire_of_stale (stale : b.tag ≠ hTag h) : bufferAcquire s h q = bpRefuse s 2 h q := by
  simp only [bufferAcquire, ok, ← hb, held, stale, Bool.not_true, Bool.false_eq_true, ne_eq, not_false_eq_true, if_false, if_true]

theorem bufferRelease_of_stale (stale : b.tag ≠ hTag h) : bufferRelease s h q = bpRefuse s 2 h q := by
  simp only [bufferRelease, ok, ← hb, held, stale, Bool.not_true, Bool.false_eq_true, ne_eq, not_false_eq_true, if_false, if_true]

variable (tag : b.tag = hTag h)
include tag

theorem bufferAcquire_of_full (full : 255 ≤ b.refs) : bufferAcquire s h q = bpRefuse s 3 h q := by
  simp only [bufferAcquire, ok, ← hb, held, tag, full, Bool.not_true, Bool.false_eq_true, ne_eq, not_true_eq_false, if_false, if_true]

theorem bufferAcquire_of_held (room : b.refs < 255) : bufferAcquire s h q =
    { s with bufs := { s.bufs with
        bufs := s.bufs.bufs.put (bufKey (hDomain h) (hPool h) (hIndex h)) { b with refs := b.refs + 1 }, code := 0 } } := by
  simp only [bufferAcquire, ok, ← hb, held, tag, Nat.not_le.2 room, Bool.not_true, Bool.false_eq_true, ne_eq, not_true_eq_false,
    if_false]

theorem bufferRelease_of_shared (more : 1 < b.refs) : bufferRelease s h q =
    { s with bufs := { s.bufs with
        bufs := s.bufs.bufs.put (bufKey (hDomain h) (hPool h) (hIndex h)) { b with refs := b.refs - 1 }, code := 0 } } := by
  simp only [bufferRelease, ok, ← hb, held, tag, Nat.not_le.2 more, Bool.not_true, Bool.false_eq_true, ne_eq, not_true_eq_false, if_false, if_true]

theorem bufferRelease_of_last (last : b.refs ≤ 1) (idle : s.bufs.waiting = []) : bufferRelease s h q =
    watermarks { s with bufs := { s.bufs with
        bufs := s.bufs.bufs.put (bufKey (hDomain h) (hPool h) (hIndex h)) { b with refs := 0, alloc := false }, code := 0 } } := by
  simp only [bufferRelease, ok, ← hb, held, tag, last, idle, Bool.not_true, Bool.false_eq_true, ne_eq, not_true_eq_false, if_false, if_true,
    List.length_nil, grantWaiting]

end References

/-- Settles O44: a grant takes the lowest free buffer under a fresh tag, references count, and a refusal changes no buffer. -/
theorem bufferPools : Obligations.buffer_pools := by
  refine fun s => ⟨fun dom bytes q n p i tag hd pool free fits htag => ?_, fun dom bytes q n hd above => ?_, fun dom bytes q n hd pool full => ?_,
    fun h q k b hk hb ok => ?_, fun h q bad => ?_, fun a w r key hw found => ?_⟩
  · have run : bufferAllocate s dom bytes q n = watermarks (grantBuf s dom p i n) := by
      rw [bufferAllocate_of_pool q n hd pool, tryGrant_of_free q n pool free fits, Option.getD_some]
    have bufs : (watermarks (grantBuf s dom p i n)).bufs = { s.bufs with
        bufs := s.bufs.bufs.put (bufKey dom p i) ⟨true, 1, tag, false, n⟩, granted := some (mkHandle dom p tag i), code := 0 } := by
      rw [watermarks_bufs, htag]
      rfl
    refine ⟨_, next_congr run, ?_, by rw [bufs], fun k hk => ?_⟩
    · rw [bufAt, bufs, getD_put, if_pos rfl]
    · rw [bufs]
      exact Assoc.get?_put_ne _ _ hk
  · have run : bufferAllocate s dom bytes q n = bpRefuse s 6 0 q := by
      simp only [bufferAllocate, gt_iff_lt, Nat.not_lt.2 hd, poolFor_of_above above, Option.isNone_none, if_false, if_true]
    exact ⟨_, next_congr run, bpRefuse_bufs .., bpRefuse_recorded _ _ _ _⟩
  · obtain ⟨p, hp⟩ := Option.ne_none_iff_exists'.1 pool
    exact ⟨_, next_congr (by rw [bufferAllocate_of_pool q n hd hp, full, Option.getD_none]), rfl⟩
  · subst hk
    refine ⟨fun held tag room => ⟨_, next_congr (bufferAcquire_of_held q hb ok held tag room), ?_, rfl⟩,
      fun held tag full => ⟨_, next_congr (bufferAcquire_of_full q hb ok held tag full), bpRefuse_bufs ..⟩,
      fun free => ⟨⟨_, next_congr (bufferAcquire_of_free q hb ok free), bpRefuse_bufs ..⟩,
        ⟨_, next_congr (bufferRelease_of_free q hb ok free), bpRefuse_bufs ..⟩⟩,
      fun held stale => ⟨⟨_, next_congr (bufferAcquire_of_stale q hb ok held stale), bpRefuse_bufs ..⟩,
        ⟨_, next_congr (bufferRelease_of_stale q hb ok held stale), bpRefuse_bufs ..⟩⟩,
      fun held tag more => ⟨_, next_congr (bufferRelease_of_shared q hb ok held tag more), ?_, rfl⟩,
      fun held tag last idle => ⟨_, next_congr (bufferRelease_of_last q hb ok held tag last idle), ?_, ?_, fun j hj => ?_⟩⟩
    · rw [bufAt, getD_put, if_pos rfl]
    · rw [bufAt, getD_put, if_pos rfl]
    · rw [bufAt_congr (watermarks_bufs _), bufAt, getD_put, if_pos rfl]
    · rw [bufAt_congr (watermarks_bufs _), bufAt, getD_put, if_pos rfl]
    · rw [watermarks_bufs]
      exact Assoc.get?_put_ne _ _ hj
  · exact ⟨⟨_, next_congr (bufferAcquire_of_bad q bad), bpRefuse_bufs ..⟩, ⟨_, next_congr (bufferRelease_of_bad q bad), bpRefuse_bufs ..⟩⟩
  · refine ⟨_, next_congr (accessRead_of_ok _ found), respond_answered .., ?_⟩
    have apart : unitKey K.wmRecord w ∉ answerKeys := (by decide : ∀ w < 6, unitKey K.wmRecord w ∉ answerKeys) w hw
    exact (respond_onlyEntries _ _ _ _ _ _ _ _ _ _ _ apart).trans (v_setV_self ..)

end Sys2Proof.Buffers

/-! The hold-up bank: charged, tested, and the energy that sets AT_RISK_LIMIT (R241, R242, R360 to R362). -/
namespace Sys2Proof.HoldupBank
open Sys2Proof Sys2Proof.Machine Sys2Proof.Effects Sys2Proof.Answers

-- ===== the outcome of a measured energy =====

/-- The measured energy, the limit it gives and the result are noted, and the first limit stays the first. -/
def measured (s : State) (mJ result : Nat) : State :=
  setV (setV (setV { s with power := { s.power with firstLimit := some (s.power.firstLimit.getD (limitOf s mJ)) } } K.holdupEnergy mJ)
    K.atRiskLimit (limitOf s mJ)) K.huTestResult result

theorem measured_entries (s : State) (mJ result : Nat) : v (measured s mJ result) K.holdupEnergy = mJ ∧
    v (measured s mJ result) K.atRiskLimit = limitOf s mJ ∧ v (measured s mJ result) K.huTestResult = result :=
  ⟨(v_setV_ne _ _ (by decide)).trans ((v_setV_ne _ _ (by decide)).trans (v_setV_self ..)),
    (v_setV_ne _ _ (by decide)).trans (v_setV_self ..), v_setV_self ..⟩

theorem applyEnergy_of_enough {s : State} {mJ : Nat} (code : Nat) (h : 268435456 ≤ limitOf s mJ) : applyEnergy s mJ code =
    settle (setV { measured s mJ 1 with power := { (measured s mJ 1).power with holdupFail := false } } K.writeThrough 0) := by
  simp only [applyEnergy, ge_iff_le, h, decide_true, if_true]
  rfl

/-- With too little energy write-through stands, at once. -/
theorem applyEnergy_of_short {s : State} {mJ : Nat} (code : Nat) (h : limitOf s mJ < 268435456) :
    let t := applyEnergy s mJ code
    v t K.holdupEnergy = mJ ∧ v t K.atRiskLimit = limitOf s mJ ∧ v t K.huTestResult = code ∧ vb t K.writeThrough = true ∧
      t = { s with dict := t.dict, recd := t.recd, power := { (measured s mJ code).power with holdupFail := true } } := by
  obtain ⟨energy, limit, result⟩ := measured_entries s mJ code
  let w : State := { measured s mJ code with power := { (measured s mJ code).power with holdupFail := true } }
  have run : applyEnergy s mJ code = if vb s K.writeThrough then w else
      let u := event (setV w K.writeThrough 1) Ev.holdupTestFail [limitOf s mJ, mJ]
      if atRisk u = 0 then event u Ev.atRiskClear [] else u := by
    simp only [applyEnergy, ge_iff_le, Nat.not_le.2 h, decide_false, Bool.false_eq_true, if_false]
    rfl
  -- recording leaves these entries and the rest of the state
  have recorded (x : State) (ev : Nat) (args : List Nat) (y : State) (hx : OnlyEntries (setV w K.writeThrough 1) x recordKeys)
      (fx : x = { w with dict := x.dict, recd := x.recd }) (hy : y = event x ev args) :
      OnlyEntries (setV w K.writeThrough 1) y recordKeys ∧ y = { w with dict := y.dict, recd := y.recd } := by
    have keep : y = { x with dict := y.dict, recd := y.recd } := hy ▸ (event_from ..).keeps
    exact ⟨hy ▸ onlyEntries_trans hx (event_onlyEntries _ _ _), by rw [fx] at keep; exact keep⟩
  intro t
  by_cases on : vb s K.writeThrough = true
  · have same : t = w := run.trans (if_pos on)
    rw [same]
    refine ⟨energy, limit, result, ?_, rfl⟩
    have kept : v w K.writeThrough = v s K.writeThrough :=
      (v_setV_ne _ _ (by decide)).trans ((v_setV_ne _ _ (by decide)).trans ((v_setV_ne _ _ (by decide)).trans rfl))
    rw [vb, kept]
    exact on
  · have both : OnlyEntries (setV w K.writeThrough 1) t recordKeys ∧ t = { w with dict := t.dict, recd := t.recd } := by
      obtain ⟨h1, f1⟩ := recorded _ Ev.holdupTestFail [limitOf s mJ, mJ] _ (onlyEntries_refl _ _) rfl rfl
      have ht := run.trans (if_neg on)
      simp only at ht
      split at ht
      · exact recorded _ _ _ _ h1 f1 ht
      · rw [show t = _ from ht]
        exact ⟨h1, f1⟩
    obtain ⟨entries, frame⟩ := both
    refine ⟨?_, ?_, ?_, ?_, frame⟩
    · exact (entries _ (by decide)).trans ((v_setV_ne _ _ (by decide)).trans energy)
    · exact (entries _ (by decide)).trans ((v_setV_ne _ _ (by decide)).trans limit)
    · exact (entries _ (by decide)).trans ((v_setV_ne _ _ (by decide)).trans result)
    · rw [vb, entries _ (by decide), v_setV_self]
      rfl

theorem limitOf_zero (s : State) : limitOf s 0 = 0 := by
  have none (b x q : Nat) : (b * 0 * 10 * 1000000 - x) / q = 0 := by
    rw [Nat.mul_zero, Nat.zero_mul, Nat.zero_sub, Nat.zero_div]
  simp only [limitOf, none, ite_self, Nat.zero_min]

-- ===== the test =====

/-- The test ends with a capacitance: the load is off and the recharge begins. -/
def testEnded (s : State) (c : Nat) : State :=
  { s with power := { s.power with testing := false, testLoad := false, charging := true, recharging := true, cap := c } }

/-- The sample V2 ends the test, and the capacitance is noted. -/
def sampled (s : State) (v2 c : Nat) : State := setV (setV (testEnded s c) K.huBankMv v2) K.huCapacitanceUf (Nat.min (c / fix64) (2 ^ 32 - 1))

theorem sampled_onlyEntries (s : State) (v2 c : Nat) : OnlyEntries s (sampled s v2 c) [K.huBankMv, K.huCapacitanceUf] :=
  onlyEntries_append (ks := [K.huBankMv]) (ls := [K.huCapacitanceUf])
    (onlyEntries_congr (onlyEntries_setV (testEnded s c) K.huBankMv v2) rfl rfl) (onlyEntries_setV _ _ _)

theorem holdupTestSample_of_test {s : State} {c : Nat} (v2 : Nat) (on : s.power.testing = true) (load : s.power.testLoad = true)
    (hc : c = capacitance s s.power.v1 v2) : holdupTestSample s v2 = applyEnergy (sampled s v2 c)
      (Nat.min (if c = 0 then 0 else bankEnergy (sampled s v2 c) c (v s K.huTargetMv)) (2 ^ 32 - 1)) 2 := by
  rw [← sampled_onlyEntries s v2 c K.huTargetMv (by decide), hc]
  simp only [holdupTestSample, on, load, Bool.and_self, if_true]
  rfl

/-- What a test that passes leaves. -/
theorem enough_effect (s : State) (v2 c mJ : Nat) :
    let w := sampled s v2 c
    let u := setV { measured w mJ 1 with power := { (measured w mJ 1).power with holdupFail := false } } K.writeThrough 0
    v u K.holdupEnergy = mJ ∧ v u K.atRiskLimit = limitOf w mJ ∧ v u K.huTestResult = 1 ∧ v u K.writeThrough = 0 ∧
      u.power.holdupFail = false ∧ u.power.cap = c ∧ u.power.testing = false := by
  obtain ⟨energy, limit, result⟩ := measured_entries (sampled s v2 c) mJ 1
  exact ⟨(v_setV_ne _ _ (by decide)).trans energy, (v_setV_ne _ _ (by decide)).trans limit, (v_setV_ne _ _ (by decide)).trans result,
    v_setV_self .., rfl, rfl, rfl⟩

/-- What a test that fails leaves. -/
theorem short_effect {s : State} {v2 c mJ : Nat} (short : limitOf (sampled s v2 c) mJ < 268435456) :
    let t := applyEnergy (sampled s v2 c) mJ 2
    v t K.holdupEnergy = mJ ∧ v t K.atRiskLimit = limitOf (sampled s v2 c) mJ ∧ v t K.huTestResult = 2 ∧ vb t K.writeThrough = true ∧
      t.power.holdupFail = true ∧ t.power.cap = c ∧ t.power.testing = false := by
  obtain ⟨energy, limit, result, wt, frame⟩ := applyEnergy_of_short 2 short
  have power : (applyEnergy (sampled s v2 c) mJ 2).power = { (measured (sampled s v2 c) mJ 2).power with holdupFail := true } := by rw [frame]
  exact ⟨energy, limit, result, wt, by rw [power], by rw [power]; rfl, by rw [power]; rfl⟩

/-- The charger stops at the target and starts below 98 % of it, unless a test runs (R360). -/
theorem holdupCharge_power (s : State) (mv : Nat) : (holdupCharge s mv).power =
    if v s K.huTargetMv ≤ mv then { s.power with charging := false, charged := true, recharging := false }
    else if decide (mv * 100 < v s K.huTargetMv * 98) && !s.power.testing then { s.power with charging := true } else s.power := by
  rw [← v_setV_ne s mv (show K.huTargetMv ≠ K.huBankMv by decide)]
  simp only [holdupCharge, apply_ite State.power]
  rfl

/-- Settles O50: the bank is charged, tested, and its energy sets AT_RISK_LIMIT and write-through. -/
theorem holdupBank : Obligations.holdup_bank := by
  refine fun s => ⟨fun mv => ?_, fun first => ?_, fun done => ?_, fun v1 may off => ?_, fun v1 h => ?_, fun v2 c on load hc => ?_, fun v2 h => ?_,
    fun mv h => ?_, fun mv test recharge => ?_, fun a x => ?_⟩
  · have power := holdupCharge_power s mv
    have dict : (holdupCharge s mv).dict = (setV s K.huBankMv mv).dict := by
      simp only [holdupCharge]
      split
      · rfl
      · split <;> rfl
    refine ⟨_, rfl, (v_of_dict dict _).trans (v_setV_self ..), onlyEntries_congr (onlyEntries_setV s K.huBankMv mv) rfl dict, (holdupCharge_from mv).keeps, fun full => ?_,
      fun low idle => ?_, fun below between => ?_⟩
    · rw [power, if_pos full]
    · rw [power, if_neg (by omega), if_pos (by rw [idle, decide_eq_true low]; rfl)]
    · rw [power, if_neg (Nat.not_le.2 below), if_neg ?_]
      rcases between with h | h
      · rw [decide_eq_false (Nat.not_lt.2 h), Bool.false_and]
        exact Bool.false_ne_true
      · rw [h, Bool.not_true, Bool.and_false]
        exact Bool.false_ne_true
  · have run : holdupChargeTimeout s = applyEnergy (event s Ev.holdupChargeFault [v s K.huBankMv]) 0 4 := by
      simp only [holdupChargeTimeout, first, Bool.false_eq_true, if_false]
    have zero := limitOf_zero (event s Ev.holdupChargeFault [v s K.huBankMv])
    obtain ⟨energy, limit, result, wt, frame⟩ := applyEnergy_of_short (s := event s Ev.holdupChargeFault [v s K.huBankMv]) (mJ := 0) 4
      (by rw [zero]; decide)
    have faulted := (event_from (s := s) Ev.holdupChargeFault [v s K.huBankMv]).keeps
    refine ⟨_, next_congr run, energy, limit.trans zero, result, wt, by rw [frame], ?_, ?_⟩ <;> rw [frame]
    · exact faulted.xlat rfl
    · exact faulted.clk rfl
  · exact next_congr (by simp only [holdupChargeTimeout, done, if_true])
  · have run : holdupTest s v1 =
        setV { s with power := { s.power with testing := true, charging := false, testLoad := true, v1 := v1 } } K.huBankMv v1 := by
      simp only [holdupTest, may, off, Bool.not_false, Bool.and_self, if_true]
    exact ⟨_, next_congr run, v_setV_self .., onlyEntries_congr (onlyEntries_setV s K.huBankMv v1) rfl rfl, rfl⟩
  · have stop : (testable s && !s.power.testLoad) = false := by
      rcases h with h | h
      · rw [h, Bool.false_and]
      · rw [h, Bool.not_true, Bool.and_false]
    exact next_congr (by simp only [holdupTest, stop, Bool.false_eq_true, if_false])
  · have run := holdupTestSample_of_test v2 on load hc
    generalize hm : Nat.min (if c = 0 then 0 else bankEnergy (sampled s v2 c) c (v s K.huTargetMv)) (2 ^ 32 - 1) = mJ at run
    exact ⟨sampled s v2 c, mJ, limitOf (sampled s v2 c) mJ, sampled_onlyEntries s v2 c, rfl, (v_setV_ne _ _ (by decide)).trans (v_setV_self ..),
      v_setV_self .., hm.symm, rfl, fun enough => ⟨_, next_congr (run.trans (applyEnergy_of_enough 2 enough)), enough_effect s v2 c mJ⟩,
      fun short => ⟨_, next_congr run, short_effect short⟩⟩
  · have stop : (s.power.testing && s.power.testLoad) = false := by
      rcases h with h | h
      · rw [h, Bool.false_and]
      · rw [h, Bool.and_false]
    exact next_congr (by simp only [holdupTestSample, stop, Bool.false_eq_true, if_false])
  · have test : (s.power.testing || s.power.recharging) = true := Bool.or_eq_true_iff.2 h
    have run : atRiskRecompute s mv = settle (setV (setV s K.huBankMv mv) K.atRiskLimit
        (limitOf (setV s K.huBankMv mv) (bankEnergy (setV s K.huBankMv mv) s.power.cap mv))) := by
      simp only [atRiskRecompute, test, if_true]
      rfl
    exact ⟨_, next_congr run, (v_setV_ne _ _ (by decide)).trans (v_setV_self ..),
      onlyEntries_append (ks := [K.huBankMv]) (ls := [K.atRiskLimit]) (onlyEntries_setV _ _ _) (onlyEntries_setV _ _ _), rfl,
      setV s K.huBankMv mv, rfl, onlyEntries_setV _ _ _, v_setV_self .., v_setV_self ..⟩
  · exact next_congr (by simp only [atRiskRecompute, test, recharge, Bool.or_self, Bool.false_eq_true, if_false])
  · rintro ⟨r, key, found, good⟩
    have run := accessWrite_of_ok (fun s _ => if s.power.testing || s.power.flushActive then (.code 0x0B, s)
      else (.code 0, { s with power := { s.power with testing := true, charging := false, testLoad := false, v1 := 0 } })) found good
    refine ⟨fun busy => ?_, fun idle calm => ?_⟩
    · simp only [Bool.or_eq_true_iff.2 busy, if_true] at run
      exact ⟨_, next_congr run, respond_answered .., respond_onlyAnswered ..⟩
    · have free : (s.power.testing || s.power.flushActive) = false := by rw [idle, calm, Bool.or_self]
      simp only [free, Bool.false_eq_true, if_false] at run
      exact ⟨_, next_congr run, respond_answered .., (respond_from ..).keeps.power rfl⟩

end Sys2Proof.HoldupBank

/-! Signer keys, attestation and service mode (R377 to R396). -/
namespace Sys2Proof.Security
open Sys2Proof Sys2Proof.Machine Sys2Proof.Effects Sys2Proof.Answers

-- ===== operations of a byte value that answer with a code =====

/-- An entry of bytes is written by an operation: opcode 5, the code the operation gave. -/
theorem accessBytes_op {s : State} {a : Access} {idx sub : Nat} {b : Bytes} {f : State → Nat × State} (reach : Reached s a idx sub)
    (op : (rowOf idx sub).map Row.ty = some 14) : accessBytes s a idx sub 0 b (fun s _ => coded (f s)) =
      respond (f s).2 a.path 5 a.tag a.cid idx sub (.code (f s).1) 0 [] := by
  obtain ⟨r, key, found⟩ := reach
  obtain ⟨row, -⟩ := lookup_ok found
  have ty : r.ty = 14 := by
    rw [row] at op
    exact Option.some.inj op
  rw [accessBytes_of_ok _ row found (.inl rfl), if_pos ty]
  rfl

/-- An operation that gives a code and changes nothing only answers. -/
theorem accessBytes_refused {s : State} {a : Access} {idx sub code : Nat} {b : Bytes} {f : State → Nat × State} (reach : Reached s a idx sub)
    (op : (rowOf idx sub).map Row.ty = some 14) (h : f s = (code, s)) :
    Answered (accessBytes s a idx sub 0 b (fun s _ => coded (f s))) a.path 5 a.tag code [] ∧
      OnlyAnswered s (accessBytes s a idx sub 0 b (fun s _ => coded (f s))) [] := by
  rw [accessBytes_op reach op, h]
  exact ⟨respond_answered .., respond_onlyAnswered ..⟩

/-- An operation that takes effect answers, and the answer leaves the boot ROM's store as the operation left it. -/
theorem accessBytes_done {s t : State} {a : Access} {idx sub code : Nat} {b : Bytes} {f : State → Nat × State} (reach : Reached s a idx sub)
    (op : (rowOf idx sub).map Row.ty = some 14) (h : f s = (code, t)) :
    let u := accessBytes s a idx sub 0 b (fun s _ => coded (f s))
    Answered u a.path 5 a.tag code [] ∧ u.boot = t.boot ∧ u.recd = t.recd ∧ OnlyEntries t u answerKeys := by
  intro u
  have run : u = respond t a.path 5 a.tag a.cid idx sub (.code code) 0 [] := by
    rw [show u = _ from accessBytes_op reach op, h]
  have keeps := (respond_from (s := t) a.path 5 a.tag a.cid idx sub (.code code) 0 []).keeps
  rw [run]
  exact ⟨respond_answered .., keeps.boot rfl, keeps.recd rfl, respond_onlyEntries _ _ _ _ _ _ _ _ _ _⟩

-- ===== signer keys =====

theorem addSigner_of_good {s : State} {b : Bytes} (h : signerAddCheck s b = 0) : addSigner s b = (0, domChanged { s with boot := { s.boot with
    signers := s.boot.signers ++ [⟨leAt b 0 1, leAt b 1 1, Config.sha3 ((b.drop 8).take (leAt b 4 4)), time64 s⟩] } } K.signerKeys) := by
  simp only [addSigner, h, ne_eq, not_true_eq_false, if_false]

theorem addSigner_of_bad {s : State} {b : Bytes} (h : signerAddCheck s b ≠ 0) : addSigner s b = (signerAddCheck s b, s) := if_pos h

section Removal
variable {s : State} {b : Bytes}

theorem removeSigner_of_malformed (h : authForm b 32 ≠ 0) : removeSigner s b = (authForm b 32, s) := if_pos h

variable (form : authForm b 32 = 0)
include form

theorem removeSigner_of_unsigned (h : ownerAuth s b 32 = false) : removeSigner s b = (0x11, s) := by
  simp only [removeSigner, form, h, Bool.not_false, ne_eq, not_true_eq_false, if_false, if_true]

variable (auth : ownerAuth s b 32 = true) {left : List Signer} (hl : left = s.boot.signers.filter (fun x => x.hash != leAt b 0 32))
include auth hl

/-- Nothing leaves the store, or no owner would stay. -/
theorem removeSigner_of_kept (h : left = s.boot.signers ∨ ∀ x ∈ left, x.role ≠ 1) : removeSigner s b = (7, s) := by
  have kept : left.length = s.boot.signers.length ∨ (!left.any (fun x => x.role == 1)) = true := by
    refine h.imp (congrArg _) fun h => ?_
    rw [Bool.not_eq_true', List.any_eq_false]
    exact fun x hx => by rw [beq_iff_eq]; exact h x hx
  rw [hl] at kept
  simp only [removeSigner, form, auth, Bool.not_true, Bool.false_eq_true, ne_eq, not_true_eq_false, if_false, kept, if_true]

theorem removeSigner_of_found (fewer : left ≠ s.boot.signers) (owner : ∃ x ∈ left, x.role = 1) :
    removeSigner s b = (0, domChanged { s with boot := { s.boot with signers := left } } K.signerKeys) := by
  have goes : ¬ (left.length = s.boot.signers.length ∨ (!left.any (fun x => x.role == 1)) = true) := by
    rintro (same | none')
    · exact fewer (hl ▸ (List.filter_sublist.eq_of_length (hl ▸ same)))
    · obtain ⟨x, hx, role⟩ := owner
      rw [Bool.not_eq_true', List.any_eq_false] at none'
      exact none' x hx (beq_iff_eq.2 role)
  rw [hl] at goes ⊢
  simp only [removeSigner, form, auth, Bool.not_true, Bool.false_eq_true, ne_eq, not_true_eq_false, if_false, goes]

end Removal

-- ===== service mode =====

/-- Service mode is over: every region is locked. -/
def outOfService (s : State) : State :=
  { s with boot := { s.boot with service := false, servicePath := none }, cf := { s.cf with unlocked := [] } }

theorem serviceEnd_of_on {s : State} (cause : Nat) (h : s.boot.service = true) : (serviceEnd s cause).cf = { s.cf with unlocked := [] } ∧
    (serviceEnd s cause).boot = { s.boot with service := false, servicePath := none } ∧ Recorded s (serviceEnd s cause) Ev.serviceEnd [cause] := by
  have run : serviceEnd s cause = event (outOfService s) Ev.serviceEnd [cause] := if_pos h
  rw [run]
  exact ⟨(event_from ..).keeps.cf rfl, (event_from ..).keeps.boot rfl,
    recorded_congr (event_recorded (outOfService s) Ev.serviceEnd [cause]) rfl rfl rfl⟩

theorem serviceEnd_of_off {s : State} (cause : Nat) (h : s.boot.service = false) : serviceEnd s cause = s := by
  rw [serviceEnd, h]
  rfl

/-- Service mode for a path and as long as the value asks; the challenge is used up. -/
def inService (s : State) (p : Path) (b : Bytes) : State :=
  { s with boot := { s.boot with service := true, servicePath := some p, serviceS := leAt b 52 4, challenge := none } }

theorem serviceUnlock_of_good {s : State} {p : Path} {b : Bytes} (few : s.boot.svcFails < 5) (good : unlockCheck s b = 0) :
    serviceUnlock s p b = (0, event (inService s p b) Ev.serviceUnlock [leAt b 52 4]) := by
  simp only [serviceUnlock, ge_iff_le, Nat.not_le.2 few, good, if_false, if_true]
  rfl

theorem serviceUnlock_of_bad {s : State} {p : Path} {b : Bytes} (few : s.boot.svcFails < 5) (bad : unlockCheck s b ≠ 0) :
    serviceUnlock s p b = (unlockCheck s b, setV { s with boot := { s.boot with svcFails := s.boot.svcFails + 1 } } K.serviceFails
      (Nat.min 5 (v s K.serviceFails + 1))) := by
  simp only [serviceUnlock, ge_iff_le, Nat.not_le.2 few, bad, if_false]

/-- Settles O54: signer keys, the attestation report and service mode change by what passes its checks, and by nothing else. -/
theorem securityAndService : Obligations.security_and_service := by
  refine fun s => ⟨fun a b reach => ⟨fun good => ?_, fun bad => ?_⟩, fun a b left reach hl => ⟨fun form auth fewer owner => ?_, fun form auth => ?_,
    fun form auth kept => ?_, fun form => ?_⟩, fun a nonce allowed => ?_, fun nonce on asked => ?_, fun h => ?_, fun a reach => ?_,
    fun a b reach => ⟨fun few good => ?_, fun few bad => ?_, fun many => ?_⟩, fun a x allowed => ?_, fun on => ?_, fun off => ?_⟩
  · obtain ⟨answered, boot, -⟩ := accessBytes_done (f := fun s => addSigner s b) (b := b) reach (by decide) (addSigner_of_good good)
    exact ⟨_, rfl, answered, boot⟩
  · exact ⟨_, rfl, accessBytes_refused reach (by decide) (addSigner_of_bad bad)⟩
  · obtain ⟨answered, boot, -⟩ := accessBytes_done (f := fun s => removeSigner s b) (b := b) reach (by decide) (removeSigner_of_found form auth hl fewer owner)
    exact ⟨_, rfl, answered, boot⟩
  · exact ⟨_, rfl, accessBytes_refused reach (by decide) (removeSigner_of_unsigned form auth)⟩
  · exact ⟨_, rfl, accessBytes_refused reach (by decide) (removeSigner_of_kept form auth hl kept)⟩
  · exact ⟨_, rfl, accessBytes_refused reach (by decide) (removeSigner_of_malformed form)⟩
  · obtain ⟨r, key, found, good⟩ := allowed
    exact ⟨_, next_congr (accessWrite_of_ok _ found good), respond_answered .., (respond_from ..).keeps.boot rfl⟩
  · let body := reportHead s nonce ++ endorsement s
    let report := body ++ Config.attestSign s.boot.attestAlg body
    have run : attestReady s = domChanged { s with boot := { s.boot with building := false, report := report } } K.attestReport := by
      simp only [attestReady, on, asked]
      rfl
    exact ⟨_, _, next_congr run, rfl, rfl, rfl⟩
  · have run : attestReady s = s := by
      unfold attestReady
      split
      · next on asked =>
          rcases h with h | h
          · exact absurd (h.symm.trans on) Bool.false_ne_true
          · cases h.symm.trans asked
      · rfl
    exact next_congr run
  · obtain ⟨r, key, found⟩ := reach
    exact ⟨_, Config.freeNat s.freeCtr % 2 ^ 256, next_congr (accessRead_of_ok _ found), respond_answered .., Nat.mod_lt _ (by decide),
      (respond_from ..).keeps.boot rfl⟩
  · obtain ⟨answered, boot, recd, -⟩ := accessBytes_done (f := fun s => serviceUnlock s a.path b) (b := b) reach (by decide) (serviceUnlock_of_good (p := a.path) few good)
    refine ⟨_, rfl, answered, boot.trans ((event_from ..).keeps.boot rfl), ?_⟩
    exact recorded_congr (event_recorded (inService s a.path b) Ev.serviceUnlock [leAt b 52 4]) rfl rfl recd
  · obtain ⟨answered, boot, -, entries⟩ := accessBytes_done (f := fun s => serviceUnlock s a.path b) (b := b) reach (by decide) (serviceUnlock_of_bad (p := a.path) few bad)
    exact ⟨_, rfl, answered, boot, (entries _ (by decide)).trans (v_setV_self ..)⟩
  · exact ⟨_, rfl, accessBytes_refused reach (by decide) (if_pos many)⟩
  · obtain ⟨r, key, found, good⟩ := allowed
    have keeps := (respond_from (s := serviceEnd s 2) a.path 2 a.tag a.cid 0x8120 3 (.code 0) 0 []).keeps
    refine ⟨_, next_congr (accessWrite_of_ok _ found good), respond_answered .., ?_, fun on => ?_⟩
    · rw [keeps.boot rfl]
      cases h : s.boot.service with
      | true => rw [(serviceEnd_of_on 2 h).2.1]
      | false => rw [serviceEnd_of_off 2 h, h]
    · obtain ⟨cf, boot, event⟩ := serviceEnd_of_on 2 on
      exact ⟨(keeps.cf rfl).trans cf, (keeps.boot rfl).trans boot, recorded_congr event rfl rfl (keeps.recd rfl)⟩
  · exact ⟨_, rfl, serviceEnd_of_on 1 on⟩
  · exact next_congr (serviceEnd_of_off 1 off)

end Sys2Proof.Security

/-! The recorders and their windows (R402 to R407). -/
namespace Sys2Proof.Recorders
open Sys2Proof Sys2Proof.Machine Sys2Proof.Effects Sys2Proof.Answers

-- ===== records that enter a recorder with room =====

theorem foldl_extRec_of_room (l : List Rec) {s : State} (h : s.recd.ext.length + l.length ≤ extCapacity) :
    l.foldl extRec s = { s with recd := { s.recd with ext := s.recd.ext ++ l } } := by
  induction l generalizing s with
  | nil => rw [List.append_nil]; rfl
  | cons r l ih =>
    rw [List.length_cons] at h
    have step : extRec s r = { s with recd := { s.recd with ext := s.recd.ext ++ [r] } } := if_pos (by omega)
    rw [List.foldl_cons, step, ih (by simp only [List.length_append, List.length_singleton]; omega)]
    simp only [List.append_assoc, List.singleton_append]

theorem foldl_compactRec_of_room (l : List Rec) {s : State} (ready : s.recd.compactErasing = false)
    (h : s.recd.compact.length + l.length ≤ 32768) :
    l.foldl compactRec s = { s with recd := { s.recd with compact := s.recd.compact ++ l } } := by
  induction l generalizing s with
  | nil => rw [List.append_nil]; rfl
  | cons r l ih =>
    rw [List.length_cons] at h
    have step : compactRec s r = { s with recd := { s.recd with compact := s.recd.compact ++ [r] } } := by
      have room : s.recd.compact.length < 32768 := by omega
      simp only [compactRec, ready, Bool.false_eq_true, room, if_false, if_true]
    rw [List.foldl_cons, step, ih (by exact ready) (by simp only [List.length_append, List.length_singleton]; omega)]
    simp only [List.append_assoc, List.singleton_append]

theorem foldl_stageRec_of_room (l : List Rec) {s : State} (media : mediaAvailable s = true) (h : s.recd.staging.length + l.length ≤ 1024) :
    l.foldl stageRec s = { s with recd := { s.recd with staging := s.recd.staging ++ l } } := by
  induction l generalizing s with
  | nil => rw [List.append_nil]; rfl
  | cons r l ih =>
    rw [List.length_cons] at h
    have step : stageRec s r = { s with recd := { s.recd with staging := s.recd.staging ++ [r] } } := by
      have room : s.recd.staging.length < 1024 := by omega
      simp only [stageRec, media, room, if_true]
    rw [List.foldl_cons, step, ih (by exact media) (by simp only [List.length_append, List.length_singleton]; omega)]
    simp only [List.append_assoc, List.singleton_append]

/-- Staging a record changes nothing of the recorders but the staging queue. -/
theorem stageRec_recd (s : State) (r : Rec) : (stageRec s r).recd = { s.recd with staging := (stageRec s r).recd.staging } := by
  simp only [stageRec]
  split
  · rfl
  · split <;> rfl

theorem foldl_stageRec_recd (l : List Rec) (s : State) : (l.foldl stageRec s).recd = { s.recd with staging := (l.foldl stageRec s).recd.staging } := by
  induction l generalizing s with
  | nil => rfl
  | cons r l ih => rw [List.foldl_cons, ih, stageRec_recd]

-- ===== the erase, the drain and the thaw =====

theorem compactEraseEnd_of_room {s : State} (h : s.recd.compact.length + s.recd.compactWait.length ≤ 32768) : compactEraseEnd s =
    { s with recd := { s.recd with compact := s.recd.compact ++ s.recd.compactWait, compactWait := [], compactErasing := false } } :=
  foldl_compactRec_of_room _ (s := { s with recd := { s.recd with compactWait := [], compactErasing := false } }) rfl h

theorem compactEraseEnd_of_none {s : State} (h : s.recd.compactWait = []) :
    compactEraseEnd s = { s with recd := { s.recd with compactErasing := false } } := by
  simp only [compactEraseEnd, h, List.foldl_nil]

theorem thaw_recd (s : State) : (thaw s false).recd =
    { s.recd with hold := [], frozen := false, staging := (thaw s false).recd.staging } := by
  have eq := foldl_stageRec_recd s.recd.hold { s with recd := { s.recd with hold := [], frozen := false, thawedFull := s.recd.thawedFull || false } }
  rw [Bool.or_false] at eq
  have run : thaw s false = s.recd.hold.foldl stageRec { s with recd := { s.recd with hold := [], frozen := false } } := by
    simp only [thaw, Bool.or_false, Bool.false_eq_true, if_false]
  rw [run]
  exact eq

theorem thaw_of_room {s : State} (media : mediaAvailable s = true) (h : s.recd.staging.length + s.recd.hold.length ≤ 1024) :
    (thaw s false).recd.staging = s.recd.staging ++ s.recd.hold := by
  simp only [thaw, Bool.false_eq_true, if_false]
  rw [foldl_stageRec_of_room _ (by exact media) (by exact h)]

-- ===== the windows =====

section Windows
variable (s : State) (pf : Nat) (f : Window → Window)

theorem modWindow_frame : modWindow s pf f = { s with recd := (modWindow s pf f).recd } := by
  simp only [modWindow]
  split <;> rfl

theorem window_modWindow_self : window (modWindow s pf f) pf = f (window s pf) := by
  by_cases h : pf = 1
  · simp only [window, modWindow, h, if_true]
  · simp only [window, modWindow, h, if_false]

/-- The other PF's window. -/
theorem window_modWindow_other (h : pf < 2) : window (modWindow s pf f) (1 - pf) = window s (1 - pf) := by
  obtain rfl | rfl : pf = 0 ∨ pf = 1 := by omega
  · rfl
  · rfl

/-- A window's change is beside the rest of the recorders. -/
theorem modWindow_recd : (modWindow s pf f).recd = { s.recd with winA := (modWindow s pf f).recd.winA, winB := (modWindow s pf f).recd.winB } := by
  simp only [modWindow]
  split <;> rfl

theorem modWindow_modWindow (g : Window → Window) : modWindow (modWindow s pf f) pf g = modWindow s pf (fun w => g (f w)) := by
  by_cases h : pf = 1 <;> simp only [modWindow, h, if_true, if_false]

end Windows

/-- A write of a window's FREEZE bit changes that bit of the windows, and no other. -/
theorem freezeBit_window (s : State) (pf k : Nat) (b : Bool) :
    window (freezeBit s pf b) k = window (modWindow s pf (fun w => { w with freeze := b })) k := by
  have kept {t u : State} (h : u.recd.winA = t.recd.winA ∧ u.recd.winB = t.recd.winB) : window u k = window t k := by
    simp only [window, h]
  simp only [freezeBit]
  split
  · exact kept ⟨rfl, rfl⟩
  · split
    · exact kept ⟨by rw [thaw_recd], by rw [thaw_recd]⟩
    · rfl

theorem freezeBit_on (s : State) (pf : Nat) : (freezeBit s pf true).recd =
    { (modWindow s pf (fun w => { w with freeze := true })).recd with thawedFull := false, frozen := true,
                                                                       freezeStartNs := if s.recd.frozen then s.recd.freezeStartNs else s.clk.nowNs } := by
  have recd := modWindow_recd s pf (fun w => { w with freeze := true })
  have clk : (modWindow s pf (fun w => { w with freeze := true })).clk = s.clk := by rw [modWindow_frame]
  simp only [freezeBit, if_true, clk]
  rw [show (modWindow s pf (fun w => { w with freeze := true })).recd.frozen = s.recd.frozen by rw [recd],
    show (modWindow s pf (fun w => { w with freeze := true })).recd.freezeStartNs = s.recd.freezeStartNs by rw [recd]]

theorem freezeBit_on_frame (s : State) (pf : Nat) : freezeBit s pf true = { s with recd := (freezeBit s pf true).recd } := by
  simp only [freezeBit, if_true]
  rw [modWindow_frame]

/-- What a write of WIN_CTRL makes of its window, but for the FREEZE bit. -/
def ctrlWindow (x : Nat) (w : Window) : Window :=
  { w with minSev := fld x 10 8, compact := bitAt x 2, loading := true, slots := [],
           cursor := if bitAt x 0 then (w.slots.getLast?).elim w.cursor (fun r => r.seq + 1) else w.cursor }

/-- WIN_CTRL changes its window; FREEZE acts where the bit is set or leaves a window that had it (R405, R406). -/
theorem winCtrlWrite_eq (s : State) (pf x : Nat) : exec (.winCtrlWrite pf x) s = .next
    (if bitAt x 1 || (window s pf).freeze then freezeBit (modWindow s pf (ctrlWindow x)) pf (bitAt x 1) else modWindow s pf (ctrlWindow x)) := by
  have both : modWindow (modWindow s pf (fun w => { w with minSev := fld x 10 8, compact := bitAt x 2 })) pf
      (fun w => if bitAt x 0 then w.advance else w.refill) = modWindow s pf (ctrlWindow x) := by
    rw [modWindow_modWindow]
    congr 1
    funext w
    cases h : bitAt x 0 <;> simp only [h, ctrlWindow, Window.advance, Window.refill, Bool.false_eq_true, if_true, if_false]
  have freeze : (window (modWindow s pf (ctrlWindow x)) pf).freeze = (window s pf).freeze := by rw [window_modWindow_self]; rfl
  show Host.Outcome.next (if bitAt x 1 || (window (modWindow (modWindow s pf _) pf _) pf).freeze then _ else _) = _
  rw [both, freeze]

theorem winCtrlWrite_window {s t : State} {pf x : Nat} (h : t = if bitAt x 1 || (window s pf).freeze then
    freezeBit (modWindow s pf (ctrlWindow x)) pf (bitAt x 1) else modWindow s pf (ctrlWindow x)) :
    window t pf = { ctrlWindow x (window s pf) with freeze := bitAt x 1 } ∧ (pf < 2 → window t (1 - pf) = window s (1 - pf)) := by
  subst h
  split
  · refine ⟨?_, fun two => ?_⟩
    · rw [freezeBit_window, window_modWindow_self, window_modWindow_self]
    · rw [freezeBit_window, window_modWindow_other _ _ _ two, window_modWindow_other _ _ _ two]
  · next off =>
    rw [Bool.not_eq_true, Bool.or_eq_false_iff] at off
    obtain ⟨bit, was⟩ := off
    refine ⟨?_, window_modWindow_other _ _ _⟩
    rw [window_modWindow_self, bit, ← was]
    rfl

/-- Settles O55: records leave the staging queue in order, windows refill, and a freeze holds the new records. -/
theorem recordersAndWindows : Obligations.recorders_and_windows := by
  refine fun s => ⟨fun media ready room fits => ?_, fun shut none' => ?_, fun a x allowed => ?_, fun pf x => ?_, fun pf => ?_, fun pf x => ?_,
    fun pf => ?_, fun pf bad loading => ?_, fun pf bad idle => ?_, fun frozen => ?_, fun ready => ?_⟩
  · have run : drainStaging s = { s with recd := { s.recd with
        staging := [], ext := s.recd.ext ++ s.recd.staging, compact := s.recd.compact ++ s.recd.compactWait, compactWait := [], compactErasing := false } } := by
      have goes : (mediaAvailable (compactEraseEnd s) && !(compactEraseEnd s).recd.frozen) = true := by
        rw [compactEraseEnd_of_room fits, Bool.and_eq_true, Bool.not_eq_true']
        exact ⟨media, ready⟩
      simp only [drainStaging, goes, if_true]
      rw [compactEraseEnd_of_room fits, foldl_extRec_of_room _ (by exact room)]
    exact next_congr run
  · have stays : (mediaAvailable (compactEraseEnd s) && !(compactEraseEnd s).recd.frozen) = false := by
      rw [compactEraseEnd_of_none none', Bool.and_eq_false_iff, Bool.not_eq_false']
      exact shut
    refine next_congr (Eq.trans ?_ (compactEraseEnd_of_none none'))
    simp only [drainStaging, stays, Bool.false_eq_true, if_false]
  · obtain ⟨r, key, found, good⟩ := allowed
    exact ⟨_, next_congr (accessWrite_of_ok _ found good), respond_answered .., (respond_from ..).keeps.recd rfl⟩
  · exact ⟨_, rfl, modWindow_frame .., window_modWindow_self .., window_modWindow_other _ _ _⟩
  · exact ⟨_, rfl, modWindow_frame .., window_modWindow_self .., window_modWindow_other _ _ _⟩
  · obtain ⟨win, other⟩ := winCtrlWrite_window (s := s) (pf := pf) (x := x) rfl
    have recd := modWindow_recd s pf (ctrlWindow x)
    refine ⟨_, winCtrlWrite_eq s pf x, by rw [win]; rfl, by rw [win]; rfl, by rw [win], by rw [win]; rfl, by rw [win]; rfl, other, by rw [win]; rfl,
      fun on => ?_, fun off was => ?_⟩
    · rw [on, Bool.true_or, if_pos rfl, freezeBit_on]
      exact ⟨rfl, rfl⟩
    · rw [off, was, Bool.or_self, if_neg Bool.false_ne_true, recd]
      exact ⟨rfl, rfl⟩
  · have recd : (modWindow (freezeBit s pf true) pf Window.refill).recd = { (freezeBit s pf true).recd with
        winA := (modWindow (freezeBit s pf true) pf Window.refill).recd.winA, winB := (modWindow (freezeBit s pf true) pf Window.refill).recd.winB } :=
      modWindow_recd ..
    have froze : (freezeBit s pf true).recd.frozen = true ∧ (freezeBit s pf true).recd.thawedFull = false ∧ (freezeBit s pf true).recd.freezeStartNs =
        (if s.recd.frozen then s.recd.freezeStartNs else s.clk.nowNs) ∧ (freezeBit s pf true).recd.staging = s.recd.staging := by
      rw [freezeBit_on, modWindow_recd]
      exact ⟨rfl, rfl, rfl, rfl⟩
    obtain ⟨frozen, thawed, start, staging⟩ := froze
    refine ⟨_, rfl, by rw [recd]; exact frozen, by rw [recd]; exact thawed, ?_, ?_, by rw [recd]; exact start, by rw [recd]; exact staging, ?_⟩
    · rw [window_modWindow_self, freezeBit_window, window_modWindow_self]
      rfl
    · rw [window_modWindow_self]
      rfl
    · rw [modWindow_frame, freezeBit_on_frame]
  · have run : exec (.windowRefillDone pf bad) s = .next (bump (modWindow s pf (fun w => { w with loading := false, slots := windowFill s w bad }))
        K.extUnreadable 32 (if (window s pf).compact then 0 else
          ((windowSource s (window s pf)).filter (fun r => (window s pf).cursor ≤ r.seq && bad.contains r.seq)).length)) := if_pos loading
    have dict : (modWindow s pf (fun w => { w with loading := false, slots := windowFill s w bad })).dict = s.dict := by rw [modWindow_frame]
    refine ⟨_, run, window_modWindow_self .., ?_, ?_⟩
    · exact onlyEntries_congr (onlyEntries_bump (modWindow s pf (fun w => { w with loading := false, slots := windowFill s w bad })) _ _ _) dict.symm rfl
    · rw [bump, v_setV_self, v_of_dict dict]
  · show (if (window s pf).loading then _ else Host.Outcome.next s) = _
    rw [idle]
    rfl
  · have run : exec .freezeEnd s = .next (thaw s false) := next_congr (if_pos frozen)
    have recd := thaw_recd s
    exact ⟨_, run, by rw [recd], by rw [recd], by rw [recd], by rw [recd], thaw_of_room⟩
  · exact next_congr (by rw [ready]; rfl)

end Sys2Proof.Recorders

/-! The trace, the histograms and the heat sketches (R408 to R415). -/
namespace Sys2Proof.Telemetry
open Sys2Proof Sys2Proof.Machine Sys2Proof.Effects Sys2Proof.Answers Sys2Proof.Stores

-- ===== the trace =====

/-- Words that leave the entry open are added to it. -/
theorem foldl_traceWord_of_room (ws : List Nat) {s : State} (h : s.trace.cur.length + ws.length < 7) :
    ws.foldl (fun s w => traceWord s false w) s = { s with trace := { s.trace with cur := s.trace.cur ++ ws.map (· % 2 ^ 32) } } := by
  induction ws generalizing s with
  | nil => rw [List.map_nil, List.append_nil]; rfl
  | cons w ws ih =>
    rw [List.length_cons] at h
    have ready : ¬ (s.trace.cur ++ [w % 2 ^ 32]).length ≥ 7 := by
      rw [List.length_append, List.length_singleton]
      omega
    have step : traceWord s false w = { s with trace := { s.trace with cur := s.trace.cur ++ [w % 2 ^ 32] } } := by
      simp only [traceWord, Bool.false_and, Bool.false_eq_true, ready, if_false]
    rw [List.foldl_cons, step, ih (by simp only [List.length_append, List.length_singleton]; omega)]
    simp only [List.append_assoc, List.singleton_append, List.map_cons]

/-- The first item of the entry being filled, once a header is written at its end. -/
def firstItem (s : State) : Nat := if s.trace.curFirst = 0xFF then 4 * s.trace.cur.length else s.trace.curFirst

/-- The entry being filled, with a header at its end. -/
def headed (s : State) (w : Nat) : State := { s with trace := { s.trace with cur := s.trace.cur ++ [w % 2 ^ 32], curFirst := firstItem s } }

theorem traceWord_header (s : State) (w : Nat) :
    traceWord s true w = if s.trace.cur.length + 1 ≥ 7 then pushEntry (headed s w) else headed s w := by
  have len : (s.trace.cur ++ [w % 2 ^ 32]).length = s.trace.cur.length + 1 := by rw [List.length_append, List.length_singleton]
  have first : (if s.trace.curFirst = 255 then 4 * s.trace.cur.length else s.trace.curFirst) = firstItem s := rfl
  simp only [traceWord, Bool.true_and, beq_iff_eq, len, first]
  rfl

/-- The entry that closes. -/
def closing (s : State) : TraceEntry :=
  { words := (s.trace.cur ++ List.replicate 7 0).take 7, validBytes := 4 * s.trace.cur.length, firstItem := s.trace.curFirst, seq := s.trace.nextSeq }

theorem pushEntry_trace (s : State) : (pushEntry s).trace.cur = [] ∧ (pushEntry s).trace.nextSeq = (s.trace.nextSeq + 1) % 65536 ∧
    (s.trace.fifo.length < 8192 → pushEntry s = { s with trace := { s.trace with
      fifo := s.trace.fifo ++ [closing s], cur := [], curFirst := 0xFF, nextSeq := (s.trace.nextSeq + 1) % 65536 } }) ∧
    (8192 ≤ s.trace.fifo.length → (pushEntry s).trace.fifo = s.trace.fifo.drop 1 ++ [closing s] ∧
      v (pushEntry s) K.traceLost = satAdd 32 (v s K.traceLost) 1) := by
  by_cases full : s.trace.fifo.length ≥ 8192
  · have yes : decide (s.trace.fifo.length ≥ 8192) = true := decide_eq_true full
    simp only [pushEntry, yes, if_true]
    exact ⟨rfl, rfl, fun room => absurd room (Nat.not_lt.2 full), fun _ => ⟨rfl, v_setV_self ..⟩⟩
  · have no : decide (s.trace.fifo.length ≥ 8192) = false := decide_eq_false full
    simp only [pushEntry, no, Bool.false_eq_true, if_false]
    exact ⟨trivial, trivial, fun _ => rfl, fun h => absurd h full⟩

-- ===== the histograms =====

theorem time64_congr {s t : State} (h : t.clk = s.clk) : time64 t = time64 s := by rw [time64, h, ← time64]

theorem clearHist_hist (s : State) (n x k : Nat) : (clearHist s n x).tel.hist.get? k =
    if (k = 2 * n ∧ bitAt x 0 = true) ∨ (k = 2 * n + 1 ∧ bitAt x 1 = true) then some (Hist.fresh (time64 s)) else s.tel.hist.get? k := by
  cases h0 : bitAt x 0 <;> cases h1 : bitAt x 1 <;>
    simp only [clearHist, domChanged, h0, h1, Bool.false_eq_true, if_true, if_false, get?_put, and_true, and_false, or_false, false_or]
  by_cases a : k = 2 * n + 1
  · simp only [a, if_true, or_true]
  · simp only [a, if_false, or_false]

/-- One Cove's histogram is started afresh where its bit is set. -/
def clearCove (x : Nat) (s : State) (c : Nat) : State := if bitAt x c then
  domChanged { s with tel := { s.tel with histCove := s.tel.histCove.put c (Hist.fresh (time64 s)) } } (histCoveKey c) else s

theorem clearCove_clk (x : Nat) (s : State) (c : Nat) : (clearCove x s c).clk = s.clk := by
  unfold clearCove
  split <;> rfl

theorem clearCove_histCove (x : Nat) (s : State) (c k : Nat) : (clearCove x s c).tel.histCove.get? k =
    if k = c ∧ bitAt x k = true then some (Hist.fresh (time64 s)) else s.tel.histCove.get? k := by
  unfold clearCove
  by_cases h : k = c
  · subst h
    cases bitAt x k with
    | true =>
      rw [if_pos rfl, if_pos ⟨rfl, rfl⟩]
      exact Assoc.get?_put_self ..
    | false => rw [if_neg Bool.false_ne_true, if_neg fun both => Bool.false_ne_true both.2]
  · rw [if_neg (show ¬ (k = c ∧ bitAt x k = true) from fun both => h both.1)]
    split
    · exact Assoc.get?_put_ne _ _ h
    · rfl

theorem foldl_clearCove_histCove (l : List Nat) (x k : Nat) (s : State) : (l.foldl (clearCove x) s).tel.histCove.get? k =
    if k ∈ l ∧ bitAt x k = true then some (Hist.fresh (time64 s)) else s.tel.histCove.get? k := by
  induction l generalizing s with
  | nil => rw [if_neg fun both => List.not_mem_nil both.1]; rfl
  | cons c l ih =>
    rw [List.foldl_cons, ih, clearCove_histCove, time64_congr (clearCove_clk x s c)]
    by_cases bit : bitAt x k = true
    · by_cases here : k = c
      · subst here
        simp only [bit, List.mem_cons, true_or, true_and, if_true, ite_self]
      · simp only [here, bit, List.mem_cons, false_or, and_true, if_false]
    · simp only [bit, and_false, Bool.false_eq_true, if_false]

-- ===== the sketches =====

section Queries
variable {s : State} {x : Nat} {m : Assoc Sketch} (hm : m = if x / 256 % 256 = 0 then s.tel.sketchCur else s.tel.sketchPrev)
include hm

theorem heatQuery_of_some {k : Sketch} (h : m.get? (x % 256) = some k) : heatQuery s x =
    setV s K.heatResult (k.estimate (x / 2 ^ 32 % 2 ^ 32 * 2 ^ 40 + x / 2 ^ 64 % 2 ^ 64) + k.n % 2 ^ 64 * 2 ^ 64) := by
  simp only [heatQuery, ← hm, h]

theorem heatQuery_of_none (h : m.get? (x % 256) = none) : heatQuery s x = setV s K.heatResult 0 := by
  simp only [heatQuery, ← hm, h]

end Queries

/-- A query writes HEAT_RESULT alone. -/
theorem heatQuery_onlyEntries (s : State) (x : Nat) : OnlyEntries s (heatQuery s x) [K.heatResult] := by
  cases h : (if x / 256 % 256 = 0 then s.tel.sketchCur else s.tel.sketchPrev).get? (x % 256) with
  | some k => exact heatQuery_of_some rfl h ▸ onlyEntries_setV _ _ _
  | none => exact heatQuery_of_none rfl h ▸ onlyEntries_setV _ _ _

/-- A Cove's sketch restarts with fresh seeds. -/
def restart (s : State) (c : Nat) : State :=
  { s with tel := { s.tel with sketchCur := s.tel.sketchCur.put c (Sketch.fresh s.freeCtr) }, freeCtr := s.freeCtr + 8 }

theorem foldl_restart_other (l : List Nat) {c : Nat} (h : c ∉ l) (s : State) :
    (l.foldl restart s).tel.sketchCur.get? c = s.tel.sketchCur.get? c := by
  induction l generalizing s with
  | nil => rfl
  | cons d l ih =>
    rw [List.mem_cons, not_or] at h
    rw [List.foldl_cons, ih h.2]
    exact Assoc.get?_put_ne _ _ h.1

theorem foldl_restart_fresh (l : List Nat) {c : Nat} (h : c ∈ l) (s : State) :
    ∃ k, (l.foldl restart s).tel.sketchCur.get? c = some k ∧ k.n = 0 ∧ k.counters = [] := by
  induction l generalizing s with
  | nil => cases h
  | cons d l ih =>
    by_cases later : c ∈ l
    · exact ih later _
    · have here : c = d := (List.mem_cons.1 h).resolve_right later
      subst here
      refine ⟨Sketch.fresh s.freeCtr, ?_, rfl, rfl⟩
      rw [List.foldl_cons, foldl_restart_other l later]
      exact Assoc.get?_put_self ..

theorem foldl_restart_tel (l : List Nat) (s : State) :
    (l.foldl restart s).tel = { s.tel with sketchCur := (l.foldl restart s).tel.sketchCur } := by
  induction l generalizing s with
  | nil => rfl
  | cons d l ih => rw [List.foldl_cons, ih]; rfl

theorem foldl_domChanged_tel (l : List Nat) (s : State) :
    (l.foldl (fun s i => domChanged (domChanged s (unitKey K.heatSketch i)) (unitKey K.heatSketchHi i)) s).tel = s.tel := by
  induction l generalizing s with
  | nil => rfl
  | cons d l ih => rw [List.foldl_cons, ih]; rfl

theorem heatEpoch_tel (s : State) : ∃ u : State, u.tel = { s.tel with sketchPrev := s.tel.sketchCur, sketchCur := [] } ∧
    (heatEpoch s).tel = (((List.range 256).filter (fun c => bitAt (v s K.heatEnable) c)).foldl restart u).tel :=
  ⟨{ s with tel := { s.tel with sketchPrev := s.tel.sketchCur, sketchCur := [] } }, rfl, foldl_domChanged_tel _ _⟩

theorem responded_of_oob {s : State} {path : Path} (h : outOfBand path = true) (op tag cid idx sub : Nat) (a : Ans) (version : Nat) (value : Bytes) :
    (respond s path op tag cid idx sub a version value).trace = s.trace ∧ (respond s path op tag cid idx sub a version value).tel = s.tel := by
  rw [respond_oob h, responded, counted_eq]
  exact ⟨rfl, rfl⟩

/-- Settles O56: items fill entries, clears start afresh what they name, a query answers, an epoch restarts the sketches. -/
theorem traceAndTelemetry : Obligations.trace_and_telemetry := by
  refine fun s => ⟨fun src kind arg ws h => ?_, fun src kind arg ws h may on hh => ⟨fun room => ?_, fun six none' room => ?_⟩, fun none' => ?_,
    fun some' => ?_, fun a x allowed => ?_, fun a x r key n found good hn => ?_, fun a x allowed => ?_, fun a x allowed => ?_, ?_⟩
  · refine next_congr ?_
    rcases h with h | h
    · rw [h]
      rfl
    · rw [traceItem_of_off kind arg ws h, ite_self]
  · have run : traceItem s src kind arg ws = { s with trace := { s.trace with
        cur := s.trace.cur ++ [h] ++ (ws.take 15).map (· % 2 ^ 32), curFirst := firstItem s } } := by
      have ready : ¬ s.trace.cur.length + 1 ≥ 7 := by omega
      simp only [traceItem, on, if_true]
      rw [traceWord_header, if_neg ready, foldl_traceWord_of_room _ (by rw [headed, List.length_append, List.length_singleton]; exact room), headed, ← hh]
    exact next_congr ((if_pos may).trans run)
  · subst none'
    have run : traceItem s src kind arg [] = { s with trace := { s.trace with
        fifo := s.trace.fifo ++ [⟨s.trace.cur ++ [h], 28, if s.trace.curFirst = 0xFF then 24 else s.trace.curFirst, s.trace.nextSeq⟩], cur := [],
        curFirst := 0xFF, nextSeq := (s.trace.nextSeq + 1) % 65536 } } := by
      let w := src % 256 * 2 ^ 24 + ([] : List Nat).length * 2 ^ 20 + kind % 256 * 2 ^ 12 + arg % 4096
      have seven : s.trace.cur.length + 1 ≥ 7 := by omega
      have entry : closing (headed s w) = ⟨s.trace.cur ++ [h], 28, if s.trace.curFirst = 0xFF then 24 else s.trace.curFirst, s.trace.nextSeq⟩ := by
        have words : (s.trace.cur ++ [h] ++ List.replicate 7 0).take 7 = s.trace.cur ++ [h] :=
          List.take_left' (by rw [List.length_append, List.length_singleton, six])
        simp only [closing, headed, firstItem, show w % 2 ^ 32 = h from hh.symm, words, List.length_append, List.length_singleton, six]
      have item : traceItem s src kind arg [] = traceWord s true w := by
        simp only [traceItem, on, if_true, List.take_nil, List.foldl_nil]
        rfl
      rw [item, traceWord_header, if_pos seven, (pushEntry_trace (headed s w)).2.2.1 room, entry]
      rfl
    exact next_congr ((if_pos may).trans run)
  · exact next_congr (by rw [none']; rfl)
  · obtain ⟨cur, seq, room, full⟩ := pushEntry_trace s
    have run : exec .traceEntryClose s = .next (pushEntry s) :=
      next_congr (if_neg (by rw [Bool.not_eq_true, List.isEmpty_eq_false_iff]; exact some'))
    exact ⟨_, closing s, run, rfl, rfl, rfl, rfl, cur, seq, fun h => by rw [room h]; exact ⟨rfl, rfl⟩, full⟩
  · obtain ⟨r, key, found, good⟩ := allowed
    refine ⟨_, next_congr (accessWrite_of_ok _ found good), respond_answered .., fun oob => ⟨(responded_of_oob oob ..).1, ?_⟩⟩
    exact onlyEntries_congr (respond_onlyEntries (clearTrace s) a.path 2 a.tag a.cid 0x9100 3 (.code 0) 0 []) rfl rfl
  · refine ⟨_, next_congr (accessWrite_of_ok _ found good), respond_answered .., fun oob => ?_⟩
    have hist (k : Nat) := clearHist_hist s n x k
    rw [(responded_of_oob oob ..).2, ← hn]
    refine ⟨fun on => ?_, fun on => ?_, fun off => ?_, fun off => ?_, fun k other => ?_⟩
    · rw [hist, if_pos (.inl ⟨rfl, on⟩)]
    · rw [hist, if_pos (.inr ⟨rfl, on⟩)]
    · rw [hist, if_neg]
      rintro (⟨-, on⟩ | ⟨odd, -⟩)
      · exact absurd (off.symm.trans on) Bool.false_ne_true
      · omega
    · rw [hist, if_neg]
      rintro (⟨even, -⟩ | ⟨-, on⟩)
      · omega
      · exact absurd (off.symm.trans on) Bool.false_ne_true
    · rw [hist, if_neg]
      rintro (⟨rfl, -⟩ | ⟨rfl, -⟩) <;> omega
  · obtain ⟨r, key, found, good⟩ := allowed
    refine ⟨_, next_congr (accessWrite_of_ok _ found good), respond_answered .., fun oob c low => ?_⟩
    rw [(responded_of_oob oob ..).2]
    have eq := foldl_clearCove_histCove (List.range 256) x c s
    simp only [List.mem_range, low, true_and] at eq
    exact eq
  · obtain ⟨r, key, found, good⟩ := allowed
    have run := accessWrite_of_ok (fun s _ => if heatCheck x ≠ 0 then (.code (heatCheck x), s) else (.code 0, heatQuery s x)) found good
    refine ⟨fun bad => ?_, fun fine => ?_⟩
    · rw [if_pos bad] at run
      exact ⟨_, next_congr run, respond_answered .., respond_onlyAnswered ..⟩
    · rw [if_neg (Classical.not_not.2 fine)] at run
      refine ⟨_, next_congr run, respond_answered .., ?_, fun m hm => ?_⟩
      · exact onlyAnswered_trans (onlyAnswered_of_entries (heatQuery_from x).keeps (heatQuery_onlyEntries s x))
          (onlyAnswered_mono (respond_onlyAnswered _ _ _ _ _ _ _ _ _ _) (List.nil_subset _))
      · have result : v (respond (heatQuery s x) a.path 2 a.tag a.cid 0x9120 4 (.code 0) 0 []) K.heatResult = v (heatQuery s x) K.heatResult :=
          respond_onlyEntries _ _ _ _ _ _ _ _ _ _ _ (by decide)
        refine ⟨fun k hk => ?_, fun hk => ?_⟩ <;> rw [result]
        · rw [heatQuery_of_some hm hk, v_setV_self]
        · rw [heatQuery_of_none hm hk, v_setV_self]
  · obtain ⟨u, hu, tel⟩ := heatEpoch_tel s
    have rest := foldl_restart_tel ((List.range 256).filter (fun c => bitAt (v s K.heatEnable) c)) u
    rw [← tel, hu] at rest
    refine ⟨_, rfl, by rw [rest], by rw [rest], by rw [rest], fun c low on => ?_, fun c low off => ?_⟩
    · rw [tel]
      exact foldl_restart_fresh _ (List.mem_filter.2 ⟨List.mem_range.2 low, on⟩) u
    · rw [tel, foldl_restart_other, hu]
      · rfl
      · intro m
        exact absurd (off.symm.trans (List.mem_filter.1 m).2) Bool.false_ne_true

end Sys2Proof.Telemetry

/-! The resets of the package and what a flush begins (R371 to R376): restarts, the queues they take, the flush they wait for. -/
namespace Sys2Proof.Resets
open Sys2Proof Sys2Proof.Machine Sys2Proof.Effects Sys2Proof.Stores Sys2Proof.Instances

/-- A fold keeps what each of its steps keeps. -/
theorem foldl_keep {β γ : Type} (g : State → γ) {f : State → β → State} (h : ∀ u b, g (f u b) = g u) (l : List β) (s : State) :
    g (l.foldl f s) = g s := by
  induction l generalizing s with
  | nil => rfl
  | cons b l ih => rw [List.foldl_cons, ih, h]

-- ===== the restart of the hub die =====

theorem releaseBlock_negotiated (s : State) (die b : Nat) : (releaseBlock s die b).nand.negotiated = s.nand.negotiated := rfl

theorem freeCopies_negotiated (s : State) (id : Nat) : (freeCopies s id).nand.negotiated = s.nand.negotiated :=
  foldl_keep (fun u => u.nand.negotiated) (fun u (p : Nat × PBlock) => releaseBlock_negotiated u (p.1 / 32768) (p.1 % 32768)) _ s

theorem dropReloc_negotiated (s : State) (r : Reloc) : (dropReloc s r).nand.negotiated = s.nand.negotiated := by
  unfold dropReloc
  refine (freeCopies_negotiated _ _).trans ?_
  split
  · rfl
  · refine foldl_keep (fun u => u.nand.negotiated) (fun u q => ?_) _ s
    rfl
  · refine foldl_keep (fun u => u.nand.negotiated) (fun u q => ?_) _ s
    split <;> rfl

theorem dropRelocs_negotiated (s : State) : (dropRelocs s).nand.negotiated = s.nand.negotiated :=
  foldl_keep (fun u => u.nand.negotiated) dropReloc_negotiated _ s

/-- What a restart of the hub die leaves empty or as at reset, but for the watchdog. -/
structure HubFresh (t : State) : Prop where
  sqs : t.sqs = []
  cqs : t.cqs = []
  gens : t.gens = []
  msixTable : t.msixTable = []
  xfers : t.miowa.xfers = []
  units : t.crc.units = List.replicate 16 CrcUnit.atReset
  bufs : t.bufs.bufs = []
  nand : t.nand.negotiated = false
  dram : t.dram.negotiated = false
  state : t.power.state = 0
  flush : t.power.flushActive = false
  entry : t.power.entry = none
  after : t.power.afterFlush = 0

/-- Freshness rests on these parts of the state alone. -/
theorem HubFresh.congr {s t : State} (h : HubFresh s) (sqs : t.sqs = s.sqs) (cqs : t.cqs = s.cqs) (gens : t.gens = s.gens)
    (table : t.msixTable = s.msixTable) (miowa : t.miowa = s.miowa) (crc : t.crc = s.crc) (bufs : t.bufs = s.bufs)
    (nand : t.nand.negotiated = s.nand.negotiated) (dram : t.dram = s.dram) (state : t.power.state = s.power.state)
    (flush : t.power.flushActive = s.power.flushActive) (entry : t.power.entry = s.power.entry)
    (after : t.power.afterFlush = s.power.afterFlush) : HubFresh t :=
  ⟨sqs.trans h.sqs, cqs.trans h.cqs, gens.trans h.gens, table.trans h.msixTable, by rw [miowa, h.xfers], by rw [crc, h.units],
    by rw [bufs, h.bufs], nand.trans h.nand, by rw [dram, h.dram], state.trans h.state, flush.trans h.flush, entry.trans h.entry,
    after.trans h.after⟩

theorem hubRestart_fresh (s : State) : HubFresh (hubRestart s) := by
  obtain ⟨u, run, fresh⟩ : ∃ u, hubRestart s = driveWake (pairRestart (dropRelocs u)) ∧ HubFresh u := ⟨_, rfl, by constructor <;> rfl⟩
  have keeps := (dropRelocs_from (s := u)).keeps
  have power : (dropRelocs u).power = u.power := keeps.power rfl
  rw [run]
  refine fresh.congr (keeps.sqs rfl) (keeps.cqs rfl) (keeps.gens rfl) (keeps.msixTable rfl) (keeps.miowa rfl) (keeps.crc rfl) (keeps.bufs rfl)
    (dropRelocs_negotiated u) (keeps.dram rfl) ?_ ?_ ?_ ?_ <;> exact congrArg _ power

theorem replayFlush_power (s : State) : (replayFlush s).power = { s.power with flushLost := [] } ∧
    (replayFlush s).nand.negotiated = s.nand.negotiated := by
  let f (s : State) (r : Nat × Nat × Nat) : State :=
    let l := widenLost s r.1 r.2.1 r.2.2
    l.foldl (fun s x => wbDrop s r.1 x 1) (discover s r.1 0x09 0 0xFFFF l)
  have step (u : State) (r : Nat × Nat × Nat) : (f u r).power = u.power ∧ (f u r).nand = u.nand := by
    have found := (discover_from (s := u) r.1 0x09 0 0xFFFF (widenLost u r.1 r.2.1 r.2.2)).keeps
    refine ⟨Eq.trans (foldl_keep State.power (fun w x => ?_) _ _) (found.power rfl),
      Eq.trans (foldl_keep State.nand (fun w x => ?_) _ _) (found.nand rfl)⟩ <;> rfl
  have power : (s.power.flushLost.foldl f s).power = s.power := foldl_keep State.power (fun u r => (step u r).1) _ _
  have nand : (s.power.flushLost.foldl f s).nand = s.nand := foldl_keep State.nand (fun u r => (step u r).2) _ _
  refine ⟨?_, ?_⟩
  · show { (s.power.flushLost.foldl f s).power with flushLost := [] } = _
    rw [power]
  · show (s.power.flushLost.foldl f s).nand.negotiated = _
    rw [nand]

theorem replayFlush_fresh {s : State} (h : HubFresh s) : HubFresh (replayFlush s) := by
  have keeps := (replayFlush_from (s := s)).keeps
  obtain ⟨power, nand⟩ := replayFlush_power s
  refine h.congr (keeps.sqs rfl) (keeps.cqs rfl) (keeps.gens rfl) (keeps.msixTable rfl) (keeps.miowa rfl) (keeps.crc rfl) (keeps.bufs rfl)
    nand (keeps.dram rfl) ?_ ?_ ?_ ?_ <;> rw [power]

theorem bootSelect_fresh {s : State} (h : HubFresh s) : HubFresh (bootSelect s) := by
  have keeps := (bootSelect_from (s := s)).keeps
  refine h.congr (keeps.sqs rfl) (keeps.cqs rfl) (keeps.gens rfl) (keeps.msixTable rfl) (keeps.miowa rfl) (keeps.crc rfl) (keeps.bufs rfl)
    (congrArg _ (keeps.nand rfl)) (keeps.dram rfl) ?_ ?_ ?_ ?_ <;> exact congrArg _ (keeps.power rfl)

theorem hubRestarted_of_fresh {t : State} (h : HubFresh t) (w : t.wdt.expired = false) : HubRestarted t :=
  ⟨h.sqs, h.cqs, h.gens, h.msixTable, h.xfers, h.units, h.bufs, h.nand, h.dram, h.state, h.flush, h.entry, w⟩

theorem HubFresh.set_wdt {s : State} (h : HubFresh s) (w : Reset) : HubFresh { s with wdt := w } := by
  exact ⟨h.sqs, h.cqs, h.gens, h.msixTable, h.xfers, h.units, h.bufs, h.nand, h.dram, h.state, h.flush, h.entry, h.after⟩

/-- Freshness is beside the state of the rails. -/
theorem HubFresh.set_rails {s : State} (h : HubFresh s) (step good : Nat) (fault down : Bool) :
    HubFresh { s with power := { s.power with step := step, good := good, fault := fault, down := down } } := by
  exact ⟨h.sqs, h.cqs, h.gens, h.msixTable, h.xfers, h.units, h.bufs, h.nand, h.dram, h.state, h.flush, h.entry, h.after⟩

/-- The restart that both resets begin with. -/
theorem restart_fresh (s : State) (code : Nat) : ∃ r, r = replayFlush (hubRestart (serviceEnd (tally s code) 3)) ∧ HubFresh r ∧ r.wdt = s.wdt := by
  refine ⟨_, rfl, replayFlush_fresh (hubRestart_fresh _), ?_⟩
  rw [(replayFlush_from (s := hubRestart (serviceEnd (tally s code) 3))).keeps.wdt rfl,
    (hubRestart_from (s := serviceEnd (tally s code) 3)).keeps.wdt rfl, (serviceEnd_from (s := tally s code) 3).keeps.wdt rfl,
    (tally_from (s := s) code).keeps.wdt rfl]

theorem watchdogReset_fresh (s : State) :
    HubFresh (watchdogReset s) ∧ (watchdogReset s).wdt = { s.wdt with kicks := [], expired := false, deferred := false } := by
  obtain ⟨r, hr, fresh, wdt⟩ := restart_fresh s 7
  have run : watchdogReset s = bootSelect { r with wdt := { r.wdt with kicks := [], expired := false, deferred := false } } := by
    rw [hr]
    rfl
  rw [run, ← wdt]
  exact ⟨bootSelect_fresh (fresh.set_wdt _), (bootSelect_from ..).keeps.wdt rfl⟩

/-- A management reset restarts the hub die, and the rail sequence starts at step 3 unless the boot ROM recovers. -/
theorem managementResetNow_fresh {s t : State} (ht : t = managementResetNow s) :
    HubFresh t ∧ t.wdt.expired = false ∧ t.power.good = 2 ∧ t.power.step = (if t.boot.recovery then 2 else 3) ∧ t.power.fault = false ∧
      t.power.down = false := by
  obtain ⟨r, hr, fresh, -⟩ := restart_fresh s 8
  obtain ⟨u, hu⟩ : ∃ u : State, u = bootSelect { r with power := { r.power with step := 2, good := 2, fault := false, down := false },
                                                        wdt := { r.wdt with kicks := [], expired := false, deferred := false } } := ⟨_, rfl⟩
  have again : HubFresh u := hu ▸ bootSelect_fresh ((fresh.set_rails 2 2 false false).set_wdt _)
  have power : u.power = { r.power with step := 2, good := 2, fault := false, down := false } := hu ▸ (bootSelect_from ..).keeps.power rfl
  have wdt : u.wdt = { r.wdt with kicks := [], expired := false, deferred := false } := hu ▸ (bootSelect_from ..).keeps.wdt rfl
  have run : t = if u.boot.recovery then u else { u with power := { u.power with step := 3 } } := by
    rw [ht]
    simp only [managementResetNow, ← hr, ← hu]
  clear hu hr ht
  cases h : u.boot.recovery with
  | true =>
    rw [h, if_pos rfl] at run
    subst run
    rw [wdt, power, h]
    exact ⟨again, rfl, rfl, rfl, rfl, rfl⟩
  | false =>
    rw [h, if_neg Bool.false_ne_true] at run
    subst run
    refine ⟨again.set_rails 3 u.power.good u.power.fault u.power.down, ?_, ?_, ?_, ?_, ?_⟩
    · rw [wdt]
    · rw [power]
    · rw [h]; rfl
    · rw [power]
    · rw [power]

-- ===== the reset of functions =====

theorem portFns_congr {s t : State} (mode : t.portMode = s.portMode) (split : t.vfSplit = s.vfSplit) (p : Nat) (h : port t p = port s p) :
    portFns t p = portFns s p := by
  have of (n : Nat) : portOf t n = portOf s n := by rw [portOf, mode, split, ← portOf]
  have pf (n : Nat) : isPf t n = isPf s n := by rw [isPf, mode, ← isPf]
  have num (n : Nat) : vfNumber t n = vfNumber s n := by simp only [vfNumber, mode, split]
  simp only [portFns, functions, List.filter_filter]
  refine List.filter_congr fun n _ => ?_
  by_cases here : portOf s n = p
  · subst here
    simp only [fnExists, of, pf, num, h]
  · simp only [of, beq_eq_false_iff_ne.2 here, Bool.false_and]

/-- A function's reset takes its queues and leaves every other queue. -/
theorem resetFunction_sqs (s : State) (fn : Nat) : (resetFunction s fn).sqs = s.sqs.keep (fun k _ => !(k / 8192 == fn)) := by
  let u := clearEntries (dropPath (resetController s fn) fn) (resetEntry (dropPath (resetController s fn) fn) fn)
  have after : (resetFunction s fn).sqs = u.sqs := (clearTenantSide_from ..).keeps.sqs rfl
  have before : u.sqs = (resetController s fn).sqs := ((clearEntries_from ..).keeps.sqs rfl).trans rfl
  have inside : (orphanCmds (abandon s (fun f => f.fn == fn)) [fn]).sqs = s.sqs :=
    ((orphanCmds_from ..).keeps.sqs rfl).trans ((abandon_from ..).keeps.sqs rfl)
  rw [after, before, ← inside]
  rfl

theorem resetFunction_cfWords (s : State) (fn : Nat) : (resetFunction s fn).cf.words = s.cf.words := by
  let u := clearEntries (dropPath (resetController s fn) fn) (resetEntry (dropPath (resetController s fn) fn) fn)
  have after : (resetFunction s fn).cf = u.cf := (clearTenantSide_from ..).keeps.cf rfl
  have before : u.cf = (resetController s fn).cf := ((clearEntries_from ..).keeps.cf rfl).trans rfl
  have inside : (orphanCmds (abandon s (fun f => f.fn == fn)) [fn]).cf = s.cf :=
    ((orphanCmds_from ..).keeps.cf rfl).trans ((abandon_from ..).keeps.cf rfl)
  rw [after, before, ← inside]
  simp only [resetController]
  split <;> rfl

/-- No queue of the function stands. -/
def QueuesGone (t : State) (fn : Nat) : Prop := ∀ q < 8192, t.sqs.get? (qkey fn q) = none

theorem queuesGone_congr {s t : State} {fn : Nat} (h : QueuesGone s fn) (e : t.sqs = s.sqs) : QueuesGone t fn := fun q hq => by
  rw [e]
  exact h q hq

theorem resetFunction_gone (s : State) (fn : Nat) : QueuesGone (resetFunction s fn) fn := fun q hq => by
  have mine : qkey fn q / 8192 = fn := by
    simp only [qkey]
    omega
  rw [resetFunction_sqs, get?_keep_key, mine, beq_self_eq_true]
  rfl

theorem resetFunction_stays {s : State} {k : Nat} (fn : Nat) (h : QueuesGone s k) : QueuesGone (resetFunction s fn) k := fun q hq => by
  rw [resetFunction_sqs, get?_keep_key, h q hq, ite_self]

theorem foldl_resetFunction_stays (l : List Nat) {s : State} {k : Nat} (h : QueuesGone s k) : QueuesGone (l.foldl resetFunction s) k := by
  induction l generalizing s with
  | nil => exact h
  | cons fn l ih => exact ih (resetFunction_stays fn h)

theorem foldl_resetFunction_gone (l : List Nat) (s : State) {k : Nat} (h : k ∈ l) : QueuesGone (l.foldl resetFunction s) k := by
  induction l generalizing s with
  | nil => cases h
  | cons fn l ih =>
    rcases List.mem_cons.1 h with rfl | later
    · exact foldl_resetFunction_stays l (resetFunction_gone s k)
    · exact ih _ later

/-- The reset of a port: of its functions, and of its link. -/
def resetPort (s : State) (p : Nat) : State := resetLink (resetPortFns s p) p false false

theorem resetPort_sqs (s : State) (p : Nat) : (resetPort s p).sqs = ((portFns s p).foldl resetFunction s).sqs :=
  ((resetLink_from ..).keeps.sqs rfl).trans ((vfClear_from ..).keeps.sqs rfl)

theorem resetPort_gone (s : State) (p : Nat) {fn : Nat} (h : fn ∈ portFns s p) : QueuesGone (resetPort s p) fn :=
  queuesGone_congr (foldl_resetFunction_gone _ s h) (resetPort_sqs s p)

theorem resetPort_stays {s : State} {fn : Nat} (p : Nat) (h : QueuesGone s fn) : QueuesGone (resetPort s p) fn :=
  queuesGone_congr (foldl_resetFunction_stays _ h) (resetPort_sqs s p)

theorem resetPort_cfWords (s : State) (p : Nat) : (resetPort s p).cf.words = s.cf.words := by
  have cf : (resetPort s p).cf = ((portFns s p).foldl resetFunction s).cf := ((resetLink_from ..).keeps.cf rfl).trans ((vfClear_from ..).keeps.cf rfl)
  rw [cf]
  exact foldl_keep (fun u => u.cf.words) resetFunction_cfWords _ s

/-- The reset of port A leaves port B. -/
theorem resetPort_portB (s : State) : (resetPort s 0).portB = s.portB := by
  have functions : ((portFns s 0).foldl resetFunction s).portB = s.portB :=
    foldl_keep State.portB (fun u fn => (resetFunction_from (s := u) fn).keeps.portB rfl) _ s
  have mod (u : State) (f : Port → Port) : (modPort u 0 f).portB = u.portB := rfl
  have link : (resetPort s 0).portB = (resetPortFns s 0).portB := by
    rw [resetPort, resetLink, (driveWake_from ..).keeps.portB rfl, mod]
  have clear : (resetPortFns s 0).portB = ((portFns s 0).foldl resetFunction s).portB := by
    rw [resetPortFns, vfClear, (vfsAbsent_from ..).keeps.portB rfl, mod]
  rw [link, clear, functions]

theorem resetPort_mode (s : State) (p : Nat) : (resetPort s p).portMode = s.portMode ∧ (resetPort s p).vfSplit = s.vfSplit :=
  ⟨((resetLink_from ..).keeps.portMode rfl).trans ((resetPortFns_from ..).keeps.portMode rfl),
    ((resetLink_from ..).keeps.vfSplit rfl).trans ((resetPortFns_from ..).keeps.vfSplit rfl)⟩

/-- The reset of every port in use takes the queues of all their functions. -/
theorem resetPorts_functionsReset (s : State) : FunctionsReset s ((activePorts s).foldl resetPort s) := by
  intro p hp fn hfn
  have two : (activePorts s).foldl resetPort s = resetPort (resetPort s 0) 1 ∨ (activePorts s).foldl resetPort s = resetPort s 0 ∧ p = 0 := by
    unfold activePorts at hp ⊢
    split
    · exact .inl rfl
    · next one =>
      rw [if_neg one] at hp
      exact .inr ⟨rfl, List.mem_singleton.1 hp⟩
  rcases two with both | ⟨one, rfl⟩
  · rw [both]
    have which : p = 0 ∨ p = 1 := by
      unfold activePorts at hp
      split at hp <;> simp only [List.mem_cons, List.not_mem_nil, or_false] at hp
      · exact hp
      · exact .inl hp
    rcases which with rfl | rfl
    · exact resetPort_stays 1 (resetPort_gone s 0 hfn)
    · obtain ⟨mode, split⟩ := resetPort_mode s 0
      exact resetPort_gone _ 1 ((portFns_congr mode split 1 (resetPort_portB s)).symm ▸ hfn)
  · rw [one]
    exact resetPort_gone s 0 hfn

/-- The reset of the subsystem: every function of every port in use; write transfers and the commit's hold are gone. -/
theorem resetSubsystem_effect (s : State) : FunctionsReset s (resetSubsystem s) ∧ (resetSubsystem s).cf.hold = none ∧
    (resetSubsystem s).miowa.xfers = [] ∧ (resetSubsystem s).cf.words = s.cf.words := by
  have ports := resetPorts_functionsReset s
  refine ⟨ports, rfl, rfl, ?_⟩
  exact foldl_keep (fun u => u.cf.words) resetPort_cfWords (activePorts s) s

theorem sleepUndo_of_none {s : State} (h : s.power.entry = none) : sleepUndo s = s := by
  simp only [sleepUndo, h]

/-- An NVM subsystem reset with no newer activate marker (R373). -/
theorem subsystemResetNow_effect {s : State} (h : fwPending s = 0) : let t := subsystemResetNow s
    FunctionsReset s t ∧ t.power = s.power ∧ t.cf.hold = none ∧ t.miowa.xfers = [] ∧ t.dram = s.dram ∧ t.cf.words = s.cf.words := by
  have run : subsystemResetNow s = resetSubsystem (tally s 6) := if_neg (Classical.not_not.2 h)
  obtain ⟨reset, hold, xfers, words⟩ := resetSubsystem_effect (tally s 6)
  have tallied := (tally_from (s := s) 6).keeps
  have keeps := (resetSubsystem_from (s := tally s 6)).keeps
  rw [run]
  exact ⟨reset, (keeps.power rfl).trans (tallied.power rfl), hold, xfers, (keeps.dram rfl).trans (tallied.dram rfl),
    words.trans (congrArg _ (tallied.cf rfl))⟩

end Sys2Proof.Resets

/-! The supply: its thresholds, the flush they begin, and what is lost below the reset level (R240, R351, R355 to R359). -/
namespace Sys2Proof.PowerLoss
open Sys2Proof Sys2Proof.Machine Sys2Proof.Effects Sys2Proof.Stores Sys2Proof.Resets

-- ===== SUPPLY_STATE =====

theorem supplyTo_state (s : State) (x : Nat) : v (supplyTo s x) K.supplyState = x := by
  have set : v (setV s K.supplyState x) K.supplyState = x := v_setV_self ..
  simp only [supplyTo]
  split
  · exact set
  · exact (traceItem_onlyEntries _ _ _ _ _ _ (by decide)).trans set

theorem supplyTo_onlyEntries (s : State) (x : Nat) : OnlyEntries s (supplyTo s x) [K.supplyState, K.traceLost] := by
  have set : OnlyEntries s (setV s K.supplyState x) [K.supplyState, K.traceLost] := onlyEntries_mono (onlyEntries_setV _ _ _) (by decide)
  simp only [supplyTo]
  split
  · exact set
  · exact onlyEntries_trans set (onlyEntries_mono (traceItem_onlyEntries _ _ _ _ _) (by decide))

theorem supplyTo_trace_off {s : State} (x : Nat) (off : bitAt (v s K.traceSources) 0x18 = false) : (supplyTo s x).trace = s.trace := by
  have same : v (setV s K.supplyState x) K.traceSources = v s K.traceSources := v_setV_ne _ _ (by decide)
  simp only [supplyTo]
  split
  · rfl
  · rw [traceItem_of_off _ _ _ (by rw [same]; exact off)]
    rfl

-- ===== the start of the flush =====

theorem abortTest_power (s : State) : (abortTest s).power.testing = false ∧ (abortTest s).power.state = s.power.state ∧
    (abortTest s).power.armed = s.power.armed ∧ (abortTest s).power.afterFlush = s.power.afterFlush := by
  unfold abortTest
  split
  · exact ⟨rfl, rfl, rfl, rfl⟩
  · next h => exact ⟨Bool.eq_false_iff.2 h, rfl, rfl, rfl⟩

/-- A flush begins: units are cut, bounded reads excused, the NAND's queues emptied; of the power state it sets what it needs. -/
theorem flushStart_begins {s : State} (off : s.power.flushActive = false) : FlushBegins s (flushStart s) ∧
    (flushStart s).power.armed = s.power.armed ∧ (flushStart s).power.afterFlush = s.power.afterFlush := by
  obtain ⟨u, hu⟩ : ∃ u, u = nandFlushStart (excuseReads (cutUnits (abortTest s) 5 (fun _ _ => true)) (fun _ => true)) := ⟨_, rfl⟩
  obtain ⟨w, hw⟩ : ∃ w : State, w = { u with power := { u.power with
    flushActive := true, flushEnded := false, flushStartNs := u.clk.nowNs, lowest := v u K.supplyNowMv } } := ⟨_, rfl⟩
  have run : flushStart s = supplyTo w 2 := by
    simp only [flushStart, off, Bool.false_eq_true, if_false]
    rw [hw, hu]
  have frame : Keeps 2238828906242 s (flushStart s) := flushStart_from.keeps
  have power : u.power = (abortTest s).power := by
    rw [hu, (nandFlushStart_from ..).keeps.power rfl, (excuseReads_from ..).keeps.power rfl, (cutUnits_from ..).keeps.power rfl]
  have clk : u.clk = s.clk := by
    rw [hu, (nandFlushStart_from ..).keeps.clk rfl, (excuseReads_from ..).keeps.clk rfl, (cutUnits_from ..).keeps.clk rfl,
      (abortTest_from ..).keeps.clk rfl]
  have after : (flushStart s).power = { (abortTest s).power with
      flushActive := true, flushEnded := false, flushStartNs := s.clk.nowNs, lowest := v u K.supplyNowMv } := by
    rw [run, (supplyTo_from ..).keeps.power rfl, hw, ← power, ← clk]
  obtain ⟨testing, state, armed, later⟩ := abortTest_power s
  refine ⟨⟨?_, ?_, ?_, run ▸ supplyTo_state w 2, ?_, ?_, frame.store rfl, frame.clk rfl, frame.boot rfl⟩, ?_, ?_⟩ <;> rw [after] <;> assumption

-- ===== below the reset level =====

/-- Every element is chosen by a mask of ones. -/
theorem chosen_all {α : Type} (l : List α) : chosen (2 ^ l.length - 1) l = l := by
  have bits (n i : Nat) (h : i < n) : bitAt (2 ^ n - 1) i = true := by
    have ones := (Nat.testBit_two_pow_sub_one n i).trans (decide_eq_true h)
    rw [Nat.testBit_eq_decide_div_mod_eq, decide_eq_true_eq] at ones
    rw [bitAt, beq_iff_eq, ones]
  have zipped (k n : Nat) (l : List α) (h : k + l.length ≤ n) :
      (l.zip (List.range' k l.length)).filterMap (fun x => if bitAt (2 ^ n - 1) x.2 then some x.1 else none) = l := by
    induction l generalizing k with
    | nil => rfl
    | cons a l ih =>
      rw [List.length_cons] at h
      rw [List.length_cons, List.range'_succ, List.zip_cons_cons, List.filterMap_cons]
      simp only [bits n k (by omega), if_true]
      rw [ih (k + 1) (by omega)]
  rw [chosen, List.range_eq_range']
  exact zipped 0 l.length l (by omega)

/-- The rails are down, and with them what must be negotiated again. -/
def fallen (s : State) (lost : List (Nat × Nat × Nat)) : State :=
  { s with
    power := { s.power with down := true, step := 2, good := 2, flushActive := false, flushLost := s.power.flushLost ++ lost, entry := none }
    nand := { s.nand with negotiated := false, luns := [] }
    insts := s.insts.mapVal (fun _ i => { i with rdy := false })
    dram := { s.dram with negotiated := false } }

theorem cutUnits_of_none {s : State} (cause : Nat) (sel : Nat → Zone → Bool) (h : s.zones = []) : cutUnits s cause sel = s := by
  rw [cutUnits, h]
  rfl

theorem abandon_recd_of_none {s : State} (p : Flight → Bool) (h : s.flights = []) : (abandon s p).recd = s.recd := by
  simp only [abandon, h, List.filter_nil, List.foldl_nil]

/-- Below the reset level: what is lost, and nothing of the power state but its fall. -/
theorem resetLevel_eq {s : State} (up : s.power.down = false) : ∃ y lost, resetLevel s = supplyTo (fallen y lost) 1 ∧ y.power = s.power ∧
    ((2 ≤ s.power.state ∧ s.power.sleepCopy = true) ∨ s.power.flushEnded = true → lost = []) ∧
    (s.power.state < 2 → s.power.flushEnded = false → s.power.flushActive = false → s.zones = [] → lost = uncovered s) ∧
    (s.zones = [] → s.flights = [] → s.power.flushActive = false → y.recd = s.recd) := by
  obtain ⟨asleep, hasleep⟩ : ∃ b, (decide (s.power.state ≥ 2) && s.power.sleepCopy) = b := ⟨_, rfl⟩
  obtain ⟨s1, h1⟩ : ∃ u, (if s.power.flushActive then event s Ev.flushIncomplete [atRisk s] else s) = u := ⟨_, rfl⟩
  obtain ⟨s2, h2⟩ : ∃ u, cutUnits s1 5 (fun _ _ => !asleep) = u := ⟨_, rfl⟩
  obtain ⟨⟨m, s3⟩, h3⟩ : ∃ x : Nat × State, (if s2.power.flushActive then freeBelow s2 (2 ^ (uncovered s2).length)
    else (2 ^ (uncovered s2).length - 1, s2)) = x := ⟨_, rfl⟩
  obtain ⟨lost, hlost⟩ : ∃ l, (if asleep || s3.power.flushEnded then [] else chosen m (uncovered s2)) = l := ⟨_, rfl⟩
  have run : resetLevel s = supplyTo (fallen (nandFlushStart (orphanCmds (abandon s3 (fun _ => true)) (functions s3))) lost) 1 := by
    simp only [resetLevel, up, Bool.false_eq_true, if_false, hasleep, h1, h2, h3, hlost]
    rfl
  have power1 : s1.power = s.power := by
    rw [← h1]
    split
    · exact (event_from ..).keeps.power rfl
    · rfl
  have power2 : s2.power = s.power := by rw [← h2, (cutUnits_from ..).keeps.power rfl, power1]
  have power3 : s3.power = s.power := by
    rw [← power2]
    split at h3 <;> (cases h3; rfl)
  -- with nothing to cut and no flush, the state before the fall is the one it falls from
  have still (zones : s.zones = []) (off : s.power.flushActive = false) : m = 2 ^ (uncovered s).length - 1 ∧ s2 = s ∧ s3 = s := by
    rw [off, if_neg Bool.false_ne_true] at h1
    subst h1
    rw [cutUnits_of_none _ _ zones] at h2
    subst h2
    rw [off, if_neg Bool.false_ne_true] at h3
    cases h3
    exact ⟨rfl, rfl, rfl⟩
  refine ⟨_, lost, run, ?_, fun none' => ?_, fun awake ended off zones => ?_, fun zones flights off => ?_⟩
  · rw [(nandFlushStart_from ..).keeps.power rfl, (orphanCmds_from ..).keeps.power rfl, (abandon_from ..).keeps.power rfl, power3]
  · rw [← hlost, if_pos]
    rw [power3, ← hasleep, Bool.or_eq_true, Bool.and_eq_true, decide_eq_true_eq]
    exact none'
  · obtain ⟨mask, same, -⟩ := still zones off
    rw [decide_eq_false (Nat.not_le.2 awake), Bool.false_and] at hasleep
    rw [← hlost, ← hasleep, power3, ended, Bool.or_self, if_neg Bool.false_ne_true, mask, same, chosen_all]
  · obtain ⟨-, -, same⟩ := still zones off
    rw [(nandFlushStart_from ..).keeps.recd rfl, (orphanCmds_from ..).keeps.recd rfl, same, abandon_recd_of_none _ flights]

theorem fallen_down (y : State) (lost : List (Nat × Nat × Nat)) : Down (supplyTo (fallen y lost) 1) := by
  have power : (supplyTo (fallen y lost) 1).power = (fallen y lost).power := (supplyTo_from ..).keeps.power rfl
  have nand : (supplyTo (fallen y lost) 1).nand = (fallen y lost).nand := (supplyTo_from ..).keeps.nand rfl
  have dram : (supplyTo (fallen y lost) 1).dram = (fallen y lost).dram := (supplyTo_from ..).keeps.dram rfl
  have insts : (supplyTo (fallen y lost) 1).insts = (fallen y lost).insts := (supplyTo_from ..).keeps.insts rfl
  unfold Down
  rw [power, nand, dram, insts]
  refine ⟨rfl, rfl, rfl, rfl, rfl, rfl, rfl, supplyTo_state _ _, fun k i h => ?_⟩
  rw [show (fallen y lost).insts = y.insts.mapVal (fun _ i => { i with rdy := false }) from rfl, get?_mapVal, Option.map_eq_some_iff] at h
  obtain ⟨j, -, rfl⟩ := h
  rfl

theorem resetLevel_down {s : State} (up : s.power.down = false) : Down (resetLevel s) := by
  obtain ⟨y, lost, run, -⟩ := resetLevel_eq up
  rw [run]
  exact fallen_down y lost

theorem resetLevel_flushLost {s : State} (up : s.power.down = false) :
    ((2 ≤ s.power.state ∧ s.power.sleepCopy = true) ∨ s.power.flushEnded = true → (resetLevel s).power.flushLost = s.power.flushLost) ∧
    (s.power.state < 2 → s.power.flushEnded = false → s.power.flushActive = false → s.zones = [] →
      (resetLevel s).power.flushLost = s.power.flushLost ++ uncovered s) := by
  obtain ⟨y, lost, run, power, covered, bare, -⟩ := resetLevel_eq up
  have after : (resetLevel s).power.flushLost = s.power.flushLost ++ lost := by
    rw [run, (supplyTo_from ..).keeps.power rfl, ← power]
    rfl
  rw [after]
  exact ⟨fun h => by rw [covered h, List.append_nil], fun awake ended off zones => by rw [bare awake ended off zones]⟩

/-- In a state with no zone and no command the fall records nothing. -/
theorem resetLevel_recd {s : State} (up : s.power.down = false) (zones : s.zones = []) (flights : s.flights = [])
    (off : s.power.flushActive = false) : (resetLevel s).recd = s.recd := by
  obtain ⟨y, lost, run, -, -, -, recd⟩ := resetLevel_eq up
  rw [run, (supplyTo_from ..).keeps.recd rfl]
  exact recd zones flights off

end Sys2Proof.PowerLoss

/-! The supply's levels arm, start and end the power-loss flush (R240, R351, R355 to R359, R371, R379). -/
namespace Sys2Proof.Supply
open Sys2Proof Sys2Proof.Machine Sys2Proof.Effects Sys2Proof.Stores Sys2Proof.Instances Sys2Proof.Resets Sys2Proof.PowerLoss

-- ===== samples and crossings =====

theorem supplySample_entries (s : State) (mv : Nat) : v (supplySample s mv) K.supplyNowMv = mv ∧
    OnlyEntries s (supplySample s mv) [K.supplyNowMv] := by
  let u : State := { s with power := { s.power with lowest := if s.power.armed || s.power.flushActive then Nat.min s.power.lowest mv else mv } }
  exact ⟨v_setV_self .., onlyEntries_congr (onlyEntries_setV u K.supplyNowMv mv) rfl rfl⟩

/-- After a sample, a change of the power state and a new SUPPLY_STATE. -/
theorem sampled_supplyTo (s : State) (mv x : Nat) (p : Power) :
    let t := supplyTo { supplySample s mv with power := p } x
    v t K.supplyNowMv = mv ∧ t = { s with dict := t.dict, power := p, trace := t.trace } ∧ OnlyEntries s t [K.supplyNowMv, K.supplyState, K.traceLost] ∧
      (bitAt (v s K.traceSources) 0x18 = false → t.trace = s.trace) ∧ v t K.supplyState = x := by
  intro t
  obtain ⟨now, entries⟩ := supplySample_entries s mv
  have moved : OnlyEntries { supplySample s mv with power := p } t [K.supplyState, K.traceLost] := supplyTo_onlyEntries _ _
  refine ⟨?_, ?_, ?_, fun off => ?_, supplyTo_state _ _⟩
  · exact (moved _ (by decide)).trans now
  · exact (supplyTo_from (s := { supplySample s mv with power := p }) x).keeps
  · exact onlyEntries_append (ks := [K.supplyNowMv]) (onlyEntries_congr entries rfl rfl) moved
  · exact supplyTo_trace_off x ((congrArg (bitAt · 0x18) (entries K.traceSources (by decide))).trans off)

section Warnings
variable {s : State} (mv : Nat)

theorem supplyWarning_of_flush (h : s.power.flushActive = true) : supplyWarning s mv = supplySample s mv := if_pos h

theorem supplyWarning_of_first (h : s.power.flushActive = false) (g : s.power.supplyGood = false) :
    supplyWarning s mv = { supplySample s mv with power := { (supplySample s mv).power with countNs := s.clk.nowNs } } := by
  have off : (supplySample s mv).power.flushActive = false := h
  have first : (supplySample s mv).power.supplyGood = false := g
  simp only [supplyWarning, off, first, Bool.not_false, Bool.false_eq_true, if_false, if_true]
  rfl

theorem supplyWarning_of_good (h : s.power.flushActive = false) (g : s.power.supplyGood = true) :
    supplyWarning s mv = supplyTo { supplySample s mv with power := { (supplySample s mv).power with armed := true, fallNs := s.clk.nowNs } } 1 := by
  have off : (supplySample s mv).power.flushActive = false := h
  have good : (supplySample s mv).power.supplyGood = true := g
  simp only [supplyWarning, off, good, Bool.not_true, Bool.false_eq_true, if_false]
  rfl

/-- A crossing of the level of recovery outside a dip only notes the sample. -/
theorem supplyCrossing_of_calm (h : s.power.flushActive = true ∨ (s.power.armed = false ∧ s.power.flushEnded = false)) :
    supplyCrossing s mv = { supplySample s mv with power := { (supplySample s mv).power with countNs := s.clk.nowNs } } := by
  refine if_pos ?_
  show (s.power.flushActive || !(s.power.armed || s.power.flushEnded)) = true
  rcases h with h | ⟨a, b⟩
  · rw [h, Bool.true_or]
  · rw [a, b, Bool.or_self, Bool.not_false, Bool.or_true]

theorem recoverLevel_sample : recoverLevel (supplySample s mv) = recoverLevel s := by
  obtain ⟨-, entries⟩ := supplySample_entries s mv
  rw [recoverLevel, entries _ (by decide), entries _ (by decide), ← recoverLevel]

theorem supplyCrossing_of_dip (off : s.power.flushActive = false) (h : s.power.armed = true ∨ s.power.flushEnded = true) :
    supplyCrossing s mv = supplyTo { supplySample s mv with power := { (supplySample s mv).power with countNs := s.clk.nowNs } }
      (if recoverLevel s ≤ mv then 3 else 1) := by
  rw [← recoverLevel_sample mv]
  refine if_neg ?_
  show ¬ (s.power.flushActive || !(s.power.armed || s.power.flushEnded)) = true
  rw [off, Bool.or_eq_true_iff.2 h]
  exact Bool.false_ne_true

end Warnings

-- ===== a fall below the flush level =====

/-- Each of the three falls is a fall from the state with its sample. -/
theorem exec_of_flushFall {s s1 : State} {i : Instr} (h : FlushFall s i s1) : exec i s = .next (flushFall s1) := by
  rcases h with ⟨mv, rfl, rfl⟩ | ⟨rfl, rfl, armed, below, awake⟩ | ⟨rfl, rfl, on⟩
  · rfl
  · exact next_congr (if_pos (by rw [armed, below, decide_eq_true awake]; rfl))
  · exact next_congr (if_pos on)

/-- The state with its sample differs in the sample alone. -/
theorem flushFall_sample {s s1 : State} {i : Instr} (h : FlushFall s i s1) : s1 = { s with dict := s1.dict, power := s1.power } ∧
    s1.power = { s.power with lowest := s1.power.lowest } ∧ OnlyEntries s s1 [K.supplyNowMv] := by
  rcases h with ⟨mv, rfl, rfl⟩ | ⟨rfl, rfl, -⟩ | ⟨rfl, rfl, -⟩
  · exact ⟨rfl, rfl, (supplySample_entries s mv).2⟩
  · exact ⟨rfl, rfl, onlyEntries_refl _ _⟩
  · exact ⟨rfl, rfl, onlyEntries_refl _ _⟩

theorem flushFall_of_awake {s : State} (up : s.power.down = false) (awake : s.power.state < 2) (good : s.power.supplyGood = true)
    (off : s.power.flushActive = false) : FlushBegins s (flushFall s) ∧ (flushFall s).power.armed = true := by
  have run : flushFall s = flushStart { s with power := { s.power with armed := true } } := by
    simp only [flushFall, up, good, ge_iff_le, Nat.not_le.2 awake, Bool.not_true, Bool.false_eq_true, if_false]
  obtain ⟨⟨on, ended, start, state, testing, power, store, clk, boot⟩, armed, -⟩ :=
    flushStart_begins (s := { s with power := { s.power with armed := true } }) off
  rw [run]
  exact ⟨⟨on, ended, start, state, testing, power, store, clk, boot⟩, armed⟩

theorem flushFall_of_asleep {s : State} (up : s.power.down = false) (asleep : 2 ≤ s.power.state) :
    flushFall s = event s Ev.flushLevelInSleep [v s K.supplyNowMv] := by
  simp only [flushFall, up, ge_iff_le, asleep, Bool.false_eq_true, if_false, if_true]

theorem flushFall_of_none {s : State} (h : s.power.down = true ∨ (s.power.state < 2 ∧ s.power.supplyGood = false)) : flushFall s = s := by
  rcases h with down | ⟨awake, bad⟩
  · exact if_pos down
  · simp only [flushFall, ge_iff_le, Nat.not_le.2 awake, bad, Bool.not_false, if_false, if_true, ite_self]

theorem flushBegins_congr {s s1 t : State} (h : FlushBegins s1 t) (clk : s1.clk = s.clk) (store : s1.store = s.store) (boot : s1.boot = s.boot)
    (state : s1.power.state = s.power.state) : FlushBegins s t := by
  unfold FlushBegins at h ⊢
  rwa [clk, store, boot, state] at h

-- ===== the end of a dip =====

/-- The supply is good: nothing is armed. -/
def calm (s : State) : State := { s with power := { s.power with armed := false, flushEnded := false, supplyGood := true } }

section Recovered
variable {s : State} (three : v s K.supplyState = 3) (level : recoverLevel s ≤ v s K.supplyNowMv) (off : s.power.flushActive = false)
    (up : s.power.down = false)
include three level off up

theorem supplyRecovered_goes : supplyRecovered s = if s.power.flushEnded then
      subsystemResetNow (sleepUndo (event (setV (supplyTo (calm s) 0) K.supplyLastMinMv s.power.lowest) Ev.flushReset [s.power.lowest, v s K.flushLast]))
    else if s.power.armed then
      settle (bump32 (event (setV (supplyTo (calm s) 0) K.supplyLastMinMv s.power.lowest) Ev.supplyDip [s.power.lowest]) K.supplyDips)
    else supplyTo (calm s) 0 := by
  have goes : ¬ (v s K.supplyState ≠ 3 ∨ v s K.supplyNowMv < recoverLevel s ∨ s.power.flushActive = true ∨ s.power.down = true) := by
    rintro (h | h | h | h)
    · exact h three
    · omega
    · exact Bool.false_ne_true (off.symm.trans h)
    · exact Bool.false_ne_true (up.symm.trans h)
  unfold supplyRecovered
  rw [if_neg goes]
  rfl

end Recovered

theorem supplyRecovered_of_none {s : State} (h : v s K.supplyState ≠ 3 ∨ v s K.supplyNowMv < recoverLevel s ∨ s.power.flushActive = true ∨
    s.power.down = true) : supplyRecovered s = s := if_pos h

/-- The end of a dip is counted, with its lowest supply and one event. -/
theorem dip_effect (s : State) (low : Nat) : let u := bump32 (event (setV (supplyTo (calm s) 0) K.supplyLastMinMv low) Ev.supplyDip [low]) K.supplyDips
    v u K.supplyState = 0 ∧ v u K.supplyLastMinMv = low ∧ v u K.supplyDips = satAdd 32 (v s K.supplyDips) 1 ∧ Recorded s u Ev.supplyDip [low] ∧
      u.power = (calm s).power := by
  obtain ⟨w, hw⟩ : ∃ w, setV (supplyTo (calm s) 0) K.supplyLastMinMv low = w := ⟨_, rfl⟩
  have entries : OnlyEntries s w [K.supplyState, K.traceLost, K.supplyLastMinMv] := by
    rw [← hw]
    exact onlyEntries_append (ks := [K.supplyState, K.traceLost]) (ls := [K.supplyLastMinMv])
      (onlyEntries_congr (supplyTo_onlyEntries (calm s) 0) rfl rfl) (onlyEntries_setV _ _ _)
  have state : v w K.supplyState = 0 := by
    rw [← hw]
    exact (v_setV_ne _ _ (by decide)).trans (supplyTo_state _ _)
  have lowest : v w K.supplyLastMinMv = low := by
    rw [← hw]
    exact v_setV_self ..
  have recd : w.recd = s.recd := by
    rw [← hw]
    exact (supplyTo_from (s := calm s) 0).keeps.recd rfl
  have power : w.power = (calm s).power := by
    rw [← hw]
    exact (supplyTo_from (s := calm s) 0).keeps.power rfl
  rw [hw]
  have noted := event_onlyEntries w Ev.supplyDip [low]
  refine ⟨?_, ?_, ?_, ?_, ((event_from (s := w) Ev.supplyDip [low]).keeps.power rfl).trans power⟩
  · exact (v_setV_ne _ _ (by decide)).trans ((noted _ (by decide)).trans state)
  · exact (v_setV_ne _ _ (by decide)).trans ((noted _ (by decide)).trans lowest)
  · exact (v_setV_self ..).trans (by rw [noted _ (by decide), entries _ (by decide)])
  · exact recorded_congr (event_recorded w _ _) recd.symm (entries _ (by decide)).symm rfl

theorem functionsReset_congr {s s' t : State} (h : FunctionsReset s t) (mode : s.portMode = s'.portMode) (split : s.vfSplit = s'.vfSplit)
    (a : s.portA = s'.portA) (b : s.portB = s'.portB) : FunctionsReset s' t := by
  intro p hp fn hfn
  have ports : port s p = port s' p := by rw [port, a, b, ← port]
  refine h p ?_ fn ?_
  · rw [activePorts, mode, ← activePorts]
    exact hp
  · rw [portFns_congr mode split p ports]
    exact hfn

theorem fwPending_congr {s t : State} (cf : t.cf = s.cf) (boot : t.boot = s.boot) : fwPending t = fwPending s := by
  unfold fwPending lastSeq
  rw [cf, boot]

/-- The good supply after a flush is an NVM subsystem reset. -/
theorem flushReset_effect {s : State} (w : State) (hw : w = setV (supplyTo (calm s) 0) K.supplyLastMinMv s.power.lowest) (args : List Nat)
    (fw : fwPending s = 0) (entry : s.power.entry = none) : FunctionsReset s (subsystemResetNow (sleepUndo (event w Ev.flushReset args))) ∧
      (subsystemResetNow (sleepUndo (event w Ev.flushReset args))).power = (calm s).power := by
  have frame : Keeps 258 w (event w Ev.flushReset args) := (event_from ..).keeps
  have low : Keeps 514 (calm s) w := by
    rw [hw]
    exact (From.step (setV_from ..) (supplyTo_from (s := calm s) 0) rfl).keeps
  have power : (event w Ev.flushReset args).power = (calm s).power := (frame.power rfl).trans (low.power rfl)
  rw [sleepUndo_of_none (by rw [power]; exact entry)]
  have fw' : fwPending (event w Ev.flushReset args) = 0 :=
    (fwPending_congr ((frame.cf rfl).trans (low.cf rfl)) ((frame.boot rfl).trans (low.boot rfl))).trans fw
  obtain ⟨reset, same, -⟩ := subsystemResetNow_effect fw'
  refine ⟨functionsReset_congr reset ?_ ?_ ?_ ?_, same.trans power⟩
  · exact (frame.portMode rfl).trans (low.portMode rfl)
  · exact (frame.vfSplit rfl).trans (low.vfSplit rfl)
  · exact (frame.portA rfl).trans (low.portA rfl)
  · exact (frame.portB rfl).trans (low.portB rfl)

-- ===== the end of the flush =====

/-- No reset that waits for the flush begins another, and none is left waiting. -/
theorem afterFlushReset_power {s : State} (off : s.power.flushActive = false) :
    (afterFlushReset s).power.flushActive = false ∧ (afterFlushReset s).power.afterFlush = 0 := by
  obtain ⟨u, hu⟩ : ∃ u : State, u = { s with power := { s.power with afterFlush := 0 } } := ⟨_, rfl⟩
  have still : u.power.flushActive = false ∧ u.power.afterFlush = 0 := by
    rw [hu]
    exact ⟨off, rfl⟩
  have run : afterFlushReset s = if s.power.afterFlush = 8 then managementResetNow u else if s.power.afterFlush = 7 then watchdogReset u
      else if s.power.afterFlush = 6 then subsystemResetNow u else u := by
    rw [hu]
    rfl
  have management : (managementResetNow u).power.flushActive = false ∧ (managementResetNow u).power.afterFlush = 0 := by
    obtain ⟨fresh, -⟩ := managementResetNow_fresh (s := u) rfl
    exact ⟨fresh.flush, fresh.after⟩
  rw [run]
  split
  · exact management
  split
  · obtain ⟨fresh, -⟩ := watchdogReset_fresh u
    exact ⟨fresh.flush, fresh.after⟩
  split
  · by_cases fw : fwPending u = 0
    · obtain ⟨-, power, -⟩ := subsystemResetNow_effect fw
      rw [power]
      exact still
    · rw [show subsystemResetNow u = managementResetNow u from if_pos fw]
      exact management
  · exact still

/-- A reset that was held back during the flush. -/
def heldReset (s : State) (h : Nat × Nat) : State :=
  match h.1 with
  | 0 => flr s h.2
  | 1 => dropTransfers (resetController (tally s 5) h.2)
  | 2 => resetLink (resetPortFns s h.2) h.2 true false
  | _ => resetLink (resetPortFns s h.2) h.2 true false

theorem heldReset_power (s : State) (h : Nat × Nat) : (heldReset s h).power = s.power := by
  unfold heldReset
  split
  · exact (flr_from ..).keeps.power rfl
  · exact ((resetController_from ..).keeps.power rfl).trans ((tally_from ..).keeps.power rfl)
  · exact ((resetLink_from ..).keeps.power rfl).trans ((resetPortFns_from ..).keeps.power rfl)
  · exact ((resetLink_from ..).keeps.power rfl).trans ((resetPortFns_from ..).keeps.power rfl)

/-- The flush has ended: its data stands on the media, its duration and lowest supply are kept. -/
def flushOver (s : State) (lost : List (Nat × Nat × Nat)) : State :=
  let hit (e : WbEnt) : Bool := lost.any (fun r => r.1 == e.nsid && r.2.1 < e.lba + e.nlb && e.lba < r.2.1 + r.2.2)
  let s := setV (setV s K.flushLast (Nat.min ((s.clk.nowNs - s.power.flushStartNs) / 1000) (2 ^ 32 - 1))) K.supplyLastMinMv s.power.lowest
  { s with
    xlat := { s.xlat with wbuf := s.xlat.wbuf.map (fun (e : WbEnt) => if hit e then e else { e with replay := true, logged := false }) }
    nand := { s.nand with flushArea := true, wtLog := [] }
    recd := { s.recd with flushed := s.recd.staging }
    wdt := { s.wdt with kicks := [] }
    power := { s.power with flushActive := false, flushEnded := true, flushLost := lost, countNs := s.clk.nowNs } }

theorem flushEnd_eq {s : State} (lost : List (Nat × Nat × Nat)) (on : s.power.flushActive = true) : ∃ u,
    u = supplyTo (flushOver s lost) (if decide (v s K.supplyNowMv ≥ recoverLevel s) then 3 else 1) ∧ flushEnd s lost =
      if u.power.afterFlush ≠ 0 then
        let w : State := { u with power := { u.power with
          flushEnded := false, armed := !decide (v s K.supplyNowMv ≥ recoverLevel s), heldResets := [],
          flushLost := if u.power.afterFlush = 6 then [] else lost } }
        afterFlushReset (if decide (v s K.supplyNowMv ≥ recoverLevel s) then supplyTo w 0 else w)
      else u.power.heldResets.foldl heldReset { u with power := { u.power with heldResets := [] } } := by
  obtain ⟨u, hu⟩ : ∃ u, u = supplyTo (flushOver s lost) (if decide (v s K.supplyNowMv ≥ recoverLevel s) then 3 else 1) := ⟨_, rfl⟩
  refine ⟨u, hu, ?_⟩
  have going : ¬ (!s.power.flushActive) = true := by
    rw [on]
    exact Bool.false_ne_true
  unfold flushEnd
  rw [if_neg going]
  simp only [flushOver] at hu
  simp only [← hu]
  rfl

theorem flushOver_power (s : State) (lost : List (Nat × Nat × Nat)) (x : Nat) : (supplyTo (flushOver s lost) x).power =
    { s.power with flushActive := false, flushEnded := true, flushLost := lost, countNs := s.clk.nowNs } := (supplyTo_from ..).keeps.power rfl

theorem flushEnd_power {s : State} (lost : List (Nat × Nat × Nat)) (on : s.power.flushActive = true) :
    (flushEnd s lost).power.flushActive = false ∧ (s.power.afterFlush ≠ 0 → (flushEnd s lost).power.afterFlush = 0) := by
  obtain ⟨u, hu, run⟩ := flushEnd_eq lost on
  have power := hu ▸ flushOver_power s lost (if decide (v s K.supplyNowMv ≥ recoverLevel s) then 3 else 1)
  rw [run]
  by_cases waits : u.power.afterFlush = 0
  · rw [if_neg (Classical.not_not.2 waits), foldl_keep State.power heldReset_power]
    refine ⟨by rw [power], fun h => absurd ?_ h⟩
    rwa [power] at waits
  · rw [if_pos waits]
    obtain ⟨off, none'⟩ := afterFlushReset_power (s := if decide (v s K.supplyNowMv ≥ recoverLevel s) then supplyTo { u with power := { u.power with
      flushEnded := false, armed := !decide (v s K.supplyNowMv ≥ recoverLevel s), heldResets := [],
      flushLost := if u.power.afterFlush = 6 then [] else lost } } 0 else { u with power := { u.power with
      flushEnded := false, armed := !decide (v s K.supplyNowMv ≥ recoverLevel s), heldResets := [],
      flushLost := if u.power.afterFlush = 6 then [] else lost } }) (by
        split
        · rw [(supplyTo_from ..).keeps.power rfl, power]
        · rw [power])
    exact ⟨off, fun _ => none'⟩

/-- With no reset waiting, the end of the flush only keeps what it was. -/
theorem flushEnd_of_none {s : State} (lost : List (Nat × Nat × Nat)) (on : s.power.flushActive = true) (after : s.power.afterFlush = 0)
    (held : s.power.heldResets = []) : let u := flushEnd s lost
    v u K.flushLast = Nat.min ((s.clk.nowNs - s.power.flushStartNs) / 1000) (2 ^ 32 - 1) ∧ v u K.supplyLastMinMv = s.power.lowest ∧
      v u K.supplyState = (if recoverLevel s ≤ v s K.supplyNowMv then 3 else 1) ∧ u.recd.flushed = s.recd.staging ∧ u.nand.flushArea = true ∧
      u.nand.wtLog = [] ∧ u.power = { s.power with flushActive := false, flushEnded := true, flushLost := lost, countNs := s.clk.nowNs } := by
  obtain ⟨u, hu, run⟩ := flushEnd_eq lost on
  have power := hu ▸ flushOver_power s lost (if decide (v s K.supplyNowMv ≥ recoverLevel s) then 3 else 1)
  have same : { u with power := { u.power with heldResets := [] } } = u := by
    have e : { u.power with heldResets := [] } = u.power := by
      rw [power]
      simp only [held]
    rw [e]
  have eq : flushEnd s lost = u := by
    rw [run, if_neg (Classical.not_not.2 (by rw [power]; exact after)), show u.power.heldResets = [] by rw [power]; exact held]
    exact same
  have recd : u.recd = (flushOver s lost).recd := hu ▸ (supplyTo_from ..).keeps.recd rfl
  have nand : u.nand = (flushOver s lost).nand := hu ▸ (supplyTo_from ..).keeps.nand rfl
  have entries : OnlyEntries (flushOver s lost) u [K.supplyState, K.traceLost] := hu ▸ supplyTo_onlyEntries _ _
  have lastMin : v (flushOver s lost) K.supplyLastMinMv = s.power.lowest := v_setV_self ..
  have last : v (flushOver s lost) K.flushLast = Nat.min ((s.clk.nowNs - s.power.flushStartNs) / 1000) (2 ^ 32 - 1) :=
    (v_setV_ne (setV s K.flushLast (Nat.min ((s.clk.nowNs - s.power.flushStartNs) / 1000) (2 ^ 32 - 1))) s.power.lowest
      (show K.flushLast ≠ K.supplyLastMinMv by decide)).trans (v_setV_self ..)
  intro w
  rw [show w = u from eq]
  refine ⟨(entries _ (by decide)).trans last, (entries _ (by decide)).trans lastMin, ?_, by rw [recd]; rfl, by rw [nand]; rfl, by rw [nand]; rfl, power⟩
  rw [hu, supplyTo_state]
  simp only [ge_iff_le, decide_eq_true_eq]

-- ===== VDD_AO =====

theorem down_congr {s t : State} (h : Down s) (power : t.power = s.power) (nand : t.nand = s.nand) (dram : t.dram = s.dram)
    (dict : t.dict = s.dict) (insts : t.insts = s.insts) : Down t := by
  unfold Down at h ⊢
  rwa [power, nand, dram, v_of_dict dict, insts]

/-- Settles O49: the supply's levels arm the flush, begin it, end it, and reset what waited for it. -/
theorem supplyAndFlush : Obligations.supply_and_flush := by
  refine fun s => ⟨fun mv => ?_, fun i s1 fall => ⟨fun up awake good off => ?_, fun up asleep => ?_, fun h => ?_⟩, fun h => ?_, fun off => ?_,
    fun mv => ?_, fun three level off up => ⟨fun dip armed => ?_, fun dip calm' => ?_, fun flush fw entry => ?_⟩, fun h => ?_, fun mv up => ?_,
    fun mv down => ?_, fun lost on => ?_, fun lost off => ?_, ?_⟩
  · obtain ⟨now, entries⟩ := supplySample_entries s mv
    have few : OnlyEntries s (supplySample s mv) [K.supplyNowMv, K.supplyState, K.traceLost] := onlyEntries_mono entries (by decide)
    have state : v (supplySample s mv) K.supplyState = v s K.supplyState := entries _ (by decide)
    cases off : s.power.flushActive with
    | true =>
      refine ⟨_, next_congr (supplyWarning_of_flush mv off), now, rfl, few, fun _ => rfl, fun h => ?_, fun h => ?_, fun _ => ⟨state, rfl⟩⟩ <;> cases h
    | false =>
      cases good : s.power.supplyGood with
      | false =>
        refine ⟨_, next_congr (supplyWarning_of_first mv off good), now, rfl, few, fun _ => rfl, fun _ h => ?_, fun _ _ => ⟨state, rfl, rfl⟩, fun h => ?_⟩ <;>
          cases h
      | true =>
        obtain ⟨now, frame, entries, trace, one⟩ := sampled_supplyTo s mv 1 { (supplySample s mv).power with armed := true, fallNs := s.clk.nowNs }
        have power := congrArg State.power frame
        refine ⟨_, next_congr (supplyWarning_of_good mv off good), now, ?_, entries, trace, fun _ _ => ⟨one, ?_, ?_⟩, fun _ h => ?_, fun h => ?_⟩
        · exact power.symm ▸ frame
        · rw [power]
        · rw [power]
        · cases h
        · cases h
  · obtain ⟨frame, power, -⟩ := flushFall_sample fall
    have state : s1.power.state = s.power.state := by rw [power]
    obtain ⟨begins, armed⟩ := flushFall_of_awake (s := s1) (by rw [power]; exact up) (by rw [power]; exact awake) (by rw [power]; exact good)
      (by rw [power]; exact off)
    exact ⟨_, exec_of_flushFall fall, flushBegins_congr begins (by rw [frame]) (by rw [frame]) (by rw [frame]) state, armed⟩
  · obtain ⟨frame, power, entries⟩ := flushFall_sample fall
    have run := (exec_of_flushFall fall).trans (next_congr (flushFall_of_asleep (s := s1) (by rw [power]; exact up) (by rw [power]; exact asleep)))
    have keeps : Keeps 258 s1 (event s1 Ev.flushLevelInSleep [v s1 K.supplyNowMv]) := (event_from ..).keeps
    refine ⟨_, run, ?_, keeps.power rfl, keeps⟩
    exact recorded_congr (event_recorded s1 _ _) (by rw [frame]) (entries _ (by decide)).symm rfl
  · obtain ⟨-, power, -⟩ := flushFall_sample fall
    exact (exec_of_flushFall fall).trans (next_congr (flushFall_of_none (by rw [power]; exact h)))
  · refine next_congr (if_neg ?_)
    rcases h with h | h <;> simp only [h, Bool.false_and, Bool.and_false, Bool.false_eq_true, not_false_eq_true]
  · exact next_congr (if_neg (by rw [off]; exact Bool.false_ne_true))
  · obtain ⟨now, entries⟩ := supplySample_entries s mv
    have state : v (supplySample s mv) K.supplyState = v s K.supplyState := entries _ (by decide)
    by_cases dip : s.power.flushActive = false ∧ (s.power.armed = true ∨ s.power.flushEnded = true)
    · obtain ⟨off, after⟩ := dip
      obtain ⟨now, frame, -, trace, x⟩ := sampled_supplyTo s mv (if recoverLevel s ≤ mv then 3 else 1)
        { (supplySample s mv).power with countNs := s.clk.nowNs }
      have power := congrArg State.power frame
      refine ⟨_, next_congr (supplyCrossing_of_dip mv off after), now, by rw [power], power.symm ▸ frame, trace, fun _ _ => x, fun h => ?_⟩
      rcases h with h | ⟨h, k⟩
      · exact absurd (off.symm.trans h) Bool.false_ne_true
      · rw [h, k] at after
        rcases after with h | h <;> cases h
    · have calm' : s.power.flushActive = true ∨ (s.power.armed = false ∧ s.power.flushEnded = false) := by
        rw [Classical.not_and_iff_not_or_not, Bool.not_eq_false, not_or, Bool.not_eq_true, Bool.not_eq_true] at dip
        exact dip
      exact ⟨_, next_congr (supplyCrossing_of_calm mv calm'), now, rfl, rfl, fun _ => rfl, fun off h => absurd ⟨off, h⟩ dip, fun _ => state⟩
  · have run := supplyRecovered_goes three level off up
    rw [dip, if_neg Bool.false_ne_true, armed, if_pos rfl] at run
    exact ⟨_, next_congr run, dip_effect s s.power.lowest⟩
  · have run := supplyRecovered_goes three level off up
    rw [dip, if_neg Bool.false_ne_true, calm', if_neg Bool.false_ne_true] at run
    refine ⟨_, next_congr run, supplyTo_state _ _, onlyEntries_congr (supplyTo_onlyEntries (calm s) 0) rfl rfl, ?_⟩
    have other : ¬ v (calm s) K.supplyState = 0 := by
      rw [show v (calm s) K.supplyState = 3 from three]
      decide
    simp only [supplyTo, other, if_false]
    rfl
  · have run := supplyRecovered_goes three level off up
    rw [flush, if_pos rfl] at run
    exact ⟨_, next_congr run, flushReset_effect _ rfl _ fw entry⟩
  · exact next_congr (supplyRecovered_of_none h)
  · have keeps : Keeps 16669973546754 (supplySample s mv) (resetLevel (supplySample s mv)) := resetLevel_from.keeps
    obtain ⟨covered, bare⟩ := resetLevel_flushLost (s := supplySample s mv) up
    exact ⟨_, rfl, resetLevel_down (s := supplySample s mv) up, keeps.store rfl, keeps.cf rfl, covered, bare⟩
  · exact next_congr (if_pos down)
  · obtain ⟨ended, none'⟩ := flushEnd_power lost on
    exact ⟨_, rfl, ended, none', flushEnd_of_none lost on⟩
  · exact next_congr (congrArg settle (if_pos (by rw [off]; rfl)))
  · obtain ⟨w, hw⟩ : ∃ w, cfCutShort (resetLevel s) = w := ⟨_, rfl⟩
    have run : vddAoLoss s = { w with store := { w.store with queue := [], waitAck := [] }, boot := { w.boot with powered := false } } := by
      rw [← hw]
      rfl
    have cut := (cfCutShort_from (s := resetLevel s)).keeps
    have level := (resetLevel_from (s := s)).keeps
    rw [hw] at cut
    have store : w.store = s.store := (cut.store rfl).trans (level.store rfl)
    refine ⟨_, next_congr run, rfl, by rw [store], ?_, ?_, ?_, fun up => ?_⟩
    · rw [← hw]; rfl
    · rw [← hw]; rfl
    · rw [← hw]; rfl
    · exact down_congr (resetLevel_down up) (cut.power rfl) (cut.nand rfl) (cut.dram rfl) (cut.dict rfl) (cut.insts rfl)

end Sys2Proof.Supply

/-! The resets of the package: at once, after the flush they start, or after the one that runs (R370 to R376). -/
namespace Sys2Proof.PackageResets
open Sys2Proof Sys2Proof.Machine Sys2Proof.Effects Sys2Proof.Answers Sys2Proof.Resets Sys2Proof.PowerLoss Sys2Proof.Supply

/-- A sleep entry that is undone leaves the rest of the power state. -/
theorem sleepUndo_frame (s : State) : ∃ entry erasing, (sleepUndo s).power = { s.power with entry := entry, copyErasing := erasing } ∧
    Keeps 4402341478402 s (sleepUndo s) := by
  have keeps : Keeps 4402341478402 s (sleepUndo s) := sleepUndo_from.keeps
  cases h : s.power.entry with
  | none => exact ⟨s.power.entry, s.power.copyErasing, by rw [sleepUndo_of_none h], keeps⟩
  | some e =>
    refine ⟨none, s.power.copyErasing || e.copied, ?_, keeps⟩
    simp only [sleepUndo, h]
    rfl

theorem railsUp_sleepUndo (s : State) : railsUp (sleepUndo s) = railsUp s := by
  obtain ⟨entry, erasing, power, keeps⟩ := sleepUndo_frame s
  simp only [railsUp, power, keeps.nand rfl]

-- ===== what a reset leaves of the answers =====

theorem hubRestart_resp (s : State) : (hubRestart s).miowa.resp = s.miowa.resp := by
  have gone : (orphanCmds (abandon s (fun _ => true)) (functions (abandon s (fun _ => true)))).miowa = s.miowa :=
    ((orphanCmds_from ..).keeps.miowa rfl).trans ((abandon_from ..).keeps.miowa rfl)
  obtain ⟨u, run, resp⟩ : ∃ u, hubRestart s = driveWake (pairRestart (dropRelocs u)) ∧
      u.miowa.resp = (orphanCmds (abandon s (fun _ => true)) (functions (abandon s (fun _ => true)))).miowa.resp := ⟨_, rfl, rfl⟩
  have after : (hubRestart s).miowa = u.miowa := by
    rw [run]
    exact (dropRelocs_from (s := u)).keeps.miowa rfl
  rw [after, resp, gone]

theorem managementResetNow_resp (s : State) : (managementResetNow s).miowa.resp = s.miowa.resp := by
  obtain ⟨r, hr, -⟩ := restart_fresh s 8
  have resp : r.miowa.resp = s.miowa.resp := by
    rw [hr, (replayFlush_from ..).keeps.miowa rfl, hubRestart_resp, (serviceEnd_from ..).keeps.miowa rfl, (tally_from ..).keeps.miowa rfl]
  obtain ⟨u, hu⟩ : ∃ u : State, u = bootSelect { r with power := { r.power with step := 2, good := 2, fault := false, down := false },
                                                        wdt := { r.wdt with kicks := [], expired := false, deferred := false } } := ⟨_, rfl⟩
  have after : u.miowa = r.miowa := hu ▸ (bootSelect_from ..).keeps.miowa rfl
  have run : managementResetNow s = if u.boot.recovery then u else { u with power := { u.power with step := 3 } } := by
    simp only [managementResetNow, ← hr, ← hu]
  have same : (managementResetNow s).miowa = u.miowa := by
    rw [run]
    split <;> rfl
  rw [same, after, resp]

-- ===== a reset with its flush (R371) =====

section WithFlush
variable {s : State} (code : Nat)

theorem resetWithFlush_of_flush (on : s.power.flushActive = true) (entry : s.power.entry = none) :
    resetWithFlush s code = { s with power := { s.power with afterFlush := Nat.max s.power.afterFlush code } } := by
  simp only [resetWithFlush, sleepUndo_of_none entry, on, if_true]

/-- With the rails up the flush begins, and the reset waits for its end. -/
theorem resetWithFlush_of_up (off : s.power.flushActive = false) (up : railsUp s = true) :
    FlushBegins s (resetWithFlush s code) ∧ (resetWithFlush s code).power.afterFlush = code ∧ (resetWithFlush s code).wdt = s.wdt ∧
      (resetWithFlush s code).miowa = s.miowa := by
  obtain ⟨entry, erasing, power, keeps⟩ := sleepUndo_frame s
  obtain ⟨w, hw⟩ : ∃ w : State, w = { sleepUndo s with power := { (sleepUndo s).power with afterFlush := code } } := ⟨_, rfl⟩
  have still : (sleepUndo s).power.flushActive = false := by
    rw [power]
    exact off
  have run : resetWithFlush s code = flushStart w := by
    rw [hw]
    simp only [resetWithFlush, still, railsUp_sleepUndo, up, Bool.false_eq_true, if_false, if_true]
  obtain ⟨begins, -, after⟩ := flushStart_begins (s := w) (by rw [hw]; exact still)
  have flush := (flushStart_from (s := w)).keeps
  rw [run]
  refine ⟨flushBegins_congr begins ?_ ?_ ?_ ?_, ?_, ?_, ?_⟩
  · rw [hw]; exact keeps.clk rfl
  · rw [hw]; exact keeps.store rfl
  · rw [hw]; exact keeps.boot rfl
  · rw [hw, power]
  · rw [after, hw]
  · rw [flush.wdt rfl, hw]; exact keeps.wdt rfl
  · rw [flush.miowa rfl, hw]; exact keeps.miowa rfl

theorem resetWithFlush_of_down (off : s.power.flushActive = false) (down : railsUp s = false) :
    resetWithFlush s code = if code = 8 then managementResetNow (sleepUndo s) else watchdogReset (sleepUndo s) := by
  obtain ⟨entry, erasing, power, -⟩ := sleepUndo_frame s
  have still : (sleepUndo s).power.flushActive = false := by
    rw [power]
    exact off
  simp only [resetWithFlush, still, railsUp_sleepUndo, down, Bool.false_eq_true, if_false]

end WithFlush

/-- A management reset leaves what has been answered. -/
theorem resetWithFlush_resp (s : State) : (resetWithFlush s 8).miowa.resp = s.miowa.resp := by
  obtain ⟨entry, erasing, power, keeps⟩ := sleepUndo_frame s
  have same : (sleepUndo s).miowa = s.miowa := keeps.miowa rfl
  cases on : s.power.flushActive with
  | true =>
    have still : (sleepUndo s).power.flushActive = true := by
      rw [power]
      exact on
    simp only [resetWithFlush, still, if_true]
    rw [same]
  | false =>
    cases up : railsUp s with
    | true =>
      obtain ⟨-, -, -, miowa⟩ := resetWithFlush_of_up 8 on up
      rw [miowa]
    | false => rw [resetWithFlush_of_down 8 on up, if_pos rfl, managementResetNow_resp, same]

-- ===== MANAGEMENT_RESET =====

theorem managementReset_of_ok {s : State} {a : Access} {r : Row} {key : Nat} (found : lookup s a.path 0x7200 3 a.inst = .ok (r, key))
    (good : r.check 1 = 0) : managementReset s a = resetWithFlush (respond s a.path 2 a.tag a.cid 0x7200 3 (.code 0) 0 []) 8 := by
  simp only [managementReset, found, accessWrite_of_ok _ found good]

theorem managementReset_of_error {s : State} {a : Access} {e : Nat} (missing : lookup s a.path 0x7200 3 a.inst = .error e) :
    managementReset s a = respond s a.path 2 a.tag a.cid 0x7200 3 (.code e) 0 [] := by
  simp only [managementReset, missing, accessWrite]

-- ===== the watchdog (R375, R376) =====

theorem watchdogExpiry_of_none {s : State} (m : Nat)
    (h : vb s K.wdtEnable = false ∨ 2 ≤ s.power.state ∨ s.power.flushActive = true ∨ s.wdt.deferred = true) : watchdogExpiry s m = s := by
  refine if_pos ?_
  simpa only [Bool.or_eq_true, Bool.not_eq_true', decide_eq_true_eq, or_assoc] using h

/-- The watchdog has expired: who missed is noted, and the heartbeat of a pair stops. -/
def expired (s : State) (m : Nat) : State :=
  { setV s K.wdtLastStalled (m % 2 ^ 17) with wdt := { s.wdt with expired := true }, pair := { s.pair with hbOut := s.pair.hbOut && !s.pair.enabled } }

/-- The expiry takes effect: its event, and no deferral any more. -/
def going (s : State) : State :=
  { event s Ev.watchdogExpiry [v s K.wdtLastStalled, 0] with wdt := { (event s Ev.watchdogExpiry [v s K.wdtLastStalled, 0]).wdt with deferred := false } }

theorem watchdogExpiry_of_on {s : State} (m : Nat) (on : vb s K.wdtEnable = true) (awake : s.power.state < 2) (off : s.power.flushActive = false)
    (first : s.wdt.deferred = false) : watchdogExpiry s m = if cfSectorBusy s then
      bump32 { expired s m with wdt := { (expired s m).wdt with deferred := true, deferredNs := s.clk.nowNs } } K.wdtDeferrals
    else resetWithFlush (going (expired s m)) 7 := by
  have runs : ¬ (!vb s K.wdtEnable || decide (s.power.state ≥ 2) || s.power.flushActive || s.wdt.deferred) = true := by
    rw [on, decide_eq_false (Nat.not_le.2 awake), off, first]
    exact Bool.false_ne_true
  unfold watchdogExpiry
  rw [if_neg runs]
  rfl

theorem going_frame (s : State) (m : Nat) : going (expired s m) = { s with
    dict := (going (expired s m)).dict, recd := (going (expired s m)).recd, wdt := { s.wdt with expired := true, deferred := false },
    pair := { s.pair with hbOut := s.pair.hbOut && !s.pair.enabled } } := by
  have keeps : Keeps 258 (expired s m) (event (expired s m) Ev.watchdogExpiry [v (expired s m) K.wdtLastStalled, 0]) := (event_from ..).keeps
  unfold going
  generalize event (expired s m) Ev.watchdogExpiry [v (expired s m) K.wdtLastStalled, 0] = u at keeps ⊢
  rw [show u = merge 258 (expired s m) u from keeps]
  rfl

/-- Settles O52: a reset of the package takes effect at once, after the flush it starts, or after the one that runs. -/
theorem packageResets : Obligations.package_resets := by
  refine fun s => ⟨fun fw off entry => ?_, fun fw on => ?_, fun a allowed => ?_, fun a e missing => ?_, fun k => rfl, fun m h => ?_,
    fun m on awake off first => ?_⟩
  · have run : nvmSubsystemReset s = subsystemResetNow s := by
      simp only [nvmSubsystemReset, fw, off, sleepUndo_of_none entry, ne_eq, not_true_eq_false, Bool.false_eq_true, if_false]
    exact ⟨_, next_congr (congrArg settle run), subsystemResetNow_effect fw⟩
  · refine next_congr (congrArg settle ?_)
    simp only [nvmSubsystemReset, fw, on, ne_eq, not_true_eq_false, if_false, if_true]
  · obtain ⟨r, key, found, good⟩ := allowed
    obtain ⟨w, hw⟩ : ∃ w, w = respond s a.path 2 a.tag a.cid 0x7200 3 (.code 0) 0 [] := ⟨_, rfl⟩
    have keeps : Keeps 1276773954 s w := hw ▸ (respond_from ..).keeps
    have answered : Answered w a.path 2 a.tag 0 [] := hw ▸ respond_answered ..
    have answered' (u : State) (h : u.miowa.resp = w.miowa.resp) : Answered u a.path 2 a.tag 0 [] := by
      rw [Answered, h]
      exact answered
    have run : managementReset s a = resetWithFlush w 8 := hw ▸ managementReset_of_ok found good
    have power : w.power = s.power := keeps.power rfl
    refine ⟨_, next_congr (congrArg settle run), ?_, fun entry on => ?_, fun off up => ?_, fun off down => ?_⟩
    · exact answered' _ (resetWithFlush_resp w)
    · rw [resetWithFlush_of_flush 8 (by rw [power]; exact on) (by rw [power]; exact entry), power]
    · obtain ⟨begins, after, -⟩ := resetWithFlush_of_up (s := w) 8 (by rw [power]; exact off) (by rw [railsUp, power, keeps.nand rfl]; exact up)
      exact ⟨flushBegins_congr begins (keeps.clk rfl) (keeps.store rfl) (keeps.boot rfl) (by rw [power]), after⟩
    · have now := resetWithFlush_of_down (s := w) 8 (by rw [power]; exact off) (by rw [railsUp, power, keeps.nand rfl]; exact down)
      rw [if_pos rfl] at now
      obtain ⟨fresh, wdt, rest⟩ := managementResetNow_fresh now
      obtain ⟨good', step, fault, down'⟩ := rest
      refine ⟨hubRestarted_of_fresh fresh wdt, good', step, fault, down', ?_⟩
      exact congrArg (fun x : Store => x.journal) (((resetWithFlush_from (s := w) 8).keeps.store rfl).trans (keeps.store rfl))
  · have run := managementReset_of_error missing
    exact ⟨_, next_congr (congrArg settle run), respond_answered .., respond_onlyAnswered ..⟩
  · exact next_congr (congrArg settle (watchdogExpiry_of_none m h))
  · have run := watchdogExpiry_of_on m on awake off first
    have frame := going_frame s m
    obtain ⟨w, hw⟩ : ∃ w, w = going (expired s m) := ⟨_, rfl⟩
    rw [← hw] at frame run
    cases busy : cfSectorBusy s with
    | true =>
      rw [busy, if_pos rfl] at run
      refine ⟨_, next_congr (congrArg settle run), fun _ => ⟨rfl, ?_, ?_, rfl, rfl⟩, fun h => ?_, fun h => ?_⟩
      · exact (v_setV_ne _ _ (by decide)).trans (v_setV_self ..)
      · refine (v_setV_self ..).trans (congrArg (satAdd 32 · 1) ?_)
        exact (v_setV_ne s _ (by decide))
      · cases h
      · cases h
    | false =>
      rw [busy, if_neg Bool.false_ne_true] at run
      have power : w.power = s.power := by rw [frame]
      have nand : w.nand = s.nand := by rw [frame]
      have rails : railsUp w = railsUp s := by rw [railsUp, power, nand, ← railsUp]
      have wdt : w.wdt = { s.wdt with expired := true, deferred := false } := by rw [frame]
      refine ⟨_, next_congr (congrArg settle run), fun h => ?_, fun _ up => ?_, fun _ down => ?_⟩
      · cases h
      · obtain ⟨begins, after, still, -⟩ := resetWithFlush_of_up (s := w) 7 (by rw [power]; exact off) (by rw [rails]; exact up)
        exact ⟨flushBegins_congr begins (by rw [frame]) (by rw [frame]) (by rw [frame]) (by rw [power]), after, still.trans wdt⟩
      · have now := resetWithFlush_of_down (s := w) 7 (by rw [power]; exact off) (by rw [rails]; exact down)
        rw [if_neg (by decide)] at now
        obtain ⟨-, -, -, keeps⟩ := sleepUndo_frame w
        obtain ⟨fresh, after⟩ := watchdogReset_fresh (sleepUndo w)
        rw [keeps.wdt rfl, wdt] at after
        rw [now]
        exact ⟨hubRestarted_of_fresh fresh (by rw [after]), after⟩

end Sys2Proof.PackageResets

/-! Rails come up in order and a rail fault takes them down; sleep and wake; power-on (R343 to R354, R372). -/
namespace Sys2Proof.Rails
open Sys2Proof Sys2Proof.Machine Sys2Proof.Effects Sys2Proof.Answers Sys2Proof.Resets Sys2Proof.PowerLoss

-- ===== the trace rests on itself =====

theorem pushEntry_trace_congr {s t : State} (h : t.trace = s.trace) : (pushEntry t).trace = (pushEntry s).trace := by
  have eq (u : State) : (pushEntry u).trace = { u.trace with
      fifo := (if decide (u.trace.fifo.length ≥ 8192) then u.trace.fifo.drop 1 else u.trace.fifo) ++
        [⟨(u.trace.cur ++ List.replicate 7 0).take 7, 4 * u.trace.cur.length, u.trace.curFirst, u.trace.nextSeq⟩],
      cur := [], curFirst := 0xFF, nextSeq := (u.trace.nextSeq + 1) % 65536 } := by
    simp only [pushEntry]
    split <;> rfl
  rw [eq, eq, h]

theorem traceWord_trace_congr {s t : State} (header : Bool) (w : Nat) (h : t.trace = s.trace) :
    (traceWord t header w).trace = (traceWord s header w).trace := by
  simp only [traceWord, h]
  split
  · exact pushEntry_trace_congr rfl
  · rfl

theorem traceItem_trace_congr {s t : State} (source kind arg : Nat) (ws : List Nat) (h : t.trace = s.trace)
    (sources : v t K.traceSources = v s K.traceSources) : (traceItem t source kind arg ws).trace = (traceItem s source kind arg ws).trace := by
  have fold (l : List Nat) (a b : State) (e : a.trace = b.trace) :
      (l.foldl (fun s w => traceWord s false w) a).trace = (l.foldl (fun s w => traceWord s false w) b).trace := by
    induction l generalizing a b with
    | nil => exact e
    | cons w l ih => exact ih _ _ (traceWord_trace_congr false w e)
  simp only [traceItem, sources]
  split
  · exact fold _ _ _ (traceWord_trace_congr true _ h)
  · exact h

-- ===== power-on (R372) =====

theorem runSlot_powered (s : State) (slot : Nat) : (runSlot s slot).boot.powered = s.boot.powered := by
  cases h : slotMarker s slot with
  | none => simp only [runSlot, h, setV_boot]
  | some x =>
    simp only [runSlot, h, setV_boot]
    split
    · rfl
    · exact congrArg Boot.powered ((putMarker_from ..).keeps.boot rfl)

theorem bootTry_powered (ab : Option Nat) (l : List Nat) (s : State) : (bootTry s ab l).boot.powered = s.boot.powered := by
  induction l generalizing s with
  | nil => rfl
  | cons slot l ih =>
    have noted (u : State) (ev : Nat) (args : List Nat) : (event u ev args).boot = u.boot := (event_from ..).keeps.boot rfl
    simp only [bootTry]
    split
    · cases ab with
      | none => exact runSlot_powered s slot
      | some q =>
        simp only [noted]
        exact runSlot_powered _ slot
    · rw [ih, noted]

theorem bootSelect_powered (s : State) : (bootSelect s).boot.powered = s.boot.powered := by
  simp only [bootSelect]
  rw [bootTry_powered]

/-- The state before the entries are loaded: what power-on sets by itself. -/
def repowered (s : State) : State := { s with
    clk := { State.reset.clk with crystalOk := s.clk.crystalOk, refAOk := s.clk.refAOk, refBOk := s.clk.refBOk,
                                  keptNs := if s.clk.calSet then s.clk.calNs else s.clk.keptNs }
    genNow := 0, gens := [], reserved := [], staged := []
    recd := { s.recd with staging := s.recd.flushed, flushed := [], compactWait := [], compactErasing := false, hold := [], frozen := false,
                          thawedFull := false, winA := Window.atReset, winB := Window.atReset, snaps := [] }
    portA := { Port.atReset with subsysVid := s.portA.subsysVid, subsysId := s.portA.subsysId }
    portB := { Port.atReset with subsysVid := s.portB.subsysVid, subsysId := s.portB.subsysId }
    wakeLow := false, lastCqe := [], hostOut := [], barRead := [], msix := []
    thermal := Thermal.atReset, wdt := { kicks := [], deferred := false, deferredNs := 0, expired := false }
    power := { Power.atReset with flushLost := s.power.flushLost }
    cf := { s.cf with queue := [], waiting := [], run0 := none, run1 := none, completions := [], pwWords := [], pwFails := 0, unlocked := [] }
    boot := { s.boot with powered := true, service := false, servicePath := none, challenge := none, svcFails := 0 } }

/-- The entries, the numbering and the pools, from the dictionary that stands. -/
def reloaded (s : State) (pos : Nat) (d : Bool) : State :=
  let s := pinAll (restartInsts (renumber (timeBaseUpdate (loadEntries s d))))
  let s := { s with
    nand := { s.nand with times := domOf s K.nandTimes, levelMap := domOf s K.readLevelMap, metaBlocks := v s K.metaBlocksPerDie,
                          flushBlocks := v s K.flushBlocksPerDie }
    dram := { Dram.atReset with masks := s.dram.masks }
    boot := { s.boot with attestAlg := v s K.attestSigAlg } }
  poolSetup (pairPowerOn s pos d)

/-- The counts of power-on, the end of service mode, the data that was lost and the boot. -/
def booted (s : State) (service : Bool) : State :=
  let s := setV (tally s 1) K.powerOns (satAdd 32 (v s K.powerOns) 1)
  let s := if service then event s Ev.serviceEnd [3] else s
  bootSelect (replayFlush s)

theorem powerOn_eq (s : State) (pos : Nat) (d : Bool) : ∃ w u : State, w = (if s.boot.powered then vddAoLoss s else s) ∧
    u = booted (reloaded (repowered (hubRestart w)) pos d) w.boot.service ∧
    powerOn s pos d = if u.boot.recovery then u else { u with power := { u.power with step := 3 } } := by
  obtain ⟨w, hw⟩ : ∃ w, w = if s.boot.powered then vddAoLoss s else s := ⟨_, rfl⟩
  obtain ⟨u, hu⟩ : ∃ u, u = booted (reloaded (repowered (hubRestart w)) pos d) w.boot.service := ⟨_, rfl⟩
  refine ⟨w, u, hw, hu, ?_⟩
  unfold powerOn
  rw [← hw]
  simp only [booted, reloaded, repowered] at hu
  simp only [← hu]

/-- The entries and the numbering, before what rests on them. -/
theorem loaded_frame (s : State) (d : Bool) : Keeps 17493414560195 s (pinAll (restartInsts (renumber (timeBaseUpdate (loadEntries s d))))) ∧
    ∃ x, (pinAll (restartInsts (renumber (timeBaseUpdate (loadEntries s d))))).clk = { s.clk with source := x } := by
  have load := (loadEntries_from (s := s) d).keeps
  have base := (timeBaseUpdate_from (s := loadEntries s d)).keeps
  have number := (renumber_from (s := timeBaseUpdate (loadEntries s d))).keeps
  have insts := (restartInsts_from (s := renumber (timeBaseUpdate (loadEntries s d)))).keeps
  have pin := (pinAll_from (s := restartInsts (renumber (timeBaseUpdate (loadEntries s d))))).keeps
  refine ⟨((((load.weaken rfl).trans (base.weaken rfl)).trans (number.weaken rfl)).trans (insts.weaken rfl)).trans (pin.weaken rfl),
    (timeBasePick (loadEntries s d)), ?_⟩
  rw [pin.clk rfl, insts.clk rfl, number.clk rfl, ← load.clk rfl]
  rfl

/-- The parts that the reload of the entries changes. -/
theorem reloaded_frame (s : State) (pos : Nat) (d : Bool) : Keeps 17493414560195 s (reloaded s pos d) ∧
    (∃ x, (reloaded s pos d).clk = { s.clk with source := x }) ∧ (reloaded s pos d).power = s.power ∧
    (reloaded s pos d).boot.powered = s.boot.powered ∧ ∃ x : State, (reloaded s pos d).pair = (pairPowerOn x pos d).pair := by
  have power : (pinAll (restartInsts (renumber (timeBaseUpdate (loadEntries s d))))).power = s.power := by
    rw [(pinAll_from ..).keeps.power rfl, (restartInsts_from ..).keeps.power rfl, (renumber_from ..).keeps.power rfl,
      (timeBaseUpdate_from ..).keeps.power rfl, (loadEntries_from ..).keeps.power rfl]
  have boot : (pinAll (restartInsts (renumber (timeBaseUpdate (loadEntries s d))))).boot = s.boot := by
    rw [(pinAll_from ..).keeps.boot rfl, (restartInsts_from ..).keeps.boot rfl, (renumber_from ..).keeps.boot rfl,
      (timeBaseUpdate_from ..).keeps.boot rfl, (loadEntries_from ..).keeps.boot rfl]
  obtain ⟨frame, src, clk⟩ := loaded_frame s d
  unfold reloaded
  generalize pinAll (restartInsts (renumber (timeBaseUpdate (loadEntries s d)))) = l at *
  obtain ⟨x, hx⟩ : ∃ x : State, x = { l with
    nand := { l.nand with times := domOf l K.nandTimes, levelMap := domOf l K.readLevelMap, metaBlocks := v l K.metaBlocksPerDie,
                          flushBlocks := v l K.flushBlocksPerDie }
    dram := { Dram.atReset with masks := l.dram.masks }
    boot := { l.boot with attestAlg := v l K.attestSigAlg } } := ⟨_, rfl⟩
  simp only [← hx]
  have mid : Keeps 17493414560195 l x := by
    rw [hx]
    exact Keeps.leaf (c := 1271310319616) rfl rfl
  have paired := (pairPowerOn_from (s := x) pos d).keeps
  have pools := (poolSetup_from (s := pairPowerOn x pos d)).keeps
  refine ⟨((frame.trans mid).trans (paired.weaken rfl)).trans (pools.weaken rfl), ⟨src, ?_⟩, ?_, ?_, x, pools.pair rfl⟩
  · rw [pools.clk rfl, paired.clk rfl, hx, ← clk]
  · rw [pools.power rfl, paired.power rfl, hx, ← power]
  · rw [pools.boot rfl, paired.boot rfl, hx, ← boot]

/-- The parts that the boot changes. -/
theorem booted_frame (s : State) (service : Bool) : Keeps 17493414560194 s (booted s service) ∧
    (booted s service).power = { s.power with flushLost := [] } ∧ (booted s service).boot.powered = s.boot.powered ∧
    (booted s service).pair = s.pair := by
  obtain ⟨a, ha⟩ : ∃ a, a = setV (tally s 1) K.powerOns (satAdd 32 (v s K.powerOns) 1) := ⟨_, rfl⟩
  have first : Keeps 2 s a := by
    rw [ha]
    exact (From.step (setV_from ..) (tally_from (s := s) 1) rfl).keeps
  obtain ⟨b, hb⟩ : ∃ b, b = if service then event a Ev.serviceEnd [3] else a := ⟨_, rfl⟩
  have second : Keeps 258 s b := by
    rw [hb]
    split
    · exact (first.weaken rfl).trans (event_from ..).keeps
    · exact first.weaken rfl
  have run : booted s service = bootSelect (replayFlush b) := by
    simp only [booted, ← ha, ← hb]
  have replay := (replayFlush_from (s := b)).keeps
  have boot := (bootSelect_from (s := replayFlush b)).keeps
  obtain ⟨power, -⟩ := replayFlush_power b
  rw [run]
  refine ⟨((second.weaken rfl).trans (replay.weaken rfl)).trans (boot.weaken rfl), ?_, ?_, ?_⟩
  · rw [boot.power rfl, power, second.power rfl]
  · rw [bootSelect_powered, replay.boot rfl, second.boot rfl]
  · rw [boot.pair rfl, replay.pair rfl, second.pair rfl]

/-- After power-on, of what its statement names. -/
theorem powerOn_effect (s : State) (pos : Nat) (d : Bool) : let t := powerOn s pos d
    t.genNow = 0 ∧ t.staged = [] ∧ t.sqs = [] ∧ t.cqs = [] ∧ t.thermal = Thermal.atReset ∧ t.wdt = State.reset.wdt ∧
    t.clk = { State.reset.clk with crystalOk := s.clk.crystalOk, refAOk := s.clk.refAOk, refBOk := s.clk.refBOk, source := t.clk.source, keptNs := t.clk.keptNs } ∧
    t.clk.keptNs = (if s.clk.calSet then s.clk.calNs else s.clk.keptNs) ∧
    t.power = { Power.atReset with step := if t.boot.recovery then 2 else 3 } ∧ t.boot.powered = true ∧ t.pair.position = pos % 2 ∧
    (t.pair.enabled = true → d = true) ∧ t.pair.state = (if t.pair.enabled then 1 else 0) ∧ t.pair.fenceOut = false := by
  obtain ⟨w, u, hw, hu, run⟩ := powerOn_eq s pos d
  have clk : w.clk = s.clk := by
    rw [hw]
    split
    · exact vddAoLoss_from.keeps.clk rfl
    · rfl
  have fresh := hubRestart_fresh w
  have hub : (hubRestart w).clk = s.clk := (hubRestart_from.keeps.clk rfl).trans clk
  generalize hubRestart w = h at fresh hub hu
  obtain ⟨load, ⟨src, lclk⟩, lpower, lboot, x, lpair⟩ := reloaded_frame (repowered h) pos d
  generalize reloaded (repowered h) pos d = l at *
  obtain ⟨boot, bpower, bpowered, bpair⟩ := booted_frame l w.boot.service
  rw [← hu] at boot bpower bpowered bpair
  have uclk : u.clk = { (repowered h).clk with source := src } := (boot.clk rfl).trans lclk
  have upower : u.power = Power.atReset := by
    rw [bpower, lpower]
    rfl
  have upowered : u.boot.powered = true := bpowered.trans lboot
  have upair : u.pair = (pairPowerOn x pos d).pair := bpair.trans lpair
  have both := load.trans (boot.weaken rfl)
  have genNow : u.genNow = 0 := both.genNow rfl
  have staged : u.staged = [] := both.staged rfl
  have sqs : u.sqs = [] := (both.sqs rfl).trans fresh.sqs
  have cqs : u.cqs = [] := (both.cqs rfl).trans fresh.cqs
  have thermal : u.thermal = Thermal.atReset := both.thermal rfl
  have wdt : u.wdt = State.reset.wdt := both.wdt rfl
  have pair : u.pair.position = pos % 2 ∧ (u.pair.enabled = true → d = true) ∧ u.pair.state = (if u.pair.enabled then 1 else 0) ∧
      u.pair.fenceOut = false := by
    rw [upair]
    exact ⟨rfl, fun on => (Bool.and_eq_true_iff.1 on).1, rfl, rfl⟩
  have clock : u.clk = { State.reset.clk with crystalOk := s.clk.crystalOk, refAOk := s.clk.refAOk, refBOk := s.clk.refBOk, source := src,
                                              keptNs := if s.clk.calSet then s.clk.calNs else s.clk.keptNs } := by
    rw [uclk, ← hub]
    rfl
  intro t
  cases rec' : u.boot.recovery with
  | true =>
    rw [rec', if_pos rfl] at run
    rw [show t = u from run]
    exact ⟨genNow, staged, sqs, cqs, thermal, wdt, by rw [clock], by rw [clock], by rw [upower, rec']; rfl, upowered, pair⟩
  | false =>
    rw [rec', if_neg Bool.false_ne_true] at run
    rw [show t = _ from run]
    refine ⟨genNow, staged, sqs, cqs, thermal, wdt, ?_, ?_, ?_, upowered, pair⟩
    · show u.clk = _
      rw [clock]
    · show u.clk.keptNs = _
      rw [clock]
    · show { u.power with step := 3 } = _
      rw [upower]
      exact congrArg (fun x => { Power.atReset with step := x }) (show (3 : Nat) = if u.boot.recovery then 2 else 3 by rw [rec']; rfl)

end Sys2Proof.Rails

/-! The rail sequence and its faults; sleep entries, their commit, and wakes (R343 to R353). -/
namespace Sys2Proof.Sleep
open Sys2Proof Sys2Proof.Machine Sys2Proof.Effects Sys2Proof.Answers Sys2Proof.Resets Sys2Proof.PowerLoss Sys2Proof.Rails
  Sys2Proof.PackageResets

-- ===== rail faults (R345) =====

theorem railFaultAt_fault {s : State} (rail : Nat) (up : s.power.down = false) : RailFault s (railFaultAt s rail) rail := by
  obtain ⟨e, he⟩ : ∃ e, event s Ev.railFault [rail, 0x03] = e := ⟨_, rfl⟩
  have noted : Keeps 258 s e := he ▸ (event_from ..).keeps
  have upe : e.power.down = false := by
    rw [noted.power rfl]
    exact up
  have level := (resetLevel_from (s := e)).keeps
  obtain ⟨down, step, good, flush, entry, nand, dram, state, insts⟩ := resetLevel_down upe
  have quiet (zones : s.zones = []) (flights : s.flights = []) (off : s.power.flushActive = false) : (resetLevel e).recd = e.recd :=
    resetLevel_recd upe ((noted.zones rfl).trans zones) ((noted.flights rfl).trans flights) (by rw [noted.power rfl]; exact off)
  unfold railFaultAt
  rw [he]
  generalize resetLevel e = r at *
  refine ⟨rfl, ⟨rfl, rfl, rfl, flush, entry, nand, dram, state, insts⟩, (level.clk rfl).trans (noted.clk rfl),
    (level.store rfl).trans (noted.store rfl), (level.cf rfl).trans (noted.cf rfl), fun zones flights off => ?_⟩
  exact recorded_congr (event_recorded s Ev.railFault [rail, 3]) rfl rfl ((quiet zones flights off).trans (he ▸ rfl))

theorem sequencing_up {s : State} (h : sequencing s = true) : s.power.down = false := by
  simp only [sequencing, Bool.and_eq_true, Bool.not_eq_true'] at h
  exact h.1.1.2

-- ===== entries set in a row =====

theorem foldl_setV_onlyEntries (l : List Nat) (key x : Nat → Nat) (s : State) :
    OnlyEntries s (l.foldl (fun s i => setV s (key i) (x i)) s) (l.map key) := by
  induction l generalizing s with
  | nil => exact onlyEntries_refl _ _
  | cons i l ih => exact onlyEntries_append (ks := [key i]) (onlyEntries_setV _ _ _) (ih _)

theorem foldl_setV_get (l : List Nat) (key x : Nat → Nat) (inj : ∀ i j, key i = key j → i = j) (s : State) {i : Nat} (h : i ∈ l) :
    v (l.foldl (fun s i => setV s (key i) (x i)) s) (key i) = x i := by
  induction l generalizing s with
  | nil => cases h
  | cons j l ih =>
    by_cases later : i ∈ l
    · exact ih _ later
    · have here : i = j := (List.mem_cons.1 h).resolve_right later
      subst here
      rw [List.foldl_cons, foldl_setV_onlyEntries l key x _ (key i), v_setV_self]
      intro m
      obtain ⟨k, hk, eq⟩ := List.mem_map.1 m
      exact later (inj _ _ eq ▸ hk)

theorem foldl_setV_frame (l : List Nat) (key x : Nat → Nat) (s : State) :
    l.foldl (fun s i => setV s (key i) (x i)) s = { s with dict := (l.foldl (fun s i => setV s (key i) (x i)) s).dict } := by
  induction l generalizing s with
  | nil => rfl
  | cons i l ih => rw [List.foldl_cons, ih, setV]

theorem unitKey_inj (k : Nat) (i j : Nat) (h : unitKey k i = unitKey k j) : i = j := by
  simp only [unitKey] at h
  omega

-- ===== the rail sequence (R343, R344) =====

theorem powerGood_of_next {s : State} {step : Nat} (on : sequencing s = true) (next' : step = s.power.good + 1) (low : step ≤ 7) :
    (sequencing s && step == s.power.good + 1 && decide (step ≤ 7)) = true := by
  rw [on, beq_iff_eq.2 next', decide_eq_true low]
  rfl

theorem powerGood_of_none {s : State} {step : Nat} (h : sequencing s = false ∨ step ≠ s.power.good + 1 ∨ 7 < step) :
    (sequencing s && step == s.power.good + 1 && decide (step ≤ 7)) = false := by
  rcases h with h | h | h
  · rw [h, Bool.false_and, Bool.false_and]
  · rw [beq_eq_false_iff_ne.2 h, Bool.and_false, Bool.false_and]
  · rw [decide_eq_false (Nat.not_le.2 h), Bool.and_false]

/-- With step 4 every VDD_CORE is requested at 750 mV. -/
theorem powerGood_effect {s : State} {step : Nat} (on : sequencing s = true) (next' : step = s.power.good + 1) (low : step ≤ 7) :
    let t := powerGood s step
    t.power.good = step ∧ t.power.step = Nat.min 7 (step + 1) ∧ t = { s with dict := t.dict, power := t.power } ∧
      (step = 4 → t.power.request = [750, 750, 750, 750, 750] ∧ ∀ i < 5, v t (unitKey K.coreMv i) = 750) ∧ (step ≠ 4 → t.dict = s.dict) := by
  have goes := powerGood_of_next on next' low
  by_cases four : step = 4
  · have run : powerGood s step = (List.range 5).foldl (fun s i => setV s (unitKey K.coreMv i) 750) { s with power := { s.power with
        good := step, step := Nat.min 7 (step + 1), request := [750, 750, 750, 750, 750] } } := by
      rw [powerGood, if_pos goes]
      exact if_pos four
    have frame := foldl_setV_frame (List.range 5) (unitKey K.coreMv) (fun _ => 750) { s with power := { s.power with
        good := step, step := Nat.min 7 (step + 1), request := [750, 750, 750, 750, 750] } }
    have mv (i : Nat) (h : i < 5) := foldl_setV_get (List.range 5) (unitKey K.coreMv) (fun _ => 750) (unitKey_inj _) { s with power := { s.power with
        good := step, step := Nat.min 7 (step + 1), request := [750, 750, 750, 750, 750] } } (List.mem_range.2 h)
    intro t
    rw [← run] at frame mv
    have power := congrArg State.power frame
    exact ⟨by rw [power], by rw [power], by rw [power]; exact frame, fun _ => ⟨by rw [power], mv⟩, fun h => absurd four h⟩
  · have run : powerGood s step = { s with power := { s.power with good := step, step := Nat.min 7 (step + 1) } } := by
      rw [powerGood, if_pos goes]
      exact if_neg four
    intro t
    rw [show t = _ from run]
    exact ⟨rfl, rfl, rfl, fun h => absurd h four, fun _ => rfl⟩

-- ===== sleep entries (R348, R349) =====

/-- What a request asks: an entry that is neither copied nor acknowledged. -/
def asked (s : State) (x : Nat) : State := { s with power := { s.power with entry := some ⟨x, false, false⟩ } }

section Requests
variable {s : State} (x : Nat) (awake : s.power.state < 2) (none' : s.power.entry = none) (up : s.power.down = false)
  (whole : s.boot.recovery = false) (off : s.power.flushActive = false)
include awake none' up whole off

theorem sleepRequest_goes : sleepRequest s x = if belowWarning s then setV s K.sleepResult 2 else sleepProgress (asked s x) := by
  have goes : ¬ (decide (s.power.state ≥ 2) || s.power.entry.isSome || s.power.down || s.boot.recovery || s.power.flushActive) = true := by
    rw [decide_eq_false (Nat.not_le.2 awake), none', up, whole, off]
    exact Bool.false_ne_true
  rw [sleepRequest, if_neg goes]
  rfl

end Requests

theorem sleepProgress_still {s : State} {e : SleepEntry} (h : s.power.entry = some e) (still : e.copied = true ∨ sleepQuiet s = false) :
    sleepProgress s = s := by
  have stays : (sleepQuiet s && !e.copied) = false := by
    rcases still with c | b
    · rw [c, Bool.not_true, Bool.and_false]
    · rw [b, Bool.false_and]
  simp only [sleepProgress, h, stays, Bool.false_eq_true, if_false]

/-- A quiet package takes its sleep copy; a paired one then coordinates with its partner. -/
theorem sleepProgress_copies {s : State} {x : Nat} (h : s.power.entry = some ⟨x, false, false⟩) (quiet : sleepQuiet s = true) :
    ∃ w : State, w = { s with power := { s.power with entry := some ⟨x, true, false⟩ } } ∧
      sleepProgress s = if s.pair.enabled && s.pair.linkUp && mirroring w then
        { mirrorSend w 0x0A 8 0 false with pair := { (mirrorSend w 0x0A 8 0 false).pair with coordSeq := (mirrorSend w 0x0A 8 0 false).pair.seqSent } }
      else { w with power := { w.power with entry := some ⟨x, true, true⟩ } } := by
  refine ⟨_, rfl, ?_⟩
  simp only [sleepProgress, h, quiet, Bool.not_false, Bool.and_self, if_true]

theorem sleepProgress_of_busy {s : State} (x : Nat) (busy : sleepQuiet s = false) : sleepProgress (asked s x) = asked s x :=
  sleepProgress_still rfl (.inr busy)

theorem sleepProgress_of_alone {s : State} (x : Nat) (quiet : sleepQuiet s = true) (alone : s.pair.enabled = false) :
    (sleepProgress (asked s x)).power = { s.power with entry := some ⟨x, true, true⟩ } := by
  obtain ⟨w, hw, run⟩ := sleepProgress_copies (s := asked s x) rfl quiet
  have no : ¬ ((asked s x).pair.enabled && (asked s x).pair.linkUp && mirroring w) = true := by
    rw [show (asked s x).pair.enabled = false from alone]
    exact Bool.false_ne_true
  rw [run, if_neg no, hw]
  rfl

theorem sleepProgress_of_paired {s : State} (x : Nat) (quiet : sleepQuiet s = true) (pair : s.pair.enabled = true) (link : s.pair.linkUp = true)
    (mirror : mirroring s = true) : (sleepProgress (asked s x)).power = { s.power with entry := some ⟨x, true, false⟩ } ∧
      (sleepProgress (asked s x)).pair.coordSeq = s.pair.seqSent + 1 := by
  obtain ⟨w, hw, run⟩ := sleepProgress_copies (s := asked s x) rfl quiet
  have yes : ((asked s x).pair.enabled && (asked s x).pair.linkUp && mirroring w) = true := by
    rw [show (asked s x).pair.enabled = true from pair, show (asked s x).pair.linkUp = true from link, show mirroring w = true from hw ▸ mirror]
    rfl
  rw [run, if_pos yes, hw]
  exact ⟨rfl, rfl⟩

-- ===== the commit =====

/-- What sleeps, once the memory's queues are empty: the state is the target's. -/
def asleep (s : State) (x : Nat) : State := { s with
    power := { s.power with state := x, before := s.power.ps, ps := x + 1, entry := none, sleepCopy := true }
    dram := { s.dram with selfRefresh := true }
    nand := { s.nand with arrived := [] }
    pair := { s.pair with coordSeq := 0 }
    wdt := { s.wdt with kicks := [] }
    miowa := if x = 3 then { s.miowa with xfers := [] } else s.miowa }

/-- The state of sleep is traced; in Neap the FIFO is gone with the hub. -/
def traced (s : State) (x : Nat) : State :=
  let w := powerTrace (asleep s x) s.power.state
  if x = 3 then { w with trace := { w.trace with fifo := [], cur := [], curFirst := 0xFF } } else w

theorem sleepCommit_eq {s : State} {x : Nat} (h : s.power.entry = some ⟨x, true, true⟩) : sleepCommit s =
    let w := (List.range 5).foldl (fun s i => setV s (unitKey K.coreMv i) (if !decide (x = 3) ∧ i = 0 then 650 else 0)) (traced (dramDrain s) x)
    ltrAll (setV (if x = 3 then w else setV w K.bodyBiasMv (2 ^ 16 - 300)) K.sleepResult 0) := by
  have still : sleepProgress s = s := sleepProgress_still h (.inl rfl)
  unfold sleepCommit
  rw [still]
  simp only [h, Bool.and_self, if_true]
  rfl

theorem traced_frame (s : State) (x : Nat) : Keeps 514 (asleep s x) (traced s x) ∧ (x = 3 → (traced s x).trace.fifo = []) ∧
    (x ≠ 3 → s.power.state ≠ x → (traced s x).trace = (traceItem s 0x18 1 x [s.clk.tide]).trace) ∧
    OnlyEntries s (traced s x) [K.traceLost] := by
  have keeps := (powerTrace_from (s := asleep s x) s.power.state).keeps
  have item : s.power.state ≠ x → (powerTrace (asleep s x) s.power.state).trace = (traceItem s 0x18 1 x [s.clk.tide]).trace := fun ne => by
    have run : powerTrace (asleep s x) s.power.state = traceItem (asleep s x) 0x18 1 x [s.clk.tide] := if_neg ne
    rw [run]
    exact traceItem_trace_congr _ _ _ _ rfl rfl
  have entries : OnlyEntries s (powerTrace (asleep s x) s.power.state) [K.traceLost] :=
    onlyEntries_congr (Fetching.powerTrace_onlyEntries (asleep s x) s.power.state) rfl rfl
  simp only [traced]
  generalize powerTrace (asleep s x) s.power.state = w at *
  by_cases three : x = 3
  · rw [if_pos three]
    exact ⟨Keeps.trans keeps (Keeps.leaf (c := 512) rfl rfl), fun _ => rfl, fun h => absurd three h, onlyEntries_congr entries rfl rfl⟩
  · rw [if_neg three]
    exact ⟨keeps, fun h => absurd h three, fun _ => item, entries⟩

theorem sleepCommit_effect {s : State} {x : Nat} (h : s.power.entry = some ⟨x, true, true⟩) : let t := sleepCommit s
    v t K.sleepResult = 0 ∧ t.dram = { (dramDrain s).dram with selfRefresh := true } ∧ (∀ p ∈ t.dram.subs, p.2.queue = [] ∧ p.2.input = []) ∧
    t.power = { s.power with state := x, before := s.power.ps, ps := x + 1, entry := none, sleepCopy := true } ∧
    v t (unitKey K.coreMv 0) = (if x = 3 then 0 else 650) ∧ (∀ i, 1 ≤ i → i < 5 → v t (unitKey K.coreMv i) = 0) ∧
    (x = 3 → t.miowa.xfers = [] ∧ t.trace.fifo = []) ∧
    (x ≠ 3 → t.miowa = s.miowa ∧ (s.power.state ≠ x → t.trace = (traceItem s 0x18 1 x [s.clk.tide]).trace)) := by
  have drain : Keeps 137438953472 s (dramDrain s) := dramDrain_from.keeps
  have subs : ∀ p ∈ (dramDrain s).dram.subs, p.2.queue = [] ∧ p.2.input = [] := fun p hp => by
    obtain ⟨q, -, rfl⟩ := List.mem_map.1 hp
    exact ⟨rfl, rfl⟩
  have run := sleepCommit_eq h
  obtain ⟨frame, fifo, item, -⟩ := traced_frame (dramDrain s) x
  have item' : x ≠ 3 → s.power.state ≠ x → (traced (dramDrain s) x).trace = (traceItem s 0x18 1 x [s.clk.tide]).trace := fun a b => by
    rw [item a (by rw [drain.power rfl]; exact b), drain.clk rfl]
    exact traceItem_trace_congr _ _ _ _ (drain.trace rfl) (v_of_dict (drain.dict rfl) _)
  have power : (asleep (dramDrain s) x).power = { s.power with state := x, before := s.power.ps, ps := x + 1, entry := none, sleepCopy := true } := by
    rw [← drain.power rfl]
    rfl
  have miowa : (asleep (dramDrain s) x).miowa = if x = 3 then { s.miowa with xfers := [] } else s.miowa := by
    rw [← drain.miowa rfl]
    rfl
  have dram : (asleep (dramDrain s) x).dram = { (dramDrain s).dram with selfRefresh := true } := rfl
  generalize asleep (dramDrain s) x = a at *
  generalize traced (dramDrain s) x = w at *
  -- the cores' targets
  let mv (i : Nat) : Nat := if !decide (x = 3) ∧ i = 0 then 650 else 0
  have cores := foldl_setV_frame (List.range 5) (unitKey K.coreMv) mv w
  have core (i : Nat) (hi : i < 5) := foldl_setV_get (List.range 5) (unitKey K.coreMv) mv (unitKey_inj _) w (List.mem_range.2 hi)
  obtain ⟨c, hc⟩ : ∃ c, (List.range 5).foldl (fun s i => setV s (unitKey K.coreMv i) (mv i)) w = c := ⟨_, rfl⟩
  rw [hc] at cores core
  -- the bias and the result
  obtain ⟨b, hb⟩ : ∃ b, (if x = 3 then c else setV c K.bodyBiasMv (2 ^ 16 - 300)) = b := ⟨_, rfl⟩
  have bias : OnlyEntries c b [K.bodyBiasMv] ∧ Keeps 2 c b := by
    rw [← hb]
    split
    · exact ⟨onlyEntries_refl _ _, Keeps.refl _ _⟩
    · exact ⟨onlyEntries_setV _ _ _, (setV_from ..).keeps⟩
  have last : Keeps 12288 (setV b K.sleepResult 0) (ltrAll (setV b K.sleepResult 0)) := ltrAll_from.keeps
  intro t
  have eq : t = ltrAll (setV b K.sleepResult 0) := by
    rw [← hb, ← hc]
    exact run
  have entries : OnlyEntries c t [K.bodyBiasMv, K.sleepResult] := by
    rw [eq]
    exact onlyEntries_append (ks := [K.bodyBiasMv]) (ls := [K.sleepResult]) bias.1
      (onlyEntries_trans (onlyEntries_setV _ _ _) (onlyEntries_of_dict _ (last.dict rfl)))
  have rest : Keeps 12290 c t := by
    rw [eq]
    exact (bias.2.weaken rfl).trans (((setV_from (s := b) K.sleepResult 0).keeps.weaken rfl).trans (last.weaken rfl))
  have wrest : Keeps 12290 w t := Keeps.trans (by rw [cores]; exact Keeps.leaf (c := 2) rfl rfl) rest
  have arest : Keeps 12802 a t := (frame.weaken rfl).trans (wrest.weaken rfl)
  have apart (i : Nat) (hi : i < 5) : unitKey K.coreMv i ∉ [K.bodyBiasMv, K.sleepResult] := 
    (by decide : ∀ i < 5, unitKey K.coreMv i ∉ [K.bodyBiasMv, K.sleepResult]) i hi
  have tdram : t.dram = { (dramDrain s).dram with selfRefresh := true } := (arest.dram rfl).trans dram
  have ttrace : t.trace = w.trace := wrest.trace rfl
  have tmiowa := (arest.miowa rfl).trans miowa
  refine ⟨?_, tdram, ?_, (arest.power rfl).trans power, ?_, fun i low hi => ?_, fun three => ⟨?_, ?_⟩, fun other => ⟨?_, fun moved => ?_⟩⟩
  · rw [eq, v_of_dict (last.dict rfl)]
    exact v_setV_self ..
  · rw [tdram]
    exact subs
  · rw [entries _ (apart 0 (by decide)), core 0 (by decide)]
    by_cases three : x = 3 <;> simp [mv, three]
  · rw [entries _ (apart i hi), core i hi]
    exact if_neg fun both => absurd both.2 (by omega)
  · rw [tmiowa, if_pos three]
  · rw [ttrace, fifo three]
  · rw [tmiowa, if_neg other]
  · rw [ttrace, item' other moved]

-- ===== wakes (R349 to R352) =====

/-- A wake is kept with its time, and recorded. -/
theorem noteWake_effect (s : State) (src : Nat) : let t := noteWake s src
    v t K.lastWake = src ∧ v t K.lastWakeTime = time64 s ∧ Recorded s t Ev.wake [src, v s K.sleepResult] ∧
      OnlyEntries s t (K.lastWake :: K.lastWakeTime :: recordKeys) ∧ Keeps 258 s t := by
  obtain ⟨w, hw⟩ : ∃ w, setV (setV s K.lastWake src) K.lastWakeTime (time64 s) = w := ⟨_, rfl⟩
  have entries : OnlyEntries s w [K.lastWake, K.lastWakeTime] := by
    rw [← hw]
    exact onlyEntries_append (ks := [K.lastWake]) (ls := [K.lastWakeTime]) (onlyEntries_setV _ _ _) (onlyEntries_setV _ _ _)
  have last : v w K.lastWake = src := by
    rw [← hw]
    exact (v_setV_ne _ _ (by decide)).trans (v_setV_self ..)
  have time : v w K.lastWakeTime = time64 s := by
    rw [← hw]
    exact v_setV_self ..
  have keeps : Keeps 2 s w := by
    rw [← hw]
    exact (From.step (setV_from ..) (setV_from (s := s) K.lastWake src) rfl).keeps
  have run : noteWake s src = event w Ev.wake [src, v s K.sleepResult] := by
    rw [← hw]
    rfl
  have noted := event_onlyEntries w Ev.wake [src, v s K.sleepResult]
  intro t
  rw [show t = _ from run]
  refine ⟨(noted _ (by decide)).trans last, (noted _ (by decide)).trans time, ?_, ?_, (keeps.weaken rfl).trans (event_from ..).keeps⟩
  · exact recorded_congr (event_recorded w _ _) (keeps.recd rfl).symm (entries _ (by decide)).symm rfl
  · exact onlyEntries_append (ks := [K.lastWake, K.lastWakeTime]) entries noted

/-- Flood is restored from a state of sleep, before the cores' targets. -/
def awoken (s : State) : State := { s with
    power := { s.power with state := 0, ps := s.power.before, budget := s.power.before, sleepCopy := false, copyErasing := s.power.copyErasing || s.power.sleepCopy,
                            ebbIdle := false }
    dram := { s.dram with selfRefresh := false }
    wdt := { s.wdt with kicks := [] } }

/-- What is set in a row may be read from the power state, which it leaves. -/
theorem foldl_setV_power (l : List Nat) (key : Nat → Nat) (x : Power → Nat → Nat) (s : State) :
    l.foldl (fun u i => setV u (key i) (x u.power i)) s = l.foldl (fun u i => setV u (key i) (x s.power i)) s := by
  induction l generalizing s with
  | nil => rfl
  | cons i l ih => exact ih (setV s (key i) (x s.power i))

theorem wakeNow_of_asleep {s : State} (src : Nat) (none' : s.power.entry = none) (deep : 2 ≤ s.power.state) : ∃ w c b,
    w = powerTrace (awoken s) s.power.state ∧ c = (List.range 5).foldl (fun u i => setV u (unitKey K.coreMv i) (w.power.request.getD i 750)) w ∧
      b = (List.range 5).foldl (fun u i => setV u (unitKey K.bodyBiasMv i) 0) c ∧ wakeNow s src = noteWake (ltrAll b) src := by
  refine ⟨_, _, _, rfl, rfl, rfl, ?_⟩
  rw [← foldl_setV_power (List.range 5) (unitKey K.coreMv) (fun p i => p.request.getD i 750)]
  unfold wakeNow
  rw [if_neg (by rw [none']; exact Bool.false_ne_true), if_pos deep]
  rfl

theorem wake_effect {s : State} (src : Nat) (none' : s.power.entry = none) (deep : 2 ≤ s.power.state) : let u := wakeNow s src
    u.power = (awoken s).power ∧ u.dram = { s.dram with selfRefresh := false } ∧ v u K.lastWake = src ∧ v u K.lastWakeTime = time64 s ∧
      Recorded s u Ev.wake [src, v s K.sleepResult] ∧ ∀ i < 5, v u (unitKey K.coreMv i) = s.power.request.getD i 750 := by
  obtain ⟨w, c, b, hw, hc, hb, run⟩ := wakeNow_of_asleep src none' deep
  have trace : Keeps 514 (awoken s) w := hw ▸ (powerTrace_from ..).keeps
  have traced : OnlyEntries (awoken s) w [K.traceLost] := hw ▸ Fetching.powerTrace_onlyEntries _ _
  have cores : w.power = (awoken s).power := trace.power rfl
  have core (i : Nat) (hi : i < 5) : v c (unitKey K.coreMv i) = s.power.request.getD i 750 := by
    rw [hc, foldl_setV_get (List.range 5) (unitKey K.coreMv) (fun i => w.power.request.getD i 750) (unitKey_inj _) w (List.mem_range.2 hi), cores]
    rfl
  have cframe : Keeps 2 w c := by
    rw [hc, foldl_setV_frame]
    exact Keeps.leaf (c := 2) rfl rfl
  have centries : OnlyEntries w c ((List.range 5).map (unitKey K.coreMv)) := hc ▸ foldl_setV_onlyEntries _ _ _ _
  have bframe : Keeps 2 c b := by
    rw [hb, foldl_setV_frame]
    exact Keeps.leaf (c := 2) rfl rfl
  have bentries : OnlyEntries c b ((List.range 5).map (unitKey K.bodyBiasMv)) := hb ▸ foldl_setV_onlyEntries _ _ _ _
  have ltr : Keeps 12288 b (ltrAll b) := ltrAll_from.keeps
  have whole : Keeps 12802 (awoken s) (ltrAll b) :=
    (((trace.weaken rfl).trans (cframe.weaken rfl)).trans (bframe.weaken rfl)).trans (ltr.weaken rfl)
  have result : v (ltrAll b) K.sleepResult = v s K.sleepResult :=
    (v_of_dict (ltr.dict rfl) _).trans ((bentries _ (by decide)).trans ((centries _ (by decide)).trans (traced _ (by decide))))
  have severity : v (ltrAll b) K.recordMinSeverity = v s K.recordMinSeverity :=
    (v_of_dict (ltr.dict rfl) _).trans ((bentries _ (by decide)).trans ((centries _ (by decide)).trans (traced _ (by decide))))
  obtain ⟨last, time, recorded, entries, frame⟩ := noteWake_effect (ltrAll b) src
  rw [← run] at last time recorded entries frame
  rw [result] at recorded
  refine ⟨(frame.power rfl).trans (whole.power rfl), (frame.dram rfl).trans (whole.dram rfl), last, ?_, ?_, fun i hi => ?_⟩
  · rw [time, time64, whole.clk rfl]
    rfl
  · exact recorded_congr recorded (whole.recd rfl).symm severity.symm rfl
  · have apart : unitKey K.coreMv i ∉ (K.lastWake :: K.lastWakeTime :: recordKeys) ∧ unitKey K.coreMv i ∉ (List.range 5).map (unitKey K.bodyBiasMv) := by
      have each : ∀ i < 5, unitKey K.coreMv i ∉ (K.lastWake :: K.lastWakeTime :: recordKeys) ∧
          unitKey K.coreMv i ∉ (List.range 5).map (unitKey K.bodyBiasMv) := by decide
      exact each i hi
    rw [entries _ apart.1, v_of_dict (ltr.dict rfl), bentries _ apart.2, core i hi]

/-- A wake during the entry undoes it, counted. -/
theorem wake_aborts {s : State} (src : Nat) {e : SleepEntry} (h : s.power.entry = some e) : let u := wakeNow s src
    u.power = { s.power with entry := none, copyErasing := s.power.copyErasing || e.copied } ∧
      v u K.sleepResult = 1 ∧ v u K.sleepAborts = satAdd 32 (v s K.sleepAborts) 1 ∧ v u K.lastWake = src ∧ v u K.lastWakeTime = time64 s := by
  obtain ⟨w, hw⟩ : ∃ w : State, w = { s with power := { s.power with entry := none, copyErasing := s.power.copyErasing || e.copied },
                                             pair := { s.pair with coordSeq := 0 } } := ⟨_, rfl⟩
  have undo : sleepUndo s = bump32 (setV w K.sleepResult 1) K.sleepAborts := by
    rw [hw]
    simp only [sleepUndo, h]
  have run : wakeNow s src = noteWake (sleepUndo s) src := if_pos (by rw [h]; rfl)
  obtain ⟨last, time, -, entries, frame⟩ := noteWake_effect (sleepUndo s) src
  rw [← run] at last time entries frame
  refine ⟨?_, ?_, ?_, last, ?_⟩
  · rw [frame.power rfl, undo, hw]
    rfl
  · rw [entries _ (by decide), undo]
    exact (v_setV_ne _ _ (by decide)).trans (v_setV_self ..)
  · rw [entries _ (by decide), undo]
    refine (v_setV_self ..).trans (congrArg (satAdd 32 · 1) ?_)
    rw [v_setV_ne _ _ (by decide), hw]
    rfl
  · rw [time, undo, hw]
    rfl

theorem wakeNow_of_awake {s : State} (src : Nat) (none' : s.power.entry = none) (awake : s.power.state < 2) : wakeNow s src = s := by
  unfold wakeNow
  rw [if_neg (by rw [none']; exact Bool.false_ne_true), if_neg (by omega)]

theorem wake_of_enabled {s : State} {src : Nat} (on : wakeEnabled s src = true) : wake s src = settle (wakeNow s src) := if_pos on

theorem wake_of_disabled {s : State} {src : Nat} (off : wakeEnabled s src = false) : wake s src = s :=
  if_neg (by rw [off]; exact Bool.false_ne_true)

/-- Settles O48: rails come up in order, a fault takes them down, sleep is entered at its commit, and a wake undoes it. -/
theorem railsAndSleep : Obligations.rails_and_sleep := by
  refine fun s => ⟨fun pos d => ⟨_, rfl, powerOn_effect s pos d⟩, fun step on next' low => ⟨⟨_, rfl, powerGood_effect on next' low⟩, ?_⟩,
    fun step h => ?_, fun step on reached => ?_, fun step h => ?_, fun rail low on reached => ?_, fun rail h => ?_, fun on flood none' => ?_, fun h => ?_,
    fun a x hx allowed awake none' up whole off => ?_, fun a allowed => ?_, fun x ready => ⟨_, rfl, sleepCommit_effect ready⟩, fun x c waits h => ?_,
    fun none' => ?_, fun src on => ⟨fun none' deep => ?_, fun e entry => ?_, fun none' awake => ?_⟩, fun src off => ?_⟩
  · exact ⟨_, next_congr (if_pos (powerGood_of_next on next' low)), railFaultAt_fault _ (sequencing_up on)⟩
  · have stays : ¬ (sequencing s && step == s.power.good + 1 && decide (step ≤ 7)) = true := by
      rw [powerGood_of_none h]
      exact Bool.false_ne_true
    exact ⟨next_congr (if_neg stays), next_congr (if_neg stays)⟩
  · exact ⟨_, next_congr (if_pos (by rw [on, reached]; rfl)), railFaultAt_fault _ (sequencing_up on)⟩
  · refine next_congr (if_neg ?_)
    rcases h with h | h <;> simp only [h, Bool.false_and, Bool.and_false, Bool.false_eq_true, not_false_eq_true]
  · exact ⟨_, next_congr (if_pos (by rw [on, reached, decide_eq_true low]; rfl)), railFaultAt_fault _ (sequencing_up on)⟩
  · refine next_congr (if_neg ?_)
    rcases h with h | h | h
    · rw [decide_eq_false (Nat.not_lt.2 h), Bool.and_false, Bool.false_and]
      exact Bool.false_ne_true
    · simp only [h, Bool.false_and, Bool.false_eq_true, not_false_eq_true]
    · simp only [h, Bool.and_false, Bool.false_eq_true, not_false_eq_true]
  · exact next_congr (if_pos ⟨on, flood, by rw [none']; rfl⟩)
  · refine next_congr (if_neg ?_)
    rintro ⟨on, flood, none'⟩
    rcases h with h | h | h
    · exact on h
    · exact h flood
    · exact h (Option.isNone_iff_eq_none.1 none')
  · obtain ⟨r, key, found, good⟩ := allowed
    have run := accessWrite_of_ok (fun s _ => (.code 0, if x = 2 ∨ x = 3 then sleepRequest s x else s)) found good
    rw [if_pos hx] at run
    have goes := sleepRequest_goes x awake none' up whole off
    refine ⟨_, next_congr run, respond_answered .., fun low => ?_, fun supply => ⟨fun busy => ?_, fun quiet alone => ?_, fun quiet pair link mirror => ?_⟩⟩
    · rw [goes, if_pos low]
      exact ⟨(respond_onlyEntries _ _ _ _ _ _ _ _ _ _ _ (by decide)).trans (v_setV_self ..), (respond_from ..).keeps.power rfl⟩
    · rw [(respond_from ..).keeps.power rfl, goes, if_neg (by rw [supply]; exact Bool.false_ne_true), sleepProgress_of_busy x busy]
      rfl
    · rw [(respond_from ..).keeps.power rfl, goes, if_neg (by rw [supply]; exact Bool.false_ne_true), sleepProgress_of_alone x quiet alone]
    · rw [(respond_from ..).keeps.power rfl, (respond_from ..).keeps.pair rfl, goes, if_neg (by rw [supply]; exact Bool.false_ne_true)]
      exact sleepProgress_of_paired x quiet pair link mirror
  · obtain ⟨r, key, found, good⟩ := allowed
    have run := accessWrite_of_ok (fun s _ => (.code 0, if outOfBand a.path then wake s 8 else s)) found good
    refine ⟨_, next_congr run, respond_answered .., fun oob on none' deep => ?_, fun h => ?_⟩
    · rw [(respond_from ..).keeps.power rfl, if_pos oob, wake_of_enabled on, (settle_from ..).keeps.power rfl, (wake_effect 8 none' deep).1]
      rfl
    · have same : (if outOfBand a.path then wake s 8 else s) = s := by
        rcases h with h | h
        · rw [h, if_neg Bool.false_ne_true]
        · rw [wake_of_disabled h, ite_self]
      rw [same]
      exact respond_onlyAnswered ..
  · have still : sleepProgress s = s := sleepProgress_still waits h
    refine next_congr ?_
    unfold sleepCommit
    rw [still]
    simp only [waits, Bool.and_false, Bool.false_eq_true, if_false]
  · have still : sleepProgress s = s := by simp only [sleepProgress, none']
    refine next_congr ?_
    unfold sleepCommit
    rw [still]
    simp only [none']
  · exact ⟨_, next_congr (wake_of_enabled on), wake_effect src none' deep⟩
  · exact ⟨_, next_congr (wake_of_enabled on), wake_aborts src entry⟩
  · exact next_congr ((wake_of_enabled on).trans (congrArg settle (wakeNow_of_awake src none' awake)))
  · exact next_congr (wake_of_disabled off)

end Sys2Proof.Sleep

/-! Scrubbing, and the test operations on stored words (R313 to R317). -/
namespace Sys2Proof.StoredData
open Sys2Proof Sys2Proof.Machine Sys2Proof.Effects

-- ===== a test operation =====

theorem eccRefused_congr {s t : State} (region : Nat) (offset : t.bufs.test.offset = s.bufs.test.offset) (power : t.power = s.power)
    (dram : t.dram = s.dram) : eccRefused t region = eccRefused s region := by
  rw [eccRefused, offset, power, dram, ← eccRefused]

theorem testWord_congr {s t : State} (region : Nat) (mem : t.bufs.test.mem = s.bufs.test.mem) (offset : t.bufs.test.offset = s.bufs.test.offset) :
    testWord t region = testWord s region := by
  unfold testWord
  rw [mem, offset]

section Operations
variable {s : State} {region : Nat} (f : EccTest → EccTest)

theorem eccTestOp_of_taken (service : s.boot.service = true) (takes : eccRefused s region = false) :
    eccTestOp s region f = modTest s (fun t => { f { t with region := region } with refused := false }) := by
  have takes' : eccRefused (modTest s (fun t => { t with region := region })) region = false := (eccRefused_congr region rfl rfl rfl).trans takes
  simp only [eccTestOp, service, takes', Bool.not_true, Bool.false_eq_true, if_false]
  rfl

theorem eccTestOp_of_refused (service : s.boot.service = true) (refused : eccRefused s region = true) :
    eccTestOp s region f = { s with bufs := { s.bufs with test := { s.bufs.test with region := region, refused := true } } } := by
  have refused' : eccRefused (modTest s (fun t => { t with region := region })) region = true := (eccRefused_congr region rfl rfl rfl).trans refused
  simp only [eccTestOp, service, refused', Bool.not_true, Bool.false_eq_true, if_false, if_true]
  rfl

theorem eccTestOp_of_out (out : s.boot.service = false) : eccTestOp s region f = s := by
  simp only [eccTestOp, out, Bool.not_false, if_true]

end Operations

/-- A stored word is read back where it was stored. -/
theorem putTest_mem (region data check : Nat) (t : EccTest) : (putTest region data check t).mem.get? (region * 65536 + t.offset) =
    some (data % 2 ^ 64 + check % 65536 * 2 ^ 64) := Assoc.get?_put_self ..

-- ===== reads =====

theorem eccTestReport_of_none {s : State} {region : Nat} (h : s.boot.service = false ∨ eccRefused s region = true) : eccTestReport s region = s := by
  have no : ¬ (s.boot.service && !eccRefused s region) = true := by
    rcases h with h | h <;> rw [h]
    · exact Bool.false_ne_true
    · rw [Bool.not_true, Bool.and_false]
      exact Bool.false_ne_true
  exact if_neg no

/-- A read of a test word reports its outcome and counts what it detects. -/
theorem eccTestReport_effect {s : State} {region : Nat} (service : s.boot.service = true) (takes : eccRefused s region = false) :
    let t := eccTestReport s region
    let o := (eccDecode (testWord s region).1 (testWord s region).2).1
    t = { s with dict := t.dict, bufs := { s.bufs with test := { s.bufs.test with outcome := t.bufs.test.outcome, syndrome := t.bufs.test.syndrome } } } ∧
      t.bufs.test.outcome = o ∧ v t K.eccTestDetects = if o = 0 then v s K.eccTestDetects else satAdd 32 (v s K.eccTestDetects) 1 := by
  have yes : (s.boot.service && !eccRefused s region) = true := by
    rw [service, takes]
    rfl
  obtain ⟨o, ho⟩ : ∃ o, (eccDecode (testWord s region).1 (testWord s region).2).1 = o := ⟨_, rfl⟩
  obtain ⟨w, hw⟩ : ∃ w, modTest s (fun t => { t with outcome := o, syndrome := (Config.eccCheck (testWord s region).1 % 65536) ^^^ (testWord s region).2 }) = w :=
    ⟨_, rfl⟩
  have run : eccTestReport s region = if o = 0 then w else bump32 w K.eccTestDetects := by
    rw [eccTestReport, if_pos yes, ← hw, ← ho]
  simp only [ho, run]
  by_cases zero : o = 0
  · rw [← hw, if_pos zero, if_pos zero]
    exact ⟨rfl, rfl, rfl⟩
  · rw [← hw, if_neg zero, if_neg zero]
    exact ⟨rfl, rfl, v_setV_self ..⟩

/-- A read operation, after its report: what it loads, from a word that stays as it is. -/
theorem read_effect {s r t : State} {region : Nat} (f : Nat × Nat → EccTest → EccTest) (service : s.boot.service = true)
    (takes : eccRefused s region = false) (hr : r = eccTestReport s region) (ht : t = eccTestOp r region (f (testWord r region))) :
    t = modTest r (fun x => { f (testWord s region) { x with region := region } with refused := false }) ∧ r.bufs.test.mem = s.bufs.test.mem := by
  obtain ⟨frame, -, -⟩ := eccTestReport_effect service takes
  rw [← hr] at frame
  have mem : r.bufs.test.mem = s.bufs.test.mem := by rw [frame]
  have offset : r.bufs.test.offset = s.bufs.test.offset := by rw [frame]
  have refused : eccRefused r region = eccRefused s region := eccRefused_congr region offset (by rw [frame]) (by rw [frame])
  refine ⟨?_, mem⟩
  rw [ht, eccTestOp_of_taken _ (by rw [frame]; exact service) (refused.trans takes), testWord_congr region mem offset]

/-- Settles O45: a lap advances word by word, and a test operation stores and reads the word it names. -/
theorem storedDataProtection : Obligations.stored_data_protection := by
  refine fun s region => ⟨fun l hl low some' on awake left => ?_, fun idle err off => ?_, fun service takes => ⟨?_, ?_, ?_, ?_, ?_⟩, fun i hi => ⟨fun service refused => ?_, fun out => ?_⟩⟩
  · have goes : ¬ (region > 4 ∨ l.total = 0 ∨ (!vb s K.scrubEnable) = true ∨ s.power.state ≥ 2 ∨ (!true && !scrubBehind s region l) = true) := by
      rintro (h | h | h | h | h)
      · omega
      · exact some' h
      · rw [on] at h
        cases h
      · omega
      · cases h
    have more : ¬ l.read + 1 ≥ l.total := Nat.not_le.2 left
    refine ⟨_, next_congr ?_, rfl⟩
    simp only [scrubAccess, ← hl, goes, more, if_false, if_true]
  · refine next_congr (if_pos (.inr (.inr (.inl ?_))))
    rw [off]
    rfl
  · refine ⟨_, next_congr (eccTestOp_of_taken _ service takes), rfl, putTest_mem _ _ _ _⟩
  · exact ⟨_, next_congr (eccTestOp_of_taken _ service takes), putTest_mem _ _ _ _⟩
  · exact ⟨_, next_congr (eccTestOp_of_taken _ service takes), putTest_mem _ _ _ _⟩
  · obtain ⟨run, mem⟩ := read_effect (fun w x => { x with data := w.1, check := w.2 }) service takes rfl rfl
    obtain ⟨-, outcome, detects⟩ := eccTestReport_effect service takes
    exact ⟨_, next_congr run, rfl, rfl, mem, outcome, detects⟩
  · obtain ⟨run, mem⟩ := read_effect (fun w x => { x with data := (eccDecode w.1 w.2).2 }) service takes rfl rfl
    exact ⟨_, next_congr run, rfl, mem⟩
  · rcases hi with rfl | rfl | rfl | rfl | rfl
    · exact ⟨_, next_congr (eccTestOp_of_refused _ service refused), rfl⟩
    · exact ⟨_, next_congr (eccTestOp_of_refused _ service refused), rfl⟩
    · exact ⟨_, next_congr (eccTestOp_of_refused _ service refused), rfl⟩
    · refine ⟨_, next_congr ?_, rfl⟩
      simp only [eccTestReadRaw, eccTestReport_of_none (.inr refused)]
      exact eccTestOp_of_refused _ service refused
    · refine ⟨_, next_congr ?_, rfl⟩
      simp only [eccTestReadCorrected, eccTestReport_of_none (.inr refused)]
      exact eccTestOp_of_refused _ service refused
  · rcases hi with rfl | rfl | rfl | rfl | rfl
    · exact next_congr (eccTestOp_of_out _ out)
    · exact next_congr (eccTestOp_of_out _ out)
    · exact next_congr (eccTestOp_of_out _ out)
    · refine next_congr ?_
      simp only [eccTestReadRaw, eccTestReport_of_none (.inl out)]
      exact eccTestOp_of_out _ out
    · refine next_congr ?_
      simp only [eccTestReadCorrected, eccTestReport_of_none (.inl out)]
      exact eccTestOp_of_out _ out

end Sys2Proof.StoredData

/-! Sensor readings, and what they do to the throttle sequence, the thermal hold and the media window (R363 to R369). -/
namespace Sys2Proof.Sensors
open Sys2Proof Sys2Proof.Machine Sys2Proof.Effects Sys2Proof.TimeAndSpeed Sys2Proof.Sleep

-- ===== readings as words =====

theorem toSigned_ofSigned {x : Int} (lo : -32768 ≤ x) (hi : x ≤ 32767) : toSigned 16 (ofSigned 16 x) = x := by
  simp only [toSigned, ofSigned, bitAt, beq_iff_eq]
  split <;> omega

theorem toSigned_ofSigned_8 {x : Int} (lo : -128 ≤ x) (hi : x ≤ 127) : toSigned 8 (ofSigned 8 x) = x := by
  simp only [toSigned, ofSigned, bitAt, beq_iff_eq]
  split <;> omega

theorem v16_congr {s t : State} {k : Nat} (h : v t k = v s k) : v16 t k = v16 s k := by rw [v16, h, ← v16]

theorem sampled_lt {s : State} {n : Nat} (h : sampled s n = true) : n < 64 ∧ fitted s n = true := by
  unfold sampled at h
  split at h
  · exact ⟨by omega, by simp only [fitted, Bool.or_eq_true, decide_eq_true_eq]; omega⟩
  · split at h
    · exact ⟨by omega, by simp only [fitted, Bool.or_eq_true, decide_eq_true_eq]; omega⟩
    · simp only [Bool.and_eq_true, decide_eq_true_eq] at h
      exact h

theorem sensorCause_zero {s : State} {n : Nat} {x : Int} (h : sensorCause s n (some x) = 0) : -240 ≤ x ∧ x ≤ 640 := by
  simp only [sensorCause] at h
  split at h
  · exact absurd h (by decide)
  · omega

/-- The entries that keep a reading. -/
def readingKeys (n : Nat) : List Nat := unitKey K.sensorC n :: K.sensorPeakC :: K.sensorsFailed :: recordKeys

/-- What the evaluation of a reading reads. -/
def limitKeys : List Nat := [K.critC, K.throttleC, K.boardC, K.sensorMask, K.throttleFloorMw, K.extDiodeFitted]

theorem limitKeys_apart : ∀ n < 64, ∀ k ∈ limitKeys, k ∉ readingKeys n := by decide

/-- The entries that may follow a reading: the counters of the sequence, of records and of traces, and those of a wake. -/
def followKeys : List Nat :=
  K.traceLost :: K.throttleEnforcements :: K.lastWake :: K.lastWakeTime :: K.sleepResult :: K.sleepAborts :: recordKeys ++
    (List.range 5).map (unitKey K.coreMv) ++ (List.range 5).map (unitKey K.bodyBiasMv)

theorem sensorC_quiet : ∀ n < 64, unitKey K.sensorC n ∉ followKeys := by decide

theorem sensorC_ne : ∀ n < 64, unitKey K.sensorC n ∉ K.sensorPeakC :: K.sensorsFailed :: recordKeys := by decide

theorem sensorC_untraced : ∀ n < 64, unitKey K.sensorC n ∉ [K.traceLost] := by decide

theorem sensorC_apart (n : Nat) (h : n < 64) : unitKey K.sensorC n ∉ K.sensorsFailed :: recordKeys := fun m => sensorC_ne n h (List.mem_cons_of_mem _ m)

-- ===== events of the host =====

theorem carryAens_onlyEntries (k : Nat) (s : State) (fn : Nat) : OnlyEntries s (carryAens k s fn) [K.traceLost] := by
  induction k generalizing s with
  | zero => exact onlyEntries_refl _ _
  | succ k ih =>
    simp only [carryAens]
    split
    · refine onlyEntries_trans ?_ (ih _)
      exact onlyEntries_congr (complete_onlyEntries (modInst s fn _) _ _ _) rfl rfl
    · exact onlyEntries_refl _ _

theorem aen_onlyEntries (s : State) (fn : Nat) (e : Aen) : OnlyEntries s (aen s fn e) [K.traceLost] := by
  simp only [aen]
  split
  · exact onlyEntries_refl _ _
  · exact onlyEntries_trans (onlyEntries_of_dict _ rfl) (carryAens_onlyEntries _ _ _)

theorem aenPfs_onlyEntries (s : State) (e : Aen) : OnlyEntries s (aenPfs s e) [K.traceLost] := by
  simp only [aenPfs]
  split
  · exact onlyEntries_trans (aen_onlyEntries _ _ _) (aen_onlyEntries _ _ _)
  · exact aen_onlyEntries _ _ _

theorem hostThresholds_onlyEntries (old s : State) : OnlyEntries s (hostThresholds old s) [K.traceLost] := by
  refine onlyEntries_foldl (fun u fn => ?_) _ _
  dsimp only
  split
  · exact aen_onlyEntries _ _ _
  · exact onlyEntries_refl _ _

-- ===== the sequence =====

theorem enforce_onlyEntries (s : State) (limit : Nat) : OnlyEntries s (enforce s limit) [K.throttleEnforcements, K.traceLost] := by
  obtain ⟨u, entries, -, run⟩ := enforce_eq s limit
  rw [run]
  exact onlyEntries_append (ks := [K.throttleEnforcements]) entries (onlyEntries_trans (onlyEntries_of_dict _ rfl) (throttleTo_onlyEntries _ _ _))

theorem throttleCritical_enforces (s : State) (n r : Nat) : Enforces (throttleCritical s n r) n (v s K.throttleFloorMw) := by
  have done := enforce_enforces { s with thermal := { s.thermal with cause := n } } (v s K.throttleFloorMw)
  have run : throttleCritical s n r =
    event (aenPfs (enforce { s with thermal := { s.thermal with cause := n } } (v s K.throttleFloorMw)) .temperature) Ev.throttleCritical [n, r] := rfl
  rw [run]
  generalize enforce _ _ = e at *
  have thermal : (event (aenPfs e .temperature) Ev.throttleCritical [n, r]).thermal = e.thermal :=
    ((event_from ..).keeps.thermal rfl).trans ((aenPfs_from _).keeps.thermal rfl)
  have power : (event (aenPfs e .temperature) Ev.throttleCritical [n, r]).power = e.power :=
    ((event_from ..).keeps.power rfl).trans ((aenPfs_from _).keeps.power rfl)
  simp only [Enforces, throttleAt, thermal, power] at done ⊢
  exact done

theorem throttleCritical_onlyEntries (s : State) (n r : Nat) : OnlyEntries s (throttleCritical s n r) followKeys := by
  have first : OnlyEntries s (enforce { s with thermal := { s.thermal with cause := n } } (v s K.throttleFloorMw)) followKeys :=
    onlyEntries_mono (onlyEntries_congr (enforce_onlyEntries { s with thermal := { s.thermal with cause := n } } _) rfl rfl) (by decide)
  exact onlyEntries_trans first (onlyEntries_trans (onlyEntries_mono (aenPfs_onlyEntries _ _) (by decide))
    (onlyEntries_mono (event_onlyEntries _ _ _) (by decide)))

theorem throttleRequest_onlyEntries (s : State) (cause r : Nat) : OnlyEntries s (throttleRequest s cause r) followKeys := by
  obtain ⟨w, hw⟩ : ∃ w, throttleTo { s with thermal := { s.thermal with cause := cause, critical := true } } 1 cause = w := ⟨_, rfl⟩
  have first : OnlyEntries s w [K.traceLost] :=
    hw ▸ onlyEntries_congr (throttleTo_onlyEntries { s with thermal := { s.thermal with cause := cause, critical := true } } 1 cause) rfl rfl
  simp only [throttleRequest, hw]
  exact onlyEntries_trans (onlyEntries_mono first (by decide))
    (onlyEntries_trans (onlyEntries_mono (aenPfs_onlyEntries _ _) (by decide)) (onlyEntries_mono (event_onlyEntries _ _ _) (by decide)))

theorem throttleCross_onlyEntries (s : State) (cause r : Nat) : OnlyEntries s (throttleCross s cause r) followKeys := by
  unfold throttleCross
  split
  · exact throttleRequest_onlyEntries _ _ _
  · split
    · exact onlyEntries_mono (onlyEntries_congr (enforce_onlyEntries { s with thermal := { s.thermal with cause := cause } } _) rfl rfl) (by decide)
    · exact onlyEntries_refl _ _

theorem throttleEval_onlyEntries (s : State) (n : Nat) (was : Option Int) (failedNow : Bool) : OnlyEntries s (throttleEval s n was failedNow) followKeys := by
  simp only [throttleEval]
  split
  · exact throttleCritical_onlyEntries _ _ _
  · split
    · exact onlyEntries_refl _ _
    · split
      · exact throttleCritical_onlyEntries _ _ _
      · split
        · exact throttleCross_onlyEntries _ _ _
        · split
          · exact onlyEntries_mono (onlyEntries_congr (throttleTo_onlyEntries { s with thermal := { s.thermal with cause := 0xFF, critical := false } } _ _) rfl rfl) (by decide)
          · exact onlyEntries_refl _ _

-- ===== what follows the sequence =====

/-- The sequence stands as it did: at most the hold that covers it has ended. -/
structure Stands (s t : State) : Prop where
  spot : throttleAt t = throttleAt s
  thermal : t.thermal = { s.thermal with state := t.thermal.state }
  ebb : t.power.ebbThrottle = s.power.ebbThrottle
  entries : OnlyEntries s t followKeys

theorem Stands.trans {s t u : State} (h : Stands s t) (k : Stands t u) : Stands s u where
  spot := k.spot.trans h.spot
  thermal := by rw [k.thermal, h.thermal]
  ebb := k.ebb.trans h.ebb
  entries := onlyEntries_trans h.entries k.entries

theorem Stands.of_same {s t : State} (thermal : t.thermal = s.thermal) (ebb : t.power.ebbThrottle = s.power.ebbThrottle) (entries : OnlyEntries s t followKeys) :
    Stands s t := ⟨by rw [throttleAt, thermal, ← throttleAt], by rw [thermal], ebb, entries⟩

theorem Stands.enforces {s t : State} {cause limit : Nat} (h : Stands s t) (e : Enforces s cause limit) : Enforces t cause limit := by
  obtain ⟨two, hc, hl, hcr, ebb⟩ := e
  refine ⟨h.spot.trans two, ?_, ?_, ?_, h.ebb.trans ebb⟩
  · rw [h.thermal]; exact hc
  · rw [h.thermal]; exact hl
  · rw [h.thermal]; exact hcr

theorem holdEval_stands (s : State) : Stands s (holdEval s) := by
  unfold holdEval
  split
  next ends =>
    obtain ⟨four, -⟩ := Bool.and_eq_true_iff.1 ends
    have trace := throttleTrace_keeps { s with thermal := { s.thermal with state := s.thermal.before } } s.thermal.state s.thermal.cause
    refine ⟨?_, ?_, ?_, ?_⟩
    · rw [throttleAt, trace.thermal rfl, throttleAt, if_pos (of_decide_eq_true four)]
      exact ite_self _
    · rw [trace.thermal rfl]
    · rw [trace.power rfl]
    · exact onlyEntries_mono (onlyEntries_congr (throttleTrace_onlyEntries { s with thermal := { s.thermal with state := s.thermal.before } } _ _) rfl rfl) (by decide)
  next => exact .of_same rfl rfl (onlyEntries_refl _ _)

theorem hostThresholds_stands (old s : State) : Stands s (hostThresholds old s) :=
  .of_same ((hostThresholds_from _).keeps.thermal rfl) (congrArg Power.ebbThrottle ((hostThresholds_from _).keeps.power rfl))
    (onlyEntries_mono (hostThresholds_onlyEntries _ _) (by decide))

theorem noteWake_stands (s : State) (src : Nat) : Stands s (noteWake s src) := by
  obtain ⟨-, -, -, entries, keeps⟩ := noteWake_effect s src
  exact .of_same (keeps.thermal rfl) (congrArg Power.ebbThrottle (keeps.power rfl)) (onlyEntries_mono entries (by decide))

theorem sleepUndo_stands (s : State) : Stands s (sleepUndo s) := by
  unfold sleepUndo
  split
  · refine .of_same rfl rfl (onlyEntries_trans ?_ (onlyEntries_mono (onlyEntries_bump _ K.sleepAborts 32 1) (by decide)))
    exact onlyEntries_mono (onlyEntries_congr (onlyEntries_setV _ K.sleepResult 1) rfl rfl) (by decide)
  · exact .of_same rfl rfl (onlyEntries_refl _ _)

theorem wakeNow_stands (s : State) (src : Nat) : Stands s (wakeNow s src) := by
  by_cases begun : s.power.entry.isSome = true
  · rw [wakeNow, if_pos begun]
    exact (sleepUndo_stands s).trans (noteWake_stands _ _)
  · by_cases deep : 2 ≤ s.power.state
    · obtain ⟨w, c, b, hw, hc, hb, run⟩ := wakeNow_of_asleep src (Option.not_isSome_iff_eq_none.1 begun) deep
      have first : Stands s w := by
        rw [hw]
        have keeps := (powerTrace_from (s := awoken s) s.power.state).keeps
        exact .of_same (keeps.thermal rfl) ((congrArg Power.ebbThrottle (keeps.power rfl)).trans rfl)
          (onlyEntries_mono (onlyEntries_congr (Fetching.powerTrace_onlyEntries (awoken s) s.power.state) rfl rfl) (by decide))
      have cores : Stands w c := by
        have frame := foldl_setV_frame (List.range 5) (unitKey K.coreMv) (fun i => w.power.request.getD i 750) w
        rw [← hc] at frame
        exact .of_same (by rw [frame]) (by rw [frame]) (hc ▸ onlyEntries_mono (foldl_setV_onlyEntries _ _ _ _) (by decide))
      have bias : Stands c b := by
        have frame := foldl_setV_frame (List.range 5) (unitKey K.bodyBiasMv) (fun _ => 0) c
        rw [← hb] at frame
        exact .of_same (by rw [frame]) (by rw [frame]) (hb ▸ onlyEntries_mono (foldl_setV_onlyEntries _ _ _ _) (by decide))
      have sent : Stands b (ltrAll b) := .of_same (ltrAll_from.keeps.thermal rfl) (congrArg Power.ebbThrottle (ltrAll_from.keeps.power rfl))
        (onlyEntries_of_dict _ (ltrAll_from.keeps.dict rfl))
      rw [run]
      exact (((first.trans cores).trans bias).trans sent).trans (noteWake_stands _ _)
    · rw [wakeNow, if_neg begun, if_neg deep]
      exact .of_same rfl rfl (onlyEntries_refl _ _)

theorem warmWake_stands (s : State) (n : Nat) : Stands s (warmWake s n) := by
  unfold warmWake
  split
  · exact wakeNow_stands _ _
  · exact .of_same rfl rfl (onlyEntries_refl _ _)

-- ===== SENSOR_SAMPLE =====

theorem storeReading_effect {s : State} {n : Nat} (x : Int) (failed : Bool) (h : n < 64) : let t := storeReading s n x failed
    OnlyEntries s t [unitKey K.sensorC n, K.sensorPeakC] ∧ v t (unitKey K.sensorC n) = ofSigned 16 (if failed then 600 else x) ∧
      t.thermal = { s.thermal with seen := t.thermal.seen } ∧ n ∈ t.thermal.seen ∧ t.power = s.power := by
  have apart : unitKey K.sensorC n ≠ K.sensorPeakC := fun e => sensorC_ne n h (e ▸ List.mem_cons_self)
  obtain ⟨y, hy⟩ : ∃ y, (if failed then 600 else x) = y := ⟨_, rfl⟩
  obtain ⟨w, hw⟩ : ∃ w, setV s (unitKey K.sensorC n) (ofSigned 16 y) = w := ⟨_, rfl⟩
  have entries : OnlyEntries s w [unitKey K.sensorC n] := hw ▸ onlyEntries_setV _ _ _
  have value : v w (unitKey K.sensorC n) = ofSigned 16 y := hw ▸ v_setV_self ..
  have keeps : Keeps 2 s w := hw ▸ (setV_from ..).keeps
  obtain ⟨l, hl⟩ : ∃ l, (if w.thermal.seen.contains n then w.thermal.seen else w.thermal.seen ++ [n]) = l := ⟨_, rfl⟩
  have seen : n ∈ l := by
    rw [← hl]
    split
    next has => exact List.contains_iff_mem.1 has
    next => exact List.mem_append_right _ List.mem_cons_self
  rw [← keeps.thermal rfl, ← keeps.power rfl]
  simp only [storeReading, hy, hw, hl]
  split
  · refine ⟨onlyEntries_append (ks := [unitKey K.sensorC n]) (onlyEntries_congr entries rfl rfl) (onlyEntries_setV _ _ _), ?_, rfl, seen, rfl⟩
    rw [v_setV_ne _ _ apart]
    exact value
  · exact ⟨onlyEntries_mono (onlyEntries_congr entries rfl rfl) (by simp), value, rfl, seen, rfl⟩

/-- A reading, kept: the sensor's marks, the value and the event of a failure. -/
theorem sensorSample_eq {s : State} {n : Nat} (reading : Option Int) (took : sampled s n = true) (alive : sensorFailed s n = false) :
    ∃ p was, sensorSample s n reading = warmWake (hostThresholds s (holdEval (throttleEval p n was (sensorCause s n reading != 0)))) n ∧
      OnlyEntries s p (readingKeys n) ∧ p.power = s.power ∧ throttleAt p = throttleAt s ∧ n ∈ p.thermal.seen ∧
      p.thermal.failed = (if sensorCause s n reading = 0 then s.thermal.failed else withBit s.thermal.failed n true) ∧
      sensorAt p n = toSigned 16 (ofSigned 16 (if sensorCause s n reading = 0 then reading.getD 0 else 600)) ∧
      (sensorCause s n reading ≠ 0 → bitAt (v p K.sensorsFailed) n = true) := by
  obtain ⟨lt, -⟩ := sampled_lt took
  obtain ⟨cause, hc⟩ : ∃ cause, sensorCause s n reading = cause := ⟨_, rfl⟩
  -- the marks, the value, the event
  obtain ⟨a, ha⟩ : ∃ a : State, { s with thermal := { s.thermal with
      failed := if cause != 0 then withBit s.thermal.failed n true else s.thermal.failed
      deviant := if reading.any (deviates s n) then s.thermal.deviant.updD n 0 (· + 1) else s.thermal.deviant.del n } } = a := ⟨_, rfl⟩
  have failed : sensorFailed a n = (cause != 0) := by
    rw [sensorFailed, ← ha]
    cases bad : cause != 0
    · exact alive
    · exact Controllers.bitAt_withBit_self _ _
  obtain ⟨entries, value, thermal, seen, power⟩ := storeReading_effect (s := a) (reading.getD 0) (cause != 0) lt
  obtain ⟨b, hb⟩ : ∃ b, storeReading a n (reading.getD 0) (cause != 0) = b := ⟨_, rfl⟩
  rw [hb] at entries value thermal seen power
  obtain ⟨p, hp⟩ : ∃ p, (if (cause != 0) = true then eventU (setV b K.sensorsFailed (withBit (v b K.sensorsFailed) n true)) Ev.sensorFailed n [n, cause] else b) = p :=
    ⟨_, rfl⟩
  have noted : Keeps 258 b p ∧ OnlyEntries b p (K.sensorsFailed :: recordKeys) ∧ (cause ≠ 0 → bitAt (v p K.sensorsFailed) n = true) := by
    rw [← hp]
    split
    next =>
      have item : OnlyEntries _ (eventU (setV b K.sensorsFailed (withBit (v b K.sensorsFailed) n true)) Ev.sensorFailed n [n, cause]) recordKeys :=
        record_onlyEntries _ _ _ _ _
      refine ⟨((setV_from ..).keeps.weaken rfl).trans (eventU_from _ _ _).keeps, onlyEntries_append (ks := [K.sensorsFailed]) (onlyEntries_setV _ _ _) item, fun _ => ?_⟩
      rw [item _ (by decide), v_setV_self]
      exact Controllers.bitAt_withBit_self _ _
    next good => exact ⟨Keeps.refl _ _, onlyEntries_refl _ _, fun bad => absurd (bne_iff_ne.2 bad) good⟩
  obtain ⟨keeps, after, mark⟩ := noted
  have before : p.thermal = { a.thermal with seen := b.thermal.seen } := (keeps.thermal rfl).trans thermal
  refine ⟨p, if s.thermal.seen.contains n then some (sensorAt s n) else none, ?_, ?_, ?_, ?_, ?_, ?_, ?_, hc ▸ mark⟩
  · rw [sensorSample, if_neg (by rw [took]; exact Bool.false_ne_true)]
    simp only [alive, Bool.not_false, Bool.true_and, hc, ha, failed, hb, hp]
  · exact onlyEntries_mono (onlyEntries_append (ks := [unitKey K.sensorC n, K.sensorPeakC]) (onlyEntries_congr entries (ha ▸ rfl) rfl) after)
      (fun k hk => hk)
  · rw [keeps.power rfl, power, ← ha]
  · rw [throttleAt, before, ← ha]
    rfl
  · rw [before]
    exact seen
  · rw [before, ← ha, hc]
    by_cases zero : cause = 0
    · subst zero
      rfl
    · rw [if_neg zero]
      exact if_pos (bne_iff_ne.2 zero)
  · rw [sensorAt, v16, after _ (sensorC_apart n lt), value, hc]
    by_cases zero : cause = 0
    · subst zero
      rfl
    · rw [if_neg zero, if_pos (bne_iff_ne.2 zero)]

-- ===== the cases of the evaluation =====

/-- Which sensors were read and which failed is no matter of the sequence. -/
structure SameMarks (s t : State) : Prop where
  seen : t.thermal.seen = s.thermal.seen
  failed : t.thermal.failed = s.thermal.failed

theorem SameMarks.congr {s t u : State} (h : SameMarks s t) (e : u.thermal = t.thermal) : SameMarks s u := ⟨e ▸ h.seen, e ▸ h.failed⟩

theorem sameMarks_throttleTo (s : State) (x n : Nat) : SameMarks s (throttleTo s x n) := by
  refine SameMarks.congr (t := { s with thermal := stateTo s x }) ?_ (throttleTo_thermal ..)
  unfold stateTo
  split <;> exact ⟨rfl, rfl⟩

theorem sameMarks_enforce (s : State) (limit : Nat) : SameMarks s (enforce s limit) := by
  obtain ⟨u, -, hu, run⟩ := enforce_eq s limit
  have same : u.thermal = s.thermal := by rw [hu]
  obtain ⟨seen, failed⟩ :=
    sameMarks_throttleTo { u with thermal := { u.thermal with limit := limit, critical := true }, power := { u.power with ebbThrottle := true } } 2 s.thermal.cause
  rw [run]
  exact ⟨seen.trans (show u.thermal.seen = _ by rw [same]), failed.trans (show u.thermal.failed = _ by rw [same])⟩

theorem sameMarks_throttleCritical (s : State) (n r : Nat) : SameMarks s (throttleCritical s n r) := by
  obtain ⟨seen, failed⟩ := sameMarks_enforce { s with thermal := { s.thermal with cause := n } } (v s K.throttleFloorMw)
  exact SameMarks.congr ⟨seen, failed⟩ (((event_from ..).keeps.thermal rfl).trans ((aenPfs_from _).keeps.thermal rfl))

theorem sameMarks_throttleCross (s : State) (cause r : Nat) : SameMarks s (throttleCross s cause r) := by
  unfold throttleCross
  split
  · refine SameMarks.congr (t := { s with thermal := stateTo { s with thermal := { s.thermal with cause := cause, critical := true } } 1 }) ?_ (throttleRequest_thermal ..)
    unfold stateTo
    split <;> exact ⟨rfl, rfl⟩
  · split
    · obtain ⟨seen, failed⟩ := sameMarks_enforce { s with thermal := { s.thermal with cause := cause } } (lowered s s.thermal.limit)
      exact ⟨seen, failed⟩
    · exact ⟨rfl, rfl⟩

theorem sameMarks_throttleEval (s : State) (n : Nat) (was : Option Int) (failedNow : Bool) : SameMarks s (throttleEval s n was failedNow) := by
  simp only [throttleEval]
  split
  · exact sameMarks_throttleCritical _ _ _
  · split
    · exact ⟨rfl, rfl⟩
    · split
      · exact sameMarks_throttleCritical _ _ _
      · split
        · exact sameMarks_throttleCross _ _ _
        · split
          · obtain ⟨seen, failed⟩ := sameMarks_throttleTo { s with thermal := { s.thermal with cause := 0xFF, critical := false } } 0 s.thermal.cause
            exact ⟨seen, failed⟩
          · exact ⟨rfl, rfl⟩

section Samples
variable {s : State} {n : Nat} (was : Option Int) (live : counts s n = true)
include live

theorem throttleEval_critical (j : junction n = true) (crit : 4 * v16 s K.critC ≤ sensorAt s n) (other : throttleAt s ≠ 2) :
    throttleEval s n was false = throttleCritical s n (ofSigned 32 (sensorAt s n)) := by
  have enters : (junction n && decide (sensorAt s n ≥ 4 * v16 s K.critC) &&
      (was.all (fun w => decide (w < 4 * v16 s K.critC)) || throttleAt s != 2 || decide (s.thermal.limit > v s K.throttleFloorMw))) = true := by
    rw [j, decide_eq_true crit, bne_iff_ne.2 other, Bool.or_true, Bool.true_or]
    rfl
  simp only [throttleEval, live, enters, Bool.not_true, Bool.false_eq_true, if_false, if_true]

theorem throttleEval_calm (calm : junction n = true → sensorAt s n < 4 * v16 s K.critC) (idle : throttleAt s = 0) :
    throttleEval s n was false = if throttleLimit s n ≤ sensorAt s n then throttleRequest s n (ofSigned 32 (sensorAt s n)) else s := by
  have no : (junction n && decide (sensorAt s n ≥ 4 * v16 s K.critC)) = false := by
    cases j : junction n
    · rfl
    · exact decide_eq_false (Int.not_le.2 (calm j))
  simp only [throttleEval, live, no, idle, throttleCross, Bool.not_true, Bool.false_and, Bool.false_eq_true, if_false, if_true, Nat.zero_ne_one,
    decide_false, ge_iff_le]

end Samples

theorem readingKept {s p : State} {n : Nat} (h : OnlyEntries s p (readingKeys n)) (lt : n < 64) {k : Nat} (m : k ∈ limitKeys) : v p k = v s k :=
  h _ (limitKeys_apart n lt k m)

theorem throttleLimit_kept {s p : State} {n : Nat} (h : OnlyEntries s p (readingKeys n)) (lt : n < 64) : throttleLimit p n = throttleLimit s n := by
  unfold throttleLimit
  split
  · rw [v16_congr (readingKept h lt (by decide))]
  · rw [v16_congr (readingKept h lt (by decide))]

theorem counts_kept {s p : State} {n : Nat} (h : OnlyEntries s p (readingKeys n)) (lt : n < 64) (fits : fitted s n = true) (seen : n ∈ p.thermal.seen)
    (free : bitAt (v s K.sensorMask) n = false) : counts p n = true := by
  have fits' : fitted p n = true := by
    rw [fitted, readingKept h lt (by decide), ← fitted]
    exact fits
  rw [counts, List.contains_iff_mem.2 seen, fits', readingKept h lt (by decide), free]
  rfl

/-- What follows an evaluation leaves its sequence, its marks and the reading. -/
theorem after_stands (s q : State) (n : Nat) : Stands q (warmWake (hostThresholds s (holdEval q)) n) :=
  ((holdEval_stands q).trans (hostThresholds_stands s _)).trans (warmWake_stands _ n)

theorem sensorFailing_effect {s : State} {n : Nat} {reading : Option Int} (took : sampled s n = true) (alive : sensorFailed s n = false)
    (bad : sensorCause s n reading ≠ 0) : let u := sensorSample s n reading
    sensorAt u n = 600 ∧ bitAt u.thermal.failed n = true ∧ bitAt (v u K.sensorsFailed) n = true ∧ Enforces u n (v s K.throttleFloorMw) := by
  obtain ⟨lt, -⟩ := sampled_lt took
  obtain ⟨p, was, run, entries, power, -, seen, failed, value, mark⟩ := sensorSample_eq reading took alive
  have critical : throttleEval p n was (sensorCause s n reading != 0) = throttleCritical p n (ofSigned 32 (sensorAt p n)) := by
    rw [bne_iff_ne.2 bad]
    rfl
  rw [critical] at run
  have after := throttleCritical_onlyEntries p n (ofSigned 32 (sensorAt p n))
  have marks := sameMarks_throttleCritical p n (ofSigned 32 (sensorAt p n))
  have enforces := throttleCritical_enforces p n (ofSigned 32 (sensorAt p n))
  generalize throttleCritical p n (ofSigned 32 (sensorAt p n)) = q at *
  have stands := after_stands s q n
  intro u
  rw [show u = _ from run]
  rw [if_neg bad] at failed value
  refine ⟨?_, ?_, ?_, ?_⟩
  · rw [sensorAt, v16, stands.entries _ (sensorC_quiet n lt), after _ (sensorC_quiet n lt)]
    exact value.trans (toSigned_ofSigned (by decide) (by decide))
  · rw [stands.thermal, show _ = _ from marks.failed, failed]
    exact Controllers.bitAt_withBit_self _ _
  · rw [stands.entries _ (by decide), after _ (by decide)]
    exact mark bad
  · rw [← readingKept entries lt (by decide)]
    exact stands.enforces enforces

theorem sensorReading_effect {s : State} {n : Nat} {x : Int} (took : sampled s n = true) (alive : sensorFailed s n = false)
    (good : sensorCause s n (some x) = 0) : let u := sensorSample s n (some x)
    sensorAt u n = x ∧ n ∈ u.thermal.seen ∧ u.thermal.failed = s.thermal.failed ∧
    (bitAt (v s K.sensorMask) n = false →
      (junction n = true → 4 * v16 s K.critC ≤ x → throttleAt s ≠ 2 → Enforces u n (v s K.throttleFloorMw)) ∧
      (throttleAt s = 0 → throttleLimit s n ≤ x → (junction n = true → x < 4 * v16 s K.critC) → throttleAt u = 1 ∧ u.thermal.cause = n ∧ u.thermal.critical = true) ∧
      (throttleAt s = 0 → x < throttleLimit s n → (junction n = true → x < 4 * v16 s K.critC) → throttleAt u = 0)) := by
  obtain ⟨lt, fits⟩ := sampled_lt took
  obtain ⟨lo, hi⟩ := sensorCause_zero good
  obtain ⟨p, was, run, entries, power, spot, seen, failed, value, -⟩ := sensorSample_eq (some x) took alive
  rw [good] at run failed value
  change sensorSample s n (some x) = warmWake (hostThresholds s (holdEval (throttleEval p n was false))) n at run
  have value : sensorAt p n = x := value.trans (toSigned_ofSigned (by simp only [if_true, Option.getD_some]; omega) (by simp only [if_true, Option.getD_some]; omega))
  have crit := v16_congr (readingKept entries lt (k := K.critC) (by decide))
  have limit := throttleLimit_kept entries lt
  have floor := readingKept entries lt (k := K.throttleFloorMw) (by decide)
  have live := counts_kept entries lt fits seen
  have after := throttleEval_onlyEntries p n was false
  have marks := sameMarks_throttleEval p n was false
  have stands := after_stands s (throttleEval p n was false) n
  intro u
  rw [show u = _ from run]
  refine ⟨?_, ?_, ?_, fun free => ⟨fun j hot other => ?_, fun idle hot calm => ?_, fun idle cold calm => ?_⟩⟩
  · rw [sensorAt, v16, stands.entries _ (sensorC_quiet n lt), after _ (sensorC_quiet n lt)]
    exact value
  · rw [stands.thermal, show _ = _ from marks.seen]
    exact seen
  · rw [stands.thermal, show _ = _ from marks.failed]
    exact failed
  · refine stands.enforces ?_
    rw [throttleEval_critical was (live free) j (by rw [crit, value]; exact hot) (by rw [spot]; exact other), ← floor]
    exact throttleCritical_enforces _ _ _
  · have begun := throttleRequest_stands p n (ofSigned 32 (sensorAt p n))
    rw [throttleEval_calm was (live free) (by rw [crit, value]; exact calm) (spot.trans idle), if_pos (by rw [limit, value]; exact hot)] at stands ⊢
    rw [stands.spot, stands.thermal]
    exact begun
  · rw [throttleEval_calm was (live free) (by rw [crit, value]; exact calm) (spot.trans idle), if_neg (by rw [limit, value]; omega)] at stands ⊢
    exact stands.spot.trans (spot.trans idle)

-- ===== the steps in time (R366) =====

theorem throttleRelease_rises {s : State} (h : (throttleAt s = 2 ∧ cool s = true) ∨ throttleAt s = 3) : throttleRelease s = throttleRise s := by
  refine if_pos ?_
  rcases h with ⟨two, c⟩ | three
  · rw [decide_eq_true two, c]
    rfl
  · rw [decide_eq_true three, Bool.or_true]

theorem throttleTo_trace_off {s : State} (x n : Nat) (off : bitAt (v s K.traceSources) 0x19 = false) : (throttleTo s x n).trace = s.trace := by
  have still (u : State) (was : Nat) (same : u.trace = s.trace) (dict : u.dict = s.dict) : (throttleTrace u was n).trace = s.trace := by
    unfold throttleTrace
    split
    · exact same
    · rw [traceItem_of_off _ _ _ (by rw [v_of_dict dict]; exact off)]
      exact same
  exact still _ _ rfl rfl

theorem throttleRise_effect (s : State) : let t := throttleRise s
    t = { s with thermal := t.thermal, power := t.power, dict := t.dict, trace := t.trace } ∧ OnlyEntries s t [K.traceLost] ∧
    (bitAt (v s K.traceSources) 0x19 = false → t.trace = s.trace) ∧
    (nandBudget s ≤ s.thermal.limit + v s K.throttleStepMw → throttleAt t = 0 ∧ t.thermal.cause = 0xFF ∧ t.thermal.critical = false ∧ t.power.ebbThrottle = false ∧
      t.thermal.limit = 2 ^ 32 - 1) ∧
    (s.thermal.limit + v s K.throttleStepMw < nandBudget s → throttleAt t = 3 ∧ t.thermal.limit = s.thermal.limit + v s K.throttleStepMw ∧ t.power = s.power) := by
  have frame : Keeps 12884902402 s (throttleRise s) := throttleRise_from.keeps
  by_cases full : nandBudget s ≤ s.thermal.limit + v s K.throttleStepMw
  · obtain ⟨w, hw⟩ : ∃ w : State, { s with thermal := { s.thermal with limit := 2 ^ 32 - 1, cause := 0xFF, critical := false }, power := { s.power with ebbThrottle := false } } = w :=
      ⟨_, rfl⟩
    have run : throttleRise s = throttleTo w 0 s.thermal.cause := by
      rw [← hw, throttleRise]
      exact if_pos full
    rw [run] at frame ⊢
    have thermal := throttleTo_thermal w 0 s.thermal.cause
    have power : (throttleTo w 0 s.thermal.cause).power = w.power := (throttleTo_keeps ..).power rfl
    have entries : OnlyEntries s (throttleTo w 0 s.thermal.cause) [K.traceLost] := onlyEntries_congr (throttleTo_onlyEntries w _ _) (hw ▸ rfl) rfl
    have zero := throttleAt_throttleTo (x := 0) w s.thermal.cause (by decide)
    have trace := throttleTo_trace_off (s := w) 0 s.thermal.cause
    generalize throttleTo w 0 s.thermal.cause = t at *
    refine ⟨frame, entries, fun off => ?_, fun _ => ⟨zero, ?_, ?_, ?_, ?_⟩, fun h => absurd full (Nat.not_le.2 h)⟩
    · rw [trace (by rw [← hw]; exact off), ← hw]
    · rw [thermal, stateTo, ← hw]
      split <;> rfl
    · rw [thermal, stateTo, ← hw]
      split <;> rfl
    · rw [power, ← hw]
    · rw [thermal, stateTo, ← hw]
      split <;> rfl
  · obtain ⟨w, hw⟩ : ∃ w : State, { s with thermal := { s.thermal with limit := s.thermal.limit + v s K.throttleStepMw } } = w := ⟨_, rfl⟩
    have run : throttleRise s = throttleTo w 3 s.thermal.cause := by
      rw [← hw, throttleRise]
      exact if_neg full
    rw [run] at frame ⊢
    have thermal := throttleTo_thermal w 3 s.thermal.cause
    have power : (throttleTo w 3 s.thermal.cause).power = w.power := (throttleTo_keeps ..).power rfl
    have entries : OnlyEntries s (throttleTo w 3 s.thermal.cause) [K.traceLost] := onlyEntries_congr (throttleTo_onlyEntries w _ _) (hw ▸ rfl) rfl
    have three := throttleAt_throttleTo (x := 3) w s.thermal.cause (by decide)
    have trace := throttleTo_trace_off (s := w) 3 s.thermal.cause
    generalize throttleTo w 3 s.thermal.cause = t at *
    refine ⟨frame, entries, fun off => ?_, fun h => absurd h full, fun _ => ⟨three, ?_, ?_⟩⟩
    · rw [trace (by rw [← hw]; exact off), ← hw]
    · rw [thermal, stateTo, ← hw]
      split <;> rfl
    · rw [power, ← hw]

theorem graceExpiry_effect {s : State} (one : throttleAt s = 1) (h : hot s = true) : let t := throttleGraceExpiry s
    Enforces t s.thermal.cause (Nat.max (v s K.throttleFloorMw) (nandBudget s - v s K.throttleStepMw)) ∧
    v t K.throttleEnforcements = satAdd 32 (v s K.throttleEnforcements) 1 ∧ OnlyEntries s t [K.throttleEnforcements, K.traceLost] := by
  have run : throttleGraceExpiry s = enforce s (lowered s (nandBudget s)) := by
    refine if_pos ?_
    rw [decide_eq_true one, h]
    rfl
  obtain ⟨limit, hl⟩ : ∃ limit, lowered s (nandBudget s) = limit := ⟨_, rfl⟩
  intro t
  rw [show t = _ from run, show Nat.max (v s K.throttleFloorMw) (nandBudget s - v s K.throttleStepMw) = limit from hl, hl]
  refine ⟨enforce_enforces _ _, ?_, enforce_onlyEntries _ _⟩
  obtain ⟨b, hb⟩ : ∃ b, bump32 s K.throttleEnforcements = b := ⟨_, rfl⟩
  have counted : v b K.throttleEnforcements = satAdd 32 (v s K.throttleEnforcements) 1 := hb ▸ v_setV_self ..
  have two : ¬ throttleAt s = 2 := by omega
  simp only [enforce, two, if_false, hb]
  exact (throttleTo_onlyEntries _ _ _ _ (by decide)).trans counted

-- ===== thermal hold (R368) =====

/-- A fold that takes the best so far or the next takes it from the list. -/
theorem foldl_pick_mem {f : Option Nat → Nat → Option Nat} (pick : ∀ best a, f best a = some a ∨ f best a = best) (l : List Nat) (best : Option Nat) {n : Nat}
    (h : l.foldl f best = some n) : n ∈ l ∨ best = some n := by
  induction l generalizing best with
  | nil => exact .inr h
  | cons a l ih =>
    rcases ih _ h with tail | head
    · exact .inl (List.mem_cons_of_mem _ tail)
    · rcases pick best a with new | old
      · exact .inl (Option.some.inj (new.symm.trans head) ▸ List.mem_cons_self)
      · exact .inr (old.symm.trans head)

theorem hottest_mem {s : State} {l : List Nat} {n : Nat} (h : hottest s l = some n) : n ∈ l := by
  refine (foldl_pick_mem (fun best a => ?_) l none h).resolve_right (Option.some_ne_none n ∘ Eq.symm)
  cases best with
  | none => exact .inl rfl
  | some m =>
    dsimp only
    split
    · exact .inl rfl
    · exact .inr rfl

theorem liveJunction_lt {s : State} {n : Nat} (h : n ∈ liveJunction s) : n < 64 :=
  List.mem_range.1 (List.mem_filter.1 (List.mem_filter.1 h).1).1

theorem thermalHold_effect {s : State} {n : Nat} (h : hottest s ((liveJunction s).filter (fun m => decide (sensorAt s m ≥ 500))) = some n)
    (other : s.thermal.state ≠ 4) : let t := thermalHold s
    t.thermal = { s.thermal with before := s.thermal.state, state := 4 } ∧ v t K.thermalHolds = satAdd 32 (v s K.thermalHolds) 1 ∧
      Recorded s t Ev.thermalHold [n, ofSigned 32 (sensorAt s n)] := by
  obtain ⟨a, ha⟩ : ∃ a : State, { s with thermal := { s.thermal with before := s.thermal.state, state := 4 } } = a := ⟨_, rfl⟩
  obtain ⟨w, hw⟩ : ∃ w, throttleTrace a s.thermal.state n = w := ⟨_, rfl⟩
  have entries : OnlyEntries s w [K.traceLost] := hw ▸ onlyEntries_congr (throttleTrace_onlyEntries a s.thermal.state n) (ha ▸ rfl) rfl
  have trace : Keeps 514 a w := hw ▸ throttleTrace_keeps _ _ _
  obtain ⟨b, hb⟩ : ∃ b, bump32 w K.thermalHolds = b := ⟨_, rfl⟩
  have keeps : Keeps 2 w b := hb ▸ (setV_from ..).keeps
  have count : v b K.thermalHolds = satAdd 32 (v s K.thermalHolds) 1 := by
    rw [← entries K.thermalHolds (by decide), ← hb]
    exact v_setV_self ..
  have lt : n < 64 := liveJunction_lt ((List.mem_filter.1 (hottest_mem h)).1)
  have reading : sensorAt w n = sensorAt s n := v16_congr (entries _ (sensorC_untraced n lt))
  have run : thermalHold s = event b Ev.thermalHold [n, ofSigned 32 (sensorAt s n)] := by
    simp only [thermalHold, h, other, if_false, ha, hw, hb, reading]
  have rest : OnlyEntries w b [K.thermalHolds] := hb ▸ onlyEntries_bump _ _ _ _
  intro t
  rw [show t = _ from run]
  refine ⟨?_, ?_, ?_⟩
  · rw [(event_from ..).keeps.thermal rfl, keeps.thermal rfl, trace.thermal rfl, ← ha]
  · rw [event_onlyEntries _ _ _ _ (by decide)]
    exact count
  · refine recorded_congr (event_recorded b _ _) ?_ ?_ rfl
    · rw [keeps.recd rfl, trace.recd rfl, ← ha]
    · rw [rest _ (by decide), entries _ (by decide)]

theorem thermalHold_of_still {s : State} (h : (∀ n ∈ liveJunction s, sensorAt s n < 500) ∨ s.thermal.state = 4) : thermalHold s = s := by
  unfold thermalHold
  split
  next n found =>
    rcases h with cold | four
    · have nobody : (liveJunction s).filter (fun m => decide (sensorAt s m ≥ 500)) = [] :=
        List.filter_eq_nil_iff.2 fun m hm => by simpa using cold m hm
      rw [nobody] at found
      cases found
    · exact if_pos four
  next => rfl

-- ===== the media window (R365, R369) =====

theorem nandTempRead_of_out {s : State} {slot : Nat} (r : Option Int)
    (h : (slotAt s slot).present = false ∨ 2 ≤ s.power.state ∨ ∀ l < 8, dieState s (slot * 8 + l) ≠ 1) : nandTempRead s slot r = s := by
  refine if_pos ?_
  rcases h with absent | asleep | out
  · rw [absent]
    rfl
  · rw [decide_eq_true (show s.power.state ≥ 2 from asleep), Bool.or_true]
  · have nobody : (List.range 8).any (fun l => dieState s (slot * 8 + l) == 1) = false :=
      List.any_eq_false.2 fun l hl => by simpa using out l (List.mem_range.1 hl)
    rw [nobody, Bool.not_false, Bool.or_true, Bool.true_or]

theorem windowEval_held (s : State) (slot : Nat) (c : Int) : (windowEval s slot c).thermal.nand = s.thermal.nand ∧
    (c < v16 s K.nandTempMinC ∨ v16 s K.nandTempMaxC < c → slot ∈ (windowEval s slot c).thermal.held) ∧
    (v16 s K.nandTempMinC + 2 ≤ c → c ≤ v16 s K.nandTempMaxC - 2 → slot ∉ (windowEval s slot c).thermal.held) := by
  simp only [windowEval]
  by_cases outside : c < v16 s K.nandTempMinC ∨ v16 s K.nandTempMaxC < c
  · rw [if_pos outside]
    by_cases held : s.thermal.held.contains slot = true
    · rw [if_pos held]
      exact ⟨rfl, fun _ => List.contains_iff_mem.1 held, fun a b => by omega⟩
    · rw [if_neg held]
      exact ⟨rfl, fun _ => List.mem_append_right _ List.mem_cons_self, fun a b => by omega⟩
  · rw [if_neg outside]
    by_cases held : s.thermal.held.contains slot = true
    · by_cases inside : v16 s K.nandTempMinC + 2 ≤ c ∧ c ≤ v16 s K.nandTempMaxC - 2
      · obtain ⟨lo, hi⟩ := inside
        rw [if_pos (by rw [held, decide_eq_true lo, decide_eq_true hi]; rfl)]
        refine ⟨rfl, fun h => absurd h outside, fun _ _ m => ?_⟩
        simpa using (List.mem_filter.1 m).2
      · rw [if_neg (by simpa [List.contains_iff_mem.1 held] using inside)]
        exact ⟨rfl, fun h => absurd h outside, fun a b => absurd ⟨a, b⟩ inside⟩
    · rw [if_neg (by simp [mt List.contains_iff_mem.2 held])]
      exact ⟨rfl, fun h => absurd h outside, fun _ _ m => held (List.contains_iff_mem.2 m)⟩

theorem nandTempRead_effect {s : State} {slot l : Nat} {r : Option Int} {c : Int} (there : (slotAt s slot).present = true) (awake : s.power.state < 2)
    (hl : l < 8) (one : dieState s (slot * 8 + l) = 1) (hc : c = r.getD (boardHighest s)) (lo : -128 ≤ c) (hi : c ≤ 127) : let u := nandTempRead s slot r
    u.thermal.nand.get? slot = some c ∧
      (c < v16 s K.nandTempMinC ∨ v16 s K.nandTempMaxC < c → slot ∈ u.thermal.held) ∧
      (v16 s K.nandTempMinC + 2 ≤ c → c ≤ v16 s K.nandTempMaxC - 2 → slot ∉ u.thermal.held) := by
  have goes : ¬ (!(slotAt s slot).present || !(List.range 8).any (fun l => dieState s (slot * 8 + l) == 1) || decide (s.power.state ≥ 2)) = true := by
    have somebody : (List.range 8).any (fun l => dieState s (slot * 8 + l) == 1) = true :=
      List.any_eq_true.2 ⟨l, List.mem_range.2 hl, beq_iff_eq.2 one⟩
    rw [there, somebody, decide_eq_false (by omega)]
    exact Bool.false_ne_true
  obtain ⟨w, hw⟩ : ∃ w, (if s.thermal.nand.get? slot = some c then s
      else domChanged { s with thermal := { s.thermal with nand := s.thermal.nand.put slot c } } K.nandTemp) = w := ⟨_, rfl⟩
  have run : nandTempRead s slot r = hostThresholds s (windowEval w slot c) := by
    rw [nandTempRead, if_neg goes, ← hc, toSigned_ofSigned_8 lo hi]
    exact congrArg (fun w => hostThresholds s (windowEval w slot c)) hw
  have stored : w.dict = s.dict ∧ w.thermal.nand.get? slot = some c := by
    rw [← hw]
    split
    next has => exact ⟨rfl, has⟩
    next =>
      have keeps := (domChanged_from (s := { s with thermal := { s.thermal with nand := s.thermal.nand.put slot c } }) K.nandTemp).keeps
      refine ⟨keeps.dict rfl, ?_⟩
      rw [keeps.thermal rfl]
      exact Assoc.get?_put_self ..
  obtain ⟨dict, value⟩ := stored
  obtain ⟨nand, outside, inside⟩ := windowEval_held w slot c
  rw [v16_congr (v_of_dict dict _), v16_congr (v_of_dict dict _)] at outside inside
  have thermal : (hostThresholds s (windowEval w slot c)).thermal = (windowEval w slot c).thermal := (hostThresholds_from _).keeps.thermal rfl
  intro u
  rw [show u = _ from run, thermal, nand]
  exact ⟨value, outside, inside⟩

/-- A step whose state or whose condition does not stand. -/
theorem both_false {x k : Nat} {b : Bool} (h : x ≠ k ∨ b = false) : ¬ (decide (x = k) && b) = true := by
  rintro both
  obtain ⟨e, t⟩ := Bool.and_eq_true_iff.1 both
  rcases h with h | h
  · exact h (of_decide_eq_true e)
  · exact absurd (t.symm.trans h) (by decide)

/-- Settles O51: a reading is kept and judged, and each step of the sequence goes as R366 and R367 say. -/
theorem sensorsAndThrottle : Obligations.sensors_and_throttle := by
  refine fun s => ⟨fun n r off => next_congr (congrArg settle (if_pos (by rw [off]; rfl))), fun n r took alive bad => ⟨_, rfl, sensorFailing_effect took alive bad⟩,
    fun n x took alive good => ⟨_, rfl, sensorReading_effect took alive good⟩, fun one h => ⟨_, rfl, graceExpiry_effect one h⟩, fun still => next_congr (if_neg ?_),
    fun two h => next_congr (if_pos ?_), fun still => next_congr (if_neg ?_), fun up => ⟨_, next_congr (throttleRelease_rises up), throttleRise_effect s⟩,
    fun still other => next_congr (if_neg ?_), fun n h other => ⟨_, rfl, thermalHold_effect h other⟩, fun still => next_congr (thermalHold_of_still still),
    fun slot r out => next_congr (congrArg settle (nandTempRead_of_out r out)),
    fun slot r l c there awake hl one hc lo hi => ⟨_, rfl, nandTempRead_effect there awake hl one hc lo hi⟩⟩
  · exact both_false still
  · rw [decide_eq_true two, h]
    rfl
  · exact both_false still
  · simp only [Bool.or_eq_true, Bool.and_eq_true, decide_eq_true_eq]
    rintro (⟨two, c⟩ | three)
    · rcases still with h | h
      · exact h two
      · exact absurd (c.symm.trans h) (by decide)
    · exact other three

end Sys2Proof.Sensors

/-! The code flash: its words, its operations by bank, the maker regions and the recovery image (R377 to R392). -/
namespace Sys2Proof.CodeFlash
open Sys2Proof Sys2Proof.Machine Sys2Proof.Effects Sys2Proof.Stores Sys2Proof.Answers Sys2Proof.PackageResets

-- ===== words (R377, R378) =====

/-- Between `s` and `t` of the code flash the array changed, and what an operation reports. -/
def Rewritten (s t : State) : Prop :=
  t.cf = { s.cf with words := t.cf.words, progs := t.cf.progs, erases := t.cf.erases, hashOut := t.cf.hashOut, completions := t.cf.completions }

theorem Rewritten.trans {s t u : State} (h : Rewritten s t) (k : Rewritten t u) : Rewritten s u := by
  unfold Rewritten at h k ⊢
  rw [k, h]

/-- Between `s` and `t` of the code flash the array alone changed. -/
def Cells (s t : State) : Prop := t.cf = { s.cf with words := t.cf.words, progs := t.cf.progs, erases := t.cf.erases }

theorem Cells.trans {s t u : State} (h : Cells s t) (k : Cells t u) : Cells s u := by
  unfold Cells at h k ⊢
  rw [k, h]

/-- What an operation reports follows on its change of the array. -/
theorem Cells.done {s t : State} (h : Cells s t) (d : CfDesc) (e : CfDone) : Rewritten s (cfDone t d e) ∧
    (cfDone t d e).cf.completions = s.cf.completions ++ [e] := by
  unfold Cells at h
  have cf : (cfDone t d e).cf = { t.cf with completions := t.cf.completions ++ [e] } := rfl
  unfold Rewritten
  rw [cf, h]
  exact ⟨rfl, rfl⟩

theorem cfWord_cfPut_self {s : State} (w x : Nat) (form : s.cf.words.wf = true) : cfWord (cfPut s w x) w = x := by
  simp only [cfWord, cfPut]
  split
  next erased =>
    rw [Assoc.getD, get?_del_self w form]
    exact erased.symm
  next => exact Assoc.getD_put_self ..

theorem cfWord_cfPut_ne {s : State} {w k : Nat} (x : Nat) (h : k ≠ w) : cfWord (cfPut s w x) k = cfWord s k := by
  simp only [cfWord, cfPut, Assoc.getD]
  split
  · rw [get?_del_ne _ h]
  · rw [Assoc.get?_put_ne _ _ h]

theorem cfPut_wf {s : State} (w x : Nat) (form : s.cf.words.wf = true) : (cfPut s w x).cf.words.wf = true := by
  simp only [cfPut]
  split
  · exact Assoc.wf_del form
  · exact Assoc.wf_put form

/-- Words programmed one after the other. -/
def programWords (s : State) (w n : Nat) (f : Nat → Nat) : State := (List.range n).foldl (fun s i => cfProgramWord s (w + i) (f i)) s

theorem programWords_succ (s : State) (w n : Nat) (f : Nat → Nat) : programWords s w (n + 1) f = cfProgramWord (programWords s w n f) (w + n) (f n) := by
  rw [programWords, List.range_succ, List.foldl_append]
  rfl

theorem programWords_cells (s : State) (w n : Nat) (f : Nat → Nat) : Cells s (programWords s w n f) := by
  induction n with
  | zero => rfl
  | succ n ih =>
    rw [programWords_succ]
    exact ih.trans rfl

/-- Each word named is the old word AND the new; the others are as they were. -/
theorem programWords_effect {s : State} (w n : Nat) (f : Nat → Nat) (form : s.cf.words.wf = true) : let t := programWords s w n f
    (∀ k < n, cfWord t (w + k) = cfWord s (w + k) &&& f k) ∧ (∀ x, x < w ∨ w + n ≤ x → cfWord t x = cfWord s x) ∧ t.cf.words.wf = true := by
  induction n with
  | zero => exact ⟨fun k h => absurd h (Nat.not_lt_zero k), fun _ _ => rfl, form⟩
  | succ n ih =>
    obtain ⟨inside, outside, good⟩ := ih
    dsimp only
    rw [programWords_succ]
    generalize programWords s w n f = u at *
    have word (k : Nat) : cfWord (cfProgramWord u (w + n) (f n)) k = cfWord (cfPut u (w + n) (cfWord u (w + n) &&& f n)) k := rfl
    refine ⟨fun k hk => ?_, fun x hx => ?_, cfPut_wf _ _ good⟩
    · rw [word]
      by_cases last : k = n
      · subst last
        rw [cfWord_cfPut_self _ _ good, outside (w + k) (.inr (Nat.le_refl _))]
      · rw [cfWord_cfPut_ne _ (by omega)]
        exact inside k (by omega)
    · rw [word, cfWord_cfPut_ne _ (by omega)]
      exact outside x (by omega)

/-- Sectors erased one after the other. -/
def eraseSectors (s : State) (sec n : Nat) : State := (List.range n).foldl (fun s i => cfEraseSector s (sec + i)) s

theorem eraseSectors_succ (s : State) (sec n : Nat) : eraseSectors s sec (n + 1) = cfEraseSector (eraseSectors s sec n) (sec + n) := by
  rw [eraseSectors, List.range_succ, List.foldl_append]
  rfl

theorem cfWord_cfEraseSector (s : State) (sec w : Nat) : cfWord (cfEraseSector s sec) w = if w / 128 = sec then cfErased else cfWord s w := by
  have word : cfWord (cfEraseSector s sec) w = (s.cf.words.keep (fun k _ => k / 128 != sec)).getD w cfErased := rfl
  rw [word, Assoc.getD, get?_keep_key _ (fun k => k / 128 != sec)]
  by_cases here : w / 128 = sec
  · rw [if_neg (by simpa using here), if_pos here]
    rfl
  · rw [if_pos (by simpa using here), if_neg here]
    rfl

theorem eraseSectors_effect (s : State) (sec n : Nat) : let t := eraseSectors s sec n
    (∀ w, cfWord t w = if sec ≤ w / 128 ∧ w / 128 < sec + n then cfErased else cfWord s w) ∧ Cells s t := by
  induction n with
  | zero => exact ⟨fun w => (if_neg (by omega)).symm, rfl⟩
  | succ n ih =>
    obtain ⟨words, frame⟩ := ih
    dsimp only
    rw [eraseSectors_succ]
    generalize eraseSectors s sec n = u at *
    refine ⟨fun w => ?_, frame.trans rfl⟩
    rw [cfWord_cfEraseSector, words]
    by_cases last : w / 128 = sec + n
    · rw [if_pos last, if_pos (by omega)]
    · rw [if_neg last]
      by_cases before : sec ≤ w / 128 ∧ w / 128 < sec + n
      · rw [if_pos before, if_pos (by omega)]
      · rw [if_neg before, if_neg (by omega)]

-- ===== the end of an operation (R382) =====

theorem cfDone_cf (s : State) (d : CfDesc) (e : CfDone) : (cfDone s d e).cf = { s.cf with completions := s.cf.completions ++ [e] } := rfl

theorem cfEnd_program {s : State} {o : CfOp} (us : Nat) (op : o.op = 1) : cfEnd s o none us =
    cfDone (programWords s (o.d.address / 32) o.d.count (fun i => o.words.getD i cfErased % 2 ^ 256)) o.d ⟨o.d.tag, 0, o.d.count, us, 0xFFFFFFFF⟩ := by
  unfold cfEnd
  exact if_pos op

theorem cfEnd_program_fails {s : State} {o : CfOp} {k : Nat} (us : Nat) (op : o.op = 1) (h : k < o.d.count) : cfEnd s o (some k) us =
    cfDone (cfSpoilWord (programWords s (o.d.address / 32) k (fun i => o.words.getD i cfErased % 2 ^ 256)) (o.d.address / 32 + k)
      (o.words.getD k cfErased % 2 ^ 256)) o.d ⟨o.d.tag, 5, k, us, o.d.address + 32 * k⟩ := by
  unfold cfEnd
  dsimp only
  rw [if_pos op, if_pos h]
  rfl

theorem cfEnd_erase {s : State} {o : CfOp} (us : Nat) (op : o.op = 2) : cfEnd s o none us =
    cfDone (eraseSectors s (o.d.address / 4096) o.d.count) o.d ⟨o.d.tag, 0, o.d.count, us, 0xFFFFFFFF⟩ := by
  unfold cfEnd
  dsimp only
  rw [if_neg (by omega), if_pos op]
  rfl

/-- A check, compare or digest reports, and leaves the array. -/
theorem cfEnd_read {s : State} {o : CfOp} (us : Nat) (one : o.op ≠ 1) (two : o.op ≠ 2) : ∃ u e, cfEnd s o none us = cfDone u o.d e ∧
    u.cf = { s.cf with hashOut := u.cf.hashOut } ∧ e.tag = o.d.tag ∧ e.arrayUs = us ∧
      (o.op = 5 → u.cf.hashOut = Config.sha3 (cfBytes s (o.d.address / 32) 0 (32 * o.d.count))) := by
  unfold cfEnd
  dsimp only
  rw [if_neg one, if_neg two]
  by_cases three : o.op = 3
  · rw [if_pos three]
    exact ⟨_, _, rfl, rfl, rfl, rfl, fun five => absurd (three.symm.trans five) (by decide)⟩
  · rw [if_neg three]
    by_cases four : o.op = 4
    · rw [if_pos four]
      exact ⟨_, _, rfl, rfl, rfl, rfl, fun five => absurd (four.symm.trans five) (by decide)⟩
    · rw [if_neg four]
      exact ⟨_, _, rfl, rfl, rfl, rfl, fun _ => rfl⟩

theorem cfEnd_rewritten (s : State) (o : CfOp) (us : Nat) : Rewritten s (cfEnd s o none us) := by
  by_cases one : o.op = 1
  · rw [cfEnd_program us one]
    exact ((programWords_cells ..).done _ _).1
  · by_cases two : o.op = 2
    · rw [cfEnd_erase us two]
      exact ((eraseSectors_effect s (o.d.address / 4096) o.d.count).2.done _ _).1
    · obtain ⟨u, e, run, frame, -⟩ := cfEnd_read (s := s) us one two
      rw [run]
      exact Rewritten.trans (t := u) (by unfold Rewritten; rw [frame]) rfl

-- ===== operations by bank (R380 to R382) =====

theorem cfRunning_congr {s t : State} (h : Rewritten s t) (b : Nat) : cfRunning t b = cfRunning s b := by
  unfold Rewritten at h
  rw [cfRunning, h]
  rfl

theorem cfRunning_set_self (s : State) {b : Nat} (o : Option CfOp) : cfRunning (cfSetRun s b o) b = o := by
  unfold cfSetRun cfRunning
  split <;> rfl

theorem cfRunning_set_other (s : State) {b c : Nat} (o : Option CfOp) (h : (b = 0 ∧ c ≠ 0) ∨ (b ≠ 0 ∧ c = 0)) :
    cfRunning (cfSetRun s b o) c = cfRunning s c := by
  rcases h with ⟨rfl, hc⟩ | ⟨hb, rfl⟩
  · rw [cfSetRun, cfRunning, cfRunning, if_pos rfl, if_neg hc, if_neg hc]
  · rw [cfSetRun, cfRunning, cfRunning, if_neg hb, if_pos rfl, if_pos rfl]

/-- Set, the run of a bank leaves all else of the code flash. -/
theorem cfSetRun_cf (s : State) (b : Nat) (o : Option CfOp) :
    (cfSetRun s b o).cf = { s.cf with run0 := (cfSetRun s b o).cf.run0, run1 := (cfSetRun s b o).cf.run1 } := by
  unfold cfSetRun
  split <;> rfl

theorem exec_of_cfDescOf {s : State} {i : Instr} {op : Nat} {d : CfDesc} {ws : List Nat} (h : CfDescOf i op d ws) : exec i s = .next (cfArrive s op d ws) := by
  rcases h with ⟨rfl, rfl⟩ | ⟨rfl, rfl, rfl⟩ | ⟨rfl, rfl, rfl⟩ | ⟨rfl, rfl⟩ | ⟨rfl, rfl, rfl⟩ <;> rfl

section Arrival
variable {s : State} {op : Nat} {d : CfDesc} {ws : List Nat} {o : CfOp} (ho : o = ⟨op, d, ws, 0, false⟩) (queue : s.cf.queue = []) (waiting : s.cf.waiting = [])
include ho queue waiting

/-- A descriptor that comes alone waits where its bank is busy; else it leaves the queue, and starts where every check passes. -/
theorem cfArrive_alone {b : Nat} (hb : b = cfBank d.address % 2) : cfArrive s op d ws =
    if cfRunning s b ≠ none then { s with cf := { s.cf with queue := [o] } }
    else if cfCheck s o = 0 then cfSetRun s b (some { o with startNs := s.clk.nowNs })
    else cfDone (if cfCheck s o = 1 then bump32 s K.cfBankRejects else s) d ⟨d.tag, cfCheck s o, 0, 0, 0xFFFFFFFF⟩ := by
  obtain ⟨w, hw⟩ : ∃ w : State, { s with cf := { s.cf with queue := [o] } } = w := ⟨_, rfl⟩
  have queued : w.cf.queue = [o] := by rw [← hw]
  have running : cfRunning w b = cfRunning s b := by rw [← hw]; rfl
  have clk : w.clk = s.clk := by rw [← hw]
  have bank : cfBank o.d.address % 2 = b := by rw [ho, hb]
  have back : ({ w with cf := { w.cf with queue := [] } } : State) = s := by
    rw [← hw]
    show ({ s with cf := { s.cf with queue := [] } } : State) = s
    rw [← queue]
  have desc : o.d = d := by rw [ho]
  have run : cfArrive s op d ws = cfServe 1 { s with cf := { s.cf with waiting := [o] } } := by
    rw [ho]
    simp only [cfArrive, queue, waiting, List.nil_append, List.length_nil, List.length_singleton, Nat.zero_add]
  have first : ({ s with cf := { s.cf with queue := [] ++ [o], waiting := [] } } : State) = w := by
    have none' (l : List CfOp) : ({ s with cf := { s.cf with queue := l, waiting := [] } } : State) = { s with cf := { s.cf with queue := l } } := by
      rw [← waiting]
    exact (none' _).trans hw
  have found : w.cf.queue.findIdx? (fun o => (cfRunning w (cfBank o.d.address % 2)).isNone) = if cfRunning s b ≠ none then none else some 0 := by
    rw [queued, List.findIdx?_cons, bank, running]
    cases cfRunning s b with
    | none => rfl
    | some x => rfl
  rw [run]
  simp only [cfServe, queue, List.length_nil, Nat.zero_lt_succ, if_true, first]
  rw [found]
  by_cases busy : cfRunning s b ≠ none
  · simp only [if_pos busy, hw]
  · simp only [if_neg busy, queued, List.getElem?_cons_zero, List.eraseIdx_cons_zero, back, desc]
    simp only [clk, ← hb]

end Arrival

/-- With nothing that waits the end of an operation is all. -/
theorem cfOperationComplete_alone {s : State} {b : Nat} {o : CfOp} {t : State} (failedAt : Option Nat) (us : Nat) (run : cfRunning s b = some o)
    (queue : t.cf.queue = []) (waiting : t.cf.waiting = []) (ht : t = cfEnd (cfSetRun s b none) o failedAt us) :
    cfOperationComplete s b failedAt us = t := by
  simp only [cfOperationComplete, run, ← ht, queue, waiting, List.length_nil]
  rfl

theorem cfComplete_undeferred {s : State} (b : Nat) (failedAt : Option Nat) (us : Nat) (now : s.wdt.deferred = false) :
    cfComplete s b failedAt us = cfOperationComplete s b failedAt us := by
  have wdt : (cfOperationComplete s b failedAt us).wdt = s.wdt := (cfOperationComplete_from b failedAt us).keeps.wdt rfl
  refine if_neg ?_
  rw [wdt, now]
  exact Bool.false_ne_true

section Completion
variable {s : State} {b : Nat} {o : CfOp} (run : cfRunning s b = some o) (queue : s.cf.queue = []) (waiting : s.cf.waiting = [])
include run queue waiting

theorem complete_of_rewritten {t : State} {failedAt : Option Nat} {us : Nat} (ht : t = cfEnd (cfSetRun s b none) o failedAt us)
    (frame : Rewritten (cfSetRun s b none) t) : cfOperationComplete s b failedAt us = t ∧ cfRunning t b = none := by
  have set := cfSetRun_cf s b none
  refine ⟨cfOperationComplete_alone failedAt us run ?_ ?_ ht, (cfRunning_congr frame b).trans (cfRunning_set_self s none)⟩
  · rw [show t.cf.queue = (cfSetRun s b none).cf.queue by rw [frame], set]
    exact queue
  · rw [show t.cf.waiting = (cfSetRun s b none).cf.waiting by rw [frame], set]
    exact waiting

variable (us : Nat) (now : s.wdt.deferred = false) (form : s.cf.words.wf = true)
include now form

theorem operationComplete_effect : let t := cfComplete s b none us
    cfRunning t b = none ∧
      (o.op = 1 → t.cf.completions = s.cf.completions ++ [⟨o.d.tag, 0, o.d.count, us, 0xFFFFFFFF⟩] ∧
        (∀ k, k < o.d.count → cfWord t (o.d.address / 32 + k) = cfWord s (o.d.address / 32 + k) &&& (o.words.getD k cfErased % 2 ^ 256)) ∧
        ∀ w, w < o.d.address / 32 ∨ o.d.address / 32 + o.d.count ≤ w → cfWord t w = cfWord s w) ∧
      (o.op = 2 → t.cf.completions = s.cf.completions ++ [⟨o.d.tag, 0, o.d.count, us, 0xFFFFFFFF⟩] ∧
        ∀ w, cfWord t w = if o.d.address / 4096 ≤ w / 128 ∧ w / 128 < o.d.address / 4096 + o.d.count then cfErased else cfWord s w) ∧
      (3 ≤ o.op → t.cf.words = s.cf.words ∧ ∃ e, t.cf.completions = s.cf.completions ++ [e] ∧ e.tag = o.d.tag ∧ e.arrayUs = us) ∧
      (o.op = 5 → t.cf.hashOut = Config.sha3 (cfBytes s (o.d.address / 32) 0 (32 * o.d.count))) := by
  obtain ⟨a, ha⟩ : ∃ a, cfSetRun s b none = a := ⟨_, rfl⟩
  have set : a.cf = { s.cf with run0 := a.cf.run0, run1 := a.cf.run1 } := ha ▸ cfSetRun_cf s b none
  have words : a.cf.words = s.cf.words := by rw [set]
  have done : a.cf.completions = s.cf.completions := by rw [set]
  have same (w : Nat) : cfWord a w = cfWord s w := by rw [cfWord, words, ← cfWord]
  have bytes : cfBytes a = cfBytes s := funext fun w => funext fun off => funext fun n => by simp only [cfBytes, same]
  have frame := cfEnd_rewritten a o us
  obtain ⟨alone, idle⟩ := complete_of_rewritten run queue waiting (t := cfEnd a o none us) (by rw [ha]) (by rw [ha]; exact frame)
  dsimp only
  rw [cfComplete_undeferred _ _ _ now, alone]
  refine ⟨idle, fun one => ?_, fun two => ?_, fun three => ?_, fun five => ?_⟩
  · obtain ⟨inside, outside, -⟩ :=
      programWords_effect (s := a) (o.d.address / 32) o.d.count (fun i => o.words.getD i cfErased % 2 ^ 256) (by rw [words]; exact form)
    have left := programWords_cells a (o.d.address / 32) o.d.count (fun i => o.words.getD i cfErased % 2 ^ 256)
    rw [cfEnd_program us one]
    generalize programWords _ _ _ _ = p at *
    refine ⟨?_, fun k hk => (inside k hk).trans (by rw [same]), fun w hw => (outside w hw).trans (same w)⟩
    rw [(left.done _ _).2, done]
  · obtain ⟨cells, left⟩ := eraseSectors_effect a (o.d.address / 4096) o.d.count
    rw [cfEnd_erase us two]
    generalize eraseSectors _ _ _ = p at *
    refine ⟨by rw [(left.done _ _).2, done], fun w => (cells w).trans ?_⟩
    rw [same]
  · obtain ⟨u, e, finished, cf, tag, array, -⟩ := cfEnd_read (s := a) (o := o) us (by omega) (by omega)
    rw [finished, cfDone_cf, cf]
    exact ⟨words, e, by rw [← done], tag, array⟩
  · obtain ⟨u, e, finished, cf, -, -, hash⟩ := cfEnd_read (s := a) (o := o) us (by omega) (by omega)
    rw [finished, ← bytes]
    exact hash five

theorem operationFails_effect {k : Nat} (one : o.op = 1) (hk : k < o.d.count) : let t := cfComplete s b (some k) us
    cfRunning t b = none ∧ t.cf.completions = s.cf.completions ++ [⟨o.d.tag, 5, k, us, o.d.address + 32 * k⟩] ∧
      (∀ j, j < k → cfWord t (o.d.address / 32 + j) = cfWord s (o.d.address / 32 + j) &&& (o.words.getD j cfErased % 2 ^ 256)) ∧
      ∀ w, w < o.d.address / 32 ∨ o.d.address / 32 + k < w → cfWord t w = cfWord s w := by
  obtain ⟨a, ha⟩ : ∃ a, cfSetRun s b none = a := ⟨_, rfl⟩
  have set : a.cf = { s.cf with run0 := a.cf.run0, run1 := a.cf.run1 } := ha ▸ cfSetRun_cf s b none
  have words : a.cf.words = s.cf.words := by rw [set]
  have done : a.cf.completions = s.cf.completions := by rw [set]
  have same (w : Nat) : cfWord a w = cfWord s w := by rw [cfWord, words, ← cfWord]
  obtain ⟨inside, outside, -⟩ :=
    programWords_effect (s := a) (o.d.address / 32) k (fun i => o.words.getD i cfErased % 2 ^ 256) (by rw [words]; exact form)
  have left := programWords_cells a (o.d.address / 32) k (fun i => o.words.getD i cfErased % 2 ^ 256)
  have finished := cfEnd_program_fails (s := a) us one hk
  generalize programWords a _ _ _ = p at *
  -- the unit that failed holds some of its bits; no other word is touched
  obtain ⟨q, hq⟩ : ∃ q, cfSpoilWord p (o.d.address / 32 + k) (o.words.getD k cfErased % 2 ^ 256) = q := ⟨_, rfl⟩
  have spoiled : Cells p q := hq ▸ rfl
  have others (w : Nat) (h : w ≠ o.d.address / 32 + k) : cfWord q w = cfWord p w := hq ▸ cfWord_cfPut_ne _ h
  rw [hq] at finished
  obtain ⟨frame, completions⟩ := (left.trans spoiled).done o.d ⟨o.d.tag, 5, k, us, o.d.address + 32 * k⟩
  obtain ⟨alone, idle⟩ := complete_of_rewritten run queue waiting (t := cfEnd a o (some k) us) (by rw [ha]) (by rw [ha, finished]; exact frame)
  dsimp only
  rw [cfComplete_undeferred _ _ _ now, alone]
  rw [finished] at idle ⊢
  refine ⟨idle, by rw [completions, done], fun j hj => ?_, fun w hw => ?_⟩
  · exact (others _ (by omega)).trans ((inside j hj).trans (by rw [same]))
  · exact (others _ (by omega)).trans ((outside w (by omega)).trans (same w))

end Completion

/-- A watchdog reset that waited for the operation proceeds, with its flush (R375). -/
theorem deferredReset_effect {s : State} {b : Nat} {o : CfOp} (us : Nat) (hb : b < 2) (run : cfRunning s b = some o) (other : cfRunning s (1 - b) = none)
    (queue : s.cf.queue = []) (waiting : s.cf.waiting = []) (deferred : s.wdt.deferred = true) (up : railsUp s = true) (off : s.power.flushActive = false) :
    ∃ u, cfComplete s b none us = settle u ∧ u.power.flushActive = true ∧ u.power.afterFlush = 7 ∧ u.wdt.deferred = false := by
  have frame := cfEnd_rewritten (cfSetRun s b none) o us
  obtain ⟨alone, idle⟩ := complete_of_rewritten run queue waiting rfl frame
  have idle' : cfRunning (cfEnd (cfSetRun s b none) o none us) (1 - b) = none :=
    (cfRunning_congr frame _).trans ((cfRunning_set_other s none (by omega)).trans other)
  have keeps : Keeps 9345848836098 s (cfEnd (cfSetRun s b none) o none us) := alone ▸ (cfOperationComplete_from b none us).keeps
  generalize cfEnd (cfSetRun s b none) o none us = t at *
  have still : cfSectorBusy t = false := by
    have zero : t.cf.run0 = none ∧ t.cf.run1 = none := by
      obtain rfl | rfl : b = 0 ∨ b = 1 := by omega
      · exact ⟨idle, idle'⟩
      · exact ⟨idle', idle⟩
    rw [cfSectorBusy, zero.1, zero.2]
    rfl
  have goes : (t.wdt.deferred && !cfSectorBusy t) = true := by
    rw [keeps.wdt rfl, deferred, still]
    rfl
  obtain ⟨d, hd⟩ : ∃ d, Nat.min 25000 ((t.clk.nowNs - t.wdt.deferredNs) / 1000) = d := ⟨_, rfl⟩
  obtain ⟨x, hx⟩ : ∃ x, setV t K.wdtDeferMaxUs (Nat.max (v t K.wdtDeferMaxUs) d) = x := ⟨_, rfl⟩
  have set : Keeps 2 t x := hx ▸ (setV_from ..).keeps
  have event := (event_from (s := x) Ev.watchdogExpiry [v x K.wdtLastStalled, d]).keeps
  obtain ⟨e, he⟩ : ∃ e, Machine.event x Ev.watchdogExpiry [v x K.wdtLastStalled, d] = e := ⟨_, rfl⟩
  rw [he] at event
  obtain ⟨w, hw⟩ : ∃ w : State, { e with wdt := { e.wdt with deferred := false } } = w := ⟨_, rfl⟩
  have power : w.power = s.power := by rw [← hw, event.power rfl, set.power rfl, keeps.power rfl]
  have nand : w.nand = s.nand := by rw [← hw, event.nand rfl, set.nand rfl, keeps.nand rfl]
  obtain ⟨⟨active, -⟩, after, wdt, -⟩ := resetWithFlush_of_up (s := w) 7 (by rw [power]; exact off) (by rw [railsUp, power, nand]; exact up)
  refine ⟨resetWithFlush w 7, ?_, active, after, ?_⟩
  · rw [cfComplete]
    simp only [alone, goes, if_true, hd, hx]
    rw [watchdogGo, he, ← hw]
  · rw [wdt, ← hw]

-- ===== suspends (R381) =====

theorem cfSuspend_of_suspendable {s : State} {b : Nat} {o : CfOp} (run : cfRunning s b = some o) (writes : o.op = 1 ∨ o.op = 2) (may : o.d.noSuspend = false)
    (now : s.wdt.deferred = false) : cfSuspend s b = bump64 (cfSetRun s b (some { o with startNs := s.clk.nowNs })) K.cfSuspends := by
  simp only [cfSuspend, run, writes, may, now, Bool.not_false, and_self, if_true]

theorem cfSuspend_of_not {s : State} {b : Nat} {o : CfOp} (run : cfRunning s b = some o)
    (h : (o.op ≠ 1 ∧ o.op ≠ 2) ∨ o.d.noSuspend = true ∨ s.wdt.deferred = true) : cfSuspend s b = s := by
  simp only [cfSuspend, run]
  refine if_neg ?_
  rintro ⟨writes, may, now⟩
  rcases h with ⟨one, two⟩ | never | waits
  · exact writes.elim one two
  · rw [never] at may
    exact Bool.false_ne_true may
  · rw [waits] at now
    exact Bool.false_ne_true now

-- ===== the recovery image (R387) =====

theorem cfEraseSector_markers (s : State) (sec : Nat) : (cfEraseSector s sec).cf.markers = s.cf.markers := rfl

theorem cfProgramWord_markers (s : State) (w x : Nat) : (cfProgramWord s w x).cf.markers = s.cf.markers := rfl

theorem eraseSlot_markers (s : State) (slot : Nat) : (eraseSlot s slot).cf.markers = s.cf.markers := by
  unfold eraseSlot
  exact Resets.foldl_keep (fun u => u.cf.markers) (fun u i => cfEraseSector_markers u _) _ _

theorem programSlot_markers (s : State) (slot off : Nat) (b : Bytes) : (programSlot s slot off b).cf.markers = s.cf.markers := by
  unfold programSlot
  exact Resets.foldl_keep (fun u => u.cf.markers) (fun u i => cfProgramWord_markers u _ _) _ _

/-- The slot that takes a recovery image: that whose last marker has the lower SEQUENCE. -/
def recoverySlot (s : State) : Nat := if (slotMarker s 2).elim 0 Marker.seq < (slotMarker s 1).elim 0 Marker.seq then 2 else 1

/-- The slot, once the image has been programmed. -/
def recovered (s : State) (image : Bytes) : State := programSlot (eraseSlot s (recoverySlot s)) (recoverySlot s) 0 image

/-- The operation of FW_RECOVERY_IMAGE. -/
def recoveryOp (s : State) (image : Bytes) : Nat × State :=
  if slotBytes < image.length then (0x12, s)
  else if imageFault (recovered s image) (recoverySlot s) false = 0 then (0, activateSlot (recovered s image) (recoverySlot s))
  else (if imageFault (recovered s image) (recoverySlot s) false = 4 then 0x11 else 0x12, recovered s image)

theorem fwRecoveryImage_of_recovery {s : State} (a : Access) (image : Bytes) (on : s.boot.recovery = true) :
    fwRecoveryImage s a image = accessBytes s a 0x8010 0x0A 0 image (fun s _ => coded (recoveryOp s image)) := by
  rw [fwRecoveryImage, on]
  simp only [Bool.not_true, Bool.false_eq_true, if_false]
  refine congrArg (accessBytes s a 0x8010 0x0A 0 image) (funext fun u => funext fun _ => ?_)
  unfold recoveryOp
  by_cases big : slotBytes < image.length
  · rw [if_pos big, if_pos big]
    rfl
  · rw [if_neg big, if_neg big]
    have same : programSlot (eraseSlot u (if (slotMarker u 2).elim 0 Marker.seq < (slotMarker u 1).elim 0 Marker.seq then 2 else 1))
      (if (slotMarker u 2).elim 0 Marker.seq < (slotMarker u 1).elim 0 Marker.seq then 2 else 1) 0 image = recovered u image := rfl
    rw [same, ← recoverySlot]
    split <;> rfl

theorem recoveryOp_effect {s : State} {image : Bytes} (fits : image.length ≤ slotBytes) : (recoveryOp s image).2.boot = s.boot ∧
    ((recoveryOp s image).1 = 0 → ∃ m, (recoveryOp s image).2.cf.markers = s.cf.markers ++ [m] ∧ m.kind = 1 ∧ m.confirmed = false ∧ m.seq = lastSeq s + 1 ∧
      (m.slot = 1 ∨ m.slot = 2)) ∧
    ((recoveryOp s image).1 ≠ 0 → ((recoveryOp s image).1 = 0x11 ∨ (recoveryOp s image).1 = 0x12) ∧ (recoveryOp s image).2.cf.markers = s.cf.markers) := by
  have markers : (recovered s image).cf.markers = s.cf.markers := (programSlot_markers ..).trans (eraseSlot_markers ..)
  have boot : (recovered s image).boot = s.boot := ((programSlot_from ..).keeps.boot rfl).trans ((eraseSlot_from ..).keeps.boot rfl)
  have slot : recoverySlot s = 1 ∨ recoverySlot s = 2 := by
    unfold recoverySlot
    split
    · exact .inr rfl
    · exact .inl rfl
  unfold recoveryOp
  rw [if_neg (Nat.not_lt.2 fits)]
  generalize recovered s image = r at *
  by_cases good : imageFault r (recoverySlot s) false = 0
  · rw [if_pos good]
    refine ⟨((activateSlot_from ..).keeps.boot rfl).trans boot, fun _ => ?_, fun h => absurd rfl h⟩
    obtain ⟨m, hm⟩ : ∃ m : Marker, m = ⟨recoverySlot s, 1, false, lastSeq r + 1, Config.sha384 (imgSigned r (recoverySlot s)) % 2 ^ 96⟩ := ⟨_, rfl⟩
    refine ⟨m, ?_, ?_, ?_, ?_, ?_⟩
    · show r.cf.markers ++ [_] = _
      rw [markers, hm]
    · rw [hm]
    · rw [hm]
    · rw [hm]
      show lastSeq r + 1 = _
      rw [lastSeq, markers, ← lastSeq]
    · rw [hm]
      exact slot
  · rw [if_neg good]
    refine ⟨boot, fun h => ?_, fun _ => ⟨?_, markers⟩⟩
    · dsimp only at h
      split at h <;> exact absurd h (by decide)
    · dsimp only
      split
      · exact .inl rfl
      · exact .inr rfl

-- ===== registers of the maker and of the update (R383, R392) =====

/-- A write that passes its checks answers with the code its operation gives, and leaves what the operation left. -/
theorem accessWrite_done {s t : State} {a : Access} {idx sub x code : Nat} {f : State → Nat → Ans × State} (allowed : Allowed s a idx sub x)
    (h : ∀ n, f s n = (.code code, t)) : let u := accessWrite s a idx sub x f
    Answered u a.path 2 a.tag code [] ∧ OnlyAnswered t u [] ∧ u.cf = t.cf := by
  obtain ⟨r, key, found, good⟩ := allowed
  have run := accessWrite_of_ok f found good
  rw [h] at run
  dsimp only
  rw [run]
  exact ⟨respond_answered .., respond_onlyAnswered .., (respond_from ..).keeps.cf rfl⟩

/-- The operation of CF_UNLOCK_REGION. -/
def unlockOp (s : State) (x : Nat) : Ans × State :=
  if s.cf.pwFails ≥ 3 then (.code 0x0F, cfLast s 0x08 (x * 0x100000))
  else if s.cf.pwWords.length ≠ 4 then (.code 0x0D, s)
  else if decide (pwNumber s.cf.pwWords = s.cf.password) then
    (.code 0, { s with cf := { s.cf with pwWords := [], unlocked := x :: s.cf.unlocked.filter (· != x) } })
  else (.code 0x0F, cfLast (setV { s with cf := { s.cf with pwWords := [], pwFails := s.cf.pwFails + 1 } } K.cfPasswordFails
    (Nat.min 3 (v s K.cfPasswordFails + 1))) 0x07 (x * 0x100000))

/-- The operation of CF_PASSWORD_CHANGE. -/
def passwordOp (s : State) : Ans × State :=
  if s.cf.unlocked.contains 62 && s.cf.pwWords.length == 4 then (.code 0, { s with cf := { s.cf with password := pwNumber s.cf.pwWords, pwWords := [] } })
  else (.code 0x0D, s)

theorem onlyAnswered_v {t u : State} {k x : Nat} (h : OnlyAnswered t u []) (e : v t k = x) (apart : k ∉ answerKeys) : v u k = x :=
  (h.2 k apart).trans e

/-- Settles O53: descriptors by their checks and banks, words by AND and erasure, and the writes of the maker's and the recovery's entries by their operations. -/
theorem codeFlash : Obligations.code_flash := by
  refine fun s => ⟨fun i op d ws b o desc hb ho queue waiting => ⟨fun idle passes => ?_, fun idle fails => ?_, fun busy => ?_⟩,
    fun b o us hb run queue waiting now form => ⟨⟨_, rfl, operationComplete_effect run queue waiting us now form⟩,
      fun k one hk => ⟨_, rfl, operationFails_effect run queue waiting us now form one hk⟩⟩,
    fun b o us hb run other queue waiting deferred up off => ?_, fun b k us none' now => ?_,
    fun b o hb run => ⟨fun writes may now => ?_, fun h => next_congr (cfSuspend_of_not run h)⟩, fun b none' => ?_,
    fun src dst len digest => ?_, fun a b off => ?_, fun a b on reach => ⟨fun big => ?_, fun fits => ?_⟩, fun a x allowed => ⟨fun lo hi => ?_, fun out => ?_⟩,
    fun a w x hw allowed => ?_, fun a x allowed => ⟨fun many => ?_, fun few short => ?_, fun few four same => ?_, fun few four differs => ?_⟩,
    fun a x allowed => ?_, fun a x allowed => ⟨fun ready four => ?_, fun closed => ?_⟩⟩
  · rw [exec_of_cfDescOf desc]
    refine ⟨_, next_congr ((cfArrive_alone ho queue waiting hb).trans ((if_neg (Classical.not_not.2 idle)).trans (if_pos passes))), cfRunning_set_self .., ?_, ?_, ?_, ?_, ?_⟩
    · rw [cfSetRun_cf]
      exact queue
    · exact cfRunning_set_other _ _ (by omega)
    · rw [cfSetRun_cf]
    · rw [cfSetRun_cf]
    · exact (cfSetRun_from ..).keeps
  · rw [exec_of_cfDescOf desc]
    refine ⟨_, next_congr ((cfArrive_alone ho queue waiting hb).trans ((if_neg (Classical.not_not.2 idle)).trans (if_neg fails))), ?_, v_setV_self .., fun one => ?_⟩
    · rw [cfDone_cf]
      split <;> rfl
    · rw [if_pos one]
      exact (v_setV_ne _ _ (by decide)).trans (v_setV_self ..)
  · rw [exec_of_cfDescOf desc]
    exact next_congr ((cfArrive_alone ho queue waiting hb).trans (if_pos busy))
  · obtain ⟨u, done, h⟩ := deferredReset_effect us hb run other queue waiting deferred up off
    exact ⟨u, next_congr done, h⟩
  · refine next_congr ((cfComplete_undeferred b k us now).trans ?_)
    simp only [cfOperationComplete, none']
  · refine ⟨_, next_congr (cfSuspend_of_suspendable run writes may now), cfRunning_set_self .., ?_, ?_⟩
    · refine (v_setV_self ..).trans ?_
      rw [v_of_dict ((cfSetRun_from ..).keeps.dict rfl)]
    · show (cfSetRun s b _).cf.words = _
      rw [cfSetRun_cf]
  · refine next_congr ?_
    simp only [cfSuspend, none']
  · refine ⟨_, _, rfl, rfl, fun same => if_pos same, fun differs => if_neg differs⟩
  · have run : fwRecoveryImage s a b = respond s a.path 5 a.tag a.cid 0x8010 0x0A (.code 1) 0 [] := if_pos (by rw [off]; rfl)
    exact ⟨_, next_congr run, respond_answered .., respond_onlyAnswered ..⟩
  · have run := fwRecoveryImage_of_recovery a b on
    obtain ⟨answered, only⟩ := Security.accessBytes_refused (f := fun s => recoveryOp s b) (b := b) reach (by decide) (if_pos big)
    exact ⟨_, next_congr run, answered, by rw [only.1]⟩
  · have run := fwRecoveryImage_of_recovery a b on
    rw [Security.accessBytes_op (f := fun s => recoveryOp s b) reach (by decide)] at run
    have keeps := (respond_from (s := (recoveryOp s b).2) a.path 5 a.tag a.cid 0x8010 0x0A (.code (recoveryOp s b).1) 0 []).keeps
    have cf := keeps.cf rfl
    have boot := keeps.boot rfl
    obtain ⟨same, good, bad⟩ := recoveryOp_effect (s := s) fits
    refine ⟨_, _, next_congr run, respond_answered .., boot.trans same, fun zero => ?_, fun other => ?_⟩
    · rw [cf]
      exact good zero
    · rw [cf]
      exact bad other
  · obtain ⟨answered, only, -⟩ := accessWrite_done allowed (f := fun s _ => if x > s.boot.secVersion ∨ x < v s K.fwRollbackFuse then (.code 0x07, s)
      else (.code 0, setV s K.fwRollbackFuse x)) (fun _ => if_neg (by omega))
    refine ⟨_, rfl, onlyAnswered_v only (v_setV_self ..) (by decide), answered, ?_⟩
    exact onlyAnswered_trans (onlyAnswered_of_entries rfl (onlyEntries_setV _ _ _)) ⟨only.1, onlyEntries_mono only.2 (by decide)⟩
  · obtain ⟨answered, only, -⟩ := accessWrite_done allowed (f := fun s _ => if x > s.boot.secVersion ∨ x < v s K.fwRollbackFuse then (.code 0x07, s)
      else (.code 0, setV s K.fwRollbackFuse x)) (fun _ => if_pos (by omega))
    exact ⟨_, rfl, answered, only⟩
  · by_cases next : w = s.cf.pwWords.length
    · obtain ⟨answered, -, cf⟩ := accessWrite_done allowed (f := fun s _ =>
        if w = s.cf.pwWords.length then (.code 0, { s with cf := { s.cf with pwWords := s.cf.pwWords ++ [x] } })
        else (.code 0x0D, { s with cf := { s.cf with pwWords := [] } })) (fun _ => if_pos next)
      rw [if_pos next, if_pos next]
      exact ⟨_, rfl, answered, cf⟩
    · obtain ⟨answered, -, cf⟩ := accessWrite_done allowed (f := fun s _ =>
        if w = s.cf.pwWords.length then (.code 0, { s with cf := { s.cf with pwWords := s.cf.pwWords ++ [x] } })
        else (.code 0x0D, { s with cf := { s.cf with pwWords := [] } })) (fun _ => if_neg next)
      rw [if_neg next, if_neg next]
      exact ⟨_, rfl, answered, cf⟩
  · obtain ⟨answered, only, cf⟩ := accessWrite_done allowed (f := fun s _ => unlockOp s x) (fun _ => if_pos many)
    exact ⟨_, rfl, answered, cf, onlyAnswered_v only (v_setV_self ..) (by decide)⟩
  · obtain ⟨answered, -, cf⟩ := accessWrite_done allowed (f := fun s _ => unlockOp s x) (fun _ => (if_neg (by omega)).trans (if_pos short))
    exact ⟨_, rfl, answered, cf⟩
  · obtain ⟨answered, -, cf⟩ := accessWrite_done allowed (f := fun s _ => unlockOp s x)
      (fun _ => (if_neg (by omega)).trans ((if_neg (Classical.not_not.2 four)).trans (if_pos (decide_eq_true same))))
    exact ⟨_, rfl, answered, cf⟩
  · obtain ⟨answered, only, cf⟩ := accessWrite_done allowed (f := fun s _ => unlockOp s x)
      (fun _ => (if_neg (by omega)).trans ((if_neg (Classical.not_not.2 four)).trans (if_neg (by rw [decide_eq_false differs]; exact Bool.false_ne_true))))
    exact ⟨_, rfl, answered, cf, onlyAnswered_v only ((v_setV_ne _ _ (by decide)).trans (v_setV_self ..)) (by decide)⟩
  · obtain ⟨answered, -, cf⟩ := accessWrite_done allowed (f := fun s _ => (.code 0, { s with cf := { s.cf with unlocked := s.cf.unlocked.filter (· != x) } }))
      (fun _ => rfl)
    exact ⟨_, rfl, answered, cf⟩
  · obtain ⟨answered, -, cf⟩ := accessWrite_done allowed (f := fun s _ => passwordOp s)
      (fun _ => if_pos (by rw [List.contains_iff_mem.2 ready, beq_iff_eq.2 four]; rfl))
    exact ⟨_, rfl, answered, cf⟩
  · obtain ⟨answered, -, cf⟩ := accessWrite_done allowed (f := fun s _ => passwordOp s) (fun _ => if_neg (by
      rintro both
      obtain ⟨has, four⟩ := Bool.and_eq_true_iff.1 both
      rcases closed with no | other
      · exact no (List.contains_iff_mem.1 has)
      · exact other (beq_iff_eq.1 four)))
    exact ⟨_, rfl, answered, cf⟩

end Sys2Proof.CodeFlash

/-! The DRAM controller: negotiation, requests, refreshes, row tables and retraining pauses (R288 to R302). -/
namespace Sys2Proof.Dram
open Sys2Proof Sys2Proof.Machine Sys2Proof.Effects Sys2Proof.Stores

-- ===== a fatal package =====

theorem setCfs_cfs (s : State) (n : Nat) : (inst (setCfs s n) n).cfs = true := by
  unfold setCfs
  rw [inst_modInst_self]

theorem setCfs_stays {s : State} {k : Nat} (n : Nat) (h : (inst s k).cfs = true) : (inst (setCfs s n) k).cfs = true := by
  by_cases same : k = n
  · rw [same]
    exact setCfs_cfs s n
  · unfold setCfs
    rw [inst_modInst_ne _ _ same]
    exact h

theorem foldl_setCfs (l : List Nat) (s : State) {n : Nat} (h : n ∈ l ∨ (inst s n).cfs = true) : (inst (l.foldl setCfs s) n).cfs = true := by
  induction l generalizing s with
  | nil => exact h.resolve_left List.not_mem_nil
  | cons k l ih =>
    refine ih _ ?_
    rcases h with m | already
    · rcases List.mem_cons.1 m with rfl | later
      · exact .inr (setCfs_cfs s n)
      · exact .inl later
    · exact .inr (setCfs_stays k already)

/-- Every function reports a fatal status. -/
theorem cfsAll_cfs (s : State) {n : Nat} (lt : n < 1024) (there : fnExists s n = true) : (inst (cfsAll s) n).cfs = true :=
  foldl_setCfs _ _ (.inl (List.mem_filter.2 ⟨List.mem_range.2 lt, there⟩))

theorem keeps_foldl {β : Type} {m : Nat} {f : State → β → State} (h : ∀ u b, Keeps m u (f u b)) (l : List β) (s : State) : Keeps m s (l.foldl f s) := by
  induction l generalizing s with
  | nil => exact Keeps.refl _ _
  | cons b l ih => exact (h s b).trans (ih _)

theorem fnExists_congr {s t : State} (mode : t.portMode = s.portMode) (split : t.vfSplit = s.vfSplit) (a : t.portA = s.portA) (b : t.portB = s.portB) (n : Nat) :
    fnExists t n = fnExists s n := by
  unfold fnExists isPf portOf port vfNumber
  rw [mode, split, a, b]

-- ===== negotiation (R290 to R292) =====

/-- The channels that do not match, or do not train. -/
def failing (s : State) (l : List (Nat × List Nat)) : List Nat :=
  (List.range 6).filter (fun ch => dramCause (fld (v s K.dramGeometry) 15 4) (v s K.dramTargetRate) (l.getD ch (0, [])) != 0)

theorem failing_eq_nil {s : State} {l : List (Nat × List Nat)} :
    failing s l = [] ↔ ∀ ch < 6, dramCause (fld (v s K.dramGeometry) 15 4) (v s K.dramTargetRate) (l.getD ch (0, [])) = 0 := by
  simp only [failing, List.filter_eq_nil_iff, List.mem_range, bne_iff_ne, ne_eq, Classical.not_not]

/-- A channel that fails makes the package fatal. -/
theorem dramNegotiate_fails {s : State} {l : List (Nat × List Nat)} (some' : failing s l ≠ []) :
    ∃ u : State, dramNegotiate s l = cfsAll u ∧ u.dram = { s.dram with failed := true } ∧ Keeps 137438953730 s u := by
  obtain ⟨bad, hbad⟩ : ∃ bad, failing s l = bad := ⟨_, rfl⟩
  have first : (!bad.isEmpty) = true := by
    cases bad with
    | nil => exact absurd hbad some'
    | cons a r => rfl
  obtain ⟨f, hf⟩ : ∃ f, bad.foldl (fun u ch => dramFatal u ch
      (dramCause (fld (v s K.dramGeometry) 15 4) (v s K.dramTargetRate) (l.getD ch (0, [])))
      (v s K.dramTargetRate * 2 ^ 16 + v s K.dramGeometry % 2 ^ 16)) s = f := ⟨_, rfl⟩
  have kept : Keeps 258 s f := hf ▸ keeps_foldl (fun u ch => (dramFatal_from _ _ _).keeps) _ s
  refine ⟨{ f with dram := { s.dram with failed := true } }, ?_, rfl, ?_⟩
  · rw [failing] at hbad
    simp only [dramNegotiate, hbad, first, if_true, hf, -Nat.reducePow]
  · exact (kept.weaken rfl).trans (Keeps.leaf (c := 137438953472) rfl rfl)

theorem dramMasks_frame (s : State) (r w d : Nat) : ∃ m, (dramMasks s r w d).dram = { s.dram with masks := m } ∧
    OnlyEntries s (dramMasks s r w d) recordKeys := by
  simp only [dramMasks]
  split
  · exact ⟨_, rfl, onlyEntries_of_dict _ rfl⟩
  next i _ =>
    obtain ⟨u, hu⟩ : ∃ u : State, { s with dram := { s.dram with masks := (homeBits r w d).map (fun h => h.elim 0 (2 ^ ·)) } } = u := ⟨_, rfl⟩
    rw [hu]
    refine ⟨(homeBits r w d).map (fun h => h.elim 0 (2 ^ ·)), ?_, ?_⟩
    · rw [(event_from ..).keeps.dram rfl, ← hu]
    · exact onlyEntries_congr (event_onlyEntries u _ _) (hu ▸ rfl) rfl

/-- The entries of the layout. -/
def layoutKeys : List Nat := [K.writeBufferGib, K.capWriteBuffer, K.mapCacheBytes, unitKey K.wmRecord 5]

theorem dramLayout_onlyEntries (s : State) (bytes : Nat) : OnlyEntries s (dramLayout s bytes) (recordKeys ++ layoutKeys) := by
  simp only [dramLayout]
  obtain ⟨gib, hg⟩ : ∃ gib, writeBufferGib s bytes = gib := ⟨_, rfl⟩
  obtain ⟨e, he⟩ : ∃ e, (if (s.dict.get? K.writeBufferGib).isSome = true ∧ gib < v s K.writeBufferGib then event s Ev.writeBufferLimited [v s K.writeBufferGib, gib]
    else s) = e := ⟨_, rfl⟩
  have first : OnlyEntries s e recordKeys := by
    rw [← he]
    split
    · exact event_onlyEntries _ _ _
    · exact onlyEntries_refl _ _
  rw [hg, he]
  refine onlyEntries_append first ?_
  have set (u : State) (k x : Nat) (m : k ∈ layoutKeys) : OnlyEntries u (setV u k x) layoutKeys :=
    onlyEntries_mono (onlyEntries_setV u k x) (fun j hj => List.mem_singleton.1 hj ▸ m)
  exact onlyEntries_trans (onlyEntries_trans (onlyEntries_trans (set _ _ _ (by decide)) (set _ _ _ (by decide))) (set _ _ _ (by decide))) (set _ _ _ (by decide))

/-- The rate: the lowest that a channel reached. -/
def reachedRate (s : State) (l : List (Nat × List Nat)) : Nat :=
  ((List.range 6).map (fun ch => (dramReached (v s K.dramTargetRate) (l.getD ch (0, [])).2).getD 0)).foldl Nat.min 8000

theorem dramNegotiate_settles {s : State} {l : List (Nat × List Nat)} {geo bytes : Nat} (hg : geo = v s K.dramGeometry)
    (hb : bytes = 6 * channelBytes (fld geo 15 12) (fld geo 11 8) (fld geo 7 4)) (fits : bytes ≤ 192 * 2 ^ 30) (good : failing s l = []) :
    ∃ u : State, dramNegotiate s l = dramLayout (dramMasks u (fld geo 15 12) (fld geo 11 8) (fld geo 7 4)) bytes ∧ u.dram.negotiated = true ∧
      u.dram.failed = false ∧ v u K.dramBytes = bytes ∧ v u K.dramRate = reachedRate s l ∧ v u K.dramUsable = 36 * reachedRate s l := by
  have first : ¬ (!(failing s l).isEmpty) = true := by
    rw [good]
    exact Bool.false_ne_true
  have second : ¬ bytes > 192 * 2 ^ 30 := Nat.not_lt.2 fits
  obtain ⟨w, hw⟩ : ∃ w, (List.range 6).foldl (fun u ch =>
      let t := negSettle u (unitKey K.dramNegotiation ch) 3 (reachedRate s l * 2 ^ 16 + fld geo 15 4 * 16) (v s K.dramTargetRate * 2 ^ 16 + geo % 2 ^ 16)
      if reachedRate s l * 2 ^ 16 + fld geo 15 4 * 16 = v s K.dramTargetRate * 2 ^ 16 + geo % 2 ^ 16 then t
      else event t Ev.dramNegLower [ch, reachedRate s l * 2 ^ 16 + fld geo 15 4 * 16]) s = w := ⟨_, rfl⟩
  obtain ⟨x, hx⟩ : ∃ x, setV (setV (setV w K.dramBytes bytes) K.dramRate (reachedRate s l)) K.dramUsable (36 * reachedRate s l) = x := ⟨_, rfl⟩
  refine ⟨{ x with dram := { x.dram with
      negotiated := true, failed := false, ranks := fld geo 15 12, width := fld geo 11 8, density := fld geo 7 4
      chans := (List.range 6).map (fun ch => (ch, ⟨true, none, 0, []⟩)), subs := [] } }, ?_, rfl, rfl, ?_, ?_, ?_⟩
  · rw [← hx, ← hw]
    unfold dramNegotiate
    dsimp only
    rw [← hg, ← hb]
    exact ((if_neg (by rw [hg]; exact first)).trans (if_neg second))
  · show v x K.dramBytes = _
    rw [← hx, v_setV_ne _ _ (by decide), v_setV_ne _ _ (by decide), v_setV_self]
  · show v x K.dramRate = _
    rw [← hx, v_setV_ne _ _ (by decide), v_setV_self]
  · show v x K.dramUsable = _
    rw [← hx, v_setV_self]

-- ===== requests (R293 to R296) =====

theorem takeIn_all (n : Nat) (b : SubCh) : (SubCh.takeIn n b).queue ++ (SubCh.takeIn n b).input = b.queue ++ b.input := by
  induction n generalizing b with
  | zero => rfl
  | succ n ih =>
    unfold SubCh.takeIn
    split
    next r t hr =>
      split
      · rw [ih, hr, List.append_assoc, List.singleton_append]
      · rfl
    next => rfl

theorem takeIn_nil (n : Nat) {b : SubCh} (h : b.input = []) : SubCh.takeIn n b = b := by
  cases n with
  | zero => rfl
  | succ n =>
    unfold SubCh.takeIn
    rw [h]

theorem takeIn_one (n : Nat) {b : SubCh} {r : DramReq} (h : b.input = [r]) (room : b.room r.bank = true) :
    SubCh.takeIn (n + 1) b = { b with queue := b.queue ++ [r], input := [] } := by
  unfold SubCh.takeIn
  rw [h]
  dsimp only
  rw [if_pos room, takeIn_nil n rfl]

theorem drain_all (b : SubCh) : b.drain.queue = b.queue ∧ b.drain.input = b.input := ⟨rfl, rfl⟩

theorem subAt_modSub_self (s : State) (k : Nat) (f : SubCh → SubCh) : subAt (modSub s k f) k = f (subAt s k) := Assoc.getD_put_self ..

/-- The request of an access. -/
def reqAt (s : State) (addr : Nat) (write : Bool) (data : Nat) : DramReq :=
  { burst := addr / 64, write := write, data := data % 2 ^ 512, bank := bankOf s (dramLocal addr), row := dramRow s (dramLocal addr), ns := s.clk.nowNs }

/-- A request joins those of its subchannel. -/
def arrived (s : State) (addr : Nat) (write : Bool) (data : Nat) : State :=
  modSub s (dramChannel addr * 2 + subOf (dramLocal addr))
    (fun b => SubCh.drain (SubCh.takeIn 256 { b with input := b.input ++ [reqAt s addr write data] }))

theorem dramRequest_arrives {s : State} {addr : Nat} {write : Bool} {b : SubCh} (data : Nat) (opps : List DramOpp)
    (hb : b = subAt s (dramChannel addr * 2 + subOf (dramLocal addr)))
    (h : write = true ∨ ((b.queue ++ b.input).filter (fun x => x.write && x.burst == addr / 64)).getLast? = none) :
    dramRequest s addr write data opps = opps.foldl (fun s o => dramServe s (dramChannel addr * 2 + subOf (dramLocal addr)) o) (arrived s addr write data) := by
  have nothing : (if write then none else ((b.queue ++ b.input).filter (fun x => x.write && x.burst == addr / 64)).getLast?) = none := by
    cases write with
    | true => rfl
    | false => exact h.resolve_left Bool.false_ne_true
  rw [hb] at nothing
  unfold dramRequest
  dsimp only
  rw [nothing]
  rfl

theorem arrived_all (s : State) (addr : Nat) (write : Bool) (data : Nat) {k : Nat} (hk : k = dramChannel addr * 2 + subOf (dramLocal addr)) :
    (subAt (arrived s addr write data) k).queue ++ (subAt (arrived s addr write data) k).input =
      (subAt s k).queue ++ (subAt s k).input ++ [reqAt s addr write data] := by
  rw [arrived, ← hk, subAt_modSub_self]
  rw [(drain_all _).1, (drain_all _).2, takeIn_all, List.append_assoc]

-- ===== a command opportunity (R295, R302) =====

theorem parity_lt (x : Nat) : parity x < 2 := Nat.mod_lt _ (by decide)

theorem bankBit_lt (s : State) (l i : Nat) : bankBit s l i < 2 := by
  unfold bankBit
  split
  · exact parity_lt _
  · decide

theorem bankOf_lt (s : State) (l : Nat) : bankOf s l < 64 := by
  have b0 := bankBit_lt s l 0
  have b1 := bankBit_lt s l 1
  have b2 := bankBit_lt s l 2
  have b3 := bankBit_lt s l 3
  have b4 := bankBit_lt s l 4
  have b5 := bankBit_lt s l 5
  unfold bankOf
  omega

/-- Every bank comes up once in the rotation after the last activate. -/
theorem bank_in_rotation (last k : Nat) (h : k < 64) : k ∈ (List.range 64).map (fun i => (last + 1 + i) % 64) :=
  List.mem_map.2 ⟨(k + 64 * (last + 1) - (last + 1)) % 64, List.mem_range.2 (Nat.mod_lt _ (by decide)), by omega⟩

/-- A request alone on a subchannel whose bank is ready is the one served. -/
theorem pickBank_alone {b : SubCh} {r : DramReq} {ready : List Nat} (alone : b.queue = [r]) (lt : r.bank < 64) (may : r.bank ∈ ready) :
    pickBank b ready = some r.bank := by
  have only : ∀ k, (ready.contains k && b.queue.any (fun r => r.bank == k)) = true ↔ k = r.bank := fun k => by
    rw [alone]
    simp only [List.any_cons, List.any_nil, Bool.or_false, Bool.and_eq_true, beq_iff_eq, List.contains_iff_mem]
    exact ⟨fun h => h.2.symm, fun h => ⟨h ▸ may, h.symm⟩⟩
  unfold pickBank
  cases found : ((List.range 64).map (fun i => (b.lastAct + 1 + i) % 64)).find? (fun k => ready.contains k && b.queue.any (fun r => r.bank == k)) with
  | none => exact absurd ((only _).2 rfl) (List.find?_eq_none.1 found _ (bank_in_rotation b.lastAct r.bank lt))
  | some k =>
    have fits : (ready.contains k && b.queue.any (fun r => r.bank == k)) = true := by simpa using List.find?_some found
    rw [(only k).1 fits]

theorem pickReq_alone {b : SubCh} {r : DramReq} (now cap : Nat) (alone : b.queue = [r]) : pickReq b r.bank now cap = some r := by
  have first : b.first r.bank = [r] := by simp [SubCh.first, alone]
  have pref (p : DramReq → Bool) : (if ([r].filter p).isEmpty then [r] else [r].filter p) = [r] := by
    cases h : p r <;> simp [h]
  have find (p : DramReq → Bool) : [r].find? p = none ∨ [r].find? p = some r := by
    cases h : p r
    · exact .inl (by simp [h])
    · exact .inr (by simp [h])
  unfold pickReq
  dsimp only
  rw [first]
  rcases find (fun r => decide (now - r.ns > 2000)) with h | h
  · rw [h]
    dsimp only
    rw [pref]
    rcases find (fun x => x.write == b.draining) with d | d
    · rw [d]
      rfl
    · rw [d]
  · rw [h]

/-- The queues of a subchannel that was empty, with the request in. -/
theorem arrived_alone {s : State} {addr k : Nat} (write : Bool) (data : Nat) (hk : k = dramChannel addr * 2 + subOf (dramLocal addr))
    (queue : (subAt s k).queue = []) (input : (subAt s k).input = []) : (subAt (arrived s addr write data) k).queue = [reqAt s addr write data] := by
  have room : SubCh.room { subAt s k with input := [reqAt s addr write data] } (reqAt s addr write data).bank = true := by
    simp only [SubCh.room, queue]
    rfl
  rw [arrived, ← hk, subAt_modSub_self, (drain_all _).1, input, List.nil_append, takeIn_one 255 rfl room]
  exact congrArg (· ++ [reqAt s addr write data]) queue

/-- Between `s` and `t` of the DRAM controller the subchannels alone changed. -/
def SubsOnly (s t : State) : Prop := t.dram = { s.dram with subs := t.dram.subs }

theorem SubsOnly.modSub {s t : State} (h : SubsOnly s t) (k : Nat) (f : SubCh → SubCh) : SubsOnly s (modSub t k f) := by
  unfold SubsOnly at h
  unfold SubsOnly Machine.modSub
  rw [h]

theorem SubsOnly.of_same {s t u : State} (h : SubsOnly s t) (e : u.dram = t.dram) : SubsOnly s u := by
  unfold SubsOnly at h ⊢
  rw [e, h]

theorem activate_subsOnly (s : State) (k bank row : Nat) : SubsOnly s (activate s k bank row) := by
  have bumped (u : State) (p : Prop) [Decidable p] (key : Nat) : (if p then bump64 u key else u).dram = u.dram := by
    split <;> rfl
  unfold activate
  dsimp only
  refine SubsOnly.modSub ?_ k _
  refine SubsOnly.of_same (t := s) rfl ?_
  rw [bumped, bumped]

/-- What an opportunity does before the data: the row, the queue. -/
theorem dramServe_write {s : State} {k : Nat} {o : DramOpp} {r : DramReq} (free : dramBlocked s (k / 2) = false)
    (alone : (subAt s k).queue = [r]) (lt : r.bank < 64) (may : r.bank ∈ o.ready) (write : r.write = true) : ∃ u,
    dramServe s k o = serveWrite u r o ∧ SubsOnly s u := by
  have picked : (pickBank (subAt s k) o.ready).bind (fun bank => pickReq (subAt s k) bank s.clk.nowNs (v s K.rowHitCap)) = some r := by
    rw [pickBank_alone alone lt may]
    exact pickReq_alone _ _ alone
  obtain ⟨m, hm⟩ : ∃ m, (if (subAt s k).openRow.get? r.bank == some r.row then modSub s k (fun b => { b with hits := b.hits.updD r.bank 0 (· + 1) })
    else activate s k r.bank r.row) = m := ⟨_, rfl⟩
  have frame : SubsOnly s m := by
    rw [← hm]
    split
    · rfl
    · exact activate_subsOnly _ _ _ _
  refine ⟨modSub m k (fun b => SubCh.drain (SubCh.takeIn 256 { b with queue := b.queue.erase r })), ?_, ?_⟩
  · unfold dramServe
    rw [if_neg (by rw [free]; exact Bool.false_ne_true)]
    dsimp only
    rw [picked]
    dsimp only
    rw [hm, if_pos write]
  · exact frame.modSub k _

/-- A write without a CRC failure gives its burst its data. -/
theorem serveWrite_good {s : State} {r : DramReq} {o : DramOpp} (good : o.crcFails = 0) : ∃ u : State, serveWrite s r o = putBurst u r.burst r.data ∧
    u.dram = s.dram := by
  have zero : (if v s K.dramRate ≥ 5600 then o.crcFails else 0) = 0 := by
    rw [good]
    exact ite_self _
  refine ⟨bump s K.writeCrcRetries 32 (Nat.min 0 3), ?_, rfl⟩
  simp only [serveWrite, zero, Nat.zero_le, if_true]

theorem burstData_putBurst_self {s : State} (burst data : Nat) (form : s.dram.mem.wf = true) : burstData (putBurst s burst data) burst = data % 2 ^ 512 := by
  unfold burstData putBurst
  dsimp only
  by_cases zero : data % 2 ^ 512 = 0
  · rw [if_pos zero, Assoc.getD, get?_del_self burst form, zero]
    rfl
  · rw [if_neg zero]
    exact Assoc.getD_put_self ..

theorem burstData_putBurst_ne {s : State} {burst x : Nat} (data : Nat) (h : x ≠ burst) : burstData (putBurst s burst data) x = burstData s x := by
  unfold burstData putBurst
  dsimp only
  by_cases zero : data % 2 ^ 512 = 0
  · rw [if_pos zero, Assoc.getD, get?_del_ne _ h, ← Assoc.getD]
  · rw [if_neg zero, Assoc.getD, Assoc.get?_put_ne _ _ h, ← Assoc.getD]

/-- A write alone on a ready subchannel is served at once. -/
theorem dramRequest_alone {s : State} {addr k : Nat} {o : DramOpp} (d : Nat) (hk : k = dramChannel addr * 2 + subOf (dramLocal addr))
    (queue : (subAt s k).queue = []) (input : (subAt s k).input = []) (form : s.dram.mem.wf = true) (free : dramBlocked s (k / 2) = false)
    (may : bankOf s (dramLocal addr) ∈ o.ready) (good : o.crcFails = 0) : let t := dramRequest s addr true d [o]
    burstData t (addr / 64) = d % 2 ^ 512 ∧ ∀ x, x ≠ addr / 64 → burstData t x = burstData s x := by
  have run := dramRequest_arrives (s := s) (addr := addr) (write := true) d [o] rfl (.inl rfl)
  rw [← hk] at run
  have alone := arrived_alone true d hk queue input
  have still : dramBlocked (arrived s addr true d) (k / 2) = false := free
  obtain ⟨u, serve, subs⟩ := dramServe_write (r := reqAt s addr true d) still alone (bankOf_lt s _) may rfl
  have mem : u.dram.mem = s.dram.mem := by rw [show u.dram = _ from subs]; rfl
  obtain ⟨w, done, same⟩ := serveWrite_good (s := u) (r := reqAt s addr true d) good
  have memw : w.dram.mem = s.dram.mem := by rw [same, mem]
  intro t
  rw [show t = _ from run, List.foldl_cons, List.foldl_nil, serve, done]
  refine ⟨?_, fun x hx => ?_⟩
  · refine (burstData_putBurst_self _ _ (by rw [memw]; exact form)).trans ?_
    exact Nat.mod_mod _ _
  · refine (burstData_putBurst_ne _ hx).trans ?_
    rw [burstData, memw, ← burstData]

-- ===== pauses (R300, R301) =====

/-- A pause of a channel, which becomes `c`. -/
def paused (s : State) (ch : Nat) (c : DramCh) : State :=
  { s with dram := { s.dram with chans := s.dram.chans.put ch c, lastPauseNs := some s.clk.nowNs } }

theorem retrainPause_goes {s : State} {ch drift : Nat} (awake : s.power.state < 2) (up : s.dram.selfRefresh = false) (ready : (chanAt s ch).ready = true)
    (far : ∀ x, (chanAt s ch).pauseNs = some x → x + 500000 ≤ s.clk.nowNs) (apart : ∀ x, s.dram.lastPauseNs = some x → x + 83000 ≤ s.clk.nowNs) :
    (chanAt (retrainPause s ch drift) ch).pauseNs = some s.clk.nowNs ∧ (retrainPause s ch drift).dram.lastPauseNs = some s.clk.nowNs ∧
      v (retrainPause s ch drift) K.retrainPauses = satAdd 64 (v s K.retrainPauses) 1 := by
  have since {p : Option Nat} {ns : Nat} (h : ∀ x, p = some x → x + ns ≤ s.clk.nowNs) : p.all (fun t => decide (s.clk.nowNs ≥ t + ns)) = true := by
    cases p with
    | none => rfl
    | some x =>
      rw [Option.all_some]
      exact decide_eq_true (h x rfl)
  have goes : ¬ (decide (s.power.state ≥ 2) || s.dram.selfRefresh || !(chanAt s ch).ready || !(chanAt s ch).pauseNs.all (fun t => decide (s.clk.nowNs ≥ t + 500000)) ||
      !s.dram.lastPauseNs.all (fun t => decide (s.clk.nowNs ≥ t + 83000))) = true := by
    rw [decide_eq_false (by omega), up, ready, since far, since apart]
    exact Bool.false_ne_true
  obtain ⟨c, beyond, pause, run⟩ : ∃ (c : DramCh) (beyond : Bool), c.pauseNs = some s.clk.nowNs ∧ retrainPause s ch drift =
      if beyond = true then bump32 (bump64 (paused s ch c) K.retrainPauses) K.retrainDriftEvents else bump64 (paused s ch c) K.retrainPauses := by
    unfold retrainPause
    rw [if_neg goes]
    exact ⟨_, _, rfl, rfl⟩
  have chan : chanAt (paused s ch c) ch = c := Assoc.getD_put_self ..
  have last : (paused s ch c).dram.lastPauseNs = some s.clk.nowNs := rfl
  have count : v (paused s ch c) K.retrainPauses = v s K.retrainPauses := rfl
  generalize paused s ch c = p at *
  have counted : v (bump64 p K.retrainPauses) K.retrainPauses = satAdd 64 (v s K.retrainPauses) 1 := count ▸ v_setV_self ..
  rw [run]
  cases beyond with
  | false => exact ⟨(congrArg DramCh.pauseNs chan).trans pause, last, counted⟩
  | true => exact ⟨(congrArg DramCh.pauseNs chan).trans pause, last, (v_setV_ne _ _ (by decide)).trans counted⟩

theorem retrainPause_soon {s : State} {ch x : Nat} (drift : Nat) (last : (chanAt s ch).pauseNs = some x) (soon : s.clk.nowNs < x + 500000) :
    retrainPause s ch drift = s := by
  have early : (chanAt s ch).pauseNs.all (fun t => decide (s.clk.nowNs ≥ t + 500000)) = false := by
    rw [last, Option.all_some]
    exact decide_eq_false (by omega)
  unfold retrainPause
  rw [if_pos]
  simp only [early, Bool.not_false, Bool.or_true, Bool.true_or]

-- ===== refreshes (R297, R299) =====

theorem sameBankRefresh_owed {s : State} {ch : Nat} (sub rank ba : Nat) (up : s.dram.selfRefresh = false) (ready : (chanAt s ch).ready = true)
    (blocked : dramBlocked s ch = true) : sameBankRefresh s ch sub rank ba = modSub s (ch * 2 + sub) (fun b => { b with owed := b.owed ++ [rank * 4 + ba] }) := by
  simp only [sameBankRefresh, up, ready, blocked, Bool.not_true, Bool.or_self, Bool.false_eq_true, if_false, if_true]

theorem sameBankRefresh_paid {s : State} {ch : Nat} (sub rank ba : Nat) (up : s.dram.selfRefresh = false) (ready : (chanAt s ch).ready = true)
    (free : dramBlocked s ch = false) : sameBankRefresh s ch sub rank ba = modSub s (ch * 2 + sub) (fun b => { b with
      refreshed := b.refreshed + (b.owed ++ [rank * 4 + ba]).length, owed := []
      openRow := b.openRow.keep (fun x _ => !(b.owed ++ [rank * 4 + ba]).contains (x / 32 * 4 + x % 4)) }) := by
  simp only [sameBankRefresh, up, ready, free, Bool.not_true, Bool.or_self, Bool.false_eq_true, if_false]

/-- Settles O43: negotiation, requests, refreshes and pauses of the DRAM controller. -/
theorem dramController : Obligations.dram_controller := by
  refine fun s => ⟨fun l geo hg fits good => ?_, fun l ch hch bad => ?_, fun addr k b hk hb => ⟨fun x hx d => ?_, fun none' d => ?_, fun d => ?_,
    fun d o queue input form free may good => ?_⟩, fun ch sub rank ba up ready => ⟨fun free => ?_, fun blocked => ?_⟩, fun ch sub rank ba down => ?_,
    ⟨_, rfl, fun k b hb => ?_, rfl⟩, fun ch drift awake up ready far apart => ⟨_, rfl, retrainPause_goes awake up ready far apart⟩,
    fun ch drift x last soon => next_congr (retrainPause_soon drift last soon)⟩
  · obtain ⟨u, run, negotiated, failed, bytes, rate, usable⟩ := dramNegotiate_settles hg rfl fits (failing_eq_nil.2 (by rw [← hg]; exact good))
    obtain ⟨m, dram, masks⟩ := dramMasks_frame u (fld geo 15 12) (fld geo 11 8) (fld geo 7 4)
    have layout := dramLayout_onlyEntries (dramMasks u (fld geo 15 12) (fld geo 11 8) (fld geo 7 4)) (6 * channelBytes (fld geo 15 12) (fld geo 11 8) (fld geo 7 4))
    have kept (k : Nat) (h : k ∉ recordKeys ++ layoutKeys) : v (dramNegotiate s l) k = v u k := by
      rw [run, layout k h, masks k (fun m => h (List.mem_append_left _ m))]
    have same : (dramNegotiate s l).dram = { u.dram with masks := m } := by
      rw [run, (dramLayout_from _).keeps.dram rfl, dram]
    refine ⟨dramNegotiate s l, rfl, by rw [same]; exact negotiated, by rw [same]; exact failed, ?_, ?_, ?_⟩
    · rw [kept _ (by decide), bytes]
    · rw [kept _ (by decide), kept _ (by decide), usable, rate]
    · rw [kept _ (by decide), rate]
      rfl
  · obtain ⟨u, run, dram, keeps⟩ := dramNegotiate_fails (s := s) (l := l) fun none' => bad (failing_eq_nil.1 none' ch hch)
    have last : (cfsAll u).dram = { s.dram with failed := true } := (cfsAll_from.keeps.dram rfl).trans dram
    refine ⟨_, next_congr run, by rw [last], by rw [last], by rw [last], fun n lt there => cfsAll_cfs u lt ?_⟩
    rw [fnExists_congr (keeps.portMode rfl) (keeps.vfSplit rfl) (keeps.portA rfl) (keeps.portB rfl)]
    exact there
  · subst hk hb
    have burst : x.burst = addr / 64 := by
      have m := List.mem_of_getLast? hx
      exact beq_iff_eq.1 (Bool.and_eq_true_iff.1 (List.mem_filter.1 m).2).2
    refine ⟨_, next_congr ?_, rfl⟩
    unfold dramRequest
    dsimp only
    rw [if_neg Bool.false_ne_true, hx, ← burst]
    rfl
  · have run := dramRequest_arrives (s := s) (addr := addr) (write := false) (b := b) d [] (by rw [← hk]; exact hb) (.inr none')
    exact ⟨_, _, next_congr run, (arrived_all s addr false d hk).trans (by rw [hb]), rfl, rfl, rfl⟩
  · have run := dramRequest_arrives (s := s) (addr := addr) (write := true) (b := b) d [] (by rw [← hk]; exact hb) (.inl rfl)
    exact ⟨_, _, next_congr run, (arrived_all s addr true d hk).trans (by rw [hb]), rfl, rfl, rfl, rfl⟩
  · exact ⟨_, rfl, dramRequest_alone d hk (hb ▸ queue) (hb ▸ input) form free may good⟩
  · have self := subAt_modSub_self s (ch * 2 + sub) (fun b => { b with
      refreshed := b.refreshed + (b.owed ++ [rank * 4 + ba]).length, owed := []
      openRow := b.openRow.keep (fun x _ => !(b.owed ++ [rank * 4 + ba]).contains (x / 32 * 4 + x % 4)) })
    refine ⟨_, next_congr (sameBankRefresh_paid sub rank ba up ready free), ?_, ?_, rfl⟩
    · rw [self]
    · rw [self]
      simp only [List.length_append, List.length_singleton, Nat.add_assoc]
  · exact ⟨_, next_congr (sameBankRefresh_owed sub rank ba up ready blocked), subAt_modSub_self ..⟩
  · refine next_congr (if_pos ?_)
    rw [down]
    rfl
  · have row : (s.dram.subs.mapVal (fun _ b => { b with rows := [] })).get? k = some b := hb
    rw [get?_mapVal] at row
    obtain ⟨c, -, rfl⟩ := Option.map_eq_some_iff.1 row
    rfl

end Sys2Proof.Dram

/-! What takes, releases and moves physical blocks, or takes a zone offline: of the NAND it changes the blocks alone (R159, R160, R177, R180). -/
namespace Sys2Proof.Blocks
open Sys2Proof Sys2Proof.Machine Sys2Proof.Effects

/-- Between `s` and `t` of the NAND the records of blocks alone changed. -/
def BlocksOnly (s t : State) : Prop := t.nand = { s.nand with blocks := t.nand.blocks }

theorem BlocksOnly.refl (s : State) : BlocksOnly s s := rfl

theorem BlocksOnly.trans {s t u : State} (h : BlocksOnly s t) (k : BlocksOnly t u) : BlocksOnly s u := by
  unfold BlocksOnly at h k ⊢
  rw [k, h]

theorem BlocksOnly.of_same {s t u : State} (h : BlocksOnly s t) (e : u.nand = t.nand) : BlocksOnly s u := by
  unfold BlocksOnly at h ⊢
  rw [e, h]

theorem BlocksOnly.foldl {β : Type} {f : State → β → State} (hf : ∀ u b, BlocksOnly u (f u b)) (l : List β) {s t : State} (h : BlocksOnly s t) :
    BlocksOnly s (l.foldl f t) := by
  induction l generalizing t with
  | nil => exact h
  | cons b l ih => exact ih (h.trans (hf t b))

/-- A fold that carries a list beside the state. -/
theorem BlocksOnly.foldl_fst {α β : Type} {f : State × α → β → State × α} (hf : ∀ p b, BlocksOnly p.1 (f p b).1) (l : List β) (p : State × α) :
    BlocksOnly p.1 (l.foldl f p).1 := by
  induction l generalizing p with
  | nil => exact .refl _
  | cons b l ih => exact (hf p b).trans (ih _)

theorem BlocksOnly.foldl_snd {α β : Type} {f : α × State → β → α × State} (hf : ∀ p b, BlocksOnly p.2 (f p b).2) (l : List β) (p : α × State) :
    BlocksOnly p.2 (l.foldl f p).2 := by
  induction l generalizing p with
  | nil => exact .refl _
  | cons b l ih => exact (hf p b).trans (ih _)

theorem BlocksOnly.fst {α : Type} {s t : State} {p : State × α} {a : α} (e : p = (t, a)) (h : BlocksOnly s p.1) : BlocksOnly s t := by
  rw [e] at h
  exact h

theorem BlocksOnly.snd {α : Type} {s t : State} {p : α × State} {a : α} (e : p = (a, t)) (h : BlocksOnly s p.2) : BlocksOnly s t := by
  rw [e] at h
  exact h

-- ===== blocks taken and released =====

theorem releaseBlock_blocksOnly (s : State) (die b : Nat) : BlocksOnly s (releaseBlock s die b) := rfl

theorem takeBlock_blocksOnly (s : State) (die b : Nat) (u : BlockUse) (cell : Nat) : BlocksOnly s (takeBlock s die b u cell) := rfl

theorem freeCopies_blocksOnly (s : State) (id : Nat) : BlocksOnly s (freeCopies s id) := .foldl (fun u _ => releaseBlock_blocksOnly u _ _) _ (.refl s)

theorem releaseStripe_blocksOnly (s : State) (id : Nat) : BlocksOnly s (releaseStripe s id) := by
  unfold releaseStripe
  split
  next x _ =>
    obtain ⟨w, hw⟩ : ∃ w, x.blocks.foldl (fun s b => releaseBlock s b.1 b.2) s = w := ⟨_, rfl⟩
    rw [hw]
    exact BlocksOnly.of_same (t := w) (hw ▸ .foldl (fun u _ => releaseBlock_blocksOnly u _ _) _ (.refl s)) rfl
  next => exact .refl s

theorem releaseEmpty_blocksOnly (s : State) (c : Nat) : BlocksOnly s (releaseEmpty s c) := .foldl (fun u _ => releaseStripe_blocksOnly u _) _ (.refl s)

theorem openStripe_blocksOnly {s t : State} {c id : Nat} (h : openStripe s c = some (id, t)) : BlocksOnly s t := by
  unfold openStripe at h
  extract_lets d g at h
  clear_value g
  split at h
  · split at h
    · cases h
    · split at h
      next taken =>
      obtain rfl := congrArg Prod.snd (Option.some.inj h)
      refine BlocksOnly.of_same (.fst taken (BlocksOnly.foldl_fst (fun p b => ?_) _ (s, []))) rfl
      dsimp only
      split
      · exact takeBlock_blocksOnly _ _ _ _ _
      · exact .refl _
  · cases h

/-- The stripe a page goes to: the open one, or a new one once what is empty has been released. -/
theorem stripe_blocksOnly {s : State} {c id : Nat} {x : Stripe} {t : State}
    (h : (match openStripeOf s c with
      | some (id, x) => some (id, x, s)
      | none => (openStripe (releaseEmpty s c) c).bind (fun r => (r.2.xlat.stripes.get? r.1).map (fun x => (r.1, x, r.2)))) = some (id, x, t)) :
    BlocksOnly s t := by
  split at h
  · cases h
    exact .refl _
  · obtain ⟨r, opened, found⟩ := Option.bind_eq_some_iff.1 h
    obtain ⟨y, -, same⟩ := Option.map_eq_some_iff.1 found
    cases same
    exact (releaseEmpty_blocksOnly s c).trans (openStripe_blocksOnly opened)

theorem placePage_blocksOnly {s t : State} {c bytes : Nat} {l : PLoc} (h : placePage s c bytes = some (l, t)) : BlocksOnly s t := by
  unfold placePage at h
  extract_lets found at h
  have first : ∀ id x u, found = some (id, x, u) → BlocksOnly s u := fun _ _ _ e => stripe_blocksOnly e
  clear_value found
  split at h
  · have placed := first _ _ _ rfl
    dsimp only at h
    obtain rfl := congrArg Prod.snd (Option.some.inj h)
    dsimp only
    split
    · refine BlocksOnly.foldl (fun u q => ?_) _ (.of_same placed rfl)
      exact rfl
    · exact .of_same placed rfl
  · cases h

theorem placeAll_blocksOnly (s : State) (c : Nat) (l : List (Nat × PLoc)) : BlocksOnly s (placeAll s c l).2 := by
  refine BlocksOnly.foldl_snd (fun p x => ?_) l ([], s)
  split
  next placed => exact placePage_blocksOnly placed
  next => exact .refl _

theorem allocGroup_blocksOnly (s : State) (zk k : Nat) : BlocksOnly s (allocGroup s zk k) := by
  unfold allocGroup
  extract_lets z d
  split
  next taken =>
  refine BlocksOnly.of_same (.fst taken (BlocksOnly.foldl_fst (fun p b => ?_) _ (s, []))) rfl
  dsimp only
  split
  · split
    · exact takeBlock_blocksOnly _ _ _ _ _
    · exact BlocksOnly.of_same (takeBlock_blocksOnly p.1 _ _ _ _) rfl
  · exact .refl _

theorem allocTo_blocksOnly (n : Nat) (s : State) (zk x : Nat) : BlocksOnly s (allocTo n s zk x) := by
  induction n generalizing s with
  | zero => exact .refl _
  | succ n ih =>
    simp only [allocTo]
    split
    · exact (allocGroup_blocksOnly s zk _).trans (ih _)
    · exact .refl _

-- ===== relocations =====

theorem copyInto_blocksOnly (s : State) (id : Nat) (src dst : Nat × Nat) (cell : Nat) : BlocksOnly s (copyInto s id src dst cell) := rfl

theorem startWhole_blocksOnly (s : State) (kind : RelocKind) (die block zk k : Nat) : BlocksOnly s (startWhole s kind die block zk k) := by
  unfold startWhole
  extract_lets z d old id
  split
  · exact .refl _
  · split
    next copied =>
    split
    · refine BlocksOnly.of_same (.fst copied (BlocksOnly.foldl_fst (fun p b => ?_) _ (s, []))) rfl
      split
      · exact copyInto_blocksOnly _ _ _ _ _
      · exact .refl _
    · exact .refl _

theorem startReloc_blocksOnly (s : State) (k : RelocKind) (die block : Nat) : BlocksOnly s (startReloc s k die block) := by
  unfold startReloc
  split
  · exact .refl _
  · extract_lets b
    clear_value b
    split
    · split
      · split
        · exact startWhole_blocksOnly _ _ _ _ _ _
        · exact rfl
      · exact .refl _
    · split
      · have moved (moves : List (Nat × PLoc × PLoc)) (w : State) : BlocksOnly w (moves.foldl (fun s m => wbMovePage s m.1 m.2.2) w) := by
          refine BlocksOnly.foldl (fun u m => ?_) _ (.refl w)
          exact .of_same (.refl u) rfl
        split
        next moves w placed =>
        exact .of_same (t := moves.foldl (fun s m => wbMovePage s m.1 m.2.2) w) ((BlocksOnly.snd placed (placeAll_blocksOnly _ _ _)).trans (moved moves w)) rfl
      · exact .refl _
    · exact .refl _

theorem dropReloc_blocksOnly (s : State) (r : Reloc) : BlocksOnly s (dropReloc s r) := by
  unfold dropReloc
  extract_lets a b
  have first : BlocksOnly s a := by
    subst a
    split
    · exact rfl
    · refine BlocksOnly.foldl (fun u q => ?_) _ (.refl s)
      exact .of_same (.refl u) rfl
    · refine BlocksOnly.foldl (fun u q => ?_) _ (.refl s)
      split
      · exact .of_same (.refl u) rfl
      · exact .refl u
  exact first.trans (BlocksOnly.of_same (freeCopies_blocksOnly a r.id) rfl)

theorem redirect_blocksOnly (s : State) (r : Reloc) (zk : Nat) (q : Nat × Nat) (fails : Nat) : BlocksOnly s (redirect s r zk q fails) := by
  unfold redirect
  split
  · exact BlocksOnly.of_same (copyInto_blocksOnly s r.id q _ _) rfl
  · exact dropReloc_blocksOnly _ _

theorem relocsLoseDie_blocksOnly (s : State) (die : Nat) : BlocksOnly s (relocsLoseDie s die) := by
  unfold relocsLoseDie
  extract_lets a
  have first : BlocksOnly s a := by
    refine BlocksOnly.foldl (fun u r => ?_) _ (.refl s)
    split
    · split
      · exact dropReloc_blocksOnly _ _
      · exact .refl _
    · split
      · exact dropReloc_blocksOnly _ _
      · exact .refl _
    · exact .refl _
  clear_value a
  refine BlocksOnly.foldl (fun u r => ?_) _ first
  split
  · exact .of_same (.refl u) rfl
  · refine BlocksOnly.foldl (fun u q => ?_) _ (.refl u)
    split
    · exact redirect_blocksOnly _ _ _ _ _
    · exact .refl _

-- ===== zones and dies =====

theorem releaseZone_blocksOnly (s : State) (zk : Nat) : BlocksOnly s (releaseZone s zk) := by
  unfold releaseZone
  extract_lets mine a b
  have first : BlocksOnly s a := BlocksOnly.foldl (fun u _ => releaseBlock_blocksOnly u _ _) _ (.refl s)
  have second : BlocksOnly s b := BlocksOnly.foldl (fun u _ => freeCopies_blocksOnly u _) _ first
  exact .of_same second rfl

theorem offlineZone_blocksOnly (s : State) (zk c : Nat) : BlocksOnly s (offlineZone s zk c) := by
  unfold offlineZone
  extract_lets nsid n zb tag before a b z q
  have released : BlocksOnly s a := releaseZone_blocksOnly s zk
  have dropped : BlocksOnly s b := .of_same released (((wbDrop_from _ _ _).keeps.nand rfl).trans ((clearBlocks_from _ _ _).keeps.nand rfl))
  have given : BlocksOnly s q := .of_same dropped rfl
  exact .of_same given ((capCheck_from.keeps.nand rfl).trans (((atRiskClear_from _).keeps.nand rfl).trans ((keyUnfix_from _).keeps.nand rfl)))

theorem closeUnit_blocksOnly (s : State) (zk cause : Nat) : BlocksOnly s (closeUnit s zk cause) := by
  unfold closeUnit
  extract_lets z
  clear_value z
  split
  · split
    · exact .of_same (.refl s) rfl
    · extract_lets d
      split
      extract_lets f a b lba c e
      have alloc : BlocksOnly s a := allocTo_blocksOnly 64 s zk _
      clear_value a
      have added : BlocksOnly s c := .of_same alloc rfl
      have counted : BlocksOnly s e := .of_same added (((mapChanged_from _).keeps.nand rfl).trans ((countFrame_from _ _ _ _).keeps.nand rfl))
      exact .of_same counted (capCheck_from.keeps.nand rfl)
  · exact .refl s

theorem pagesLoseDie_blocksOnly (s : State) (die : Nat) : BlocksOnly s (pagesLoseDie s die) := by
  refine BlocksOnly.foldl (fun u q => ?_) _ (.refl s)
  extract_lets nsid lba n
  split
  · split
    next placed => exact .of_same (placePage_blocksOnly placed) rfl
    next => exact .refl u
  · exact .of_same (.refl u) ((poisonDie_from _ _ _).keeps.nand rfl)

theorem zoneLosesDie_blocksOnly (s : State) (zk die : Nat) : BlocksOnly s (zoneLosesDie s zk die) := by
  unfold zoneLosesDie
  extract_lets nsid n lost a b c z first readable
  have closed : BlocksOnly s a := closeUnit_blocksOnly s zk 3
  have moved : BlocksOnly s b := by
    refine BlocksOnly.foldl (fun u q => ?_) _ closed
    split
    · exact startReloc_blocksOnly _ _ _ _
    · exact .refl u
  have poisoned : BlocksOnly s c := .of_same moved ((poisonDie_from _ _ _).keeps.nand rfl)
  clear_value c
  have ended (st : NvStatus) : BlocksOnly s (endZoneWrites c zk st) := .of_same poisoned ((endZoneWrites_from _ _).keeps.nand rfl)
  split
  · split
    · exact poisoned
    · exact .of_same (ended .zoneReadOnly) ((zoneChanged_from _ _).keeps.nand rfl)
  · exact .of_same ((ended .zoneOffline).trans (offlineZone_blocksOnly _ _ _)) ((zoneChanged_from _ _).keeps.nand rfl)

theorem recoverStep_blocksOnly {s t : State} {c : Nat} (h : recoverStep s c = some t) : BlocksOnly s t := by
  unfold recoverStep at h
  extract_lets d best at h
  clear_value best
  split at h
  · cases h
  · split at h
    · extract_lets n at h
      split at h
      · cases h
        exact .of_same (offlineZone_blocksOnly s _ c) ((zoneChanged_from _ _).keeps.nand rfl)
      · cases h
    · cases h

theorem recoverCove_blocksOnly (n : Nat) (s : State) (c : Nat) : BlocksOnly s (recoverCove n s c) := by
  induction n generalizing s with
  | zero => exact .refl _
  | succ n ih =>
    simp only [recoverCove]
    split
    next step => exact (recoverStep_blocksOnly step).trans (ih _)
    next => exact .refl _

end Sys2Proof.Blocks

/-! Losses published, and a die that is lost: taken out of service, enumerated and closed (R185 to R188). -/
namespace Sys2Proof.Losses
open Sys2Proof Sys2Proof.Machine Sys2Proof.Effects Sys2Proof.Stores Sys2Proof.Blocks

-- ===== the publication of a loss (R187) =====

theorem lossPublish_effect {s : State} {p : LossPend} {r : List LossPend} (h : s.xlat.unpublished = p :: r) (room : s.xlat.losses.length < lossCapacity) :
    let t := lossPublish s
    t.xlat.unpublished = r ∧
    t.xlat.losses = s.xlat.losses ++ [⟨v s K.lossSeqLast + 1, p.nsid, p.slba, p.nlb, p.cause, p.flags, p.loc, p.cove, p.time, s.clk.tide⟩] ∧
    v t K.lossSeqLast = v s K.lossSeqLast + 1 := by
  obtain ⟨w, hw⟩ : ∃ w : State, { s with xlat := { s.xlat with unpublished := r } } = w := ⟨_, rfl⟩
  obtain ⟨e, he⟩ : ∃ e : LossEnt, ⟨0, p.nsid, p.slba, p.nlb, p.cause, p.flags, p.loc, p.cove, p.time, s.clk.tide⟩ = e := ⟨_, rfl⟩
  have entered : lossInsert w e = setV { w with xlat := { w.xlat with losses := w.xlat.losses ++ [{ e with seq := v w K.lossSeqLast + 1 }] } } K.lossSeqLast
      (v w K.lossSeqLast + 1) := if_pos (hw ▸ room)
  obtain ⟨i, hi⟩ : ∃ i, lossInsert w e = i := ⟨_, rfl⟩
  obtain ⟨m, hm⟩ : ∃ m, setV i K.lossPublishLagMax (Nat.max (v i K.lossPublishLagMax) ((s.clk.nowNs - p.atNs) / 1000)) = m := ⟨_, rfl⟩
  have clk : i.clk = s.clk := by rw [← hi, entered, ← hw]; rfl
  have run : lossPublish s = (lossReaders m p.nsid p.cove).foldl (fun s fn => aen s fn (.lossPublished p.nsid)) m := by
    simp only [lossPublish, h, hw, he, hi, clk, hm]
  have told : Keeps 1142556162 m (lossPublish s) := by
    rw [run]
    exact Dram.keeps_foldl (fun u fn => (aen_from _ _).keeps) _ m
  have entries : OnlyEntries m (lossPublish s) [K.traceLost] := by
    rw [run]
    exact onlyEntries_foldl (fun u fn => Sensors.aen_onlyEntries u fn _) _ m
  have xlat : (lossPublish s).xlat = i.xlat := by
    rw [told.xlat rfl, ← hm]
    rfl
  have seq : v w K.lossSeqLast = v s K.lossSeqLast := hw ▸ rfl
  dsimp only
  rw [xlat, entries _ (by decide), ← hm, v_setV_ne _ _ (by decide), ← hi, entered, v_setV_self, seq, ← hw, ← he]
  exact ⟨rfl, rfl, rfl⟩

-- ===== commands that leave flight =====

/-- Between `s` and `t` no command joined those in flight, and none changed. -/
def Fewer (s t : State) : Prop := ∀ f ∈ t.flights, f ∈ s.flights

theorem Fewer.refl (s : State) : Fewer s s := fun _ h => h

theorem Fewer.trans {s t u : State} (h : Fewer s t) (k : Fewer t u) : Fewer s u := fun f m => h f (k f m)

theorem Fewer.of_same {s t u : State} (h : Fewer s t) (e : u.flights = t.flights) : Fewer s u := fun f m => h f (e ▸ m)

theorem Fewer.foldl {β : Type} {f : State → β → State} (hf : ∀ u b, Fewer u (f u b)) (l : List β) {s t : State} (h : Fewer s t) : Fewer s (l.foldl f t) := by
  induction l generalizing t with
  | nil => exact h
  | cons b l ih => exact ih (h.trans (hf t b))

theorem completeRetry_fewer (s : State) (f : Flight) (st : NvStatus) (dw0 dw1 crd : Nat) : Fewer s (completeRetry s f st dw0 dw1 crd) := by
  obtain ⟨ws, u, hu, run⟩ := completeRetry_eq s f st dw0 dw1 crd
  have left : Fewer s u := by
    rw [hu]
    intro g m
    have before : (traceItem (histCommand s f) 0x10 0x02 f.fn ws).flights = s.flights :=
      ((traceItem_from ..).keeps.flights rfl).trans ((histCommand_from f).keeps.flights rfl)
    exact before ▸ (List.mem_filter.1 m).1
  rw [run]
  refine .of_same left (((postCqe_from ..).keeps.flights rfl).trans ?_)
  split <;> rfl

theorem complete_fewer (s : State) (c : Cmd) (st : NvStatus) (dw0 : Nat) : Fewer s (complete s c st dw0) := by
  unfold complete
  split
  · exact completeRetry_fewer _ _ _ _ _ _
  · exact .of_same (.refl s) ((postCqe_from ..).keeps.flights rfl)

theorem carryAens_fewer (k : Nat) (s : State) (fn : Nat) : Fewer s (carryAens k s fn) := by
  induction k generalizing s with
  | zero => exact .refl s
  | succ k ih =>
    simp only [carryAens]
    split
    · refine Fewer.trans ?_ (ih _)
      exact complete_fewer (modInst s fn _) _ _ _
    · exact .refl s

theorem aen_fewer (s : State) (fn : Nat) (e : Aen) : Fewer s (aen s fn e) := by
  simp only [aen]
  split
  · exact .refl s
  · exact carryAens_fewer 16 (modInst s fn _) fn

theorem capBit_fewer (s : State) (c bit : Nat) (now : Bool) : Fewer s (capBit s c bit now) := by
  unfold capBit
  split
  · exact .refl s
  · extract_lets w free e a
    split
    · refine Fewer.foldl (fun u fn => aen_fewer _ _ _) _ (.of_same (.refl s) ?_)
      exact (event_from ..).keeps.flights rfl
    · exact .of_same (.refl s) rfl

theorem capCheck_fewer (s : State) : Fewer s (capCheck s) := by
  refine Fewer.foldl (fun u c => ?_) _ (.refl s)
  unfold capCheck1
  extract_lets d
  split
  · have two (p q : Bool) : Fewer u (capBit (capBit u c 0 p) c 1 q) := (capBit_fewer _ _ _ _).trans (capBit_fewer _ _ _ _)
    split
    · exact (two _ _).trans (capBit_fewer _ _ _ _)
    · split
      · exact (two _ _).trans (capBit_fewer _ _ _ _)
      · exact two _ _
  · exact .refl u

theorem zoneChanged_fewer (s : State) (nsid zone : Nat) : Fewer s (zoneChanged s nsid zone) := by
  unfold zoneChanged
  extract_lets w
  refine Fewer.foldl (fun u fn => ?_) _ (.of_same (.refl s) rfl)
  exact aen_fewer (modInst u fn _) fn _

theorem offlineZone_fewer (s : State) (zk c : Nat) : Fewer s (offlineZone s zk c) := by
  unfold offlineZone
  extract_lets nsid n zb tag before a b z q
  have released : a.flights = s.flights := (releaseZone_from _).keeps.flights rfl
  clear_value a
  have dropped : b.flights = a.flights := ((wbDrop_from _ _ _).keeps.flights rfl).trans ((clearBlocks_from _ _ _).keeps.flights rfl)
  clear_value b
  have given : q.flights = b.flights := rfl
  clear_value q
  have kept : (atRiskClear before (keyUnfix q tag)).flights = q.flights :=
    ((atRiskClear_from _).keeps.flights rfl).trans ((keyUnfix_from _).keeps.flights rfl)
  exact (Fewer.of_same (.refl s) (kept.trans (given.trans (dropped.trans released)))).trans (capCheck_fewer _)

theorem recoverStep_fewer {s t : State} {c : Nat} (h : recoverStep s c = some t) : Fewer s t := by
  unfold recoverStep at h
  extract_lets d best at h
  clear_value best
  split at h
  · cases h
  · split at h
    · extract_lets n at h
      split at h
      · cases h
        exact (offlineZone_fewer s _ c).trans (zoneChanged_fewer _ _ _)
      · cases h
    · cases h

theorem recoverCove_fewer (n : Nat) (s : State) (c : Nat) : Fewer s (recoverCove n s c) := by
  induction n generalizing s with
  | zero => exact .refl s
  | succ n ih =>
    simp only [recoverCove]
    split
    next step => exact (recoverStep_fewer step).trans (ih _)
    next => exact .refl s

-- ===== a die taken out of service (R185) =====

/-- No command in flight waits for a die. -/
def NoWaits (s : State) (die : Nat) : Prop := ∀ f ∈ s.flights, ∀ a ∈ f.waits, a.die ≠ die

theorem NoWaits.fewer {s t : State} {die : Nat} (h : NoWaits s die) (k : Fewer s t) : NoWaits t die := fun f m => h f (k f m)

theorem dieRetire_effect {s : State} {die : Nat} (on : dieState s die = 1) : let t := dieRetire s die
    dieState t die = 2 ∧ NoWaits t die := by
  unfold dieRetire
  rw [if_neg (Classical.not_not.2 on)]
  extract_lets e n a b inCoves c x d zs f g n' h i
  -- the die is out
  have out : a.nand.dies.get? die = some 2 := Assoc.get?_put_self ..
  clear_value a
  have counted : b.nand = a.nand := (domChanged_from (s := a) K.nandDieState).keeps.nand rfl
  clear_value b
  have noticed : c.nand = b.nand := by
    refine Resets.foldl_keep State.nand (fun u x => ?_) _ b
    rfl
  clear_value c
  -- its zones, its pages and the relocations lose it
  have zones : BlocksOnly d f := .foldl (fun u p => zoneLosesDie_blocksOnly u _ _) _ (.refl d)
  clear_value f
  have pages : BlocksOnly f g := (pagesLoseDie_blocksOnly f die).trans (relocsLoseDie_blocksOnly _ die)
  clear_value g
  have dies : h.nand.dies.get? die = some 2 := by
    have left : BlocksOnly d g := zones.trans pages
    have start : d.nand = a.nand := noticed.trans counted
    show g.nand.dies.get? die = some 2
    rw [left, start]
    exact out
  -- nobody waits for it
  have free : NoWaits h die := by
    intro x m y my
    obtain ⟨x0, -, rfl⟩ := List.mem_map.1 m
    simpa using (List.mem_filter.1 my).2
  clear_value h
  have given : BlocksOnly h i ∧ Fewer h i := by
    refine ⟨BlocksOnly.foldl (fun u c => ?_) _ (.refl h), Fewer.foldl (fun u c => ?_) _ (.refl h)⟩
    · split
      · exact .refl u
      · exact recoverCove_blocksOnly _ _ _
    · split
      · exact .refl u
      · exact recoverCove_fewer _ _ _
  obtain ⟨blocks, fewer⟩ := given
  clear_value i
  refine ⟨?_, (free.fewer fewer).fewer (capCheck_fewer i)⟩
  rw [dieState, Assoc.getD, capCheck_from.keeps.nand rfl, blocks, dies]
  rfl

-- ===== the end of its enumeration (R188) =====

/-- Between `s` and `t` ranges were left waiting for their publication, and nothing else changed. -/
structure Pends (s t : State) : Prop where
  rest : t = { s with xlat := { s.xlat with unpublished := t.xlat.unpublished } }
  kept : ∀ e ∈ s.xlat.unpublished, e ∈ t.xlat.unpublished

theorem Pends.refl (s : State) : Pends s s := ⟨rfl, fun _ h => h⟩

theorem Pends.trans {s t u : State} (h : Pends s t) (k : Pends t u) : Pends s u := by
  refine ⟨?_, fun e m => k.kept e (h.kept e m)⟩
  have last := k.rest
  rw [h.rest] at last
  exact last

theorem Pends.foldl {β : Type} {f : State → β → State} (hf : ∀ u b, Pends u (f u b)) (l : List β) (s : State) : Pends s (l.foldl f s) := by
  induction l generalizing s with
  | nil => exact .refl s
  | cons b l ih => exact (hf s b).trans (ih _)

theorem lossPend_pends (s : State) (nsid slba nlb cause flags loc cove : Nat) : Pends s (lossPend s nsid slba nlb cause flags loc cove) :=
  ⟨rfl, fun _ h => List.mem_append_left _ h⟩

/-- A notice is left for each Cove of a list. -/
theorem notices_pends (l : List Nat) (s : State) (cause flags die : Nat) : let t := l.foldl (fun s c => lossPend s 0xFFFFFFFF 0 0 cause flags die c) s
    Pends s t ∧ ∀ c ∈ l, ∃ e ∈ t.xlat.unpublished, e.nsid = 0xFFFFFFFF ∧ e.flags = flags ∧ e.loc = die ∧ e.cove = c := by
  refine ⟨.foldl (fun u c => lossPend_pends u _ _ _ _ _ _ _) l s, ?_⟩
  induction l generalizing s with
  | nil => exact fun c h => absurd h List.not_mem_nil
  | cons d l ih =>
    intro c hc
    rcases List.mem_cons.1 hc with rfl | later
    · have tail := Pends.foldl (fun u d => lossPend_pends u 0xFFFFFFFF 0 0 cause flags die d) l (lossPend s 0xFFFFFFFF 0 0 cause flags die c)
      exact ⟨_, tail.kept _ (List.mem_append_right _ List.mem_cons_self), rfl, rfl, rfl, rfl⟩
    · exact ih _ c later

theorem dieEnumerate_effect {s u : State} {die : Nat} (on : s.xlat.enumerating.contains die = true) (hu : dieEnumerate s die = u) :
    u = { s with xlat := u.xlat } ∧ u.xlat.enumerating.contains die = false ∧ (∀ x ∈ u.xlat.poison, x.2 ≠ 3 + 256 * (die + 1)) ∧
    ∀ c ∈ coves s, (Cd.dies (coveDesc s c)).contains die = true → ∃ e ∈ u.xlat.unpublished, e.nsid = 0xFFFFFFFF ∧ e.flags = 24 ∧ e.loc = die ∧ e.cove = c := by
  have frame : Keeps 2199023255552 s u := hu ▸ (dieEnumerate_from die).keeps
  unfold dieEnumerate at hu
  rw [if_neg (by rw [on]; exact Bool.false_ne_true)] at hu
  extract_lets mark mine x a nsids b at hu
  have ended : a.xlat.enumerating.contains die = false := by
    rw [Bool.eq_false_iff]
    intro has
    have left := (List.mem_filter.1 (List.contains_iff_mem.1 has)).2
    exact bne_iff_ne.1 left rfl
  have unmarked : ∀ x ∈ a.xlat.poison, x.2 ≠ mark := by
    intro x m
    obtain ⟨y, -, rfl⟩ := List.mem_map.1 m
    dsimp only
    split
    · show (3 : Nat) ≠ 3 + 256 * (die + 1)
      omega
    · assumption
  have dict : a.dict = s.dict := rfl
  clear_value a
  have published : Pends a b := by
    refine .foldl (fun u nsid => ?_) nsids a
    refine .foldl (fun u r => ?_) _ u
    exact .foldl (fun u x => lossPend_pends u _ _ _ _ _ _ _) _ u
  clear_value b
  obtain ⟨closing, notices⟩ := notices_pends ((coves b).filter (fun c => (Cd.dies (coveDesc b c)).contains die)) b 3 (8 + 16) die
  have all := published.trans closing
  have same : b.dict = s.dict := by
    rw [published.rest]
    exact dict
  have desc (c : Nat) : coveDesc b c = coveDesc s c := v_of_dict same _
  have list : coves b = coves s := by simp only [coves, desc]
  rw [hu] at all notices
  refine ⟨frame, by rw [all.rest]; exact ended, by rw [all.rest]; exact unmarked, fun c hc has => ?_⟩
  exact notices c (List.mem_filter.2 ⟨list ▸ hc, by rw [desc]; exact has⟩)

/-- Settles O33: a loss is published as the next entry, and a die's loss is taken in and closed. -/
theorem lossesAndDies : Obligations.losses_and_dies := by
  refine fun s => ⟨fun p r h room => ⟨_, rfl, lossPublish_effect h room⟩, fun none' => next_congr ?_, fun die on => ⟨_, rfl, dieRetire_effect on⟩,
    fun die off => next_congr (congrArg settle (if_pos off)), fun die on => ⟨_, rfl, dieEnumerate_effect on rfl⟩, fun die off => next_congr (congrArg settle (if_pos ?_))⟩
  · simp only [lossPublish, none']
  · rw [off]
    rfl

end Sys2Proof.Losses

/-! The pair's link and its records: training, the mirror's run, acknowledgement, resends, forwards and shared entries (R320 to R340). -/
namespace Sys2Proof.PairLink
open Sys2Proof Sys2Proof.Machine Sys2Proof.Effects Sys2Proof.Stores Sys2Proof.Writes Sys2Proof.Namespaces Sys2Proof.Fetching

-- ===== the negotiation record (R322) =====

theorem rinorLinkUp_effect {s : State} {rate width ver m : Nat} (on : s.pair.enabled = true) (hm : m = rinorMode rate width ver) :
    let t := rinorLinkUp s rate width ver
    t.pair = { s.pair with linkUp := true, linkMode := m } ∧ t = { s with dict := t.dict, pair := t.pair, trace := t.trace } ∧
    OnlyEntries s t [K.rinorNegotiation, K.traceLost] ∧ (bitAt (v s K.traceSources) 0x1A = false → t.trace = s.trace) ∧
    v t K.rinorNegotiation = negRecord 4 (if m = rinorOffered s then 1 else 2) (negAttempts (v s K.rinorNegotiation) + 1) m (rinorOffered s) (time64 s) := by
  obtain ⟨u, hu⟩ : ∃ u, negSettle { s with pair := { s.pair with linkUp := true, linkMode := m } } K.rinorNegotiation 4 m (rinorOffered s) = u := ⟨_, rfl⟩
  have run : rinorLinkUp s rate width ver = traceItem u 0x1A 2 1 [m] := by
    subst hm hu
    exact if_pos on
  have settled : OnlyEntries s u [K.rinorNegotiation] := by
    rw [← hu]
    exact onlyEntries_congr (onlyEntries_setV { s with pair := { s.pair with linkUp := true, linkMode := m } } _ _) rfl rfl
  have entry : v u K.rinorNegotiation = negRecord 4 (if m = rinorOffered s then 1 else 2) (negAttempts (v s K.rinorNegotiation) + 1) m (rinorOffered s) (time64 s) := by
    rw [← hu, negSettle, v_setV_self]
    rfl
  have frame : Keeps 4398046511106 s u ∧ u.trace = s.trace ∧ u.pair = { s.pair with linkUp := true, linkMode := m } := by
    subst hu
    exact ⟨Keeps.leaf (c := 4398046511106) rfl rfl, rfl, rfl⟩
  obtain ⟨keep, trace, pair⟩ := frame
  have item := (traceItem_from (s := u) 0x1A 2 1 [m]).keeps
  have items := traceItem_onlyEntries u 0x1A 2 1 [m]
  rw [run]
  refine ⟨(item.pair rfl).trans pair, keep.weaken rfl |>.trans (item.weaken rfl : Keeps 4398046511618 _ _), ?_, fun off => ?_, ?_⟩
  · exact onlyEntries_append settled items
  · rw [traceItem_of_off 2 1 [m] (by rw [settled K.traceSources (by decide)]; exact off)]
    exact trace
  · exact (items _ (by decide)).trans entry

-- ===== the run of records received (R324, R325) =====

theorem le_contiguous (l : List MirRec) (n q : Nat) : q ≤ contiguous l n q := by
  induction n generalizing q with
  | zero => exact Nat.le_refl q
  | succ n ih =>
    rw [contiguous]
    split
    · exact Nat.le_trans (Nat.le_succ q) (ih (q + 1))
    · exact Nat.le_refl q

theorem contiguous_of_gap {l : List MirRec} {q : Nat} (h : ∀ r ∈ l, r.seq = q + 1 → r.good = false) (n : Nat) : contiguous l n q = q := by
  cases n with
  | zero => rfl
  | succ n =>
    rw [contiguous, if_neg]
    rw [Bool.not_eq_true, List.any_eq_false]
    intro r m both
    obtain ⟨next, good⟩ := Bool.and_eq_true_iff.1 both
    rw [h r m (beq_iff_eq.1 next)] at good
    exact Bool.false_ne_true good

/-- A record that is new to the package is written. -/
theorem recvPut_of_new {s : State} {r : MirRec} (ahead : s.pair.recvSeq < r.seq) (new : ∀ x ∈ s.pair.recv, x.seq = r.seq → x.good = false) :
    let l := s.pair.recv.filter (fun x => x.seq != r.seq) ++ [r]
    recvPut s r = { s with pair := { s.pair with recv := l, recvSeq := contiguous l (l.length + 1) s.pair.recvSeq, partnerAsleep := false } } := by
  refine if_neg (not_or.2 ⟨Nat.not_le.2 ahead, ?_⟩)
  rw [Bool.not_eq_true, List.any_eq_false]
  intro x m both
  obtain ⟨same, good⟩ := Bool.and_eq_true_iff.1 both
  rw [new x m (beq_iff_eq.1 same)] at good
  exact Bool.false_ne_true good

theorem recvPut_recv (s : State) (r : MirRec) :
    (recvPut s r).pair.recv = s.pair.recv ∨ (recvPut s r).pair.recv = s.pair.recv.filter (fun x => x.seq != r.seq) ++ [r] := by
  unfold recvPut
  split
  · exact .inl rfl
  · exact .inr rfl

theorem recvPut_run {s : State} {r : MirRec} (ahead : s.pair.recvSeq < r.seq) (new : ∀ x ∈ s.pair.recv, x.seq = r.seq → x.good = false) :
    let t := recvPut s r
    r ∈ t.pair.recv ∧
    (r.good = true → r.seq = s.pair.recvSeq + 1 → r.seq ≤ t.pair.recvSeq ∧ (s.pair.recv = [] → t.pair.recvSeq = r.seq)) ∧
    ((r.good = true → r.seq ≠ s.pair.recvSeq + 1) → (∀ x ∈ s.pair.recv, x.seq = s.pair.recvSeq + 1 → x.good = false) → t.pair.recvSeq = s.pair.recvSeq) := by
  rw [recvPut_of_new ahead new]
  refine ⟨List.mem_append_right _ List.mem_cons_self, fun good next => ?_, fun behind gap => contiguous_of_gap (fun x m hx => ?_) _⟩
  · have grows (l : List MirRec) (n : Nat) (m : r ∈ l) : contiguous l (n + 1) s.pair.recvSeq = contiguous l n r.seq := by
      rw [contiguous, if_pos, next]
      exact List.any_eq_true.2 ⟨r, m, by rw [next, beq_self_eq_true, good]; rfl⟩
    dsimp only
    rw [grows _ _ (List.mem_append_right _ List.mem_cons_self)]
    refine ⟨le_contiguous _ _ _, fun empty => ?_⟩
    rw [empty]
    refine contiguous_of_gap (fun x m hx => ?_) _
    obtain rfl := List.mem_singleton.1 m
    omega
  · rcases List.mem_append.1 m with old | last
    · exact gap x (List.mem_filter.1 old).1 hx
    · obtain rfl := List.mem_singleton.1 last
      rw [Bool.eq_false_iff]
      exact fun good => behind good hx

theorem mirrorRecv_of_pair {s : State} (kind : Nat) (h : MirHdr) (b : MirrorBody) (up : peerUp s = true) (stands : s.pair.state = 2 ∨ s.pair.state = 6) :
    mirrorRecv s kind h b = recvPut s ⟨h.seq, kind, h.arg, h.len, h.group, h.groupEnd, b, h.good⟩ := by
  refine if_pos ?_
  rw [up]
  rcases stands with st | st <;> rw [st] <;> rfl

theorem mirrorRecv_of_old {s : State} (kind : Nat) {h : MirHdr} (b : MirrorBody)
    (no : peerUp s = false ∨ (s.pair.state ≠ 2 ∧ s.pair.state ≠ 6) ∨ h.seq ≤ s.pair.recvSeq) : mirrorRecv s kind h b = s := by
  unfold mirrorRecv
  split
  next yes =>
    simp only [Bool.and_eq_true, Bool.or_eq_true, beq_iff_eq] at yes
    obtain ⟨up, stands⟩ := yes
    rcases no with down | ⟨no2, no6⟩ | old
    · rw [up] at down
      exact absurd down.symm Bool.false_ne_true
    · rcases stands with st | st <;> contradiction
    · exact if_pos (.inl old)
  next => rfl

theorem exec_mirror {i : Instr} {k : Nat} {h : MirHdr} {b : MirrorBody} (m : MirrorOf i k h b) (s : State) : exec i s = .next (mirrorRecv s k h b) := by
  rcases m with ⟨l, rfl, rfl, rfl⟩ | ⟨l, rfl, rfl, rfl⟩ | ⟨nsid, zone, wp, st, rfl, rfl, rfl⟩ <;> rfl

/-- A record the link carries that is no part of the mirror is kept under the next number. -/
theorem recvOther_effect (s : State) (kind : Nat) : ∃ r ∈ (recvOther s kind).pair.recv, r.kind = kind := by
  have above (l : List MirRec) (q : Nat) : q ≤ l.foldl (fun m r => Nat.max m r.seq) q ∧ ∀ r ∈ l, r.seq ≤ l.foldl (fun m r => Nat.max m r.seq) q := by
    induction l generalizing q with
    | nil => exact ⟨Nat.le_refl q, fun r m => absurd m List.not_mem_nil⟩
    | cons x l ih =>
      obtain ⟨start, rest⟩ := ih (Nat.max q x.seq)
      refine ⟨Nat.le_trans (Nat.le_max_left _ _) start, fun r m => ?_⟩
      rcases List.mem_cons.1 m with rfl | later
      · exact Nat.le_trans (Nat.le_max_right _ _) start
      · exact rest r later
  obtain ⟨low, high⟩ := above s.pair.recv s.pair.recvSeq
  rw [recvOther, recvPut_of_new (Nat.lt_succ_of_le low) fun x m same => ?_]
  · exact ⟨_, List.mem_append_right _ List.mem_cons_self, rfl⟩
  · have le := high x m
    rw [show x.seq = _ + 1 from same] at le
    exact absurd le (Nat.not_succ_le_self _)

-- ===== what MIRROR_RELEASE frees (R324) =====

/-- The records that a release of this header frees. -/
def Frees (h : MirHdr) (r : MirRec) : Bool := decide (r.kind ≤ 3) && r.arg == h.arg && decide (r.seq < h.seq)

theorem frees_iff {h : MirHdr} {r : MirRec} : Frees h r = true ↔ r.kind ≤ 3 ∧ r.arg = h.arg ∧ r.seq < h.seq := by
  simp only [Frees, Bool.and_eq_true, decide_eq_true_eq, beq_iff_eq, and_assoc]

theorem blockData_storeBlock {s : State} (nsid lba data : Nat) (w : s.blocks.wf = true) : blockData (storeBlock s nsid lba ⟨data, none⟩) nsid lba = data := by
  simp only [blockData, storeBlock, Assoc.getD]
  split
  next zero =>
    rw [get?_del_self _ w, zero]
    rfl
  next => rw [Assoc.get?_put_self, Option.getD_some]

theorem mirrorRelease_effect {s : State} {h : MirHdr} (w : Sound s) (up : peerUp s = true) (stands : s.pair.state = 2 ∨ s.pair.state = 6) (good : h.good = true) :
    let t := mirrorRelease s h
    (∀ r ∈ t.pair.recv, ¬ (r.kind ≤ 3 ∧ r.arg = h.arg ∧ r.seq < h.seq)) ∧
    ∀ r nsid lba data, s.pair.recv = [r] → r.kind ≤ 3 → r.arg = h.arg → r.seq < h.seq → r.body = .blocks [(nsid, lba, data)] → blockData t nsid lba = data := by
  obtain ⟨u, hu⟩ : ∃ u, mirrorRecv s 4 h .release = u := ⟨_, rfl⟩
  have pass : (h.good && peerUp s && (s.pair.state == 2 || s.pair.state == 6)) = true := by
    rw [good, up]
    rcases stands with st | st <;> rw [st] <;> rfl
  have sound : Sound u := hu ▸ (mirrorRecv_from 4 h .release).sound w
  have single {r : MirRec} (one : s.pair.recv = [r]) (f : Frees h r = true) : u.pair.recv.filter (Frees h) = [r] := by
    have same : [r].filter (Frees h) = [r] := by rw [List.filter_cons_of_pos f, List.filter_nil]
    have other : [r].filter (fun x => x.seq != h.seq) = [r] := by
      refine List.filter_eq_self.2 fun x m => ?_
      rw [List.mem_singleton.1 m]
      exact bne_iff_ne.2 (Nat.ne_of_lt (frees_iff.1 f).2.2)
    rw [← hu, mirrorRecv_of_pair 4 h .release up stands]
    rcases recvPut_recv s ⟨h.seq, 4, h.arg, h.len, h.group, h.groupEnd, .release, h.good⟩ with kept | put
    · rw [kept, one, same]
    · rw [put, one, other, List.filter_append, same]
      exact congrArg (r :: ·) (List.filter_cons_of_neg (by simp [Frees]))
  unfold mirrorRelease
  rw [hu, if_pos pass]
  extract_lets gone x
  have goneEq : gone = u.pair.recv.filter (Frees h) := rfl
  have pair : x.pair = u.pair := Resets.foldl_keep State.pair (fun v r => (mirSettled_from (s := v) r).keeps.pair rfl) gone u
  refine ⟨fun r m f => ?_, fun r nsid lba data one k a q body => ?_⟩
  · obtain ⟨mem, left⟩ := List.mem_filter.1 m
    have among : gone.any (fun g => g.seq == r.seq) = true :=
      List.any_eq_true.2 ⟨r, List.mem_filter.2 ⟨pair ▸ mem, frees_iff.2 f⟩, beq_self_eq_true _⟩
    rw [among] at left
    exact Bool.false_ne_true left
  · show blockData x nsid lba = data
    have stored : x = storeBlock u nsid lba ⟨data, none⟩ := by
      show gone.foldl mirSettled u = _
      rw [goneEq, single one (frees_iff.2 ⟨k, a, q⟩), List.foldl_cons, List.foldl_nil, mirSettled, body]
      rfl
    rw [stored]
    exact blockData_storeBlock _ _ _ sound.blocks

theorem mirrorRelease_of_away {s : State} {h : MirHdr} (no : peerUp s = false ∨ (s.pair.state ≠ 2 ∧ s.pair.state ≠ 6)) : mirrorRelease s h = s := by
  have same : mirrorRecv s 4 h .release = s := mirrorRecv_of_old 4 _ (no.imp_right .inl)
  unfold mirrorRelease
  rw [if_neg, same]
  simp only [Bool.and_eq_true, Bool.or_eq_true, beq_iff_eq]
  rintro ⟨⟨-, up⟩, stands⟩
  rcases no with down | ⟨no2, no6⟩
  · rw [up] at down
    exact absurd down.symm Bool.false_ne_true
  · rcases stands with st | st <;> contradiction

-- ===== an acknowledgement (R325) =====

theorem sleepProgress_sent (s : State) : let t := sleepProgress s
    t.pair.seqAcked = s.pair.seqAcked ∧ (t.pair.unacked = s.pair.unacked ∨ ∃ k l g e, t.pair.unacked = s.pair.unacked ++ [⟨s.pair.seqSent + 1, k, l, g, e⟩]) := by
  unfold sleepProgress
  split
  next e he =>
    split
    · dsimp only
      split
      · exact ⟨rfl, .inr ⟨_, _, _, _, rfl⟩⟩
      · exact ⟨rfl, .inl rfl⟩
    · exact ⟨rfl, .inl rfl⟩
  next => exact ⟨rfl, .inl rfl⟩

theorem mirrorAck_effect {s : State} {arg m : Nat} (hm : m = Nat.min arg s.pair.seqSent) (none' : s.pair.forwards = []) (up : peerUp s = true)
    (ahead : s.pair.seqAcked < m) : let u := mirrorAck s arg
    u.pair.seqAcked = m ∧ (∀ r ∈ u.pair.unacked, m < r.seq) ∧ ∀ r ∈ s.pair.unacked, m < r.seq → r ∈ u.pair.unacked := by
  have sent : m ≤ s.pair.seqSent := hm ▸ Nat.min_le_right _ _
  have go : ¬ (!peerUp s ∨ m ≤ s.pair.seqAcked) := by
    rw [up]
    simpa using ahead
  unfold mirrorAck
  rw [← hm]
  extract_lets m' done src b c po d u
  have run : u = sleepProgress d := if_neg go
  clear_value u
  subst run
  have nobody : done = [] := by
    show s.pair.forwards.filter _ = []
    rw [none', List.filter_nil]
  have same : c.pair = b.pair := by
    refine (ackedWrites_from.keeps.pair rfl).trans ?_
    rw [nobody, List.foldl_nil]
  have acked : b.pair.seqAcked = m := rfl
  have unacked : b.pair.unacked = s.pair.unacked.filter (fun r => decide (m < r.seq)) := rfl
  have counted : b.pair.seqSent = s.pair.seqSent := rfl
  clear_value b c
  have pair : d.pair = b.pair := by
    show (ite _ _ _ : State).pair = _
    split
    · exact same
    · exact same
  clear_value d
  obtain ⟨stays, last⟩ := sleepProgress_sent d
  rw [stays, pair]
  rw [pair] at last
  refine ⟨acked, fun r h => ?_, fun r h hr => ?_⟩
  · rcases last with eq | ⟨k, l, g, e, eq⟩
    · rw [eq, unacked] at h
      exact of_decide_eq_true (List.mem_filter.1 h).2
    · rw [eq, unacked] at h
      rcases List.mem_append.1 h with old | new
      · exact of_decide_eq_true (List.mem_filter.1 old).2
      · rw [List.mem_singleton.1 new]
        exact Nat.lt_succ_of_le (counted ▸ sent)
  · have mem : r ∈ b.pair.unacked := unacked ▸ List.mem_filter.2 ⟨h, decide_eq_true hr⟩
    rcases last with eq | ⟨k, l, g, e, eq⟩
    · exact eq ▸ mem
    · exact eq ▸ List.mem_append_left _ mem

theorem mirrorAck_of_old {s : State} {arg : Nat} (no : peerUp s = false ∨ Nat.min arg s.pair.seqSent ≤ s.pair.seqAcked) : mirrorAck s arg = s := by
  refine if_pos (no.imp_left fun down => ?_)
  rw [down]
  rfl

-- ===== resends, forwards, shared entries, coordination (R326, R338, R323, R340) =====

theorem resendRequest_effect {s : State} {seq : Nat} (up : peerUp s = true) (held : ∃ r ∈ s.pair.unacked, r.seq = seq) : let t := resendRequest s seq
    t = { s with dict := t.dict, trace := t.trace } ∧ v t K.mirrorResends = satAdd 32 (v s K.mirrorResends) 1 ∧
    OnlyEntries s t [K.mirrorResends, K.traceLost] ∧ (bitAt (v s K.traceSources) 0x1A = false → t.trace = s.trace) := by
  obtain ⟨r, m, hr⟩ := held
  have found : (s.pair.unacked ++ keptRecs s s.pair.kept).any (fun r => r.seq == seq) = true :=
    List.any_eq_true.2 ⟨r, List.mem_append_left _ m, beq_iff_eq.2 hr⟩
  have run : resendRequest s seq = traceItem (bump32 s K.mirrorResends) 0x1A 1 0 [seq, seq / 2 ^ 32] := if_pos (by rw [up, found]; rfl)
  have counted := onlyEntries_bump s K.mirrorResends 32 1
  have item := traceItem_onlyEntries (bump32 s K.mirrorResends) 0x1A 1 0 [seq, seq / 2 ^ 32]
  rw [run]
  refine ⟨?_, (item _ (by decide)).trans (v_setV_self ..), onlyEntries_append counted item, fun off => ?_⟩
  · exact (Keeps.leaf (c := 2) rfl rfl : Keeps 514 s (bump32 s K.mirrorResends)).trans (traceItem_from ..).keeps
  · rw [traceItem_of_off (s := bump32 s K.mirrorResends) 1 0 _ ((congrArg (bitAt · 0x1A) (counted K.traceSources (by decide))).trans off)]
    rfl

theorem resendRequest_of_gone {s : State} {seq : Nat} (no : peerUp s = false ∨ ∀ r ∈ s.pair.unacked ++ s.pair.kept, r.seq ≠ seq) :
    resendRequest s seq = s := by
  refine if_neg ?_
  rw [Bool.and_eq_true, not_and]
  intro up found
  obtain ⟨r, m, hr⟩ := List.any_eq_true.1 found
  rcases no with down | gone
  · rw [up] at down
    exact absurd down.symm Bool.false_ne_true
  · refine gone r (List.mem_append.2 ((List.mem_append.1 m).imp_right fun k => (List.mem_filter.1 k).1)) (beq_iff_eq.1 hr)

theorem adminForward_of_away {s : State} (fn q cid : Nat) (cmd : FwdCmd) (down : peerUp s = false) : adminForward s fn q cid cmd = s := by
  refine if_neg ?_
  rw [down]
  exact Bool.false_ne_true

/-- A Delete that was carried here marks the namespace, and stands as running on it. -/
theorem fwdRun_delete {s : State} {c : Cmd} {nsid : Nat} {n : Ns} (h : nsOf s nsid = some n) (empty : n.waitq = []) (idle : n.running = none)
    (alone : n.attached = []) (still : s.boot.sanitizing = false) (quiet : s.boot.sanWait = []) : ∃ l : Assoc Ns,
      fwdRun s c (.delete nsid) = { s with nss := l } ∧ l.get? nsid = some { n with deleting := true, remote := [], running := some (c, .delete nsid) } := by
  obtain ⟨m, hm, run⟩ := nsArrive_runs (c := c) (op := .delete nsid) h empty idle still quiet
  have known : nsRec { s with nss := m } nsid = { n with running := some (c, .delete nsid) } := by
    simp only [nsRec, nsOf, hm, Option.getD_some]
  have going : nsRun { s with nss := m } c (.delete nsid) = (false, { s with nss := m.upd nsid (fun n => { n with deleting := true, remote := [] }) }) := by
    simp only [nsRun, known, alone, List.isEmpty_nil, Bool.true_or, if_true, List.foldl_nil]
  rw [going] at run
  refine ⟨m.upd nsid (fun n => { n with deleting := true, remote := [] }), run, ?_⟩
  rw [get?_upd, hm]
  rfl

theorem adminForward_delete {s : State} {nsid : Nat} {n : Ns} (fn q cid : Nat) (up : peerUp s = true) (h : nsOf s nsid = some n) (empty : n.waitq = [])
    (idle : n.running = none) (alone : n.attached = []) (still : s.boot.sanitizing = false) (quiet : s.boot.sanWait = []) : ∃ m,
    let u := adminForward s fn q cid (.delete nsid)
    u.nss.get? nsid = some m ∧ m.deleting = true ∧ m.running ≠ none ∧
      m = { n with deleting := true, remote := [], running := m.running } ∧ u = { s with nss := u.nss, pair := u.pair } := by
  have kept : Keeps 4398046511104 s (recvOther s 8) := (recvOther_from 8).keeps
  have run : adminForward s fn q cid (.delete nsid) = fwdRun (recvOther s 8) ⟨fn % 1024 + 1024, q, cid, nsid, false⟩ (.delete nsid) := if_pos up
  generalize recvOther s 8 = r at kept run
  obtain ⟨l, eq, get⟩ := fwdRun_delete (c := ⟨fn % 1024 + 1024, q, cid, nsid, false⟩) (s := r) (n := n) (by rw [nsOf, kept.nss rfl]; exact h) empty idle
    alone (by rw [kept.boot rfl]; exact still) (by rw [kept.boot rfl]; exact quiet)
  rw [run, eq]
  refine ⟨_, get, rfl, Option.some_ne_none _, rfl, ?_⟩
  have frame : r = { s with pair := r.pair } := kept
  dsimp only
  rw [frame]

theorem pairSharedEntry_effect {s : State} {idx sub x key : Nat} {b : Bytes} {r : Row} (row : rowOf idx sub = some r) (shared : pairShared idx sub = true)
    (up : peerUp s = true) (hk : key = entryKey idx sub 0) : ∃ p, let u := pairSharedEntry s idx sub x b
      u.store.queue = s.store.queue ++ [p] ∧ p.answer = false ∧
      (r.acc = 6 → (⟨applyTide s, .entry key x⟩ : Staged) ∈ u.staged ∧ p.recs = [jrec key 2 (if r.ty = 14 then b else leBytes r.size x) (applyTide s)]) ∧
      (r.acc ≠ 6 → u.staged = s.staged ∧ p.recs = [jrec key 1 (if r.ty = 14 then b else leBytes r.size x) 0]) := by
  have both : (peerUp s && pairShared idx sub) = true := by
    rw [up, shared]
    rfl
  have kept : Keeps 4398046511104 s (recvOther s 9) := (recvOther_from 9).keeps
  unfold pairSharedEntry
  rw [row]
  dsimp only
  rw [if_pos both, ← hk]
  generalize recvOther s 9 = a at kept
  have queue : a.store.queue = s.store.queue := by rw [kept.store rfl]
  have tide : applyTide a = applyTide s := by
    have frame : a = { s with pair := a.pair } := kept
    rw [frame]
    rfl
  split
  next six =>
    refine ⟨⟨MiowaReq.none, false, [jrec key 2 (if r.ty = 14 then b else leBytes r.size x) (applyTide a)], 1, [], 0, .own⟩, ?_, rfl,
      fun _ => ⟨tide ▸ mem_stageAt a _ _, by rw [tide]⟩, fun no => absurd six no⟩
    exact congrArg (· ++ _) queue
  next other =>
    refine ⟨⟨MiowaReq.none, false, [jrec key 1 (if r.ty = 14 then b else leBytes r.size x) 0], 1, [], 0, .rwp⟩, ?_, rfl,
      fun yes => absurd yes other, fun _ => ⟨kept.staged rfl, rfl⟩⟩
    exact congrArg (· ++ _) queue

theorem pairSharedEntry_of_other {s : State} (idx sub x : Nat) (b : Bytes) (no : peerUp s = false ∨ pairShared idx sub = false) :
    pairSharedEntry s idx sub x b = s := by
  unfold pairSharedEntry
  split
  · refine if_neg fun both => ?_
    obtain ⟨up, shared⟩ := Bool.and_eq_true_iff.1 both
    rcases no with down | other
    · exact absurd (down.symm.trans up) Bool.false_ne_true
    · exact absurd (other.symm.trans shared) Bool.false_ne_true
  · rfl

theorem powerCoordination_effect {s : State} (target : Nat) (up : peerUp s = true) : let t := powerCoordination s target
    t = { s with pair := t.pair } ∧ t.pair.partnerAsleep = (target == 2 || target == 3) ∧ ∃ r ∈ t.pair.recv, r.kind = 0x0A := by
  obtain ⟨r, m, kind⟩ := recvOther_effect s 0x0A
  have kept : Keeps 4398046511104 s (recvOther s 0x0A) := (recvOther_from 0x0A).keeps
  unfold powerCoordination
  rw [if_pos up]
  generalize recvOther s 0x0A = a at kept m
  exact ⟨kept.trans (Keeps.leaf (c := 4398046511104) rfl rfl), rfl, r, m, kind⟩

theorem powerCoordination_of_away {s : State} (target : Nat) (down : peerUp s = false) : powerCoordination s target = s :=
  if_neg (by rw [down]; exact Bool.false_ne_true)

/-- Settles O46: the pair's link trains, and its records are received in sequence, acknowledged and resent. -/
theorem pairLink : Obligations.pair_link := by
  intro s w
  refine ⟨fun on rate width ver m hm => ⟨_, rfl, rinorLinkUp_effect on hm⟩, fun on down => ?_, fun no => next_congr (if_neg ?_), fun up => next_congr (if_pos up),
    fun down => next_congr ?_, fun i k h b m => ⟨fun up stands ahead new => ⟨_, exec_mirror m s, ?_⟩, fun no => ?_⟩,
    fun h up stands good => ⟨_, rfl, mirrorRelease_effect w up stands good⟩, fun h no => next_congr (mirrorRelease_of_away no),
    fun arg m hm empty => ⟨fun up ahead => ⟨_, rfl, mirrorAck_effect hm empty up ahead⟩, fun no => next_congr (congrArg settle (mirrorAck_of_old (hm ▸ no)))⟩,
    fun seq => ⟨fun up held => ⟨_, rfl, resendRequest_effect up held⟩, fun no => next_congr (resendRequest_of_gone no)⟩,
    fun fn q cid => ⟨fun down cmd => next_congr (congrArg settle (adminForward_of_away fn q cid cmd down)), fun nsid n up found empty idle alone still quiet => ?_⟩,
    fun idx sub x b r key row shared up hk => ?_, fun idx sub x b no => next_congr (congrArg settle (pairSharedEntry_of_other idx sub x b no)),
    fun target => ⟨fun up => ⟨_, rfl, powerCoordination_effect target up⟩, fun down => next_congr (powerCoordination_of_away target down)⟩⟩
  · have run : rinorTrainingTimeout s = negFail s K.rinorNegotiation 4 (rinorOffered s) := if_pos (by rw [on, down]; rfl)
    exact ⟨_, next_congr run, rfl, onlyEntries_setV _ _ _, v_setV_self ..⟩
  · rcases no with off | up
    · rw [off]
      exact Bool.false_ne_true
    · rw [up, Bool.not_true, Bool.and_false]
      exact Bool.false_ne_true
  · refine (if_neg ?_).trans ?_
    · rw [down]
      exact Bool.false_ne_true
    · rw [← down]
  · rw [mirrorRecv_of_pair k h b up stands]
    exact ⟨(recvPut_from _).keeps, recvPut_run ahead new⟩
  · rw [exec_mirror m s, mirrorRecv_of_old k b no]
  · obtain ⟨m, effect⟩ := adminForward_delete fn q cid up found empty idle alone still quiet
    exact ⟨_, m, rfl, effect⟩
  · obtain ⟨p, effect⟩ := pairSharedEntry_effect (x := x) (b := b) row shared up hk
    exact ⟨_, p, rfl, effect⟩

end Sys2Proof.PairLink

/-! The pair's states: forming, fencing, taking over, being fenced and handing back (R319 to R321, R331 to R337). -/
namespace Sys2Proof.PairState
open Sys2Proof Sys2Proof.Machine Sys2Proof.Effects Sys2Proof.Answers Sys2Proof.Dram Sys2Proof.CodeFlash

-- ===== the groups of the two halves (R337) =====

/-- The ANA state of a half's group, of the pair's registers. -/
def anaIn (p : Pair) (h : Nat) : Nat := if h = 0 then p.ana1 else p.ana2

/-- The pair's registers with a group in another state. -/
def setAna (p : Pair) (h x : Nat) : Pair := { p with ana1 := if h = 0 then x else p.ana1, ana2 := if h = 0 then p.ana2 else x }

theorem anaOf_eq {s : State} {p : Pair} (e : s.pair = p) (h : Nat) : anaOf s h = anaIn p h := by
  subst e
  rfl

theorem anaIn_setAna_self (p : Pair) (h x : Nat) : anaIn (setAna p h x) h = x := by
  unfold anaIn setAna
  split <;> rfl

theorem otherHalf_eq_zero {h : Nat} : otherHalf h = 0 ↔ h ≠ 0 := by
  unfold otherHalf
  split <;> simp [*]

theorem anaIn_setAna_ne (p : Pair) {h k : Nat} (x : Nat) (differ : k = 0 ↔ h ≠ 0) : anaIn (setAna p h x) k = anaIn p k := by
  by_cases zero : h = 0 <;> simp [anaIn, setAna, differ, zero]

theorem anaIn_setAna_other (p : Pair) (h x : Nat) : anaIn (setAna p h x) (otherHalf h) = anaIn p (otherHalf h) := anaIn_setAna_ne p x otherHalf_eq_zero

theorem anaIn_setAna_of_other (p : Pair) (h x : Nat) : anaIn (setAna p (otherHalf h) x) h = anaIn p h :=
  anaIn_setAna_ne p x (by rw [ne_eq, otherHalf_eq_zero, Classical.not_not])

theorem anaTo_pair (s : State) (h x : Nat) : (anaTo s h x).pair = setAna s.pair h x := by
  unfold anaTo
  split
  next same =>
    subst same
    unfold anaOf setAna
    split <;> rfl
  next =>
    refine (Resets.foldl_keep State.pair (fun u n => (aen_from (s := u) n .anaChange).keeps.pair rfl) _ _).trans ?_
    unfold setAna
    dsimp only
    split <;> rfl

theorem cfsAll_pair (s : State) : (cfsAll s).pair = { s.pair with hbOut := false } :=
  Resets.foldl_keep State.pair (fun u n => (setCfs_from (s := u) n).keeps.pair rfl) _ _

theorem cfsAll_fnExists (s : State) (n : Nat) : fnExists (cfsAll s) n = fnExists s n :=
  have k := (cfsAll_from (s := s)).keeps
  fnExists_congr (k.portMode rfl) (k.vfSplit rfl) (k.portA rfl) (k.portB rfl) n

-- ===== forming (R320) =====

theorem formed_pairs {s : State} {me other : Nat} (hm : me = s.pair.position) (ho : other = otherHalf me) (fresh : s.pair.returning = false)
    (own : anaOf s me ≠ 1) : let u := formed s
    u.pair = setAna { s.pair with recvSeq := 0, recv := [], state := 2 } other 1 ∧ ∀ x ∈ halfStrands other, x ∈ u.nand.gated := by
  subst hm ho
  have run : formed s = gateHalf (anaTo { newRun s with pair := { (newRun s).pair with state := 2 } } (otherHalf s.pair.position) 1) (otherHalf s.pair.position) true := by
    refine (if_neg ?_).trans (if_neg own)
    rw [show (newRun s).pair.returning = false from fresh]
    exact Bool.false_ne_true
  rw [run]
  exact ⟨anaTo_pair _ _ _, fun x m => List.mem_append_right _ m⟩

theorem formed_returns {s : State} {me other : Nat} (hm : me = s.pair.position) (ho : other = otherHalf me) (back : s.pair.returning = true) :
    (formed s).pair = setAna (setAna { s.pair with recvSeq := 0, recv := [], state := 6 } me 2) other 1 := by
  subst hm ho
  refine (congrArg State.pair (if_pos back)).trans ?_
  rw [anaTo_pair, anaTo_pair]
  rfl

theorem pairRefused_effect (s : State) (cause : Nat) : let u := pairRefused s cause
    u.pair = { s.pair with state := 7, hbOut := false } ∧ Recorded s u Ev.pairRefused [cause] ∧
    ∀ n < 1024, fnExists s n = true → (inst u n).cfs = true := by
  obtain ⟨e, he⟩ : ∃ e, event { s with pair := { s.pair with state := 7, hbOut := false } } Ev.pairRefused [cause] = e := ⟨_, rfl⟩
  have noted : Keeps 258 { s with pair := { s.pair with state := 7, hbOut := false } } e := he ▸ (event_from ..).keeps
  have recorded : Recorded s e Ev.pairRefused [cause] :=
    recorded_congr (event_recorded { s with pair := { s.pair with state := 7, hbOut := false } } Ev.pairRefused [cause]) rfl rfl (he ▸ rfl)
  have run : pairRefused s cause = cfsAll e := congrArg cfsAll he
  rw [run]
  refine ⟨?_, recorded_congr recorded rfl rfl (cfsAll_from.keeps.recd rfl), fun n lt there => cfsAll_cfs e lt ?_⟩
  · rw [cfsAll_pair, noted.pair rfl]
  · rw [fnExists_congr (noted.portMode rfl) (noted.vfSplit rfl) (noted.portA rfl) (noted.portB rfl)]
    exact there

theorem formation_matches {s : State} {f : FormRec} (up : peerUp s = true) (plain : f.handover = false) (forming : s.pair.state = 1)
    (good : formCause s f = 0) : formation s f = formed s := by
  unfold formation
  rw [up, plain, if_neg (by decide), if_neg (by decide), if_pos forming]
  split
  · rfl
  next differs => exact absurd good differs

theorem formation_refused {s : State} {f : FormRec} (up : peerUp s = true) (plain : f.handover = false) (forming : s.pair.state = 1)
    (bad : formCause s f ≠ 0) : formation s f = pairRefused s (formCause s f) := by
  unfold formation
  rw [up, plain, if_neg (by decide), if_neg (by decide), if_pos forming]
  split
  next zero => exact absurd zero bad
  next => rfl

theorem handOver_pair (s : State) (h : Nat) : (handOver s h).pair = setAna { s.pair with state := 6, handing := some h } h 2 := anaTo_pair _ _ _

-- ===== fencing the partner (R332 to R334) =====

theorem excuse_takingOver (s : State) (f : Flight) : (excuse s f).nand.takingOver = s.nand.takingOver := by
  unfold excuse
  split
  · rfl
  · dsimp only
    split <;> rfl

/-- The records that were received whole. -/
def fencedRecs (s : State) : List MirRec := bySeq (s.pair.recv.filter (fun r => decide (r.seq ≤ consistencyPoint s)))

/-- The pair's registers once the partner is fenced. -/
def fencedPair (s : State) : Pair := { s.pair with
  state := 3, fenceOut := true, fenceNs := s.clk.nowNs, deferring := false, handing := none, returning := false, recv := [], unacked := [], kept := []
  partnerAsleep := false }

/-- PARTNER_FENCE moves the groups, applies the records received whole, and then leaves the pair, the zones and the half taken over. -/
theorem partnerFence_effect {s : State} {me other : Nat} (hm : me = s.pair.position) (ho : other = otherHalf me) (free : s.pair.fenceIn = false) :
    ∃ a, a.pair = setAna (setAna (fencedPair s) me 0) other 2 ∧ a.nand.takingOver = halfMask other ∧ a.nss = s.nss ∧
      let b := (fencedRecs s).foldl mirApply a
      let u := partnerFence s
      u.pair = b.pair ∧ u.zones = b.zones ∧ u.nand.takingOver = b.nand.takingOver := by
  subst hm ho
  have run : partnerFence s = _ := if_neg (by rw [free]; exact Bool.false_ne_true)
  rw [run]
  clear run
  extract_lets me other cp rs _ _ a0 a b _ c u
  have groups : a.pair = setAna (setAna (fencedPair s) me 0) other 2 := by
    show (anaTo (anaTo a0 me 0) other 2).pair = _
    rw [anaTo_pair, anaTo_pair]
    rfl
  have moved : Keeps 4399189067266 a0 a := (anaTo_from me 0).keeps.trans (anaTo_from other 2).keeps
  refine ⟨a, groups, congrArg Nand.takingOver (moved.nand rfl), moved.nss rfl, ?_⟩
  have applied : b = (fencedRecs s).foldl mirApply a := rfl
  rw [← applied]
  have after : c.pair = b.pair ∧ c.zones = b.zones ∧ c.nand = b.nand := ⟨rfl, rfl, rfl⟩
  clear_value c
  obtain ⟨pair, zones, nand⟩ := after
  obtain ⟨d, hd⟩ : ∃ d, excuseReads (gateHalf c other false) (fun a => bitAt (halfMask other) (a.die / 64)) = d := ⟨_, rfl⟩
  have excused : Keeps 34360786946 (gateHalf c other false) d := hd ▸ (excuseReads_from _).keeps
  have half : d.nand.takingOver = c.nand.takingOver := by
    subst hd
    exact Resets.foldl_keep (fun u => u.nand.takingOver) excuse_takingOver _ _
  have acked := (ackedWrites_from (s := d)).keeps
  have run : u = ackedWrites d := congrArg ackedWrites hd
  clear_value u
  subst run
  exact ⟨(acked.pair rfl).trans ((excused.pair rfl).trans pair), (acked.zones rfl).trans ((excused.zones rfl).trans zones),
    (congrArg Nand.takingOver (acked.nand rfl)).trans (half.trans (congrArg Nand.takingOver nand))⟩

theorem fencedRecs_of_none {s : State} (h : s.pair.recv = []) : fencedRecs s = [] := by
  simp only [fencedRecs, h, List.filter_nil]
  rfl

theorem fencedRecs_of_group {s : State} {r : MirRec} (h : s.pair.recv = [r]) (whole : r.groupEnd = true) (run : r.seq ≤ s.pair.recvSeq) :
    fencedRecs s = [r] := by
  have point : consistencyPoint s = r.seq := by
    simp [consistencyPoint, h, whole, run, maxNat]
  simp [fencedRecs, point, h, bySeq, sortNat, insertNat]

theorem mirZoneRec_zone {s : State} {nsid zone wp st : Nat} {n : Ns} (h : nsOf s nsid = some n) :
    let u := mirZoneRec s nsid zone wp st
    (zoneAt u (zkey nsid zone)).wp = wp ∧ (zoneAt u (zkey nsid zone)).st = zstateOf st := by
  have run : mirZoneRec s nsid zone wp st = modZone (mirZone s n (zkey nsid zone)) (zkey nsid zone) (fun z => { z with wp := wp, applied := wp, st := zstateOf st }) := by
    simp only [mirZoneRec, h]
  rw [run]
  simp only [zoneAt, modZone, Assoc.getD, Assoc.get?_put_self, Option.getD_some, and_self]

/-- What PARTNER_FENCE leaves, for whichever reason it comes. -/
theorem fences {i : Instr} {s a : State} {me other : Nat} (run : exec i s = .next (settle (partnerFence a))) (same : a.clk = s.clk) (nss : a.nss = s.nss)
    (recv : a.pair.recv = s.pair.recv) (seq : a.pair.recvSeq = s.pair.recvSeq) (hm : me = a.pair.position) (ho : other = otherHalf me)
    (free : a.pair.fenceIn = false) :
    (s.pair.recv = [] → ∃ u, exec i s = .next (settle u) ∧ u.pair.state = 3 ∧ u.pair.fenceOut = true ∧ u.pair.fenceNs = s.clk.nowNs ∧ anaOf u me = 0 ∧
      anaOf u other = 2 ∧ u.pair.unacked = [] ∧ u.nand.takingOver = halfMask other) ∧
    (∀ r nsid zone wp st n, s.pair.recv = [r] → r.groupEnd = true → r.seq ≤ s.pair.recvSeq → r.body = .zone nsid zone wp st → nsOf s nsid = some n →
      ∃ u, exec i s = .next (settle u) ∧ (zoneAt u (zkey nsid zone)).wp = wp ∧ (zoneAt u (zkey nsid zone)).st = zstateOf st) := by
  obtain ⟨b, groups, half, known, pair, zones, taking⟩ := partnerFence_effect hm ho free
  refine ⟨fun empty => ⟨_, run, ?_⟩, fun r nsid zone wp st n one whole upTo body found => ⟨_, run, ?_⟩⟩
  · rw [fencedRecs_of_none (recv.trans empty), List.foldl_nil] at pair taking
    have regs := pair.trans groups
    rw [anaOf_eq regs, anaOf_eq regs, regs, taking, ← same]
    refine ⟨rfl, rfl, rfl, ?_, anaIn_setAna_self _ _ _, rfl, half⟩
    rw [ho, anaIn_setAna_of_other, anaIn_setAna_self]
  · rw [fencedRecs_of_group (recv.trans one) whole (seq ▸ upTo), List.foldl_cons, List.foldl_nil] at zones
    have there : nsOf b nsid = some n := by
      rw [nsOf, known, nss]
      exact found
    have zone' := mirZoneRec_zone (zone := zone) (wp := wp) (st := st) there
    have applied : mirApply b r = mirZoneRec b nsid zone wp st := by simp only [mirApply, body]
    simp only [zoneAt, zones, applied]
    exact zone'

theorem pairDeadTime_kept {s : State} (hb : Bool) (no : mirroring s = false ∨ (mirrorLost s = false ∧ s.pair.partnerAsleep = false)) :
    pairDeadTime s hb = { s with pair := { s.pair with hbInStopped := !hb } } := by
  refine if_pos ?_
  show (!(mirroring s && (mirrorLost s || s.pair.partnerAsleep)) || (s.pair.partnerAsleep && hb)) = true
  rcases no with off | ⟨well, awake⟩
  · rw [off]
    rfl
  · rw [well, awake, Bool.or_false, Bool.and_false]
    rfl

theorem pairDeadTime_lost {s : State} (hb : Bool) (on : mirroring s = true) (lost : mirrorLost s = true) (awake : s.pair.partnerAsleep = false) :
    pairDeadTime s hb = if s.pair.position = 0 then partnerFence { s with pair := { s.pair with hbInStopped := !hb } }
      else if hb then { s with pair := { s.pair with hbInStopped := !hb } } else { s with pair := { s.pair with hbInStopped := !hb, deferring := true } } := by
  refine if_neg ?_
  show ¬ (!(mirroring s && (mirrorLost s || s.pair.partnerAsleep)) || (s.pair.partnerAsleep && hb)) = true
  rw [on, lost, awake]
  exact Bool.false_ne_true

-- ===== the takeover's end (R335) =====

theorem takeoverComplete_effect {s : State} {me other : Nat} (hm : me = s.pair.position) (ho : other = otherHalf me) (on : s.pair.state = 3)
    (empty : s.pair.forwards = []) : let u := takeoverComplete s
    u.pair.state = 4 ∧ u.nand.takingOver = 0 ∧ anaOf u other = 0 ∧ anaOf u me = anaOf s me ∧
    v u K.lastTakeoverUs = Nat.min ((s.clk.nowNs - s.pair.fenceNs) / 1000) (2 ^ 32 - 1) := by
  subst hm ho
  obtain ⟨c, hc⟩ : ∃ c, cutUnits s 7 (fun k _ => (nsRec s (k / 2 ^ 32)).half == otherHalf s.pair.position) = c := ⟨_, rfl⟩
  have cut : Keeps 2234533938946 s c := hc ▸ (cutUnits_from ..).keeps
  obtain ⟨m, hm⟩ : ∃ m, ({ c with pair := { c.pair with state := 4, forwards := [] }, nand := { c.nand with takingOver := 0 } } : State) = m := ⟨_, rfl⟩
  have start : m.pair = { s.pair with state := 4, forwards := [] } ∧ m.nand.takingOver = 0 ∧ m.clk = s.clk := by
    subst hm
    exact ⟨congrArg (fun p : Pair => { p with state := 4, forwards := [] }) (cut.pair rfl), rfl, cut.clk rfl⟩
  obtain ⟨pair, taking, clk⟩ := start
  obtain ⟨a, ha⟩ : ∃ a, anaTo m (otherHalf s.pair.position) 0 = a := ⟨_, rfl⟩
  have regs : a.pair = setAna { s.pair with state := 4, forwards := [] } (otherHalf s.pair.position) 0 := by rw [← ha, anaTo_pair, pair]
  have moved : Keeps 4399189067266 m a := ha ▸ (anaTo_from ..).keeps
  have run : takeoverComplete s = bump32 (setV a K.lastTakeoverUs (Nat.min ((a.clk.nowNs - a.pair.fenceNs) / 1000) (2 ^ 32 - 1))) K.takeovers := by
    have carried : c.pair.forwards = [] := (congrArg Pair.forwards (cut.pair rfl)).trans empty
    refine (if_neg (Classical.not_not.2 on)).trans ?_
    dsimp only
    rw [hc, hm, ha, carried, List.foldl_nil]
  have time : a.clk = s.clk := (moved.clk rfl).trans clk
  rw [run]
  refine ⟨congrArg Pair.state regs, (congrArg Nand.takingOver (moved.nand rfl)).trans taking, ?_, ?_, ?_⟩
  · exact (anaOf_eq regs _).trans (anaIn_setAna_self _ _ _)
  · exact (anaOf_eq regs _).trans (anaIn_setAna_of_other _ _ _)
  · refine (onlyEntries_bump _ K.takeovers 32 1 K.lastTakeoverUs (by decide)).trans ((v_setV_self ..).trans ?_)
    rw [time, regs]
    rfl

-- ===== being fenced (R331) =====

theorem fenced_effect {s u : State} (on : s.pair.enabled = true) (free : s.pair.fenceIn = false) (hu : fenced s = u) :
    u.pair.state = 5 ∧ u.pair.fenceIn = true ∧ u.pair.fenceOut = false ∧ u.pair.hbOut = false ∧ u.xlat.wbuf = [] ∧ u.nand.wtLog = [] ∧ u.wdt.kicks = [] ∧
    ∀ n < 1024, fnExists u n = true → (inst u n).cfs = true := by
  unfold fenced at hu
  rw [if_neg (by rw [on, free]; exact Bool.false_ne_true)] at hu
  extract_lets a b po wd na x p c at hu
  have stopped : c.pair.state = 5 ∧ c.pair.fenceIn = true ∧ c.pair.fenceOut = false ∧ c.xlat.wbuf = [] ∧ c.nand.wtLog = [] ∧ c.wdt.kicks = [] :=
    ⟨rfl, rfl, rfl, rfl, rfl, rfl⟩
  clear_value c
  subst hu
  obtain ⟨state, fenceIn, fenceOut, wbuf, wtLog, kicks⟩ := stopped
  have boots := (bootSelect_from (s := c)).keeps
  have ends := (cfsAll_from (s := bootSelect c)).keeps
  have pair : (cfsAll (bootSelect c)).pair = { c.pair with hbOut := false } := by rw [cfsAll_pair, boots.pair rfl]
  rw [pair]
  refine ⟨state, fenceIn, fenceOut, rfl, ?_, ?_, ?_, fun n lt there => cfsAll_cfs _ lt ?_⟩
  · exact (congrArg Xlat.wbuf ((ends.xlat rfl).trans (boots.xlat rfl))).trans wbuf
  · exact (congrArg Nand.wtLog ((ends.nand rfl).trans (boots.nand rfl))).trans wtLog
  · exact (congrArg (fun r => r.kicks) ((ends.wdt rfl).trans (boots.wdt rfl))).trans kicks
  · rwa [cfsAll_fnExists] at there

-- ===== PAIR_CTRL (R336) =====

theorem onlyAnswered_pair {s t : State} {ks : List Nat} (h : OnlyAnswered s t ks) : t.pair = s.pair := by
  have pair := congrArg State.pair h.1
  exact pair

theorem rejoinNow_of_surrendered {s : State} (h : s.pair.state = 8) : ∃ t, rejoinNow s = (.code 0, t) ∧
    t.pair.state = 6 ∧ t.pair.returning = true ∧ anaOf t s.pair.position = 2 := by
  obtain ⟨b, hb⟩ : ∃ b, (if s.pair.linkUp then mirrorSend { s with pair := { s.pair with state := 6, returning := true } } 7 64 0 false
    else { s with pair := { s.pair with state := 6, returning := true } }) = b := ⟨_, rfl⟩
  have run : rejoinNow s = (.code 0, anaTo b s.pair.position 2) := by
    subst hb
    unfold rejoinNow
    rw [if_neg (by rw [h]; decide), if_pos h]
  have regs : b.pair.state = 6 ∧ b.pair.returning = true := by
    subst hb
    split <;> exact ⟨rfl, rfl⟩
  have pair := anaTo_pair b s.pair.position 2
  obtain ⟨state, returning⟩ := regs
  exact ⟨_, run, (congrArg Pair.state pair).trans state, (congrArg Pair.returning pair).trans returning,
    (anaOf_eq pair _).trans (anaIn_setAna_self _ _ _)⟩

theorem rejoin_effect {s : State} {a : Access} {me : Nat} (hm : me = s.pair.position) (allowed : Allowed s a 0x6001 8 1) : ∃ u,
    exec (.rejoin a) s = .next (settle u) ∧ Answered u a.path 2 a.tag (if s.pair.state = 4 ∨ s.pair.state = 8 then 0 else 0x0D) [] ∧
    (s.pair.state = 4 → u.pair = { s.pair with fenceOut := false }) ∧
    (s.pair.state = 8 → u.pair.state = 6 ∧ u.pair.returning = true ∧ anaOf u me = 2) ∧ (s.pair.state ≠ 4 → s.pair.state ≠ 8 → u.pair = s.pair) := by
  subst hm
  by_cases solo : s.pair.state = 4
  · have run : rejoinNow s = (.code 0, { s with pair := { s.pair with fenceOut := false } }) := if_pos solo
    obtain ⟨answered, only, -⟩ := accessWrite_done (f := fun s _ => rejoinNow s) allowed fun _ => run
    have pair := onlyAnswered_pair only
    refine ⟨_, rfl, ?_, fun _ => pair, fun h8 => absurd (solo.symm.trans h8) (by decide), fun h4 => absurd solo h4⟩
    rw [if_pos (.inl solo)]
    exact answered
  by_cases standby : s.pair.state = 8
  · obtain ⟨t, run, state, returning, ana⟩ := rejoinNow_of_surrendered standby
    obtain ⟨answered, only, -⟩ := accessWrite_done (f := fun s _ => rejoinNow s) allowed fun _ => run
    have pair := onlyAnswered_pair only
    refine ⟨_, rfl, ?_, fun h4 => absurd h4 solo, fun _ => ⟨(congrArg Pair.state pair).trans state, (congrArg Pair.returning pair).trans returning, ?_⟩,
      fun _ h8 => absurd standby h8⟩
    · rw [if_pos (.inr standby)]
      exact answered
    · exact (anaOf_eq pair _).trans ana
  · have run : rejoinNow s = (.code 0x0D, s) := (if_neg solo).trans (if_neg standby)
    obtain ⟨answered, only, -⟩ := accessWrite_done (f := fun s _ => rejoinNow s) allowed fun _ => run
    refine ⟨_, rfl, ?_, fun h4 => absurd h4 solo, fun h8 => absurd h8 standby, fun _ _ => onlyAnswered_pair only⟩
    rw [if_neg (not_or.2 ⟨solo, standby⟩)]
    exact answered

theorem surrender_effect {s : State} {a : Access} {me : Nat} (hm : me = s.pair.position) (allowed : Allowed s a 0x6001 8 2) : ∃ u,
    exec (.surrender a) s = .next (settle u) ∧
    (s.pair.state = 2 → mirroring s = true → Answered u a.path 2 a.tag 0 [] ∧ u.pair.state = 6 ∧ u.pair.handing = some me ∧ anaOf u me = 2) ∧
    (s.pair.state ≠ 2 ∨ mirroring s = false → Answered u a.path 2 a.tag 0x0D [] ∧ u.pair = s.pair) := by
  subst hm
  by_cases paired : s.pair.state = 2 ∧ mirroring s = true
  · have run : surrenderNow s = (.code 0, handOver s s.pair.position) := if_pos paired
    obtain ⟨answered, only, -⟩ := accessWrite_done (f := fun s _ => surrenderNow s) allowed fun _ => run
    have pair := (onlyAnswered_pair only).trans (handOver_pair s s.pair.position)
    obtain ⟨state, on⟩ := paired
    refine ⟨_, rfl, fun _ _ => ⟨answered, congrArg Pair.state pair, congrArg Pair.handing pair, (anaOf_eq pair _).trans (anaIn_setAna_self _ _ _)⟩, fun no => ?_⟩
    rcases no with other | off
    · exact absurd state other
    · exact absurd (off.symm.trans on) Bool.false_ne_true
  · have run : surrenderNow s = (.code 0x0D, s) := if_neg paired
    obtain ⟨answered, only, -⟩ := accessWrite_done (f := fun s _ => surrenderNow s) allowed fun _ => run
    exact ⟨_, rfl, fun h2 on => absurd ⟨h2, on⟩ paired, fun _ => ⟨answered, onlyAnswered_pair only⟩⟩

/-- Settles O47: the pair forms, fences, takes over and hands back by its state. -/
theorem pairState : Obligations.pair_state := by
  intro s me other hm ho
  refine ⟨fun f down => next_congr (congrArg settle (if_pos ?_)), fun f up plain forming => ?_, fun f up plain solo ready matching => ?_,
    fun i why free => ?_, fun pos forming => next_congr (congrArg settle ?_), fun other e => next_congr (congrArg settle (if_pos (.inl other))),
    fun pos on lost awake => ?_, fun hb no => next_congr (congrArg settle (pairDeadTime_kept hb no)), fun on => next_congr (congrArg settle ?_),
    fun off hb => next_congr (congrArg settle (if_pos ?_)), fun on empty => ⟨_, rfl, takeoverComplete_effect hm ho on empty⟩,
    fun other => next_congr (congrArg settle (if_pos other)), fun on free => ⟨_, rfl, fenced_effect on free rfl⟩, fun no => next_congr (congrArg settle (if_pos ?_)),
    fun at5 => next_congr (if_pos at5), fun other => next_congr (if_neg other), fun a allowed => rejoin_effect hm allowed,
    fun a allowed => surrender_effect hm allowed⟩
  · rw [down]
    rfl
  · refine ⟨fun good fresh own => ⟨_, next_congr (congrArg settle (formation_matches up plain forming good)), ?_⟩,
      fun good back => ⟨_, next_congr (congrArg settle (formation_matches up plain forming good)), ?_⟩,
      fun bad => ⟨_, next_congr (congrArg settle (formation_refused up plain forming bad)), pairRefused_effect s _⟩⟩
    · obtain ⟨pair, gated⟩ := formed_pairs hm ho fresh own
      refine ⟨congrArg Pair.state pair, congrArg Pair.recvSeq pair, congrArg Pair.recv pair, (anaOf_eq pair _).trans (anaIn_setAna_self _ _ _),
        (anaOf_eq pair _).trans ?_, gated⟩
      rw [ho, anaIn_setAna_of_other]
      rfl
    · have pair := formed_returns hm ho back
      refine ⟨congrArg Pair.state pair, (anaOf_eq pair _).trans ?_, (anaOf_eq pair _).trans (anaIn_setAna_self _ _ _)⟩
      rw [ho, anaIn_setAna_of_other, anaIn_setAna_self]
  · have run : formation s f = handOver (newRun s) other := by
      unfold formation
      rw [up, plain, if_neg (by decide), if_neg (by decide), if_neg (by rw [solo]; decide), if_pos ⟨solo, by rw [ready]; rfl⟩, ho, hm]
      split
      · rfl
      next differs => exact absurd matching differs
    have pair := handOver_pair (newRun s) other
    exact ⟨_, next_congr (congrArg settle run), congrArg Pair.state pair, congrArg Pair.handing pair, (anaOf_eq pair _).trans (anaIn_setAna_self _ _ _)⟩
  · rcases why with ⟨rfl, forming, zero⟩ | ⟨hb, rfl, on, lost, awake, zero⟩ | ⟨rfl, on⟩
    · refine fences (next_congr (congrArg settle ?_)) rfl rfl rfl rfl hm ho free
      refine (if_neg ?_).trans (if_pos (hm.symm.trans zero))
      rw [forming]
      decide
    · refine fences (a := { s with pair := { s.pair with hbInStopped := !hb } }) (next_congr (congrArg settle ?_)) rfl rfl rfl rfl hm ho free
      exact (pairDeadTime_lost hb on lost awake).trans (if_pos (hm.symm.trans zero))
    · refine fences (next_congr (congrArg settle ?_)) rfl rfl rfl rfl hm ho free
      refine (if_neg ?_).trans (if_neg Bool.false_ne_true)
      rw [on]
      exact Bool.false_ne_true
  · refine (if_neg ?_).trans (if_neg (hm ▸ pos))
    rw [forming]
    decide
  · have there : s.pair.position ≠ 0 := hm ▸ pos
    refine ⟨next_congr (congrArg settle ?_), next_congr (congrArg settle ?_)⟩
    · rw [pairDeadTime_lost false on lost awake, if_neg there]
      rfl
    · rw [pairDeadTime_lost true on lost awake, if_neg there]
      rfl
  · refine (if_neg ?_).trans (if_pos rfl)
    rw [on]
    exact Bool.false_ne_true
  · rw [off]
    rfl
  · rcases no with off | fenced'
    · rw [off]
      rfl
    · rw [fenced', Bool.or_true]

end Sys2Proof.PairState

/-! Pieces of compressed writes, units cut by idle time, and frames that are decoded (R198 to R215). -/
namespace Sys2Proof.Compression
open Sys2Proof Sys2Proof.Machine Sys2Proof.Effects Sys2Proof.Stores Sys2Proof.Dram Sys2Proof.Losses

-- ===== a piece's blocks (R198) =====

theorem lkey_injective {nsid a b : Nat} (h : lkey nsid a = lkey nsid b) : a = b := Nat.add_left_cancel h

theorem storeBlock_data {s : State} (nsid lba : Nat) (b : Block) (w : s.blocks.wf = true) : blockData (storeBlock s nsid lba b) nsid lba = b.data := by
  simp only [blockData, storeBlock, Assoc.getD]
  split
  next zero =>
    rw [get?_del_self _ w, zero]
    rfl
  next => rw [Assoc.get?_put_self, Option.getD_some]

theorem storeBlock_stays {s : State} {nsid lba k : Nat} (b : Block) (h : k ≠ lkey nsid lba) :
    (storeBlock s nsid lba b).blocks.get? k = s.blocks.get? k := by
  simp only [storeBlock]
  split
  · exact get?_del_ne _ h
  · exact Assoc.get?_put_ne _ _ h

/-- The blocks of a piece stored in turn. -/
def storePiece (s : State) (nsid : Nat) (piece : List (Nat × Block)) : State := piece.foldl (fun s b => storeBlock s nsid b.1 b.2) s

theorem storePiece_stays {k nsid : Nat} (piece : List (Nat × Block)) (s : State) (h : ∀ x ∈ piece, k ≠ lkey nsid x.1) :
    (storePiece s nsid piece).blocks.get? k = s.blocks.get? k := by
  induction piece generalizing s with
  | nil => rfl
  | cons x piece ih => exact (ih _ fun y m => h y (List.mem_cons_of_mem _ m)).trans (storeBlock_stays _ (h x List.mem_cons_self))

theorem storePiece_data {nsid : Nat} (piece : List (Nat × Block)) (s : State) (w : Sound s) (apart : (piece.map Prod.fst).Nodup) :
    ∀ x ∈ piece, blockData (storePiece s nsid piece) nsid x.1 = x.2.data := by
  induction piece generalizing s with
  | nil => exact fun x m => absurd m List.not_mem_nil
  | cons y piece ih =>
    obtain ⟨fresh, apart'⟩ := List.nodup_cons.1 apart
    intro x m
    rcases List.mem_cons.1 m with rfl | later
    · have kept := storePiece_stays (k := lkey nsid x.1) piece (storeBlock s nsid x.1 x.2) fun z mz same =>
        fresh (lkey_injective same ▸ List.mem_map_of_mem mz)
      exact (congrArg (·.getD 0) kept).trans (storeBlock_data nsid x.1 x.2 w.blocks)
    · exact ih (storeBlock s nsid y.1 y.2) ((storeBlock_from ..).sound w) apart' x later

-- ===== what a unit that closes leaves (R198) =====

theorem allocGroup_zone (s : State) (zk k : Nat) : ∃ l, zoneAt (allocGroup s zk k) zk = { zoneAt s zk with allocs := l } := by
  have fold (f : State × List Nat → Nat → State × List Nat) (hf : ∀ acc p, (f acc p).1.zones = acc.1.zones) (l : List Nat) (acc : State × List Nat) :
      (l.foldl f acc).1.zones = acc.1.zones := by
    induction l generalizing acc with
    | nil => rfl
    | cons q l ih => exact (ih _).trans (hf acc q)
  unfold allocGroup
  extract_lets z d
  split
  next u bs hp =>
    have same : u.zones = s.zones := by
      rw [show u = (u, bs).1 from rfl, ← hp]
      refine fold _ (fun acc p => ?_) _ (s, [])
      dsimp only
      split
      · split <;> rfl
      · rfl
    refine ⟨(zoneAt u zk).allocs ++ [bs], ?_⟩
    have there : zoneAt u zk = zoneAt s zk := by rw [zoneAt, same, zoneAt]
    rw [zoneAt_modZone_self, there]

theorem allocTo_zone (n : Nat) (s : State) (zk x : Nat) : ∃ l, zoneAt (allocTo n s zk x) zk = { zoneAt s zk with allocs := l } := by
  induction n generalizing s with
  | zero => exact ⟨_, rfl⟩
  | succ n ih =>
    simp only [allocTo]
    split
    · obtain ⟨l, hl⟩ := allocGroup_zone s zk (zoneAt s zk).allocs.length
      obtain ⟨l', hl'⟩ := ih (allocGroup s zk (zoneAt s zk).allocs.length)
      exact ⟨l', by rw [hl', hl]⟩
    · exact ⟨_, rfl⟩

/-- A unit with data that closes leaves a frame of it in its zone. -/
theorem closeUnit_closes {s : State} {zk : Nat} (cause : Nat) {u : OpenUnit} {n : Ns} (hu : (zoneAt s zk).unit = some u) (hn : nsOf s (zk / 2 ^ 32) = some n)
    (full : u.bytes ≠ 0) : ∃ x f, closeUnit s zk cause = capCheck x ∧ x.flights = s.flights ∧ (zoneAt x zk).unit = none ∧
      (zoneAt x zk).frames = (zoneAt s zk).frames ++ [f] ∧ f.start = u.start ∧ f.len = u.bytes ∧ f.cause = cause := by
  unfold closeUnit
  extract_lets z
  split
  next v m hv hm =>
    obtain rfl := Option.some.inj (hv.symm.trans hu)
    obtain rfl := Option.some.inj (hm.symm.trans hn)
    rw [if_neg full]
    split
    next kind len hk =>
      extract_lets f a upto b lba c e
      have given : ∃ l, zoneAt a zk = { zoneAt s zk with allocs := l } := allocTo_zone 64 s zk _
      have alloc : a.flights = s.flights := (allocTo_from ..).keeps.flights rfl
      obtain ⟨l, given⟩ := given
      clear_value a
      have taken : (zoneAt b zk).unit = none ∧ (zoneAt b zk).frames = (zoneAt a zk).frames ++ [f] := by
        have zone : zoneAt b zk = _ := zoneAt_modZone_self a zk _
        exact ⟨congrArg Zone.unit zone, congrArg Zone.frames zone⟩
      have flightsB : b.flights = a.flights := rfl
      clear_value b
      have same : c.zones = b.zones ∧ c.flights = b.flights := ⟨rfl, rfl⟩
      clear_value c
      have counted := (countFrame_from (s := c) kind v.bytes len cause).keeps
      have mapped := (mapChanged_from (s := countFrame c kind v.bytes len cause) (mapPageOf c (zk / 2 ^ 32) m lba)).keeps
      have zones : e.zones = b.zones := (mapped.zones rfl).trans ((counted.zones rfl).trans same.1)
      have flights : e.flights = a.flights := (mapped.flights rfl).trans ((counted.flights rfl).trans (same.2.trans flightsB))
      have zone : zoneAt e zk = zoneAt b zk := congrArg (fun zs : Assoc Zone => zs.getD zk Zone.fresh) zones
      clear_value e
      refine ⟨e, f, rfl, flights.trans alloc, ?_, ?_, rfl, rfl, rfl⟩
      · rw [zone, taken.1]
      · rw [zone, taken.2, given]
  next no => exact absurd hn (no u n hu)

theorem closeUnit_fewer (s : State) (zk cause : Nat) : Fewer s (closeUnit s zk cause) := by
  by_cases filling : ∃ u n, (zoneAt s zk).unit = some u ∧ nsOf s (zk / 2 ^ 32) = some n ∧ u.bytes ≠ 0
  · obtain ⟨u, n, hu, hn, full⟩ := filling
    obtain ⟨x, f, run, flights, -⟩ := closeUnit_closes cause hu hn full
    rw [run]
    exact (Fewer.of_same (.refl s) flights).trans (capCheck_fewer x)
  · unfold closeUnit
    extract_lets z
    split
    next u n hu hn =>
      rw [if_pos (Classical.not_not.1 fun full => filling ⟨u, n, hu, hn, full⟩)]
      exact Fewer.refl s
    next => exact .refl s

theorem unitIdleCut_closes {s : State} {nsid zone : Nat} {x : OpenUnit} {n : Ns} (low : zone < 2 ^ 32) (hx : (zoneAt s (zkey nsid zone)).unit = some x)
    (hn : nsOf s nsid = some n) (some' : 0 < x.bytes) (late : x.lastPieceNs + v s K.unitIdleMs * 1000000 ≤ s.clk.nowNs) : ∃ f,
    let u := unitIdleCut s nsid zone
    (zoneAt u (zkey nsid zone)).unit = none ∧ (zoneAt u (zkey nsid zone)).frames = (zoneAt s (zkey nsid zone)).frames ++ [f] ∧
      f.start = x.start ∧ f.len = x.bytes ∧ f.cause = 4 := by
  have key : zkey nsid zone / 2 ^ 32 = nsid := by
    unfold zkey
    omega
  obtain ⟨y, f, run, -, unit, frames, start, len, cause⟩ := closeUnit_closes 4 hx (key.symm ▸ hn) (Nat.ne_of_gt some')
  have cut : unitIdleCut s nsid zone = capCheck y := by
    simp only [unitIdleCut, hx]
    rw [if_pos ⟨some', late⟩, run]
  have zones : zoneAt (capCheck y) (zkey nsid zone) = zoneAt y (zkey nsid zone) := by
    rw [zoneAt, capCheck_from.keeps.zones rfl, zoneAt]
  refine ⟨f, ?_⟩
  rw [cut]
  dsimp only
  rw [zones]
  exact ⟨unit, frames, start, len, cause⟩

theorem unitIdleCut_early {s : State} {nsid zone : Nat} {x : OpenUnit} (hx : (zoneAt s (zkey nsid zone)).unit = some x)
    (early : s.clk.nowNs < x.lastPieceNs + v s K.unitIdleMs * 1000000) : unitIdleCut s nsid zone = s := by
  simp only [unitIdleCut, hx]
  exact if_neg fun h => Nat.not_le.2 early h.2

-- ===== a piece that is verified, that is not, and that waits (R198, R208, R210) =====

/-- The blocks a write in flight still has to apply. -/
def Left (s : State) (seq : Nat) (rest : List (Nat × Block)) : Prop := ∀ g ∈ s.flights, g.seq = seq → g.blocks = rest

theorem Left.fewer {s t : State} {seq : Nat} {rest : List (Nat × Block)} (h : Left s seq rest) (k : Fewer s t) : Left t seq rest := fun g m => h g (k g m)

theorem left_modFlight (s : State) (seq : Nat) (rest : List (Nat × Block)) : Left (modFlight s seq (fun x => { x with blocks := rest })) seq rest := by
  intro g m hg
  obtain ⟨x, -, rfl⟩ := List.mem_map.1 m
  split
  · rfl
  next other =>
    rw [if_neg other] at hg
    exact absurd hg other

theorem left_mirrorWrite {s : State} {seq : Nat} {rest : List (Nat × Block)} (f : Flight) (kind bytes : Nat) (h : Left s seq rest) :
    Left (mirrorWrite s f kind bytes) seq rest := by
  unfold mirrorWrite
  split
  · extract_lets k a b c
    have same : c.flights = s.flights := by
      have sends : a.flights = s.flights := Resets.foldl_keep State.flights (fun u i => (mirrorSend_from (s := u) kind 65536 f.seq false).keeps.flights rfl) _ s
      have last : b.flights = a.flights := by
        show (ite _ _ _ : State).flights = _
        split <;> rfl
      exact last.trans sends
    intro g m hg
    obtain ⟨x, mx, rfl⟩ := List.mem_map.1 m
    rw [same] at mx
    split
    next mine =>
      rw [if_pos mine] at hg
      exact h x mx hg
    next other =>
      rw [if_neg other] at hg
      exact h x mx hg
  · exact h

theorem closes_either (s : State) (zk : Nat) (a b : Prop) [Decidable a] [Decidable b] :
    let t := if a then closeUnit s zk 0 else if b then closeUnit s zk 2 else s
    t.blocks = s.blocks ∧ Fewer s t := by
  split
  · exact ⟨(closeUnit_from ..).keeps.blocks rfl, closeUnit_fewer _ _ _⟩
  · split
    · exact ⟨(closeUnit_from ..).keeps.blocks rfl, closeUnit_fewer _ _ _⟩
    · exact ⟨rfl, .refl s⟩

theorem mirrors_last {s : State} {seq : Nat} {rest : List (Nat × Block)} (last : Bool) (f : Flight) (bytes : Nat) (h : Left s seq rest) :
    let t := if last then mirrorWrite s f 2 bytes else s
    t.blocks = s.blocks ∧ Left t seq rest := by
  split
  · exact ⟨(mirrorWrite_from ..).keeps.blocks rfl, left_mirrorWrite _ _ _ h⟩
  · exact ⟨rfl, h⟩

theorem pieceDone_effect {s : State} (w : Sound s) (f : Flight) (zk lba sc cmp : Nat) (b : Block) (p rest : List (Nat × Block))
    (apart : (((lba, b) :: p).map Prod.fst).Nodup) : let u := pieceDone s f zk ((lba, b) :: p) rest sc cmp
    (∀ x ∈ (lba, b) :: p, blockData u f.nsid x.1 = x.2.data) ∧
    (∀ k, (∀ x ∈ (lba, b) :: p, k ≠ lkey f.nsid x.1) → u.blocks.get? k = s.blocks.get? k) ∧ Left u f.seq rest := by
  unfold pieceDone
  dsimp -zeta only
  extract_lets n zb off a c d e g h u
  have stored : a = storePiece s f.nsid ((lba, b) :: p) := rfl
  have left : Left e f.seq rest := left_modFlight d f.seq rest
  have joined : c.blocks = a.blocks := (addPiece_from ..).keeps.blocks rfl
  clear_value c
  have blocksE : e.blocks = a.blocks := joined
  clear_value e d a
  have closed : g.blocks = e.blocks ∧ Fewer e g := closes_either ..
  clear_value g
  obtain ⟨blocksG, fewer⟩ := closed
  have mirrored : h.blocks = g.blocks ∧ Left h f.seq rest := mirrors_last _ _ _ (left.fewer fewer)
  clear_value h
  obtain ⟨blocksH, leftH⟩ := mirrored
  have full := (closeIfFull_from (s := h) zk).keeps
  have blocks : (closeIfFull h zk).blocks = (storePiece s f.nsid ((lba, b) :: p)).blocks :=
    (full.blocks rfl).trans (blocksH.trans (blocksG.trans (blocksE.trans (congrArg State.blocks stored))))
  have flights : (closeIfFull h zk).flights = h.flights := full.flights rfl
  have last : u = closeIfFull h zk := rfl
  clear_value u
  subst last
  have remains : Left (closeIfFull h zk) f.seq rest := leftH.fewer (Fewer.of_same (.refl h) flights)
  have data (x : Nat × Block) (m : x ∈ (lba, b) :: p) : blockData (closeIfFull h zk) f.nsid x.1 = x.2.data := by
    rw [blockData, blocks]
    exact storePiece_data _ s w apart x m
  have away (k : Nat) (no : ∀ x ∈ (lba, b) :: p, k ≠ lkey f.nsid x.1) : (closeIfFull h zk).blocks.get? k = s.blocks.get? k := by
    rw [blocks]
    exact storePiece_stays _ s no
  exact ⟨data, away, remains⟩

theorem compressorCharge_mismatches (s : State) (n : Nat) : (compressorCharge s n).comp.mismatches.getD n 0 = s.comp.mismatches.getD n 0 + 1 := by
  unfold compressorCharge
  extract_lets m src a b c d src'
  have charged : a.comp.mismatches.getD n 0 = m := by
    show (s.comp.mismatches.put n m).getD n 0 = m
    rw [Assoc.getD, Assoc.get?_put_self, Option.getD_some]
  have out : d.comp = a.comp := (eventU_from ..).keeps.comp rfl
  clear_value a d
  split
  · split
    · have said := ((event_from (s := aenPfs { d with xlat := { d.xlat with readOnlyComp := true } } .readOnlyMedia) Ev.compressorsNone []).keeps.comp rfl).trans
        ((aenPfs_from (s := { d with xlat := { d.xlat with readOnlyComp := true } }) .readOnlyMedia).keeps.comp rfl)
      exact (congrArg (fun x : Comp => x.mismatches.getD n 0) (said.trans out)).trans charged
    · rw [out, charged]
  · exact charged

theorem pieceMismatch_effect (s : State) (zk nsid lba cmp : Nat) : let u := pieceMismatch s zk nsid lba cmp
    u.blocks = s.blocks ∧ u.comp.mismatches.getD cmp 0 = s.comp.mismatches.getD cmp 0 + 1 := by
  refine ⟨(pieceMismatch_from ..).keeps.blocks rfl, ?_⟩
  unfold pieceMismatch
  extract_lets n a b
  have noted : a.comp = s.comp := (event_from ..).keeps.comp rfl
  clear_value a
  have cut : b.comp = a.comp := by
    show (ite _ _ _ : State).comp = _
    split
    · exact (closeUnit_from ..).keeps.comp rfl
    · rfl
  rw [compressorCharge_mismatches, cut, noted]

theorem pieceStalls_effect (s : State) (zk off cmp gen : Nat) : let u := pieceStalls s zk off cmp gen
    v u K.outbufStalls = satAdd 64 (v s K.outbufStalls) 1 ∧ (zoneAt u zk).unit.any OpenUnit.stalled = true ∧ u = { s with dict := u.dict, zones := u.zones } := by
  refine ⟨v_setV_self .., ?_, rfl⟩
  rw [pieceStalls, zoneAt_modZone_self]
  dsimp only
  split <;> rfl

-- ===== decoding a frame (R213, R214) =====

/-- A frame's ladder that starts, or ends at once, leaves the data, the commands in flight and the entries. -/
theorem ladderStart_frame (s : State) (u : Nat × Nat × Nat × Nat) (gen produced unsat : Nat) (cws : List (Nat × Nat)) (host : Bool) (frame : Nat × Nat × Nat) :
    Keeps 2233391382528 s (ladderStart s u gen produced unsat cws host (some frame)) := by
  unfold ladderStart
  extract_lets first l
  split
  · obtain ⟨key, nsid, d⟩ := frame
    have dropped : Keeps 2233391382528 s (dropLadder s l.unit) := Keeps.leaf (c := 34359738368) rfl rfl
    exact dropped.trans (frameUnverified_from ..).keeps
  · exact Keeps.leaf (c := 34359738368) rfl rfl

theorem frameError_effect (s : State) (nsid zone : Nat) (f : Frame) (d dz : Nat) (one : 1 ≤ dz) (four : dz ≤ 4) : let u := frameError s nsid zone f d dz
    u.blocks = s.blocks ∧ u.flights = s.flights ∧ v u (unitKey K.dzErrors (dz - 1)) = satAdd 32 (v s (unitKey K.dzErrors (dz - 1))) 1 := by
  unfold frameError
  extract_lets n key a b zk cws host
  have counted : v a (unitKey K.dzErrors (dz - 1)) = satAdd 32 (v s (unitKey K.dzErrors (dz - 1))) 1 := v_setV_self ..
  have noted := (event_from (s := a) Ev.dzError [d, dz, nsid, key / n.blk]).keeps
  have entries := event_onlyEntries a Ev.dzError [d, dz, nsid, key / n.blk]
  have apart : ∀ k < 4, unitKey K.dzErrors k ∉ recordKeys := by decide
  have value : v b (unitKey K.dzErrors (dz - 1)) = v a (unitKey K.dzErrors (dz - 1)) := entries _ (apart _ (by omega))
  have blocks : b.blocks = s.blocks := noted.blocks rfl
  have flights : b.flights = s.flights := noted.flights rfl
  clear_value a b
  have ladders (l : List (Nat × Nat × Nat × Nat)) : Keeps 2233391382528 b (l.foldl (fun s u =>
      if (ladderOn s u).isSome then s
      else ladderStart s u s.genNow 0 (2 ^ 32) ((cws.filter (fun a => (CwAddr.unit a) == u)).map (fun a => (a.plane, a.cw))) host (some (key, nsid, d))) b) := by
    refine keeps_foldl (fun u x => ?_) l b
    split
    · exact Keeps.refl _ _
    · exact ladderStart_frame ..
  have frame := ladders (cws.map CwAddr.unit).eraseDups
  exact ⟨(frame.blocks rfl).trans blocks, (frame.flights rfl).trans flights, (v_of_dict (frame.dict rfl) _).trans (value.trans counted)⟩

theorem decodeFrame_of_frame {s : State} {nsid zone start z : Nat} {f : Frame} (upto dec : Nat) (ok : Bool)
    (h : frameOf s nsid (zone * (zoneBlocks s (nsRec s nsid) * (nsRec s nsid).blk) + start) = some (z, f)) (kind : f.kind ≠ 2) {dz : Nat} (one : 1 ≤ dz) (four : dz ≤ 4) :
    decodeFrame s nsid zone start upto dec dz ok = frameError s nsid zone f dec dz := by
  simp only [decodeFrame, h]
  rw [if_neg (not_or.2 ⟨kind, by omega⟩), if_neg (by omega : ¬ dz = 5), if_neg (by omega)]

/-- What a frame decoded up to a byte leaves of a read's waits for it. -/
def frameHeard (nsid key upto : Nat) (g : Flight) : Flight :=
  if g.nsid == nsid && g.waits.isEmpty then { g with frameWaits := g.frameWaits.filter (fun w => !(w.1 == key && decide (w.2 < key + upto))) } else g

theorem decodeFrame_of_good {s : State} {nsid zone start z : Nat} {f : Frame} (upto dec : Nat)
    (h : frameOf s nsid (zone * (zoneBlocks s (nsRec s nsid) * (nsRec s nsid).blk) + start) = some (z, f)) (kind : f.kind ≠ 2) :
    decodeFrame s nsid zone start upto dec 0 false =
      { s with flights := s.flights.map (frameHeard nsid (zone * (zoneBlocks s (nsRec s nsid) * (nsRec s nsid).blk) + start) upto) } := by
  simp only [decodeFrame, h]
  rw [if_neg (not_or.2 ⟨kind, by omega⟩), if_neg (by omega : ¬ (0 : Nat) = 5), if_pos (.inl trivial)]
  rfl

theorem frameHeard_waits {nsid key upto : Nat} {g : Flight} (mine : (frameHeard nsid key upto g).nsid = nsid) (ready : (frameHeard nsid key upto g).waits = []) :
    ∀ w ∈ (frameHeard nsid key upto g).frameWaits, w.1 = key → w.1 + upto ≤ w.2 := by
  unfold frameHeard at *
  split at mine
  next both =>
    rw [if_pos both] at *
    intro w m hw
    have left := (List.mem_filter.1 m).2
    simp only [hw, beq_self_eq_true, Bool.true_and, Bool.not_eq_true', decide_eq_false_iff_not, Nat.not_lt] at left
    rw [hw]
    exact left
  next no =>
    rw [if_neg no] at ready
    exact absurd (by rw [mine, ready]; simp) no

theorem compressPiece_runs {s : State} {fn sqid cid sc cmp : Nat} {ver stall : Bool} {f : Flight} {lba : Nat} {b : Block} {p rest : List (Nat × Block)}
    (hf : flight? s fn sqid cid = some f) (next : nextPiece s f = ((lba, b) :: p, rest)) (stage : f.stage = .running ∨ f.stage = .committed)
    (comp : compressedWrite s f = true) (turn : mayApply s f = true) (on : bitAt (v s K.compressorsInService) cmp = true) :
    compressPiece s fn sqid cid sc ver cmp stall =
      let zk := zkey f.nsid (lba / zoneBlocks s (nsRec s f.nsid))
      if stall then pieceStalls s zk (lba % zoneBlocks s (nsRec s f.nsid) * (nsRec s f.nsid).blk) cmp f.gen
      else if !ver then pieceMismatch s zk f.nsid lba cmp else pieceDone s f zk ((lba, b) :: p) rest sc cmp := by
  have go : (!(f.stage == .running || f.stage == .committed) || !compressedWrite s f || !mayApply s f || !bitAt (v s K.compressorsInService) cmp) = false := by
    rw [comp, turn, on]
    rcases stage with st | st <;> rw [st] <;> rfl
  simp only [compressPiece, hf, next]
  rw [if_neg (by rw [go]; exact Bool.false_ne_true)]

/-- Settles O34: a verified piece becomes readable, an unverified one changes no data, and a frame is delivered or its ladder starts. -/
theorem compressionAndFrames : Obligations.compression_and_frames := by
  intro s w
  refine ⟨fun fn sqid cid sc cmp f lba b p rest hf next stage comp turn on apart => ?_,
    fun nsid zone x n low hx hn some' => ⟨fun late => ?_, fun early => next_congr (congrArg settle (unitIdleCut_early hx early))⟩,
    fun nsid zone start upto dec z f h kind => ⟨⟨_, next_congr (congrArg settle (decodeFrame_of_good upto dec h kind)), rfl, ?_⟩, fun dz one four ok =>
      ⟨_, next_congr (congrArg settle (decodeFrame_of_frame upto dec ok h kind one four)), frameError_effect s nsid zone f dec dz one four⟩⟩⟩
  · have runs (ver stall : Bool) := next_congr (congrArg settle (compressPiece_runs (sc := sc) (ver := ver) (stall := stall) hf next stage comp turn on))
    exact ⟨⟨_, runs true false, pieceDone_effect w f _ lba sc cmp b p rest apart⟩, ⟨_, runs false false, pieceMismatch_effect ..⟩,
      fun ver => ⟨_, runs ver true, pieceStalls_effect ..⟩⟩
  · obtain ⟨f, cut⟩ := unitIdleCut_closes low hx hn some' late
    exact ⟨_, f, rfl, cut⟩
  · intro g m mine ready
    obtain ⟨x, -, rfl⟩ := List.mem_map.1 m
    exact frameHeard_waits mine ready

end Sys2Proof.Compression

/-! Operations suspended for reads and resumed; slots negotiated and retrained (R229, R230, R237, R238, R270, R271). -/
namespace Sys2Proof.Suspend
open Sys2Proof Sys2Proof.Machine Sys2Proof.Effects Sys2Proof.Stores Sys2Proof.NandQueue Sys2Proof.Blocks

-- ===== suspend (R237, R270) =====

theorem lunAt_of_nand {s t : State} (h : t.nand = s.nand) (die : Nat) : lunAt t die = lunAt s die := by rw [lunAt, h, lunAt]

theorem dieTrace_nand (s : State) (die kind : Nat) (ws : List Nat) : (dieTrace s die kind ws).nand = s.nand := (dieTrace_from ..).keeps.nand rfl

/-- The operation that leaves the array for reads. -/
def suspended (s : State) (o : ArrayOp) : ArrayOp :=
  { o with startNs := s.clk.nowNs, ranNs := o.ranNs + (s.clk.nowNs - o.startNs), suspends := o.suspends + 1, asked := false, tokens := 0 }

theorem suspendNow_effect {s : State} {die : Nat} {o : ArrayOp} (h : (lunAt s die).run = some o) : let t := suspendNow s die
    (lunAt t die).run = none ∧ (lunAt t die).susp = some (suspended s o) ∧ v t K.suspends = satAdd 64 (v s K.suspends) 1 ∧
    ∃ s1, t = dieTrace s1 die 2 [die, o.d.tag] ∧ s1 = { s with nand := t.nand, dict := s1.dict } ∧ OnlyEntries s s1 [K.suspends] := by
  obtain ⟨a, ha⟩ : ∃ a, modLun s die (fun l => { l with run := none, ready := false, resume := false, window := [], susp := some (suspended s o) }) = a := ⟨_, rfl⟩
  have run : suspendNow s die = dieTrace (bump64 a K.suspends) die 2 [die, o.d.tag] := by
    rw [← ha]
    simp only [suspendNow, h]
    rfl
  have lun : lunAt a die = { lunAt s die with run := none, ready := false, resume := false, window := [], susp := some (suspended s o) } := by
    rw [← ha]
    exact lunAt_modLun_self ..
  have rest : a = { s with nand := a.nand } := by rw [← ha]; rfl
  have entries : OnlyEntries s (bump64 a K.suspends) [K.suspends] :=
    onlyEntries_congr (onlyEntries_bump a K.suspends 64 1) (by rw [rest]) rfl
  have nand : (dieTrace (bump64 a K.suspends) die 2 [die, o.d.tag]).nand = a.nand := dieTrace_nand ..
  have seen : lunAt (dieTrace (bump64 a K.suspends) die 2 [die, o.d.tag]) die = _ := (lunAt_of_nand nand die).trans lun
  rw [run]
  refine ⟨congrArg Lun.run seen, congrArg Lun.susp seen, ?_, _, rfl, ?_, entries⟩
  · have item : v (dieTrace (bump64 a K.suspends) die 2 [die, o.d.tag]) K.suspends = v (bump64 a K.suspends) K.suspends :=
      traceItem_onlyEntries _ _ _ _ _ _ (by decide)
    rw [item]
    refine (v_setV_self ..).trans ?_
    rw [v_of_dict (s := s) (by rw [rest])]
  · rw [nand]
    have left : Keeps 34359738370 s a := (show Keeps 34359738368 s a from rest).weaken rfl
    exact left.trans (Keeps.leaf (c := 2) rfl rfl : Keeps 34359738370 a (bump64 a K.suspends))

theorem suspendRequest_of_none {s : State} {die : Nat} (h : (lunAt s die).run = none) : suspendRequest s die = s := by
  simp only [suspendRequest, h]

theorem suspendRequest_asks {s : State} {die : Nat} {o : ArrayOp} (h : (lunAt s die).run = some o) (can : suspendable o.d = true)
    (free : (lunAt s die).susp = none) (new : o.asked = false) (read : (lunAt s die).queue.any (fun d => foreRead d && unitAdmitted s d) = true) :
    suspendRequest s die = if s.clk.nowNs - o.startNs ≥ v s K.suspendMinRun * 1000 then suspendNow s die
      else bump64 (modLun s die (fun l => { l with run := some { o with asked := true } })) K.suspendDeferrals := by
  simp only [suspendRequest, h]
  rw [if_neg]
  rw [can, free, new, read]
  decide

theorem suspendMinRunElapsed_of_run {s : State} {die : Nat} {o : ArrayOp} (h : (lunAt s die).run = some o) :
    suspendMinRunElapsed s die = if o.asked then suspendNow s die else s := by
  rw [suspendMinRunElapsed, h]
  rfl

-- ===== the window and the resume (R238, R271) =====

theorem suspendLunReady_effect {s : State} {die : Nat} (on : (lunAt s die).susp.isSome = true) (not : (lunAt s die).ready = false) :
    let t := suspendLunReady s die
    (lunAt t die).ready = true ∧ (lunAt t die).readyNs = s.clk.nowNs ∧ t = { s with nand := { s.nand with luns := t.nand.luns } } := by
  have run : suspendLunReady s die = modLun s die (fun l => { l with
      ready := true, readyNs := s.clk.nowNs, window := ((lunAt s die).queue.filter (fun d => foreRead d && unitAdmitted s d)).map Desc.tag }) :=
    if_pos (by rw [on, not]; rfl)
  have lun := lunAt_modLun_self s die (fun l => { l with
      ready := true, readyNs := s.clk.nowNs, window := ((lunAt s die).queue.filter (fun d => foreRead d && unitAdmitted s d)).map Desc.tag })
  rw [run]
  exact ⟨congrArg Lun.ready lun, congrArg Lun.readyNs lun, rfl⟩

/-- The operation that runs again. -/
def resumed (s : State) (o : ArrayOp) : ArrayOp := { o with startNs := s.clk.nowNs, asked := false, tokens := tokenCost s o.d }

theorem resumeRun_effect {s : State} {die : Nat} {o : ArrayOp} (h : (lunAt s die).susp = some o) (granted : tokensGranted s o.d true = true) :
    let t := resumeRun s die
    (lunAt t die).susp = none ∧ (lunAt t die).run = some (resumed s o) ∧
    t = dieTrace { s with nand := t.nand } die 3 [die, o.d.tag, Nat.min ((s.clk.nowNs - o.startNs) / 100) (2 ^ 32 - 1)] := by
  obtain ⟨a, ha⟩ : ∃ a, modLun (tokenWaitDel s die) die (fun l => { l with run := some (resumed s o), susp := none, ready := false, window := [], resume := false }) = a := ⟨_, rfl⟩
  have rest : a = { s with nand := a.nand } := by rw [← ha]; rfl
  have lun : (lunAt a die).susp = none ∧ (lunAt a die).run = some (resumed s o) := by
    rw [← ha, lunAt_modLun_self]
    exact ⟨rfl, rfl⟩
  have run : resumeRun s die = dieTrace a die 3 [die, o.d.tag, Nat.min ((s.clk.nowNs - o.startNs) / 100) (2 ^ 32 - 1)] := by
    rw [← ha]
    simp only [resumeRun, h]
    exact if_pos granted
  have nand : (dieTrace a die 3 [die, o.d.tag, Nat.min ((s.clk.nowNs - o.startNs) / 100) (2 ^ 32 - 1)]).nand = a.nand := dieTrace_nand ..
  rw [run]
  refine ⟨?_, ?_, ?_⟩
  · rw [lunAt_of_nand nand, lun.1]
  · rw [lunAt_of_nand nand, lun.2]
  · rw [nand, ← rest]

theorem resumeRequest_resumes {s : State} {die : Nat} {o : ArrayOp} (h : (lunAt s die).susp = some o) (ready : (lunAt s die).ready = true)
    (idle : (lunAt s die).run = none) (noRead : (lunAt s die).queue.any (fun d => foreRead d && unitAdmitted s d) = false) :
    resumeRequest s die = resumeRun s die := by
  refine (if_neg ?_).trans (if_pos ?_)
  · rw [h, ready, idle]
    exact Bool.false_ne_true
  · rw [noRead]
    rfl

theorem resumeRequest_of_busy {s : State} {die : Nat} (busy : (lunAt s die).run.isSome = true) : resumeRequest s die = s :=
  if_pos (by rw [busy, Bool.or_true])

theorem suspendWindowExpiry_effect {s : State} {die : Nat} (on : (lunAt s die).susp.isSome = true) (ready : (lunAt s die).ready = true)
    (busy : (lunAt s die).run.isSome = true) : let t := suspendWindowExpiry s die
    (lunAt t die).resume = true ∧ (lunAt t die).susp = (lunAt s die).susp := by
  have lun := lunAt_modLun_self s die (fun l => { l with resume := true })
  have run : suspendWindowExpiry s die = modLun s die (fun l => { l with resume := true }) := by
    refine (if_pos (by rw [on, ready]; rfl)).trans (resumeRequest_of_busy ?_)
    rw [lun]
    exact busy
  rw [run]
  dsimp only
  rw [lun]
  exact ⟨rfl, rfl⟩

theorem suspension_of_none {s : State} {die : Nat} (h : (lunAt s die).susp = none) :
    suspendLunReady s die = s ∧ resumeRequest s die = s ∧ suspendWindowExpiry s die = s :=
  ⟨if_neg (by rw [h]; exact Bool.false_ne_true), if_pos (by rw [h]; rfl), if_neg (by rw [h]; exact Bool.false_ne_true)⟩

-- ===== negotiation and retraining (R229, R230) =====

theorem boundRecompute_negotiated (s : State) : (boundRecompute s).nand.negotiated = s.nand.negotiated := by
  unfold boundRecompute
  refine Resets.foldl_keep (fun u => u.nand.negotiated) (fun u c => ?_) _ s
  dsimp only
  split
  · rfl
  · split
    · rfl
    · refine (congrArg Nand.negotiated ((event_from ..).keeps.nand rfl)).trans ?_
      rfl

theorem reserveBlocks_blocksOnly (s : State) : BlocksOnly s (reserveBlocks s) := by
  unfold reserveBlocks
  refine .foldl (fun u die => ?_) _ (.refl s)
  refine .foldl (fun u b => ?_) _ (.refl u)
  split <;> rfl

theorem nandNegotiate_done {s : State} (l : List SlotReport) (drive : driveMask s ≠ 0) (awake : s.power.state < 2) (up : s.power.down = false) :
    (nandNegotiate s l).nand.negotiated = true := by
  unfold nandNegotiate
  rw [if_neg (not_or.2 ⟨drive, not_or.2 ⟨by omega, by rw [up]; exact Bool.false_ne_true⟩⟩)]
  extract_lets a b
  rw [boundRecompute_negotiated, capCheck_from.keeps.nand rfl]
  have set : (slotsChanged { a with nand := { a.nand with negotiated := true } }).nand.negotiated = true :=
    congrArg Nand.negotiated (slotsChanged_from.keeps.nand rfl)
  exact (congrArg Nand.negotiated (reserveBlocks_blocksOnly _)).trans set

theorem settleSlot_settles {s : State} {r : SlotReport} {t : Slot} (h : settleSlot s r = some t) :
    r.signature = true ∧ t.iface ∈ r.ifaces ∧ t.rate ≤ v s K.nandTargetRate ∧ t.rate ≤ r.maxRate ∧ (t.rate, t.drive, t.odt) ∈ r.passes := by
  unfold settleSlot at h
  split at h
  next => cases h
  next i hi =>
    split at hi
    next signed =>
      obtain ⟨p, hp, rfl⟩ := Option.map_eq_some_iff.1 h
      obtain ⟨rate, tried, found⟩ := List.exists_of_findSome?_eq_some hp
      have same : p.1 = rate := beq_iff_eq.1 (List.find?_some (p := fun q : Nat × Nat × Nat => q.1 == rate) found)
      have below : rate ≤ Nat.min (v s K.nandTargetRate) r.maxRate := by
        rcases List.mem_cons.1 tried with rfl | lower
        · exact Nat.le_refl _
        · exact Nat.le_of_lt (of_decide_eq_true (List.mem_filter.1 lower).2)
      subst same
      exact ⟨signed, List.contains_iff_mem.1 (List.find?_some hi), Nat.le_trans below (Nat.min_le_left _ _), Nat.le_trans below (Nat.min_le_right _ _),
        List.mem_of_find?_eq_some found⟩
    next => cases hi

theorem slotRecord_nand (s : State) (sl : Nat) (x : Option Slot) : (slotRecord s sl x).nand = s.nand := (slotRecord_from ..).keeps.nand rfl

theorem slotRetrain_pair {s : State} {sl d o rate : Nat} (there : (slotAt s sl).present = true)
    (chosen : (if decide ((slotAt s sl).retrains < 3) then some (slotAt s sl).rate else lowerRate (slotAt s sl).rate) = some rate) :
    slotAt (slotRetrain s sl (some (d, o))) sl = { slotAt s sl with
      rate := rate, drive := d, odt := o, retrains := if decide ((slotAt s sl).retrains < 3) then (slotAt s sl).retrains + 1 else 0 } := by
  unfold slotRetrain
  extract_lets x a same r
  rw [if_neg (by rw [there]; exact Bool.false_ne_true)]
  have hr : r = some rate := chosen
  clear_value a r
  subst hr
  dsimp only
  rw [slotAt, slotRecord_nand, getD_put, if_pos rfl]

/-- Settles O40: operations are suspended for reads and resumed; slots are negotiated and retrained. -/
theorem suspendAndNegotiate : Obligations.suspend_and_negotiate := by
  intro s die
  refine ⟨fun o run can free new read => ⟨fun long => ?_, fun short => ?_⟩, fun o run => ⟨fun asked => ?_, fun no => next_congr ?_⟩,
    fun idle => next_congr (suspendRequest_of_none idle), fun on not => ⟨_, rfl, suspendLunReady_effect on not⟩, fun o h ready idle noRead granted => ?_,
    fun on ready busy => ⟨_, rfl, suspendWindowExpiry_effect on ready busy⟩, fun none' => ?_, fun l drive awake up => ⟨_, rfl, nandNegotiate_done l drive awake up⟩,
    fun l no => next_congr (congrArg settle (if_pos no)), fun r t h => settleSlot_settles h, fun sl d o there => ⟨fun few => ?_, fun many r lower => ?_⟩,
    fun sl p absent => next_congr (congrArg settle (if_pos (by rw [absent]; rfl)))⟩
  · have go := (suspendRequest_asks run can free new read).trans (if_pos long)
    obtain ⟨left, susp, counted, s1, trace⟩ := suspendNow_effect run
    exact ⟨_, suspended s o, next_congr go, left, susp, rfl, rfl, rfl, counted, s1, trace⟩
  · have go := (suspendRequest_asks run can free new read).trans (if_neg (Nat.not_le.2 short))
    have lun := lunAt_modLun_self s die (fun l => { l with run := some { o with asked := true } })
    exact ⟨_, next_congr go, congrArg Lun.run lun, v_setV_self ..⟩
  · have go := (suspendMinRunElapsed_of_run run).trans (if_pos asked)
    obtain ⟨left, susp, -⟩ := suspendNow_effect run
    exact ⟨_, suspended s o, next_congr go, left, susp, rfl⟩
  · refine (suspendMinRunElapsed_of_run run).trans (if_neg ?_)
    rw [no]
    exact Bool.false_ne_true
  · exact ⟨_, next_congr (resumeRequest_resumes h ready idle noRead), resumeRun_effect h granted⟩
  · obtain ⟨lunReady, resume, expiry⟩ := suspension_of_none none'
    exact ⟨next_congr lunReady, next_congr resume, next_congr expiry⟩
  · have slot := slotRetrain_pair (d := d) (o := o) there (if_pos (decide_eq_true few))
    refine ⟨slotRetrain s sl (some (d, o)), rfl, ?_⟩
    rw [slot]
    exact ⟨rfl, if_pos (decide_eq_true few), rfl, rfl⟩
  · have not : ¬ decide ((slotAt s sl).retrains < 3) = true := by simpa using many
    have slot := slotRetrain_pair (d := d) (o := o) there ((if_neg not).trans lower)
    have less := List.find?_some (p := fun x => decide (x < (slotAt s sl).rate)) lower
    refine ⟨slotRetrain s sl (some (d, o)), rfl, ?_⟩
    rw [slot]
    exact ⟨rfl, of_decide_eq_true less, if_neg not⟩

end Sys2Proof.Suspend

/-! What a settle leaves of the NAND: only blocks, bounds, the write-through log and the flush area's mark change (log entry 23). -/
namespace Sys2Proof.Settling
open Sys2Proof Sys2Proof.Machine Sys2Proof.Effects Sys2Proof.Blocks

/-- Between `s` and `t` of the NAND only the records of blocks, the bounds, the write-through log and the flush area's mark changed. -/
def Settled (s t : State) : Prop :=
  t.nand = { s.nand with blocks := t.nand.blocks, bound := t.nand.bound, wtLog := t.nand.wtLog, flushArea := t.nand.flushArea }

theorem Settled.refl (s : State) : Settled s s := rfl

theorem Settled.trans {s t u : State} (h : Settled s t) (k : Settled t u) : Settled s u := by
  unfold Settled at h k ⊢
  rw [k, h]

theorem Settled.of_blocks {s t : State} (h : BlocksOnly s t) : Settled s t := by
  unfold BlocksOnly at h
  unfold Settled
  rw [h]

theorem Settled.of_nand {s t : State} (e : t.nand = s.nand) : Settled s t := by
  unfold Settled
  rw [e]

theorem Settled.then {s t u : State} (h : Settled s t) (e : u.nand = t.nand) : Settled s u := h.trans (.of_nand e)

theorem Settled.foldl {β : Type} {f : State → β → State} (hf : ∀ u b, Settled u (f u b)) (l : List β) {s t : State} (h : Settled s t) :
    Settled s (l.foldl f t) := by
  induction l generalizing t with
  | nil => exact h
  | cons b l ih => exact ih (h.trans (hf t b))

theorem Settled.foldl_snd {α β : Type} {f : α × State → β → α × State} (hf : ∀ p b, Settled p.2 (f p b).2) (l : List β) (p : α × State) :
    Settled p.2 (l.foldl f p).2 := by
  induction l generalizing p with
  | nil => exact .refl _
  | cons b l ih => exact (hf p b).trans (ih _)

theorem Settled.dies {s t : State} (h : Settled s t) : t.nand.dies = s.nand.dies := by
  unfold Settled at h
  rw [h]

-- ===== zones =====

theorem closeBlocks_settled (s : State) (zk : Nat) : Settled s (closeBlocks s zk) := rfl

theorem releasePassed_settled (s : State) : Settled s (releasePassed s) := by
  unfold releasePassed
  extract_lets all w x a y b
  have sent : a.nand = s.nand := (mirrorReleases_from _).keeps.nand rfl
  clear_value a
  have logged : Settled a b := rfl
  split
  · exact (Settled.of_nand sent).trans (logged.trans rfl)
  · exact (Settled.of_nand sent).trans logged

theorem closeIfFull_settled (s : State) (zk : Nat) : Settled s (closeIfFull s zk) := by
  unfold closeIfFull
  extract_lets z
  split
  · exact (closeBlocks_settled s zk).trans (releasePassed_settled _)
  · exact .refl s

theorem closeUnit_settled (s : State) (zk cause : Nat) : Settled s (closeUnit s zk cause) := .of_blocks (closeUnit_blocksOnly s zk cause)

theorem finishZone_settled (s : State) (zk : Nat) : Settled s (finishZone s zk) := by
  unfold finishZone
  extract_lets n a b
  have closed : Settled s a := closeUnit_settled s zk 3
  have filled : b.nand = a.nand := rfl
  clear_value b a
  exact (((closed.then filled).trans (closeBlocks_settled b zk)).trans (releasePassed_settled _)).then (capCheck_from.keeps.nand rfl)

theorem resetZone_settled (s : State) (zk : Nat) : Settled s (resetZone s zk) := by
  unfold resetZone
  extract_lets n nsid zb first tag before a b c d
  have released : Settled s a := .of_blocks (releaseZone_blocksOnly s zk)
  clear_value a
  have cleared : b.nand = a.nand :=
    ((unpoison_from ..).keeps.nand rfl).trans (((wbDrop_from ..).keeps.nand rfl).trans ((clearBlocks_from ..).keeps.nand rfl))
  clear_value b
  have fresh : c.nand = b.nand := rfl
  clear_value c
  have mapped : d.nand = c.nand := by
    show (ite _ _ _ : State).nand = _
    split
    · exact (mapChanged_from _).keeps.nand rfl
    · rfl
  clear_value d
  have last : (capCheck (atRiskClear before (keyUnfix d tag))).nand = d.nand :=
    (capCheck_from.keeps.nand rfl).trans (((atRiskClear_from _).keeps.nand rfl).trans ((keyUnfix_from _).keeps.nand rfl))
  exact released.then (last.trans (mapped.trans (fresh.trans cleared)))

theorem actNow_settled (s : State) (f : Flight) (a : ZAction) (zone : Nat) : Settled s (actNow s f a zone).2 := by
  unfold actNow
  match a with
  | .open => exact .of_nand ((openAction_from ..).keeps.nand rfl)
  | .close =>
    dsimp only
    split
    · exact .of_nand rfl
    · exact .refl s
  | .offline =>
    dsimp only
    split
    · exact .of_blocks (offlineZone_blocksOnly ..)
    · exact .refl s
  | .finish => exact .refl s
  | .reset => exact .refl s

theorem actDone_settled (s : State) (zk seq act : Nat) : Settled s (actDone s zk seq act) := by
  unfold actDone
  extract_lets z b a rest
  have taken : b.nand = s.nand := rfl
  clear_value b
  split
  · split
    · split
      · exact .of_nand taken
      · exact (Settled.of_nand taken).trans (finishZone_settled b zk)
    · split
      · exact .of_nand taken
      · exact ((Settled.of_nand taken).trans (resetZone_settled b zk)).then rfl
  · exact .of_nand taken

theorem settleActions_settled (s : State) : Settled s (settleActions s) := by
  unfold settleActions
  refine .foldl (fun u p => ?_) _ (.refl s)
  split
  · split
    · exact .refl u
    · exact actDone_settled ..
  · exact .refl u

theorem settleFlushes_settled (s : State) : Settled s (settleFlushes s) := by
  unfold settleFlushes
  refine .foldl (fun u f => ?_) _ (.refl s)
  extract_lets ready
  split
  next go stay _ =>
    extract_lets a
    have closed : Settled u a := .foldl (fun w z => closeUnit_settled w _ 1) go (.refl u)
    clear_value a
    split
    · exact closed.then ((completeFlight_from ..).keeps.nand rfl)
    · exact closed.then rfl

-- ===== writes =====

theorem applyConv_settled (s : State) (f : Flight) (lba : Nat) (b : Block) : Settled s (applyConv s f lba b) := by
  unfold applyConv
  extract_lets n a
  have stored : a.nand = s.nand :=
    ((unpoison_from ..).keeps.nand rfl).trans (((wbDrop_from ..).keeps.nand rfl).trans ((storeBlock_from ..).keeps.nand rfl))
  clear_value a
  split
  next q u placed =>
    refine ((Settled.of_nand stored).trans (.of_blocks (placePage_blocksOnly placed))).then ?_
    exact (mapChanged_from _).keeps.nand rfl
  next => exact .of_nand stored

theorem applyDirect_settled (s : State) (f : Flight) (bs : List (Nat × Block)) : Settled s (applyDirect s f bs) := by
  unfold applyDirect
  split
  next => exact .refl s
  next lba x tail =>
    extract_lets n zb zk off len a b c d
    have stored : a.nand = s.nand := by
      refine Resets.foldl_keep State.nand (fun u y => ?_) _ s
      exact (storeBlock_from ..).keeps.nand rfl
    clear_value a
    have grown : Settled a b := .of_blocks (allocTo_blocksOnly 64 a zk _)
    clear_value b
    have noted : d.nand = b.nand := rfl
    clear_value d
    exact (((Settled.of_nand stored).trans grown).then noted).trans (closeIfFull_settled d zk)

theorem applyAll_settled (s : State) (f : Flight) : Settled s (applyAll s f) := by
  unfold applyAll
  extract_lets n a b c d
  have applied : Settled s a := by
    show Settled s (ite _ _ _)
    split
    · exact applyDirect_settled s f _
    · exact .foldl (fun u x => applyConv_settled u f _ _) _ (.refl s)
  clear_value a
  have dropped : b.nand = a.nand := by
    refine Resets.foldl_keep State.nand (fun u x => ?_) _ a
    exact (deallocate_from ..).keeps.nand rfl
  clear_value b
  have marked : c.nand = b.nand := by
    show (ite _ _ _ : State).nand = _
    split
    · exact (markUncor_from ..).keeps.nand rfl
    · rfl
  clear_value c
  have staged : d.nand = c.nand := rfl
  clear_value d
  exact applied.then (((mirrorWrite_from ..).keeps.nand rfl).trans (staged.trans (marked.trans dropped)))

theorem settleWrites_settled (s : State) : Settled s (settleWrites s) := by
  unfold settleWrites
  refine .foldl (fun u f0 => ?_) _ (.refl s)
  split
  next f _ =>
    extract_lets waiting a
    have applied : Settled u a := by
      show Settled u (ite _ _ _)
      split
      · exact applyAll_settled u f
      · exact .refl u
    clear_value a
    split
    · split
      · exact applied.then ((completeWrite_from _).keeps.nand rfl)
      · exact applied
    · exact applied
  next => exact .refl u

-- ===== reads =====

theorem excuse_settled (s : State) (f : Flight) : Settled s (excuse s f) := by
  unfold excuse
  split
  · exact .refl s
  · dsimp only
    split
    · exact .of_nand rfl
    · rfl

theorem excuseReads_settled (s : State) (p : CwAddr → Bool) : Settled s (excuseReads s p) := .foldl excuse_settled _ (.refl s)

theorem boundMissed_settled (s : State) (f : Flight) : Settled s (boundMissed s f) := by
  unfold boundMissed
  extract_lets limit took
  split
  · refine Settled.then (t := modBound (bump32 s K.boundMissed) f.cove (fun b => { b with missed := satAdd 32 b.missed 1 })) rfl ?_
    exact (event_from ..).keeps.nand rfl
  · exact .refl s

theorem finishRead_settled (s : State) (f : Flight) : Settled s (finishRead s f) := by
  unfold finishRead
  extract_lets n lbas bad good pi cmp st a b c d
  have missed : Settled s a := boundMissed_settled s f
  clear_value a
  have counted : b.nand = a.nand := (histCove_from ..).keeps.nand rfl
  clear_value b
  have sent : c.nand = b.nand := by
    show (ite _ _ _ : State).nand = _
    split
    · exact (dmaOut_from ..).keeps.nand rfl
    · rfl
  clear_value c
  have fused : d.nand = c.nand := by
    show (ite _ _ _ : State).nand = _
    split <;> rfl
  clear_value d
  exact missed.then (((completeFlight_from ..).keeps.nand rfl).trans (fused.trans (sent.trans counted)))

theorem finishReads_settled (s : State) : Settled s (finishReads s) := .foldl finishRead_settled _ (.refl s)

theorem beginRead_settled (s : State) (f : Flight) (resv limit : Bool) (slba nlb : Nat) : Settled s (beginRead s f resv limit slba nlb) := by
  unfold beginRead
  extract_lets n a c cold g b d h e i j
  have counted : a.nand = s.nand := by
    show (ite _ _ _ : State).nand = _
    split <;> rfl
  clear_value a
  split
  · have heard : b.nand = a.nand := (heatRead_from ..).keeps.nand rfl
    clear_value b
    have planned : d.nand = b.nand := by
      show (ite _ _ _ : State).nand = _
      split
      · exact (planRead_from _).keeps.nand rfl
      · rfl
    clear_value d
    have excused : Settled d e := by
      show Settled d (ite _ _ _)
      split
      · exact excuse_settled d _
      · exact .refl d
    clear_value e
    have all := (Settled.of_nand (planned.trans (heard.trans counted))).trans excused
    split
    · exact (all.trans (excuse_settled e _)).then rfl
    · exact all
  · exact .of_nand (((completeFlight_from ..).keeps.nand rfl).trans counted)

theorem beginFused_settled (s : State) (f g : Flight) (resv : Bool) (slba nlb : Nat) : Settled s (beginFused s f g resv slba nlb) := by
  unfold beginFused
  extract_lets n a
  split
  · exact .of_nand (((completeFlight_from ..).keeps.nand rfl).trans ((markHalf_from ..).keeps.nand rfl))
  · split
    · exact .of_nand (((completeFlight_from ..).keeps.nand rfl).trans ((markHalf_from ..).keeps.nand rfl))
    · have begun : Settled s a := beginRead_settled ..
      clear_value a
      split
      · exact begun
      · exact begun.then ((markHalf_from ..).keeps.nand rfl)

-- ===== commands that begin =====

theorem tryRead_settled (s : State) (c : Cmd) (opcode slba nlb : Nat) (fua ordered : Bool) (pi : PiArgs) (cmp : List Block) :
    Settled s (tryRead s c opcode slba nlb fua ordered pi cmp).2 := by
  unfold tryRead
  extract_lets a f
  have arrived : a.nand = s.nand := ((setArgs_from ..).keeps.nand rfl).trans ((ensure_from ..).keeps.nand rfl)
  clear_value a
  have start := Settled.of_nand arrived
  split
  · exact start
  · split
    · split
      · exact start.trans (beginFused_settled ..)
      · exact start
    · split
      · exact start.then ((completeFlight_from ..).keeps.nand rfl)
      · exact start.trans (beginRead_settled ..)

theorem zoneActNow_settled (s : State) (c : Cmd) (a : ZAction) (slba : Nat) (all : Bool) : Settled s (zoneActNow s c a slba all) := by
  unfold zoneActNow
  extract_lets b f
  have arrived : b.nand = s.nand := (ensure_from ..).keeps.nand rfl
  clear_value b
  split
  · have acted : Settled b (((actZones b f a slba all).foldl (fun (acc : NvStatus × State) z =>
        if acc.1.isOk then actNow acc.2 f a z else acc) (NvStatus.success, b)).2) := by
      refine Settled.foldl_snd (fun p z => ?_) _ (NvStatus.success, b)
      split
      · exact actNow_settled ..
      · exact .refl _
    split
    next st t e =>
      rw [e] at acted
      exact ((Settled.of_nand arrived).trans acted).then ((completeFlight_from ..).keeps.nand rfl)
  · exact .of_nand (((completeFlight_from ..).keeps.nand rfl).trans arrived)

theorem tryAct_settled (s : State) (c : Cmd) (a : ZAction) (slba : Nat) (all : Bool) : Settled s (tryAct s c a slba all).2 := by
  unfold tryAct
  extract_lets b
  have arrived : b.nand = s.nand := (ensure_from ..).keeps.nand rfl
  clear_value b
  have start := Settled.of_nand arrived
  split
  · exact start
  · match a with
    | .finish => exact start.then ((zoneActLater_from ..).keeps.nand rfl)
    | .reset => exact start.then ((zoneActLater_from ..).keeps.nand rfl)
    | .open => exact start.trans (zoneActNow_settled ..)
    | .close => exact start.trans (zoneActNow_settled ..)
    | .offline => exact start.trans (zoneActNow_settled ..)

theorem tryBegin_settled (s : State) (i : Instr) : Settled s (tryBegin s i).2 := by
  unfold tryBegin
  split
  · exact .of_nand ((tryWrite_from ..).keeps.nand rfl)
  · exact .of_nand ((tryWrite_from ..).keeps.nand rfl)
  · exact .of_nand ((tryZeroes_from ..).keeps.nand rfl)
  · exact .of_nand ((tryClear_from ..).keeps.nand rfl)
  · exact .of_nand ((tryClear_from ..).keeps.nand rfl)
  · exact tryRead_settled ..
  · exact tryRead_settled ..
  · exact tryRead_settled ..
  · exact .of_nand ((tryFlush_from ..).keeps.nand rfl)
  · exact tryAct_settled ..
  · exact tryAct_settled ..
  · exact tryAct_settled ..
  · exact tryAct_settled ..
  · exact tryAct_settled ..
  · exact .refl s

theorem retryHeld_settled (s : State) : Settled s (retryHeld s) := by
  unfold retryHeld
  extract_lets l
  have start : Settled s { s with eng := { s.eng with held := [] } } := .of_nand rfl
  refine .foldl (fun u i => ?_) l start
  split
  next c _ =>
    split
    · have begun := tryBegin_settled u i
      split
      next w e =>
        rw [e] at begun
        exact begun.then rfl
      next w e =>
        rw [e] at begun
        exact begun
    · exact .refl u
  next => exact .refl u

-- ===== the passes =====

theorem settlePass_settled (s : State) : Settled s (settlePass s) := by
  have sends : Settled s (settleSends (settleActions s)) := (settleActions_settled s).then (settleSends_from.keeps.nand rfl)
  have writes := ((sends.trans (settleFlushes_settled _)).trans (retryHeld_settled _)).trans (settleWrites_settled _)
  exact (writes.then (admitReads_from.keeps.nand rfl)).trans (finishReads_settled _)

theorem settleLoop_settled (n : Nat) (s : State) : Settled s (settleLoop n s) := by
  induction n generalizing s with
  | zero => exact .refl s
  | succ n ih =>
    simp only [settleLoop]
    split
    · exact settlePass_settled s
    · exact (settlePass_settled s).trans (ih _)

theorem settle_settled (s : State) : Settled s (settle s) := (settleLoop_settled _ s).then ((watermark_from _).keeps.nand rfl)

end Sys2Proof.Settling

/-! The timeout of an operation whose descriptor names another die than its LUN's (R234, R244). -/
namespace Sys2Proof.Timeouts
open Sys2Proof Sys2Proof.Machine Sys2Proof.Effects Sys2Proof.Settling

/-- An operation whose descriptor names a die that is not in service times out without an answer: no die is retired. -/
theorem arrayTimeout_dies {s : State} {die : Nat} {o : ArrayOp} (run : (lunAt s die).run = some o) (out : dieState s (descDie o.d) ≠ 1) :
    (arrayTimeout s die false).nand.dies = s.nand.dies := by
  have go (tm : Nat) : (arrayEnd s die 4 tm 0 0).nand.dies = s.nand.dies := by
    unfold arrayEnd
    split
    next no => exact absurd (no.symm.trans run) (Option.some_ne_none o).symm
    next p hp =>
      obtain rfl := Option.some.inj (hp.symm.trans run)
      extract_lets d overrun a b c
      have excused : c.nand.dies = s.nand.dies := by
        have posted : b.nand.dies = s.nand.dies := rfl
        clear_value b
        have over' : Settled b c := by
          show Settled b (ite _ _ _)
          split
          · exact (Settled.of_nand rfl).trans (excuseReads_settled (bump32 b K.timeOverruns) _)
          · exact .refl b
        exact over'.dies.trans posted
      clear_value c
      have kept : dieState (bump32 c K.timeouts) (descDie d) ≠ 1 := by
        rw [dieState, show (bump32 c K.timeouts).nand.dies = s.nand.dies from excused]
        exact out
      have follow : ncFollow c d 4 = bump32 c K.timeouts := if_pos kept
      rw [follow]
      exact excused
  simp only [arrayTimeout, run]
  exact go _

/-- A GET FEATURE that names LUN 1 of the first slot. -/
def strayDesc : Desc :=
  { opcode := 5, flush := false, noSuspend := false, channel := 0, ce := 0, lun := 1, pass := 0, cell := 0, planeMask := 0, cwMask := 0, pageType := 0
    level := 0, block := 0, wordline := 0, tag := 0, gen := 0, feature := 0, data := 0, resv := false, work := .service }

/-- Die 0 is in service, and its array runs an operation whose descriptor names die 1. -/
def strayState : State :=
  { State.reset with nand := { State.reset.nand with
      dies := [(0, 1)], luns := [(0, { Lun.fresh with run := some ⟨strayDesc, 0, 0, 0, false, 0⟩ })] } }

/-- Refutes O39: the die that a timeout without an answer retires is the one the descriptor names, and nothing in the statement says that an operation
in a LUN's array names that LUN. With an operation in die 0's array that names die 1, which is not in service, die 0 stays in service. -/
theorem not_nandOperations : ¬ Obligations.nand_operations := by
  intro h
  obtain ⟨-, -, -, -, -, timeouts, -⟩ := h strayState 0
  obtain ⟨u, run, -, retired⟩ := timeouts ⟨strayDesc, 0, 0, 0, false, 0⟩ false rfl
  have out : dieState u 0 = 2 := retired rfl rfl
  have same : settle (arrayTimeout strayState 0 false) = settle u := by injection run
  have left : u.nand.dies = strayState.nand.dies := by
    rw [← (settle_settled u).dies, ← same, (settle_settled _).dies]
    exact arrayTimeout_dies (o := ⟨strayDesc, 0, 0, 0, false, 0⟩) rfl (by decide)
  rw [dieState, left] at out
  exact absurd out (by decide)

end Sys2Proof.Timeouts

/-! Codewords decoded, ladders that climb, calibration kept, patrol (R253 to R267). -/
namespace Sys2Proof.Recovery
open Sys2Proof Sys2Proof.Machine Sys2Proof.Effects Sys2Proof.Stores Sys2Proof.Dram Sys2Proof.NandQueue Sys2Proof.Blocks

-- ===== a codeword delivered =====

/-- No read waits for a codeword. -/
def Heard (s : State) (a : CwAddr) : Prop := ∀ f ∈ s.flights, a ∉ f.waits

theorem deliver_heard (s : State) (a : CwAddr) : Heard (deliver s a) a := by
  intro f m
  obtain ⟨x, -, rfl⟩ := List.mem_map.1 m
  split
  · intro still
    exact absurd rfl (bne_iff_ne.1 (List.mem_filter.1 still).2)
  next no => exact fun has => no (List.contains_iff_mem.2 has)

theorem Heard.deliver {s : State} {a : CwAddr} (h : Heard s a) (b : CwAddr) : Heard (deliver s b) a := by
  intro f m
  obtain ⟨x, mx, rfl⟩ := List.mem_map.1 m
  split
  · exact fun still => h x mx (List.mem_filter.1 still).1
  · exact h x mx

theorem Heard.of_flights {s t : State} {a : CwAddr} (h : Heard s a) (e : t.flights = s.flights) : Heard t a := fun f m => h f (e ▸ m)

theorem vg_congr {s t : State} {k : Nat} (g : Nat) (gens : t.gens = s.gens) (e : v t k = v s k) : vg t g k = vg s g k := by
  unfold vg
  rw [gens, e]

-- ===== a sample of the offset that is in use (R254) =====

theorem lapEnd_nand (s : State) (cell : Nat) : ∃ l, (lapEnd s cell).nand = { s.nand with laps := l } := by
  unfold lapEnd
  split
  · exact ⟨_, rfl⟩
  · extract_lets secs a b
    have same : b.nand = s.nand := by
      show (ite _ _ _ : State).nand = _
      split
      · exact (event_from ..).keeps.nand rfl
      · rfl
    clear_value b
    have ended : (modLap b cell (fun _ => ⟨b.clk.nowNs, [], []⟩)).nand =
        { b.nand with laps := (modLap b cell (fun _ => ⟨b.clk.nowNs, [], []⟩)).nand.laps } := rfl
    rw [same] at ended
    exact ⟨_, ended⟩

theorem cover_offs (s : State) (a : CwAddr) (settled : Bool) :
    (cover s a settled).nand.offs = s.nand.offs ∧ (cover s a settled).nand.offsKept = s.nand.offsKept := by
  unfold cover
  extract_lets b lap part mine c d
  split
  · exact ⟨rfl, rfl⟩
  · split
    · have marked : d.nand.offs = s.nand.offs ∧ d.nand.offsKept = s.nand.offsKept := by
        show (ite _ _ _ : State).nand.offs = _ ∧ (ite _ _ _ : State).nand.offsKept = _
        split <;> exact ⟨rfl, rfl⟩
      clear_value d
      obtain ⟨l, ends⟩ := lapEnd_nand d b.cell
      rw [ends]
      exact marked
    · exact ⟨rfl, rfl⟩

theorem offAt_congr {s t : State} (offs : t.nand.offs = s.nand.offs) (kept : t.nand.offsKept = s.nand.offsKept) (k : Nat) : offAt t k = offAt s k := by
  rw [offAt, offs, kept, offAt]

theorem offAt_modOff_self (s : State) (k : Nat) (f : OffEnt → OffEnt) : offAt (modOff s k f) k = f (offAt s k) := by
  rw [offAt, modOff, getD_put, if_pos rfl]

theorem sample_of_use {s : State} {a : CwAddr} {gen : Nat} (ones e10 e01 : Nat) (on : vb s K.calEnable = true) (run : suspendedProgram s a.die = false)
    (use : (offAt s (offKeyOf s a)).usesCur gen = true) : sample s a gen ones e10 e01 =
      modOff s (offKeyOf s a) (fun e => { e with s := e.s + 1, n1 := e.n1 + ones, e10 := e.e10 + e10, e01 := e.e01 + e01 }) := by
  unfold sample
  extract_lets k
  rw [if_neg (by rw [on]; exact Bool.false_ne_true), if_neg (by rw [run]; exact Bool.false_ne_true), if_pos use]

/-- The generation under which a codeword that has arrived was read. -/
def arrivedGen (s : State) (a : CwAddr) : Nat := (s.nand.arrived.find? (fun x => x.1 == a)).elim s.genNow (fun x => x.2.1)

/-- The codeword has left the buffer slice and is counted. -/
def taken (s : State) (a : CwAddr) : State := bump64 { s with nand := { s.nand with arrived := s.nand.arrived.filter (fun x => x.1 != a) } } K.hardDecodes

theorem taken_entries (s : State) (a : CwAddr) : OnlyEntries s (taken s a) [K.hardDecodes] :=
  onlyEntries_congr (onlyEntries_bump { s with nand := { s.nand with arrived := s.nand.arrived.filter (fun x => x.1 != a) } } _ _ _) rfl rfl

/-- What a good codeword leaves before it is delivered. -/
def decoded (s : State) (a : CwAddr) (gen ones e10 e01 : Nat) : State :=
  let settled := (offAt s (offKeyOf s a)).settled
  let t := sample s a gen ones e10 e01
  cover (if e10 + e01 ≥ vg t gen (unitKey K.refreshBits (blockAt t a.die a.block).cell) then markOrCheck t a settled true else t) a settled

theorem hardDecode_of_good (s : State) (a : CwAddr) (ones e10 e01 unsat : Nat) :
    hardDecode s a true (tailAddrOf a) ones e10 e01 unsat = deliver (decoded (taken s a) a (arrivedGen s a) ones e10 e01) a := by
  simp only [hardDecode, ne_eq, not_true_eq_false, and_false, and_self, if_false, if_true]
  rfl

theorem hardDecode_samples {s : State} {a : CwAddr} {ones e10 e01 : Nat} (unsat : Nat) (cell : (blockAt s a.die a.block).cell < 4)
    (clean : e10 + e01 < vg s (arrivedGen s a) (unitKey K.refreshBits (blockAt s a.die a.block).cell)) (on : vb s K.calEnable = true)
    (run : suspendedProgram s a.die = false) (use : (offAt s (offKeyOf s a)).usesCur (arrivedGen s a) = true) :
    let u := hardDecode s a true (tailAddrOf a) ones e10 e01 unsat
    (offAt u (offKeyOf s a)).s = (offAt s (offKeyOf s a)).s + 1 ∧ (offAt u (offKeyOf s a)).n1 = (offAt s (offKeyOf s a)).n1 + ones ∧
      (offAt u (offKeyOf s a)).e10 = (offAt s (offKeyOf s a)).e10 + e10 ∧ (offAt u (offKeyOf s a)).e01 = (offAt s (offKeyOf s a)).e01 + e01 := by
  have entries := taken_entries s a
  obtain ⟨b, hb⟩ : ∃ b, taken s a = b := ⟨_, rfl⟩
  have same : b.nand = { s.nand with arrived := b.nand.arrived } ∧ b.gens = s.gens ∧ b.clk = s.clk := by
    subst hb
    exact ⟨rfl, rfl, rfl⟩
  rw [hb] at entries
  obtain ⟨nand, gens, clk⟩ := same
  have offs (k : Nat) : offAt b k = offAt s k := offAt_congr (by rw [nand]) (by rw [nand]) k
  have block : blockAt b a.die a.block = blockAt s a.die a.block := by rw [blockAt, nand, blockAt]
  have key : offKeyOf b a = offKeyOf s a := by
    have age (x : PBlock) : blockAge b x = blockAge s x := by simp only [blockAge, time64, clk]
    simp only [offKeyOf, bandOf, block, age]
  have onB : vb b K.calEnable = true := by
    rw [vb, entries K.calEnable (by decide), ← vb]
    exact on
  have runB : suspendedProgram b a.die = false := by
    rw [suspendedProgram, nand]
    exact run
  have taking := sample_of_use (s := b) ones e10 e01 onB runB (by rw [key, offs]; exact use)
  have apart : ∀ c < 4, unitKey K.refreshBits c ∉ [K.hardDecodes] := by decide
  obtain ⟨t, ht⟩ : ∃ t, sample b a (arrivedGen s a) ones e10 e01 = t := ⟨_, rfl⟩
  rw [taking, key] at ht
  have steady : ¬ e10 + e01 ≥ vg t (arrivedGen s a) (unitKey K.refreshBits (blockAt t a.die a.block).cell) := by
    have cells : blockAt t a.die a.block = blockAt s a.die a.block := by
      rw [← ht]
      exact block
    rw [cells, vg_congr (s := s) _ (by rw [← ht]; exact gens) (by rw [← ht]; exact entries _ (apart _ cell))]
    exact Nat.not_le.2 clean
  have done : decoded b a (arrivedGen s a) ones e10 e01 = cover t a (offAt b (offKeyOf b a)).settled := by
    unfold decoded
    extract_lets settled t'
    have st : t' = t := by rw [← ht, ← key]; exact taking
    clear_value t'
    subst st
    rw [if_neg steady]
  have given : hardDecode s a true (tailAddrOf a) ones e10 e01 unsat = deliver (cover t a (offAt b (offKeyOf b a)).settled) a := by
    rw [hardDecode_of_good, hb, done]
  have last (k : Nat) : offAt (deliver (cover t a (offAt b (offKeyOf b a)).settled) a) k = offAt t k := by
    obtain ⟨o, kept⟩ := cover_offs t a (offAt b (offKeyOf b a)).settled
    exact offAt_congr o kept k
  have entry := offAt_modOff_self b (offKeyOf s a) (fun e => { e with s := e.s + 1, n1 := e.n1 + ones, e10 := e.e10 + e10, e01 := e.e01 + e01 })
  rw [ht, offs] at entry
  dsimp only
  rw [given, last, entry]
  exact ⟨rfl, rfl, rfl, rfl⟩

-- ===== a codeword that fails (R258, R263) =====

/-- A codeword that fails, or whose tail names another address, goes to the ladder of its page. -/
theorem hardDecode_of_bad {s : State} {a : CwAddr} {ok : Bool} {tail : Nat} (ones e10 e01 unsat : Nat) (bad : ok = false ∨ tail ≠ tailAddrOf a) : ∃ c,
    hardDecode s a ok tail ones e10 e01 unsat = decodeFail c a (arrivedGen s a) unsat ∧ c.nand = { s.nand with arrived := c.nand.arrived } ∧
    c.flights = s.flights ∧ c.blocks = s.blocks ∧ c.gens = s.gens ∧ OnlyEntries s c (K.hardDecodes :: K.misdirected :: recordKeys) := by
  have no : ¬ (ok = true ∧ tail = tailAddrOf a) := by
    rintro ⟨yes, aimed⟩
    rcases bad with off | other
    · exact absurd (off.symm.trans yes) Bool.false_ne_true
    · exact other aimed
  have entries : OnlyEntries s (taken s a) (K.hardDecodes :: K.misdirected :: recordKeys) := onlyEntries_mono (taken_entries s a) (by decide)
  by_cases stray : ok = true ∧ tail ≠ tailAddrOf a
  · have noted := (event_from (s := bump32 (taken s a) K.misdirected) Ev.misdirected [tailAddrOf a, tail]).keeps
    refine ⟨event (bump32 (taken s a) K.misdirected) Ev.misdirected [tailAddrOf a, tail], ?_, ?_, noted.flights rfl, noted.blocks rfl, noted.gens rfl, ?_⟩
    · simp only [hardDecode, no, if_false, if_pos stray]
      rfl
    · rw [noted.nand rfl]
      rfl
    · have counted : OnlyEntries (taken s a) (bump32 (taken s a) K.misdirected) (K.hardDecodes :: K.misdirected :: recordKeys) :=
        onlyEntries_mono (onlyEntries_bump _ _ _ _) (by decide)
      exact onlyEntries_trans (onlyEntries_trans entries counted) (onlyEntries_mono (event_onlyEntries _ _ _) (by decide))
  · refine ⟨taken s a, ?_, rfl, rfl, rfl, rfl, entries⟩
    simp only [hardDecode, no, if_false, if_neg stray]
    rfl

theorem ladderOn_unit {s : State} {u : Nat × Nat × Nat × Nat} {l : Ladder} (h : ladderOn s u = some l) : l.unit = u ∧ l ∈ s.nand.ladders :=
  ⟨beq_iff_eq.1 (List.find?_some (p := fun l : Ladder => l.unit == u) h), List.mem_of_find?_eq_some h⟩

theorem ladderOn_congr {s t : State} (h : t.nand.ladders = s.nand.ladders) (u : Nat × Nat × Nat × Nat) : ladderOn t u = ladderOn s u := by
  rw [ladderOn, h, ladderOn]

/-- A ladder with a codeword added to it. -/
def joined (a : CwAddr) (l : Ladder) : Ladder := if l.cws.contains (a.plane, a.cw) then l else { l with cws := l.cws ++ [(a.plane, a.cw)] }

theorem joined_unit (a : CwAddr) (l : Ladder) : (joined a l).unit = l.unit := by
  unfold joined
  split <;> rfl

theorem mem_joined (a : CwAddr) (l : Ladder) : (a.plane, a.cw) ∈ (joined a l).cws := by
  unfold joined
  split
  next has => exact List.contains_iff_mem.1 has
  next => exact List.mem_append_right _ List.mem_cons_self

theorem mem_modLadder {s : State} {u : Nat × Nat × Nat × Nat} {l : Ladder} (f : Ladder → Ladder) (h : ladderOn s u = some l) :
    f l ∈ (modLadder s u f).nand.ladders := by
  obtain ⟨unit, mem⟩ := ladderOn_unit h
  exact List.mem_map.2 ⟨l, mem, if_pos (beq_iff_eq.2 unit)⟩

theorem decodeFail_joins {s : State} {a : CwAddr} {l : Ladder} (gen unsat : Nat) (h : ladderOn s (CwAddr.unit a) = some l) : let t := decodeFail s a gen unsat
    t.flights = s.flights ∧ t.blocks = s.blocks ∧ ∃ x ∈ t.nand.ladders, x.unit = CwAddr.unit a ∧ (a.plane, a.cw) ∈ x.cws := by
  have run : decodeFail s a gen unsat = modLadder s (CwAddr.unit a) (joined a) := by
    simp only [decodeFail, h]
    rfl
  rw [run]
  exact ⟨rfl, rfl, _, mem_modLadder (joined a) h, (joined_unit a l).trans (ladderOn_unit h).1, mem_joined a l⟩

theorem boundedFail_ladders (s : State) (a : CwAddr) : (boundedFail s a).nand.ladders = s.nand.ladders := by
  unfold boundedFail
  refine Resets.foldl_keep (fun u => u.nand.ladders) (fun u f => ?_) _ s
  split
  · refine (congrArg Nand.ladders ((interruptRead_from ..).keeps.nand rfl)).trans ?_
    rfl
  · split
    · rfl
    · dsimp only
      split <;> rfl

theorem nextLevel_congr {s t : State} (map : t.nand.levelMap = s.nand.levelMap) (gens : t.gens = s.gens) (hard : v t K.ladderHardSteps = v s K.ladderHardSteps)
    (soft : v t K.ladderSoft = v s K.ladderSoft) (die g l best : Nat) : nextLevel t die g l best = nextLevel s die g l best := by
  unfold nextLevel afterHard levelFeature
  rw [map, vg_congr g gens hard, vg_congr g gens soft]

theorem decodeFail_starts {s : State} {a : CwAddr} {gen n : Nat} (unsat : Nat) (none' : ladderOn s (CwAddr.unit a) = none) (feature : levelFeature s a.die ≠ 0)
    (next : nextLevel s a.die gen 0 0 = some n) :
    ∃ x ∈ (decodeFail s a gen unsat).nand.ladders, x.unit = CwAddr.unit a ∧ x.cws = [(a.plane, a.cw)] ∧ x.next = n ∧ x.gen = gen := by
  obtain ⟨b, hb⟩ : ∃ b, bump64 s K.hardFails = b := ⟨_, rfl⟩
  have counted : OnlyEntries s b [K.hardFails] := hb ▸ onlyEntries_bump s K.hardFails 64 1
  have same : b.nand = s.nand ∧ b.gens = s.gens := by
    subst hb
    exact ⟨rfl, rfl⟩
  obtain ⟨nand, gens⟩ := same
  have nextB : nextLevel b a.die gen 0 0 = some n := by
    rw [nextLevel_congr (s := s) (by rw [nand]) gens (counted _ (by decide)) (counted _ (by decide)), next]
  have featureB : ¬ levelFeature b a.die = 0 := by
    rw [levelFeature, nand]
    exact feature
  let l : Ladder :=
    { die := a.die, block := a.block, wl := a.wl, pt := a.pt, gen := gen, next := n, best := 0, bestU := unsat, cws := [(a.plane, a.cw)]
      host := s.flights.any (fun f => f.waits.contains a), frame := none }
  have start : ladderStart b (CwAddr.unit a) gen 0 unsat [(a.plane, a.cw)] (s.flights.any (fun f => f.waits.contains a)) none =
      { b with nand := { b.nand with ladders := b.nand.ladders ++ [l] } } := by
    simp only [ladderStart, CwAddr.unit, featureB, if_false, nextB, Option.isNone_some, Bool.false_eq_true, Option.getD_some]
    rfl
  have run : decodeFail s a gen unsat = boundedFail { b with nand := { b.nand with ladders := b.nand.ladders ++ [l] } } a := by
    simp only [decodeFail, none', hb, start]
  rw [run, boundedFail_ladders]
  exact ⟨l, List.mem_append_right _ List.mem_cons_self, rfl, rfl, rfl, rfl⟩

-- ===== a step of a ladder (R258, R263, R267) =====

/-- What marks a block due without a strike leaves: of the NAND only the blocks change, and no command in flight. -/
theorem markDue_plain (s : State) (die block : Nat) : BlocksOnly s (markDue s die block false) ∧ (markDue s die block false).flights = s.flights ∧
    (markDue s die block false).xlat = s.xlat := by
  unfold markDue
  extract_lets b strike c d
  have marked : BlocksOnly s d ∧ d.flights = s.flights ∧ d.xlat = s.xlat := by
    have counted : c.nand = s.nand ∧ c.flights = s.flights ∧ c.xlat = s.xlat := by
      show (ite _ _ _ : State).nand = _ ∧ (ite _ _ _ : State).flights = _ ∧ (ite _ _ _ : State).xlat = _
      split <;> exact ⟨rfl, rfl, rfl⟩
    obtain ⟨nand, flights, xlat⟩ := counted
    clear_value c
    refine ⟨?_, flights, xlat⟩
    have block' : BlocksOnly c d := rfl
    exact (BlocksOnly.of_same (.refl s) nand).trans block'
  clear_value d
  rw [if_neg]
  · exact marked
  · show ¬ (((false && blockYoung s b && !b.struck) && _) = true)
    exact Bool.false_ne_true

theorem ladderOk_frame (s : State) (a : CwAddr) (gen level : Nat) : ∃ t, ladderOk s a gen level = deliver t a ∧ t.nand.ladders = s.nand.ladders ∧
    t.flights = s.flights := by
  unfold ladderOk
  extract_lets b settled c
  have counted : b.nand = s.nand ∧ b.flights = s.flights := ⟨rfl, rfl⟩
  clear_value b
  obtain ⟨nand, flights⟩ := counted
  have due (die block : Nat) : (markDue b die block false).nand.ladders = s.nand.ladders ∧ (markDue b die block false).flights = s.flights := by
    obtain ⟨blocks, same, -⟩ := markDue_plain b die block
    exact ⟨by rw [blocks, nand], same.trans flights⟩
  have ladders : b.nand.ladders = s.nand.ladders := by rw [nand]
  refine ⟨c, rfl, ?_⟩
  show (ite _ _ _ : State).nand.ladders = _ ∧ (ite _ _ _ : State).flights = _
  split
  · exact due _ _
  · split
    · unfold markOrCheck
      split
      · exact due _ _
      · exact ⟨ladders, flights⟩
    · split
      · exact ⟨ladders, flights⟩
      · exact ⟨ladders, flights⟩

/-- The codewords of a step that succeed are delivered, and no ladder begins or ends by them. -/
theorem ladderOks_effect (l : Ladder) (level : Nat) (good : List (Nat × Nat)) (s : State) :
    let t := good.foldl (fun s c => ladderOk s ⟨l.die, l.block, l.wl, l.pt, c.1, c.2⟩ l.gen level) s
    t.nand.ladders = s.nand.ladders ∧ (∀ c ∈ good, Heard t ⟨l.die, l.block, l.wl, l.pt, c.1, c.2⟩) ∧ ∀ a, Heard s a → Heard t a := by
  induction good generalizing s with
  | nil => exact ⟨rfl, fun c m => absurd m List.not_mem_nil, fun a h => h⟩
  | cons c good ih =>
    obtain ⟨t, run, ladders, flights⟩ := ladderOk_frame s ⟨l.die, l.block, l.wl, l.pt, c.1, c.2⟩ l.gen level
    obtain ⟨rest, heard, keeps⟩ := ih (ladderOk s ⟨l.die, l.block, l.wl, l.pt, c.1, c.2⟩ l.gen level)
    refine ⟨rest.trans ?_, fun d m => ?_, fun a h => keeps a ?_⟩
    · rw [run]
      exact ladders
    · rcases List.mem_cons.1 m with rfl | later
      · refine keeps _ ?_
        rw [run]
        exact deliver_heard _ _
      · exact heard d later
    · rw [run]
      exact (h.of_flights flights).deliver _

theorem decompressorCharge_heard {s : State} {a : CwAddr} (n : Nat) (h : Heard s a) : Heard (decompressorCharge s n) a := by
  have failed {t : State} (ht : Heard t a) : Heard (failFrames t) a := by
    unfold failFrames
    split
    · intro f m
      obtain ⟨x, mx, rfl⟩ := List.mem_map.1 m
      exact ht x mx
    · exact ht
  unfold decompressorCharge
  extract_lets m src b c
  have counted : b.flights = s.flights := rfl
  have noted : c.flights = b.flights := (event_from ..).keeps.flights rfl
  clear_value b c
  split
  · split
    · exact failed (h.of_flights (((event_from ..).keeps.flights rfl).trans (noted.trans counted)))
    · exact h.of_flights (noted.trans counted)
  · exact h.of_flights counted

theorem ladderSuccess_effect (s : State) (l : Ladder) (level : Nat) : (∀ x ∈ (ladderSuccess s l level).nand.ladders, x.unit ≠ l.unit) ∧
    ∀ a, Heard s a → Heard (ladderSuccess s l level) a := by
  unfold ladderSuccess
  extract_lets b
  have gone : ∀ x ∈ b.nand.ladders, x.unit ≠ l.unit := fun x m => bne_iff_ne.1 (List.mem_filter.1 m).2
  have flights : b.flights = s.flights := rfl
  clear_value b
  split
  next key nsid dz _ =>
    split
    · exact ⟨gone, fun a h => h.of_flights flights⟩
    · have charged : (ite (level ≤ 1) (decompressorCharge b dz) b).nand = b.nand ∧
        ∀ a, Heard b a → Heard (ite (level ≤ 1) (decompressorCharge b dz) b) a := by
        split
        · exact ⟨(decompressorCharge_from _).keeps.nand rfl, fun a h => decompressorCharge_heard dz h⟩
        · exact ⟨rfl, fun a h => h⟩
      obtain ⟨nand, heard⟩ := charged
      refine ⟨fun x m => gone x ?_, fun a h f m => ?_⟩
      · rw [← nand]
        exact m
      · obtain ⟨x, mx, rfl⟩ := List.mem_map.1 m
        have hx := heard a (h.of_flights flights) x mx
        split
        · exact hx
        · exact hx
  next => exact ⟨gone, fun a h => h.of_flights flights⟩

theorem ladderStep_success {s : State} {u : Nat × Nat × Nat × Nat} {l : Ladder} {res : List (Nat × Nat × Bool × Nat)} (h : ladderOn s u = some l)
    (all : ∀ c ∈ l.cws, ∃ k, (c.1, c.2, true, k) ∈ res) : let t := ladderStep s u res
    (∀ x ∈ t.nand.ladders, x.unit ≠ u) ∧ ∀ f ∈ t.flights, ∀ a ∈ l.left, a ∉ f.waits := by
  obtain ⟨unit, -⟩ := ladderOn_unit h
  have good : l.cws.filter (fun c => res.any (fun r => (r.1, r.2.1) == c && r.2.2.1)) = l.cws := by
    refine List.filter_eq_self.2 fun c m => ?_
    obtain ⟨k, mk⟩ := all c m
    exact List.any_eq_true.2 ⟨_, mk, by simp⟩
  have rest : l.cws.filter (fun c => !l.cws.contains c) = [] := by
    refine List.filter_eq_nil_iff.2 fun c m => ?_
    rw [List.contains_iff_mem.2 m]
    decide
  obtain ⟨-, heard, -⟩ := ladderOks_effect l l.next l.cws s
  obtain ⟨t, ht⟩ : ∃ t, l.cws.foldl (fun s c => ladderOk s ⟨l.die, l.block, l.wl, l.pt, c.1, c.2⟩ l.gen l.next) s = t := ⟨_, rfl⟩
  have run : ladderStep s u res = ladderSuccess t l l.next := by
    simp only [ladderStep, h, good, rest, List.isEmpty_nil, if_true, ht]
  rw [ht] at heard
  obtain ⟨gone, keeps⟩ := ladderSuccess_effect t l l.next
  rw [run]
  refine ⟨fun x m => unit ▸ gone x m, fun f mf a ma => ?_⟩
  obtain ⟨c, mc, rfl⟩ := List.mem_map.1 ma
  exact keeps _ (heard c mc) f mf

/-- A ladder after a step in which no codeword succeeded. -/
def climbed (l : Ladder) : Ladder :=
  { l with best := if l.next < 0x20 ∧ 0 < l.bestU then l.next else l.best, bestU := if l.next < 0x20 ∧ 0 < l.bestU then 0 else l.bestU }

/-- A step in which no codeword succeeds climbs to the next level, or ends the ladder. -/
theorem ladderStep_fails {s : State} {u : Nat × Nat × Nat × Nat} {l : Ladder} (h : ladderOn s u = some l) (some' : l.cws ≠ []) :
    (∀ n, nextLevel s l.die l.gen l.next (climbed l).best = some n → ladderStep s u [] = modLadder s u (fun _ => { climbed l with next := n })) ∧
    (nextLevel s l.die l.gen l.next (climbed l).best = none → ladderStep s u [] = ladderFail s (climbed l)) := by
  have left : l.cws.filter (fun c => !([] : List (Nat × Nat)).contains c) = l.cws := List.filter_eq_self.2 fun c m => rfl
  have none' : l.cws.filter (fun _ => false) = [] := List.filter_eq_nil_iff.2 fun c m => Bool.false_ne_true
  have empty : l.cws.isEmpty = false := by
    rw [Bool.eq_false_iff]
    exact fun e => some' (List.isEmpty_iff.1 e)
  refine ⟨fun n next => ?_, fun next => ?_⟩ <;> unfold climbed at next ⊢ <;> dsimp only at next <;>
    simp only [ladderStep, h, List.any_nil, none', List.foldl_nil, left, empty, List.filter_nil, List.map_nil, Bool.false_eq_true, if_false,
      Bool.and_eq_true, decide_eq_true_eq, sumNat, next]

-- ===== the data of a ladder's last codewords is lost (R186, R267) =====

theorem has_put (m : Assoc Nat) (k j a : Nat) (h : j = k ∨ m.has j = true) : (m.put k a).has j = true := by
  rw [Assoc.has, get?_put]
  split
  · rfl
  next other =>
    rcases h with same | has
    · exact absurd same other
    · exact has

/-- Between `s` and `t` losses were discovered and codewords delivered: what names the blocks of a page is as it was, and nothing that was
lost became good. -/
structure Losing (s t : State) : Prop where
  nand : t.nand = s.nand
  nss : t.nss = s.nss
  pmap : t.xlat.pmap = s.xlat.pmap
  clk : t.clk = s.clk
  zones : ∀ k, ∃ x, zoneAt t k = { zoneAt s k with loss := x }
  entries : OnlyEntries s t [K.ladderUncorrectable]
  poison : ∀ k, s.xlat.poison.has k = true → t.xlat.poison.has k = true

theorem Losing.refl (s : State) : Losing s s := ⟨rfl, rfl, rfl, rfl, fun _ => ⟨_, rfl⟩, onlyEntries_refl _ _, fun _ h => h⟩

theorem Losing.trans {s t u : State} (h : Losing s t) (k : Losing t u) : Losing s u where
  nand := k.nand.trans h.nand
  nss := k.nss.trans h.nss
  pmap := k.pmap.trans h.pmap
  clk := k.clk.trans h.clk
  zones i := by
    obtain ⟨x, hx⟩ := h.zones i
    obtain ⟨y, hy⟩ := k.zones i
    exact ⟨y, by rw [hy, hx]⟩
  entries := onlyEntries_trans h.entries k.entries
  poison i hi := k.poison i (h.poison i hi)

theorem Losing.foldl {β : Type} {f : State → β → State} (hf : ∀ u b, Losing u (f u b)) (l : List β) (s : State) : Losing s (l.foldl f s) := by
  induction l generalizing s with
  | nil => exact .refl s
  | cons b l ih => exact (hf s b).trans (ih _)

theorem lossFlag_losing (s : State) (nsid zone : Nat) : Losing s (lossFlag s nsid zone) := by
  unfold lossFlag
  split
  next n _ =>
    split
    · extract_lets zb has
      split
      · exact .refl s
      · refine ⟨rfl, rfl, rfl, rfl, fun k => ?_, onlyEntries_of_dict _ rfl, fun _ h => h⟩
        by_cases mine : k = zkey nsid zone
        · subst mine
          exact ⟨has, zoneAt_modZone_self ..⟩
        · exact ⟨_, zoneAt_modZone_ne _ _ mine⟩
    · exact .refl s
  next => exact .refl s

theorem lossPend_losing (s : State) (nsid slba nlb cause flags loc cove : Nat) : Losing s (lossPend s nsid slba nlb cause flags loc cove) :=
  ⟨rfl, rfl, rfl, rfl, fun _ => ⟨_, rfl⟩, onlyEntries_of_dict _ rfl, fun _ h => h⟩

theorem has_foldl_put (nsid cause : Nat) (l : List Nat) (m : Assoc Nat) (k : Nat) (h : (∃ y ∈ l, k = lkey nsid y) ∨ m.has k = true) :
    (l.foldl (fun m y => m.put (lkey nsid y) cause) m).has k = true := by
  induction l generalizing m with
  | nil =>
    rcases h with ⟨y, my, -⟩ | has
    · exact absurd my List.not_mem_nil
    · exact has
  | cons x l ih =>
    refine ih _ ?_
    rcases h with ⟨y, my, rfl⟩ | has
    · rcases List.mem_cons.1 my with rfl | later
      · exact .inr (has_put _ _ _ _ (.inl rfl))
      · exact .inl ⟨y, later, rfl⟩
    · exact .inr (has_put _ _ _ _ (.inr has))

/-- Blocks whose loss is discovered are lost. -/
theorem discover_losing (s : State) (nsid cause flags loc : Nat) (lbas : List Nat) :
    Losing s (discover s nsid cause flags loc lbas) ∧ ∀ y ∈ lbas, poisoned (discover s nsid cause flags loc lbas) nsid y = true := by
  unfold discover
  extract_lets new src a b
  split
  next empty =>
    refine ⟨.refl s, fun y m => ?_⟩
    cases good : poisoned s nsid y with
    | true => rfl
    | false =>
      have fresh : y ∈ new := List.mem_filter.2 ⟨m, by rw [good]; rfl⟩
      rw [List.isEmpty_iff.1 empty] at fresh
      exact absurd fresh List.not_mem_nil
  next =>
    have entered : Losing s a := ⟨rfl, rfl, rfl, rfl, fun _ => ⟨_, rfl⟩, onlyEntries_of_dict _ rfl, fun k h => has_foldl_put nsid cause new _ k (.inr h)⟩
    have lost : ∀ y ∈ lbas, a.xlat.poison.has (lkey nsid y) = true := by
      intro y m
      refine has_foldl_put nsid cause new _ _ ?_
      by_cases good : poisoned s nsid y = true
      · exact .inr good
      · exact .inl ⟨y, List.mem_filter.2 ⟨m, by rw [Bool.not_eq_true] at good; rw [good]; rfl⟩, rfl⟩
    clear_value a
    have flagged : Losing a b := by
      show Losing a (match nsOf a nsid with | some n => _ | none => _)
      split
      · split
        · exact .foldl (fun u z => lossFlag_losing u _ _) _ a
        · exact .refl a
      · exact .refl a
    clear_value b
    have pends : Losing b ((runsOf new).foldl (fun s r => (splitRange 16 r.1 r.2).foldl (fun s x => lossPend s nsid x.1 x.2 cause flags loc 0) s) b) :=
      .foldl (fun u r => .foldl (fun w x => lossPend_losing w _ _ _ _ _ _ _) _ u) _ b
    exact ⟨(entered.trans flagged).trans pends, fun y m => pends.poison _ (flagged.poison _ (lost y m))⟩

theorem deliver_losing (s : State) (a : CwAddr) : Losing s (deliver s a) :=
  ⟨rfl, rfl, rfl, rfl, fun _ => ⟨_, rfl⟩, onlyEntries_of_dict _ rfl, fun _ h => h⟩

theorem countLost_losing (s : State) : Losing s (bump64 s K.ladderUncorrectable) :=
  ⟨rfl, rfl, rfl, rfl, fun _ => ⟨_, rfl⟩, onlyEntries_bump _ _ _ _, fun _ h => h⟩

theorem coveKey_apart (c : Nat) (h : c < 256) : coveKey c ∉ [K.ladderUncorrectable] := by
  rw [List.mem_singleton]
  unfold coveKey unitKey K.coveDesc K.coveDescHi K.ladderUncorrectable
  split <;> omega

theorem Losing.coveDesc {s t : State} (h : Losing s t) {c : Nat} (low : c < 256) : coveDesc t c = coveDesc s c := h.entries _ (coveKey_apart c low)

theorem Losing.zoneBlocks {s t : State} (h : Losing s t) {n : Ns} (low : n.firstCove < 256) : zoneBlocks t n = zoneBlocks s n := by
  rw [Machine.zoneBlocks, h.coveDesc low, Machine.zoneBlocks]

/-- The zones a block's pages lie in name Coves of the dictionary. -/
def Known (s : State) (die block : Nat) : Prop :=
  ∀ zk k p, (blockAt s die block).use = .zone zk k p → (zoneAt s zk).cove < 256 ∧ (nsRec s (zk / 2 ^ 32)).firstCove < 256

theorem Losing.lbasAt {s t : State} (h : Losing s t) {die block : Nat} (known : Known s die block) (b len : Nat) :
    lbasAt t die block b len = lbasAt s die block b len := by
  have block' : blockAt t die block = blockAt s die block := by rw [blockAt, h.nand, blockAt]
  have ns (i : Nat) : nsOf t i = nsOf s i := by rw [nsOf, h.nss, nsOf]
  unfold Machine.lbasAt
  rw [block']
  cases use : (blockAt s die block).use with
  | zone zk k p =>
    obtain ⟨cove, first⟩ := known zk k p use
    obtain ⟨x, zone⟩ := h.zones zk
    dsimp only
    rw [ns]
    cases there : nsOf s (zk / 2 ^ 32) with
    | none => rfl
    | some n =>
      have low : n.firstCove < 256 := by
        rw [nsRec, there] at first
        exact first
      have group (d : Nat) : groupBytes t d = groupBytes s d := by simp only [groupBytes, slotOf, slotAt, h.nand]
      have log : logOf t { zoneAt s zk with loss := x } k p b = logOf s (zoneAt s zk) k p b := by
        simp only [logOf, h.coveDesc cove, group]
      dsimp only
      rw [zone, log]
      simp only [logLbas, frameLbas, h.coveDesc cove, h.zoneBlocks low]
  | stripe i p =>
    simp only [h.pmap, ns]
  | free => rfl
  | metadata => rfl
  | flush => rfl
  | copy i => rfl

theorem discovers_losing (cause loc : Nat) (l : List (Nat × List Nat)) (s : State) :
    let t := l.foldl (fun s x => discover s x.1 cause 0 loc x.2) s
    Losing s t ∧ ∀ x ∈ l, ∀ y ∈ x.2, poisoned t x.1 y = true := by
  induction l generalizing s with
  | nil => exact ⟨.refl s, fun x m => absurd m List.not_mem_nil⟩
  | cons x l ih =>
    obtain ⟨first, lost⟩ := discover_losing s x.1 cause 0 loc x.2
    obtain ⟨rest, others⟩ := ih (discover s x.1 cause 0 loc x.2)
    refine ⟨first.trans rest, fun z m y my => ?_⟩
    rcases List.mem_cons.1 m with rfl | later
    · exact rest.poison _ (lost y my)
    · exact others z later y my

theorem cwOffset_congr {s t : State} (h : t.nand = s.nand) (a : CwAddr) : cwOffset t a = cwOffset s a := by
  simp only [cwOffset, slotOf, slotAt, blockAt, h]

/-- A codeword that a ladder has left is counted, what it holds is lost, and no read waits for it any more. -/
def loseOne (die block : Nat) (host : Bool) (s : State) (a : CwAddr) : State :=
  deliver ((lbasAt (bump64 s K.ladderUncorrectable) die block (cwOffset (bump64 s K.ladderUncorrectable) a) 4096).foldl
    (fun s x => discover s x.1 (if host then 1 else 2) 0 die x.2) (bump64 s K.ladderUncorrectable)) a

theorem loseOne_losing (die block : Nat) (host : Bool) (s : State) (a : CwAddr) : Losing s (loseOne die block host s a) :=
  ((countLost_losing s).trans (discovers_losing _ _ _ _).1).trans (deliver_losing _ a)

theorem loseOne_loses {s t : State} {die block : Nat} (h : Losing s t) (known : Known s die block) (host : Bool) (a : CwAddr) :
    ∀ x ∈ lbasAt s die block (cwOffset s a) 4096, ∀ y ∈ x.2, poisoned (loseOne die block host t a) x.1 y = true := by
  have counted := h.trans (countLost_losing t)
  have same : lbasAt (bump64 t K.ladderUncorrectable) die block (cwOffset (bump64 t K.ladderUncorrectable) a) 4096 =
      lbasAt s die block (cwOffset s a) 4096 := by
    rw [cwOffset_congr counted.nand, counted.lbasAt known]
  intro x mx y my
  exact (deliver_losing _ a).poison _ ((discovers_losing _ _ _ _).2 x (same ▸ mx) y my)

theorem loseAll_losing {die block : Nat} {s : State} (known : Known s die block) (host : Bool) (as : List CwAddr) {t : State} (h : Losing s t) :
    let u := as.foldl (loseOne die block host) t
    Losing s u ∧ ∀ a ∈ as, ∀ x ∈ lbasAt s die block (cwOffset s a) 4096, ∀ y ∈ x.2, poisoned u x.1 y = true := by
  induction as generalizing t with
  | nil => exact ⟨h, fun a m => absurd m List.not_mem_nil⟩
  | cons a as ih =>
    obtain ⟨all, others⟩ := ih (h.trans (loseOne_losing die block host t a))
    have tail := Losing.foldl (loseOne_losing die block host) as (loseOne die block host t a)
    refine ⟨all, fun b m x mx y my => ?_⟩
    rcases List.mem_cons.1 m with rfl | later
    · exact tail.poison _ (loseOne_loses h known host b x mx y my)
    · exact others b later x mx y my

theorem refreshAge_apart : ∀ c < 4, unitKey K.refreshAge c ∉ [K.ladderUncorrectable] := by decide

theorem Losing.blockYoung {s t : State} (h : Losing s t) {b : PBlock} (cell : b.cell < 4) : blockYoung t b = blockYoung s b := by
  have age : blockAge t b = blockAge s b := by simp only [blockAge, time64, h.clk]
  rw [Machine.blockYoung, age, h.entries _ (refreshAge_apart _ cell), Machine.blockYoung]

/-- The blocks that codewords of old data held are lost, and no ladder begins. -/
theorem codewordsLost_old {s : State} {die block : Nat} (known : Known s die block) (cell : (blockAt s die block).cell < 4)
    (old : blockYoung s (blockAt s die block) = false) (host : Bool) (as : List CwAddr) : let t := codewordsLost s die block as host
    t.nand.ladders = s.nand.ladders ∧ ∀ a ∈ as, ∀ x ∈ lbasAt s die block (cwOffset s a) 4096, ∀ y ∈ x.2, poisoned t x.1 y = true := by
  obtain ⟨lost, gone⟩ := loseAll_losing known host as (.refl s)
  obtain ⟨u, hu⟩ : ∃ u, as.foldl (loseOne die block host) s = u := ⟨_, rfl⟩
  rw [hu] at lost gone
  have block' : blockAt u die block = blockAt s die block := by rw [blockAt, lost.nand, blockAt]
  have run : codewordsLost s die block as host = markDue u die block false := by
    subst hu
    refine if_neg ?_
    show ¬ blockYoung (as.foldl (loseOne die block host) s) (blockAt (as.foldl (loseOne die block host) s) die block) = true
    rw [block', lost.blockYoung cell, old]
    exact Bool.false_ne_true
  obtain ⟨only, -, xlat⟩ := markDue_plain u die block
  rw [run]
  refine ⟨?_, fun a m x mx y my => ?_⟩
  · rw [only]
    show u.nand.ladders = _
    rw [lost.nand]
  · rw [poisoned, xlat]
    exact gone a m x mx y my

/-- A ladder with no level left ends, and on old data what its codewords held is lost. -/
theorem ladderFail_old {s : State} {l : Ladder} (frame : l.frame = none) (known : Known s l.die l.block) (cell : (blockAt s l.die l.block).cell < 4)
    (old : blockYoung s (blockAt s l.die l.block) = false) : let t := ladderFail s l
    (∀ x ∈ t.nand.ladders, x.unit ≠ l.unit) ∧
      ∀ a ∈ l.left, ∀ x ∈ lbasAt s l.die l.block (cwOffset s a) 4096, ∀ y ∈ x.2, poisoned t x.1 y = true := by
  have run : ladderFail s l = codewordsLost (dropLadder s l.unit) l.die l.block l.left l.host := by
    unfold ladderFail
    rw [frame]
  obtain ⟨ladders, lost⟩ := codewordsLost_old (s := dropLadder s l.unit) (die := l.die) (block := l.block) known cell old l.host l.left
  rw [run]
  refine ⟨fun x m => ?_, lost⟩
  rw [ladders] at m
  exact bne_iff_ne.1 (List.mem_filter.1 m).2

-- ===== the offsets kept (R255) =====

theorem get?_foldl_put_other {α β : Type} (key : β → Nat) (x : β → α) (l : List β) (m : Assoc α) {k : Nat} (h : ∀ b ∈ l, key b ≠ k) :
    (l.foldl (fun m b => m.put (key b) (x b)) m).get? k = m.get? k := by
  induction l generalizing m with
  | nil => rfl
  | cons b l ih =>
    rw [List.foldl_cons, ih _ fun c mc => h c (List.mem_cons_of_mem _ mc), get?_put, if_neg (h b List.mem_cons_self).symm]

/-- Of several writes to a store the last one of a key stands. -/
theorem get?_foldl_put_of_mem {α β : Type} (key : β → Nat) (x : β → α) (l : List β) (m : Assoc α) {k : Nat} (h : ∃ b ∈ l, key b = k) :
    ∃ b ∈ l, key b = k ∧ (l.foldl (fun m b => m.put (key b) (x b)) m).get? k = some (x b) := by
  induction l generalizing m with
  | nil =>
    obtain ⟨b, mb, -⟩ := h
    exact absurd mb List.not_mem_nil
  | cons c l ih =>
    by_cases again : ∃ b ∈ l, key b = k
    · obtain ⟨d, md, same, got⟩ := ih (m.put (key c) (x c)) again
      exact ⟨d, List.mem_cons_of_mem _ md, same, got⟩
    · have last : ∀ b ∈ l, key b ≠ k := fun b mb same => again ⟨b, mb, same⟩
      obtain ⟨b, mb, named⟩ := h
      obtain rfl : b = c := (List.mem_cons.1 mb).resolve_right fun later => last b later named
      exact ⟨b, List.mem_cons_self, named, (get?_foldl_put_other key x l _ last).trans ((get?_put ..).trans (if_pos named.symm))⟩

-- ===== patrol (R262 to R265) =====

theorem lapEnd_entries (s : State) (cell : Nat) : OnlyEntries s (lapEnd s cell) (unitKey K.patrolLapLast cell :: K.patrolOverruns :: recordKeys) := by
  unfold lapEnd
  split
  · exact onlyEntries_refl _ _
  · extract_lets secs a b
    have kept : OnlyEntries s a (unitKey K.patrolLapLast cell :: K.patrolOverruns :: recordKeys) := onlyEntries_mono (onlyEntries_setV _ _ _) (by simp)
    have noted : OnlyEntries a b (unitKey K.patrolLapLast cell :: K.patrolOverruns :: recordKeys) := by
      show OnlyEntries a (ite _ _ _) _
      split
      · exact onlyEntries_trans (onlyEntries_mono (onlyEntries_bump _ _ _ _) (by simp))
          (onlyEntries_mono (event_onlyEntries _ _ _) fun k m => List.mem_cons_of_mem _ (List.mem_cons_of_mem _ m))
      · exact onlyEntries_refl _ _
    exact onlyEntries_trans kept (onlyEntries_trans noted (onlyEntries_of_dict _ rfl))

theorem patrolEnable_apart : ∀ c < 4, K.patrolEnable ∉ unitKey K.patrolLapLast c :: K.patrolOverruns :: recordKeys := by decide

/-- Laps that end leave the dies, and whether patrol runs. -/
theorem lapsEnd_frame (l : List Nat) (low : ∀ c ∈ l, c < 4) (s : State) : let t := l.foldl lapEnd s
    (∃ x, t.nand = { s.nand with laps := x }) ∧ t.thermal = s.thermal ∧ t.power = s.power ∧ v t K.patrolEnable = v s K.patrolEnable := by
  induction l generalizing s with
  | nil => exact ⟨⟨_, rfl⟩, rfl, rfl, rfl⟩
  | cons c l ih =>
    obtain ⟨⟨x, nand⟩, thermal, power, on⟩ := ih (fun b mb => low b (List.mem_cons_of_mem _ mb)) (lapEnd s c)
    obtain ⟨y, ended⟩ := lapEnd_nand s c
    have keeps := (lapEnd_from (s := s) c).keeps
    exact ⟨⟨x, by rw [List.foldl_cons, nand, ended]⟩, thermal.trans (keeps.thermal rfl), power.trans (keeps.power rfl),
      on.trans (lapEnd_entries s c _ (patrolEnable_apart c (low c List.mem_cons_self)))⟩

theorem patrolPace_rates {s : State} {p : Nat × Nat} (m : p ∈ s.nand.dies) (up : dieUp s p.1 = true) :
    ∃ r, (patrolPace s).nand.patrolRate.get? p.1 = some r ∧ (patrolOn s = false → r = 0) := by
  obtain ⟨⟨x, nand⟩, thermal, power, on⟩ := lapsEnd_frame (List.range 4) (fun c m => List.mem_range.1 m) s
  obtain ⟨u, hu⟩ : ∃ u, (List.range 4).foldl lapEnd s = u := ⟨_, rfl⟩
  rw [hu] at nand thermal power on
  have up' (d : Nat) : dieUp u d = dieUp s d := by simp only [dieUp, dieState, nand]
  have on' : patrolOn u = patrolOn s := by simp only [patrolOn, vb, on, backgroundHeld, thermal, power]
  have listed : ∃ d ∈ (u.nand.dies.keys).filter (dieUp u), id d = p.1 := by
    refine ⟨p.1, List.mem_filter.2 ⟨?_, (up' p.1).trans up⟩, rfl⟩
    rw [nand]
    exact List.mem_map_of_mem m
  obtain ⟨d, -, same, got⟩ := get?_foldl_put_of_mem id (fun d => if patrolOn u then patrolRateOf u d else 0) _ [] listed
  have run : (patrolPace s).nand.patrolRate.get? p.1 = some (if patrolOn u then patrolRateOf u d else 0) := by
    unfold patrolPace
    rw [hu]
    exact got
  refine ⟨_, run, fun off => ?_⟩
  rw [on', off]
  rfl

/-- The descriptor of a patrol read of a page. -/
def patrolDesc (s : State) (die block wl pt : Nat) : Desc :=
  { opcode := 1, flush := false, noSuspend := false, channel := die / 64, ce := die / 8 % 8, lun := die % 8, pass := 0, cell := (blockAt s die block).cell,
    planeMask := 2 ^ (slotOf s die).planes - 1, cwMask := 15, pageType := pt, level := 0, block := block, wordline := wl, tag := 0, gen := s.genNow % 16,
    feature := 0, data := 0, resv := false, work := .background }

theorem descDie_patrol (s : State) (die block wl pt : Nat) : descDie (patrolDesc s die block wl pt) = die := by
  show die / 64 * 64 + die / 8 % 8 * 8 + die % 8 = die
  omega

theorem patrolRead_joins {s : State} {die block wl pt : Nat} (on : patrolOn s = true) (may : patrolled s die (blockAt s die block) = true)
    (passed : wl < (blockAt s die block).passed) (type : pt < cellPages (blockAt s die block).cell) (single : backgroundRead (lunAt s die) = false)
    (room : channelCoves s (die / 64) = [] ∨ channelUnits s (die / 64) < channelDepth s (die / 64))
    (fresh : (lapAt s (blockAt s die block).cell).done.contains (die, block, wl, pt) = false) (calm : (blockAt s die block).pending = none)
    (ok : descCheck s (patrolDesc s die block wl pt) = 0) (short : (lunAt s die).queue.length < 16) :
    patrolRead s die block wl pt = modLun s die (fun l => { l with queue := l.queue ++ [patrolDesc s die block wl pt] }) := by
  have free : (channelCoves s (die / 64) == [] || decide (channelUnits s (die / 64) < channelDepth s (die / 64))) = true := by
    rw [Bool.or_eq_true, decide_eq_true_eq, beq_iff_eq]
    exact room
  have run : patrolRead s die block wl pt = enqueue s 1 (patrolDesc s die block wl pt) := by
    have w : decide (wl ≥ (blockAt s die block).passed) = false := decide_eq_false (by omega)
    have p : decide (pt ≥ cellPages (blockAt s die block).cell) = false := decide_eq_false (by omega)
    have again : ((none : Option (Nat × Nat)) == some (wl, pt)) = false := rfl
    simp only [patrolRead, on, may, w, p, single, free, fresh, calm, again, Bool.not_true, Bool.not_false, Bool.or_false, Bool.and_true,
      Bool.false_eq_true, if_false]
    rfl
  have joins := enqueue_joins (s := s) (op := 1) (d0 := patrolDesc s die block wl pt) (d := patrolDesc s die block wl pt) rfl ok
    (by rwa [descDie_patrol]) (fun three => absurd three (by decide))
    (fun _ _ => by rwa [descDie_patrol])
  rw [run, joins, descDie_patrol]

theorem patrolRead_off {s : State} (die block wl pt : Nat) (off : patrolOn s = false) : patrolRead s die block wl pt = s := by
  unfold patrolRead
  rw [off]
  rfl

/-- Settles O41: each codeword's way from its decode to delivery, to a ladder, or to the loss map is one lemma above; on blocks of old data the
losses leave the mapping that names the blocks, so each codeword loses what it held before. -/
theorem recoveryAndPatrol : Obligations.recovery_and_patrol := by
  intro s
  refine ⟨fun a ones e10 e01 unsat => ?_, fun a ok tail ones e10 e01 unsat bad => ?_, fun die block wl pt l there => ?_, fun die block wl pt res none' => ?_,
    ⟨_, rfl, rfl, fun p m => ?_, fun k h => get?_foldl_put_other (fun p : Nat × OffEnt => p.1) (fun p => p.2.cur) _ _ h⟩,
    ⟨_, rfl, fun p m up => patrolPace_rates m up⟩,
    fun die block wl pt d on may passed type single room fresh calm desc ok short => ?_,
    fun die block wl pt off => next_congr (patrolRead_off die block wl pt off)⟩
  · refine ⟨_, rfl, ?_, hardDecode_samples unsat⟩
    rw [hardDecode_of_good]
    exact deliver_heard _ a
  · obtain ⟨c, run, nand, flights, blocks, gens, entries⟩ := hardDecode_of_bad (s := s) ones e10 e01 unsat bad
    have ladders : c.nand.ladders = s.nand.ladders := by rw [nand]
    refine ⟨fun l there => ?_, fun g n none' feature gen next => ?_⟩
    · obtain ⟨flights', blocks', has⟩ := decodeFail_joins (s := c) (arrivedGen s a) unsat ((ladderOn_congr ladders _).trans there)
      exact ⟨_, next_congr (congrArg settle run), flights'.trans flights, blocks'.trans blocks, has⟩
    · subst gen
      have feature' : levelFeature c a.die ≠ 0 := by
        rw [levelFeature, nand]
        exact feature
      have next' : nextLevel c a.die (arrivedGen s a) 0 0 = some n := by
        rw [nextLevel_congr (s := s) (by rw [nand]) gens (entries _ (by decide)) (entries _ (by decide))]
        exact next
      exact ⟨_, next_congr (congrArg settle run), decodeFail_starts unsat ((ladderOn_congr ladders _).trans none') feature' next'⟩
  · obtain ⟨unit, -⟩ := ladderOn_unit there
    refine ⟨fun res all => ⟨_, rfl, ladderStep_success there all⟩, fun some' b best => ?_⟩
    subst best
    obtain ⟨climbs, ends⟩ := ladderStep_fails there some'
    refine ⟨fun n next => ?_, fun last frame old cell known => ?_⟩
    · exact ⟨_, next_congr (congrArg settle (climbs n next)), rfl, _, mem_modLadder (fun _ => { climbed l with next := n }) there, unit, rfl, rfl⟩
    · obtain ⟨rfl, rfl, -⟩ := Prod.mk.inj unit |>.imp id fun rest => Prod.mk.inj rest
      obtain ⟨gone, lost⟩ := ladderFail_old (l := climbed l) frame known cell old
      exact ⟨_, next_congr (congrArg settle (ends last)), unit ▸ gone, lost⟩
  · have stays : ladderStep s (die, block, wl, pt) res = s := by rw [ladderStep, none']
    exact next_congr (congrArg settle stays)
  · obtain ⟨q, mq, same, got⟩ := get?_foldl_put_of_mem (fun p : Nat × OffEnt => p.1) (fun p => p.2.cur) s.nand.offs s.nand.offsKept ⟨p, m, rfl⟩
    exact ⟨q, mq, same, got⟩
  · subst desc
    have run := patrolRead_joins on may passed type single room fresh calm ok short
    exact ⟨_, next_congr run, congrArg Lun.queue (lunAt_modLun_self ..), rfl⟩
end Sys2Proof.Recovery

/-! Map pages loaded or lost, and blocks relocated one at a time (R173, R174, R178, R181, R182, R193, R281). -/
namespace Sys2Proof.Reclaim
open Sys2Proof Sys2Proof.Machine Sys2Proof.Effects Sys2Proof.Stores Sys2Proof.Blocks

-- ===== map pages (R173, R281) =====

/-- A page that is loaded is no longer only on the media; of the mapping's other state nothing but cache and journal changes. -/
theorem mapTouch_warm (s : State) (page : Nat) : page ∉ (mapTouch s page).xlat.cold ∧
    (mapTouch s page).xlat =
      { s.xlat with cached := (mapTouch s page).xlat.cached, cold := (mapTouch s page).xlat.cold, dirty := (mapTouch s page).xlat.dirty } := by
  have gone : page ∉ s.xlat.cold.filter (· != page) := fun m => bne_iff_ne.1 (List.mem_filter.1 m).2 rfl
  unfold mapTouch
  extract_lets x l cold
  split
  next q evicted =>
    refine ⟨fun m => ?_, rfl⟩
    rcases List.mem_append.1 m with old | new
    · exact gone old
    · rw [← List.mem_singleton.1 new] at evicted
      split at evicted
      · exact bne_iff_ne.1 (List.mem_filter.1 (List.mem_of_find?_eq_some evicted)).2 rfl
      · cases evicted
  next => exact ⟨gone, rfl⟩

theorem pageLoaded_warm (s : State) (id : Nat) : let t := pageLoaded s id
    t.xlat.cold.contains id = false ∧ t.xlat.poison = s.xlat.poison ∧ t.xlat.relocs = s.xlat.relocs ∧ t.xlat.nextReloc = s.xlat.nextReloc := by
  obtain ⟨gone, rest⟩ := mapTouch_warm s id
  have warm : (mapTouch s id).xlat.cold.contains id = false := by
    rw [Bool.eq_false_iff]
    exact fun has => gone (List.contains_iff_mem.1 has)
  have poison := congrArg Xlat.poison rest
  have relocs := congrArg Xlat.relocs rest
  have number := congrArg Xlat.nextReloc rest
  unfold pageLoaded
  dsimp only
  rw [(mapArrived_from ..).keeps.xlat rfl]
  exact ⟨warm, poison, relocs, number⟩

/-- What is read of a page of the map, with a bad copy written again. -/
def pageRead (s : State) (a b : Bool) : State := if !a && b then bump32 (bump64 s K.mapMisses) K.metadataRepairs else bump64 s K.mapMisses

theorem pageRead_counts (s : State) (a b : Bool) (some' : a = true ∨ b = true) : let t := pageRead s a b
    v t K.mapMisses = satAdd 64 (v s K.mapMisses) 1 ∧ v t K.metadataRepairs = (if a then v s K.metadataRepairs else satAdd 32 (v s K.metadataRepairs) 1) ∧
      t.xlat = s.xlat := by
  have misses : v (bump64 s K.mapMisses) K.mapMisses = satAdd 64 (v s K.mapMisses) 1 := v_setV_self ..
  have repairs : v (bump64 s K.mapMisses) K.metadataRepairs = v s K.metadataRepairs := v_setV_ne _ _ (by decide)
  unfold pageRead
  cases a with
  | true => exact ⟨misses, repairs, rfl⟩
  | false =>
    obtain rfl : b = true := some'.resolve_left Bool.false_ne_true
    refine ⟨(v_setV_ne _ _ (by decide)).trans misses, (v_setV_self ..).trans ?_, rfl⟩
    rw [repairs]
    rfl

theorem mapMiss_of_cold {s : State} {nsid page : Nat} (own : nsid ≠ 0xFFFFFFFF) (low : page < 2 ^ 40)
    (cold : s.xlat.cold.contains (nsid * 2 ^ 32 + page) = true) (a b : Bool) : mapMiss s nsid page a b =
      if a || b then pageLoaded (pageRead s a b) (nsid * 2 ^ 32 + page)
      else pageLoaded (discover (pageRead s a b) nsid 6 0 0xFFFF ((pageLbas (pageRead s a b) (nsid * 2 ^ 32 + page)).mergeSort (fun a b => decide (a ≤ b))))
        (nsid * 2 ^ 32 + page) := by
  have mine : ¬ (nsid = 0xFFFFFFFF ∨ page ≥ 2 ^ 40) := by
    rintro (other | high)
    · exact own other
    · omega
  unfold mapMiss
  dsimp only
  rw [if_neg mine, cold, if_neg (by decide)]
  rfl

theorem mapMiss_loads {s : State} {nsid page : Nat} (own : nsid ≠ 0xFFFFFFFF) (low : page < 2 ^ 40)
    (cold : s.xlat.cold.contains (nsid * 2 ^ 32 + page) = true) (a b : Bool) : let u := mapMiss s nsid page a b
    u.xlat.cold.contains (nsid * 2 ^ 32 + page) = false ∧
      (a = true ∨ b = true → v u K.mapMisses = satAdd 64 (v s K.mapMisses) 1 ∧
        v u K.metadataRepairs = (if a then v s K.metadataRepairs else satAdd 32 (v s K.metadataRepairs) 1) ∧ u.xlat.poison = s.xlat.poison) ∧
      (a = false → b = false → ∀ x ∈ pageLbas (bump64 s K.mapMisses) (nsid * 2 ^ 32 + page), poisoned u nsid x = true) := by
  rw [mapMiss_of_cold own low cold]
  split
  next some' =>
    rw [Bool.or_eq_true] at some'
    obtain ⟨misses, repairs, xlat⟩ := pageRead_counts s a b some'
    obtain ⟨warm, poison, -⟩ := pageLoaded_warm (pageRead s a b) (nsid * 2 ^ 32 + page)
    have dict := (pageLoaded_from (s := pageRead s a b) (nsid * 2 ^ 32 + page)).keeps.dict rfl
    refine ⟨warm, fun _ => ⟨(v_of_dict dict _).trans misses, (v_of_dict dict _).trans repairs, poison.trans (congrArg Xlat.poison xlat)⟩,
      fun offA offB => ?_⟩
    rcases some' with onA | onB
    · exact absurd (offA.symm.trans onA) Bool.false_ne_true
    · exact absurd (offB.symm.trans onB) Bool.false_ne_true
  next neither =>
    rw [Bool.or_eq_true] at neither
    obtain ⟨-, lost⟩ := Recovery.discover_losing (pageRead s a b) nsid 6 0 0xFFFF
      ((pageLbas (pageRead s a b) (nsid * 2 ^ 32 + page)).mergeSort (fun a b => decide (a ≤ b)))
    obtain ⟨warm, poison, -⟩ := pageLoaded_warm (discover (pageRead s a b) nsid 6 0 0xFFFF
      ((pageLbas (pageRead s a b) (nsid * 2 ^ 32 + page)).mergeSort (fun a b => decide (a ≤ b)))) (nsid * 2 ^ 32 + page)
    refine ⟨warm, fun some' => absurd some' neither, fun offA offB x m => ?_⟩
    subst offA offB
    rw [poisoned, poison]
    exact lost x (List.mem_mergeSort.2 m)

/-- With both copies of a directory lost the package is read-only. -/
theorem metadataLost_effect {s : State} (page : Nat) (first : s.xlat.metaLost = false) :
    (metadataLost s page).xlat.metaLost = true ∧ (metadataLost s page).xlat.readOnlyAll = true := by
  have run : metadataLost s page =
      event (allReadOnly (aenPfs { s with xlat := { s.xlat with metaLost := true } } .persistentError)) Ev.metadataLost [page] := by
    unfold metadataLost
    rw [first, if_neg (by decide)]
  obtain ⟨p, hp⟩ : ∃ p, aenPfs { s with xlat := { s.xlat with metaLost := true } } .persistentError = p := ⟨_, rfl⟩
  have noted : p.xlat.metaLost = true := by
    subst hp
    exact congrArg Xlat.metaLost ((aenPfs_from ..).keeps.xlat rfl)
  rw [run, (event_from ..).keeps.xlat rfl, hp]
  have all : (allReadOnly p).xlat = { p.xlat with readOnlyAll := true } := (aenPfs_from ..).keeps.xlat rfl
  rw [all]
  exact ⟨noted, rfl⟩

/-- Between `s` and `t` ranges of lost mapping were left waiting for their publication. -/
def Rebuilt (s t : State) : Prop := ∃ l, t = { s with xlat := { s.xlat with unpublished := s.xlat.unpublished ++ l } } ∧ ∀ p ∈ l, p.cause = 6

theorem Rebuilt.refl (s : State) : Rebuilt s s := ⟨[], by rw [List.append_nil], fun p m => absurd m List.not_mem_nil⟩

theorem Rebuilt.trans {s t u : State} (h : Rebuilt s t) (k : Rebuilt t u) : Rebuilt s u := by
  obtain ⟨l, rfl, cause⟩ := h
  obtain ⟨m, rfl, cause'⟩ := k
  exact ⟨l ++ m, by rw [List.append_assoc], fun p mp => (List.mem_append.1 mp).elim (cause p) (cause' p)⟩

theorem Rebuilt.foldl {β : Type} {f : State → β → State} (hf : ∀ u b, Rebuilt u (f u b)) (l : List β) (s : State) : Rebuilt s (l.foldl f s) := by
  induction l generalizing s with
  | nil => exact .refl s
  | cons b l ih => exact (hf s b).trans (ih _)

theorem lossPend_rebuilt (s : State) (nsid slba nlb flags loc cove : Nat) : Rebuilt s (lossPend s nsid slba nlb 6 flags loc cove) :=
  ⟨_, rfl, fun p m => by rw [List.mem_singleton.1 m]⟩

theorem lossMapLost_rebuilt (s : State) : Rebuilt { s with xlat := { s.xlat with losses := [] } } (lossMapLost s) :=
  .foldl (fun u _ => .foldl (fun u _ => .foldl (fun u _ => lossPend_rebuilt u _ _ _ _ _ _) _ u) _ u) _ _

-- ===== garbage collection (R178) =====

/-- No relocation was registered or ended between `s` and `t`. -/
structure SameRelocs (s t : State) : Prop where
  relocs : t.xlat.relocs = s.xlat.relocs
  number : t.xlat.nextReloc = s.xlat.nextReloc

theorem SameRelocs.refl (s : State) : SameRelocs s s := ⟨rfl, rfl⟩

theorem SameRelocs.trans {s t u : State} (h : SameRelocs s t) (k : SameRelocs t u) : SameRelocs s u :=
  ⟨k.relocs.trans h.relocs, k.number.trans h.number⟩

theorem SameRelocs.of_xlat {s t : State} (h : t.xlat = s.xlat) : SameRelocs s t := ⟨congrArg Xlat.relocs h, congrArg Xlat.nextReloc h⟩

theorem SameRelocs.foldl {β : Type} {f : State → β → State} (hf : ∀ u b, SameRelocs u (f u b)) (l : List β) {s t : State} (h : SameRelocs s t) :
    SameRelocs s (l.foldl f t) := by
  induction l generalizing t with
  | nil => exact h
  | cons b l ih => exact ih (h.trans (hf t b))

theorem SameRelocs.foldl_fst {α β : Type} {f : State × α → β → State × α} (hf : ∀ p b, SameRelocs p.1 (f p b).1) (l : List β) (p : State × α) :
    SameRelocs p.1 (l.foldl f p).1 := by
  induction l generalizing p with
  | nil => exact .refl _
  | cons b l ih => exact (hf p b).trans (ih _)

theorem SameRelocs.foldl_snd {α β : Type} {f : α × State → β → α × State} (hf : ∀ p b, SameRelocs p.2 (f p b).2) (l : List β) (p : α × State) :
    SameRelocs p.2 (l.foldl f p).2 := by
  induction l generalizing p with
  | nil => exact .refl _
  | cons b l ih => exact (hf p b).trans (ih _)

theorem releaseStripe_sameRelocs (s : State) (id : Nat) : SameRelocs s (releaseStripe s id) := by
  unfold releaseStripe
  split
  next x _ =>
    have freed : SameRelocs s (x.blocks.foldl (fun s b => releaseBlock s b.1 b.2) s) := by
      refine SameRelocs.foldl (fun u b => ?_) _ (.refl s)
      exact .of_xlat rfl
    exact ⟨freed.relocs, freed.number⟩
  next => exact .refl s

theorem releaseEmpty_sameRelocs (s : State) (c : Nat) : SameRelocs s (releaseEmpty s c) :=
  .foldl (fun u _ => releaseStripe_sameRelocs u _) _ (.refl s)

theorem openStripe_sameRelocs {s t : State} {c id : Nat} (h : openStripe s c = some (id, t)) : SameRelocs s t := by
  unfold openStripe at h
  extract_lets d g at h
  clear_value g
  split at h
  · split at h
    · cases h
    · split at h
      next u bs taken =>
      obtain rfl := congrArg Prod.snd (Option.some.inj h)
      have blocks : SameRelocs s u := by
        rw [← show _ = u from congrArg Prod.fst taken]
        refine SameRelocs.foldl_fst (fun p b => ?_) _ (s, [])
        dsimp only
        split
        · exact .of_xlat rfl
        · exact .refl _
      exact ⟨blocks.relocs, blocks.number⟩
  · cases h

theorem placePage_sameRelocs {s t : State} {c bytes : Nat} {l : PLoc} (h : placePage s c bytes = some (l, t)) : SameRelocs s t := by
  unfold placePage at h
  extract_lets found at h
  have first : ∀ id x u, found = some (id, x, u) → SameRelocs s u := by
    intro id x u e
    dsimp only [found] at e
    split at e
    · cases e
      exact .refl _
    · obtain ⟨r, opened, had⟩ := Option.bind_eq_some_iff.1 e
      obtain ⟨y, -, same⟩ := Option.map_eq_some_iff.1 had
      cases same
      exact (releaseEmpty_sameRelocs s c).trans (openStripe_sameRelocs opened)
  clear_value found
  split at h
  · next id x u =>
    have placed := first id x u rfl
    have stored (m : Assoc Stripe) (n : Nat) : SameRelocs s { u with xlat := { u.xlat with stripes := m, closeSeq := n } } := ⟨placed.relocs, placed.number⟩
    dsimp only at h
    obtain rfl := congrArg Prod.snd (Option.some.inj h)
    dsimp only
    split
    · refine SameRelocs.foldl (fun u q => ?_) _ (stored _ _)
      exact .of_xlat rfl
    · exact stored _ _
  · cases h

theorem placeAll_sameRelocs (s : State) (c : Nat) (l : List (Nat × PLoc)) : SameRelocs s (placeAll s c l).2 := by
  refine SameRelocs.foldl_snd (fun p x => ?_) l ([], s)
  split
  next placed => exact placePage_sameRelocs placed
  next => exact .refl _

/-- The relocation of a stripe's first block is registered under the next number. -/
theorem gcCopy_registers {s : State} {c : Nat} {x : Stripe} (h : gcVictim s c = some x) : ∃ r, (gcCopy s c).xlat.relocs = s.xlat.relocs ++ [r] ∧ r.kind = .gc ∧
    (r.srcDie, r.srcBlock) = x.blocks.headD (0, 0) ∧ r.id = s.xlat.nextReloc := by
  unfold gcCopy
  rw [h]
  dsimp only
  obtain ⟨a, ha⟩ : ∃ a, ((s.xlat.pmap.filter (fun q => x.blocks.contains (q.2.die, q.2.block))).map (fun q =>
      mapPageOf s (q.1 / 2 ^ 64) (nsRec s (q.1 / 2 ^ 64)) (q.1 % 2 ^ 64))).eraseDups.foldl (fun s p =>
        if s.xlat.journal.contains p then pageLoaded s p else s) s = a :=
    ⟨_, rfl⟩
  have loaded : SameRelocs s a := by
    subst ha
    refine SameRelocs.foldl (fun u p => ?_) _ (.refl s)
    split
    · obtain ⟨-, -, relocs, number⟩ := pageLoaded_warm u p
      exact ⟨relocs, number⟩
    · exact .refl u
  rw [ha]
  have placed := loaded.trans (placeAll_sameRelocs a c (s.xlat.pmap.filter (fun q => x.blocks.contains (q.2.die, q.2.block))))
  obtain ⟨⟨moves, b⟩, hb⟩ : ∃ p, placeAll a c (s.xlat.pmap.filter (fun q => x.blocks.contains (q.2.die, q.2.block))) = p := ⟨_, rfl⟩
  rw [hb] at placed ⊢
  obtain ⟨d, hd⟩ : ∃ d, moves.foldl (fun s m => if wbHas s (m.1 / 2 ^ 64) (m.1 % 2 ^ 64) then wbMovePage s m.1 m.2.2 else s) b = d := ⟨_, rfl⟩
  have moved : SameRelocs s d := by
    subst hd
    refine SameRelocs.foldl (fun u m => ?_) _ placed
    split
    · exact ⟨rfl, rfl⟩
    · exact .refl u
  dsimp only
  rw [hd]
  exact ⟨_, congrArg (· ++ [_]) moved.relocs, rfl, rfl, moved.number⟩

-- ===== wear levelling and refresh (R181, R182) =====

theorem copyInto_sameRelocs (s : State) (id : Nat) (src dst : Nat × Nat) (cell : Nat) : SameRelocs s (copyInto s id src dst cell) := ⟨rfl, rfl⟩

/-- A block that can be relocated is, under the next number. -/
theorem startReloc_relocates {s : State} {k : RelocKind} {die b zk a p : Nat} {q : Nat × Nat} (h : Relocatable s k die b zk a p q) :
    let t := startReloc s k die b
    Relocates s t k die b zk a p q ∧ t.dict = s.dict := by
  obtain ⟨use, still, picked, room⟩ := h
  have single : ¬ (q.1 ≠ groupDie (coveDesc s (zoneAt s zk).cove) (zoneAt s zk).group p ∧ (!relocRoom s k (rkey zk a p)) = true) := by
    rintro ⟨away, full⟩
    rcases room with home | fits
    · exact away home
    · rw [fits] at full
      exact absurd full (by decide)
  have run : startReloc s k die b =
      copyInto (addReloc s k die b (.alloc zk a p q.1 q.2)) s.xlat.nextReloc (die, b) (q.1, q.2) (blockAt s die b).cell := by
    simp only [startReloc, still, use, picked, single, Bool.false_eq_true, if_false]
  have same := copyInto_sameRelocs (addReloc s k die b (.alloc zk a p q.1 q.2)) s.xlat.nextReloc (die, b) (q.1, q.2) (blockAt s die b).cell
  have dict := (copyInto_from (s := addReloc s k die b (.alloc zk a p q.1 q.2)) s.xlat.nextReloc (die, b) (q.1, q.2) (blockAt s die b).cell).keeps.dict rfl
  rw [run]
  exact ⟨⟨same.relocs, same.number⟩, dict⟩

theorem refresh_relocates {s : State} {die b zk a p : Nat} {q : Nat × Nat} (up : dieUp s die = true) (calm : backgroundHeld s = false)
    (next : refreshNext s die = some b) (h : Relocatable s .refresh die b zk a p q) :
    Relocates s (refresh s die) .refresh die b zk a p q ∧ v (refresh s die) K.refreshRewrites = satAdd 64 (v s K.refreshRewrites) 1 := by
  obtain ⟨⟨relocs, number⟩, dict⟩ := startReloc_relocates h
  have began : ¬ (startReloc s .refresh die b).xlat.nextReloc = s.xlat.nextReloc := by omega
  have run : refresh s die = bump64 (startReloc s .refresh die b) K.refreshRewrites := by
    simp only [refresh, up, calm, next, began, Bool.not_true, Bool.or_self, Bool.false_eq_true, if_false]
  rw [run]
  refine ⟨⟨relocs, number⟩, (v_setV_self ..).trans ?_⟩
  rw [v_of_dict dict]

theorem wearLevelling_relocates {s : State} {die lo b zk a p : Nat} {es : List Nat} {q : Nat × Nat} (up : dieUp s die = true) (calm : backgroundHeld s = false)
    (counts : es = ((List.range (slotOf s die).blocks).filter (fun b => !(blockAt s die b).bad && !(reservedBlocks s die).contains b)).map
      (fun b => (blockAt s die b).erases)) (low : lo = es.foldl Nat.min (maxNat es)) (spread : lo + v s K.wearSpread < maxNat es)
    (next : firstBy ((userBlocks s die).filter (fun x => x.2.erases == lo)) (fun a b => a.progTime < b.progTime) = some b)
    (h : Relocatable s .wear die b zk a p q) :
    Relocates s (wearLevelling s die) .wear die b zk a p q ∧ v (wearLevelling s die) K.relocations = satAdd 64 (v s K.relocations) 1 := by
  obtain ⟨⟨relocs, number⟩, dict⟩ := startReloc_relocates h
  have began : ¬ (startReloc s .wear die b).xlat.nextReloc = s.xlat.nextReloc := by omega
  have worn : ¬ ((!dieUp s die) = true ∨ backgroundHeld s = true ∨ maxNat es ≤ lo + v s K.wearSpread) := by
    rw [up, calm]
    rintro (down | held | even)
    · exact absurd down (by decide)
    · exact absurd held (by decide)
    · omega
  have run : wearLevelling s die = bump64 (startReloc s .wear die b) K.relocations := by
    unfold wearLevelling
    dsimp only
    rw [← counts, ← low, if_neg worn, next]
    exact if_neg began
  rw [run]
  refine ⟨⟨relocs, number⟩, (v_setV_self ..).trans ?_⟩
  rw [v_of_dict dict]

-- ===== the switch (R178 to R182) =====

theorem blockAt_modBlock_self (s : State) (die block : Nat) (f : PBlock → PBlock) : blockAt (modBlock s die block f) die block = f (blockAt s die block) := by
  rw [blockAt, modBlock, getD_put, if_pos rfl]

theorem blockAt_modBlock_ne (s : State) {die block d b : Nat} (f : PBlock → PBlock) (h : bkey d b ≠ bkey die block) :
    blockAt (modBlock s die block f) d b = blockAt s d b := by
  rw [blockAt, modBlock, getD_put, if_neg h, blockAt]

theorem bkey_ne {d b die block : Nat} (low : b < 32768) (low' : block < 32768) (h : (d, b) ≠ (die, block)) : bkey d b ≠ bkey die block := by
  unfold bkey
  intro same
  refine h (Prod.ext ?_ ?_) <;> dsimp only <;> omega

theorem releasePassed_relocs (s : State) : (releasePassed s).xlat.relocs = s.xlat.relocs := by
  unfold releasePassed
  extract_lets all w x a n b
  have mirrored : a.xlat.relocs = s.xlat.relocs := by
    show (mirrorReleases _ _).xlat.relocs = _
    rw [(mirrorReleases_from ..).keeps.xlat rfl]
  clear_value a
  split
  · exact mirrored
  · exact mirrored

theorem releasePassed_blocks (s : State) : (releasePassed s).nand.blocks = s.nand.blocks := by
  unfold releasePassed
  extract_lets all w x a n b
  have mirrored : a.nand.blocks = s.nand.blocks := by
    show (mirrorReleases _ _).nand.blocks = _
    rw [(mirrorReleases_from ..).keeps.nand rfl]
  clear_value a
  split
  · exact mirrored
  · exact mirrored

/-- A zone's block is replaced by the destination of its relocation, and the source released. -/
theorem relocationSwitch_replaces {s : State} {id zk k p d b : Nat} {r : Reloc} (found : s.xlat.relocs.find? (fun r => r.id == id) = some r)
    (target : r.target = .alloc zk k p d b) (good : (blockAt s r.srcDie r.srcBlock).failed = false) (low : b < 32768) (low' : r.srcBlock < 32768)
    (apart : (d, b) ≠ (r.srcDie, r.srcBlock)) : let u := relocationSwitch s id
    (∀ x ∈ u.xlat.relocs, x.id ≠ id) ∧ (blockAt u d b).use = .zone zk k p ∧ (blockAt u r.srcDie r.srcBlock).use = .free ∧
      (blockAt u r.srcDie r.srcBlock).stale = true := by
  obtain ⟨a, ha⟩ : ∃ a : State, a = { s with xlat := { s.xlat with relocs := s.xlat.relocs.filter (fun x => x.id != id) } } := ⟨_, rfl⟩
  obtain ⟨t, ht⟩ : ∃ t, takesPlace a (r.srcDie, r.srcBlock) (d, b) zk k p = t := ⟨_, rfl⟩
  have gone : ∀ x ∈ t.xlat.relocs, x.id ≠ id := by
    subst ht ha
    exact fun x m => bne_iff_ne.1 (List.mem_filter.1 m).2
  have other : bkey r.srcDie r.srcBlock ≠ bkey d b := (bkey_ne low low' apart).symm
  have placed : (blockAt t d b).use = .zone zk k p ∧ (blockAt t r.srcDie r.srcBlock).failed = false := by
    subst ht ha
    unfold takesPlace
    rw [blockAt_modBlock_self, blockAt_modBlock_ne _ _ other]
    exact ⟨rfl, good⟩
  obtain ⟨m, hm, relocs, blocks⟩ : ∃ m, relocationSwitch s id = releasePassed (sourceDone m r.srcDie r.srcBlock) ∧
      m.xlat.relocs = t.xlat.relocs ∧ m.nand = t.nand := by
    unfold relocationSwitch
    simp only [found, target]
    rw [← ha, ht]
    refine ⟨_, rfl, ?_, ?_⟩ <;> split <;> rfl
  have source : sourceDone m r.srcDie r.srcBlock = releaseBlock m r.srcDie r.srcBlock := by
    refine if_neg ?_
    rw [blockAt, blocks]
    exact fun bad => absurd (placed.2.symm.trans bad) Bool.false_ne_true
  obtain ⟨w, hw⟩ : ∃ w, releaseBlock m r.srcDie r.srcBlock = w := ⟨_, rfl⟩
  have freed : (blockAt w d b).use = .zone zk k p ∧ (blockAt w r.srcDie r.srcBlock).use = .free ∧ (blockAt w r.srcDie r.srcBlock).stale = true := by
    subst hw
    unfold releaseBlock
    rw [blockAt_modBlock_self, blockAt_modBlock_ne _ _ other.symm, blockAt, blocks]
    exact ⟨placed.1, rfl, rfl⟩
  have left : ∀ x ∈ w.xlat.relocs, x.id ≠ id := by
    subst hw
    intro x mx
    exact gone x (relocs ▸ mx)
  have same (die block : Nat) : blockAt (releasePassed w) die block = blockAt w die block := by rw [blockAt, releasePassed_blocks, blockAt]
  rw [hm, source, hw]
  refine ⟨?_, ?_⟩
  · rw [releasePassed_relocs]
    exact left
  · rw [same, same]
    exact freed

/-- Settles O32: what each command leaves of the mapping, of the discovered losses and of the relocations is one lemma above. -/
theorem mapAndReclaim : Obligations.map_and_reclaim := by
  intro s
  refine ⟨fun nsid page a b own low cold => ⟨_, rfl, mapMiss_loads own low cold a b⟩, fun page which first => ?_, ?_,
    fun c bounded => ⟨_, rfl, ?_⟩, rfl, fun c x kind calm few victim => ?_, fun c enough => ?_,
    fun die b zk a p q up calm next h => ⟨_, rfl, refresh_relocates up calm next h⟩,
    fun die es lo b zk a p q up calm counts low spread next h => ⟨_, rfl, wearLevelling_relocates up calm counts low spread next h⟩,
    fun id r zk k p d b found kind target good low low' apart => ?_, fun id none' => ?_⟩
  · have run : mapMiss s 0xFFFFFFFF page false false = metadataLost s page := if_pos which
    exact ⟨_, next_congr (congrArg settle run), metadataLost_effect page first⟩
  · obtain ⟨l, run, cause⟩ := lossMapLost_rebuilt s
    have read : mapMiss s 0xFFFFFFFF 3 false false = lossMapLost s := rfl
    exact ⟨_, next_congr (congrArg settle (read.trans run)), rfl, rfl, rfl, rfl, rfl, l, rfl, cause⟩
  · unfold mapPinLoad
    rw [if_pos bounded]
    dsimp only
    rw [boundOf, modBound, getD_put, if_pos rfl]
  · obtain ⟨r, effect⟩ := gcCopy_registers victim
    have run : gcStart s c = gcCopy s c := by
      unfold gcStart
      rw [calm]
      exact if_pos ⟨kind, rfl, few⟩
    exact ⟨_, r, next_congr (congrArg settle run), effect⟩
  · have run : gcStart s c = s := if_neg fun low => absurd low.2.2 (Nat.not_lt.2 enough)
    exact next_congr (congrArg settle run)
  · have run : switchAndGo s id = relocationSwitch s id := by
      have other : (r.kind == .gc) = false := beq_eq_false_iff_ne.2 kind
      simp only [switchAndGo, found, other, Bool.false_and, Bool.false_eq_true, if_false]
    exact ⟨_, next_congr (congrArg settle run), relocationSwitch_replaces found target good low low' apart⟩
  · have run : switchAndGo s id = s := by
      unfold switchAndGo
      rw [none']
    exact next_congr (congrArg settle run)

end Sys2Proof.Reclaim

/-! I/O commands that arrive: they wait, are fetched once, and fail for a namespace that is not their controller's (R105, R122, R125). -/
namespace Sys2Proof.Arrivals
open Sys2Proof Sys2Proof.Machine Sys2Proof.Effects

-- ===== a command in flight =====

theorem flightOf_found {s : State} {c : Cmd} {f : Flight} (h : flight? s c.fn c.sqid c.cid = some f) : flightOf s c = f := by
  rw [flightOf, h]

/-- What changes a command in flight, and not its identifiers, leaves it where it is found. -/
theorem flight?_modFlight (s : State) (seq : Nat) {g : Flight → Flight} (ids : ∀ f, (g f).fn = f.fn ∧ (g f).sqid = f.sqid ∧ (g f).cid = f.cid)
    (fn sqid cid : Nat) : flight? (modFlight s seq g) fn sqid cid = (flight? s fn sqid cid).map (fun x => if x.seq = seq then g x else x) := by
  have same (f : Flight) : (if f.seq = seq then g f else f).fn = f.fn ∧ (if f.seq = seq then g f else f).sqid = f.sqid ∧
      (if f.seq = seq then g f else f).cid = f.cid := by
    split
    · exact ids f
    · exact ⟨rfl, rfl, rfl⟩
  unfold flight? modFlight
  dsimp only
  rw [List.find?_map]
  congr 2
  funext f
  obtain ⟨a, b, d⟩ := same f
  dsimp only [Function.comp]
  rw [a, b, d]

theorem ensure_found {s : State} {c : Cmd} {f : Flight} (h : flight? s c.fn c.sqid c.cid = some f) (op slba nlb : Nat) : ensure s c op slba nlb = s := by
  rw [ensure, h]

/-- A command that is not in flight is fetched. -/
theorem ensure_finds {s : State} {c : Cmd} (h : flight? s c.fn c.sqid c.cid = none) (op slba nlb : Nat) :
    (flight? (ensure s c op slba nlb) c.fn c.sqid c.cid).isSome = true := by
  unfold ensure
  rw [h]
  dsimp only
  obtain ⟨u, hu⟩ : ∃ u, fetchNow s c.fn c.sqid false ⟨c.cid, op, c.nsid, slba, nlb, 0, false⟩ = u := ⟨_, rfl⟩
  have found : (flight? u c.fn c.sqid c.cid).isSome = true := by
    subst hu
    refine List.find?_isSome.2 ⟨_, List.mem_append_right _ List.mem_cons_self, ?_⟩
    simp only [beq_self_eq_true, Bool.and_self]
  rw [hu]
  have kept := flight?_modFlight u (u.eng.nextSeq - 1) (g := fun f => { f with stage := .fetched }) (fun f => ⟨rfl, rfl, rfl⟩) c.fn c.sqid c.cid
  rw [kept, Option.isSome_map]
  exact found

-- ===== commands that wait =====

/-- Between `s` and `t` a command joined those in flight or was held back: the commands that wait are as they were, and no data. -/
structure Waits (s t : State) : Prop where
  rest : t = { s with dict := t.dict, trace := t.trace, flights := t.flights, eng := t.eng }
  held : t.eng.held = s.eng.held

theorem Waits.trans {s t u : State} (h : Waits s t) (k : Waits t u) : Waits s u := by
  refine ⟨?_, k.held.trans h.held⟩
  have last := k.rest
  rw [h.rest] at last
  exact last

theorem ensure_waits (s : State) (c : Cmd) (op slba nlb : Nat) : Waits s (ensure s c op slba nlb) := by
  refine ⟨(ensure_from (s := s) c op slba nlb).keeps, ?_⟩
  unfold ensure
  split
  · rfl
  · unfold fetchNow
    extract_lets need fit f short a b d
    have first : a.eng = s.eng := by
      refine Resets.foldl_keep (fun u => u.eng) (fun u i => ?_) short s
      rfl
    have second : b.eng = a.eng := (traceItem_from ..).keeps.eng rfl
    show b.eng.held = _
    rw [second, first]

theorem modFlight_waits (s : State) (seq : Nat) (g : Flight → Flight) : Waits s (modFlight s seq g) := ⟨rfl, rfl⟩

theorem setArgs_waits (s : State) (c : Cmd) (slba nlb : Nat) (fua ordered : Bool) (pi : PiArgs) (cmp : List Block) :
    Waits s (setArgs s c slba nlb fua ordered pi cmp) := modFlight_waits ..

theorem countWait_waits (s : State) (f : Flight) (kind key : Nat) : Waits s (countWait s f kind key) := by
  unfold countWait
  split <;> exact ⟨rfl, rfl⟩

theorem writeHolds_waits (s : State) (f : Flight) (lba bytes : Nat) : Waits s (writeHolds s f lba bytes).2 := by
  unfold writeHolds
  dsimp only
  split
  · exact ⟨rfl, rfl⟩
  · split
    · exact countWait_waits ..
    · split
      · exact countWait_waits ..
      · exact ⟨rfl, rfl⟩

theorem writeHolds_free {s : State} {f : Flight} {lba bytes : Nat} (h : (writeHolds s f lba bytes).1 = false) : (writeHolds s f lba bytes).2 = s := by
  unfold writeHolds at h ⊢
  dsimp only at h ⊢
  split at h
  · cases h
  next begins =>
    rw [if_neg begins]
    split at h
    · cases h
    next collects =>
      rw [if_neg collects]
      split at h
      · cases h
      next risks => rw [if_neg risks]

-- ===== commands of a namespace that is not their controller's =====

/-- The command is in flight, no half of a fused pair, and its namespace was not attached to its controller when it was fetched. -/
def Outside (s : State) (c : Cmd) : Prop := ∃ f, flight? s c.fn c.sqid c.cid = some f ∧ f.fuse = 0 ∧ f.nsOk = false

theorem Outside.modFlight {s : State} {c : Cmd} (h : Outside s c) (seq : Nat) {g : Flight → Flight}
    (same : ∀ x : Flight, (g x).fn = x.fn ∧ (g x).sqid = x.sqid ∧ (g x).cid = x.cid ∧ (g x).fuse = x.fuse ∧ (g x).nsOk = x.nsOk) :
    Outside (modFlight s seq g) c := by
  obtain ⟨f, found, fuse, ok⟩ := h
  refine ⟨_, (flight?_modFlight s seq (fun x => ⟨(same x).1, (same x).2.1, (same x).2.2.1⟩) _ _ _).trans (congrArg _ found), ?_⟩
  obtain ⟨-, -, -, fuse', ok'⟩ := same f
  dsimp only
  split
  · exact ⟨fuse'.trans fuse, ok'.trans ok⟩
  · exact ⟨fuse, ok⟩

theorem Outside.setArgs {s : State} {c : Cmd} (h : Outside s c) (slba nlb : Nat) (fua ordered : Bool) (pi : PiArgs) (cmp : List Block) :
    Outside (setArgs s c slba nlb fua ordered pi cmp) c := h.modFlight _ fun _ => ⟨rfl, rfl, rfl, rfl, rfl⟩

theorem Outside.ensure {s : State} {c : Cmd} (h : Outside s c) (op slba nlb : Nat) : Machine.ensure s c op slba nlb = s := by
  obtain ⟨f, found, -⟩ := h
  exact ensure_found found op slba nlb

/-- From `s` to `t` the command completed with Invalid Namespace or Format. -/
def Fails (s : State) (c : Cmd) (t : State) : Prop :=
  ∃ w f, Waits s w ∧ t = completeFlight w f .invalidNsOrFormat 0 0 ∧ f.fn = c.fn ∧ f.sqid = c.sqid ∧ f.cid = c.cid

theorem Fails.of_waits {s w t : State} {c : Cmd} (h : Waits s w) (k : Fails w c t) : Fails s c t := by
  obtain ⟨x, f, wait, run, ids⟩ := k
  exact ⟨x, f, h.trans wait, run, ids⟩

theorem completeFlight_completed (s : State) {f : Flight} {c : Cmd} (st : NvStatus) (dw0 dw1 : Nat) (fn : f.fn = c.fn)
    (sqid : f.sqid = c.sqid) (cid : f.cid = c.cid) :
    Completed (completeFlight s f st dw0 dw1) c st := by
  refine ⟨⟨f.sqid, f.cid, st, dw0, dw1, 0⟩, ?_, sqid, cid, rfl⟩
  rw [completeFlight, completeRetry_lastCqe, fn]
  exact Assoc.get?_put_self ..

theorem Fails.completed {s t : State} {c : Cmd} (h : Fails s c t) :
    Completed t c .invalidNsOrFormat ∧ t.blocks = s.blocks ∧ t.zones = s.zones ∧ t.nss = s.nss := by
  obtain ⟨w, f, wait, rfl, fn, sqid, cid⟩ := h
  have keeps := (completeFlight_from (s := w) f .invalidNsOrFormat 0 0).keeps
  refine ⟨completeFlight_completed w _ 0 0 fn sqid cid, ?_, ?_, ?_⟩
  · rw [keeps.blocks rfl, wait.rest]
  · rw [keeps.zones rfl, wait.rest]
  · rw [keeps.nss rfl, wait.rest]

theorem ioStatus_outside {f : Flight} (h : f.nsOk = false) (s : State) (resv conv zoned : Bool) : ioStatus s f resv conv zoned = .invalidNsOrFormat := by
  unfold ioStatus
  rw [h]
  rfl

theorem writeStatus_outside {f : Flight} (h : f.nsOk = false) (s : State) (resv conv zoned limit : Bool) (slba nlb : Nat) :
    writeStatus s f resv conv zoned limit slba nlb = .invalidNsOrFormat := by
  unfold writeStatus
  dsimp only
  rw [ioStatus_outside h]
  rfl

theorem readStatus_outside {f : Flight} (h : f.nsOk = false) (s : State) (resv limit : Bool) (slba nlb : Nat) :
    readStatus s f resv limit slba nlb = .invalidNsOrFormat := by
  unfold readStatus
  dsimp only
  rw [ioStatus_outside h]
  rfl

theorem actStatus_outside {f : Flight} (h : f.nsOk = false) (s : State) (resv : Bool) (slba : Nat) (all : Bool) :
    actStatus s f resv slba all = .invalidNsOrFormat := by
  unfold actStatus
  dsimp only
  rw [ioStatus_outside h]

theorem barrierCounted_waits (s : State) (f : Flight) : Waits s (barrierCounted s f) := by
  unfold barrierCounted
  split <;> exact ⟨rfl, rfl⟩

section Outsiders
variable {s : State} {c : Cmd} (h : Outside s c)
include h

theorem Outside.fails {w t : State} (wait : Waits s w) (run : t = completeFlight w (flightOf s c) .invalidNsOrFormat 0 0) : Fails s c t := by
  obtain ⟨f, found, -⟩ := h
  obtain ⟨fn, sqid, cid, -⟩ := flight?_ids found
  rw [flightOf_found found] at run
  exact ⟨w, f, wait, run, fn, sqid, cid⟩

theorem Outside.nsOk : (flightOf s c).nsOk = false ∧ (flightOf s c).fuse = 0 := by
  obtain ⟨f, found, fuse, ok⟩ := h
  rw [flightOf_found found]
  exact ⟨ok, fuse⟩

theorem beginWrite_fails (resv append limit : Bool) (slba : Nat) (bs : List Block) (dtype dspec : Nat) :
    Fails s c (beginWrite s (flightOf s c) resv append limit slba bs dtype dspec) := by
  obtain ⟨ok, fuse⟩ := h.nsOk
  refine h.fails (barrierCounted_waits s (flightOf s c)) ?_
  have alone : fuseStatus (flightOf s c) = .success := by
    unfold fuseStatus
    rw [fuse]
    rfl
  unfold beginWrite
  dsimp only
  rw [alone, writeStatus_outside ok]
  rfl

theorem beginClear_fails (resv : Bool) (clears : List (Nat × Nat)) (dtype dspec : Nat) : Fails s c (beginClear s (flightOf s c) resv clears dtype dspec) := by
  refine h.fails ⟨rfl, rfl⟩ ?_
  unfold beginClear
  dsimp only
  rw [writeStatus_outside h.nsOk.1]
  rfl

theorem beginRead_fails (resv limit : Bool) (slba nlb : Nat) : Fails s c (beginRead s (flightOf s c) resv limit slba nlb) := by
  refine h.fails (barrierCounted_waits s (flightOf s c)) ?_
  unfold beginRead
  dsimp only
  rw [readStatus_outside h.nsOk.1]
  rfl

theorem zoneActNow_fails (a : ZAction) (slba : Nat) (all : Bool) : Fails s c (zoneActNow s c a slba all) := by
  refine h.fails ⟨rfl, rfl⟩ ?_
  unfold zoneActNow
  dsimp only
  rw [h.ensure, actStatus_outside h.nsOk.1]

theorem zoneActLater_fails (a : ZAction) (slba : Nat) (all : Bool) : Fails s c (zoneActLater s c a slba all) := by
  refine h.fails ⟨rfl, rfl⟩ ?_
  unfold zoneActLater
  dsimp only
  rw [h.ensure, actStatus_outside h.nsOk.1]

end Outsiders

-- ===== each command's attempt to begin =====

/-- What an attempt to begin leaves where the command must wait, and where its namespace is not its controller's. -/
structure Attempt (s : State) (c : Cmd) (p : Bool × State) : Prop where
  waits : p.1 = true → Waits s p.2
  fails : Outside s c → p.1 = false → Fails s c p.2

theorem Attempt.wait {s t : State} {c : Cmd} (h : Waits s t) : Attempt s c (true, t) := ⟨fun _ => h, fun _ off => Bool.noConfusion off⟩

theorem Attempt.begin {s t : State} {c : Cmd} (h : Outside s c → Fails s c t) : Attempt s c (false, t) := ⟨fun on => Bool.noConfusion on, fun out _ => h out⟩

theorem tryWrite_attempt (s : State) (c : Cmd) (append : Bool) (slba : Nat) (bs : List Block) (fua ordered : Bool) (dtype dspec : Nat) (pi : PiArgs) :
    Attempt s c (tryWrite s c append slba bs fua ordered dtype dspec pi) := by
  unfold tryWrite
  extract_lets b f
  have arrived : Waits s b := (ensure_waits ..).trans (setArgs_waits ..)
  have outside : Outside s c → Outside b c := fun h => by
    show Outside (setArgs (ensure s c _ slba bs.length) c slba bs.length fua ordered pi []) c
    rw [h.ensure]
    exact h.setArgs ..
  clear_value b
  have holds := writeHolds_waits b f slba (bs.length * (nsRec b f.nsid).blk)
  have free : (writeHolds b f slba (bs.length * (nsRec b f.nsid).blk)).1 = false → _ := writeHolds_free
  clear_value f
  split
  next hold t held =>
    rw [held] at holds free
    split
    · exact .wait (arrived.trans holds)
    next go =>
      refine .begin fun h => ?_
      obtain rfl : t = b := free (Bool.not_eq_true _ ▸ go)
      exact (beginWrite_fails (outside h) ..).of_waits arrived

theorem tryZeroes_attempt (s : State) (c : Cmd) (slba nlb : Nat) (deac : Bool) (dtype dspec : Nat) : Attempt s c (tryZeroes s c slba nlb deac dtype dspec) := by
  unfold tryZeroes
  extract_lets b f n
  have arrived : Waits s b := (ensure_waits ..).trans (setArgs_waits ..)
  have outside : Outside s c → Outside b c := fun h => by
    show Outside (setArgs (ensure s c 0x08 slba nlb) c slba nlb false false noPi []) c
    rw [h.ensure]
    exact h.setArgs ..
  clear_value b
  have holds := writeHolds_waits b f slba (nlb * n.blk)
  have free : (writeHolds b f slba (nlb * n.blk)).1 = false → _ := writeHolds_free
  clear_value f n
  split
  next hold t held =>
    rw [held] at holds free
    dsimp only
    split
    · exact .wait (arrived.trans holds)
    next go =>
      obtain rfl : t = b := free (Bool.not_eq_true _ ▸ go)
      split
      · exact .begin fun h => (beginClear_fails (outside h) ..).of_waits arrived
      · exact .begin fun h => (beginWrite_fails (outside h) ..).of_waits arrived

theorem tryClear_attempt (s : State) (c : Cmd) (opcode slba nlb : Nat) (clears : List (Nat × Nat)) (ad : Bool) :
    Attempt s c (tryClear s c opcode slba nlb clears ad) := by
  unfold tryClear
  extract_lets a b f
  have arrived : Waits s b := ((ensure_waits ..).trans (setArgs_waits ..)).trans (modFlight_waits ..)
  have outside : Outside s c → Outside b c := fun h => by
    have named : Outside a c := by
      show Outside (setArgs (ensure s c opcode slba nlb) c slba nlb false false noPi []) c
      rw [h.ensure]
      exact h.setArgs ..
    exact named.modFlight _ fun _ => ⟨rfl, rfl, rfl, rfl, rfl⟩
  clear_value b
  have holds := writeHolds_waits b f slba 0
  have free : (writeHolds b f slba 0).1 = false → _ := writeHolds_free
  clear_value f
  split
  next hold t held =>
    rw [held] at holds free
    dsimp only
    split
    · exact .wait (arrived.trans holds)
    next go =>
      obtain rfl : t = b := free (Bool.not_eq_true _ ▸ go)
      split
      · split
        next good => exact .begin fun h => absurd ((ioStatus_outside (outside h).nsOk.1 ..).symm.trans good) (by decide)
        next =>
          refine .begin fun h => ?_
          rw [ioStatus_outside (outside h).nsOk.1]
          exact ((outside h).fails ⟨rfl, rfl⟩ rfl).of_waits arrived
      · exact .begin fun h => (beginClear_fails (outside h) ..).of_waits arrived

theorem tryRead_attempt (s : State) (c : Cmd) (opcode slba nlb : Nat) (fua ordered : Bool) (pi : PiArgs) (cmp : List Block) :
    Attempt s c (tryRead s c opcode slba nlb fua ordered pi cmp) := by
  unfold tryRead
  extract_lets b f
  have arrived : Waits s b := (ensure_waits ..).trans (setArgs_waits ..)
  have outside : Outside s c → Outside b c := fun h => by
    show Outside (setArgs (ensure s c opcode slba nlb) c slba nlb fua ordered pi cmp) c
    rw [h.ensure]
    exact h.setArgs ..
  clear_value b
  split
  · exact .wait arrived
  · split
    next half =>
      split
      · exact .begin fun h => absurd ((outside h).nsOk.2.symm.trans half.1) (by decide)
      · exact .wait arrived
    · split
      next half =>
        refine .begin fun h => ?_
        have alone := (outside h).nsOk.2
        rcases half with second | ⟨first, -⟩
        · exact absurd (alone.symm.trans second) (by decide)
        · exact absurd (alone.symm.trans first) (by decide)
      · exact .begin fun h => (beginRead_fails (outside h) ..).of_waits arrived

theorem tryFlush_attempt (s : State) (c : Cmd) : Attempt s c (tryFlush s c) := by
  unfold tryFlush
  extract_lets b f n zs
  have arrived : Waits s b := ensure_waits ..
  have outside : Outside s c → Outside b c := fun h => by
    show Outside (ensure s c 0 0 0) c
    rw [h.ensure]
    exact h
  clear_value b
  split
  · exact .wait arrived
  · split
    next good => exact .begin fun h => absurd ((ioStatus_outside (outside h).nsOk.1 ..).symm.trans good) (by decide)
    next =>
      refine .begin fun h => ?_
      rw [ioStatus_outside (outside h).nsOk.1]
      exact ((outside h).fails ⟨rfl, rfl⟩ rfl).of_waits arrived

theorem tryAct_attempt (s : State) (c : Cmd) (a : ZAction) (slba : Nat) (all : Bool) : Attempt s c (tryAct s c a slba all) := by
  unfold tryAct
  extract_lets b
  have arrived : Waits s b := (ensure_waits ..).trans (modFlight_waits ..)
  have outside : Outside s c → Outside b c := fun h => by
    show Outside (modFlight (ensure s c 0x79 slba 0) _ _) c
    rw [h.ensure]
    exact h.modFlight _ fun _ => ⟨rfl, rfl, rfl, rfl, rfl⟩
  clear_value b
  split
  · exact .wait arrived
  · match a with
    | .finish => exact .begin fun h => (zoneActLater_fails (outside h) ..).of_waits arrived
    | .reset => exact .begin fun h => (zoneActLater_fails (outside h) ..).of_waits arrived
    | .open => exact .begin fun h => (zoneActNow_fails (outside h) ..).of_waits arrived
    | .close => exact .begin fun h => (zoneActNow_fails (outside h) ..).of_waits arrived
    | .offline => exact .begin fun h => (zoneActNow_fails (outside h) ..).of_waits arrived

/-- Fetching a command twice fetches it once. -/
theorem ensure_twice (s : State) (c : Cmd) (op slba nlb : Nat) : ensure (ensure s c op slba nlb) c op slba nlb = ensure s c op slba nlb := by
  cases h : flight? s c.fn c.sqid c.cid with
  | some f => rw [ensure_found h, ensure_found h]
  | none =>
    obtain ⟨f, found⟩ := Option.isSome_iff_exists.1 (ensure_finds h op slba nlb)
    exact ensure_found found op slba nlb

/-- An attempt acts as it does once its command has been fetched. -/
def FetchedOnce (s : State) (i : Instr) (c : Cmd) : Prop := ∃ op slba nlb, tryBegin (ensure s c op slba nlb) i = tryBegin s i

theorem read_fetchedOnce (s : State) (c : Cmd) (opcode slba nlb : Nat) (fua ordered : Bool) (pi : PiArgs) (cmp : List Block) :
    tryRead (ensure s c opcode slba nlb) c opcode slba nlb fua ordered pi cmp = tryRead s c opcode slba nlb fua ordered pi cmp := by
  unfold tryRead
  rw [ensure_twice]

theorem clear_fetchedOnce (s : State) (c : Cmd) (opcode slba nlb : Nat) (clears : List (Nat × Nat)) (ad : Bool) :
    tryClear (ensure s c opcode slba nlb) c opcode slba nlb clears ad = tryClear s c opcode slba nlb clears ad := by
  unfold tryClear
  rw [ensure_twice]

theorem write_fetchedOnce (s : State) (c : Cmd) (append : Bool) (slba : Nat) (bs : List Block) (fua ordered : Bool) (dtype dspec : Nat) (pi : PiArgs) :
    tryWrite (ensure s c (if append then 0x7D else 0x01) slba bs.length) c append slba bs fua ordered dtype dspec pi =
      tryWrite s c append slba bs fua ordered dtype dspec pi := by
  unfold tryWrite
  rw [ensure_twice]

theorem zeroes_fetchedOnce (s : State) (c : Cmd) (slba nlb : Nat) (deac : Bool) (dtype dspec : Nat) :
    tryZeroes (ensure s c 0x08 slba nlb) c slba nlb deac dtype dspec = tryZeroes s c slba nlb deac dtype dspec := by
  unfold tryZeroes
  rw [ensure_twice]

theorem act_fetchedOnce (s : State) (c : Cmd) (a : ZAction) (slba : Nat) (all : Bool) :
    tryAct (ensure s c 0x79 slba 0) c a slba all = tryAct s c a slba all := by
  unfold tryAct
  rw [ensure_twice]

theorem flush_fetchedOnce (s : State) (c : Cmd) : tryFlush (ensure s c 0x00 0 0) c = tryFlush s c := by
  unfold tryFlush
  rw [ensure_twice]

/-- An I/O command arrives as an attempt to begin. -/
theorem ioCmd_arrives {i : Instr} {c : Cmd} (h : ioCmd i = some c) (s : State) :
    exec i s = .next (ioArrive s i) ∧ Attempt s c (tryBegin s i) ∧ FetchedOnce s i c := by
  unfold ioCmd at h
  split at h
  · cases h
    exact ⟨rfl, tryWrite_attempt .., _, _, _, write_fetchedOnce s c false ..⟩
  · cases h
    exact ⟨rfl, tryWrite_attempt .., _, _, _, write_fetchedOnce s c true ..⟩
  · cases h
    exact ⟨rfl, tryZeroes_attempt .., _, _, _, zeroes_fetchedOnce ..⟩
  · cases h
    exact ⟨rfl, tryClear_attempt .., _, _, _, clear_fetchedOnce ..⟩
  · cases h
    exact ⟨rfl, tryClear_attempt .., _, _, _, clear_fetchedOnce ..⟩
  · cases h
    exact ⟨rfl, tryRead_attempt .., _, _, _, read_fetchedOnce ..⟩
  · cases h
    exact ⟨rfl, tryRead_attempt .., _, _, _, read_fetchedOnce ..⟩
  · cases h
    exact ⟨rfl, tryRead_attempt .., _, _, _, read_fetchedOnce ..⟩
  · cases h
    exact ⟨rfl, tryFlush_attempt .., _, _, _, flush_fetchedOnce ..⟩
  · cases h
    exact ⟨rfl, tryAct_attempt s c .open .., _, _, _, act_fetchedOnce s c .open ..⟩
  · cases h
    exact ⟨rfl, tryAct_attempt s c .close .., _, _, _, act_fetchedOnce s c .close ..⟩
  · cases h
    exact ⟨rfl, tryAct_attempt s c .finish .., _, _, _, act_fetchedOnce s c .finish ..⟩
  · cases h
    exact ⟨rfl, tryAct_attempt s c .reset .., _, _, _, act_fetchedOnce s c .reset ..⟩
  · cases h
    exact ⟨rfl, tryAct_attempt s c .offline .., _, _, _, act_fetchedOnce s c .offline ..⟩
  · cases h

/-- Settles O25: an I/O command arrives as an attempt to begin, and each attempt holds it back, or checks its namespace first. -/
theorem ioCommandsWait : Obligations.io_commands_wait := by
  intro s i c io
  obtain ⟨run, attempt, op, slba, nlb, once⟩ := ioCmd_arrives io s
  refine ⟨fun held => ?_, fun none' => ⟨op, slba, nlb, ?_, ensure_finds none' op slba nlb⟩, fun f found alone outside begins => ?_⟩
  · obtain ⟨rest, same⟩ := attempt.waits held
    obtain ⟨t, ht⟩ : ∃ t, (tryBegin s i).2 = t := ⟨_, rfl⟩
    rw [ht] at rest same
    have waits : ioArrive s i = settle { t with eng := { t.eng with held := t.eng.held ++ [i] } } := by
      rw [ioArrive, show tryBegin s i = (true, t) from Prod.ext held ht]
    exact ⟨_, run.trans (next_congr waits), congrArg (· ++ [i]) same,
      congrArg (fun w : State => { w with eng := { t.eng with held := t.eng.held ++ [i] } }) rest⟩
  · obtain ⟨again, -⟩ := ioCmd_arrives io (ensure s c op slba nlb)
    rw [run, again, ioArrive, ioArrive, once]
  · obtain ⟨t, ht⟩ : ∃ t, (tryBegin s i).2 = t := ⟨_, rfl⟩
    have fails := attempt.fails ⟨f, found, alone, outside⟩ begins
    rw [ht] at fails
    have ends : ioArrive s i = settle t := by
      rw [ioArrive, show tryBegin s i = (false, t) from Prod.ext begins ht]
    exact ⟨t, run.trans (next_congr ends), fails.completed⟩

end Sys2Proof.Arrivals

/-! Writes and Zone Appends that begin (R122, R125, R127, R128, R145). -/
namespace Sys2Proof.BlockWrites
open Sys2Proof Sys2Proof.Machine Sys2Proof.Effects Sys2Proof.Arrivals

-- ===== the blocks of a write =====

/-- The blocks of a write, each under its logical block, with the protection information that is stored. -/
def stored (n : Ns) (pi : PiArgs) (lba : Nat) (bs : List Block) : List (Nat × Block) :=
  (rangeFrom lba bs.length).zip (((List.range bs.length).zip bs).map (fun p => piStore n pi p.1 p.2))

theorem piStore_data (n : Ns) (pi : PiArgs) (i : Nat) (b : Block) : (piStore n pi i b).data = b.data := by
  unfold piStore
  split
  · rfl
  · split <;> rfl

theorem length_rangeFrom (a n : Nat) : (rangeFrom a n).length = n := by
  rw [rangeFrom, List.length_map, List.length_range]

theorem stored_fst (n : Ns) (pi : PiArgs) (lba : Nat) (bs : List Block) : (stored n pi lba bs).map Prod.fst = rangeFrom lba bs.length := by
  refine List.map_fst_zip ?_
  simp only [length_rangeFrom, List.length_map, List.length_zip, List.length_range, Nat.min_self, Nat.le_refl]

theorem stored_snd (n : Ns) (pi : PiArgs) (lba : Nat) (bs : List Block) :
    (stored n pi lba bs).map Prod.snd = ((List.range bs.length).zip bs).map (fun p => piStore n pi p.1 p.2) := by
  refine List.map_snd_zip ?_
  simp only [length_rangeFrom, List.length_map, List.length_zip, List.length_range, Nat.min_self, Nat.le_refl]

theorem numbered_snd (bs : List Block) : ((List.range bs.length).zip bs).map Prod.snd = bs := List.map_snd_zip (Nat.le_of_eq List.length_range.symm)

theorem stored_data (n : Ns) (pi : PiArgs) (lba : Nat) (bs : List Block) : (stored n pi lba bs).map (fun x => x.2.data) = bs.map Block.data := by
  calc (stored n pi lba bs).map (fun x => x.2.data) = ((stored n pi lba bs).map Prod.snd).map Block.data := by rw [List.map_map]; rfl
    _ = ((List.range bs.length).zip bs).map (fun p => (piStore n pi p.1 p.2).data) := by rw [stored_snd, List.map_map]; rfl
    _ = (((List.range bs.length).zip bs).map Prod.snd).map Block.data := by
      rw [List.map_map]
      exact List.map_congr_left fun p _ => piStore_data n pi p.1 p.2
    _ = bs.map Block.data := by rw [numbered_snd]

/-- Without PRACT the protection information is stored as it comes. -/
theorem stored_pi {n : Ns} {pi : PiArgs} (off : pi.pract = false) (type : n.piType ≠ 0) (lba : Nat) (bs : List Block) :
    (stored n pi lba bs).map Prod.snd = bs := by
  have kept (i : Nat) (b : Block) : piStore n pi i b = b := by
    unfold piStore
    rw [if_neg type, off]
    rfl
  rw [stored_snd]
  simp only [kept]
  exact numbered_snd bs

-- ===== a write that arrives =====

theorem writeOf_arrives {i : Instr} {c : Cmd} {append : Bool} {slba : Nat} {bs : List Block} {fua ordered : Bool} {dtype dspec : Nat} {pi : PiArgs}
    (h : WriteOf i c append slba bs fua ordered dtype dspec pi) (s : State) :
    exec i s = .next (ioArrive s i) ∧ tryBegin s i = tryWrite s c append slba bs fua ordered dtype dspec pi := by
  rcases h with ⟨rfl, rfl⟩ | ⟨rfl, rfl, rfl, rfl, rfl⟩ <;> exact ⟨rfl, rfl⟩

/-- A write whose arguments have been taken, in flight. -/
theorem flightOf_setArgs {s : State} {c : Cmd} {f0 : Flight} (found : flight? s c.fn c.sqid c.cid = some f0) (slba nlb : Nat) (fua ordered : Bool) (pi : PiArgs)
    (cmp : List Block) : let t := setArgs s c slba nlb fua ordered pi cmp
    flight? t c.fn c.sqid c.cid = some (flightOf t c) ∧ (flightOf t c).pi = pi ∧ (flightOf t c).seq = f0.seq ∧ (flightOf t c).nsid = f0.nsid := by
  have kept := flight?_modFlight s (flightOf s c).seq
    (g := fun f => { f with slba := slba, nlb := nlb, fua := fua, ordered := f.ordered || ordered, pi := pi, compareWith := cmp })
    (fun f => ⟨rfl, rfl, rfl⟩) c.fn c.sqid c.cid
  rw [found, flightOf_found found, Option.map_some, if_pos rfl] at kept
  have now := flightOf_found kept
  dsimp only
  rw [setArgs, flightOf_found found, now]
  exact ⟨kept, rfl, rfl, rfl⟩

theorem tryWrite_begins {s : State} {c : Cmd} {f0 : Flight} (found : flight? s c.fn c.sqid c.cid = some f0) {append : Bool} {slba : Nat} {bs : List Block}
    {fua ordered : Bool} (dtype dspec : Nat) {pi : PiArgs} {s1 : State} {f : Flight} (args : s1 = setArgs s c slba bs.length fua ordered pi [])
    (now : f = flightOf s1 c) (free : (writeHolds s1 f slba (bs.length * (nsRec s f.nsid).blk)).1 = false) :
    tryWrite s c append slba bs fua ordered dtype dspec pi = (false, beginWrite s1 f c.resv append true slba bs dtype dspec) := by
  have same := writeHolds_free free
  have ns : nsRec s1 f.nsid = nsRec s f.nsid := by rw [args]; rfl
  unfold tryWrite
  dsimp only
  rw [ensure_found found, ← args, ← now, ns]
  obtain ⟨⟨hold, t⟩, ht⟩ : ∃ p, writeHolds s1 f slba (bs.length * (nsRec s f.nsid).blk) = p := ⟨_, rfl⟩
  rw [ht] at free same ⊢
  dsimp only at free same ⊢
  rw [free, same, ← now]
  rfl

-- ===== a write that begins =====

theorem ite_second_or_first {α : Type} (p : Prop) [Decidable p] (a b : α) : ite p a b = b ∨ ite p a b = a := by
  split
  · exact .inr rfl
  · exact .inl rfl

section Begins
variable {s : State} {f : Flight} {resv append : Bool} {slba : Nat} {bs : List Block} {dtype dspec : Nat} {st : NvStatus}
  (hst : st = firstBad [fuseStatus f, writeStatus (barrierCounted s f) f resv (!append) true true slba bs.length,
    if append && slba % zoneBlocks s (nsRec s f.nsid) != 0 then .invalidField else .success])
include hst

theorem beginWrite_bad (bad : st ≠ .success) : beginWrite s f resv append true slba bs dtype dspec = completeFlight (barrierCounted s f) f st 0 0 := by
  unfold beginWrite
  dsimp only
  split
  next good => exact absurd (hst.trans good) bad
  next => rw [hst]; rfl

theorem beginWrite_conv (good : st = .success) (conv : (nsRec s f.nsid).zoned = false) {x : NvStatus}
    (hx : x = firstBad [convStatus (barrierCounted s f) f (nsRec s f.nsid) slba bs.length dtype dspec,
      if f.pi.pract then .success else piChecks (nsRec s f.nsid) f.pi 0 bs]) :
    (x ≠ .success → beginWrite s f resv append true slba bs dtype dspec = completeFlight (barrierCounted s f) f x 0 0) ∧
    (x = .success → ∃ w stage, (stage = .running ∨ stage = .ordered) ∧ (w = fixConvTag (barrierCounted s f) f ∨
        w = countWait (fixConvTag (barrierCounted s f) f) f 0 K.overlapWaits) ∧ beginWrite s f resv append true slba bs dtype dspec =
      modFlight w f.seq (fun y => { y with stage := stage, slba := slba, nlb := bs.length, blocks := stored (nsRec s f.nsid) f.pi slba bs })) := by
  refine ⟨fun bad => ?_, fun ok => ?_⟩
  · unfold beginWrite
    dsimp only
    split
    · rw [conv, if_neg Bool.false_ne_true]
      split
      next fine => exact absurd (hx.trans fine) bad
      next => rw [hx]; rfl
    next stops => exact absurd (hst.symm.trans good) stops
  · unfold beginWrite
    dsimp only
    split
    · rw [conv, if_neg Bool.false_ne_true]
      split
      · exact ⟨_, _, ite_second_or_first _ _ _, ite_second_or_first _ _ _, rfl⟩
      next stops => exact absurd (hx.symm.trans ok) stops
    next stops => exact absurd (hst.symm.trans good) stops

/-- The write in a zone, running from the logical block `lba`. -/
def running (f : Flight) (n : Ns) (lba : Nat) (bs : List Block) : Flight :=
  { f with stage := .running, slba := lba, nlb := bs.length, blocks := stored n f.pi lba bs }

theorem beginWrite_zone (good : st = .success) (zoned : (nsRec s f.nsid).zoned = true) {x : NvStatus} {lba : Nat} {t : State}
    (check : zoneCheck (barrierCounted s f) f (slba / zoneBlocks s (nsRec s f.nsid)) append slba bs.length dtype dspec = (x, lba, t)) :
    (x ≠ .success → beginWrite s f resv append true slba bs dtype dspec = completeFlight t f x 0 0) ∧
    (x = .success → ∀ y, y = (if f.pi.pract then NvStatus.success else piChecks (nsRec s f.nsid) f.pi 0 bs) →
      (y ≠ .success → beginWrite s f resv append true slba bs dtype dspec =
        completeFlight (zoneWriteFail (modFlight t f.seq (fun _ => running f (nsRec s f.nsid) lba bs)) (running f (nsRec s f.nsid) lba bs))
          (running f (nsRec s f.nsid) lba bs) y 0 0) ∧
      (y = .success → beginWrite s f resv append true slba bs dtype dspec = modFlight t f.seq (fun _ => running f (nsRec s f.nsid) lba bs))) := by
  unfold barrierCounted at check
  refine ⟨fun bad => ?_, fun ok y hy => ?_⟩
  · unfold beginWrite
    dsimp only
    split
    · rw [zoned, if_pos rfl, check]
      split
      next e => exact absurd (congrArg Prod.fst e) bad
      next e => cases e; rfl
    next stops => exact absurd (hst.symm.trans good) stops
  · subst ok
    unfold beginWrite
    dsimp only
    split
    · rw [zoned, if_pos rfl, check]
      dsimp only
      split
      next fine => exact ⟨fun bad => absurd (hy.trans fine) bad, fun _ => rfl⟩
      next stops => exact ⟨fun _ => by rw [hy]; rfl, fun fine => absurd (hy.symm.trans fine) stops⟩
    next stops => exact absurd (hst.symm.trans good) stops

end Begins

-- ===== the checks of a write in a zone (R128, R145) =====

/-- A Write that passes names the write pointer. -/
theorem zoneWriteStatus_names {s : State} {n : Ns} {z : Zone} {append : Bool} {off nlb : Nat} (h : zoneWriteStatus s n z append off nlb = .success)
    (write : append = false) : off = z.wp := by
  unfold zoneWriteStatus at h
  extract_lets st at h
  split at h
  · cases h
  · split at h
    next stops =>
      rw [h] at stops
      exact absurd stops (by decide)
    next =>
      split at h
      · cases h
      next names =>
        refine Decidable.byContradiction fun other => names ?_
        rw [write]
        exact decide_eq_true other

/-- A write that passes the zone's checks takes the write pointer, which it advances. -/
theorem zoneCheck_advances {s t : State} {f : Flight} {zone : Nat} {append : Bool} {lba nlb dtype dspec spot : Nat}
    (h : zoneCheck s f zone append lba nlb dtype dspec = (.success, spot, t)) : let z := zoneAt s (zkey f.nsid zone)
    spot = zone * zoneBlocks s (nsRec s f.nsid) + z.wp ∧ (append = false → lba - zone * zoneBlocks s (nsRec s f.nsid) = z.wp) ∧
      (zoneAt t (zkey f.nsid zone)).wp = z.wp + nlb := by
  unfold zoneCheck at h
  extract_lets n zk z zb bytes full at h
  split at h
  next named =>
    split at h
    next c s1 _ =>
      extract_lets thin s2 at h
      split at h
      next a _ =>
        extract_lets s3 s4 at h
        have advanced : (zoneAt s3 zk).wp = z.wp + nlb := by
          show (zoneAt (modZone s2 zk _) zk).wp = _
          rw [zoneAt_modZone_self]
        clear_value s3
        have changed : s4.zones = s3.zones := by
          show (ite _ _ _ : State).zones = _
          split
          · exact (zoneChanged_from ..).keeps.zones rfl
          · rfl
        clear_value s4
        obtain ⟨-, rest⟩ := Prod.mk.inj h
        obtain ⟨rfl, rfl⟩ := Prod.mk.inj rest
        refine ⟨rfl, fun off => ?_, ?_⟩
        · exact zoneWriteStatus_names named off
        · rw [zoneAt, capCheck_from.keeps.zones rfl, (keyFix_from ..).keeps.zones rfl, changed]
          exact advanced
      next => cases h
    next stops _ => exact absurd (congrArg Prod.fst h) stops
  next stops => exact absurd (congrArg Prod.fst h) stops

-- ===== an ordered command that is counted (R130) =====

theorem coveKey_ne_barrier {fn : Nat} (low : fn < 1024) (c : Nat) : coveKey c ≠ instKey K.orderedBarriers fn := by
  unfold coveKey instKey unitKey K.coveDesc K.coveDescHi K.orderedBarriers
  split <;> omega

/-- Counting an ordered command leaves the sizes of zones. -/
theorem barrierCounted_zoneBlocks {f : Flight} (low : f.fn < 1024) (s : State) (n : Ns) : zoneBlocks (barrierCounted s f) n = zoneBlocks s n := by
  have kept : coveDesc (barrierCounted s f) n.firstCove = coveDesc s n.firstCove := by
    unfold barrierCounted
    split
    · exact v_setV_ne _ _ (coveKey_ne_barrier low _)
    · rfl
  rw [zoneBlocks, kept, zoneBlocks]

theorem barrierCounted_keeps (s : State) (f : Flight) : Keeps 2 s (barrierCounted s f) := by
  unfold barrierCounted
  split
  · exact (bump32_from ..).keeps
  · rfl

theorem mem_modFlight {s : State} {x : Flight} (m : x ∈ s.flights) (g : Flight → Flight) : g x ∈ (modFlight s x.seq g).flights :=
  List.mem_map.2 ⟨x, m, if_pos rfl⟩

/-- Every command under a fetch sequence number is what it was made. -/
theorem modFlight_all {s : State} {seq : Nat} {x g : Flight} (m : g ∈ (modFlight s seq (fun _ => x)).flights) (h : g.seq = seq) : g = x := by
  obtain ⟨y, -, rfl⟩ := List.mem_map.1 m
  split at h
  next same => rw [if_pos same]
  next other => exact absurd h other

/-- A command counted as waiting is in flight under the same number. -/
theorem countWait_flight {s : State} {f x : Flight} (kind key : Nat) (m : x ∈ s.flights) : ∃ y ∈ (countWait s f kind key).flights, y.seq = x.seq := by
  unfold countWait
  split
  · exact ⟨x, m, rfl⟩
  · refine ⟨_, List.mem_map.2 ⟨x, m, rfl⟩, ?_⟩
    split <;> rfl

/-- A write in a conventional namespace that passes every check runs, or is ordered behind an earlier one. -/
theorem conv_runs {s w : State} {f : Flight} {stage : Stage} {slba : Nat} {bs : List Block} {n : Ns} {pi : PiArgs} (m : f ∈ s.flights)
    (which : stage = .running ∨ stage = .ordered)
    (hw : w = fixConvTag (barrierCounted s f) f ∨ w = countWait (fixConvTag (barrierCounted s f) f) f 0 K.overlapWaits) :
    let u := modFlight w f.seq (fun y => { y with stage := stage, slba := slba, nlb := bs.length, blocks := stored n pi slba bs })
    u.blocks = s.blocks ∧ u.zones = s.zones ∧ ∃ g ∈ u.flights, g.seq = f.seq ∧ g.slba = slba ∧ g.nlb = bs.length ∧ g.blocks = stored n pi slba bs ∧
      (g.stage = .running ∨ g.stage = .ordered) := by
  have counted := barrierCounted_keeps s f
  have fixed := (fixConvTag_from (s := barrierCounted s f) f).keeps
  have there : f ∈ (fixConvTag (barrierCounted s f) f).flights := by
    rw [fixed.flights rfl, counted.flights rfl]
    exact m
  obtain ⟨blocks, zones, y, my, seq⟩ : w.blocks = s.blocks ∧ w.zones = s.zones ∧ ∃ y ∈ w.flights, y.seq = f.seq := by
    rcases hw with rfl | rfl
    · exact ⟨(fixed.blocks rfl).trans (counted.blocks rfl), (fixed.zones rfl).trans (counted.zones rfl), f, there, rfl⟩
    · have waits := (countWait_from (s := fixConvTag (barrierCounted s f) f) f 0 K.overlapWaits).keeps
      exact ⟨(waits.blocks rfl).trans ((fixed.blocks rfl).trans (counted.blocks rfl)),
        (waits.zones rfl).trans ((fixed.zones rfl).trans (counted.zones rfl)), countWait_flight 0 K.overlapWaits there⟩
  have mine := mem_modFlight my (fun y => { y with stage := stage, slba := slba, nlb := bs.length, blocks := stored n pi slba bs })
  rw [seq] at mine
  exact ⟨blocks, zones, _, mine, rfl, rfl, rfl, rfl, which⟩

theorem completeFlight_onlyCompleted (s : State) (f : Flight) (st : NvStatus) (dw0 dw1 : Nat) : OnlyCompleted s (completeFlight s f st dw0 dw1) :=
  ⟨(completeFlight_from f st dw0 dw1).keeps, completeRetry_onlyEntries _ _ _ _ _ _⟩

/-- Settles O26: a write that nothing holds back begins with its checks; each outcome of them is one equation of `beginWrite` above. -/
theorem writesBegin : Obligations.writes_begin := by
  intro s c f0 i append slba bs fua ordered dtype dspec pi of low found s1 f n args now ns free st hst
  obtain ⟨run, attempt⟩ := writeOf_arrives of s
  obtain ⟨found1, hpi, -, nsid⟩ := flightOf_setArgs found slba bs.length fua ordered pi []
  rw [← args, ← now] at found1 hpi nsid
  obtain ⟨fn, sqid, cid, there⟩ := flight?_ids found1
  rw [ns] at free
  have n1 : n = nsRec s1 f.nsid := by rw [ns, args]; rfl
  have begins (u : State) (h : beginWrite s1 f c.resv append true slba bs dtype dspec = u) : exec i s = .next (settle u) := by
    have arrives : ioArrive s i = settle u := by
      rw [ioArrive, attempt, tryWrite_begins found dtype dspec args now free, h]
    exact run.trans (next_congr arrives)
  have data1 : s1.blocks = s.blocks ∧ s1.zones = s.zones := by rw [args]; exact ⟨rfl, rfl⟩
  obtain ⟨blocks1, zones1⟩ := data1
  rw [n1] at hst
  refine ⟨fun bad => ?_, fun good conv x hx => ?_, fun good zoned x lba s2 check => ?_⟩
  · exact ⟨_, begins _ (beginWrite_bad hst bad), completeFlight_completed _ st 0 0 fn sqid cid, completeFlight_onlyCompleted ..⟩
  · rw [n1] at conv
    rw [n1, ← hpi] at hx
    obtain ⟨stops, runs⟩ := beginWrite_conv (dtype := dtype) (dspec := dspec) hst good conv hx
    refine ⟨fun bad => ⟨_, begins _ (stops bad), completeFlight_completed _ x 0 0 fn sqid cid, completeFlight_onlyCompleted ..⟩, fun ok => ?_⟩
    obtain ⟨w, stage, which, hw, begun⟩ := runs ok
    obtain ⟨blocks, zones, g, mg, seq, slba', nlb, data, which'⟩ := conv_runs (slba := slba) (bs := bs) (n := nsRec s1 f.nsid) (pi := f.pi) there which hw
    refine ⟨_, g, begins _ begun, mg, seq, slba', nlb, ?_, ?_, fun off type => ?_, which', blocks.trans blocks1, zones.trans zones1⟩
    · rw [data, stored_fst]
    · rw [data, stored_data]
    · rw [data]
      rw [n1] at type
      rw [← hpi] at off
      exact stored_pi off type slba bs
  · have counted := barrierCounted_keeps s1 f
    have checked : s2.blocks = s.blocks := by
      have kept := (zoneCheck_from (s := barrierCounted s1 f) f (slba / zoneBlocks s1 n) append slba bs.length dtype dspec).keeps.blocks rfl
      rw [check] at kept
      exact kept.trans ((counted.blocks rfl).trans blocks1)
    have index : zoneBlocks s1 n = zoneBlocks s n := by rw [args]; rfl
    have zone : zoneAt (barrierCounted s1 f) (zkey f.nsid (slba / zoneBlocks s1 n)) = zoneAt s (zkey f.nsid (slba / zoneBlocks s n)) := by
      rw [zoneAt, counted.zones rfl, zones1, index, zoneAt]
    have record : nsRec (barrierCounted s1 f) f.nsid = n := by
      rw [nsRec, nsOf, counted.nss rfl, n1, nsRec, nsOf]
    have size : zoneBlocks (barrierCounted s1 f) n = zoneBlocks s n := (barrierCounted_zoneBlocks (fn.symm ▸ low) s1 n).trans index
    have check1 := check
    rw [n1] at zoned check1
    obtain ⟨stops, runs⟩ := beginWrite_zone (dtype := dtype) (dspec := dspec) hst good zoned check1
    refine ⟨fun bad => ⟨_, begins _ (stops bad), completeFlight_completed _ x 0 0 fn sqid cid, ?_⟩, fun ok off y hy bad => ?_, fun ok fine => ?_⟩
    · rw [(completeFlight_from ..).keeps.blocks rfl]
      exact checked
    · obtain ⟨fails, -⟩ := runs ok y (by rw [hpi, off, if_neg Bool.false_ne_true, ← n1]; exact hy)
      refine ⟨_, begins _ (fails bad), completeFlight_completed _ y 0 0 fn sqid cid, ?_⟩
      rw [(completeFlight_from ..).keeps.blocks rfl, (zoneWriteFail_from _).keeps.blocks rfl]
      exact checked
    · obtain ⟨-, goes⟩ := runs ok .success (by
        rw [hpi, ← n1]
        rcases fine with on | clean
        · rw [on]
          rfl
        · rw [clean, ite_self])
      subst ok
      obtain ⟨place, names, advanced⟩ := zoneCheck_advances check
      rw [record, size, zone] at place names
      rw [zone, index] at advanced
      rw [index] at place names
      refine ⟨_, begins _ (goes rfl), fun g mg seq => ?_, place, fun write => ?_, advanced, checked⟩
      · rw [modFlight_all mg seq]
        exact ⟨rfl, rfl, stored_fst .., stored_data ..⟩
      · have start : slba / zoneBlocks s n * zoneBlocks s n ≤ slba := Nat.div_mul_le_self ..
        have offset := names write
        omega

end Sys2Proof.BlockWrites
